-- ==== Sys2Proof/Word.lean ====
section
/-! DEFINITION. The word types of the engine: a register is 32 bits (24_register_map.md), a byte is 8. -/

namespace Sys2Proof

/-- A 32-bit register or payload word. -/
abbrev Word := BitVec 32

/-- One byte of memory. -/
abbrev Byte := BitVec 8

/-- An agent ID (00_scope.md R16): 8 bits. -/
abbrev AgentId := BitVec 8

end Sys2Proof
end

