-- ==== Sys2Proof/Syntax.lean ====
section
/-! DEFINITION. The commands of the engine, one for each row of spec/opcode_table.json, and the plain data they carry. The
operands of a command are what the outside supplies with it: the agent of an access and the value it writes, which unit or
channel is meant, and what only the physical world decides (a sample, the time of an edge, whether a check of stored or
moving data fails, whether a consumer has room). A command of an event whose condition does not hold changes nothing. -/

namespace Sys2Proof

/-- A device-time stamp: seconds, 2^-40 s, and the quality byte (03 R128, R129). -/
structure Stamp where
  sec : BitVec 48
  frac : BitVec 40
  qual : BitVec 8
  deriving DecidableEq, Repr

/-- An item of the fabric: its type, the unit code and producer stream it leaves by, its selector and sequence number, the
generation of its stream, the record header's stamp and epochs, the origin extent, and the payload with the check that
travels with it (01 R24, R45, R49 to R57, R61, R66). -/
structure Item where
  kind : Nat
  src : Nat
  stream : Nat
  sel : Nat
  seq : Nat
  gen : Nat
  stamp : Stamp
  epoch : BitVec 32
  planEpoch : BitVec 32
  /-- the event sequence number of a trigger's item -/
  evSeq : Nat
  origin : BitVec 64
  /-- its check failed (01 R56, R57) -/
  check : Bool
  crc : BitVec 32
  payload : List Word
  /-- of a tuner block: the place of sample 0's input sample in its parcel (05 R228) -/
  originOff : Nat := 0
  deriving DecidableEq, Repr

/-- An ECC outcome that a burst of an HBM access meets: which burst, what kind (corrected, uncorrectable), the cause and
the syndromes (15 R533 to R536). -/
structure HbmErr where
  burst : Nat
  kind : Nat
  cause : Nat
  syn1 : Nat
  syn2 : Nat
  deriving DecidableEq, Repr

/-- A stamp that reaches an interval channel: its input and edge, time, quality, count, whether it followed a dead time, and
the time-step count (11 R400, R411). -/
structure TdcStamp where
  input : Nat
  falling : Bool
  time : Nat
  qual : BitVec 8
  count : Nat
  dead : Bool
  steps : Nat
  deriving DecidableEq, Repr

/-- A parallel move of a DSP instruction: store or load, the data register, the pointer and its mode (13 R462). -/
structure PMove where
  st : Bool
  d : Nat
  pi : Nat
  mode : Nat
  deriving DecidableEq, Repr

/-- Where IN puts a word and OUT takes one: a data register, or X or Y memory at a pointer (13 R478). -/
inductive StrArg where
  | reg (d : Nat)
  | mem (space p mode : Nat)
  deriving DecidableEq, Repr

/-- The commands, in the table's order but for some that come later: those without operands last, and before them the
rarer ones (compiled code can build only 244 constructors that have fields; proofs know no such bound). -/
inductive Instr where
  /-- REGISTER_WRITE (00 R12): A write to a register that has no row of its own updates its fields under their access
  codes and the ownership, absent-unit and plan-field rules. `ag`: the agent that accesses; `off`: the BAR0 offset;
  `v`: the value written; `ecc`: the ECC outcome the access meets (0 good, 1 corrected or right at the retry, 2 and 3
  wrong); `good`: the outcome of a re-initialisation that a UNIT_CTRL write starts. -/
  | registerWrite (ag : AgentId) (off : Nat) (v : BitVec 32) (ecc : Nat) (good : Bool)
  /-- RC_REGISTER_READ (00 R12): A read of an RC field returns its value and clears it, keeping any increment made in
  the same cycle. `ag`: the agent that accesses; `off`: the BAR0 offset. -/
  | rcRegisterRead (ag : AgentId) (off : Nat)
  /-- LATCHED_REGISTER_READ (24 R692): A read of item 0 of a multi-word register latches its other items for
  consistent later reads. `ag`: the agent that accesses; `off`: the BAR0 offset. -/
  | latchedRegisterRead (ag : AgentId) (off : Nat)
  /-- RESET_N_RELEASE (22 R658): The rise of RESET_N samples the straps and starts the boot sequence at phase FUSE.
  `engineId`: the ENGINE_ID straps; `smbStrap`: the SMBus address straps. -/
  | resetNRelease (engineId smbStrap : Nat)
  /-- WARM_RESTART (22 R670): A keyed write to GLOBAL_RESET_CMD takes every unit to OFF, resets the flumes, culverts
  and headgates, and reloads a plan. `ag`: the agent that accesses; `v`: the value written. -/
  | warmRestart (ag : AgentId) (v : BitVec 32)
  /-- UNIT_START (24 R693): A START command in UNIT_CTRL takes a READY unit, or a GATED unit under R623, to RUNNING.
  `ag`: the agent that accesses; `u`: the unit code. -/
  | unitStart (ag : AgentId) (u : Nat)
  /-- UNIT_DRAIN (01 R38): A DRAIN command takes a RUNNING unit to DRAINING. `ag`: the agent that accesses; `u`: the
  unit code. -/
  | unitDrain (ag : AgentId) (u : Nat)
  /-- UNIT_STOP (01 R38): A STOP command takes a RUNNING unit to DRAINING, as DRAIN does. `ag`: the agent that
  accesses; `u`: the unit code. -/
  | unitStop (ag : AgentId) (u : Nat)
  /-- UNIT_ABORT (01 R39): An ABORT command discards the unit's partial output and takes a RUNNING or DRAINING unit to
  READY. `ag`: the agent that accesses; `u`: the unit code. -/
  | unitAbort (ag : AgentId) (u : Nat)
  /-- UNIT_RESTART (01 R42): A RESTART command re-initialises a unit in FAULT, which reaches READY or stays in FAULT
  and counts a further fault. `ag`: the agent that accesses; `u`: the unit code; `good`: whether the re-initialisation
  succeeds. -/
  | unitRestart (ag : AgentId) (u : Nat) (good : Bool)
  /-- UNIT_THAW (01 R38): A THAW command takes a FROZEN unit to READY. `ag`: the agent that accesses; `u`: the unit
  code. -/
  | unitThaw (ag : AgentId) (u : Nat)
  /-- DRAIN_COMPLETE (01 R38): The last work in flight of a DRAINING unit is delivered, and the unit enters READY.
  `u`: the unit code. -/
  | drainComplete (u : Nat)
  /-- DRAIN_TIMEOUT (01 R40): A unit still DRAINING after 1 ms enters FAULT with cause drain timeout. `u`: the unit
  code. -/
  | drainTimeout (u : Nat)
  /-- GATE_DELAY_EXPIRY (02 R104): A GATEABLE unit that has been READY for its gate delay is gated by PWR. `u`: the
  unit code. -/
  | gateDelayExpiry (u : Nat)
  /-- STATE_SKEW (21 R645): A unit's register epoch and data-path epoch have differed for more than 2 µs, so one
  STATE_SKEW episode is raised. `u`: the unit code; `data`: the epoch of the output now leaving; `k`: the stream. -/
  | stateSkew (u : Nat) (data : BitVec 32) (k : Nat)
  /-- RATE_LIMIT_EXPIRY (21 R638): 1 ms after a rate-limited event, the event is raised again with the count
  accumulated since. `k`: the place of the window among those that run. -/
  | rateLimitExpiry (k : Nat)
  /-- FABRIC_ITEM (02 R80): An item offered on a route is metered against its credit, then passed, held or dropped at
  each consumer under the route's loss mode. `k`: the place of the item among those offered; `room`: which consumers
  have room; `ecc`: the ECC outcome the transfer meets (0 good, 1 right at the retry, 2 wrong twice). -/
  | fabricItem (k : Nat) (room : List Bool) (ecc : Nat)
  /-- LOAD_HOST (02 R113): A LOAD_HOST command checks GLOBAL_PLAN_LEN and starts fetching the image from host memory.
  `ag`: the agent that accesses. -/
  | loadHost (ag : AgentId)
  /-- LOAD_FLASH (02 R112): A LOAD_FLASH command reads the header and then the image from the selected flash slot.
  `ag`: the agent that accesses; `slot`: the flash slot. -/
  | loadFlash (ag : AgentId) (slot : Nat)
  /-- PLAN_ABORT (02 R121): An ABORT in GLOBAL_PLAN_CMD ends a load before its swap point, or reports
  ALREADY_COMPLETE. `ag`: the agent that accesses. -/
  | planAbort (ag : AgentId)
  /-- PLAN_FETCH_DONE (02 R119): A completed fetch runs the verify and check phases, then rejects the image or starts
  draining the changed units. `bytes`: the bytes the source delivered; `good`: whether every read succeeded. -/
  | planFetchDone (bytes : List Byte) (good : Bool)
  /-- PLAN_SWAP (02 R119): Once the changed units have drained, the plan epoch increases and the new routes, ownership
  and maps take effect in one cycle. `us`: µs since the start-up, or the load, began. -/
  | planSwap (us : Nat)
  /-- PLAN_CONFIGURE_DONE (02 R119): The configure phase ends: changed units are reset, powered, given images and
  REGINIT values, and started, and the load completes. `us`: µs since the start-up, or the load, began; `bad`: the
  units whose re-initialisation fails. -/
  | planConfigureDone (us : Nat) (bad : List Nat)
  /-- OCXO_READY_CHANGE (03 R145): A change of the OCXO_READY pin updates the WARM term and restarts the warm-up timer
  on a fall. `level`: the level of the pin. -/
  | ocxoReadyChange (level : Bool)
  /-- DRIFT_GATE_END (03 R145): A 10 s drift gate ends, the drift is measured, and the drift term of WARM is updated.
  `drift`: the drift, in 0.01 ppb per 10 s. -/
  | driftGateEnd (drift : Int)
  /-- REF_IN_EDGE (03 R139): A REF_IN edge yields a phase error that drives the servo, its lock window test and its
  slew. `late`: how long after the last counted cycle, in 2^-64 s; `freqOk`: whether the frequency error lies within 1
  ppm. -/
  | refInEdge (late : Nat) (freqOk : Bool)
  /-- STEP (03 R149): The STEP command in JUMP_WAIT adds J to device time in one cycle, and the servo enters ACQUIRE.
  `ag`: the agent that accesses. -/
  | step (ag : AgentId)
  /-- SLEW (03 R150): The SLEW command in JUMP_WAIT removes J at the slew rate. `ag`: the agent that accesses. -/
  | slew (ag : AgentId)
  /-- SET (03 R152): The SET command arms a load of TIME_SET seconds and returns the servo to FREE. `ag`: the agent
  that accesses. -/
  | set (ag : AgentId)
  /-- SYNC_LOAD (03 R164): The master sends a LOAD frame that carries TIME_SET seconds and its load offset. `ag`: the
  agent that accesses. -/
  | syncLoad (ag : AgentId)
  /-- SYNC_CHECK (03 R164): The master sends a CHECK frame timed to a whole second of its device time. `ag`: the agent
  that accesses. -/
  | syncCheck (ag : AgentId)
  /-- SYNC_FRAME (03 R162): A synchronisation frame received on SYNC_IN is checked, assigned to a REF_IN edge, and
  forwarded on SYNC_OUT. `f`: the 96 bits received. -/
  | syncFrame (f : BitVec 96)
  /-- SYN_LOCK_ACQUIRED (03 R157): A powered synthesiser locks for the first time since power-up, and on SYN_0 device
  time begins. `n`: the synthesiser; `us`: µs since the start-up, or the load, began. -/
  | synLockAcquired (n us : Nat)
  /-- SYN_LOCK_LOST (03 R156): A synthesiser loses lock, and its dependent units enter FAULT, freeze, blank or hold as
  R156 states. `n`: the synthesiser. -/
  | synLockLost (n : Nat)
  /-- SYN_RELOCKED (03 R157): A synthesiser locks again, reapplies its phase-step position, and raises 0x0111. `n`:
  the synthesiser. -/
  | synRelocked (n : Nat)
  /-- SYN_PHASE_WRITE (03 R158): A write of TARGET starts, retargets or ends a glitch-free phase move. `ag`: the agent
  that accesses; `n`: the synthesiser; `v`: the value written. -/
  | synPhaseWrite (ag : AgentId) (n : Nat) (v : BitVec 32)
  /-- SYN_PHASE_STEP (03 R158): Every 16 output cycles of a move, CURRENT steps toward TARGET, and SYN_PHASE_DONE is
  raised on arrival. `n`: the synthesiser. -/
  | synPhaseStep (n : Nat)
  /-- SYSREF_FIRE (03 R160): A FIRE write in gapped mode schedules a burst of PULSES SYSREF edges. `ag`: the agent
  that accesses; `n`: the SYSREF output; `v`: the value written. -/
  | sysrefFire (ag : AgentId) (n : Nat) (v : BitVec 32)
  /-- LANE_CDR_LOCKED (04 R174): Clock recovery locks on a lane, and once every mapped lane has locked the link enters
  CODE_SYNC. `n`: the link; `lane`: the lane. -/
  | laneCdrLocked (n lane : Nat)
  /-- LANE_CODE_SYNC (04 R174): A lane reaches block or code-group sync, and once every lane has done so the link
  enters ALIGN. `n`: the link; `lane`: the lane. -/
  | laneCodeSync (n lane : Nat)
  /-- ILAS_MULTIFRAME (04 R176): The second ILAS multiframe of a lane is compared with the configuration, and a
  mismatch sends the link to ERROR. `n`: the link; `lane`: the lane; `fields`: the received fields 0 to 12; `chk`: the
  received checksum; `chkOk`: whether it is right. -/
  | ilasMultiframe (n lane : Nat) (fields : List Nat) (chk : Nat) (chkOk : Bool)
  /-- SYSREF_EDGE (04 R178): A SYSREF edge aligns the link in ALIGN or is checked against the local boundary, renewing
  the anchor. `n`: the link; `arrivals`: arrivals of the lanes in cycles; `skews`: skews of the lanes in UI. -/
  | sysrefEdge (n : Nat) (arrivals skews : List Nat)
  /-- ALIGN_SYSREF_TIMEOUT (04 R174): 100 ms in ALIGN without an aligning SYSREF edge sends the link to ERROR with
  cause SYSREF_ABSENT. `n`: the link. -/
  | alignSysrefTimeout (n : Nat)
  /-- GROUP_ALIGN_TIMEOUT (04 R181): 10 ms after the first group member passed alignment, the others enter DATA and
  ING_GROUP_PARTIAL names the missing links. `g`: the alignment group. -/
  | groupAlignTimeout (g : Nat)
  /-- ERROR_AUTO_RESTART (04 R174): 10 µs in ERROR with AUTO_RESTART set returns the link to CDR. `n`: the link. -/
  | errorAutoRestart (n : Nat)
  /-- REALIGN (04 R174): The REALIGN command ends DATA with a padded parcel and restarts bring-up from CDR. `ag`: the
  agent that accesses; `n`: the link. -/
  | realign (ag : AgentId) (n : Nat)
  /-- ING_CLEAR_COUNTS (04 R168): The CLEAR_COUNTS command zeroes every ING_COUNT item of the link. `ag`: the agent
  that accesses; `n`: the link. -/
  | ingClearCounts (ag : AgentId) (n : Nat)
  /-- LANE_CDR_UNLOCK (04 R201): A lane's clock recovery unlocks, sending the link to ERROR with cause CDR_LOST. `n`:
  the link; `lane`: the lane. -/
  | laneCdrUnlock (n lane : Nat)
  /-- SYNC_HEADER_INVALID (04 R201): An invalid sync header or character is counted and flagged, or sends the link to
  ERROR once it reaches the loss threshold. `n`: the link; `lane`: the lane; `block`: the number of the block;
  `octet`: the bits of the next input samples that an undecodable character spells. -/
  | syncHeaderInvalid (n lane block : Nat) (octet : List Word)
  /-- CODE_GROUP_SYNC_LOST (04 R201): An 8b/10b lane loses code-group sync, sending the link to ERROR with cause
  SYNC_LOST. `n`: the link; `lane`: the lane. -/
  | codeGroupSyncLost (n lane : Nat)
  /-- LINK_CRC_MISMATCH (04 R201): A CRC-12 or CRC-3 mismatch is counted and flags the parcels that hold the covered
  items. `n`: the link. -/
  | linkCrcMismatch (n : Nat)
  /-- ALIGN_LOST (04 R201): A pilot or alignment character out of place four times in a row sends the link to ERROR
  with cause ALIGN_LOST. `n`: the link. -/
  | alignLost (n : Nat)
  /-- PARCEL_FORMED (04 R195): 1,024 items complete a parcel, which receives its header and CRC and is handed to the
  fabric or dropped. `n`: the link; `raws`: the input samples or words; `took`: whether the fabric port takes a parcel
  they complete. -/
  | parcelFormed (n : Nat) (raws : List Word) (took : Bool)
  /-- ADC_DELAY_WRITE (04 R185): A write to ING_ADC_DELAY takes effect at the next parcel boundary and increases the
  link's epoch. `ag`: the agent that accesses; `n`: the link; `v`: the value written. -/
  | adcDelayWrite (ag : AgentId) (n : Nat) (v : BitVec 32)
  /-- TUNER_INPUT_PARCEL (05 R222): A tuner takes a parcel, inserting zeros for gaps and restarting on FIRST, and
  emits the output blocks it completes. `n`: the tuner. -/
  | tunerInputParcel (n : Nat)
  /-- TUN_COMMIT_NEXT_BLOCK (05 R218): A NEXT_BLOCK commit captures the staged tuner registers for the next
  output-block boundary. `ag`: the agent that accesses; `n`: the tuner; `reset`: PHASE_RESET. -/
  | tunCommitNextBlock (ag : AgentId) (n : Nat) (reset : Bool)
  /-- TUN_COMMIT_AT_TIME (05 R219): An AT_TIME commit captures the staged registers for the first aligned input sample
  at or after TUN_COMMIT_TIME. `ag`: the agent that accesses; `n`: the tuner; `reset`: PHASE_RESET. -/
  | tunCommitAtTime (ag : AgentId) (n : Nat) (reset : Bool)
  /-- TUN_COMMIT_CANCEL (05 R217): CANCEL removes a pending tuner commit. `ag`: the agent that accesses; `n`: the
  tuner. -/
  | tunCommitCancel (ag : AgentId) (n : Nat)
  /-- TUN_COMMIT_APPLY (05 R220): A pending commit takes effect at its boundary, raising 0x0302 and increasing
  RETUNE_GEN and the epoch. `n`: the tuner; `time`: device time of the next input sample in 2^-40 s. -/
  | tunCommitApply (n time : Nat)
  /-- CHZ_INPUT (05 R230): A channeliser takes an input parcel or block, computes its frames, and emits its group
  blocks. `c`: the channeliser. -/
  | chzInput (c : Nat)
  /-- CHZ_COEF_DATA_WRITE (05 R236): A write to TUN_CHZ_COEF_DATA stores a prototype tap and advances ADDR, or is
  refused while the channeliser runs. `ag`: the agent that accesses; `c`: the channeliser; `v`: the value written. -/
  | chzCoefDataWrite (ag : AgentId) (c : Nat) (v : BitVec 32)
  /-- FIR_COEF_WRITE (05 R236): A write to TUN_FIR_COEF updates the inactive bank, or is refused for the active bank
  while the tuner runs. `ag`: the agent that accesses; `n`: the tuner; `k`: the coefficient; `v`: the value written.
  -/
  | firCoefWrite (ag : AgentId) (n k : Nat) (v : BitVec 32)
  /-- SPEC_INPUT (06 R260): A spectral engine takes an input parcel or block, handling gaps and restarts and feeding
  its FFT cores. `e`: the spectral engine; `stream`: the consumer stream. -/
  | specInput (e stream : Nat)
  /-- SPECTRUM_COMPUTED (06 R241): An FFT core completes a frame, producing detector outputs, side-path data, traces
  and record contents. `e`: the spectral engine; `took0`: whether the fabric takes the frame on stream 0; `took1`: the
  same on stream 1; `coreFault`: whether the computing core meets a lasting fault. -/
  | spectrumComputed (e : Nat) (took0 took1 coreFault : Bool)
  /-- SPEC_COMMIT_NEXT_FRAME (06 R258): A NEXT_FRAME commit captures the staged spectral registers for the next frame
  start. `ag`: the agent that accesses; `e`: the spectral engine. -/
  | specCommitNextFrame (ag : AgentId) (e : Nat)
  /-- SPEC_COMMIT_AT_TIME (06 R258): An AT_TIME commit captures the staged spectral registers for the first frame
  start at or after SPEC_COMMIT_TIME. `ag`: the agent that accesses; `e`: the spectral engine. -/
  | specCommitAtTime (ag : AgentId) (e : Nat)
  /-- SPEC_COMMIT_CANCEL (06 R258): CANCEL removes a pending spectral commit. `ag`: the agent that accesses; `e`: the
  spectral engine. -/
  | specCommitCancel (ag : AgentId) (e : Nat)
  /-- TRACE_RESTART (06 R257): TRACE_RESTART ends the trace in formation at the next spectrum boundary with PARTIAL.
  `ag`: the agent that accesses; `e`: the spectral engine. -/
  | traceRestart (ag : AgentId) (e : Nat)
  /-- SPEC_COMMIT_APPLY (06 R259): An accepted set takes effect at its frame start, closing the record, raising 0x0402
  and increasing the epoch. `e`: the spectral engine; `time`: device time of the next frame start in 2^-40 s. -/
  | specCommitApply (e time : Nat)
  /-- WINDOW_GENERATION_DONE (06 R247): Generation of built-in window coefficients into the inactive bank completes,
  and the banks swap. `e`: the spectral engine. -/
  | windowGenerationDone (e : Nat)
  /-- WIN_DATA_WRITE (06 R247): A write to SPEC_WIN_DATA stores a user coefficient in the inactive bank and advances
  ADDR. `ag`: the agent that accesses; `e`: the spectral engine; `v`: the value written. -/
  | winDataWrite (ag : AgentId) (e : Nat) (v : BitVec 32)
  /-- TD_SAMPLE (07 R276): A time-domain detector takes a tuner value g, updates its state, and yields any occurrence.
  `t`: the trigger engine; `d`: the detector. -/
  | tdSample (t d : Nat)
  /-- FM_SPECTRUM (07 R282): A frequency mask tests a spectrum, updates its k-of-m history, and yields any occurrence.
  `t`: the trigger engine. -/
  | fmSpectrum (t : Nat)
  /-- DENSITY_ROWS (07 R284): The density trigger takes one spectrum's rows, updates its window sum, and yields any
  occurrence. `t`: the trigger engine. -/
  | densityRows (t : Nat)
  /-- EVT_IN_EDGE (11 R399): An edge at a TDC input is stamped or lost to dead time, queued, sent to the channels, and
  raises any EVT_IN occurrence. `i`: the input; `rising`: the direction; `t`: device time at the ball in 2^-64 s;
  `clean`: whether the levels before it lasted at least 400 ps; `room`: whether stream 0 can be drained. -/
  | evtInEdge (i : Nat) (rising : Bool) (t : Nat) (clean room : Bool)
  /-- TRIG_SW_PULSE (07 R288): A write of 1 to TRIG_SW_PULSE bit k makes an occurrence of SW_k. `ag`: the agent that
  accesses; `v`: the value written. -/
  | trigSwPulse (ag : AgentId) (v : BitVec 32)
  /-- TRIG_SW_LEVEL_WRITE (07 R288): A write to TRIG_SW_LEVEL sets levels and makes an occurrence for each bit that
  goes from 0 to 1. `ag`: the agent that accesses; `v`: the value written. -/
  | trigSwLevelWrite (ag : AgentId) (v : BitVec 32)
  /-- WEIR_OCCURRENCE (07 R295): An occurrence at a weir input is accepted or ignored and advances the weir's
  function. `w`: the weir. -/
  | weirOccurrence (w : Nat)
  /-- DELAY_LINE_OUTPUT (07 R294): An occurrence or level change leaves an input delay line after DELAY cycles. `w`:
  the weir. -/
  | delayLineOutput (w : Nat)
  /-- SEQ_WINDOW_EXPIRY (07 R297): A SEQ window closes WINDOW cycles after its latest A. `w`: the weir. -/
  | seqWindowExpiry (w : Nat)
  /-- HOLDOFF_EXPIRY (07 R299): A weir's holdoff of HOLDOFF cycles ends. `w`: the weir. -/
  | holdoffExpiry (w : Nat)
  /-- WEIR_ARM (07 R302): ARM checks the weir and arms it from the next cycle, or refuses it with 0x0505. `ag`: the
  agent that accesses; `w`: the weir. -/
  | weirArm (ag : AgentId) (w : Nat)
  /-- WEIR_DISARM (07 R302): DISARM disarms the weir in the next cycle. `ag`: the agent that accesses; `w`: the weir.
  -/
  | weirDisarm (ag : AgentId) (w : Nat)
  /-- WEIR_RESET (07 R302): RESET clears the SEQ window, the count and the holdoff without disarming. `ag`: the agent
  that accesses; `w`: the weir. -/
  | weirReset (ag : AgentId) (w : Nat)
  /-- TRIG_COMMIT_NEXT (07 R291): A NEXT commit captures and checks the staged trigger registers. `ag`: the agent that
  accesses; `t`: the trigger engine. -/
  | trigCommitNext (ag : AgentId) (t : Nat)
  /-- TRIG_COMMIT_CANCEL (07 R291): CANCEL removes a pending trigger commit. `ag`: the agent that accesses; `t`: the
  trigger engine. -/
  | trigCommitCancel (ag : AgentId) (t : Nat)
  /-- MASK_SWAP (07 R291): MASK_SWAP requests the swap of the mask banks with the commit, after checking the inactive
  bank. `ag`: the agent that accesses; `t`: the trigger engine. -/
  | maskSwap (ag : AgentId) (t : Nat)
  /-- CLEAR_HISTORY (07 R283): CLEAR_HISTORY clears every mask history and the density window. `ag`: the agent that
  accesses; `t`: the trigger engine. -/
  | clearHistory (ag : AgentId) (t : Nat)
  /-- TRIG_COMMIT_APPLY (07 R292): An accepted trigger set takes effect, restarting changed detectors, raising 0x0503
  and increasing the epoch. `t`: the trigger engine. -/
  | trigCommitApply (t : Nat)
  /-- MASK_DATA_WRITE (07 R293): A write to TRIG_MASK_DATA stores a mask word in the inactive bank, or is refused
  while a swap is pending. `ag`: the agent that accesses; `t`: the trigger engine; `v`: the value written. -/
  | maskDataWrite (ag : AgentId) (t : Nat) (v : BitVec 32)
  /-- TRIG_OUT_CLR (07 R307): A write to TRIG_OUT_CLR ends the latch of each named pin. `ag`: the agent that accesses;
  `v`: the value written. -/
  | trigOutClr (ag : AgentId) (v : BitVec 32)
  /-- ACQ_START (08 R331): START checks the acquisition set-up and begins an acquisition in WAIT_ARM or FILL, or
  refuses it. `ag`: the agent that accesses; `a`: the acquisition unit. -/
  | acqStart (ag : AgentId) (a : Nat)
  /-- ACQ_STOP (08 R327): STOP completes any segment in POST and takes the acquisition to DONE. `ag`: the agent that
  accesses; `a`: the acquisition unit. -/
  | acqStop (ag : AgentId) (a : Nat)
  /-- ACQ_ABORT (08 R328): ABORT discards the segment in formation and ends the acquisition. `ag`: the agent that
  accesses; `a`: the acquisition unit. -/
  | acqAbort (ag : AgentId) (a : Nat)
  /-- ACQ_READ (08 R333): READ checks the range and starts the readout of completed segments. `ag`: the agent that
  accesses; `a`: the acquisition unit. -/
  | acqRead (ag : AgentId) (a : Nat)
  /-- ACQ_READ_ABORT (08 R337): READ_ABORT discards the readout record in formation and records where the readout
  stopped. `ag`: the agent that accesses; `a`: the acquisition unit. -/
  | acqReadAbort (ag : AgentId) (a : Nat)
  /-- FLUSH_LIST (08 R341): FLUSH_LIST emits the held missed-trigger entries as a list record. `ag`: the agent that
  accesses; `a`: the acquisition unit. -/
  | flushList (ag : AgentId) (a : Nat)
  /-- ACQ_FIRE (08 R322): An acquisition unit takes a weir fire and applies its stop, arm and trigger roles, judging a
  trigger as accepted or missed. `a`: the acquisition unit; `stalled`: whether the unit's fabric port stalls. -/
  | acqFire (a : Nat) (stalled : Bool)
  /-- ACQ_CHUNK (08 R316): A parcel or tuner block is written into the current slot, advancing FILL to ARMED or
  completing the post-trigger samples. `a`: the acquisition unit; `k`: the source; `first`: the sample with which
  writing begins; `stored`: whether the writer could pass it to HBM; `stalled`: whether the unit's fabric port stalls;
  `errs`: the ECC outcomes that its bursts meet. -/
  | acqChunk (a k first : Nat) (stored stalled : Bool) (errs : List HbmErr)
  /-- ACQ_SEGMENT_COMPLETE (08 R317): The slot header of a completed segment is written, and the unit re-arms, waits
  for an arm, or enters DONE. `a`: the acquisition unit. -/
  | acqSegmentComplete (a : Nat)
  /-- ACQ_LIST_TIMEOUT (08 R341): 10 µs after the oldest held missed-trigger entry, a list record is emitted. `a`: the
  acquisition unit. -/
  | acqListTimeout (a : Nat)
  /-- ACQ_READOUT_RECORD (08 R334): Readout reads and checks stored chunks and emits one fragment record. `a`: the
  acquisition unit; `soft`: chunks that passed only the second check; `hard`: which of the chunks it reads failed
  both; `errs`: the ECC outcomes that its bursts meet. -/
  | acqReadoutRecord (a soft : Nat) (hard : List Nat) (errs : List HbmErr)
  /-- MASK_TEST_DONE (08 R343): The tester finishes a segment and emits its result record, counting a FAIL and
  stopping under MT_STOP. `a`: the acquisition unit; `errs`: the ECC outcomes that its bursts meet. -/
  | maskTestDone (a : Nat) (errs : List HbmErr)
  /-- ACQ_MT_DATA_WRITE (08 R342): A write to ACQ_MT_DATA stores a tolerance-mask word and advances ADDR. `ag`: the
  agent that accesses; `a`: the acquisition unit; `v`: the value written. -/
  | acqMtDataWrite (ag : AgentId) (a : Nat) (v : BitVec 32)
  /-- DENS_SPECTRUM (09 R354): A density engine takes a spectrum, computes its rows, queues it or turns it away, and
  ends a frame when due. `d`: the density engine. -/
  | densSpectrum (d : Nat)
  /-- DENS_HISTOGRAM_DONE (09 R355): The histogram stage finishes adding one spectrum's hits and takes the next queued
  spectrum. `d`: the density engine. -/
  | densHistogramDone (d : Nat)
  /-- DENS_SWEEP_DONE (09 R360): A plane sweep completes its write-back, rendering and export, and a stretched frame
  may then end. `d`: the density engine. -/
  | densSweepDone (d : Nat)
  /-- DENS_COMMIT_NEXT_FRAME (09 R369): A NEXT_FRAME commit captures the staged density registers for the next frame
  end. `ag`: the agent that accesses; `d`: the density engine; `v`: the value written. -/
  | densCommitNextFrame (ag : AgentId) (d : Nat) (v : BitVec 32)
  /-- DENS_COMMIT_CANCEL (09 R369): CANCEL removes a pending density commit. `ag`: the agent that accesses; `d`: the
  density engine. -/
  | densCommitCancel (ag : AgentId) (d : Nat)
  /-- DENS_CLEAR (09 R361): CLEAR zeroes the plane in the sweep of the ending frame. `ag`: the agent that accesses;
  `d`: the density engine; `v`: the value written. -/
  | densClear (ag : AgentId) (d : Nat) (v : BitVec 32)
  /-- DENS_SNAPSHOT (09 R357): SNAPSHOT ends the frame at the next spectrum. `ag`: the agent that accesses; `d`: the
  density engine; `v`: the value written. -/
  | densSnapshot (ag : AgentId) (d : Nat) (v : BitVec 32)
  /-- CMAP_SWAP (09 R369): CMAP_SWAP makes the written colour-map bank active from the next rendering sweep. `ag`: the
  agent that accesses; `d`: the density engine; `v`: the value written. -/
  | cmapSwap (ag : AgentId) (d : Nat) (v : BitVec 32)
  /-- DISP_UNDERRUN (10 R386): A plane pixel is due before its data arrive, so the line is finished with background
  and counted. `x`: the plane pixel that is due. -/
  | dispUnderrun (x : Nat)
  /-- FB_COMMIT (10 R381): A COMMIT in DISP_FB_COMMIT captures the staged plane registers for the next transfer. `ag`:
  the agent that accesses. -/
  | fbCommit (ag : AgentId)
  /-- FB_CANCEL (10 R381): CANCEL removes a pending frame-address capture. `ag`: the agent that accesses. -/
  | fbCancel (ag : AgentId)
  /-- MODE_COMMIT (10 R388): A NEXT_FRAME write to DISP_MODE_COMMIT captures the staged timing set, or refuses it.
  `ag`: the agent that accesses. -/
  | modeCommit (ag : AgentId)
  /-- MODE_CANCEL (10 R388): CANCEL removes a pending timing-set capture. `ag`: the agent that accesses. -/
  | modeCancel (ag : AgentId)
  /-- DISP_TRAIN (10 R392): The TRAIN command starts link training. `ag`: the agent that accesses. -/
  | dispTrain (ag : AgentId)
  /-- TRAINING_DONE (10 R390): Link training ends, entering ACTIVE and starting a blank frame, or entering FAILED.
  `good`: success; `phase`: the phase that failed; `lane`: the lane. -/
  | trainingDone (good : Bool) (phase lane : Nat)
  /-- AUX_REQUEST (10 R394): A write to DISP_AUX_CMD starts an AUX request, or is refused while BUSY. `ag`: the agent
  that accesses; `v`: the value written. -/
  | auxRequest (ag : AgentId) (v : BitVec 32)
  /-- AUX_DONE (10 R394): An AUX request ends with its reply, and AUX_DONE is set. `reply`: the reply; `data`: the
  words a read brought. -/
  | auxDone (reply : Nat) (data : List Word)
  /-- TDC_MEAS_ENABLE (11 R409): ENABLE checks a measurement channel and enables it, or refuses it with 0x0904. `ag`:
  the agent that accesses; `c`: the interval channel. -/
  | tdcMeasEnable (ag : AgentId) (c : Nat)
  /-- TDC_MEAS_DISABLE (11 R421): DISABLE discards the channel's pending starts, W reference and gate without entries.
  `ag`: the agent that accesses; `c`: the interval channel. -/
  | tdcMeasDisable (ag : AgentId) (c : Nat)
  /-- TDC_CHANNEL_STAMP (11 R411): A measurement channel takes a stamp and pairs, rejects or accepts it under its
  class, emitting entries. `c`: the interval channel; `room`: whether the output buffer has room. -/
  | tdcChannelStamp (c : Nat) (room : Bool)
  /-- TDC_TIMEOUT (11 R414): A pending start passes a + P0 unpaired and ends as TIMEOUT. `c`: the interval channel;
  `room`: whether the output buffer has room. -/
  | tdcTimeout (c : Nat) (room : Bool)
  /-- TDC_W_MISSING (11 R416): Device time passes t_last + WMAX with no accepted pulse, so MISSING is emitted and the
  channel enters SEEK. `c`: the interval channel; `room`: whether the output buffer has room. -/
  | tdcWMissing (c : Nat) (room : Bool)
  /-- TDC_GATE_END (11 R417): A class F gate ends, and its GATE entry is emitted. `c`: the interval channel; `room`:
  whether the output buffer has room. -/
  | tdcGateEnd (c : Nat) (room : Bool)
  /-- DSP_INPUT_ITEM (12 R439): An item arrives at a DSP input stream and is accepted whole, accepted as a long item,
  or lost under the loss mode. `c`: the core; `n`: the input. -/
  | dspInputItem (c n : Nat)
  /-- DSP_INTERRUPT_ENTRY (12 R448): A pending enabled source above IPL is taken: PC and STAT are saved and the vector
  is fetched. `c`: the core. -/
  | dspInterruptEntry (c : Nat)
  /-- DSP_TIMER_EXPIRY (12 R447): TIMER reaches 0, raising source 9 and reloading. `c`: the core. -/
  | dspTimerExpiry (c : Nat)
  /-- DSP_CORE_HOST_MSG (12 R447): An owner's write to DSP_CORE_HOST_MSG sets the value and makes source 10 pending.
  `ag`: the agent that accesses; `c`: the core; `v`: the value written. -/
  | dspCoreHostMsg (ag : AgentId) (c : Nat) (v : BitVec 32)
  /-- DSP_CL_START (12 R455): DSP_CL_START starts every named READY core in the same cycle and flags the others in
  CL_ERR. `ag`: the agent that accesses; `v`: the value written. -/
  | dspClStart (ag : AgentId) (v : BitVec 32)
  /-- BREAKPOINT_REACHED (12 R457): Issue reaches the enabled breakpoint address, so EXEC stops and DSP_BREAK is
  raised. `c`: the core. -/
  | breakpointReached (c : Nat)
  /-- BREAK_STEP (12 R457): STEP in DSP_CORE_BREAK issues one instruction while stopped. `ag`: the agent that
  accesses; `c`: the core; `ecc`: the ECC outcome of the memory reads (0 good, 1 corrected, 2 right at the retry, 3
  wrong twice). -/
  | breakStep (ag : AgentId) (c ecc : Nat)
  /-- BREAK_RESUME (12 R457): RESUME in DSP_CORE_BREAK resumes issue. `ag`: the agent that accesses; `c`: the core. -/
  | breakResume (ag : AgentId) (c : Nat)
  /-- DMA_START (12 R445): A DMA channel START checks its descriptor and begins a transfer, or ends with BAD_DESC.
  `c`: the core; `ch`: the DMA channel; `ecc`: the ECC outcome of the memory reads (0 good, 1 corrected, 2 right at
  the retry, 3 wrong twice). -/
  | dmaStart (c ch ecc : Nat)
  /-- DMA_ABORT (12 R446): A DMA ABORT ends the transfer with status ABORTED. `c`: the core; `ch`: the DMA channel;
  `n`: words moved before the abort; `ecc`: the ECC outcome of the memory reads (0 good, 1 corrected, 2 right at the
  retry, 3 wrong twice). -/
  | dmaAbort (c ch n ecc : Nat)
  /-- DMA_DONE (12 R446): A DMA transfer completes or ends with ERROR, raising the channel's interrupt. `c`: the core;
  `ch`: the DMA channel; `fail`: the words moved before an access failed twice; `soft`: soft retries that succeeded;
  `errs`: the ECC outcomes that its bursts meet. -/
  | dmaDone (c ch : Nat) (fail : Option Nat) (soft : Nat) (errs : List HbmErr)
  /-- BUS_READ (12 R450): A BUS read command issues a BAR0 read as the core's agent. `c`: the core. -/
  | busRead (c : Nat)
  /-- BUS_WRITE (12 R450): A BUS write command issues a BAR0 write as the core's agent, under ownership rules. `c`:
  the core; `ecc`: the ECC outcome the access meets (0 good, 1 corrected or right at the retry, 2 and 3 wrong);
  `good`: as in REGISTER_WRITE. -/
  | busWrite (c ecc : Nat) (good : Bool)
  /-- BUS_ACCESS_DONE (12 R450): A BUS access completes or is refused, releasing a stalled read. `c`: the core. -/
  | busAccessDone (c : Nat)
  /-- RESERVED_ENCODING (13 R459): A reserved encoding reaches issue and puts the core in FAULT with cause ILLEGAL.
  `c`: the core. -/
  | reservedEncoding (c : Nat)
  /-- NOP (13 R464): NOP does nothing for one cycle. `c`: the core; `ecc`: the outcome of its memory reads (0 good, 1
  corrected, 2 right at the retry, 3 wrong twice). -/
  | dspNop (c ecc : Nat)
  /-- HALT (12 R452): HALT stops issue and raises DSP_HALTED while the unit stays RUNNING. `c`: the core; `ecc`: the
  outcome of its memory reads (0 good, 1 corrected, 2 right at the retry, 3 wrong twice). -/
  | dspHalt (c ecc : Nat)
  /-- RET (13 R464): RET pops the return stack into PC. `c`: the core; `ecc`: the outcome of its memory reads (0 good,
  1 corrected, 2 right at the retry, 3 wrong twice). -/
  | dspRet (c ecc : Nat)
  /-- RETI (13 R464): RETI restores PC and STAT from the save pair of the current level. `c`: the core; `ecc`: the
  outcome of its memory reads (0 good, 1 corrected, 2 right at the retry, 3 wrong twice). -/
  | dspReti (c ecc : Nat)
  /-- LEAVE (13 R464): LEAVE pops the innermost loop-stack entry. `c`: the core; `ecc`: the outcome of its memory
  reads (0 good, 1 corrected, 2 right at the retry, 3 wrong twice). -/
  | dspLeave (c ecc : Nat)
  /-- WAIT (13 R468): WAIT stops issue until an enabled source is pending or the unit drains. `c`: the core; `ecc`:
  the outcome of its memory reads (0 good, 1 corrected, 2 right at the retry, 3 wrong twice). -/
  | dspWait (c ecc : Nat)
  /-- TFLG (13 R465): TFLG clears, sets or pulses a trigger flag, making an occurrence on a rise from 0. `c`: the
  core; `f`: flag; `o`: what is done to it; `ecc`: the outcome of its memory reads (0 good, 1 corrected, 2 right at
  the retry, 3 wrong twice). -/
  | dspTflg (c f o ecc : Nat)
  /-- BRI (13 R464): BRI branches to the address in a P register when its condition holds. `c`: the core; `cc`:
  condition; `p`: pointer; `ecc`: the outcome of its memory reads (0 good, 1 corrected, 2 right at the retry, 3 wrong
  twice). -/
  | dspBri (c cc p ecc : Nat)
  /-- BR (13 R466): BR branches to an absolute target when its condition holds. `c`: the core; `cc`: condition; `t`:
  target; `ecc`: the outcome of its memory reads (0 good, 1 corrected, 2 right at the retry, 3 wrong twice). -/
  | dspBr (c cc t ecc : Nat)
  /-- CALL (13 R466): CALL pushes the return address and branches when its condition holds. `c`: the core; `cc`:
  condition; `t`: target; `ecc`: the outcome of its memory reads (0 good, 1 corrected, 2 right at the retry, 3 wrong
  twice). -/
  | dspCall (c cc t ecc : Nat)
  /-- LOOP (12 R434): LOOP pushes a loop-stack entry and runs its body count times. `c`: the core; `reg`: whether the
  count is in a register; `k`: count; `len`: instructions of the body; `ecc`: the outcome of its memory reads (0 good,
  1 corrected, 2 right at the retry, 3 wrong twice). -/
  | dspLoop (c : Nat) (reg : Bool) (k len ecc : Nat)
  /-- REP (12 R435): REP runs the next instruction count times, uninterruptibly. `c`: the core; `reg`: whether the
  count is in a register; `k`: count; `ecc`: the outcome of its memory reads (0 good, 1 corrected, 2 right at the
  retry, 3 wrong twice). -/
  | dspRep (c : Nat) (reg : Bool) (k ecc : Nat)
  /-- LDI (13 R469): LDI loads a 16-bit immediate into a D, P, M or L register. `c`: the core; `file`: register file;
  `h`: the upper half; `r`: register; `imm`: immediate; `ecc`: the outcome of its memory reads (0 good, 1 corrected, 2
  right at the retry, 3 wrong twice). -/
  | dspLdi (c file : Nat) (h : Bool) (r imm ecc : Nat)
  /-- ADD (13 R470): ADD adds two D registers modulo 2³². `c`: the core; `d`: destination field; `a`: first source;
  `b`: second source; `ecc`: the outcome of its memory reads (0 good, 1 corrected, 2 right at the retry, 3 wrong
  twice). -/
  | dspAdd (c d a b ecc : Nat)
  /-- SUB (13 R470): SUB subtracts two D registers modulo 2³². `c`: the core; `d`: destination field; `a`: first
  source; `b`: second source; `ecc`: the outcome of its memory reads (0 good, 1 corrected, 2 right at the retry, 3
  wrong twice). -/
  | dspSub (c d a b ecc : Nat)
  /-- ADDS (13 R470): ADDS adds two D registers with saturation. `c`: the core; `d`: destination field; `a`: first
  source; `b`: second source; `ecc`: the outcome of its memory reads (0 good, 1 corrected, 2 right at the retry, 3
  wrong twice). -/
  | dspAdds (c d a b ecc : Nat)
  /-- SUBS (13 R470): SUBS subtracts two D registers with saturation. `c`: the core; `d`: destination field; `a`:
  first source; `b`: second source; `ecc`: the outcome of its memory reads (0 good, 1 corrected, 2 right at the retry,
  3 wrong twice). -/
  | dspSubs (c d a b ecc : Nat)
  /-- AND (13 R470): AND forms the bitwise AND of two D registers. `c`: the core; `d`: destination field; `a`: first
  source; `b`: second source; `ecc`: the outcome of its memory reads (0 good, 1 corrected, 2 right at the retry, 3
  wrong twice). -/
  | dspAnd (c d a b ecc : Nat)
  /-- OR (13 R470): OR forms the bitwise OR of two D registers. `c`: the core; `d`: destination field; `a`: first
  source; `b`: second source; `ecc`: the outcome of its memory reads (0 good, 1 corrected, 2 right at the retry, 3
  wrong twice). -/
  | dspOr (c d a b ecc : Nat)
  /-- XOR (13 R470): XOR forms the bitwise exclusive OR of two D registers. `c`: the core; `d`: destination field;
  `a`: first source; `b`: second source; `ecc`: the outcome of its memory reads (0 good, 1 corrected, 2 right at the
  retry, 3 wrong twice). -/
  | dspXor (c d a b ecc : Nat)
  /-- NOT (13 R470): NOT complements a D register. `c`: the core; `d`: destination field; `a`: first source; `ecc`:
  the outcome of its memory reads (0 good, 1 corrected, 2 right at the retry, 3 wrong twice). -/
  | dspNot (c d a ecc : Nat)
  /-- NEG (13 R470): NEG negates a D register with saturation. `c`: the core; `d`: destination field; `a`: first
  source; `ecc`: the outcome of its memory reads (0 good, 1 corrected, 2 right at the retry, 3 wrong twice). -/
  | dspNeg (c d a ecc : Nat)
  /-- ABS (13 R470): ABS takes the saturated absolute value of a D register. `c`: the core; `d`: destination field;
  `a`: first source; `ecc`: the outcome of its memory reads (0 good, 1 corrected, 2 right at the retry, 3 wrong
  twice). -/
  | dspAbs (c d a ecc : Nat)
  /-- CMP (13 R470): CMP sets flags from the difference of two D registers. `c`: the core; `a`: first source; `b`:
  second source; `ecc`: the outcome of its memory reads (0 good, 1 corrected, 2 right at the retry, 3 wrong twice). -/
  | dspCmp (c a b ecc : Nat)
  /-- ASL (13 R470): ASL shifts a D register left. `c`: the core; `d`: destination field; `a`: first source; `sh`:
  shift; `ecc`: the outcome of its memory reads (0 good, 1 corrected, 2 right at the retry, 3 wrong twice). -/
  | dspAsl (c d a sh ecc : Nat)
  /-- ASR (13 R470): ASR shifts a D register right arithmetically. `c`: the core; `d`: destination field; `a`: first
  source; `sh`: shift; `ecc`: the outcome of its memory reads (0 good, 1 corrected, 2 right at the retry, 3 wrong
  twice). -/
  | dspAsr (c d a sh ecc : Nat)
  /-- LSR (13 R470): LSR shifts a D register right logically. `c`: the core; `d`: destination field; `a`: first
  source; `sh`: shift; `ecc`: the outcome of its memory reads (0 good, 1 corrected, 2 right at the retry, 3 wrong
  twice). -/
  | dspLsr (c d a sh ecc : Nat)
  /-- MIN (13 R470): MIN takes the signed minimum of two D registers. `c`: the core; `d`: destination field; `a`:
  first source; `b`: second source; `ecc`: the outcome of its memory reads (0 good, 1 corrected, 2 right at the retry,
  3 wrong twice). -/
  | dspMin (c d a b ecc : Nat)
  /-- MAX (13 R470): MAX takes the signed maximum of two D registers. `c`: the core; `d`: destination field; `a`:
  first source; `b`: second source; `ecc`: the outcome of its memory reads (0 good, 1 corrected, 2 right at the retry,
  3 wrong twice). -/
  | dspMax (c d a b ecc : Nat)
  /-- ADD2 (13 R470): ADD2 adds two D registers per 16-bit lane. `c`: the core; `d`: destination field; `a`: first
  source; `b`: second source; `ecc`: the outcome of its memory reads (0 good, 1 corrected, 2 right at the retry, 3
  wrong twice). -/
  | dspAdd2 (c d a b ecc : Nat)
  /-- SUB2 (13 R470): SUB2 subtracts two D registers per 16-bit lane. `c`: the core; `d`: destination field; `a`:
  first source; `b`: second source; `ecc`: the outcome of its memory reads (0 good, 1 corrected, 2 right at the retry,
  3 wrong twice). -/
  | dspSub2 (c d a b ecc : Nat)
  /-- ADD2H (13 R470): ADD2H adds per lane and halves. `c`: the core; `d`: destination field; `a`: first source; `b`:
  second source; `ecc`: the outcome of its memory reads (0 good, 1 corrected, 2 right at the retry, 3 wrong twice). -/
  | dspAdd2h (c d a b ecc : Nat)
  /-- SUB2H (13 R470): SUB2H subtracts per lane and halves. `c`: the core; `d`: destination field; `a`: first source;
  `b`: second source; `ecc`: the outcome of its memory reads (0 good, 1 corrected, 2 right at the retry, 3 wrong
  twice). -/
  | dspSub2h (c d a b ecc : Nat)
  /-- ADDI (13 R470): ADDI adds a signed immediate to a D register. `c`: the core; `d`: destination field; `a`: first
  source; `imm`: 9-bit immediate; `ecc`: the outcome of its memory reads (0 good, 1 corrected, 2 right at the retry, 3
  wrong twice). -/
  | dspAddi (c d a imm ecc : Nat)
  /-- CMPI (13 R470): CMPI sets flags from a D register minus an immediate. `c`: the core; `a`: first source; `imm`:
  9-bit immediate; `ecc`: the outcome of its memory reads (0 good, 1 corrected, 2 right at the retry, 3 wrong twice).
  -/
  | dspCmpi (c a imm ecc : Nat)
  /-- BFLY (13 R470): BFLY forms the saturated lane sums and differences of two D registers. `c`: the core; `d`:
  destination field; `e`: second destination; `a`: first source; `b`: second source; `ecc`: the outcome of its memory
  reads (0 good, 1 corrected, 2 right at the retry, 3 wrong twice). -/
  | dspBfly (c d e a b ecc : Nat)
  /-- BFLYH (13 R470): BFLYH forms the halved lane sums and differences of two D registers. `c`: the core; `d`:
  destination field; `e`: second destination; `a`: first source; `b`: second source; `ecc`: the outcome of its memory
  reads (0 good, 1 corrected, 2 right at the retry, 3 wrong twice). -/
  | dspBflyh (c d e a b ecc : Nat)
  /-- CLR (13 R471): CLR zeroes an accumulator. `c`: the core; `k`: accumulator; `j`: second accumulator; `a`: first
  source; `b`: second source; `sh`: shift; `ecc`: the outcome of its memory reads (0 good, 1 corrected, 2 right at the
  retry, 3 wrong twice). -/
  | dspClr (c k j a b sh ecc : Nat)
  /-- ADDA (13 R471): ADDA adds one accumulator to another. `c`: the core; `k`: accumulator; `j`: second accumulator;
  `a`: first source; `b`: second source; `sh`: shift; `ecc`: the outcome of its memory reads (0 good, 1 corrected, 2
  right at the retry, 3 wrong twice). -/
  | dspAdda (c k j a b sh ecc : Nat)
  /-- SUBA (13 R471): SUBA subtracts one accumulator from another. `c`: the core; `k`: accumulator; `j`: second
  accumulator; `a`: first source; `b`: second source; `sh`: shift; `ecc`: the outcome of its memory reads (0 good, 1
  corrected, 2 right at the retry, 3 wrong twice). -/
  | dspSuba (c k j a b sh ecc : Nat)
  /-- TFRA (13 R471): TFRA copies one accumulator into another. `c`: the core; `k`: accumulator; `j`: second
  accumulator; `a`: first source; `b`: second source; `sh`: shift; `ecc`: the outcome of its memory reads (0 good, 1
  corrected, 2 right at the retry, 3 wrong twice). -/
  | dspTfra (c k j a b sh ecc : Nat)
  /-- NEGA (13 R471): NEGA negates an accumulator. `c`: the core; `k`: accumulator; `j`: second accumulator; `a`:
  first source; `b`: second source; `sh`: shift; `ecc`: the outcome of its memory reads (0 good, 1 corrected, 2 right
  at the retry, 3 wrong twice). -/
  | dspNega (c k j a b sh ecc : Nat)
  /-- ABSA (13 R471): ABSA takes the absolute value of an accumulator. `c`: the core; `k`: accumulator; `j`: second
  accumulator; `a`: first source; `b`: second source; `sh`: shift; `ecc`: the outcome of its memory reads (0 good, 1
  corrected, 2 right at the retry, 3 wrong twice). -/
  | dspAbsa (c k j a b sh ecc : Nat)
  /-- ASLA (13 R471): ASLA shifts an accumulator left. `c`: the core; `k`: accumulator; `j`: second accumulator; `a`:
  first source; `b`: second source; `sh`: shift; `ecc`: the outcome of its memory reads (0 good, 1 corrected, 2 right
  at the retry, 3 wrong twice). -/
  | dspAsla (c k j a b sh ecc : Nat)
  /-- ASRA (13 R471): ASRA shifts an accumulator right arithmetically. `c`: the core; `k`: accumulator; `j`: second
  accumulator; `a`: first source; `b`: second source; `sh`: shift; `ecc`: the outcome of its memory reads (0 good, 1
  corrected, 2 right at the retry, 3 wrong twice). -/
  | dspAsra (c k j a b sh ecc : Nat)
  /-- ADDD (13 R471): ADDD adds a D register, aligned high, to an accumulator. `c`: the core; `k`: accumulator; `j`:
  second accumulator; `a`: first source; `b`: second source; `sh`: shift; `ecc`: the outcome of its memory reads (0
  good, 1 corrected, 2 right at the retry, 3 wrong twice). -/
  | dspAddd (c k j a b sh ecc : Nat)
  /-- SUBD (13 R471): SUBD subtracts a D register, aligned high, from an accumulator. `c`: the core; `k`: accumulator;
  `j`: second accumulator; `a`: first source; `b`: second source; `sh`: shift; `ecc`: the outcome of its memory reads
  (0 good, 1 corrected, 2 right at the retry, 3 wrong twice). -/
  | dspSubd (c k j a b sh ecc : Nat)
  /-- SATA (13 R471): SATA saturates an accumulator to 64 bits. `c`: the core; `k`: accumulator; `j`: second
  accumulator; `a`: first source; `b`: second source; `sh`: shift; `ecc`: the outcome of its memory reads (0 good, 1
  corrected, 2 right at the retry, 3 wrong twice). -/
  | dspSata (c k j a b sh ecc : Nat)
  /-- CMPA (13 R471): CMPA sets flags from the difference of two accumulators. `c`: the core; `k`: accumulator; `j`:
  second accumulator; `a`: first source; `b`: second source; `sh`: shift; `ecc`: the outcome of its memory reads (0
  good, 1 corrected, 2 right at the retry, 3 wrong twice). -/
  | dspCmpa (c k j a b sh ecc : Nat)
  /-- MPYI (13 R471): MPYI writes the integer product of two D registers to an accumulator. `c`: the core; `k`:
  accumulator; `j`: second accumulator; `a`: first source; `b`: second source; `sh`: shift; `ecc`: the outcome of its
  memory reads (0 good, 1 corrected, 2 right at the retry, 3 wrong twice). -/
  | dspMpyi (c k j a b sh ecc : Nat)
  /-- MACI (13 R471): MACI adds the integer product of two D registers to an accumulator. `c`: the core; `k`:
  accumulator; `j`: second accumulator; `a`: first source; `b`: second source; `sh`: shift; `ecc`: the outcome of its
  memory reads (0 good, 1 corrected, 2 right at the retry, 3 wrong twice). -/
  | dspMaci (c k j a b sh ecc : Nat)
  /-- MAC (13 R472): MAC adds a fractional 32 × 32 product, with X and Y moves. `c`: the core; `k`: accumulator; `a`:
  first source; `b`: second source; `mx`: parallel move in X; `my`: parallel move in Y; `ecc`: the outcome of its
  memory reads (0 good, 1 corrected, 2 right at the retry, 3 wrong twice). -/
  | dspMac (c k a b : Nat) (mx my : Option PMove) (ecc : Nat)
  /-- MSU (13 R472): MSU subtracts a fractional 32 × 32 product, with X and Y moves. `c`: the core; `k`: accumulator;
  `a`: first source; `b`: second source; `mx`: parallel move in X; `my`: parallel move in Y; `ecc`: the outcome of its
  memory reads (0 good, 1 corrected, 2 right at the retry, 3 wrong twice). -/
  | dspMsu (c k a b : Nat) (mx my : Option PMove) (ecc : Nat)
  /-- MPY (13 R472): MPY writes a fractional 32 × 32 product, with X and Y moves. `c`: the core; `k`: accumulator;
  `a`: first source; `b`: second source; `mx`: parallel move in X; `my`: parallel move in Y; `ecc`: the outcome of its
  memory reads (0 good, 1 corrected, 2 right at the retry, 3 wrong twice). -/
  | dspMpy (c k a b : Nat) (mx my : Option PMove) (ecc : Nat)
  /-- MOVE (13 R472): MOVE performs only the parallel X and Y moves. `c`: the core; `mx`: parallel move in X; `my`:
  parallel move in Y; `ecc`: the outcome of its memory reads (0 good, 1 corrected, 2 right at the retry, 3 wrong
  twice). -/
  | dspMove (c : Nat) (mx my : Option PMove) (ecc : Nat)
  /-- QMAC (13 R473): QMAC adds four 16 × 16 products into an accumulator pair. `c`: the core; `q`: accumulator pair;
  `a`: first source; `b`: second source; `u`: third source; `sp`: memory space; `mv`: parallel move; `ecc`: the
  outcome of its memory reads (0 good, 1 corrected, 2 right at the retry, 3 wrong twice). -/
  | dspQmac (c q a b u sp : Nat) (mv : Option PMove) (ecc : Nat)
  /-- QMSU (13 R473): QMSU subtracts four 16 × 16 products from an accumulator pair. `c`: the core; `q`: accumulator
  pair; `a`: first source; `b`: second source; `u`: third source; `sp`: memory space; `mv`: parallel move; `ecc`: the
  outcome of its memory reads (0 good, 1 corrected, 2 right at the retry, 3 wrong twice). -/
  | dspQmsu (c q a b u sp : Nat) (mv : Option PMove) (ecc : Nat)
  /-- QMPY (13 R473): QMPY writes four 16 × 16 products to an accumulator pair. `c`: the core; `q`: accumulator pair;
  `a`: first source; `b`: second source; `u`: third source; `sp`: memory space; `mv`: parallel move; `ecc`: the
  outcome of its memory reads (0 good, 1 corrected, 2 right at the retry, 3 wrong twice). -/
  | dspQmpy (c q a b u sp : Nat) (mv : Option PMove) (ecc : Nat)
  /-- CMAC (13 R474): CMAC adds a complex Q15 product into an accumulator pair. `c`: the core; `q`: accumulator pair;
  `a`: first source; `b`: second source; `mx`: parallel move in X; `my`: parallel move in Y; `ecc`: the outcome of its
  memory reads (0 good, 1 corrected, 2 right at the retry, 3 wrong twice). -/
  | dspCmac (c q a b : Nat) (mx my : Option PMove) (ecc : Nat)
  /-- CMSU (13 R474): CMSU subtracts a complex Q15 product from an accumulator pair. `c`: the core; `q`: accumulator
  pair; `a`: first source; `b`: second source; `mx`: parallel move in X; `my`: parallel move in Y; `ecc`: the outcome
  of its memory reads (0 good, 1 corrected, 2 right at the retry, 3 wrong twice). -/
  | dspCmsu (c q a b : Nat) (mx my : Option PMove) (ecc : Nat)
  /-- CMPY (13 R474): CMPY writes a complex Q15 product to an accumulator pair. `c`: the core; `q`: accumulator pair;
  `a`: first source; `b`: second source; `mx`: parallel move in X; `my`: parallel move in Y; `ecc`: the outcome of its
  memory reads (0 good, 1 corrected, 2 right at the retry, 3 wrong twice). -/
  | dspCmpy (c q a b : Nat) (mx my : Option PMove) (ecc : Nat)
  /-- CMACJ (13 R474): CMACJ adds a complex product with the second operand conjugated. `c`: the core; `q`:
  accumulator pair; `a`: first source; `b`: second source; `mx`: parallel move in X; `my`: parallel move in Y; `ecc`:
  the outcome of its memory reads (0 good, 1 corrected, 2 right at the retry, 3 wrong twice). -/
  | dspCmacj (c q a b : Nat) (mx my : Option PMove) (ecc : Nat)
  /-- CMPYJ (13 R474): CMPYJ writes a complex product with the second operand conjugated. `c`: the core; `q`:
  accumulator pair; `a`: first source; `b`: second source; `mx`: parallel move in X; `my`: parallel move in Y; `ecc`:
  the outcome of its memory reads (0 good, 1 corrected, 2 right at the retry, 3 wrong twice). -/
  | dspCmpyj (c q a b : Nat) (mx my : Option PMove) (ecc : Nat)
  /-- TAP (13 R475): TAP performs a filter tap and moves the sample along the delay line. `c`: the core; `dir`:
  direction bit; `sub`: subtract bit; `k`: accumulator; `pc`: coefficient pointer; `cm`: its mode; `pr`: read pointer;
  `rm`: its mode; `pw`: write pointer; `wm`: its mode; `ecc`: the outcome of its memory reads (0 good, 1 corrected, 2
  right at the retry, 3 wrong twice). -/
  | dspTap (c : Nat) (dir sub : Bool) (k pc cm pr rm pw wm ecc : Nat)
  /-- LD (13 R476): LD loads a register from X, Y or P memory. `c`: the core; `sp`: memory space; `r`: register; `p`:
  pointer; `md`: address mode; `imm`: 9-bit immediate; `ecc`: the outcome of its memory reads (0 good, 1 corrected, 2
  right at the retry, 3 wrong twice). -/
  | dspLd (c sp r p md imm ecc : Nat)
  /-- ST (13 R476): ST stores a register to X or Y memory. `c`: the core; `sp`: memory space; `r`: register; `p`:
  pointer; `md`: address mode; `imm`: 9-bit immediate; `ecc`: the outcome of its memory reads (0 good, 1 corrected, 2
  right at the retry, 3 wrong twice). -/
  | dspSt (c sp r p md imm ecc : Nat)
  /-- MOV (13 R477): MOV copies one register to another through the index map of R460. `c`: the core; `dst`:
  destination; `src`: source; `ecc`: the outcome of its memory reads (0 good, 1 corrected, 2 right at the retry, 3
  wrong twice). -/
  | dspMov (c dst src ecc : Nat)
  /-- WRS (13 R477): WRS writes a system register from a D register. `c`: the core; `sys`: system register; `d`:
  destination field; `ecc`: the outcome of its memory reads (0 good, 1 corrected, 2 right at the retry, 3 wrong
  twice). -/
  | dspWrs (c sys d ecc : Nat)
  /-- RDS (13 R477): RDS reads a system register into a D register. `c`: the core; `d`: destination field; `sys`:
  system register; `ecc`: the outcome of its memory reads (0 good, 1 corrected, 2 right at the retry, 3 wrong twice).
  -/
  | dspRds (c d sys ecc : Nat)
  /-- PACK (13 R477): PACK packs the 16-bit moves of an accumulator pair into a D register. `c`: the core; `d`:
  destination field; `q`: accumulator pair; `ecc`: the outcome of its memory reads (0 good, 1 corrected, 2 right at
  the retry, 3 wrong twice). -/
  | dspPack (c d q ecc : Nat)
  /-- MOV16 (13 R477): MOV16 moves the 16-bit scaled value of an accumulator into a D register. `c`: the core; `d`:
  destination field; `k`: accumulator; `ecc`: the outcome of its memory reads (0 good, 1 corrected, 2 right at the
  retry, 3 wrong twice). -/
  | dspMov16 (c d k ecc : Nat)
  /-- IN (13 R478): IN reads the next input-stream word into a register or memory, stalling or ending the run when the
  FIFO is empty. `c`: the core; `dst`: destination; `k`: the stream; `ecc`: the outcome of its memory reads (0 good, 1
  corrected, 2 right at the retry, 3 wrong twice). -/
  | dspIn (c : Nat) (dst : StrArg) (k ecc : Nat)
  /-- OUT (13 R478): OUT appends a register or memory word to an output item. `c`: the core; `src`: source; `k`: the
  stream; `ecc`: the outcome of its memory reads (0 good, 1 corrected, 2 right at the retry, 3 wrong twice). -/
  | dspOut (c : Nat) (src : StrArg) (k ecc : Nat)
  /-- CLOSE (12 R442): CLOSE ends the open output item, prepends its header, and passes it to the fabric. `c`: the
  core; `k`: the stream; `ecc`: the outcome of its memory reads (0 good, 1 corrected, 2 right at the retry, 3 wrong
  twice). -/
  | dspClose (c k ecc : Nat)
  /-- SKIPI (13 R478): SKIPI discards the rest of the current input item. `c`: the core; `k`: the stream; `ecc`: the
  outcome of its memory reads (0 good, 1 corrected, 2 right at the retry, 3 wrong twice). -/
  | dspSkipi (c k ecc : Nat)
  /-- CMP_ITEM (14 R495): A STREAM-mode engine takes an input item as an item frame, checks it, and closes blocks as
  they fill. `n`: the compression engine; `room`: whether the output buffer has room. -/
  | cmpItem (n : Nat) (room : Bool)
  /-- CMP_STREAM_CFG_WRITE (14 R499): A write to CMP_STREAM_CFG takes effect from the next block, or is discarded when
  out of range. `ag`: the agent that accesses; `n`: the compression engine; `v`: the value written. -/
  | cmpStreamCfgWrite (ag : AgentId) (n : Nat) (v : BitVec 32)
  /-- SUBMIT (14 R502): SUBMIT copies the staging descriptor into the job queue, or is refused. `ag`: the agent that
  accesses; `n`: the compression engine. -/
  | submit (ag : AgentId) (n : Nat)
  /-- CMP_JOB_ABORT (14 R506): ABORT ends the running job with ABORTED, or reports ALREADY_COMPLETE. `ag`: the agent
  that accesses; `n`: the compression engine. -/
  | cmpJobAbort (ag : AgentId) (n : Nat)
  /-- CMP_JOB_FLUSH (14 R506): FLUSH ends every queued job that has not started with ABORTED. `ag`: the agent that
  accesses; `n`: the compression engine. -/
  | cmpJobFlush (ag : AgentId) (n : Nat)
  /-- CMP_JOB_START (14 R502): The engine starts the next queued job and checks its descriptor, ending it with
  BAD_DESC on failure. `n`: the compression engine. -/
  | cmpJobStart (n : Nat)
  /-- CMP_JOB_DONE (14 R505): A job ends, writing its result entry and raising 0x0B02. `n`: the compression engine;
  `fail`: the blocks done before an access failed twice; `soft`: soft retries that succeeded; `errs`: the ECC outcomes
  that its bursts meet. -/
  | cmpJobDone (n : Nat) (fail : Option Nat) (soft : Nat) (errs : List HbmErr)
  /-- HBM_TRAINED (15 R519): Stack training ends with lane repair and fencing applied, releasing the ports and raising
  0x0C01. `k`: the stack; `repairs`: the lanes repaired; `fences`: the PCs fenced; `us`: µs since the start-up, or the
  load, began. -/
  | hbmTrained (k : Nat) (repairs : List (Nat × Nat × Nat)) (fences : List Nat) (us : Nat)
  /-- HBM_FREQ_REQ (15 R524): A REQ in HBM_FREQ checks and starts a data-rate change, holds it, or refuses it. `ag`:
  the agent that accesses; `v`: the value written. -/
  | hbmFreqReq (ag : AgentId) (v : BitVec 32)
  /-- HBM_MEMORY_ITEM (15 R514): A memory request is checked against regions and performed, with any ECC retry and a
  freeze on a lasting error. `slice`: the slice port; `stream`: its consumer stream; `errs`: the ECC outcomes that its
  bursts meet; `acts`: the rows its banks activate. -/
  | hbmMemoryItem (slice stream : Nat) (errs : List HbmErr) (acts : List (Nat × Nat × Nat))
  /-- HBM_STACK_THAW (15 R537): THAW in HBM_STACK_CMD thaws the stack's PCs and retrains the stack. `ag`: the agent
  that accesses; `k`: the stack. -/
  | hbmStackThaw (ag : AgentId) (k : Nat)
  /-- RD_CFG_WRITE (15 R531): A write to HBM_RD_CFG takes effect at the next refresh window and empties the tables.
  `ag`: the agent that accesses; `v`: the value written. -/
  | rdCfgWrite (ag : AgentId) (v : BitVec 32)
  /-- WINDOW_ACCESS (16 R543): A BAR2 access reaches HBM through the function's window, or is aborted or discarded.
  `fn`: the function; `write`: a write; `b`: the byte of BAR2; `n`: bytes a read asks for; `data`: the bytes of a
  write; `errs`: the ECC outcomes that its bursts meet. -/
  | windowAccess (fn : Nat) (write : Bool) (b n : Nat) (data : List Byte) (errs : List HbmErr)
  /-- HOST_ITEM (16 R548): An item at a host port is steered to its flume and admitted, spilled, dropped or held. `h`:
  the consumer port; `k`: the stream, which names the flume. -/
  | hostItem (h k : Nat)
  /-- FREE_TAIL_WRITE (16 R557): A write of TAIL posts free-ring buffers, or is refused when it overruns the ring.
  `ag`: the agent that accesses; `f`: the flume; `tail`: the tail. -/
  | freeTailWrite (ag : AgentId) (f tail : Nat)
  /-- FREE_ENTRY_FETCHED (16 R557): A free-ring entry read completes, and the buffer becomes current or is completed
  with BAD_BUFFER. `f`: the flume; `addr`: the buffer address; `len`: its length; `cookie`: its cookie. -/
  | freeEntryFetched (f addr len : Nat) (cookie : BitVec 32)
  /-- RECORD_WRITE (16 R558): A staged record is checked and written into the current buffer, closing buffers and
  completing them as needed. `f`: the flume; `good1`: the first exit check passes; `good2`: the second passes;
  `wrote`: the write completes. -/
  | recordWrite (f : Nat) (good1 good2 wrote : Bool)
  /-- CPL_HEAD_WRITE (16 R560): A write of the completion HEAD frees completion-ring entries for held buffers. `ag`:
  the agent that accesses; `f`: the flume; `head`: the head. -/
  | cplHeadWrite (ag : AgentId) (f head : Nat)
  /-- FLUME_OPEN (16 R562): OPEN checks the flume set-up and opens it, or refuses it with a cause. `ag`: the agent
  that accesses; `f`: the flume. -/
  | flumeOpen (ag : AgentId) (f : Nat)
  /-- FLUME_CLOSE (16 R562): CLOSE takes an open flume to CLOSING. `ag`: the agent that accesses; `f`: the flume. -/
  | flumeClose (ag : AgentId) (f : Nat)
  /-- FLUME_RESET (16 R563): RESET discards staged and spilled records and closes the flume. `ag`: the agent that
  accesses; `f`: the flume. -/
  | flumeReset (ag : AgentId) (f : Nat)
  /-- FLUME_FLUSH (16 R559): FLUSH closes the current buffer when it holds a record. `ag`: the agent that accesses;
  `f`: the flume. -/
  | flumeFlush (ag : AgentId) (f : Nat)
  /-- CV_SEND (17 R571): A culvert send is judged and queued on its channel, or refused with a completion entry. `ag`:
  the agent that accesses; `v`: the value written; `ecc`: the ECC outcome the transfer meets (0 good, 1 right at the
  retry, 2 wrong twice). -/
  | cvSend (ag : AgentId) (v : BitVec 32) (ecc : Nat)
  /-- CV_RXPOP (17 R574): RXPOP by the receiver removes the head message and completes it as DELIVERED. `ag`: the
  agent that accesses; `c`: the culvert channel; `ecc`: the ECC outcome the transfer meets (0 good, 1 right at the
  retry, 2 wrong twice). -/
  | cvRxpop (ag : AgentId) (c ecc : Nat)
  /-- CV_TXSTAT_READ (17 R571): A read of MGT_CV_TXSTAT returns and removes the sender's head completion entry. `ag`:
  the agent that accesses. -/
  | cvTxstatRead (ag : AgentId)
  /-- CV_RECEIVER_WRITE (17 R576): A write that changes RECEIVER discards the channel's queued messages with
  ABORTED_RESET. `ag`: the agent that accesses; `c`: the culvert channel; `v`: the value written. -/
  | cvReceiverWrite (ag : AgentId) (c : Nat) (v : BitVec 32)
  /-- DB_RING (17 R579): A write to MGT_DB_RING sets doorbell pending bits and signals their targets. `ag`: the agent
  that accesses; `j`: the doorbell word; `v`: the value written. -/
  | dbRing (ag : AgentId) (j : Nat) (v : BitVec 32)
  /-- DB_CLEAR (17 R579): A write to MGT_DB_CLEAR clears doorbell pending bits. `ag`: the agent that accesses; `j`:
  the doorbell word; `v`: the value written. -/
  | dbClear (ag : AgentId) (j : Nat) (v : BitVec 32)
  /-- HEADGATE_READ (17 R580): A read of MGT_HEADGATE acquires a free headgate, contesting with other readers, or
  returns the holder. `ag`: the agent that accesses; `h`: the headgate; `others`: the others that read in the same
  cycle. -/
  | headgateRead (ag : AgentId) (h : Nat) (others : List AgentId)
  /-- HEADGATE_RELEASE (17 R580): A write of 0 by the holder frees the headgate. `ag`: the agent that accesses; `h`:
  the headgate; `v`: the value written. -/
  | headgateRelease (ag : AgentId) (h : Nat) (v : BitVec 32)
  /-- PWR_WAKE (20 R626): A survey wake falls due, and its units are powered, configured and started. `e`: the
  schedule entry. -/
  | pwrWake (e : Nat)
  /-- SLEEP (20 R628): SLEEP in PWR_CMD enters AON sleep, or is refused. `ag`: the agent that accesses. -/
  | sleep (ag : AgentId)
  /-- DISP_LINE_START (10 R394): At pixel 0 of each line the timing generator sets LINE_MATCH when the line equals
  LINE, and a pending DISP_BG write takes effect. `level`: the level of the line buffer in KiB; `errs`: the ECC
  outcomes that its bursts meet. -/
  | dispLineStart (level : Nat) (errs : List HbmErr)
  /-- ROUTE_CREDIT_RECOVERED (02 R80): A route's metering credit grows back to 0 or more, and an item held under BLOCK
  mode passes. `id`: the route; `room`: which consumers have room; `ecc`: the ECC outcome the transfer meets (0 good,
  1 right at the retry, 2 wrong twice). -/
  | routeCreditRecovered (id : Nat) (room : List Bool) (ecc : Nat)
  /-- FUNCTION_LEVEL_RESET (16 R545): A function-level reset closes the function's flumes and clears its window and
  MSI-X table. `fn`: the function. -/
  | functionLevelReset (fn : Nat)
  /-- MC_FIRMWARE_LOADED (22 R660): A controller's firmware read and verification ends: it runs copy A or copy B, or
  enters FAULT with cause AUTH. `m`: the controller; `okA`: copy A verifies; `okB`: copy B verifies. -/
  | mcFirmwareLoaded (m : Nat) (okA okB : Bool)
  /-- TRIG_OUT_PULSE_END (07 R307): A PULSE-mode TRIG_OUT pin returns inactive after WIDTH cycles. `n`: the pin. -/
  | trigOutPulseEnd (n : Nat)
  /-- TDC_BLOCK_FLUSH (11 R408): FLUSH_US after its first entry, a time-stamp or interval block closes. `i`: the
  input, or 8 for the interval block. -/
  | tdcBlockFlush (i : Nat)
  /-- CMP_FLUSH_TIMER (14 R497): FLUSH_US after its first byte, the block in formation closes. `n`: the compression
  engine. -/
  | cmpFlushTimer (n : Nat)
  /-- CMP_JOB_RESULT_READ (14 R505): A read of CMP_JOB_RESULT item 0 removes and latches the oldest result. `n`: the
  compression engine. -/
  | cmpJobResultRead (n : Nat)
  /-- HBM_TEMP_READ (15 R529): Every 250 µs each stack's temperature is read, and the refresh multiplier may change.
  `k`: the stack; `t`: the temperature in °C. -/
  | hbmTempRead (k : Nat) (t : Int)
  /-- HBM_REFRESH_DUE (15 R528): A refresh interval elapses, and per-bank refreshes are owed, with an all-bank
  fallback at a debt of 8. `p`: the PC; `placed`: the banks that receive their refresh. -/
  | hbmRefreshDue (p : Nat) (placed : List Nat)
  /-- PC_IDLE_TIMEOUT (15 R532): A PC idle for the idle timer enters power-down. `p`: the PC. -/
  | pcIdleTimeout (p : Nat)
  /-- HOST_LINK_CHANGE (16 R541): The PCIe link changes rate, width or FLIT mode, which can put open flumes in ERROR.
  `up`: the link is up; `rate`: the rate code; `width`: its width; `flit`: FLIT mode; `mps`: the MPS code; `masters`:
  functions with Bus Master Enable; `vfs`: virtual functions enabled. -/
  | hostLinkChange (up : Bool) (rate width : Nat) (flit : Bool) (mps : Nat) (masters vfs : List Nat)
  /-- HOST_WRITE_RETRY (16 R565): 10 µs after a failed record write, it is retried, and a second failure puts the
  flume in ERROR. `f`: the flume; `wrote`: the write completes. -/
  | hostWriteRetry (f : Nat) (wrote : Bool)
  /-- BUFFER_FLUSH_TIMER (16 R559): FLUSH_US after its first record, the current buffer closes. `f`: the flume. -/
  | bufferFlushTimer (f : Nat)
  /-- IRQ_TIMER (16 R561): IRQ_US after the first unsignalled completion, the flume's vector is signalled. `f`: the
  flume. -/
  | irqTimer (f : Nat)
  /-- CLOSE_TIMEOUT (16 R562): 10 ms in CLOSING closes the flume and drops the records still staged. `f`: the flume.
  -/
  | closeTimeout (f : Nat)
  /-- HEADGATE_FORCE (17 R582): GO in MGT_HEADGATE_FORCE frees a headgate with an audit entry and event. `ag`: the
  agent that accesses; `h`: the headgate. -/
  | headgateForce (ag : AgentId) (h : Nat)
  /-- MC_WATCHDOG (17 R583): A controller whose heartbeat stops for 100 ms enters FAULT with cause WATCHDOG. `m`: the
  controller. -/
  | mcWatchdog (m : Nat)
  /-- MC_RESTART (17 R583): RESTART in MGT_MC_CMD reloads and restarts a controller, discarding its culvert queues.
  `ag`: the agent that accesses; `m`: the controller. -/
  | mcRestart (ag : AgentId) (m : Nat)
  /-- MC_REQUEST (17 R584): A controller serves a request message and sends its reply. `m`: the controller. -/
  | mcRequest (m : Nat)
  /-- SMB_SET_ADDR (17 R585): SMBus command 0x01 sets ADDR to a BAR0 offset. `addr`: a BAR0 offset; `pec`: whether the
  packet error code is right. -/
  | smbSetAddr (addr : Nat) (pec : Bool)
  /-- SMB_WRITE (17 R585): SMBus command 0x03 writes the register at ADDR as agent 0x50 and advances ADDR. `v`: the
  value written; `pec`: whether the packet error code is right; `ecc`: the ECC outcome the access meets (0 good, 1
  corrected or right at the retry, 2 and 3 wrong); `good`: as in REGISTER_WRITE. -/
  | smbWrite (v : BitVec 32) (pec : Bool) (ecc : Nat) (good : Bool)
  /-- CAL_RETRIM (18 R596): A RETRIM command is checked and starts measuring the block. `ag`: the agent that accesses;
  `b`: the calibration block. -/
  | calRetrim (ag : AgentId) (b : Nat)
  /-- CAL_APPLY (18 R598): APPLY tests the record in CAL_STAGE and swaps it in. `ag`: the agent that accesses; `b`:
  the calibration block. -/
  | calApply (ag : AgentId) (b : Nat)
  /-- CAL_RELOAD (18 R598): RELOAD tests the fused record and swaps it in. `ag`: the agent that accesses; `b`: the
  calibration block. -/
  | calReload (ag : AgentId) (b : Nat)
  /-- CAL_ABORT (18 R599): ABORT ends the running RETRIM, or reports ALREADY_COMPLETE. `ag`: the agent that accesses.
  -/
  | calAbort (ag : AgentId)
  /-- CAL_RETRIM_DONE (18 R597): A measurement ends, and the new record is checked and swapped in, or kept out with
  LIMIT. `words`: the record measured. -/
  | calRetrimDone (words : List Word)
  /-- AUX_CONVERT (19 R607): CONVERT starts one SINGLE conversion, or is refused. `ag`: the agent that accesses. -/
  | auxConvert (ag : AgentId)
  /-- AUX_BLOCK_FLUSH (19 R615): FLUSH in AUX_CMD closes the block in formation. `ag`: the agent that accesses. -/
  | auxBlockFlush (ag : AgentId)
  /-- AUX_CLEAR_COUNTS (19 R601): CLEAR_COUNTS zeroes AUX_COUNT. `ag`: the agent that accesses. -/
  | auxClearCounts (ag : AgentId)
  /-- AUX_CONV_WRITE (19 R607): A write to AUX_CONV or AUX_SCAN takes effect at the next conversion boundary. `ag`:
  the agent that accesses; `scan`: the register is AUX_SCAN; `v`: the value written. -/
  | auxConvWrite (ag : AgentId) (scan : Bool) (v : BitVec 32)
  /-- AUX_CONVERSION_DONE (19 R605): A conversion completes, and its result is stamped, compared with the window, and
  written to its destinations. `v`: floor(V_meas × 2^23 ÷ V_ref) before the clamp. -/
  | auxConversionDone (v : Int)
  /-- REFX_RANGE_CHANGE (19 R609): REFX enters or leaves its range, changing REFX_RANGE and raising 0x1002. `out`: it
  leaves the range. -/
  | refxRangeChange (out : Bool)
  /-- AUX_RD_WRITE (19 R614): A write of RD frees buffer entries, or is refused when it overruns. `ag`: the agent that
  accesses; `v`: the value written. -/
  | auxRdWrite (ag : AgentId) (v : BitVec 32)
  /-- RUN_DURATION_END (20 R626): At wake time plus run duration, the run's units are drained, then gated and powered
  down. `e`: the schedule entry. -/
  | runDurationEnd (e : Nat)
  /-- THERMAL_SAMPLE (20 R631): Every 100 µs the thermal monitor reads the sensors and enters NORMAL, THROTTLE or
  SHUTDOWN. `dies`: the die sensors in °C. -/
  | thermalSample (dies : List Int)
  /-- VIRTUAL_FUNCTION_DISABLE (17 R575): The disabling of a virtual function is a receiver reset that discards its
  culvert messages with ABORTED_RESET. `fn`: the virtual function. -/
  | virtualFunctionDisable (fn : Nat)
  /-- RESET_N_ASSERT (22 R655): RESET_N low clears every domain except AON and releases the xSPI, READY and output
  pins. -/
  | resetNAssert
  /-- AON_RESET_N_ASSERT (22 R655): AON_RESET_N low clears everything, the AON state included, and holds the engine in
  reset. -/
  | aonResetNAssert
  /-- PERST_N_ASSERT (22 R655): PERST_N low resets the PCIe controller, configuration space, flumes, windows and MSI-X
  tables. -/
  | perstNAssert
  /-- PCIE_HOT_RESET (22 R655): A PCIe hot reset resets the same items as PERST_N. -/
  | pcieHotReset
  /-- TRST_N_ASSERT (22 R655): TRST_N low resets the JTAG TAP controller. -/
  | trstNAssert
  /-- SMBUS_CLOCK_TIMEOUT (17 R585): An SMBus clock held low for 25 ms resets the target interface and counts in
  TIMEOUTS. -/
  | smbusClockTimeout
  /-- FUSE_PHASE_DONE (22 R658): Fuse copying and trim loading complete, and boot moves to phase CLOCK. -/
  | fusePhaseDone
  /-- BOOT_STALLED (22 R663): Phase CLOCK has waited 10 ms without a SYN_0 lock, so PHASE reads STALLED and SYNTH is
  set. -/
  | bootStalled
  /-- OCXO_LOST (03 R135): No OCXO_CLK edge for 1 µs puts the time unit in FAULT, unlocks the synthesisers, and runs
  device time in RC mode. -/
  | ocxoLost
  /-- OCXO_RETURNED (03 R135): The returning OCXO_CLK moves device time from RC mode to coarse mode without a step. -/
  | ocxoReturned
  /-- WARM_TIMER_EXPIRY (03 R145): The warm-up timer expires, and WARM is re-evaluated. -/
  | warmTimerExpiry
  /-- REF_LOST (03 R138): Four reference periods pass with no edge, or the frequency leaves tolerance, and the servo
  enters HOLDOVER or FREE. -/
  | refLost
  /-- REF_QUALIFIED (03 R146): The reference has been present for REF_QUAL, so J is measured and the servo enters
  ACQUIRE, SLEW or JUMP_WAIT. -/
  | refQualified
  /-- SET_APPLIED (03 R152): A held SET takes effect at the next REF_IN edge or cycle and zeroes the SYN_5 cycle
  count. -/
  | setApplied
  /-- SYNC_LOAD_POINT (03 R163): At edge E0 + L, a LOAD sets device time or a CHECK writes TIME_SYNC_RESULT. -/
  | syncLoadPoint
  /-- DISP_VBLANK_START (10 R381): At the first blanking line, a pending frame-address capture is checked and
  transferred to the shadow copy. -/
  | dispVblankStart
  /-- DISP_FRAME_END (10 R388): At the end of line VTOTAL − 1, a captured timing set takes effect and a blank frame
  follows. -/
  | dispFrameEnd
  /-- DISP_FRAME_DONE (10 R384): The fetcher has read the last byte of the plane, and FRAME_DONE is set. -/
  | dispFrameDone
  /-- HPD_RISE (10 R392): DP_HPD has been high for 2 ms, which starts training when AUTO_TRAIN is set. -/
  | hpdRise
  /-- HPD_LOW (10 R391): DP_HPD has been low for 2 ms, and the link enters NO_SINK. -/
  | hpdLow
  /-- SINK_INTERRUPT (10 R392): A DP_HPD low pulse of 0.5–1 ms sets HPD, is counted, and raises 0x0806. -/
  | sinkInterrupt
  /-- HBM_FREQ_DONE (15 R526): A rate change completes after relock and training, releasing the ports. -/
  | hbmFreqDone
  /-- REFRESH_WINDOW_END (15 R530): At the end of a refresh window, every row-disturbance table is emptied. -/
  | refreshWindowEnd
  /-- SMB_READ (17 R585): SMBus command 0x02 returns the register at ADDR and advances ADDR. -/
  | smbRead
  /-- SMB_STATUS (17 R585): SMBus command 0x04 returns the status byte. -/
  | smbStatus
  /-- AUDIT_RECORD_TIMER (17 R589): 100 µs after the oldest waiting entry, an audit record is formed into flume 1's
  queue. -/
  | auditRecordTimer
  /-- AUDIT_QUEUE_ROOM (17 R589): Room appears in flume 1's queue, and a waiting audit record is formed. -/
  | auditQueueRoom
  /-- CAL_RETRIM_TIMEOUT (18 R597): A measurement that passes its longest time ends with result FAULT. -/
  | calRetrimTimeout
  /-- REF_SETTLE_EXPIRY (19 R608): The reference settling time passes, and REF_SETTLED sets. -/
  | refSettleExpiry
  /-- AUX_BLOCK_TIMER (19 R615): FLUSH_US after its first entry, an auxiliary block closes. -/
  | auxBlockTimer
  /-- AON_WAKE (20 R629): LEAD seconds before the earliest due time, the AON domain starts a wake from sleep as a
  boot. -/
  | aonWake
  /-- AUTO_SLEEP_ATTEMPT (20 R630): After a run from sleep, the engine tries to re-enter AON sleep once the flumes
  close, or when HOLD expires, and retries each second. -/
  | autoSleepAttempt
  /-- AON_RESET_N_RELEASE (22 R654): The rise of AON_RESET_N ends the hold of the whole engine in reset and lets the
  AON domain run. -/
  | aonResetNRelease
  /-- PERST_N_RELEASE (22 R665): The release of PERST_N starts PCIe link training, once phase 0 has also ended. -/
  | perstNRelease
  deriving DecidableEq, Repr

end Sys2Proof
end

