-- ==== Sys2Proof/Decode.lean ====
section
/-! DEFINITION. The command that a word of the table spells. No row of spec/opcode_table.json gives bits ("fields" is
empty in each), so no word spells a command. The instruction words of the DSP cores, which the cores read from their own
P memories, are decoded and encoded in Machine/DspCode.lean. -/

namespace Sys2Proof

/-- The command that the nbits bits of w spell: none, since the table gives no row bits. -/
def decodeTableWord (_nbits _w : Nat) : Option Instr := none

end Sys2Proof
end

