-- ==== Sys2Proof/Config.lean ====
section
/-! DEFINITION. The values the specification leaves open: opaque constants, of which no proof can see a value. Each is
applied to the operands it depends on or to the counter State.free. -/

namespace Sys2Proof.Config

/-- The EFC code that the servo seeks at a REF_IN edge (03 R142 gives no control law). -/
opaque efcCode : Nat → Nat

/-- The rate correction the servo chooses at a REF_IN edge, in accumulator units (03 R136, R144). -/
opaque rateCorr : Nat → Int

/-- How fast the servo pulls phase in at a REF_IN edge of ACQUIRE, in accumulator units; TIME_SLEW_RATE bounds it (03
R136). -/
opaque pullIn : Nat → Nat

/-- Whether a producer's fabric port that still holds items has room for one more, for a fresh number (04 R200, 06 R263; the
spec gives a port no depth). -/
opaque portRoom : Nat → Bool

/-- Word i of a management controller's VERSION or SENSORS reply (17 R584 gives no values). -/
opaque mcReply : Nat → Nat → BitVec 32

/-- The neighbour a part takes for a window coefficient that lies within 2^-10 LSB of a half-way point (06 R245), for a
window, N, WIN_PARAM and index. -/
opaque windowUpper : Nat → Nat → Nat → Nat → Bool

/-- SPEC_WIN_ENBW and SPEC_WIN_REF of a window whose coefficients sum to 0 (06 R248, R251 give no value). -/
opaque zeroWinEnbw : Nat → Nat
opaque zeroWinRef : Nat → Int

/-- The output shift where BEXP_FIXED is 0 and no shift of 0 to 4 fits (06 R250 names none), modulo 5. -/
opaque noShift : Nat → Nat

/-- A byte of HBM after its stack has lost its contents for the n-th time, n at least 1 (15 R510, R536: undefined), by
its key in HbmState.mem. -/
opaque lostByte : Nat → Nat → BitVec 8

/-- A byte that a read answered with status ERROR leaves in what its reader delivers (08 R335 flags it and gives no
value), for a fresh number and a byte address. -/
opaque failedByte : Nat → Nat → BitVec 8

/-- DECAY where FRAMES is 0, which only MODE 0 admits (09 R359, R368 give no value). -/
opaque decayZero : Nat

/-- The coded body an engine makes of a block's predicted bytes at a level (14 R494: its choice of matches and code lengths
is not part of the format). -/
opaque codedBody : List (BitVec 8) → Nat → List (BitVec 8)

/-- A byte of a job's destination beyond GOOD_BYTES (14 R505: unspecified), for a fresh number and a mapped address. -/
opaque jobByte : Nat → Nat → BitVec 8

/-- The field that AUX_CONFIG_FAULT names (19 R618 numbers none): for RATE, REF and STREAM_EN as 0, 1, 2. -/
opaque auxField : Nat → Nat

/-- The sensor that the leave event of PWR_THROTTLE names (20 R631 names none), for a fresh number. -/
opaque coolSensor : Nat → Nat

end Sys2Proof.Config
end

