-- ==== Sys2Proof/Machine/Bits.lean ====
section
/-! DEFINITION. Bit fields, two's complement, saturation, byte order and CRCs (00_scope.md R9 to R11, 01 R54), and
the two containers State uses: a sparse map in one canonical form and a fixed-length table. -/

namespace Sys2Proof.Machine

/-- The w bits of v from bit lo up, as a number (R9). -/
def fld (v : BitVec 32) (lo w : Nat) : Nat := v.toNat / 2 ^ lo % 2 ^ w

/-- Bit i of a word. -/
def bit (v : BitVec 32) (i : Nat) : Bool := v.toNat.testBit i

/-- v with its w bits from lo up replaced by x modulo 2^w. -/
def setFld (v : BitVec 32) (lo w x : Nat) : BitVec 32 :=
  BitVec.ofNat 32 (v.toNat - fld v lo w * 2 ^ lo + x % 2 ^ w * 2 ^ lo)

/-- A Bool as a bit. -/
def b2n (b : Bool) : Nat := if b then 1 else 0

/-- The two's complement value of a w-bit field (R11). -/
def sgn (w x : Nat) : Int :=
  let y := x % 2 ^ w
  if 2 * y < 2 ^ w then (y : Int) else (y : Int) - (2 ^ w : Nat)

/-- An integer as a w-bit field, modulo 2^w. -/
def unsgn (w : Nat) (x : Int) : Nat := (x % ((2 ^ w : Nat) : Int)).toNat

/-- x clamped into lo .. hi. -/
def clampInt (lo hi x : Int) : Int := if x < lo then lo else if hi < x then hi else x

/-- x saturated to a signed w-bit value. -/
def satS (w : Nat) (x : Int) : Int := clampInt (-((2 ^ (w - 1) : Nat) : Int)) (((2 ^ (w - 1) : Nat) : Int) - 1) x

/-- Whether x lies outside the signed w-bit range. -/
def overS (w : Nat) (x : Int) : Bool := satS w x != x

/-- An unsigned w-bit counter after n more counts, saturating. -/
def satU (w x : Nat) : Nat := if x < 2 ^ w then x else 2 ^ w - 1

/-- Floor of x / 2^k. -/
def asr (x : Int) (k : Nat) : Int := x / ((2 ^ k : Nat) : Int)

/-- x / 2^k rounded to nearest, a half rounded up (towards plus infinity). -/
def rndHalfUp (x : Int) (k : Nat) : Int := if k = 0 then x else (x + ((2 ^ (k - 1) : Nat) : Int)) / ((2 ^ k : Nat) : Int)

/-- x / 2^k rounded to nearest, a half rounded to the even quotient. -/
def rndHalfEven (x : Int) (k : Nat) : Int :=
  if k = 0 then x
  else
    let q := x / ((2 ^ k : Nat) : Int)
    let r := x % ((2 ^ k : Nat) : Int)
    let h := ((2 ^ (k - 1) : Nat) : Int)
    if r < h then q else if h < r then q + 1 else if q % 2 = 0 then q else q + 1

/-- The n low bytes of x, least significant first (R10). -/
def leBytes (n x : Nat) : List (BitVec 8) := (List.range n).map fun i => BitVec.ofNat 8 (x / 2 ^ (8 * i))

/-- The number that a little-endian byte string holds (R10). -/
def leNat : List (BitVec 8) → Nat
  | [] => 0
  | b :: bs => b.toNat + 256 * leNat bs

/-- The number that a big-endian byte string holds (R107). -/
def beNat (bs : List (BitVec 8)) : Nat := bs.foldl (fun a b => a * 256 + b.toNat) 0

/-- The bytes of a list of words, each little-endian. -/
def wordsBytes (ws : List (BitVec 32)) : List (BitVec 8) := ws.flatMap fun w => leBytes 4 w.toNat

/-- The words of a byte list; a short tail is filled with zero bytes. -/
def bytesWords : List (BitVec 8) → List (BitVec 32)
  | a :: b :: c :: d :: r => BitVec.ofNat 32 (leNat [a, b, c, d]) :: bytesWords r
  | [] => []
  | short => [BitVec.ofNat 32 (leNat short)]

/-- One bit of the reflected Castagnoli CRC (01 R54): polynomial 0x1EDC6F41, reflected 0x82F63B78. -/
def crcBit (c : Nat) : Nat := if c % 2 = 1 then Nat.xor (c / 2) 0x82F63B78 else c / 2

/-- The CRC register after one more byte. -/
def crcByte (c : Nat) (b : BitVec 8) : Nat :=
  crcBit (crcBit (crcBit (crcBit (crcBit (crcBit (crcBit (crcBit (Nat.xor c b.toNat))))))))

/-- CRC-32C of a byte string (01 R54). -/
def crc32c (bs : List (BitVec 8)) : BitVec 32 :=
  BitVec.ofNat 32 (Nat.xor (bs.foldl crcByte 0xFFFFFFFF) 0xFFFFFFFF)

/-- CRC-32C of a payload of words. -/
def crcWords (ws : List (BitVec 32)) : BitVec 32 := crc32c (wordsBytes ws)

/-- Epoch a is later than epoch b (01 R46). -/
def later32 (a b : BitVec 32) : Bool := 1 ≤ (a - b).toNat && (a - b).toNat ≤ 2 ^ 31 - 1

/-! Sparse maps: a list of key and value pairs, keys strictly rising, no pair holding the default d. -/

/-- The value at key k; d where nothing is listed. -/
def spGet {α : Type} (m : List (Nat × α)) (k : Nat) (d : α) : α :=
  match m with
  | [] => d
  | (j, v) :: r => if j = k then v else spGet r k d

/-- m without key k. -/
def spDel {α : Type} (m : List (Nat × α)) (k : Nat) : List (Nat × α) :=
  match m with
  | [] => []
  | (j, v) :: r => if j = k then spDel r k else (j, v) :: spDel r k

/-- m with the pair (k, v) put before the first larger key. -/
def spIns {α : Type} (m : List (Nat × α)) (k : Nat) (v : α) : List (Nat × α) :=
  match m with
  | [] => [(k, v)]
  | (j, u) :: r => if k < j then (k, v) :: (j, u) :: r else (j, u) :: spIns r k v

/-- Store v at key k: the default is not listed. -/
def spPut {α : Type} [DecidableEq α] (m : List (Nat × α)) (k : Nat) (v d : α) : List (Nat × α) :=
  if v = d then spDel m k else spIns (spDel m k) k v

/-- The canonical form: every listed key at least lo and strictly rising, no value equal to d. -/
def spWfFrom {α : Type} [DecidableEq α] (d : α) (lo : Nat) : List (Nat × α) → Bool
  | [] => true
  | (j, v) :: r => decide (lo ≤ j) && decide (v ≠ d) && spWfFrom d (j + 1) r

/-- The canonical form of a sparse map. -/
def spWf {α : Type} [DecidableEq α] (d : α) (m : List (Nat × α)) : Bool := spWfFrom d 0 m

/-! Fixed-length tables. -/

/-- Entry k of a table; d outside it. -/
def vget {α : Type} {n : Nat} (v : Vector α n) (k : Nat) (d : α) : α := v.toList.getD k d

/-- The table with entry k set; unchanged where k lies outside it. -/
def vset {α : Type} {n : Nat} (v : Vector α n) (k : Nat) (x : α) : Vector α n :=
  ⟨(v.toList.set k x).toArray, by simp⟩

/-- Keep the first n elements and fill with d up to n. -/
def padTo {α : Type} (n : Nat) (d : α) (l : List α) : List α := l.take n ++ List.replicate (n - l.length) d

end Sys2Proof.Machine
end

