-- ==== Sys2Proof/Machine/StateCompute.lean ====
section
/-! DEFINITION. The state of the compute units: the DSP cores (12_dsp_cluster.md, 13_dsp_instructions.md). -/

namespace Sys2Proof.Machine

/-- EXEC of DSP_CORE_STATUS. -/
inductive DspExec where
  | stopped | executing | stalled | halted
  deriving DecidableEq, Repr

/-- An active LOOP (12 R434): first and last address of the body, passes left. -/
structure LoopEnt where
  first : BitVec 15
  last : BitVec 15
  count : Nat
  deriving DecidableEq, Repr

/-- What an instruction produces that can make a later one stall (12 R438). -/
inductive DspRes where
  | ptr (n : Nat) | modr (n : Nat) | len (n : Nat) | amr | data (n : Nat) | acc (k : Nat) | stat
  deriving DecidableEq, Repr

/-- An item in an input FIFO: the words not yet read; whether the first has been read; its check, length class and
origin (12 R439 to R441). -/
structure DspItem where
  words : List Word
  started : Bool
  failed : Bool
  long : Bool
  origin : BitVec 64
  deriving DecidableEq, Repr

/-- An input stream. -/
structure DspIn where
  items : List DspItem
  /-- a read found it empty at DRAIN (12 R453) -/
  ended : Bool
  deriving DecidableEq, Repr

/-- The open item of an output stream (12 R442 to R444). -/
structure DspOpen where
  words : List Word
  start : Stamp
  /-- steps of device time before it opened (03 R130) -/
  steps : Nat
  epoch : BitVec 32
  planEpoch : BitVec 32
  truncated : Bool
  failed : Bool
  origin : Option (BitVec 64)
  timeSet : Bool
  deriving DecidableEq, Repr

/-- An output stream: its open item and its sequence; closed items wait among what the fabric has been offered. -/
structure DspOut where
  cur : Option DspOpen
  seq : Nat
  first : Bool
  deriving DecidableEq, Repr

/-- A DMA channel: transfer under way, STAT and DONE_WORDS (12 R445, R446). -/
structure DspDma where
  busy : Bool
  /-- LOCAL, REGION, byte offset and length of the transfer -/
  loc : Word
  region : Word
  offset : Nat
  len : Nat
  status : Nat
  done : Nat
  deriving DecidableEq, Repr

/-- The BUS access (12 R450): none, waiting to be issued, or performed and not yet complete (refused, data). -/
inductive DspBus where
  | idle
  | asked (write : Bool) (addr data : Word)
  | answered (write refused : Bool) (data : Word)
  deriving DecidableEq, Repr

/-- A DSP core (12 R430). -/
structure Dsp where
  d : Vector (BitVec 32) 8
  a : Vector (BitVec 72) 4
  p : Vector (BitVec 16) 8
  m : Vector (BitVec 16) 8
  l : Vector (BitVec 16) 8
  pc : BitVec 15
  loops : List LoopEnt
  rets : List (BitVec 15)
  savePc : Vector (BitVec 15) 3
  saveStat : Vector (BitVec 32) 3
  stat : BitVec 32
  amr : BitVec 32
  imr : BitVec 32
  ipr : BitVec 32
  /-- TIMER at the device time of its last load, and TIMER_RELOAD -/
  timer : BitVec 32
  timerAt : Nat
  reload : BitVec 32
  /-- TIME as its last read of 0x08 latched it -/
  time : List Word
  /-- system registers that only hold what was written: number and word -/
  sys : List (Nat × Word)
  exec : DspExec
  /-- in WAIT -/
  waiting : Bool
  /-- a BREAKPOINT was passed by RESUME -/
  passBreak : Bool
  /-- executions left of the instruction under REP, and whether the next is the first -/
  rept : Option (Nat × Bool)
  /-- the repeat cache: first, last, filled (12 R436) -/
  cache : Option (BitVec 15 × BitVec 15 × Bool)
  /-- what the last two instructions produced, latest first -/
  hist : List (List DspRes)
  /-- device time at which a stream stall began -/
  stallAt : Option Nat
  ins : Vector DspIn 2
  outs : Vector DspOut 2
  dma : Vector DspDma 2
  bus : DspBus
  deriving DecidableEq, Repr

/-! Compression (14_compression.md). -/

/-- The block in formation of a STREAM engine (14 R497, R498): its raw bytes and what its header and record will say. -/
structure CmpBlk where
  bytes : List Byte
  start : Stamp
  /-- the up time of its first byte -/
  born : Nat
  epoch : BitVec 32
  planEpoch : BitVec 32
  /-- CMP_STREAM_CFG in force -/
  cfg : Word
  continued : Bool
  failed : Bool
  origin : Option (BitVec 64)
  deriving DecidableEq, Repr

/-- A compression engine. -/
structure Cmp where
  blk : Option CmpBlk
  /-- a written CMP_STREAM_CFG waits for the next block -/
  cfgWaits : Bool
  /-- the next block is the first since START -/
  first : Bool
  /-- stream offset of the next block -/
  offset : Nat
  /-- blocks closed since RESET_N -/
  seq : Nat
  /-- queued jobs and the running one: 16 descriptor words each (14 R501, R502) -/
  queue : List (List Word)
  running : Option (List Word)
  /-- unread results of four words (14 R505) -/
  results : List (List Word)
  deriving DecidableEq, Repr

/-- A running RETRIM (18 R595): its block and the agent that ordered it. -/
structure CalJob where
  block : Nat
  agent : AgentId
  deriving DecidableEq, Repr

/-! The auxiliary converter (19_aux_converter.md). -/

/-- A conversion in progress, with the values it began with (19 R607). -/
structure AuxConv where
  channel : Nat
  rate : Nat
  ref : Nat
  unsettled : Bool
  /-- what held while it runs, the latest first: since which count of 2^-64 s the engine has run, device time less that
  count, and the quality byte (19 R605) -/
  marks : List (Nat × Int × BitVec 8)
  deriving DecidableEq, Repr

/-- A result entry (19 R613). -/
structure AuxEntry where
  stamp : Stamp
  code : Int
  flags : Nat
  /-- state and plan epochs when it was made (01 R45, 02 R66) -/
  ep : BitVec 32 × BitVec 32
  deriving DecidableEq, Repr

/-- The converter. -/
structure Aux where
  cur : Option AuxConv
  /-- channel last converted since START -/
  last : Option Nat
  /-- REF in force -/
  ref : Nat
  lostSram : Bool
  lostStream : Bool
  blk : List AuxEntry
  /-- stream entries lost since the previous block -/
  lostN : Nat
  seq : Nat
  first : Bool
  /-- the engine's running time when the block in formation got its first entry -/
  blkAt : Nat
  /-- SRAM and stream entries lost since the latest AUX_LOSS event -/
  lossRep : Nat × Nat
  deriving DecidableEq, Repr

end Sys2Proof.Machine
end

