-- ==== Sys2Proof/Machine/StateSignal.lean ====
section
/-! DEFINITION. The state of the units on the signal path: ingress links, tuners, channelisers, spectral engines,
triggers, acquisition, density, display and the time-interval unit. Registers stand in the register file. -/

namespace Sys2Proof.Machine

/-- An ingress link (04_sample_ingress.md). -/
structure Link where
  /-- ING_ADC_DELAY in force, in ps, and the value that waits for the next parcel boundary (04 R185) -/
  adcDelay : Int
  adcStaged : Option Int
  /-- the aligning edge has set the local boundary; its device time in 2^-64 s (04 R178) -/
  aligned : Bool
  edge : Int
  /-- the stream cycle of the last edge on a local boundary and its place in that cycle, in 2^-64 s (04 R178) -/
  edgeCyc : Int
  edgeFine : Int
  /-- the anchor in 2^-64 s and the index of the next input sample since it (04 R182, R183) -/
  anchor : Int
  idx : Int
  renewed : Nat
  /-- logical lanes whose clock recovery is locked, that hold sync, whose ILAS matched -/
  locked : List Nat
  synced : List Nat
  ilas : List Nat
  /-- ALIGN's checks have passed and the group has not (04 R181) -/
  passed : Bool
  /-- next parcel sequence, 48 bits (01 R49) -/
  seq : Nat
  /-- the parcel in formation: its items, flags, item 0's time in 2^-64 s, epochs -/
  items : List Word
  flags : Nat
  start : Int
  startEpoch : BitVec 32
  startPlan : BitVec 32
  /-- last parcel formed: sequence and valid items; last valid item's time in 2^-64 s (04 R199, R202) -/
  lastSeq : Nat
  lastValid : Nat
  lastTime : Int
  /-- previous tick count, words since the last tick word (04 R193) -/
  tick : Option Nat
  sinceTick : Option Nat
  /-- real links: index since the aligning boundary, and the last 47 mixer outputs, newest first (04 R187, R188) -/
  mixN : Nat
  histI : List Int
  histQ : List Int
  /-- recent invalid sync headers: lane and block number (04 R201) -/
  badBlocks : List (Nat × Nat)
  /-- input samples still to come that a failed CRC covers (04 R196, R201) -/
  crcLeft : Nat
  /-- the bits of the next input samples that undecodable characters spell (04 R186) -/
  bad : List Word
  deriving DecidableEq, Repr

/-! The side paths (01 R29). -/

/-- A value g on its way to a time-domain detector: its stamp's device time in 2^-64 s and quality; whether its input sample
was neither inserted nor padding; whether it is the first after an input restart; its block's sequence, its index there, and the
block's flags up to it (05 R208, 07 R275 to R279). -/
structure TdSample where
  gi : Int
  gq : Int
  time : Nat
  qual : BitVec 8
  valid : Bool
  restart : Bool
  blkSeq : Nat
  idx : Nat
  flags : Nat
  deriving DecidableEq, Repr

/-- A spectrum on a side path: to the masks of a trigger engine and to a density engine (06 R240, 07 R281, 09 R352). -/
structure SpecOut where
  channel : Nat
  seq : Nat
  stamp : Stamp
  flags : Nat
  size : Nat
  bins : List Int
  points : List Int
  origin : BitVec 64
  /-- device time in 2^-40 s at which its frame started at the engine's input (07 R292) -/
  arrived : Nat
  deriving DecidableEq, Repr

/-- The display rows of a spectrum's points, as a density engine passes them to a density trigger (07 R284). -/
structure DensRows where
  seq : Nat
  stamp : Stamp
  flags : Nat
  rows : List Nat
  arrived : Nat
  deriving DecidableEq, Repr

/-- A fire of a weir, as an acquisition unit receives it, and the stream cycle it was made in (07 R303, R305, 08 R321). -/
structure Fire where
  weir : Nat
  cycle : Nat
  stamp : Stamp
  flags : Nat
  evSeq : Nat
  deriving DecidableEq, Repr

/-! Tuners and channelisers (05_tuners_channelizers.md). -/

/-- What a tuner commit captures (05 R217): the staged registers, PHASE_RESET, and for AT_TIME its time in 2^-40 s. -/
structure TunCommit where
  ftw : Nat
  phase : Nat
  gain : Nat
  bank : Nat
  reset : Bool
  at_ : Option Nat
  deriving DecidableEq, Repr

/-- A commit in force at the input whose first output sample m is still to come (05 R218 to R220). -/
structure TunMark where
  m : Int
  gain : Nat
  bank : Nat
  gen : Nat
  epoch : BitVec 32
  /-- closes the block in formation (AT_TIME) -/
  cut : Bool
  deriving DecidableEq, Repr

/-- An input parcel or block whose samples may still matter: index of its first sample, its sequence, valid items, the time of
its first sample in 2^-64 s, its quality byte; the origin reference of that sample, of a tuner block its place in its parcel
and the link samples that one sample stands for, 0 for a parcel; and whether its samples were inserted, carry one of the flags
that mark output, or failed a check. -/
structure InRec where
  n0 : Int
  seq : Nat
  time : Int
  qual : BitVec 8
  origin : BitVec 64
  valid : Nat
  off : Nat
  step : Nat
  inserted : Bool
  flagged : Bool
  failed : Bool
  deriving DecidableEq, Repr

/-- One filter memory of a tuner stage: I and Q, newest first. -/
abbrev Hist := List Int × List Int

/-- A tuner. -/
structure Tuner where
  /-- NCO: accumulator, word and phase offset in force (05 R210) -/
  acc : Nat
  ftw : Nat
  phase : Nat
  /-- output stage in force, and the marks that wait for their output sample -/
  gain : Nat
  bank : Nat
  marks : List TunMark
  commit : Option TunCommit
  /-- START's own commit, until input sample 0; the input sample whose cycle as a boundary has passed (05 R218, R221) -/
  starts : Option TunCommit
  judged : Option Int
  /-- index of the next input sample; index of the first output sample of the input-side block (05 R218) -/
  n : Int
  blk0 : Int
  /-- CIC integrators and comb delays, each I then Q (05 R211) -/
  intI : List Int
  intQ : List Int
  combI : List Int
  combQ : List Int
  /-- half-band histories and the FIR history, newest first -/
  hb : List Hist
  fir : Hist
  /-- input records, newest first -/
  recs : List InRec
  /-- last parcel's sequence; the accumulator and time of the last valid item (05 R222, R223) -/
  lastSeq : Option Nat
  lastAcc : Nat
  lastTime : Int
  /-- the block in formation: index of its first output sample, samples, flags, generation, epochs, STEPPED marks -/
  seq : Nat
  m0 : Int
  out : List (Int × Int)
  flags : Nat
  gen : Nat
  epoch : BitVec 32
  planEp : BitVec 32
  /-- a clamp before the FIR since the last output sample (05 R215) -/
  sat : Bool
  /-- the next value g is the first after an input restart (07 R279) -/
  fresh : Bool
  deriving DecidableEq, Repr

/-- A group of a channeliser: its block in formation (05 R233, R234). -/
structure ChzGroup where
  seq : Nat
  words : List Word
  items : Nat
  time : Int
  qual : BitVec 8
  first : Nat
  flags : Nat
  origin : BitVec 64
  epoch : BitVec 32
  planEp : BitVec 32
  deriving DecidableEq, Repr

/-- A channeliser. -/
structure Chz where
  /-- index of the next input sample, the last K P samples newest first, the next frame -/
  n : Int
  hist : List (Int × Int)
  frame : Nat
  recs : List InRec
  lastSeq : Option Nat
  /-- a tuner block with INPUT_RESTART has ended the old generation -/
  ended : Bool
  groups : Vector ChzGroup 16
  deriving DecidableEq, Repr

/-! Spectral engines (06_spectral_engines.md). -/

/-- A set of staged registers captured by a commit (06 R258). -/
structure SpecSet where
  lg : Nat
  win : Nat
  param : Nat
  hop : Nat
  mask : Nat
  fixedShift : Nat
  bfix : Bool
  inter : Nat
  fmt : Nat
  outEn : Bool
  stride : Nat
  spr : Nat
  outFirst : Nat
  outCount : Nat
  det : Nat
  points : Nat
  detFirst : Nat
  detSpan : Nat
  tmode : Nat
  trEn : Bool
  tcount : Nat
  deriving DecidableEq, Repr

/-- A set in force: the coefficients it uses, and R248's two values. -/
structure SpecRun where
  set : SpecSet
  bank : List Nat
  enbw : Nat
  ref : Int
  /-- index of its first input sample q0, next frame start, number of frames begun -/
  q0 : Int
  next : Int
  begun : Nat
  /-- spectra computed under it, and COMMIT_GEN, which names it -/
  done : Nat
  id : Nat
  deriving DecidableEq, Repr

/-- A pending spectral commit: its set, its time, whether its window must still be generated (06 R247, R258). -/
structure SpecCommit where
  set : SpecSet
  at_ : Option Nat
  waits : Bool
  /-- activates the inactive bank when it takes effect: WINDOW 6, or a window generated for it -/
  swap : Bool
  deriving DecidableEq, Repr

/-- A frame begun (06 R241): what its spectrum needs beside its samples. -/
structure SpecFrame where
  run : SpecRun
  start : Int
  index : Nat
  flags : Nat
  /-- the first frame of a new set: ends the record and trace in formation -/
  fresh : Bool
  time : Int
  qual : BitVec 8
  origin : BitVec 64
  epoch : BitVec 32
  planEp : BitVec 32
  /-- device time in 2^-40 s at which its first sample came to the engine -/
  arrived : Nat
  /-- its samples, once all are in; of a two-pass frame what HBM gave back last, and how far it is: 0 in HBM, 1 its samples
  are read, 2 its intermediate values are read, 3 they are here; and the clamps of its first pass (06 R253) -/
  samples : List (Int × Int)
  phase : Nat
  clamps : Nat
  deriving DecidableEq, Repr

/-- A spectrum packed into the record in formation (06 R265). -/
structure SpecEntry where
  seq : Nat
  stamp : Stamp
  bexp : Int
  flags : Nat
  body : List Byte
  deriving DecidableEq, Repr

/-- A record or trace in formation: origin and epochs of its first spectrum. -/
structure FormInfo where
  seq : Nat
  stamp : Stamp
  origin : BitVec 64
  epoch : BitVec 32
  planEp : BitVec 32
  deriving DecidableEq, Repr

/-- A spectral engine. -/
structure Spec where
  run : Option SpecRun
  commit : Option SpecCommit
  /-- the set whose window is being generated; the frame start whose cycle has passed (06 R247, R258) -/
  gen : Option SpecSet
  judged : Option Int
  /-- index of the first held input sample, and the held samples -/
  base : Int
  samples : List (Int × Int)
  recs : List InRec
  lastSeq : Option Nat
  ended : Bool
  newFlags : Nat
  traceBreak : Bool
  /-- frames begun, and frames whose samples are all in, oldest first -/
  begun : List SpecFrame
  ready : List SpecFrame
  seq : Nat
  /-- the active bank, 0 or 1 -/
  bank : Nat
  form : Option FormInfo
  formSet : Option SpecRun
  entries : List SpecEntry
  trace : Option FormInfo
  traceSet : Option SpecRun
  tacc : List Int
  tcount : Nat
  tflags : Nat
  /-- the core of the trace's latest spectrum -/
  tcore : Nat
  /-- reads of HBM: the tag of the latest request, responses still to come, the bytes so far (06 R253) -/
  tag : Nat
  want : Nat
  got : List Byte
  deriving DecidableEq, Repr

/-! Trigger engines and the weir tree (07_triggers.md). -/

/-- The staged registers of one time-domain detector. -/
structure TdCfg where
  cfg : Word
  level : Word
  hyst : Word
  magLo : Word
  magHi : Word
  wmin : Word
  wmax : Word
  deriving DecidableEq, Repr

/-- A set that TRIG_COMMIT captures (07 R290): detectors, masks (CFG and MINBINS), the density registers. -/
structure TrigSet where
  td : List TdCfg
  fm : List (Word × Word)
  densX : Word
  densY : Word
  dens : Word
  deriving DecidableEq, Repr

/-- A sample's place: its time in 2^-64 s, quality, block sequence and index. -/
structure TdPlace where
  time : Nat
  qual : BitVec 8
  blkSeq : Nat
  idx : Nat
  deriving DecidableEq, Repr

/-- A time-domain detector (07 R275 to R279); its state is its level bit in TRIG_STATUS. -/
structure TdState where
  started : Bool
  gap : Bool
  /-- the last tested sample and its block's flags -/
  prev : Option (Int × TdPlace × Nat)
  /-- power window, newest first: magnitudes and flags -/
  win : List (Nat × Nat)
  /-- the pulse in progress: high samples so far, its first sample, the flags of all of them -/
  pulse : Option (Nat × TdPlace × Nat)
  deriving DecidableEq, Repr

/-- A trigger engine. -/
structure TrigEng where
  run : TrigSet
  /-- a captured set: its detector part, its mask part with MASK_SWAP and its capture time in 2^-40 s, its density part -/
  pendTd : Option TrigSet
  pendFm : Option (TrigSet × Bool × Nat)
  pendDens : Option (TrigSet × Nat)
  td : Vector TdState 4
  /-- what the side paths have brought: to each detector, to the masks, to the density trigger; oldest first (01 R29) -/
  values : Vector (List TdSample) 4
  spectra : List SpecOut
  rows : List DensRows
  /-- results of the last m spectra with their flags, newest first (07 R282) -/
  hist : Vector (List (Bool × Nat)) 4
  /-- counts h of the last WIN spectra with their flags, newest first (07 R284) -/
  dens : List (Nat × Nat)
  deriving DecidableEq, Repr

/-- An occurrence (07 R272, R289, R304): its trigger time in 2^-40 s. -/
structure Occ where
  src : Nat
  time : Nat
  qual : BitVec 8
  flags : Nat
  detail : Nat
  aux : Nat
  deriving DecidableEq, Repr

/-- What reaches a weir input in one stream-clock cycle: the input's level and an occurrence; the cycle in which its source
changed, and what the source had to say then, whether or not it made an occurrence (07 R272, R294, R304). -/
structure Arrival where
  weir : Nat
  input : Nat
  cycle : Nat
  born : Nat
  inverted : Bool
  level : Bool
  occ : Option Occ
  info : Occ
  deriving DecidableEq, Repr

/-- A weir: what its registers do not hold (07 R294 to R302). -/
structure Weir where
  /-- armed in the cycles after the first, up to and including the second -/
  armFrom : Option Nat
  disarmAt : Option Nat
  /-- levels of the inputs A to D, one bit each; the AND of the used ones -/
  levels : Nat
  allHigh : Bool
  /-- for each input, when the level it has was made -/
  levelAt : List Nat
  /-- cycle of the latest A, and the last cycle of its window (07 R297) -/
  seqAt : Nat
  seqTo : Nat
  /-- cycles of the latest fires, newest first, and the last cycle of the holdoff (07 R299) -/
  fireAt : List Nat
  holdTo : Nat
  ignored : Nat
  /-- counts since the last TRIG_IGNORED, by cause -/
  evIgnored : List Nat
  /-- the input delay lines -/
  line : List Arrival
  deriving DecidableEq, Repr

/-- A TRIG_OUT pin (07 R307): active, the MODE and INVERT taken at its latest fire, and the cycle at which its pulse ends. -/
structure OutPin where
  active : Bool
  mode : Nat
  invert : Bool
  stop : Nat
  fired : Bool
  deriving DecidableEq, Repr

/-- The weir tree. -/
structure TreeState where
  /-- what waits at weir inputs -/
  net : List Arrival
  weirs : Vector Weir 16
  pins : Vector OutPin 8
  /-- cycle of the latest occurrence of each source, plus 1 -/
  lastOcc : List (Nat × Nat)
  /-- fires on their way to each acquisition unit, oldest first (07 R305) -/
  fires : Vector (List Fire) 4
  /-- pin levels of EVT_IN_0 to 7, and their levels as sources; DSP flags, bit 2c + f -/
  evt : Nat
  evtSeen : Nat
  dsp : Nat
  /-- cycle of the latest pulse of SW_0 to SW_3, plus 1 -/
  swPulse : List (Nat × Nat)
  deriving DecidableEq, Repr

end Sys2Proof.Machine
end

