-- ==== Sys2Proof/Machine/StateMemory.lean ====
section
/-! DEFINITION. The state of the HBM controllers, the acquisition units, the density engines, the display unit and the
compression engines. Registers stand in the register file. -/

namespace Sys2Proof.Machine

/-- Both HBM stacks (15_hbm_memory.md). -/
structure HbmState where
  /-- bytes stored, keyed by PC × 768 MiB + (bank × 16,384 + row) × 1,024 + column -/
  mem : List Host.Cell
  /-- how often each stack has lost its contents since power-on -/
  gen0 : Nat
  gen1 : Nat
  /-- the rate a change in progress goes to; a request held while a stack trains: rate and FORCE (15 R525, R526) -/
  change : Option Nat
  held : Option (Nat × Bool)
  /-- HBM_RD_CFG in force (15 R531) -/
  rdThresh : Nat
  rdRadius2 : Bool
  /-- row-disturbance tables by bank (PC × 48 + bank): row and count, entry order (15 R530) -/
  rdTables : List (Nat × List (Nat × Nat))
  /-- refresh debt by bank (15 R528) -/
  debt : List (Nat × Nat)
  /-- stacks above 105 °C that have not cooled to 100 °C (15 R529) -/
  hot : List Nat
  /-- stacks that train after a THAW (15 R537) -/
  thawing : List Nat
  /-- memory items that wait for training or a rate change: slice, stream, item (15 R519, R526) -/
  waiting : List (Nat × Nat × Item)
  deriving DecidableEq, Repr

/-! Acquisition (08_acquisition.md). -/

/-- A chunk position in use (08 R316, R318): its place in the slot, its item's sequence and origin, the index of its
first sample since the slot was opened, its samples, that sample's stamp in 2^-40 s and quality, header flags; a gap; the origin
reference of that sample and, of a tuner block, its place in its parcel. -/
structure AcqChunk where
  pos : Nat
  seq : Nat
  idx : Nat
  n : Nat
  time : Nat
  qual : BitVec 8
  flags : Nat
  gap : Bool
  failed : Bool
  origin : BitVec 64
  off : Nat
  deriving DecidableEq, Repr

/-- One source of the segment in formation. -/
structure AcqSrc where
  /-- format code and bytes of its items, from START on (08 R338) -/
  fmt : Nat
  ib : Nat
  /-- retained chunks, newest first, and the chunks written since the slot was opened -/
  chunks : List AcqChunk
  count : Nat
  /-- index of the next sample -/
  next : Nat
  /-- the arm point: its index and its stamp in 2^-40 s (08 R320) -/
  arm : Option (Nat × Nat)
  /-- the accepted trigger's sample, PRE_ACT and flags (08 R323) -/
  trig : Option (Nat × Nat × Nat)
  post : Nat
  done : Bool
  /-- last item's sequence; a tuner block that ends the old generation -/
  last : Option Nat
  ended : Bool
  deriving DecidableEq, Repr

/-- A source's part of a completed segment, in its stored item format; where its slot lies in the source's region. -/
structure AcqPart where
  src : Nat
  fmt : Nat
  ib : Nat
  slot : Nat
  first : Nat
  pre : Nat
  post : Nat
  flags : Nat
  stamp : Stamp
  chunks : List AcqChunk
  deriving DecidableEq, Repr

/-- A segment: what its slot header holds, and its fire. -/
structure AcqSeg where
  ordinal : Nat
  number : Nat
  fire : Fire
  epoch : BitVec 32
  planEp : BitVec 32
  missed : Nat
  parts : List AcqPart
  deriving DecidableEq, Repr

/-- A missed-trigger entry (08 R340), and the epochs when it was made (01 R45, 02 R66). -/
structure AcqMiss where
  fire : Fire
  cause : Nat
  segs : Nat
  epoch : BitVec 32
  planEp : BitVec 32
  deriving DecidableEq, Repr

/-- A stored chunk that has been read back: its first sample's index, its bytes, whether its check failed (08 R335). -/
structure AcqKept where
  idx : Nat
  bytes : List Byte
  bad : Bool
  deriving DecidableEq, Repr

/-- A readout (08 R333, R334): its range, the segment, source and fragment next, what ACQ_READ_CFG held, the last chunk read
of this part. -/
structure AcqJob where
  first : Nat
  last : Nat
  ord : Nat
  src : Nat
  frag : Nat
  srcMask : Nat
  lg : Nat
  kept : Option AcqKept
  deriving DecidableEq, Repr

/-- An acquisition unit. -/
structure AcqUnit where
  srcs : Vector AcqSrc 5
  /-- blocks that the capture paths have brought from the channel's tuners, oldest first (08 R313) -/
  blocks : Vector (List Item) 4
  /-- S of the acquisition -/
  slots : Nat
  /-- the accepted fire with the unit state epoch and the plan epoch then -/
  fire : Option (Fire × BitVec 32 × BitVec 32)
  /-- fires that wait for an arm time (08 R322) -/
  held : List Fire
  /-- why the acquisition ends with the segment in POST (08 R327) -/
  stopping : Option Nat
  /-- the slot of the segment in formation has been opened -/
  opened : Bool
  segMissed : Nat
  missed : List AcqMiss
  /-- missed fires since the last ACQ_MISSED, by cause (08 R341) -/
  missCounts : List Nat
  segs : List AcqSeg
  job : Option AcqJob
  /-- segments that wait for AUTO_READ -/
  auto : List Nat
  /-- segments that wait for the mask tester, and whether it tests them (08 R343) -/
  tests : List (AcqSeg × Bool)
  /-- the tolerance mask's words -/
  mask : List (Nat × Word)
  deriving DecidableEq, Repr

/-! Density engines (09_density_engine.md). -/

/-- A set that DENS_COMMIT captures: the staged registers, and the checked PITCH. -/
structure DensSet where
  map : Word
  persist : Word
  frame : Word
  out : Word
  gain : Word
  pitch : Nat
  deriving DecidableEq, Repr

/-- A pending commit (09 R369). -/
structure DensCommit where
  set : Option DensSet
  clear : Bool
  snap : Bool
  deriving DecidableEq, Repr

/-- A spectrum in the histogram queue: its frame, the row of each point, CONNECT (09 R352, R354). -/
structure DensEntry where
  frame : Nat
  rows : List Nat
  connect : Bool
  deriving DecidableEq, Repr

/-- A frame: its spectra received, histogrammed and turned away, flags, first and last spectrum (09 R357, R365, R367). -/
structure DensFrame where
  num : Nat
  received : Nat
  hist : Nat
  turned : Nat
  flags : Nat
  width : Nat
  firstSeq : Nat
  lastSeq : Nat
  firstStamp : Stamp
  lastStamp : Stamp
  origin : BitVec 64
  epoch : BitVec 32
  planEp : BitVec 32
  deriving DecidableEq, Repr

/-- A sweep (09 R358 to R362): its frame, the set and DECAY it uses, whether it zeroes, what it sends, frames accumulated;
once it has passed its counters, the values it swept. -/
structure DensSweep where
  frame : DensFrame
  set : DensSet
  decay : Nat
  clear : Bool
  render : Bool
  export_ : Bool
  accum : Nat
  fb : Nat
  swept : Option (List (Nat × Nat))
  deriving DecidableEq, Repr

/-- A density engine. -/
structure Dens where
  set : DensSet
  commit : Option DensCommit
  swap : Bool
  /-- the active colour-map bank; DENS_CMAP is the inactive one -/
  cmap : List (Nat × Word)
  zeroing : Bool
  /-- the plane: counter of row r, column c at key 1024 r + c -/
  plane : List (Nat × Nat)
  queue : List DensEntry
  frame : DensFrame
  sweep : Option DensSweep
  /-- the frame's end has come while the previous sweep runs; whether it is partial, whether the plane is cleared -/
  ending : Option (Bool × Bool)
  accum : Nat
  nextBuf : Nat
  /-- spectra that the side path has brought, oldest first (06 R240) -/
  spectra : List SpecOut
  deriving DecidableEq, Repr

/-! The display (10_display_scanout.md). -/

/-- A timing set (10 R377). -/
structure DispTiming where
  hTotal : Word
  vTotal : Word
  hSync : Word
  vSync : Word
  pclk : Word
  frac : Word
  link : Word
  deriving DecidableEq, Repr

/-- The plane registers a frame-address capture takes (10 R381). -/
structure DispPlane where
  addr : Word
  cfg : Word
  pos : Word
  size : Word
  deriving DecidableEq, Repr

/-- The display unit. -/
structure Disp where
  timing : DispTiming
  mode : Option DispTiming
  /-- the shadow copy, and a capture -/
  plane : DispPlane
  cap : Option DispPlane
  bg : Word
  /-- the next line to start; frame 0 has not started -/
  next : Nat
  first : Bool
  /-- the timing generator waits for SYN_3 and training (10 R390, R393); SYN_3 relocks for a new setting -/
  hold : Bool
  planned : Bool
  /-- why the link trains: 0 MODE, 1 LINK, 2 SYNTH, 3 HPD -/
  cause : Nat
  /-- the last frame before READY has ended -/
  ended : Bool
  /-- components sent for the active pixels of the present line -/
  line : List (Nat × Nat × Nat)
  /-- plane pixels of the present line that show the plane's data (10 R386) -/
  lim : Nat
  deriving DecidableEq, Repr

/-! The time-interval unit (11_time_interval.md). -/

/-- A queue entry (11 R406): its flags byte and its edge count. -/
structure TdcEntry where
  stamp : Stamp
  flags : Nat
  count : Nat
  /-- state and plan epochs when it was made (01 R45, 02 R66) -/
  ep : BitVec 32 × BitVec 32
  deriving DecidableEq, Repr

/-- A TDC input: what its registers do not hold. -/
structure TdcIn where
  /-- time of the last stamped edge in 2^-64 s -/
  lastEdge : Option Nat
  /-- an edge, or an entry, was lost before the next stamp (11 R401, R404) -/
  dead : Bool
  lost : Bool
  queue : List TdcEntry
  /-- the block in formation; losses since the previous block; blocks since START (11 R407) -/
  blk : List TdcEntry
  lostN : Nat
  deadN : Nat
  seq : Nat
  first : Bool
  deriving DecidableEq, Repr

/-- An interval entry (11 R418). -/
structure IvEntry where
  a : Option Stamp
  b : Option Stamp
  chan : Nat
  kind : Nat
  flags : Nat
  n : Nat
  deriving DecidableEq, Repr

/-- A stamp that a channel holds; whether an edge of a source was lost since (11 R418). -/
structure TdcMark where
  x : TdcStamp
  dead : Bool
  deriving DecidableEq, Repr

/-- The gate in progress (11 R417): its number, the edge counter at its start, its stamps. -/
structure TdcGate where
  k : Nat
  base : Nat
  first : Option TdcStamp
  last : Option TdcStamp
  steps : Nat
  stepped : Bool
  dead : Bool
  deriving DecidableEq, Repr

/-- A measurement channel. -/
structure TdcChan where
  /-- stamps of its source inputs that it has still to take (11 R405) -/
  queue : List TdcStamp
  pending : List TdcMark
  ref : Option TdcMark
  gate : Option TdcGate
  lost : Bool
  deriving DecidableEq, Repr

/-- The time-interval unit. -/
structure Tdc where
  ins : Vector TdcIn 8
  chans : Vector TdcChan 16
  /-- stamps sent to the channels -/
  stamps : List TdcStamp
  /-- the interval block in formation -/
  blk : List IvEntry
  /-- state and plan epochs of its first entry -/
  blkEp : BitVec 32 × BitVec 32
  seq : Nat
  first : Bool
  deriving DecidableEq, Repr

end Sys2Proof.Machine
end

