-- ==== Sys2Proof/Machine/RegTable.lean ====
section
/-! DEFINITION. The registers of BAR0 (24_register_map.md R691, R696) and, for each, the key table its chapter
gives it: where it lies, how many instances it has, its value after RESET_N and the access code of each bit (R12). -/

namespace Sys2Proof.Machine

/-- The registers of BAR0, one constructor for each name of R696; the unit headers (R692) are UnitRec. -/
inductive Reg where
  | globalPlanSrc | globalPlanLen | globalPlanCmd | globalPlanStatus
  | globalPlanEpoch | globalPlanDigest | timeNow | timeSet
  | timeCfg | timeLockCfg | timeRefOffset | timeEfc
  | timeRate | timeCmd | timeStatus | timeJumpLimit
  | timeSlewRate | timeMeas | synCfg | synStatus
  | synPhase | synSysrefCfg | synSysrefDelay | timeSyncCfg
  | timeSyncResult | ingLinkCfg | ingLinkTiming | ingPeriodLo
  | ingPeriodHi | ingAdcDelay | ingLaneMapLo | ingLaneMapHi
  | ingTagCfg | ingLinkStatus | ingLinkCmd | ingCount
  | ingLaneCfg | ingLaneStatus | ingHbCoef | tunCfg
  | tunNcoFreqLo | tunNcoFreqHi | tunNcoPhase | tunOutCfg
  | tunCommit | tunCommitTime | tunStatus | tunCount
  | tunChzCfg | tunChzGroup | tunChzCoefAddr | tunChzCoefData
  | tunChzCount | tunHbCoef | tunFirCoef | specCfg
  | specFft | specHop | specScale | specOut
  | specOutFirst | specOutCount | specDet | specDetFirst
  | specDetSpan | specTrace | specCommit | specCommitTime
  | specStatus | specWinAddr | specWinData | specWinEnbw
  | specWinRef | specSeq | specCount | specCoreCount
  | trigTdCfg | trigTdLevel | trigTdHyst | trigTdMagLo
  | trigTdMagHi | trigTdWmin | trigTdWmax | trigFmCfg
  | trigFmMinbins | trigDensBoxX | trigDensBoxY | trigDensCfg
  | trigCommit | trigStatus | trigMaskAddr | trigMaskData
  | trigCount | trigWeirCfg | trigWeirIn | trigWeirInv
  | trigWeirDelay | trigWeirWindow | trigWeirHoldoff | trigWeirCountN
  | trigWeirCmd | trigWeirStatus | trigWeirFires | trigWeirIgnored
  | trigWeirLast | trigOutCfg | trigOutClr | trigOutState
  | trigSwPulse | trigSwLevel | trigEvtCfg | acqCfg
  | acqSegCount | acqWeir | acqCmd | acqStatus
  | acqProgress | acqReadCfg | acqReadFirst | acqReadCount
  | acqMtCfg | acqMtAddr | acqMtData | acqCount
  | acqSrcCfg | acqSrcPre | acqSrcPost | acqSrcSlot
  | densCfg | densMap | densPersist | densFrame
  | densOut | densIndexGain | densFbBase | densFbPitch
  | densCommit | densStatus | densFrameNum | densCount
  | densCmap | dispCfg | dispHTotal | dispVTotal
  | dispHSync | dispVSync | dispPclk | dispPclkFrac
  | dispLink | dispModeCommit | dispFbCommit | dispPlanePos
  | dispPlaneSize | dispFbAddr | dispFbCfg | dispFbPending
  | dispBg | dispLinebuf | dispLineMatch | dispStatus
  | dispFrameNum | dispIntStatus | dispIntEn | dispCount
  | dispAuxCmd | dispAuxData | tdcInCfg | tdcInOffset
  | tdcInStatus | tdcInEdges | tdcInLast | tdcInCount
  | tdcOutCfg | tdcMeasCfg | tdcMeasP0Lo | tdcMeasP0Hi
  | tdcMeasP1Lo | tdcMeasP1Hi | tdcMeasCmd | tdcMeasStatus
  | tdcMeasCount | dspCoreEntry | dspCoreStatus | dspCoreHostMsg
  | dspCoreBreak | dspCoreCount | dspClStart | dspClStatus
  | cmpCfg | cmpStreamCfg | cmpFlush | cmpJobCmd
  | cmpStatus | cmpStreamOffset | cmpJobDesc | cmpJobResult
  | cmpCount | hbmPcStatus | hbmPcCount | hbmStackStatus
  | hbmStackCmd | hbmSnap | hbmFreq | hbmRdCfg
  | hbmFence | hostLink | hostFnVec | hostWin
  | hostIrqMap | hostCount | hostBind | hostFlumeCfg
  | hostFlumeFreeBaseLo | hostFlumeFreeBaseHi | hostFlumeCplBaseLo | hostFlumeCplBaseHi
  | hostFlumeFreeIdx | hostFlumeCplIdx | hostFlumeIrq | hostFlumeSpill
  | hostFlumeCmd | hostFlumeStatus | hostFlumeSeq | hostFlumeCount
  | mgtMcStatus | mgtMcCmd | mgtCvTx | mgtCvSend
  | mgtCvTxstat | mgtDbRing | mgtDbClear | mgtDbCfg
  | mgtHeadgate | mgtHeadgateForce | mgtHeadgateContest | mgtSmbStatus
  | mgtCount | mgtCvCfg | mgtCvStatus | mgtCvRxpop
  | mgtCvRxhdr | mgtCvRx | auditCfg | auditSeq
  | auditOldest | auditCopy | auditLost | auditEntry
  | calCmd | calSeqStatus | calBlockStatus | calCount
  | calLastTime | calStage | calRec | calFuseRec
  | auxCfg | auxConv | auxScan | auxCmd
  | auxStatus | auxBufIdx | auxFlush | auxCount
  | auxResult | auxWinLo | auxWinHi | auxWinCfg
  | auxWinStatus | auxBuf | pwrStatus | pwrCmd
  | pwrSleepCfg | pwrDomain | pwrClock | pwrSchedEn
  | pwrCount | pwrSchedNext | pwrSchedCount | globalFaultStatus
  | globalFaultMask | globalFaultCount | globalFaultLast | globalBootStatus
  | globalBootTime | globalResetCmd | globalId | capUnits
  | capMemory | capLinks
  deriving DecidableEq, Repr

/-- A register's key table: the BAR0 offset of its first word; n1 instances s1 bytes apart, each of n2 words s2
bytes apart; its value after RESET_N; the bits under each access code of R12 (bits of no mask are RSV);
the unit code of the unit that holds its first instance (R18; 0x3FF: no unit's own register set). -/
structure RegInfo where
  base : Nat
  n1 : Nat
  s1 : Nat
  n2 : Nat
  s2 : Nat
  reset : Nat
  rw : Nat
  ro : Nat
  w1c : Nat
  w1s : Nat
  rc : Nat
  wo : Nat
  pl : Nat
  unit : Nat
  deriving DecidableEq, Repr

/-- The key table and bit table of each register, from its chapter. -/
def Reg.info : Reg → RegInfo
  | .globalPlanSrc => ⟨0x10040, 1, 0x0, 2, 4, 0x0, 0xffffffff, 0, 0, 0, 0, 0, 0, 0x250⟩
  | .globalPlanLen => ⟨0x10048, 1, 0x0, 1, 0, 0x0, 0x3ffffff, 0, 0, 0, 0, 0, 0, 0x250⟩
  | .globalPlanCmd => ⟨0x1004c, 1, 0x0, 1, 0, 0x0, 0, 0, 0, 0, 0, 0x103, 0, 0x250⟩
  | .globalPlanStatus => ⟨0x10050, 1, 0x0, 1, 0, 0x0, 0, 0xffff03ff, 0, 0, 0, 0, 0, 0x250⟩
  | .globalPlanEpoch => ⟨0x10054, 1, 0x0, 1, 0, 0x0, 0, 0xffffffff, 0, 0, 0, 0, 0, 0x250⟩
  | .globalPlanDigest => ⟨0x10060, 1, 0x0, 12, 4, 0x0, 0, 0xffffffff, 0, 0, 0, 0, 0, 0x250⟩
  | .timeNow => ⟨0x300040, 1, 0x0, 3, 4, 0x0, 0, 0xffffffff, 0, 0, 0, 0, 0, 0x10⟩
  | .timeSet => ⟨0x300050, 1, 0x0, 2, 4, 0x0, 0xffffffff, 0, 0, 0, 0, 0, 0, 0x10⟩
  | .timeCfg => ⟨0x300060, 1, 0x0, 1, 0, 0x25870a08, 0xffffffff, 0, 0, 0, 0, 0, 0, 0x10⟩
  | .timeLockCfg => ⟨0x300064, 1, 0x0, 1, 0, 0x640064, 0xffffffff, 0, 0, 0, 0, 0, 0, 0x10⟩
  | .timeRefOffset => ⟨0x300068, 1, 0x0, 1, 0, 0x0, 0xffffffff, 0, 0, 0, 0, 0, 0, 0x10⟩
  | .timeEfc => ⟨0x30006c, 1, 0x0, 1, 0, 0x80008000, 0xffff, 0xffff0000, 0, 0, 0, 0, 0, 0x10⟩
  | .timeRate => ⟨0x300088, 1, 0x0, 2, 4, 0x0, 0, 0xffffffff, 0, 0, 0, 0, 0, 0x10⟩
  | .timeCmd => ⟨0x300058, 1, 0x0, 1, 0, 0x0, 0, 0, 0, 0, 0, 0x7, 0, 0x10⟩
  | .timeStatus => ⟨0x30005c, 1, 0x0, 1, 0, 0x2580000, 0, 0xfffff77, 0x8, 0, 0, 0, 0, 0x10⟩
  | .timeJumpLimit => ⟨0x300074, 1, 0x0, 1, 0, 0x4e20, 0xffffffff, 0, 0, 0, 0, 0, 0, 0x10⟩
  | .timeSlewRate => ⟨0x300078, 1, 0x0, 1, 0, 0x2710, 0xffffffff, 0, 0, 0, 0, 0, 0, 0x10⟩
  | .timeMeas => ⟨0x300090, 1, 0x0, 3, 4, 0x0, 0, 0xffffffff, 0, 0, 0, 0, 0, 0x10⟩
  | .synCfg => ⟨0x400000, 6, 0x20, 1, 0, 0x0, 0, 0xffff, 0, 0, 0, 0, 0, 0x3ff⟩
  | .synStatus => ⟨0x400004, 6, 0x20, 1, 0, 0x0, 0, 0x10003, 0, 0, 0xff00, 0, 0, 0x3ff⟩
  | .synPhase => ⟨0x400008, 6, 0x20, 1, 0, 0x0, 0xffff, 0xffff0000, 0, 0, 0, 0, 0, 0x3ff⟩
  | .synSysrefCfg => ⟨0x400100, 4, 0x10, 1, 0, 0x0, 0xffffff03, 0, 0, 0, 0, 0x4, 0, 0x3ff⟩
  | .synSysrefDelay => ⟨0x400104, 4, 0x10, 1, 0, 0x0, 0xffff, 0, 0, 0, 0, 0, 0, 0x3ff⟩
  | .timeSyncCfg => ⟨0x300080, 1, 0x0, 1, 0, 0x400, 0xffff, 0xff0000, 0, 0, 0xff000000, 0, 0, 0x10⟩
  | .timeSyncResult => ⟨0x300084, 1, 0x0, 1, 0, 0x0, 0, 0xffffffff, 0, 0, 0, 0, 0, 0x10⟩
  | .ingLinkCfg => ⟨0x600040, 4, 0x1000, 1, 0, 0x0, 0, 0, 0, 0, 0, 0, 0x3ffffff, 0x20⟩
  | .ingLinkTiming => ⟨0x600044, 4, 0x1000, 1, 0, 0x0, 0, 0, 0, 0, 0, 0, 0x7ffffff, 0x20⟩
  | .ingPeriodLo => ⟨0x600048, 4, 0x1000, 1, 0, 0x0, 0, 0, 0, 0, 0, 0, 0xffffffff, 0x20⟩
  | .ingPeriodHi => ⟨0x60004c, 4, 0x1000, 1, 0, 0x0, 0, 0, 0, 0, 0, 0, 0xffffffff, 0x20⟩
  | .ingAdcDelay => ⟨0x600050, 4, 0x1000, 1, 0, 0x0, 0xffffffff, 0, 0, 0, 0, 0, 0, 0x20⟩
  | .ingLaneMapLo => ⟨0x600054, 4, 0x1000, 1, 0, 0x0, 0, 0, 0, 0, 0, 0, 0x3fffffff, 0x20⟩
  | .ingLaneMapHi => ⟨0x600058, 4, 0x1000, 1, 0, 0x0, 0, 0, 0, 0, 0, 0, 0x3ff, 0x20⟩
  | .ingTagCfg => ⟨0x60005c, 4, 0x1000, 1, 0, 0x0, 0, 0, 0, 0, 0, 0, 0xfffffff, 0x20⟩
  | .ingLinkStatus => ⟨0x600070, 4, 0x1000, 1, 0, 0x0, 0, 0xffff3fff, 0, 0, 0, 0, 0, 0x20⟩
  | .ingLinkCmd => ⟨0x600074, 4, 0x1000, 1, 0, 0x0, 0, 0, 0, 0, 0, 0x3, 0, 0x20⟩
  | .ingCount => ⟨0x600080, 4, 0x1000, 8, 4, 0x0, 0, 0xffffffff, 0, 0, 0, 0, 0, 0x20⟩
  | .ingLaneCfg => ⟨0x608000, 32, 0x40, 1, 0, 0x0, 0, 0, 0, 0, 0, 0, 0x1, 0x3ff⟩
  | .ingLaneStatus => ⟨0x608004, 32, 0x40, 1, 0, 0x0, 0, 0x3fff, 0, 0, 0xffff0000, 0, 0, 0x3ff⟩
  | .ingHbCoef => ⟨0x60c000, 1, 0x0, 12, 4, 0x0, 0, 0, 0, 0, 0, 0, 0x3ffff, 0x3ff⟩
  | .tunCfg => ⟨0x800040, 16, 0x1000, 1, 0, 0x0, 0, 0, 0, 0, 0, 0, 0x1ffffff, 0x40⟩
  | .tunNcoFreqLo => ⟨0x800044, 16, 0x1000, 1, 0, 0x0, 0xffffffff, 0, 0, 0, 0, 0, 0, 0x40⟩
  | .tunNcoFreqHi => ⟨0x800048, 16, 0x1000, 1, 0, 0x0, 0xffff, 0, 0, 0, 0, 0, 0, 0x40⟩
  | .tunNcoPhase => ⟨0x80004c, 16, 0x1000, 1, 0, 0x0, 0xffff, 0, 0, 0, 0, 0, 0, 0x40⟩
  | .tunOutCfg => ⟨0x800050, 16, 0x1000, 1, 0, 0x10000, 0x7ffff, 0, 0, 0, 0, 0, 0, 0x40⟩
  | .tunCommit => ⟨0x800054, 16, 0x1000, 1, 0, 0x0, 0, 0, 0, 0, 0, 0x7, 0, 0x40⟩
  | .tunCommitTime => ⟨0x800058, 16, 0x1000, 3, 4, 0x0, 0xffffffff, 0, 0, 0, 0, 0, 0, 0x40⟩
  | .tunStatus => ⟨0x800064, 16, 0x1000, 1, 0, 0x0, 0, 0xffff0001, 0x2, 0, 0, 0, 0, 0x40⟩
  | .tunCount => ⟨0x800070, 16, 0x1000, 4, 4, 0x0, 0, 0, 0, 0, 0xffffffff, 0, 0, 0x40⟩
  | .tunChzCfg => ⟨0x810040, 4, 0x1000, 1, 0, 0x0, 0, 0, 0, 0, 0, 0, 0xfff03ff, 0x60⟩
  | .tunChzGroup => ⟨0x810080, 4, 0x1000, 16, 4, 0x0, 0, 0, 0, 0, 0, 0, 0x7ffffff, 0x60⟩
  | .tunChzCoefAddr => ⟨0x810044, 4, 0x1000, 1, 0, 0x0, 0xffff, 0, 0, 0, 0, 0, 0, 0x60⟩
  | .tunChzCoefData => ⟨0x810048, 4, 0x1000, 1, 0, 0x0, 0x3ffff, 0, 0, 0, 0, 0, 0, 0x60⟩
  | .tunChzCount => ⟨0x810050, 4, 0x1000, 4, 4, 0x0, 0, 0, 0, 0, 0xffffffff, 0, 0, 0x60⟩
  | .tunHbCoef => ⟨0x820000, 1, 0x0, 12, 4, 0x0, 0, 0, 0, 0, 0, 0, 0x3ffff, 0x3ff⟩
  | .tunFirCoef => ⟨0x840000, 16, 0x1000, 1024, 4, 0x0, 0x3ffff, 0, 0, 0, 0, 0, 0, 0x40⟩
  | .specCfg => ⟨0xa00040, 4, 0x1000, 1, 0, 0x0, 0, 0, 0, 0, 0, 0, 0xfffff, 0xa0⟩
  | .specFft => ⟨0xa00044, 4, 0x1000, 1, 0, 0x2a, 0xffff00ff, 0, 0, 0, 0, 0, 0, 0xa0⟩
  | .specHop => ⟨0xa00048, 4, 0x1000, 1, 0, 0x100, 0x1fffff, 0, 0, 0, 0, 0, 0, 0xa0⟩
  | .specScale => ⟨0xa0004c, 4, 0x1000, 1, 0, 0xfffff, 0xfffffff, 0, 0, 0, 0, 0, 0, 0xa0⟩
  | .specOut => ⟨0xa00050, 4, 0x1000, 1, 0, 0x0, 0x3ffff, 0, 0, 0, 0, 0, 0, 0xa0⟩
  | .specOutFirst => ⟨0xa00054, 4, 0x1000, 1, 0, 0x0, 0xfffff, 0, 0, 0, 0, 0, 0, 0xa0⟩
  | .specOutCount => ⟨0xa00058, 4, 0x1000, 1, 0, 0x400, 0x1fffff, 0, 0, 0, 0, 0, 0, 0xa0⟩
  | .specDet => ⟨0xa0005c, 4, 0x1000, 1, 0, 0x3ff0, 0x3fff7, 0, 0, 0, 0, 0, 0, 0xa0⟩
  | .specDetFirst => ⟨0xa00060, 4, 0x1000, 1, 0, 0x0, 0xfffff, 0, 0, 0, 0, 0, 0, 0xa0⟩
  | .specDetSpan => ⟨0xa00064, 4, 0x1000, 1, 0, 0x400, 0x1fffff, 0, 0, 0, 0, 0, 0, 0xa0⟩
  | .specTrace => ⟨0xa00068, 4, 0x1000, 1, 0, 0x0, 0xfffff, 0, 0, 0, 0, 0, 0, 0xa0⟩
  | .specCommit => ⟨0xa0006c, 4, 0x1000, 1, 0, 0x0, 0, 0, 0, 0, 0, 0x7, 0, 0xa0⟩
  | .specCommitTime => ⟨0xa00070, 4, 0x1000, 3, 4, 0x0, 0xffffffff, 0, 0, 0, 0, 0, 0, 0xa0⟩
  | .specStatus => ⟨0xa0007c, 4, 0x1000, 1, 0, 0x0, 0, 0xffff0003, 0xc, 0, 0, 0, 0, 0xa0⟩
  | .specWinAddr => ⟨0xa00080, 4, 0x1000, 1, 0, 0x0, 0xffff, 0, 0, 0, 0, 0, 0, 0xa0⟩
  | .specWinData => ⟨0xa00084, 4, 0x1000, 1, 0, 0x0, 0x1ffff, 0, 0, 0, 0, 0, 0, 0xa0⟩
  | .specWinEnbw => ⟨0xa00088, 4, 0x1000, 1, 0, 0x0, 0, 0xffffffff, 0, 0, 0, 0, 0, 0xa0⟩
  | .specWinRef => ⟨0xa0008c, 4, 0x1000, 1, 0, 0x0, 0, 0xffffffff, 0, 0, 0, 0, 0, 0xa0⟩
  | .specSeq => ⟨0xa00090, 4, 0x1000, 2, 4, 0x0, 0, 0xffffffff, 0, 0, 0, 0, 0, 0xa0⟩
  | .specCount => ⟨0xa000a0, 4, 0x1000, 8, 4, 0x0, 0, 0, 0, 0, 0xffffffff, 0, 0, 0xa0⟩
  | .specCoreCount => ⟨0xa08040, 16, 0x100, 2, 4, 0x0, 0, 0, 0, 0, 0xffffffff, 0, 0, 0x80⟩
  | .trigTdCfg => ⟨0xc00040, 4, 0x1000, 4, 32, 0x0, 0xffff, 0, 0, 0, 0, 0, 0, 0xc0⟩
  | .trigTdLevel => ⟨0xc00044, 4, 0x1000, 4, 32, 0x0, 0xffffff, 0, 0, 0, 0, 0, 0, 0xc0⟩
  | .trigTdHyst => ⟨0xc00048, 4, 0x1000, 4, 32, 0x0, 0xffffff, 0, 0, 0, 0, 0, 0, 0xc0⟩
  | .trigTdMagLo => ⟨0xc0004c, 4, 0x1000, 4, 32, 0x0, 0xffffffff, 0, 0, 0, 0, 0, 0, 0xc0⟩
  | .trigTdMagHi => ⟨0xc00050, 4, 0x1000, 4, 32, 0x0, 0xffff, 0, 0, 0, 0, 0, 0, 0xc0⟩
  | .trigTdWmin => ⟨0xc00054, 4, 0x1000, 4, 32, 0x0, 0xffffffff, 0, 0, 0, 0, 0, 0, 0xc0⟩
  | .trigTdWmax => ⟨0xc00058, 4, 0x1000, 4, 32, 0x0, 0xffffffff, 0, 0, 0, 0, 0, 0, 0xc0⟩
  | .trigFmCfg => ⟨0xc000c0, 4, 0x1000, 4, 16, 0x0, 0x3ffff, 0, 0, 0, 0, 0, 0, 0xc0⟩
  | .trigFmMinbins => ⟨0xc000c4, 4, 0x1000, 4, 16, 0x1, 0x1fffff, 0, 0, 0, 0, 0, 0, 0xc0⟩
  | .trigDensBoxX => ⟨0xc00100, 4, 0x1000, 1, 0, 0x0, 0x3fff3fff, 0, 0, 0, 0, 0, 0, 0xc0⟩
  | .trigDensBoxY => ⟨0xc00104, 4, 0x1000, 1, 0, 0x0, 0x3ff03ff, 0, 0, 0, 0, 0, 0, 0xc0⟩
  | .trigDensCfg => ⟨0xc00108, 4, 0x1000, 1, 0, 0x0, 0xfffffff, 0, 0, 0, 0, 0, 0, 0xc0⟩
  | .trigCommit => ⟨0xc00110, 4, 0x1000, 1, 0, 0x0, 0, 0, 0, 0, 0, 0xf, 0, 0xc0⟩
  | .trigStatus => ⟨0xc00114, 4, 0x1000, 1, 0, 0x0, 0, 0x1ff0005, 0x2, 0, 0, 0, 0, 0xc0⟩
  | .trigMaskAddr => ⟨0xc00118, 4, 0x1000, 1, 0, 0x0, 0x7fff, 0, 0, 0, 0, 0, 0, 0xc0⟩
  | .trigMaskData => ⟨0xc0011c, 4, 0x1000, 1, 0, 0x0, 0xffffffff, 0, 0, 0, 0, 0, 0, 0xc0⟩
  | .trigCount => ⟨0xc00120, 4, 0x1000, 8, 4, 0x0, 0, 0, 0, 0, 0xffffffff, 0, 0, 0xc0⟩
  | .trigWeirCfg => ⟨0xc08000, 16, 0x80, 1, 0, 0x0, 0x3ff1f, 0, 0, 0, 0, 0, 0, 0x3ff⟩
  | .trigWeirIn => ⟨0xc08004, 16, 0x80, 1, 0, 0xffffffff, 0xffffffff, 0, 0, 0, 0, 0, 0, 0x3ff⟩
  | .trigWeirInv => ⟨0xc08008, 16, 0x80, 1, 0, 0x0, 0xf, 0, 0, 0, 0, 0, 0, 0x3ff⟩
  | .trigWeirDelay => ⟨0xc0800c, 16, 0x80, 2, 4, 0x0, 0xffffffff, 0, 0, 0, 0, 0, 0, 0x3ff⟩
  | .trigWeirWindow => ⟨0xc08014, 16, 0x80, 1, 0, 0x1, 0xffffffff, 0, 0, 0, 0, 0, 0, 0x3ff⟩
  | .trigWeirHoldoff => ⟨0xc0801c, 16, 0x80, 1, 0, 0x0, 0xffffffff, 0, 0, 0, 0, 0, 0, 0x3ff⟩
  | .trigWeirCountN => ⟨0xc08018, 16, 0x80, 1, 0, 0x1, 0xffffff, 0, 0, 0, 0, 0, 0, 0x3ff⟩
  | .trigWeirCmd => ⟨0xc08020, 16, 0x80, 1, 0, 0x0, 0, 0, 0, 0, 0, 0x7, 0, 0x3ff⟩
  | .trigWeirStatus => ⟨0xc08024, 16, 0x80, 1, 0, 0x0, 0, 0xffffff07, 0x8, 0, 0, 0, 0, 0x3ff⟩
  | .trigWeirFires => ⟨0xc08028, 16, 0x80, 1, 0, 0x0, 0, 0xffffffff, 0, 0, 0, 0, 0, 0x3ff⟩
  | .trigWeirIgnored => ⟨0xc0802c, 16, 0x80, 3, 4, 0x0, 0, 0, 0, 0, 0xffffffff, 0, 0, 0x3ff⟩
  | .trigWeirLast => ⟨0xc08038, 16, 0x80, 3, 4, 0x0, 0, 0xffffffff, 0, 0, 0, 0, 0, 0x3ff⟩
  | .trigOutCfg => ⟨0xc08800, 1, 0x0, 8, 4, 0x100, 0xffffff, 0, 0, 0, 0, 0, 0, 0x3ff⟩
  | .trigOutClr => ⟨0xc08820, 1, 0x0, 1, 0, 0x0, 0, 0, 0, 0, 0, 0xff, 0, 0x3ff⟩
  | .trigOutState => ⟨0xc08824, 1, 0x0, 1, 0, 0x0, 0, 0xff, 0, 0, 0, 0, 0, 0x3ff⟩
  | .trigSwPulse => ⟨0xc08828, 1, 0x0, 1, 0, 0x0, 0, 0, 0, 0, 0, 0xf, 0, 0x3ff⟩
  | .trigSwLevel => ⟨0xc0882c, 1, 0x0, 1, 0, 0x0, 0xf, 0, 0, 0, 0, 0, 0, 0x3ff⟩
  | .trigEvtCfg => ⟨0xc08830, 1, 0x0, 8, 4, 0x0, 0x7, 0, 0, 0, 0, 0, 0, 0x3ff⟩
  | .acqCfg => ⟨0xe00040, 4, 0x1000, 1, 0, 0x0, 0x1ff, 0, 0, 0, 0, 0, 0, 0xe0⟩
  | .acqSegCount => ⟨0xe00044, 4, 0x1000, 1, 0, 0x0, 0xfffff, 0, 0, 0, 0, 0, 0, 0xe0⟩
  | .acqWeir => ⟨0xe00048, 4, 0x1000, 1, 0, 0x0, 0xffffff, 0, 0, 0, 0, 0, 0, 0xe0⟩
  | .acqCmd => ⟨0xe0004c, 4, 0x1000, 1, 0, 0x0, 0, 0, 0, 0, 0, 0x7, 0, 0xe0⟩
  | .acqStatus => ⟨0xe00050, 4, 0x1000, 1, 0, 0x0, 0, 0xff7, 0x8, 0, 0, 0, 0, 0xe0⟩
  | .acqProgress => ⟨0xe00054, 4, 0x1000, 3, 4, 0x0, 0, 0xffffffff, 0, 0, 0, 0, 0, 0xe0⟩
  | .acqReadCfg => ⟨0xe00060, 4, 0x1000, 1, 0, 0x29f, 0x3ff, 0, 0, 0, 0, 0, 0, 0xe0⟩
  | .acqReadFirst => ⟨0xe00064, 4, 0x1000, 1, 0, 0x0, 0xffffffff, 0, 0, 0, 0, 0, 0, 0xe0⟩
  | .acqReadCount => ⟨0xe00068, 4, 0x1000, 1, 0, 0x1, 0xffffffff, 0, 0, 0, 0, 0, 0, 0xe0⟩
  | .acqMtCfg => ⟨0xe0006c, 4, 0x1000, 1, 0, 0x0, 0x7ff, 0, 0, 0, 0, 0, 0, 0xe0⟩
  | .acqMtAddr => ⟨0xe00070, 4, 0x1000, 1, 0, 0x0, 0xfff, 0, 0, 0, 0, 0, 0, 0xe0⟩
  | .acqMtData => ⟨0xe00074, 4, 0x1000, 1, 0, 0x0, 0xffffffff, 0, 0, 0, 0, 0, 0, 0xe0⟩
  | .acqCount => ⟨0xe00080, 4, 0x1000, 8, 4, 0x0, 0, 0, 0, 0, 0xffffffff, 0, 0, 0xe0⟩
  | .acqSrcCfg => ⟨0xe00100, 4, 0x1000, 5, 16, 0x0, 0x1, 0, 0, 0, 0, 0, 0xffff0000, 0xe0⟩
  | .acqSrcPre => ⟨0xe00104, 4, 0x1000, 5, 16, 0x400, 0x7fffffff, 0, 0, 0, 0, 0, 0, 0xe0⟩
  | .acqSrcPost => ⟨0xe00108, 4, 0x1000, 5, 16, 0xc00, 0x7fffffff, 0, 0, 0, 0, 0, 0, 0xe0⟩
  | .acqSrcSlot => ⟨0xe0010c, 4, 0x1000, 5, 16, 0x6, 0x1fffff, 0, 0, 0, 0, 0, 0, 0xe0⟩
  | .densCfg => ⟨0x1000040, 4, 0x1000, 1, 0, 0x0, 0, 0, 0, 0, 0, 0, 0xffff, 0x100⟩
  | .densMap => ⟨0x1000044, 4, 0x1000, 1, 0, 0x190ce00, 0xffffffff, 0, 0, 0, 0, 0, 0, 0x100⟩
  | .densPersist => ⟨0x1000048, 4, 0x1000, 1, 0, 0x40004, 0xffff0007, 0, 0, 0, 0, 0, 0, 0x100⟩
  | .densFrame => ⟨0x100004c, 4, 0x1000, 1, 0, 0x4f791, 0xffffff, 0, 0, 0, 0, 0, 0, 0x100⟩
  | .densOut => ⟨0x1000050, 4, 0x1000, 1, 0, 0x0, 0x3fffff, 0, 0, 0, 0, 0, 0, 0x100⟩
  | .densIndexGain => ⟨0x1000054, 4, 0x1000, 1, 0, 0x3300100, 0xffffffff, 0, 0, 0, 0, 0, 0, 0x100⟩
  | .densFbBase => ⟨0x1000058, 4, 0x1000, 2, 4, 0x0, 0xffffffff, 0, 0, 0, 0, 0, 0, 0x100⟩
  | .densFbPitch => ⟨0x1000060, 4, 0x1000, 1, 0, 0x1000, 0x3ffff, 0, 0, 0, 0, 0, 0, 0x100⟩
  | .densCommit => ⟨0x1000064, 4, 0x1000, 1, 0, 0x0, 0, 0, 0, 0, 0, 0x1f, 0, 0x100⟩
  | .densStatus => ⟨0x1000068, 4, 0x1000, 1, 0, 0x0, 0, 0xffff000d, 0x2, 0, 0, 0, 0, 0x100⟩
  | .densFrameNum => ⟨0x100006c, 4, 0x1000, 1, 0, 0x0, 0, 0xffffffff, 0, 0, 0, 0, 0, 0x100⟩
  | .densCount => ⟨0x1000080, 4, 0x1000, 8, 4, 0x0, 0, 0, 0, 0, 0xffffffff, 0, 0, 0x100⟩
  | .densCmap => ⟨0x1000400, 4, 0x1000, 256, 4, 0x0, 0xffffffff, 0, 0, 0, 0, 0, 0, 0x100⟩
  | .dispCfg => ⟨0x1100040, 1, 0x0, 1, 0, 0x0, 0, 0, 0, 0, 0, 0, 0x1fffff, 0x120⟩
  | .dispHTotal => ⟨0x1100044, 1, 0x0, 1, 0, 0xfa00f00, 0xffffffff, 0, 0, 0, 0, 0, 0, 0x120⟩
  | .dispVTotal => ⟨0x1100048, 1, 0x0, 1, 0, 0x8ae0870, 0xffffffff, 0, 0, 0, 0, 0, 0, 0x120⟩
  | .dispHSync => ⟨0x110004c, 1, 0x0, 1, 0, 0x10200f30, 0x1fffffff, 0, 0, 0, 0, 0, 0, 0x120⟩
  | .dispVSync => ⟨0x1100050, 1, 0x0, 1, 0, 0x50873, 0x1fffffff, 0, 0, 0, 0, 0, 0, 0x120⟩
  | .dispPclk => ⟨0x1100054, 1, 0x0, 1, 0, 0x4151, 0xffffff, 0, 0, 0, 0, 0, 0, 0x120⟩
  | .dispPclkFrac => ⟨0x1100058, 1, 0x0, 1, 0, 0x54c986, 0xffffff, 0, 0, 0, 0, 0, 0, 0x120⟩
  | .dispLink => ⟨0x110005c, 1, 0x0, 1, 0, 0x2e, 0x3f, 0, 0, 0, 0, 0, 0, 0x120⟩
  | .dispModeCommit => ⟨0x1100060, 1, 0x0, 1, 0, 0x0, 0, 0, 0, 0, 0, 0x7, 0, 0x120⟩
  | .dispFbCommit => ⟨0x1100074, 1, 0x0, 1, 0, 0x0, 0, 0, 0, 0, 0, 0x7, 0, 0x120⟩
  | .dispPlanePos => ⟨0x1100064, 1, 0x0, 1, 0, 0x0, 0xffffffff, 0, 0, 0, 0, 0, 0, 0x120⟩
  | .dispPlaneSize => ⟨0x1100068, 1, 0x0, 1, 0, 0x8700f00, 0xffffffff, 0, 0, 0, 0, 0, 0, 0x120⟩
  | .dispFbAddr => ⟨0x110006c, 1, 0x0, 1, 0, 0x0, 0xffffffff, 0, 0, 0, 0, 0, 0, 0x120⟩
  | .dispFbCfg => ⟨0x1100070, 1, 0x0, 1, 0, 0x403c00, 0x7fffff, 0, 0, 0, 0, 0, 0, 0x120⟩
  | .dispFbPending => ⟨0x1100078, 1, 0x0, 1, 0, 0x0, 0, 0xffff0003, 0, 0, 0, 0, 0, 0x120⟩
  | .dispBg => ⟨0x110007c, 1, 0x0, 1, 0, 0x0, 0xffffff, 0, 0, 0, 0, 0, 0, 0x120⟩
  | .dispLinebuf => ⟨0x1100080, 1, 0x0, 1, 0, 0x10, 0x3f, 0x7f0000, 0, 0, 0, 0, 0, 0x120⟩
  | .dispLineMatch => ⟨0x1100084, 1, 0x0, 1, 0, 0x0, 0xffff, 0, 0, 0, 0, 0, 0, 0x120⟩
  | .dispStatus => ⟨0x1100088, 1, 0x0, 1, 0, 0x0, 0, 0x6fffff, 0x100000, 0, 0, 0, 0, 0x120⟩
  | .dispFrameNum => ⟨0x110008c, 1, 0x0, 1, 0, 0x0, 0, 0xffffffff, 0, 0, 0, 0, 0, 0x120⟩
  | .dispIntStatus => ⟨0x1100090, 1, 0x0, 1, 0, 0x0, 0, 0, 0x7f, 0, 0, 0, 0, 0x120⟩
  | .dispIntEn => ⟨0x1100094, 1, 0x0, 1, 0, 0x0, 0x7f, 0, 0, 0, 0, 0, 0, 0x120⟩
  | .dispCount => ⟨0x11000a0, 1, 0x0, 8, 4, 0x0, 0, 0, 0, 0, 0xffffffff, 0, 0, 0x120⟩
  | .dispAuxCmd => ⟨0x11000c0, 1, 0x0, 1, 0, 0x0, 0xfffffff, 0x70000000, 0, 0, 0, 0, 0, 0x120⟩
  | .dispAuxData => ⟨0x11000d0, 1, 0x0, 4, 4, 0x0, 0xffffffff, 0, 0, 0, 0, 0, 0, 0x120⟩
  | .tdcInCfg => ⟨0x500040, 8, 0x1000, 1, 0, 0x0, 0xff, 0, 0, 0, 0, 0, 0x100, 0x140⟩
  | .tdcInOffset => ⟨0x500044, 8, 0x1000, 1, 0, 0x0, 0xffffffff, 0, 0, 0, 0, 0, 0, 0x140⟩
  | .tdcInStatus => ⟨0x500048, 8, 0x1000, 1, 0, 0x0, 0, 0x3fff, 0x4000, 0, 0, 0, 0, 0x140⟩
  | .tdcInEdges => ⟨0x50004c, 8, 0x1000, 2, 4, 0x0, 0, 0xffffffff, 0, 0, 0, 0, 0, 0x140⟩
  | .tdcInLast => ⟨0x500054, 8, 0x1000, 3, 4, 0x0, 0, 0xffffffff, 0, 0, 0, 0, 0, 0x140⟩
  | .tdcInCount => ⟨0x500060, 8, 0x1000, 4, 4, 0x0, 0, 0, 0, 0, 0xffffffff, 0, 0, 0x140⟩
  | .tdcOutCfg => ⟨0x508040, 1, 0x0, 1, 0, 0x64, 0xffff, 0, 0, 0, 0, 0, 0, 0x3ff⟩
  | .tdcMeasCfg => ⟨0x508100, 16, 0x40, 1, 0, 0x0, 0xfff, 0, 0, 0, 0, 0, 0, 0x3ff⟩
  | .tdcMeasP0Lo => ⟨0x508104, 16, 0x40, 1, 0, 0x3b9aca00, 0xffffffff, 0, 0, 0, 0, 0, 0, 0x3ff⟩
  | .tdcMeasP0Hi => ⟨0x508108, 16, 0x40, 1, 0, 0x0, 0x3ff, 0, 0, 0, 0, 0, 0, 0x3ff⟩
  | .tdcMeasP1Lo => ⟨0x50810c, 16, 0x40, 1, 0, 0x0, 0xffffffff, 0, 0, 0, 0, 0, 0, 0x3ff⟩
  | .tdcMeasP1Hi => ⟨0x508110, 16, 0x40, 1, 0, 0x0, 0x3ff, 0, 0, 0, 0, 0, 0, 0x3ff⟩
  | .tdcMeasCmd => ⟨0x508114, 16, 0x40, 1, 0, 0x0, 0, 0, 0, 0, 0, 0x3, 0, 0x3ff⟩
  | .tdcMeasStatus => ⟨0x508118, 16, 0x40, 1, 0, 0x0, 0, 0x7f, 0x80, 0, 0, 0, 0, 0x3ff⟩
  | .tdcMeasCount => ⟨0x508120, 16, 0x40, 6, 4, 0x0, 0, 0, 0, 0, 0xffffffff, 0, 0, 0x3ff⟩
  | .dspCoreEntry => ⟨0x2000040, 24, 0x100000, 1, 0, 0x0, 0x7fff, 0, 0, 0, 0, 0, 0, 0x160⟩
  | .dspCoreStatus => ⟨0x2000044, 24, 0x100000, 1, 0, 0x0, 0, 0x3ff7fff, 0, 0, 0, 0, 0, 0x160⟩
  | .dspCoreHostMsg => ⟨0x2000048, 24, 0x100000, 1, 0, 0x0, 0xffffffff, 0, 0, 0, 0, 0, 0, 0x160⟩
  | .dspCoreBreak => ⟨0x200004c, 24, 0x100000, 1, 0, 0x0, 0xffff, 0, 0, 0, 0, 0x30000, 0, 0x160⟩
  | .dspCoreCount => ⟨0x2000060, 24, 0x100000, 8, 4, 0x0, 0, 0, 0, 0, 0xffffffff, 0, 0, 0x160⟩
  | .dspClStart => ⟨0x1200000, 1, 0x0, 1, 0, 0x0, 0, 0, 0, 0, 0, 0xffffff, 0, 0x3ff⟩
  | .dspClStatus => ⟨0x1200004, 1, 0x0, 2, 4, 0x0, 0, 0xffffff, 0, 0, 0, 0, 0, 0x3ff⟩
  | .cmpCfg => ⟨0x1800040, 8, 0x1000, 1, 0, 0x0, 0, 0, 0, 0, 0, 0, 0x1, 0x180⟩
  | .cmpStreamCfg => ⟨0x1800044, 8, 0x1000, 1, 0, 0x8001, 0x3ffff, 0, 0, 0, 0, 0, 0, 0x180⟩
  | .cmpFlush => ⟨0x1800048, 8, 0x1000, 1, 0, 0x3e8, 0xffff, 0, 0, 0, 0, 0, 0, 0x180⟩
  | .cmpJobCmd => ⟨0x180004c, 8, 0x1000, 1, 0, 0x0, 0, 0, 0, 0, 0, 0x3, 0, 0x180⟩
  | .cmpStatus => ⟨0x1800050, 8, 0x1000, 1, 0, 0x0, 0, 0x3ffe, 0x1, 0, 0, 0, 0, 0x180⟩
  | .cmpStreamOffset => ⟨0x1800058, 8, 0x1000, 2, 4, 0x0, 0, 0xffffffff, 0, 0, 0, 0, 0, 0x180⟩
  | .cmpJobDesc => ⟨0x1800080, 8, 0x1000, 16, 4, 0x0, 0xffffffff, 0, 0, 0, 0, 0, 0, 0x180⟩
  | .cmpJobResult => ⟨0x18000c0, 8, 0x1000, 4, 4, 0x0, 0, 0xffffffff, 0, 0, 0, 0, 0, 0x180⟩
  | .cmpCount => ⟨0x18000e0, 8, 0x1000, 8, 4, 0x0, 0, 0, 0, 0, 0xffffffff, 0, 0, 0x180⟩
  | .hbmPcStatus => ⟨0x1900040, 64, 0x1000, 1, 0, 0x3ff0, 0, 0x3ff7, 0, 0, 0, 0, 0, 0x1c0⟩
  | .hbmPcCount => ⟨0x1900060, 64, 0x1000, 8, 4, 0x0, 0, 0, 0, 0, 0xffffffff, 0, 0, 0x1c0⟩
  | .hbmStackStatus => ⟨0x1940000, 2, 0x1000, 1, 0, 0x0, 0, 0x3fff7, 0x8, 0, 0, 0, 0, 0x3ff⟩
  | .hbmStackCmd => ⟨0x1940004, 2, 0x1000, 1, 0, 0x0, 0, 0, 0, 0, 0, 0x1, 0, 0x3ff⟩
  | .hbmSnap => ⟨0x1940040, 2, 0x1000, 16, 4, 0x0, 0, 0xffffffff, 0, 0, 0, 0, 0, 0x3ff⟩
  | .hbmFreq => ⟨0x1950000, 1, 0x0, 1, 0, 0x0, 0x7, 0x7f0, 0, 0, 0, 0x8, 0, 0x3ff⟩
  | .hbmRdCfg => ⟨0x1950004, 1, 0x0, 1, 0, 0x800, 0x1ffff, 0, 0, 0, 0, 0, 0, 0x3ff⟩
  | .hbmFence => ⟨0x1950008, 1, 0x0, 2, 4, 0x0, 0, 0xffffffff, 0, 0, 0, 0, 0, 0x3ff⟩
  | .hostLink => ⟨0x1b00040, 1, 0x0, 1, 0, 0x0, 0, 0x1fff, 0, 0, 0, 0, 0, 0x200⟩
  | .hostFnVec => ⟨0x1b00080, 1, 0x0, 16, 4, 0x0, 0, 0, 0, 0, 0, 0, 0xffffff, 0x200⟩
  | .hostWin => ⟨0x1b000c0, 1, 0x0, 16, 4, 0x0, 0xffffffff, 0, 0, 0, 0, 0, 0, 0x200⟩
  | .hostIrqMap => ⟨0x1b00100, 1, 0x0, 32, 4, 0x0, 0xffff, 0, 0, 0, 0, 0, 0, 0x200⟩
  | .hostCount => ⟨0x1b00200, 1, 0x0, 8, 4, 0x0, 0, 0, 0, 0, 0xffffffff, 0, 0, 0x200⟩
  | .hostBind => ⟨0x1b10000, 1, 0x0, 1024, 4, 0x0, 0, 0, 0, 0, 0, 0, 0x3fff, 0x200⟩
  | .hostFlumeCfg => ⟨0x1c00000, 4096, 0x40, 1, 0, 0x0, 0x3fffffff, 0, 0, 0, 0, 0, 0, 0x200⟩
  | .hostFlumeFreeBaseLo => ⟨0x1c00004, 4096, 0x40, 1, 0, 0x0, 0xffffffff, 0, 0, 0, 0, 0, 0, 0x200⟩
  | .hostFlumeFreeBaseHi => ⟨0x1c00008, 4096, 0x40, 1, 0, 0x0, 0xffffffff, 0, 0, 0, 0, 0, 0, 0x200⟩
  | .hostFlumeCplBaseLo => ⟨0x1c0000c, 4096, 0x40, 1, 0, 0x0, 0xffffffff, 0, 0, 0, 0, 0, 0, 0x200⟩
  | .hostFlumeCplBaseHi => ⟨0x1c00010, 4096, 0x40, 1, 0, 0x0, 0xffffffff, 0, 0, 0, 0, 0, 0, 0x200⟩
  | .hostFlumeFreeIdx => ⟨0x1c00014, 4096, 0x40, 1, 0, 0x0, 0xffff, 0xffff0000, 0, 0, 0, 0, 0, 0x200⟩
  | .hostFlumeCplIdx => ⟨0x1c00018, 4096, 0x40, 1, 0, 0x0, 0xffff, 0xffff0000, 0, 0, 0, 0, 0, 0x200⟩
  | .hostFlumeIrq => ⟨0x1c0001c, 4096, 0x40, 1, 0, 0x3e80000, 0xffffffff, 0, 0, 0, 0, 0, 0, 0x200⟩
  | .hostFlumeSpill => ⟨0x1c00020, 4096, 0x40, 1, 0, 0x0, 0x1ffff, 0, 0, 0, 0, 0, 0, 0x200⟩
  | .hostFlumeCmd => ⟨0x1c00024, 4096, 0x40, 1, 0, 0x0, 0, 0, 0, 0, 0, 0x7, 0, 0x200⟩
  | .hostFlumeStatus => ⟨0x1c00028, 4096, 0x40, 1, 0, 0x0, 0, 0xfffb, 0x4, 0, 0, 0, 0, 0x200⟩
  | .hostFlumeSeq => ⟨0x1c0002c, 4096, 0x40, 1, 0, 0x0, 0, 0xffffffff, 0, 0, 0, 0, 0, 0x200⟩
  | .hostFlumeCount => ⟨0x1c00030, 4096, 0x40, 4, 4, 0x0, 0, 0, 0, 0, 0xffffffff, 0, 0, 0x200⟩
  | .mgtMcStatus => ⟨0x200040, 1, 0x0, 2, 4, 0x0, 0, 0xffff00ff, 0, 0, 0, 0, 0, 0x210⟩
  | .mgtMcCmd => ⟨0x200048, 1, 0x0, 2, 4, 0x0, 0, 0, 0, 0, 0, 0x1, 0, 0x210⟩
  | .mgtCvTx => ⟨0x200100, 1, 0x0, 16, 4, 0x0, 0xffffffff, 0, 0, 0, 0, 0, 0, 0x210⟩
  | .mgtCvSend => ⟨0x200140, 1, 0x0, 1, 4, 0x0, 0, 0, 0, 0, 0, 0x3ff3f, 0, 0x210⟩
  | .mgtCvTxstat => ⟨0x200144, 1, 0x0, 1, 4, 0x0, 0, 0, 0, 0, 0xffff7fff, 0, 0, 0x210⟩
  | .mgtDbRing => ⟨0x200200, 1, 0x0, 8, 4, 0x0, 0, 0, 0, 0xffffffff, 0, 0, 0, 0x210⟩
  | .mgtDbClear => ⟨0x200220, 1, 0x0, 8, 4, 0x0, 0, 0, 0xffffffff, 0, 0, 0, 0, 0x210⟩
  | .mgtDbCfg => ⟨0x200400, 1, 0x0, 256, 4, 0x0, 0xff, 0, 0, 0, 0, 0, 0, 0x210⟩
  | .mgtHeadgate => ⟨0x200800, 1, 0x0, 32, 4, 0x0, 0xff, 0, 0, 0, 0, 0, 0, 0x210⟩
  | .mgtHeadgateForce => ⟨0x200880, 1, 0x0, 1, 0, 0x0, 0, 0, 0, 0, 0, 0x11f, 0, 0x210⟩
  | .mgtHeadgateContest => ⟨0x200890, 1, 0x0, 4, 4, 0x0, 0, 0xffffffff, 0, 0, 0, 0, 0, 0x210⟩
  | .mgtSmbStatus => ⟨0x200900, 1, 0x0, 1, 0, 0x58, 0, 0x7f, 0, 0, 0xffff00, 0, 0, 0x210⟩
  | .mgtCount => ⟨0x200a00, 1, 0x0, 8, 4, 0x0, 0, 0, 0, 0, 0xffffffff, 0, 0, 0x210⟩
  | .mgtCvCfg => ⟨0x210000, 64, 0x100, 1, 0, 0x0, 0xffff, 0, 0, 0, 0, 0, 0, 0x210⟩
  | .mgtCvStatus => ⟨0x210004, 64, 0x100, 1, 0, 0x0, 0, 0xf, 0, 0, 0, 0, 0, 0x210⟩
  | .mgtCvRxpop => ⟨0x210008, 64, 0x100, 1, 0, 0x0, 0, 0, 0, 0, 0, 0xf, 0, 0x210⟩
  | .mgtCvRxhdr => ⟨0x210020, 64, 0x100, 8, 4, 0x0, 0, 0xffffffff, 0, 0, 0, 0, 0, 0x210⟩
  | .mgtCvRx => ⟨0x210040, 64, 0x100, 16, 4, 0x0, 0, 0xffffffff, 0, 0, 0, 0, 0, 0x210⟩
  | .auditCfg => ⟨0x100000, 1, 0x0, 1, 0, 0xa0019, 0xfffff, 0, 0, 0, 0, 0, 0, 0x3ff⟩
  | .auditSeq => ⟨0x100004, 1, 0x0, 1, 0, 0x0, 0, 0xffffffff, 0, 0, 0, 0, 0, 0x3ff⟩
  | .auditOldest => ⟨0x100008, 1, 0x0, 1, 0, 0x0, 0, 0xffffffff, 0, 0, 0, 0, 0, 0x3ff⟩
  | .auditCopy => ⟨0x10000c, 1, 0x0, 1, 0, 0x0, 0, 0xffffffff, 0, 0, 0, 0, 0, 0x3ff⟩
  | .auditLost => ⟨0x100010, 1, 0x0, 1, 0, 0x0, 0, 0, 0, 0, 0xffffffff, 0, 0, 0x3ff⟩
  | .auditEntry => ⟨0x180000, 1, 0x0, 131072, 4, 0x0, 0, 0xffffffff, 0, 0, 0, 0, 0, 0x3ff⟩
  | .calCmd => ⟨0x1d00040, 1, 0x0, 1, 0, 0x0, 0, 0, 0, 0, 0, 0x77f, 0, 0x220⟩
  | .calSeqStatus => ⟨0x1d00044, 1, 0x0, 1, 0, 0x0, 0, 0x1ffff, 0, 0, 0, 0, 0, 0x220⟩
  | .calBlockStatus => ⟨0x1d00100, 1, 0x0, 65, 4, 0x0, 0, 0xff, 0, 0, 0, 0, 0, 0x220⟩
  | .calCount => ⟨0x1d00280, 1, 0x0, 65, 4, 0x0, 0, 0xffffffff, 0, 0, 0, 0, 0, 0x220⟩
  | .calLastTime => ⟨0x1d00400, 65, 0x10, 3, 4, 0x0, 0, 0xffffffff, 0, 0, 0, 0, 0, 0x220⟩
  | .calStage => ⟨0x1d00c00, 1, 0x0, 32, 4, 0x0, 0xffffffff, 0, 0, 0, 0, 0, 0, 0x220⟩
  | .calRec => ⟨0x1d10000, 65, 0x80, 32, 4, 0x0, 0, 0xffffffff, 0, 0, 0, 0, 0, 0x220⟩
  | .calFuseRec => ⟨0x1d20000, 65, 0x80, 32, 4, 0x0, 0, 0xffffffff, 0, 0, 0, 0, 0, 0x220⟩
  | .auxCfg => ⟨0x1e00040, 1, 0x0, 1, 0, 0x0, 0, 0, 0, 0, 0, 0, 0x3, 0x230⟩
  | .auxConv => ⟨0x1e00044, 1, 0x0, 1, 0, 0x603, 0x3f7f, 0, 0, 0, 0, 0, 0, 0x230⟩
  | .auxScan => ⟨0x1e00048, 1, 0x0, 1, 0, 0x3f00, 0xffffffff, 0, 0, 0, 0, 0, 0, 0x230⟩
  | .auxCmd => ⟨0x1e0004c, 1, 0x0, 1, 0, 0x0, 0, 0, 0, 0, 0, 0x7, 0, 0x230⟩
  | .auxStatus => ⟨0x1e00050, 1, 0x0, 1, 0, 0x0, 0, 0x1f7, 0x8, 0, 0, 0, 0, 0x230⟩
  | .auxBufIdx => ⟨0x1e00054, 1, 0x0, 1, 0, 0x0, 0xffff, 0xffff0000, 0, 0, 0, 0, 0, 0x230⟩
  | .auxFlush => ⟨0x1e00058, 1, 0x0, 1, 0, 0x3e8, 0xffff, 0, 0, 0, 0, 0, 0, 0x230⟩
  | .auxCount => ⟨0x1e00060, 1, 0x0, 4, 4, 0x0, 0, 0, 0, 0, 0xffffffff, 0, 0, 0x230⟩
  | .auxResult => ⟨0x1e00100, 1, 0x0, 32, 4, 0x0, 0, 0x7ffffff, 0, 0, 0, 0, 0, 0x230⟩
  | .auxWinLo => ⟨0x1e00200, 1, 0x0, 32, 4, 0x800000, 0xffffff, 0, 0, 0, 0, 0, 0, 0x230⟩
  | .auxWinHi => ⟨0x1e00280, 1, 0x0, 32, 4, 0x7fffff, 0xffffff, 0, 0, 0, 0, 0, 0, 0x230⟩
  | .auxWinCfg => ⟨0x1e00300, 1, 0x0, 32, 4, 0x300, 0xffff0001, 0x300, 0, 0, 0, 0, 0, 0x230⟩
  | .auxWinStatus => ⟨0x1e00380, 1, 0x0, 1, 0, 0x0, 0, 0, 0xffffffff, 0, 0, 0, 0, 0x230⟩
  | .auxBuf => ⟨0x1e10000, 1, 0x0, 16384, 4, 0x0, 0, 0xffffffff, 0, 0, 0, 0, 0, 0x230⟩
  | .pwrStatus => ⟨0x1f00040, 1, 0x0, 1, 0, 0x0, 0, 0xff33, 0xc, 0, 0, 0, 0, 0x240⟩
  | .pwrCmd => ⟨0x1f00044, 1, 0x0, 1, 0, 0x0, 0, 0, 0, 0, 0, 0x1, 0, 0x240⟩
  | .pwrSleepCfg => ⟨0x1f00048, 1, 0x0, 1, 0, 0x3c0200, 0xffffff01, 0, 0, 0, 0, 0, 0, 0x240⟩
  | .pwrDomain => ⟨0x1f00050, 1, 0x0, 5, 4, 0x0, 0, 0xffffffff, 0, 0, 0, 0, 0, 0x240⟩
  | .pwrClock => ⟨0x1f00068, 1, 0x0, 2, 4, 0x0, 0, 0xffffffff, 0, 0, 0, 0, 0, 0x240⟩
  | .pwrSchedEn => ⟨0x1f00070, 1, 0x0, 2, 4, 0x0, 0xffffffff, 0, 0, 0, 0, 0, 0, 0x240⟩
  | .pwrCount => ⟨0x1f00080, 1, 0x0, 8, 4, 0x0, 0, 0, 0, 0, 0xffffffff, 0, 0, 0x240⟩
  | .pwrSchedNext => ⟨0x1f00200, 64, 0x8, 2, 4, 0x0, 0, 0xffffffff, 0, 0, 0, 0, 0, 0x240⟩
  | .pwrSchedCount => ⟨0x1f00400, 1, 0x0, 64, 4, 0x0, 0, 0, 0, 0, 0xffffffff, 0, 0, 0x240⟩
  | .globalFaultStatus => ⟨0x20000, 1, 0x0, 1, 0, 0x0, 0, 0x27f, 0xd80, 0, 0, 0, 0, 0x0⟩
  | .globalFaultMask => ⟨0x20004, 1, 0x0, 1, 0, 0xbff, 0xfff, 0, 0, 0, 0, 0, 0, 0x0⟩
  | .globalFaultCount => ⟨0x20010, 1, 0x0, 8, 4, 0x0, 0, 0, 0, 0, 0xffffffff, 0, 0, 0x0⟩
  | .globalFaultLast => ⟨0x20040, 1, 0x0, 16, 4, 0x0, 0, 0xffffffff, 0, 0, 0, 0, 0, 0x0⟩
  | .globalBootStatus => ⟨0x30000, 1, 0x0, 1, 0, 0x0, 0, 0xffff0fff, 0, 0, 0, 0, 0, 0x0⟩
  | .globalBootTime => ⟨0x30004, 1, 0x0, 4, 4, 0x0, 0, 0xffffffff, 0, 0, 0, 0, 0, 0x0⟩
  | .globalResetCmd => ⟨0x30020, 1, 0x0, 1, 0, 0x0, 0, 0, 0, 0, 0, 0x3ffff, 0, 0x0⟩
  | .globalId => ⟨0x40, 1, 0x0, 1, 0, 0x0, 0, 0xffff3f07, 0, 0, 0, 0, 0, 0x0⟩
  | .capUnits => ⟨0x44, 1, 0x0, 2, 4, 0x0, 0, 0xffffffff, 0, 0, 0, 0, 0, 0x0⟩
  | .capMemory => ⟨0x4c, 1, 0x0, 2, 4, 0x0, 0, 0xffffffff, 0, 0, 0, 0, 0, 0x0⟩
  | .capLinks => ⟨0x54, 1, 0x0, 2, 4, 0x0, 0, 0xffffffff, 0, 0, 0, 0, 0, 0x0⟩

/-- A part of the list of all registers. -/
def regList0 : List Reg :=
  [.globalPlanSrc, .globalPlanLen, .globalPlanCmd, .globalPlanStatus, .globalPlanEpoch, .globalPlanDigest,
   .timeNow, .timeSet, .timeCfg, .timeLockCfg, .timeRefOffset, .timeEfc,
   .timeRate, .timeCmd, .timeStatus, .timeJumpLimit, .timeSlewRate, .timeMeas,
   .synCfg, .synStatus, .synPhase, .synSysrefCfg, .synSysrefDelay, .timeSyncCfg,
   .timeSyncResult, .ingLinkCfg, .ingLinkTiming, .ingPeriodLo, .ingPeriodHi, .ingAdcDelay,
   .ingLaneMapLo, .ingLaneMapHi, .ingTagCfg, .ingLinkStatus, .ingLinkCmd, .ingCount,
   .ingLaneCfg, .ingLaneStatus, .ingHbCoef, .tunCfg]
/-- A part of the list of all registers. -/
def regList1 : List Reg :=
  [.tunNcoFreqLo, .tunNcoFreqHi, .tunNcoPhase, .tunOutCfg, .tunCommit, .tunCommitTime,
   .tunStatus, .tunCount, .tunChzCfg, .tunChzGroup, .tunChzCoefAddr, .tunChzCoefData,
   .tunChzCount, .tunHbCoef, .tunFirCoef, .specCfg, .specFft, .specHop,
   .specScale, .specOut, .specOutFirst, .specOutCount, .specDet, .specDetFirst,
   .specDetSpan, .specTrace, .specCommit, .specCommitTime, .specStatus, .specWinAddr,
   .specWinData, .specWinEnbw, .specWinRef, .specSeq, .specCount, .specCoreCount,
   .trigTdCfg, .trigTdLevel, .trigTdHyst, .trigTdMagLo]
/-- A part of the list of all registers. -/
def regList2 : List Reg :=
  [.trigTdMagHi, .trigTdWmin, .trigTdWmax, .trigFmCfg, .trigFmMinbins, .trigDensBoxX,
   .trigDensBoxY, .trigDensCfg, .trigCommit, .trigStatus, .trigMaskAddr, .trigMaskData,
   .trigCount, .trigWeirCfg, .trigWeirIn, .trigWeirInv, .trigWeirDelay, .trigWeirWindow,
   .trigWeirHoldoff, .trigWeirCountN, .trigWeirCmd, .trigWeirStatus, .trigWeirFires, .trigWeirIgnored,
   .trigWeirLast, .trigOutCfg, .trigOutClr, .trigOutState, .trigSwPulse, .trigSwLevel,
   .trigEvtCfg, .acqCfg, .acqSegCount, .acqWeir, .acqCmd, .acqStatus,
   .acqProgress, .acqReadCfg, .acqReadFirst, .acqReadCount]
/-- A part of the list of all registers. -/
def regList3 : List Reg :=
  [.acqMtCfg, .acqMtAddr, .acqMtData, .acqCount, .acqSrcCfg, .acqSrcPre,
   .acqSrcPost, .acqSrcSlot, .densCfg, .densMap, .densPersist, .densFrame,
   .densOut, .densIndexGain, .densFbBase, .densFbPitch, .densCommit, .densStatus,
   .densFrameNum, .densCount, .densCmap, .dispCfg, .dispHTotal, .dispVTotal,
   .dispHSync, .dispVSync, .dispPclk, .dispPclkFrac, .dispLink, .dispModeCommit,
   .dispFbCommit, .dispPlanePos, .dispPlaneSize, .dispFbAddr, .dispFbCfg, .dispFbPending,
   .dispBg, .dispLinebuf, .dispLineMatch, .dispStatus]
/-- A part of the list of all registers. -/
def regList4 : List Reg :=
  [.dispFrameNum, .dispIntStatus, .dispIntEn, .dispCount, .dispAuxCmd, .dispAuxData,
   .tdcInCfg, .tdcInOffset, .tdcInStatus, .tdcInEdges, .tdcInLast, .tdcInCount,
   .tdcOutCfg, .tdcMeasCfg, .tdcMeasP0Lo, .tdcMeasP0Hi, .tdcMeasP1Lo, .tdcMeasP1Hi,
   .tdcMeasCmd, .tdcMeasStatus, .tdcMeasCount, .dspCoreEntry, .dspCoreStatus, .dspCoreHostMsg,
   .dspCoreBreak, .dspCoreCount, .dspClStart, .dspClStatus, .cmpCfg, .cmpStreamCfg,
   .cmpFlush, .cmpJobCmd, .cmpStatus, .cmpStreamOffset, .cmpJobDesc, .cmpJobResult,
   .cmpCount, .hbmPcStatus, .hbmPcCount, .hbmStackStatus]
/-- A part of the list of all registers. -/
def regList5 : List Reg :=
  [.hbmStackCmd, .hbmSnap, .hbmFreq, .hbmRdCfg, .hbmFence, .hostLink,
   .hostFnVec, .hostWin, .hostIrqMap, .hostCount, .hostBind, .hostFlumeCfg,
   .hostFlumeFreeBaseLo, .hostFlumeFreeBaseHi, .hostFlumeCplBaseLo, .hostFlumeCplBaseHi, .hostFlumeFreeIdx, .hostFlumeCplIdx,
   .hostFlumeIrq, .hostFlumeSpill, .hostFlumeCmd, .hostFlumeStatus, .hostFlumeSeq, .hostFlumeCount,
   .mgtMcStatus, .mgtMcCmd, .mgtCvTx, .mgtCvSend, .mgtCvTxstat, .mgtDbRing,
   .mgtDbClear, .mgtDbCfg, .mgtHeadgate, .mgtHeadgateForce, .mgtHeadgateContest, .mgtSmbStatus,
   .mgtCount, .mgtCvCfg, .mgtCvStatus, .mgtCvRxpop]
/-- A part of the list of all registers. -/
def regList6 : List Reg :=
  [.mgtCvRxhdr, .mgtCvRx, .auditCfg, .auditSeq, .auditOldest, .auditCopy,
   .auditLost, .auditEntry, .calCmd, .calSeqStatus, .calBlockStatus, .calCount,
   .calLastTime, .calStage, .calRec, .calFuseRec, .auxCfg, .auxConv,
   .auxScan, .auxCmd, .auxStatus, .auxBufIdx, .auxFlush, .auxCount,
   .auxResult, .auxWinLo, .auxWinHi, .auxWinCfg, .auxWinStatus, .auxBuf,
   .pwrStatus, .pwrCmd, .pwrSleepCfg, .pwrDomain, .pwrClock, .pwrSchedEn,
   .pwrCount, .pwrSchedNext, .pwrSchedCount, .globalFaultStatus]
/-- A part of the list of all registers. -/
def regList7 : List Reg :=
  [.globalFaultMask, .globalFaultCount, .globalFaultLast, .globalBootStatus, .globalBootTime, .globalResetCmd,
   .globalId, .capUnits, .capMemory, .capLinks]

/-- Every register of R696. -/
def allRegs : List Reg := regList0 ++ regList1 ++ regList2 ++ regList3 ++ regList4 ++ regList5 ++ regList6 ++ regList7

/-- BAR0 offset of word j of instance i of register r. -/
def Reg.off (r : Reg) (i j : Nat) : Nat := r.info.base + i * r.info.s1 + j * r.info.s2

/-- The value of word j of instance i after RESET_N. The three registers whose reset differs by instance are
MGT_CV_CFG (0x20, 0x21, then 0) and the window registers of auxiliary channels 8 to 13. -/
def Reg.resetVal (r : Reg) (i j : Nat) : BitVec 32 :=
  if r = .mgtCvCfg then (if i = 0 then 0x20#32 else if i = 1 then 0x21#32 else 0#32)
  else if r = .auxWinLo then (if 8 ≤ j ∧ j ≤ 13 then 0x00451EB8#32 else 0x00800000#32)
  else if r = .auxWinHi then (if 8 ≤ j ∧ j ≤ 13 then 0x005EB851#32 else 0x007FFFFF#32)
  else if r = .auxWinCfg then (if 8 ≤ j ∧ j ≤ 13 then 0x301#32 else 0x300#32)
  else BitVec.ofNat 32 r.info.reset

/-- The register, instance and word at a BAR0 offset, if it lies in register r. -/
def Reg.hit? (off : Nat) (r : Reg) : Option (Reg × Nat × Nat) :=
  let k := r.info
  if off < k.base then none
  else
    let d := off - k.base
    let i := if k.s1 = 0 then 0 else d / k.s1
    let e := d - i * k.s1
    let j := if k.s2 = 0 then 0 else e / k.s2
    if i < k.n1 ∧ j < k.n2 ∧ e = j * k.s2 then some (r, i, j) else none

/-- Which register word lies at a BAR0 offset. -/
def regAt (off : Nat) : Option (Reg × Nat × Nat) := allRegs.findSome? (Reg.hit? off)

end Sys2Proof.Machine
end

