-- ==== Sys2Proof/Machine/StateSystem.lean ====
section
/-! DEFINITION. The state of the units that serve the whole engine: unit headers, events, faults, the audit log, the
sluice plan, device time, the host interface, the management complex, power and start-up. -/

namespace Sys2Proof.Machine

/-- Unit states (01_architecture.md R37). -/
inductive UState where
  | off | gated | ready | running | draining | fault | frozen
  deriving DecidableEq, Repr

/-- What one unit header holds (24_register_map.md R692), beside what R18 and R21 fix. -/
structure UnitRec where
  state : UState
  cmdErr : Bool
  /-- 0 none, 1 ABORTED, 2 ALREADY_COMPLETE -/
  abortResult : Nat
  epoch : BitVec 32
  evtMask : BitVec 32
  cause : Nat
  faultCount : Nat
  detail : Nat
  /-- 0 HOLD, 1 GATEABLE, 2 SURVEY (02 R103) -/
  policy : Nat
  deriving DecidableEq, Repr

/-- One field of an event's data with its width (16_host_and_flumes.md R556). -/
inductive EvField where
  | u16 (x : Nat)
  | u32 (x : Nat)
  | u64 (x : Nat)
  | s32 (x : Int)
  | time (t : Stamp)
  /-- a list of unit codes, ended by 0xFFFF when it is shorter than lim -/
  | codes (lim : Nat) (cs : List Nat)
  deriving DecidableEq, Repr

/-- A committed event (01 R51, R52; 16 R555). -/
structure EventRec where
  code : Nat
  unit : Nat
  seq : Nat
  time : Stamp
  epoch : BitVec 32
  planEpoch : BitVec 32
  checkFailed : Bool
  data : List EvField
  /-- false where UNIT_EVT_MASK masks it (24 R694) -/
  delivered : Bool
  deriving DecidableEq, Repr

/-- A rate-limited event whose 1 ms window runs, with what has accumulated (21_faults.md R638). -/
structure RateRec where
  code : Nat
  unit : Nat
  qual : List EvField
  count : Nat
  /-- fields after the count: those of the latest occurrence -/
  tail : List EvField
  deriving DecidableEq, Repr

/-- A fault record (21 R648): its payload words and the header fields that are its own. -/
structure FaultRec where
  payload : List Word
  evSeq : Nat
  time : Stamp
  origin : BitVec 64
  deriving DecidableEq, Repr

/-- One audit entry (17_culverts_and_audit.md R586). -/
structure AuditEntry where
  seq : BitVec 32
  kind : Nat
  agent : AgentId
  code : Nat
  time : Stamp
  target : BitVec 32
  value : BitVec 32
  /-- the up time at which it was made (17 R589) -/
  born : Nat
  deriving DecidableEq, Repr

/-- What the fuses and the package give the part (00 R1, 02 R109, 04 R189, 24 GLOBAL_ID). -/
structure Fuses where
  /-- 0 UWK6480-A, 1 UWK6480-M, 2 UWK6440-E -/
  variant : Nat
  stepping : Nat
  /-- the twelve half-band coefficients -/
  hbCoef : List Nat
  vendorHash : Nat
  integHash : Nat
  /-- fused calibration records: block, its 32 words, whether its fused CRC-32C matches (18 R594) -/
  trim : List (Nat × List Word × Bool)
  deriving DecidableEq, Repr

/-! The sluice plan (02_sluice_plan.md). -/

/-- A UNITS entry (02 R71). -/
structure PlanUnit where
  unit : Nat
  target : Nat
  force : Bool
  deriving DecidableEq, Repr

/-- A ROUTES entry (02 R77). -/
structure PlanRoute where
  id : Nat
  mode : Nat
  count : Nat
  port : Nat
  stream : Nat
  rate : Nat
  /-- the eight consumer slots: port and stream -/
  slots : List (Nat × Nat)
  deriving DecidableEq, Repr

/-- An OWNERS entry (02 R81). -/
structure PlanOwner where
  block : Nat
  count : Nat
  agents : List Nat
  deriving DecidableEq, Repr

/-- An HBMMAP region (02 R90). -/
structure PlanRegion where
  id : Nat
  owner : Nat
  flags : Nat
  base : Nat
  size : Nat
  bandwidth : Nat
  deriving DecidableEq, Repr

/-- A DSPIMG entry (02 R97). -/
structure PlanDsp where
  unit : Nat
  entry : Nat
  p : List Word
  x : List Word
  y : List Word
  deriving DecidableEq, Repr

/-- A REGINIT entry (02 R100). -/
structure PlanInit where
  off : Nat
  value : BitVec 32
  mask : BitVec 32
  deriving DecidableEq, Repr

/-- A POWER entry (02 R103). -/
structure PlanPower where
  unit : Nat
  policy : Nat
  delay : Nat
  deriving DecidableEq, Repr

/-- A SCHEDULE entry (02 R105). -/
structure PlanSched where
  id : Nat
  enabled : Bool
  count : Nat
  period : Nat
  first : Nat
  duration : Nat
  units : List Nat
  deriving DecidableEq, Repr

/-- The sections of a plan image, as the loader reads them (02 R62, R69). -/
structure PlanImg where
  planId : List Byte
  force : Bool
  length : Nat
  units : List PlanUnit
  routes : List PlanRoute
  owners : List PlanOwner
  sram : List (Nat × List Nat)
  order : Nat
  pcMask : Nat
  regions : List PlanRegion
  dsp : List PlanDsp
  inits : List PlanInit
  powerFlags : Nat
  pcIdle : Nat
  power : List PlanPower
  sched : List PlanSched
  key : Nat
  digest : Nat
  deriving DecidableEq, Repr

/-- A route in force (02 R80): its credit in bytes times 2^64, as of a device time. -/
structure Route where
  plan : PlanRoute
  credit : Int
  since : Nat
  /-- items dropped by the metering, and per consumer slot (01 R26) -/
  dropped : Nat
  slotDrops : List Nat
  /-- items held under BLOCK -/
  held : List Item
  /-- the plan epoch from which each consumer slot receives (02 R118) -/
  joined : List (BitVec 32)
  deriving DecidableEq, Repr

/-- A load in progress (02 R119). -/
structure LoadJob where
  origin : AgentId
  /-- 0 host, 1 slot 0, 2 slot 1, 3 the running image again (22 R670) -/
  source : Nat
  length : Nat
  img : Option PlanImg
  /-- the image's bytes as fetched (02 R111) -/
  bytes : List Byte
  changed : List Nat
  /-- state of each changed unit before the load -/
  before : List (Nat × UState)
  boot : Bool
  deriving DecidableEq, Repr

/-- The plan loader and what the running plan put in force. -/
structure PlanState where
  running : Option PlanImg
  load : Option LoadJob
  routes : List Route
  owners : List PlanOwner
  sram : List (Nat × List Nat)
  order : Nat
  pcMask : Nat
  regions : List PlanRegion
  /-- the running image's bytes, kept for survey wakes and warm restarts (20 R626, 22 R670) -/
  image : List Byte
  /-- units that an ended load left DRAINING, to start again when they have drained (02 R121) -/
  rearm : List Nat
  /-- survey wakes deferred by a load (02 R124): schedule entry and due time in seconds -/
  deferred : List (Nat × Nat)
  /-- items the fabric handed to a consumer: port, stream, item -/
  delivered : List (Nat × Nat × Item)
  /-- what each unit has handed to its fabric port -/
  offered : List Item
  deriving DecidableEq, Repr

/-! Device time (03_device_time.md). -/

/-- Servo states (03 R136). -/
inductive Servo where
  | free | acquire | locked | holdover | jumpWait | slew
  deriving DecidableEq, Repr

/-- What clocks device time (03 R133 to R135). -/
inductive TimeMode where
  | stopped | full | coarse | rc
  deriving DecidableEq, Repr

/-- A synchronisation frame in progress (03 R162 to R164): what it will do at E0 + L. -/
structure SyncJob where
  load : Bool
  seconds : Nat
  hop : Nat
  deriving DecidableEq, Repr

/-- One synthesiser (03 R153 to R158). -/
structure Syn where
  /-- 0 off, 1 not locked, 2 locked -/
  lock : Nat
  /-- locked at least once since it was last powered -/
  everLocked : Bool
  lossCount : Nat
  current : Int
  target : Int
  moving : Bool
  prediv : Nat
  mult : Nat
  postdiv : Nat
  deriving DecidableEq, Repr

/-- The time unit. -/
structure TimeState where
  sec : BitVec 48
  acc : BitVec 64
  mode : TimeMode
  /-- SYN_0 has locked since RESET_N (03 R133) -/
  started : Bool
  rate : BitVec 64
  /-- the next coarse tick adds 13 rate words (03 R134) -/
  coarseOdd : Bool
  ocxo : Bool
  /-- ESTIMATED held until SET or a synchronisation load (03 R135) -/
  estHold : Bool
  servo : Servo
  /-- LOCKED reached since the last RESET_N or SET (03 R137) -/
  everLocked : Bool
  qualified : Bool
  /-- the phase errors of the last 1,000 edges in ps, newest first (03 R141) -/
  errors : List Int
  /-- since when every error has lain in the window (03 R137), on the clock of up -/
  inWindow : Option Nat
  jump : Int
  /-- start of the slew under way, on the clock of up -/
  slewStart : Nat
  /-- CODE and rate correction at each edge of the last lock, with its time on the clock of up, newest first (03 R143) -/
  lockHist : List (Nat × Int × Int)
  rateCorr : Int
  /-- a slew is under way (03 R147) -/
  slewing : Bool
  /-- the last refresh of J in JUMP_WAIT, on the clock of up (03 R148) -/
  jumpSince : Nat
  /-- the warm-up timer has expired; its last start, on the clock of up (03 R145) -/
  warmExpired : Bool
  warmStart : Nat
  driftMeasured : Bool
  ocxoReady : Bool
  setHeld : Option Nat
  sync : Option SyncJob
  /-- device time at which the SYN_5 cycle count is 0 (03 R159) -/
  syn5Zero : Nat
  /-- number of steps of device time, and for each stamp source the number at its last stamp (03 R130) -/
  steps : Nat
  stamped : List (Nat × Nat)
  syn : Vector Syn 6
  /-- rising edges of the last gapped burst of each SYSREF_OUT, 0 for none (03 R160) -/
  sysrefLeft : Vector Nat 4
  /-- the SYN_5 cycle count of its first edge -/
  sysrefFrom : Vector Nat 4
  /-- the levels of SYSREF_OUT_0 to _3 (03 R156, R159) -/
  sysrefOut : Vector Bool 4
  /-- what the ticks have added to device time since RESET_N, steps left out, in 2^-64 s: the clock of every duration -/
  up : Nat
  /-- stream-clock cycles since RESET_N -/
  cycles : Nat
  /-- phase steps of SYN_0 that the next cycle adds into the accumulator (03 R132) -/
  phaseAdj : Int
  /-- CODE in 2^-48 of its LSB (03 R142) -/
  efcFine : Nat
  /-- synchronisation frames sent on SYNC_OUT, as their 96 data bits (03 R161) -/
  syncOut : List (BitVec 96)
  deriving DecidableEq, Repr

/-! The host interface (16_host_and_flumes.md). -/

/-- A record staged in a flume (16 R549, R553). -/
structure StagedRec where
  kind : Nat
  unit : Nat
  seq : BitVec 32
  evSeq : Nat
  time : Stamp
  planEpoch : BitVec 32
  epoch : BitVec 32
  crc : BitVec 32
  origin : BitVec 64
  checkFailed : Bool
  lostBefore : Bool
  spilled : Bool
  payload : List Word
  deriving DecidableEq, Repr

/-- The current buffer of a flume (16 R557 to R559). -/
structure FlumeBuf where
  addr : Nat
  length : Nat
  cookie : BitVec 32
  used : Nat
  records : Nat
  firstSeq : BitVec 32
  checkFailed : Bool
  deriving DecidableEq, Repr

/-- A completion entry (16 R560) before PHASE is known. -/
structure FlumeCpl where
  cookie : BitVec 32
  used : Nat
  records : Nat
  firstSeq : BitVec 32
  dropped : Nat
  flags : Nat
  deriving DecidableEq, Repr

/-- One flume: what its registers do not hold. -/
structure Flume where
  buf : Option FlumeBuf
  staged : List StagedRec
  spill : List StagedRec
  /-- completions that wait for room in the ring -/
  held : List FlumeCpl
  unsignalled : Nat
  /-- record sequence of the last record of the previous completion (16 R560) -/
  lastDone : BitVec 32
  /-- record sequence of the last record written -/
  lastSeq : BitVec 32
  lostBefore : Bool
  /-- a record write that failed once and waits for its retry (16 R565), and when it failed (21 R648) -/
  retry : Bool
  failedAt : Stamp
  deriving DecidableEq, Repr

/-- What the engine sends to the host: memory writes and MSI-X signals. -/
inductive HostOut where
  | recordWrite (flume addr : Nat) (header payload : List Word)
  | cplWrite (flume addr : Nat) (entry : List Word)
  | msix (function vector : Nat)
  deriving DecidableEq, Repr

/-- The host unit. -/
structure HostState where
  /-- flumes whose state differs from reset -/
  flumes : List (Nat × Flume)
  /-- functions with Bus Master Enable; virtual functions enabled (16 R562) -/
  busMaster : List Nat
  vfEnabled : List Nat
  /-- MSI-X tables: entries of each function, 16 bytes each as four words, and the pending bits -/
  msix : List (Nat × BitVec 32)
  msixPending : List Nat
  /-- items that wait at a consumer stream under BLOCK (16 R549): binding index and item -/
  waiting : List (Nat × Item)
  out : List HostOut
  deriving DecidableEq, Repr

/-! The management complex (17_culverts_and_audit.md). -/

/-- A queued culvert message (17 R572): the 8 header words, the 16 message words, and the send's doorbell fields. -/
structure CvMsg where
  sender : AgentId
  sendSeq : Nat
  header : List Word
  body : List Word
  doorbell : Nat
  dbEn : Bool
  dbAll : Bool
  deriving DecidableEq, Repr

/-- A culvert channel. -/
structure CvChan where
  queue : List CvMsg
  nextSeq : BitVec 32
  deriving DecidableEq, Repr

/-- An agent's bank (17 R571): its staged words, its completions (status, channel, send sequence), its next send
sequence. -/
structure CvBank where
  tx : List Word
  cpl : List (Nat × Nat × Nat)
  nextSend : Nat
  deriving DecidableEq, Repr

/-- A headgate (17 R580, R581). -/
structure Headgate where
  holder : AgentId
  ptr : Nat
  deriving DecidableEq, Repr

/-- The management unit. -/
structure MgtState where
  chans : Vector CvChan 64
  /-- banks by agent ID -/
  banks : List (Nat × CvBank)
  gates : Vector Headgate 32
  smbAddr : Nat
  smbRefused : Bool
  /-- the retained audit entries, oldest first (17 R588) -/
  log : List AuditEntry
  deriving DecidableEq, Repr

/-! Power and start-up (20_power_domains.md, 22_start_up.md). -/

/-- A survey run (20 R626): its schedule entry, the device time in 2^-64 s at which it began, the units it runs, whether
they have started, whether they are being drained. -/
structure SurveyRun where
  entry : Nat
  /-- wake time plus run duration, in device time (20 R626) -/
  stop : Nat
  units : List Nat
  started : Bool
  draining : Bool
  deriving DecidableEq, Repr

/-- The power unit and the AON domain. -/
structure PwrState where
  /-- the schedule in force, and for each entry ID the wakes served or passed -/
  sched : List PlanSched
  served : List (Nat × Nat)
  runs : List SurveyRun
  /-- units whose START out of GATED waits for their synthesiser (03 R156, 20 R623) -/
  waiting : List Nat
  asleep : Bool
  /-- copy of the schedule, of its progress and of PWR_SCHED_EN made at SLEEP (20 R628) -/
  aonSched : List PlanSched
  aonServed : List (Nat × Nat)
  aonEn : List Word
  /-- the present wakefulness began as a wake from sleep (20 R630) -/
  fromSleep : Bool
  /-- device time in 2^-64 s at which the last run of a wake from sleep ended -/
  runEnd : Option Nat
  shutdown : Bool
  /-- last temperatures in °C: die sensors 0 to 7, stacks 0 and 1 -/
  temps : List Int
  /-- µs in THROTTLE not yet counted -/
  throttleUs : Nat
  deriving DecidableEq, Repr

/-- Start-up and pins. -/
structure BootState where
  resetN : Bool
  aonResetN : Bool
  perstN : Bool
  engineId : Nat
  smbStrap : Nat
  faultN : Bool
  /-- fuse phase ended (22 R664, R665) -/
  fused : Bool
  /-- a warm restart in progress, with its SOURCE (22 R670) -/
  warm : Option Nat
  /-- the JTAG TAP controller is in its reset state -/
  tapReset : Bool
  linkTraining : Bool
  deriving DecidableEq, Repr

end Sys2Proof.Machine
end

