-- ==== Sys2Proof/Machine/ResetValues.lean ====
section
/-! DEFINITION. The parts of the state right after RESET_N. -/

namespace Sys2Proof.Machine

/-- A stamp before any. -/
def Stamp.zero : Stamp := { sec := 0, frac := 0, qual := 0 }

/-- A source with nothing stored. -/
def AcqSrc.reset : AcqSrc :=
  { fmt := 1, ib := 4, chunks := [], count := 0, next := 0, arm := none, trig := none, post := 0, done := false, last := none, ended := false }

/-- A unit right after RESET_N. -/
def AcqUnit.reset : AcqUnit :=
  { srcs := Vector.replicate 5 AcqSrc.reset, blocks := Vector.replicate 4 [], slots := 1, fire := none, held := [],
    stopping := none, opened := false, segMissed := 0,
    missed := [], missCounts := [0, 0, 0, 0, 0], segs := [], job := none, auto := [], tests := [], mask := [] }

/-- The converter right after RESET_N. -/
def Aux.reset : Aux :=
  { cur := none, last := none, ref := 0, lostSram := false, lostStream := false, blk := [], lostN := 0, seq := 0,
    first := true, blkAt := 0, lossRep := (0, 0) }

/-- A group with nothing in formation. -/
def ChzGroup.reset : ChzGroup :=
  { seq := 0, words := [], items := 0, time := 0, qual := 0, first := 0, flags := 0, origin := 0, epoch := 0, planEp := 0 }

/-- A channeliser right after RESET_N. -/
def Chz.reset : Chz :=
  { n := 0, hist := [], frame := 0, recs := [], lastSeq := none, ended := false, groups := Vector.replicate 16 ChzGroup.reset }

/-- An engine right after RESET_N. -/
def Cmp.reset : Cmp :=
  { blk := none, cfgWaits := false, first := true, offset := 0, seq := 0, queue := [], running := none, results := [] }

/-- The staged registers at their RESET_N values. -/
def DensSet.reset : DensSet :=
  { map := 0x0190CE00#32, persist := 0x00040004#32, frame := 0x0004F791#32, out := 0, gain := 0x03300100#32, pitch := 4096 }

/-- A frame with nothing received. -/
def DensFrame.start (num flags : Nat) : DensFrame :=
  { num := num, received := 0, hist := 0, turned := 0, flags := flags, width := 0, firstSeq := 0, lastSeq := 0,
    firstStamp := Stamp.zero, lastStamp := Stamp.zero, origin := 0, epoch := 0, planEp := 0 }

/-- An engine right after RESET_N. -/
def Dens.reset : Dens :=
  { set := DensSet.reset, commit := none, swap := false, cmap := [], zeroing := false, plane := [], queue := [],
    frame := DensFrame.start 0 0, sweep := none, ending := none, accum := 0, nextBuf := 0, spectra := [] }

/-- The staged timing registers at their RESET_N values. -/
def DispTiming.reset : DispTiming :=
  { hTotal := 0x0FA00F00#32, vTotal := 0x08AE0870#32, hSync := 0x10200F30#32, vSync := 0x00050873#32,
    pclk := 0x00004151#32, frac := 0x0054C986#32, link := 0x2E#32 }

/-- The unit right after RESET_N. -/
def Disp.reset : Disp :=
  { timing := DispTiming.reset, mode := none, plane := { addr := 0, cfg := 0x00403C00#32, pos := 0, size := 0x08700F00#32 },
    cap := none, bg := 0, next := 0, first := false, hold := false, planned := false, cause := 3, ended := false, line := [],
    lim := 0 }

/-- A core after START: every register 0, both stacks empty (12 R430); its input FIFOs and item sequences stay. -/
def Dsp.start (ins : Vector DspIn 2) (outs : Vector DspOut 2) : Dsp :=
  { d := Vector.replicate 8 0, a := Vector.replicate 4 0, p := Vector.replicate 8 0, m := Vector.replicate 8 0,
    l := Vector.replicate 8 0, pc := 0, loops := [], rets := [], savePc := Vector.replicate 3 0,
    saveStat := Vector.replicate 3 0, stat := 0, amr := 0, imr := 0, ipr := 0, timer := 0, timerAt := 0, reload := 0,
    time := [], sys := [], exec := .stopped, waiting := false, passBreak := false, rept := none, cache := none,
    hist := [], stallAt := none, ins := ins, outs := outs,
    dma := Vector.replicate 2 { busy := false, loc := 0, region := 0, offset := 0, len := 0, status := 0, done := 0 },
    bus := .idle }

/-- A core right after RESET_N. -/
def Dsp.reset : Dsp :=
  Dsp.start (Vector.replicate 2 { items := [], ended := false }) (Vector.replicate 2 { cur := none, seq := 0, first := true })

/-- A link right after RESET_N. -/
def Link.reset : Link :=
  { adcDelay := 0, adcStaged := none, aligned := false, edge := 0, edgeCyc := 0, edgeFine := 0, anchor := 0, idx := 0, renewed := 0, locked := [],
    synced := [], ilas := [], passed := false, seq := 0, items := [], flags := 0, start := 0, startEpoch := 0,
    startPlan := 0, lastSeq := 0, lastValid := 0, lastTime := 0, tick := none, sinceTick := none, mixN := 0, histI := [],
    histQ := [], badBlocks := [], crcLeft := 0, bad := [] }

/-- An agent's bank before its first use (17 R571). -/
def CvBank.reset : CvBank := { tx := List.replicate 16 0, cpl := [], nextSend := 0 }

/-- An unused channel. -/
def CvChan.reset : CvChan := { queue := [], nextSeq := 0 }

/-- A free headgate. -/
def Headgate.reset : Headgate := { holder := 0, ptr := 0 }

/-- An empty flume. -/
def Flume.reset : Flume :=
  { buf := none, staged := [], spill := [], held := [], unsignalled := 0, lastDone := 0xFFFFFFFF, lastSeq := 0xFFFFFFFF, lostBefore := false,
    retry := false, failedAt := ⟨0, 0, 0⟩ }

/-- A spectral engine right after RESET_N. -/
def Spec.reset : Spec :=
  { run := none, commit := none, gen := none, judged := none, base := 0, samples := [], recs := [], lastSeq := none, ended := false, newFlags := 0,
    traceBreak := false, begun := [], ready := [], seq := 0, bank := 0, form := none, formSet := none,
    entries := [], trace := none, traceSet := none, tacc := [], tcount := 0, tflags := 0, tcore := 0, tag := 0,
    want := 0, got := [] }

/-- An input right after RESET_N. -/
def TdcIn.reset : TdcIn :=
  { lastEdge := none, dead := false, lost := false, queue := [], blk := [], lostN := 0, deadN := 0, seq := 0, first := true }

/-- A channel right after RESET_N. -/
def TdcChan.reset : TdcChan := { queue := [], pending := [], ref := none, gate := none, lost := false }

/-- The unit right after RESET_N. -/
def Tdc.reset : Tdc :=
  { ins := Vector.replicate 8 TdcIn.reset, chans := Vector.replicate 16 TdcChan.reset, stamps := [], blk := [], blkEp := (0, 0), seq := 0,
    first := true }

/-- The nominal rate word (03 R131). -/
def nominalRate : Nat := 14757395259

/-- Synthesiser n. -/
def synDflt : Syn :=
  { lock := 0, everLocked := false, lossCount := 0, current := 0, target := 0, moving := false, prediv := 0, mult := 0,
    postdiv := 0 }

/-- A detector that has just started (07 R276). -/
def TdState.reset : TdState := { started := false, gap := false, prev := none, win := [], pulse := none }

/-- The set in force right after RESET_N: the registers' reset values. -/
def TrigSet.reset : TrigSet :=
  { td := List.replicate 4 { cfg := 0, level := 0, hyst := 0, magLo := 0, magHi := 0, wmin := 0, wmax := 0 },
    fm := List.replicate 4 (0, 1), densX := 0, densY := 0, dens := 0 }

/-- A trigger engine right after RESET_N. -/
def TrigEng.reset : TrigEng :=
  { run := TrigSet.reset, pendTd := none, pendFm := none, pendDens := none, td := Vector.replicate 4 TdState.reset,
    values := Vector.replicate 4 [], spectra := [], rows := [], hist := Vector.replicate 4 [], dens := [] }

/-- A weir right after RESET_N: disarmed. -/
def Weir.reset : Weir :=
  { armFrom := none, disarmAt := none, levels := 0, allHigh := false, levelAt := [0, 0, 0, 0], seqAt := 0, seqTo := 0,
    fireAt := [], holdTo := 0, ignored := 0, evIgnored := [0, 0, 0], line := [] }

/-- A TRIG_OUT pin right after RESET_N: inactive. -/
def OutPin.reset : OutPin := { active := false, mode := 0, invert := false, stop := 0, fired := false }

/-- The tree right after RESET_N. -/
def TreeState.reset : TreeState :=
  { net := [], weirs := Vector.replicate 16 Weir.reset, pins := Vector.replicate 8 OutPin.reset, lastOcc := [],
    fires := Vector.replicate 4 [], evt := 0, evtSeen := 0, dsp := 0, swPulse := [] }

/-- The filters after START or a restart (05 R209, R223). -/
def Tuner.clearPipe (h : Nat) (t : Tuner) : Tuner :=
  { t with n := 0, blk0 := 0, intI := List.replicate 5 0, intQ := List.replicate 5 0, combI := List.replicate 5 0,
           combQ := List.replicate 5 0, hb := List.replicate h ([], []), fir := ([], []), recs := [], m0 := 0, out := [],
           sat := false, judged := none }

/-- A tuner right after RESET_N. -/
def Tuner.reset : Tuner :=
  Tuner.clearPipe 0
    { acc := 0, ftw := 0, phase := 0, gain := 65536, bank := 0, marks := [], commit := none, starts := none,
      judged := none, n := 0, blk0 := 0, intI := [],
      intQ := [], combI := [], combQ := [], hb := [], fir := ([], []), recs := [], lastSeq := none, lastAcc := 0,
      lastTime := 0, seq := 0, m0 := 0, out := [], flags := 0, gen := 0, epoch := 0, planEp := 0, sat := false, fresh := false }

/-- The families of blocks: 0 TDC, 1 synthesiser, 2 converter, 3 receive lane (JESD or PCIe), 4 HBM stack. -/
def calFam (b : Nat) : Nat := if b < 8 then 0 else if b < 14 then 1 else if b = 14 then 2 else if b < 63 then 3 else 4

/-- The default content of a block's trim record, with the ball delay of a TDC input (18 R594). -/
def calDefaultWords (b : Nat) (delay : Int) : List Word :=
  padTo 32 0 (match calFam b with
    | 0 => [0xFFFFFFFF, 0, BitVec.ofNat 32 (unsgn 32 delay)]
        ++ (List.range 16).map fun k => BitVec.ofNat 32 (1250 * (2 * k) + 1250 * (2 * k + 1) * 2 ^ 16)
    | 1 => [0xFFFFFFFF, 0, 512]
    | 2 => [0xFFFF, 0]
    | 3 => [32]
    | _ => List.replicate 16 0x03FF03FF)

/-- The fuses of the part modelled: a UWK6480-A of stepping 0 without plan keys, whose half-band set sums to 32,768 and
whose trim records are the default contents (DESIGN CHOICE, log entry 4). -/
def Fuses.reset : Fuses :=
  { variant := 0, stepping := 0,
    hbCoef := [41480, 248951, 7202, 257690, 2846, 260337, 1115, 261490, 358, 261968, 76, 262119],
    vendorHash := 0, integHash := 0, trim := (List.range 65).map fun b => (b, calDefaultWords b 0, true) }

/-- No plan (02 R65). -/
def PlanState.reset : PlanState :=
  { running := none, load := none, routes := [], owners := [], sram := [], order := 0, pcMask := 0, regions := [],
    image := [], rearm := [], deferred := [], delivered := [], offered := [] }

/-- A synthesiser that is off, with its values (03 R154). -/
def synOff (prediv mult postdiv : Nat) : Syn := { synDflt with prediv := prediv, mult := mult, postdiv := postdiv }

/-- Device time stopped at 0 (03 R133), the servo in FREE. -/
def TimeState.reset : TimeState :=
  { sec := 0, acc := 0, mode := .stopped, started := false, rate := BitVec.ofNat 64 nominalRate, coarseOdd := false,
    ocxo := true, estHold := false, servo := .free, everLocked := false, qualified := false, errors := [],
    inWindow := none, jump := 0, slewStart := 0, lockHist := [], rateCorr := 0, slewing := false, jumpSince := 0,
    warmExpired := false, warmStart := 0, driftMeasured := false, ocxoReady := false, setHeld := none, sync := none,
    syn5Zero := 0, steps := 0, stamped := [],
    syn := ⟨#[synOff 2 25 1, synOff 1 15 1, synOff 1 32 1, synOff 1 21 4, synOff 1 25 1, synOff 2 25 1], rfl⟩,
    sysrefLeft := Vector.replicate 4 0, sysrefFrom := Vector.replicate 4 0,
    sysrefOut := Vector.replicate 4 false, up := 0, cycles := 0, phaseAdj := 0, efcFine := 0x8000 * 2 ^ 48, syncOut := [] }

/-- Every flume CLOSED, no virtual function enabled. -/
def HostState.reset : HostState :=
  { flumes := [], busMaster := [], vfEnabled := [], msix := [], msixPending := [], waiting := [], out := [] }

/-- Empty channels, free headgates, an empty audit log. -/
def MgtState.reset : MgtState :=
  { chans := Vector.replicate 64 CvChan.reset, banks := [], gates := Vector.replicate 32 Headgate.reset, smbAddr := 0,
    smbRefused := false, log := [] }

/-- No schedule, no runs. -/
def PwrState.reset : PwrState :=
  { sched := [], served := [], runs := [], waiting := [], asleep := false, aonSched := [], aonServed := [], aonEn := [],
    fromSleep := false, runEnd := none, shutdown := false, temps := [], throttleUs := 0 }

/-- RESET_N has just risen, both other resets are released, phase 0 runs; the straps read 0 (DESIGN CHOICE). -/
def BootState.reset : BootState :=
  { resetN := true, aonResetN := true, perstN := true, engineId := 0, smbStrap := 0, faultN := false, fused := false,
    warm := none, tapReset := true, linkTraining := false }

/-- Both stacks OFF; memory lists nothing (DESIGN CHOICE, log entry 30). -/
def HbmState.reset : HbmState :=
  { mem := [], gen0 := 0, gen1 := 0, change := none, held := none, rdThresh := 2048, rdRadius2 := false, rdTables := [],
    debt := [], hot := [], thawing := [], waiting := [] }

end Sys2Proof.Machine
end

