-- ==== Sys2Proof/Machine/State.lean ====
section
/-! DEFINITION. The state of the engine as one block: its registers, units, memories and queues, what it has sent to the
outside, and the commands that wait. -/

namespace Sys2Proof.Machine

/-- The state. -/
structure State where
  /-- the commands that wait, the next one first -/
  pending : List Instr
  /-- the number of free values taken so far (the model's own field) -/
  free : Nat
  fuse : Fuses
  /-- the register file: by BAR0 offset, the bits in which a word differs from its RESET_N value -/
  regs : List (Nat × BitVec 32)
  /-- words of a multi-word register that a read of its instance 0 latched, by BAR0 offset (24 R692) -/
  latch : List (Nat × BitVec 32)
  /-- unit headers that differ from reset, by unit code -/
  units : List (Nat × UnitRec)
  /-- the next event sequence number (01 R51), and the events committed so far, newest first -/
  nextEvent : Nat
  events : List EventRec
  /-- running 1 ms windows (21 R638) -/
  rates : List RateRec
  /-- device times of the fault records of the last ms, and the records suppressed since (21 R649) -/
  faultTimes : List Nat
  suppressed : Nat
  /-- device times of each unit's lasting fabric failures (21 R637) -/
  fabricFails : List (Nat × List Nat)
  /-- units whose state skew has been reported (01 R48) -/
  skew : List Nat
  plan : PlanState
  time : TimeState
  host : HostState
  mgt : MgtState
  pwr : PwrState
  boot : BootState
  ing : Vector Link 4
  tun : Vector Tuner 16
  chz : Vector Chz 4
  /-- channeliser taps: channeliser × 65,536 + index -/
  chzCoef : List (Nat × BitVec 18)
  spec : Vector Spec 4
  /-- window coefficients: (engine × 2 + bank) × 65,536 + index -/
  winBank : List (Nat × Nat)
  trig : Vector TrigEng 4
  tree : TreeState
  /-- mask words of the trigger engines -/
  maskBank : List (Nat × Word)
  hbm : HbmState
  acq : Vector AcqUnit 4
  dens : Vector Dens 4
  disp : Disp
  tdc : Tdc
  dsp : Vector Dsp 24
  /-- P, X and Y memories: core × 32,768 or × 65,536 + word address -/
  dspP : List (Nat × Word)
  dspX : List (Nat × Word)
  dspY : List (Nat × Word)
  cmp : Vector Cmp 8
  /-- trim records in use, by block -/
  calRec : List (Nat × List Word)
  calJob : Option CalJob
  aux : Aux
  /-- what the last read command returned -/
  rdata : List Word
  /-- interrupt sources that became pending, by DSP core (12 R447) -/
  ipend : List (Nat × BitVec 16)
  deriving DecidableEq, Repr

/-- Reasons for which a meaning stops. No meaning of this model does: the specification gives every command an effect. -/
inductive Fault where
  /-- never raised -/
  | none
  deriving DecidableEq, Repr

/-- Refusals. -/
inductive Refusal where
  /-- an instruction not modelled, by its mnemonic: raised by its arm of exec; safe -/
  | notModelled (mnemonic : String)
  deriving DecidableEq, Repr

/-- The engine right after the rise of RESET_N (22 R655 to R658): every register at its reset value, every unit OFF but
for those of R74, nothing stored, no command waiting. -/
def State.reset : State :=
  { pending := [], free := 0, fuse := Fuses.reset, regs := [], latch := [], units := [], nextEvent := 1, events := [],
    rates := [], faultTimes := [], suppressed := 0, fabricFails := [], skew := [], plan := PlanState.reset,
    time := TimeState.reset, host := HostState.reset, mgt := MgtState.reset, pwr := PwrState.reset,
    boot := BootState.reset, ing := Vector.replicate 4 Link.reset, tun := Vector.replicate 16 Tuner.reset,
    chz := Vector.replicate 4 Chz.reset, chzCoef := [], spec := Vector.replicate 4 Spec.reset, winBank := [],
    trig := Vector.replicate 4 TrigEng.reset, tree := TreeState.reset, maskBank := [], hbm := HbmState.reset,
    acq := Vector.replicate 4 AcqUnit.reset, dens := Vector.replicate 4 Dens.reset, disp := Disp.reset,
    tdc := Tdc.reset, dsp := Vector.replicate 24 Dsp.reset, dspP := [], dspX := [], dspY := [],
    cmp := Vector.replicate 8 Cmp.reset, calRec := [], calJob := none, aux := Aux.reset, rdata := [], ipend := [] }

end Sys2Proof.Machine
end

