-- ==== Sys2Proof/Machine/Ops.lean ====
section
/-! DEFINITION. The named operations over registers, unit headers, device time, events, faults, the audit log and the
two internal flumes (01_architecture.md, 17, 21, 24): every meaning is built from these. -/

namespace Sys2Proof.Machine

/-- What a meaning answers. -/
abbrev Out := Host.Outcome State Fault Refusal

/-! Registers. The register file lists, for each register word that differs from its RESET_N value, the bits in
which it differs; so equal register files are equal data. -/

/-- The value register word j of instance i holds. -/
def rd (s : State) (r : Reg) (i j : Nat) : BitVec 32 := spGet s.regs (r.off i j) 0 ^^^ r.resetVal i j

/-- Give register word j of instance i the value v. -/
def wr (r : Reg) (i j : Nat) (v : BitVec 32) (s : State) : State :=
  { s with regs := spPut s.regs (r.off i j) (v ^^^ r.resetVal i j) 0 }

/-- A field of a register word. -/
def getF (s : State) (r : Reg) (i j lo w : Nat) : Nat := fld (rd s r i j) lo w

/-- Set a field of a register word. -/
def setF (r : Reg) (i j lo w x : Nat) (s : State) : State := wr r i j (setFld (rd s r i j) lo w x) s

/-- One bit of a register word. -/
def getB (s : State) (r : Reg) (i j k : Nat) : Bool := bit (rd s r i j) k

/-- Set one bit of a register word. -/
def setB (r : Reg) (i j k : Nat) (b : Bool) (s : State) : State := setF r i j k 1 (b2n b) s

/-- Add n to a 32-bit counter, saturating. -/
def bump (r : Reg) (i j n : Nat) (s : State) : State :=
  wr r i j (BitVec.ofNat 32 (satU 32 ((rd s r i j).toNat + n))) s

/-- Write v into the bits of mask only. -/
def wrMask (r : Reg) (i j : Nat) (mask v : BitVec 32) (s : State) : State :=
  wr r i j ((rd s r i j &&& ~~~mask) ||| (v &&& mask)) s

/-- A 64-bit value held in words 0 and 1. -/
def rd64 (s : State) (r : Reg) (i : Nat) : Nat := (rd s r i 0).toNat + 2 ^ 32 * (rd s r i 1).toNat

/-- Put a 64-bit value into words 0 and 1. -/
def wr64 (r : Reg) (i x : Nat) (s : State) : State :=
  wr r i 1 (BitVec.ofNat 32 (x / 2 ^ 32)) (wr r i 0 (BitVec.ofNat 32 x) s)

/-- A free value was taken. -/
def nextFree (s : State) : State := { s with free := s.free + 1 }

/-- The port of a producer takes an item that a unit closes of itself: an empty port does; of one that still holds items it is
a free value (04 R200, 06 R263; log entry 178). -/
def portTook (src stream : Nat) (s : State) : Bool × State :=
  if s.plan.offered.any fun i => i.src == src && i.stream == stream then (Config.portRoom s.free, nextFree s) else (true, s)

/-! What the fabric has brought to a port. -/

/-- Take the first element with a property out of a list. -/
def pullFirst {α : Type} (p : α → Bool) : List α → Option (α × List α)
  | [] => none
  | a :: r => if p a then some (a, r) else (pullFirst p r).map fun x => (x.1, a :: x.2)

/-- The first item that waits at a consumer stream of a port, taken (01 R25). -/
def takeDelivered (port stream : Nat) (s : State) : Option (Item × State) :=
  (pullFirst (fun d => d.1 == port && d.2.1 == stream) s.plan.delivered).map fun x =>
    (x.1.2.2, { s with plan := { s.plan with delivered := x.2 } })

/-- A BLOCK route feeds a consumer stream of a port (01 R26). -/
def routeBlocks (s : State) (port stream : Nat) : Bool :=
  s.plan.routes.any fun r => r.plan.mode == 1 && (r.plan.slots.take r.plan.count).contains (port, stream)

/-- An item lost to one consumer of a DROP route counts there (01 R26). -/
def routeLoss (port stream : Nat) (s : State) : State :=
  { s with plan := { s.plan with routes := s.plan.routes.map fun r =>
      if r.plan.mode = 0 ∧ r.plan.slots.contains (port, stream) then
        { r with slotDrops := r.plan.slots.zipIdx.map fun p =>
            r.slotDrops.getD p.2 0 + b2n (p.1 == (port, stream)) }
      else r } }

/-- A consumer cannot take the item that waits for it, t being the state without it: on a BLOCK route it goes on waiting,
on a DROP route it is lost to this consumer (01 R26). -/
def refuseItem (port stream : Nat) (s t : State) : State :=
  if routeBlocks s port stream then s else routeLoss port stream t

/-! Units. -/

/-- The kinds of unit (00 R18). -/
inductive UKind where
  | glob | time | ing | tun | chz | fft | spec | trig | acq | dens | disp | tdc | dsp | cmp | pc
  | host | mgt | cal | aux | pwr | loader | none
  deriving DecidableEq, Repr

/-- The base unit code of a kind (00 R18). -/
def unitBase : UKind → Nat
  | .glob => 0x000 | .time => 0x010 | .ing => 0x020 | .tun => 0x040 | .chz => 0x060 | .fft => 0x080
  | .spec => 0x0A0 | .trig => 0x0C0 | .acq => 0x0E0 | .dens => 0x100 | .disp => 0x120 | .tdc => 0x140
  | .dsp => 0x160 | .cmp => 0x180 | .pc => 0x1C0 | .host => 0x200 | .mgt => 0x210 | .cal => 0x220
  | .aux => 0x230 | .pwr => 0x240 | .loader => 0x250 | .none => 0x3FF

/-- The number of instances of a kind that a variant has (00 R1). -/
def unitNum (variant : Nat) : UKind → Nat
  | .glob => 1 | .time => 1
  | .ing => if variant = 2 then 2 else 4
  | .tun => if variant = 2 then 8 else 16
  | .chz => if variant = 2 then 2 else 4
  | .fft => if variant = 2 then 8 else 16
  | .spec => if variant = 2 then 2 else 4
  | .trig => if variant = 2 then 2 else 4
  | .acq => if variant = 2 then 2 else 4
  | .dens => if variant = 2 then 2 else 4
  | .disp => if variant = 0 then 1 else 0
  | .tdc => 8
  | .dsp => if variant = 2 then 12 else 24
  | .cmp => if variant = 2 then 4 else 8
  | .pc => if variant = 2 then 32 else 64
  | .host => 1 | .mgt => 1 | .cal => 1 | .aux => 1 | .pwr => 1 | .loader => 1 | .none => 0

/-- The kinds in ascending unit code. -/
def allKinds : List UKind :=
  [.glob, .time, .ing, .tun, .chz, .fft, .spec, .trig, .acq, .dens, .disp, .tdc, .dsp, .cmp, .pc, .host, .mgt, .cal,
   .aux, .pwr, .loader]

/-- The kind of a unit code; none for a reserved code (00 R19). -/
def unitKind (u : Nat) : UKind :=
  (allKinds.find? fun k => decide (unitBase k ≤ u ∧ u < unitBase k + unitNum 0 k)).getD .none

/-- The instance number of a unit code. -/
def unitIdx (u : Nat) : Nat := u - unitBase (unitKind u)

/-- Whether the unit is present on this variant (00 R1). -/
def unitPresent (s : State) (u : Nat) : Bool :=
  unitKind u != .none && decide (unitIdx u < unitNum s.fuse.variant (unitKind u))

/-- The units that are always RUNNING (02 R74). -/
def alwaysOn (u : Nat) : Bool :=
  match unitKind u with
  | .glob | .time | .host | .mgt | .cal | .pwr | .loader => true
  | _ => false

/-- Every unit code of the present units, ascending. -/
def presentUnits (s : State) : List Nat :=
  allKinds.flatMap fun k => (List.range (unitNum s.fuse.variant k)).map fun i => unitBase k + i

/-- A unit header right after RESET_N: OFF, or RUNNING for a unit of R74; epoch 0 (01 R43). -/
def UnitRec.reset (u : Nat) : UnitRec :=
  { state := if alwaysOn u then .running else .off, cmdErr := false, abortResult := 0, epoch := 0, evtMask := 0,
    cause := 0, faultCount := 0, detail := 0, policy := 0 }

/-- The header of unit u. -/
def unit (s : State) (u : Nat) : UnitRec := spGet s.units u (UnitRec.reset u)

/-- Give unit u a header. -/
def setUnit (u : Nat) (h : UnitRec) (s : State) : State := { s with units := spPut s.units u h (UnitRec.reset u) }

/-- The state of unit u (01 R37). -/
def ustate (s : State) (u : Nat) : UState := (unit s u).state

/-- The epoch of unit u (01 R43). -/
def epochOf (s : State) (u : Nat) : BitVec 32 := (unit s u).epoch

/-- A state change: the epoch increases by 1 (01 R43). -/
def changeState (u : Nat) (st : UState) (s : State) : State :=
  let h := unit s u
  setUnit u { h with state := st, epoch := h.epoch + 1 } s

/-- A commit that takes effect in the data path increases the epoch (01 R43). -/
def bumpEpoch (u : Nat) (s : State) : State :=
  let h := unit s u
  setUnit u { h with epoch := h.epoch + 1 } s

/-- READY, RUNNING or DRAINING. -/
def UState.live : UState → Bool
  | .ready | .running | .draining => true
  | _ => false

/-- RUNNING or DRAINING. -/
def UState.busy : UState → Bool
  | .running | .draining => true
  | _ => false

/-! Device time. -/

/-- Device time in units of 2^-64 s (03 R131). -/
def nowTotal (s : State) : Nat := s.time.sec.toNat * 2 ^ 64 + s.time.acc.toNat

/-- The time since RESET_N in units of 2^-64 s by the rate of device time, without its steps: what every duration is
measured on. -/
def upTotal (s : State) : Nat := s.time.up

/-- Device time in units of 2^-40 s: the 88-bit count of 03 R127. -/
def nowTicks (s : State) : Nat := nowTotal s / 2 ^ 24

/-- n microseconds in units of 2^-64 s. -/
def usTotal (n : Nat) : Nat := n * 2 ^ 64 / 1000000

/-- The three terms of WARM: OCXO_READY, the warm-up timer, the drift (03 R145). -/
def warmReady (s : State) : Bool := !getB s .timeCfg 0 0 2 || s.time.ocxoReady

/-- The drift term of WARM: |drift| at most DRIFT_THR; without a measurement true only when DRIFT_EN is 0. -/
def warmDrift (s : State) : Bool :=
  !getB s .timeCfg 0 0 3 ||
    (s.time.driftMeasured && decide ((sgn 32 (rd s .timeMeas 0 2).toNat).natAbs ≤ getF s .timeLockCfg 0 0 16 16))

/-- WARM (03 R145). -/
def warmNow (s : State) : Bool := warmReady s && s.time.warmExpired && warmDrift s

/-- The quality byte in force, without the per-stamp bits 3, 5 and 6 (03 R129, R130, R133). -/
def qualNow (s : State) : BitVec 8 :=
  if s.time.started then
    BitVec.ofNat 8 (b2n (warmNow s)
      + 2 * b2n (s.time.servo == .locked)
      + 4 * b2n (s.time.servo == .holdover || s.time.servo == .jumpWait)
      + 16 * b2n (s.time.mode == .coarse || s.time.mode == .rc || s.time.estHold))
  else 0

/-- A device time with a quality byte, from a count of 2^-40 s. -/
def mkStamp (ticks : Nat) (q : BitVec 8) : Stamp :=
  { sec := BitVec.ofNat 48 (ticks / 2 ^ 40), frac := BitVec.ofNat 40 ticks, qual := q }

/-- The count of 2^-40 s of a stamp. -/
def stampTicks (t : Stamp) : Nat := t.sec.toNat * 2 ^ 40 + t.frac.toNat

/-- The 12 bytes of a device time as three words (03 R128). -/
def stampWords (t : Stamp) : List Word :=
  [BitVec.ofNat 32 t.frac.toNat,
   BitVec.ofNat 32 (t.frac.toNat / 2 ^ 32 + t.sec.toNat % 2 ^ 24 * 2 ^ 8),
   BitVec.ofNat 32 (t.sec.toNat / 2 ^ 24 + t.qual.toNat * 2 ^ 24)]

/-- Device time of an event or an audit entry: no per-stamp bits (03 R130). -/
def eventTime (s : State) : Stamp := mkStamp (nowTicks s) (qualNow s)

/-- A stamp by source k at a count of 2^-40 s with extra quality bits: STEPPED on the source's first stamp after a
step (03 R130). -/
def stampAt (k ticks : Nat) (extra : BitVec 8) (s : State) : Stamp × State :=
  let stepped := decide (spGet s.time.stamped k 0 < s.time.steps)
  let q := qualNow s ||| extra ||| (if stepped then 8#8 else 0#8)
  (mkStamp ticks q, { s with time := { s.time with stamped := spPut s.time.stamped k s.time.steps 0 } })

/-- A stamp by source k taken over from an input stamp: its quality byte, with STEPPED by the source's own rule
(03 R130, 06 R241). -/
def stampFrom (k ticks : Nat) (q : BitVec 8) (s : State) : Stamp × State :=
  let stepped := decide (spGet s.time.stamped k 0 < s.time.steps)
  (mkStamp ticks ((q &&& 0xF7#8) ||| (if stepped then 8#8 else 0#8)),
   { s with time := { s.time with stamped := spPut s.time.stamped k s.time.steps 0 } })

/-- A stamp by source k of a time t taken when n steps of device time had been made (03 R130). -/
def stampTaken (k n : Nat) (t : Stamp) (s : State) : Stamp × State :=
  let last := spGet s.time.stamped k 0
  ({ t with qual := t.qual ||| (if last < n then 8#8 else 0#8) },
   { s with time := { s.time with stamped := spPut s.time.stamped k (max last n) 0 } })

/-- A stamp by source k at the present device time. -/
def stampNow (k : Nat) (s : State) : Stamp × State := stampAt k (nowTicks s) 0 s

/-! Events. -/

/-- Bytes of one event field (16 R556). -/
def EvField.bytes : EvField → List (BitVec 8)
  | .u16 x => leBytes 2 x
  | .u32 x => leBytes 4 (satU 32 x)
  | .u64 x => leBytes 8 x
  | .s32 x => leBytes 4 (unsgn 32 (satS 32 x))
  | .time t => wordsBytes (stampWords t)
  | .codes lim cs => cs.flatMap (leBytes 2) ++ (if cs.length < lim then leBytes 2 0xFFFF else [])

/-- The multiple at which a field starts (16 R556). -/
def EvField.align : EvField → Nat
  | .u16 _ => 2 | .u32 _ => 4 | .u64 _ => 8 | .s32 _ => 4 | .time _ => 4 | .codes _ _ => 2

/-- The data bytes of an event: each field at the next multiple of its width, padding zero. -/
def evBytes (fs : List EvField) : List (BitVec 8) :=
  fs.foldl (fun acc f => acc ++ List.replicate ((f.align - acc.length % f.align) % f.align) 0 ++ f.bytes) []

/-- The 56-byte payload of an event record (16 R555). -/
def evPayload (code : Nat) (failed : Bool) (fs : List EvField) : List Word :=
  let d := (evBytes fs).take 48
  bytesWords (leBytes 2 code ++ leBytes 1 d.length ++ leBytes 1 (b2n failed) ++ leBytes 4 0 ++ padTo 48 0 d)

/-- Whether the unit's UNIT_EVT_MASK masks an event (24 R694). -/
def evMasked (s : State) (code u : Nat) : Bool :=
  let lb := code % 256
  let never := decide (0x0E10 ≤ code ∧ code ≤ 0x0E13) || code == 0x1200
  !never && (if lb = 0 then false else if lb ≤ 30 then bit (unit s u).evtMask lb else bit (unit s u).evtMask 31)

/-- Flume f. -/
def flume (s : State) (f : Nat) : Flume := spGet s.host.flumes f Flume.reset

/-- Give flume f a state. -/
def setFlume (f : Nat) (x : Flume) (s : State) : State :=
  { s with host := { s.host with flumes := spPut s.host.flumes f x Flume.reset } }

/-- FSTATE of flume f (16 R562): 0 CLOSED, 1 OPEN, 2 CLOSING, 3 ERROR. -/
def fstate (s : State) (f : Nat) : Nat := getF s .hostFlumeStatus f 0 0 2

/-- The next record sequence of flume f, consumed (01 R50). -/
def takeSeq (f : Nat) (s : State) : BitVec 32 × State :=
  let n := rd s .hostFlumeSeq f 0
  (n, wr .hostFlumeSeq f 0 (n + 1) s)

/-- A record dropped at flume f: it takes a number and counts (16 R549). -/
def dropRec (f : Nat) (s : State) : State :=
  let (_, s) := takeSeq f s
  let x := flume s f
  setFlume f { x with lostBefore := true } (bump .hostFlumeCount f 1 1 s)

/-- Room in the queue of 4,096 records of flume 0 or 1 (16 R552). -/
def queueRoom (s : State) (f : Nat) : Bool := decide ((flume s f).staged.length < 4096)

/-- Put a record into flume f's queue; it takes the next number. -/
def stageRec (f : Nat) (r : StagedRec) (s : State) : State :=
  let (n, s) := takeSeq f s
  let x := flume s f
  setFlume f { x with staged := x.staged ++ [{ r with seq := n, lostBefore := x.lostBefore }], lostBefore := false } s

/-- The record of an event. -/
def eventRec (e : EventRec) : StagedRec :=
  let p := evPayload e.code e.checkFailed e.data
  { kind := 0x01, unit := e.unit, seq := 0, evSeq := e.seq, time := e.time, planEpoch := e.planEpoch, epoch := e.epoch,
    crc := crcWords p, origin := 0, checkFailed := e.checkFailed, lostBefore := false, spilled := false, payload := p }

/-- Commit an event: it takes the next event sequence number (01 R51) and enters the history. -/
def commitEvent (t : Stamp) (code u : Nat) (failed deliver : Bool) (data : List EvField) (s : State) : EventRec × State :=
  let e : EventRec :=
    { code := code, unit := u, seq := s.nextEvent, time := t, epoch := epochOf s u, planEpoch := rd s .globalPlanEpoch 0 0,
      checkFailed := failed, data := data, delivered := deliver && !evMasked s code u }
  (e, { s with nextEvent := (s.nextEvent + 1) % 2 ^ 64, events := e :: s.events })

/-- Whether the 1 ms window of a rate-limited report runs (21 R638). -/
def rateFind (s : State) (code u : Nat) (q : List EvField) : Option RateRec :=
  s.rates.find? fun r => r.code == code && r.unit == u && r.qual == q

/-- Accumulate n in a running window, with the fields of the latest occurrence. -/
def rateAdd (code u : Nat) (q : List EvField) (n : Nat) (tail : List EvField) (s : State) : State :=
  { s with rates := s.rates.map fun r =>
      if r.code == code && r.unit == u && r.qual == q then { r with count := satU 32 (r.count + n), tail := tail } else r }

/-- Start a window. -/
def rateOpen (code u : Nat) (q : List EvField) (s : State) : State :=
  { s with rates := s.rates ++ [{ code := code, unit := u, qual := q, count := 0, tail := [] }] }

/-- Give a committed event to flume 0; at a full queue it is dropped (16 R552). -/
def deliver0 (e : EventRec) (s : State) : State × Bool :=
  if !e.delivered || fstate s 0 != 1 then (bump .hostCount 0 1 1 s, false)
  else if queueRoom s 0 then (stageRec 0 (eventRec e) s, false)
  else (dropRec 0 s, true)

/-- A drop at flume 0 is reported at most once per 1 ms; the report finds the same full queue (16 R549, R552). -/
def dropReport0 (s : State) : State :=
  match rateFind s 0x0D02 0x200 [.u16 0] with
  | some _ => rateAdd 0x0D02 0x200 [.u16 0] 1 [] s
  | none =>
    let (e, s) := commitEvent (eventTime s) 0x0D02 0x200 false true [.u16 0, .u32 1] s
    let (s, again) := deliver0 e (rateOpen 0x0D02 0x200 [.u16 0] s)
    if again then rateAdd 0x0D02 0x200 [.u16 0] 1 [] s else s

/-- Commit an event with its own device time, delivered or not. A drop at flume 0 is itself reported. -/
def raiseFull (t : Stamp) (code u : Nat) (failed deliver : Bool) (data : List EvField) (s : State) : State :=
  let (e, s) := commitEvent t code u failed deliver data s
  let (s, dropped) := deliver0 e s
  if dropped then dropReport0 s else s

/-- Raise an event that is delivered unless it is masked. -/
def raiseAt (t : Stamp) (code u : Nat) (failed : Bool) (data : List EvField) (s : State) : State :=
  raiseFull t code u failed true data s

/-- Raise an event that carries the sequence number of another event and consumes none (08 R346), CHECK_FAILED with it
where it is raised on data from a failing parcel (01 R58). -/
def raiseWithSeq (seq code u : Nat) (failed : Bool) (data : List EvField) (s : State) : State :=
  let e : EventRec :=
    { code := code, unit := u, seq := seq, time := eventTime s, epoch := epochOf s u, planEpoch := rd s .globalPlanEpoch 0 0,
      checkFailed := failed, data := data, delivered := !evMasked s code u }
  (deliver0 e { s with events := e :: s.events }).1

/-- Raise an event at the present device time. -/
def raise (code u : Nat) (data : List EvField) (s : State) : State := raiseAt (eventTime s) code u false data s

/-- Raise an event at most once per 1 ms for its qualifier: qualifier, count, then the fields of the latest
occurrence (21 R638). -/
def raiseRatedT (code u : Nat) (q : List EvField) (n : Nat) (tail : List EvField) (s : State) : State :=
  if n = 0 then s
  else match rateFind s code u q with
    | some _ => rateAdd code u q n tail s
    | none => rateOpen code u q (raise code u (q ++ [.u32 n] ++ tail) s)

/-- Raise an event at most once per 1 ms for its qualifier, with the count as its last field (21 R638). -/
def raiseRated (code u : Nat) (q : List EvField) (n : Nat) (s : State) : State := raiseRatedT code u q n [] s

/-! The audit log. -/

/-- An audit entry's first 28 bytes, then its CRC, as eight words (17 R586). -/
def auditWords (e : AuditEntry) : List Word :=
  let b := leBytes 4 e.seq.toNat ++ leBytes 1 e.kind ++ [e.agent] ++ leBytes 2 e.code ++ wordsBytes (stampWords e.time)
    ++ leBytes 4 e.target.toNat ++ leBytes 4 e.value.toNat
  bytesWords b ++ [crc32c b]

/-- The size of the log (17 R586). -/
def auditSize : Nat := 16384

/-- The entries not yet copied out: those from AUDIT_COPY on (17 R589). -/
def auditWaiting (s : State) : List AuditEntry :=
  s.mgt.log.drop (rd s .auditCopy 0 0 - rd s .auditOldest 0 0).toNat

/-- Form one audit record of up to 32 entries while flume 1 is OPEN and its queue has room (17 R589, 16 R552). -/
def auditRecord (s : State) : State :=
  let w := (auditWaiting s).take 32
  match w with
  | [] => s
  | e :: _ =>
    if fstate s 1 = 1 ∧ queueRoom s 1 then
      let p := w.flatMap auditWords
      let r : StagedRec :=
        { kind := 0x02, unit := 0x210, seq := 0, evSeq := 0, time := e.time, planEpoch := rd s .globalPlanEpoch 0 0,
          epoch := epochOf s 0x210, crc := crcWords p, origin := 0, checkFailed := false, lostBefore := false,
          spilled := false, payload := p }
      stageRec 1 r (wr .auditCopy 0 0 (rd s .auditCopy 0 0 + BitVec.ofNat 32 w.length) s)
    else s

/-- 100 µs have passed since the oldest waiting entry was made (17 R589). -/
def auditDue (s : State) : Bool :=
  match auditWaiting s with
  | [] => false
  | e :: _ => decide (e.born + usTotal 100 ≤ upTotal s)

/-- Form the records of 32 entries that flume 1's queue has room for, at most n (17 R589). -/
def auditCopyOut : Nat → State → State
  | 0, s => s
  | n + 1, s => if 32 ≤ (auditWaiting s).length then auditCopyOut n (auditRecord s) else s

/-- Form every record that is due (17 R589). -/
def auditCatchUp (s : State) : State :=
  let s := auditCopyOut 512 s
  if auditDue s then auditRecord s else s

/-- Put an entry into the log; a full log overwrites its oldest entry, lost if not yet copied out (17 R588). -/
def auditPush (e : AuditEntry) (s : State) : State :=
  if s.mgt.log.length < auditSize then { s with mgt := { s.mgt with log := s.mgt.log ++ [e] } }
  else
    let old := rd s .auditOldest 0 0
    let copy := rd s .auditCopy 0 0
    let s := wr .auditOldest 0 0 (old + 1) { s with mgt := { s.mgt with log := s.mgt.log.drop 1 ++ [e] } }
    if copy = old then
      raiseRated 0x0E05 0x210 [] 1 (bump .auditLost 0 0 1 (wr .auditCopy 0 0 (old + 1) s))
    else s

/-- Make an audit entry (17 R586 to R589): a record is formed once 32 entries wait. -/
def audit (kind : Nat) (ag : AgentId) (code target value : Nat) (s : State) : State :=
  let n := rd s .auditSeq 0 0
  let e : AuditEntry :=
    { seq := n, kind := kind, agent := ag, code := code, time := eventTime s, target := BitVec.ofNat 32 target,
      value := BitVec.ofNat 32 value, born := upTotal s }
  let s := auditPush e (wr .auditSeq 0 0 (n + 1) s)
  if 32 ≤ (auditWaiting s).length then auditRecord s else s

/-- A refused write or operation: kind WRITE_REFUSED (17 R587). -/
def refuse (ag : AgentId) (off : Nat) (v : BitVec 32) (code : Nat) (s : State) : State :=
  audit 0x02 ag code off v.toNat s

/-- A command that is ignored without a write error (17 R587). -/
def ignored (ag : AgentId) (off cmd : Nat) (s : State) : State := audit 0x0B ag cmd off 0 s

/-! Interrupt lines and FAULT_N. -/

/-- The MSI-X vectors of a function: BASE and COUNT (16 R544); before the first plan the physical function owns 0 to 63
(22 R666). -/
def fnVec (s : State) (fn : Nat) : Nat × Nat :=
  if rd s .globalPlanEpoch 0 0 = 0 then (if fn = 0 then (0, 64) else (0, 0))
  else (getF s .hostFnVec 0 fn 0 12, getF s .hostFnVec 0 fn 12 12)

/-- Word i of a function's MSI-X table; Vector Control resets to masked, as the PCIe standard has it (16 R561). -/
def msixWord (s : State) (fn i : Nat) : BitVec 32 :=
  spGet s.host.msix (fn * 8192 + i) 0 ^^^ (if i % 4 = 3 then 1 else 0)

/-- Deliver a vector of a function: a masked entry sets its pending bit (16 R561). -/
def msixDeliver (fn vec : Nat) (s : State) : State :=
  let k := fn * 2048 + vec
  if bit (msixWord s fn (vec * 4 + 3)) 0 then
    { s with
      host := { s.host with
        msixPending := if s.host.msixPending.contains k then s.host.msixPending else s.host.msixPending ++ [k] } }
  else { s with host := { s.host with out := s.host.out ++ [.msix fn vec] } }

/-- Signal a vector by its index in its function's table: every function that claims the vector receives it (16 R544). -/
def msixSignal (fn vec : Nat) (s : State) : State :=
  let b := fnVec s fn
  if b.2 ≤ vec then s
  else
    let g := b.1 + vec
    (List.range 16).foldl (fun s h =>
      let c := fnVec s h
      if c.1 ≤ g ∧ g < c.1 + c.2 then msixDeliver h (g - c.1) s else s) s

/-- Interrupt source k reaches a vector through HOST_IRQ_MAP (16 R561). -/
def irqSource (k : Nat) (s : State) : State :=
  let m := rd s .hostIrqMap 0 k
  if bit m 15 then msixSignal (fld m 11 4) (fld m 0 11) s else s

/-- Some present unit is in the given state. -/
def anyUnit (s : State) (st : UState) : Bool := s.units.any fun p => p.2.state == st

/-- SYNTH of GLOBAL_FAULT_STATUS: a powered synthesiser is unlocked outside a rate change (21, 15 R526); SYN_0 before
its first lock counts only once PHASE reads STALLED (22 R663). -/
def synthBad (s : State) : Bool :=
  getF s .globalBootStatus 0 0 0 3 == 5 ||
    (List.range 6).any fun n =>
      match s.time.syn.toList[n]? with
      | some y => y.lock == 1 && !(n == 0 && !s.time.started) && !(n == 2 && getB s .hbmFreq 0 0 6)
      | none => false

/-- GLOBAL_FAULT_STATUS: the level bits now, and the stored W1C bits (21). -/
def faultStatus (s : State) : BitVec 32 :=
  let w1c := (rd s .globalFaultStatus 0 0).toNat
  BitVec.ofNat 32 (b2n (anyUnit s .fault) + 2 * b2n (anyUnit s .frozen) + 4 * b2n (ustate s 0x010 == .fault)
    + 8 * b2n (synthBad s) + 16 * b2n (getF s .pwrStatus 0 0 0 2 == 1)
    + 32 * b2n (getF s .mgtMcStatus 0 0 0 3 == 3 || getF s .mgtMcStatus 0 1 0 3 == 3)
    + 64 * (w1c / 64 % 2) + 128 * (w1c / 128 % 2) + 256 * (w1c / 256 % 2) + 512 * b2n (getB s .pwrStatus 0 0 3)
    + 1024 * (w1c / 1024 % 2) + 2048 * (w1c / 2048 % 2))

/-- The level FAULT_N is driven to (21 R646, R647; 22 R664). -/
def faultLevel (s : State) : Bool :=
  if s.pwr.shutdown then true
  else if !s.boot.fused || s.pwr.asleep then getB s .pwrStatus 0 0 3
  else (faultStatus s &&& rd s .globalFaultMask 0 0 &&& 0xFFF) != 0

/-- FAULT_N follows its bits; an assertion edge signals source 2 (21 R646). -/
def updFaultN (s : State) : State :=
  let l := faultLevel s
  let old := s.boot.faultN
  let s := { s with boot := { s.boot with faultN := l } }
  if l && !old then irqSource 2 s else s

/-- Interrupt source k of DSP core n becomes pending (12 R447). -/
def dspPend (n k : Nat) (s : State) : State :=
  if n < 24 then { s with ipend := spPut s.ipend n (spGet s.ipend n 0 ||| BitVec.ofNat 16 (2 ^ k)) 0 } else s

/-! Faults. -/

/-- The detail words of a fault record: those given (HBM), else of a DSP core its PC (21 R648). -/
def faultDetail (s : State) (u : Nat) (detail : List Word) : List Word :=
  if detail.isEmpty ∧ unitKind u = .dsp then
    match s.dsp.toList[unitIdx u]? with
    | some x => [BitVec.ofNat 32 x.pc.toNat]
    | none => []
  else detail

/-- Make a fault record, with the stamps of the first failure and of its retry: at most 64 in any 1 ms, copied to
GLOBAL_FAULT_LAST, sent to flume 0 (21 R648, R649). -/
def faultRecord (kind op u cause : Nat) (ag : AgentId) (t : Stamp) (t2 : Option Stamp) (ref evSeq : Nat) (origin : BitVec 64)
    (detail : List Word) (s : State) : State :=
  let now := upTotal s
  let recent := s.faultTimes.filter fun x => decide (now < x + usTotal 1000)
  if recent.length < 64 then
    let p := bytesWords (leBytes 1 kind ++ leBytes 1 op ++ leBytes 2 u ++ leBytes 1 cause ++ [ag]
        ++ leBytes 2 (satU 16 s.suppressed) ++ wordsBytes (stampWords t)
        ++ wordsBytes ((t2.map stampWords).getD [0, 0, 0]) ++ leBytes 8 ref
        ++ leBytes 4 (epochOf s u).toNat ++ leBytes 4 (rd s .globalFaultCount 0 1).toNat)
      ++ padTo 4 0 (faultDetail s u detail)
    let s := { s with faultTimes := now :: recent, suppressed := 0 }
    let s := (List.range 16).foldl (fun s i => wr .globalFaultLast 0 i (p.getD i 0) s) s
    let r : StagedRec :=
      { kind := 0x90, unit := 0x200, seq := 0, evSeq := evSeq, time := t, planEpoch := rd s .globalPlanEpoch 0 0,
        epoch := epochOf s 0x200, crc := crcWords p, origin := origin, checkFailed := false, lostBefore := false,
        spilled := false, payload := p }
    if fstate s 0 = 1 ∧ queueRoom s 0 then stageRec 0 r s
    else
      let s := if fstate s 0 = 1 then dropReport0 (dropRec 0 s) else s
      updFaultN (setB .globalFaultStatus 0 0 11 true (bump .globalFaultCount 0 6 1 s))
  else { bump .globalFaultCount 0 5 1 s with suppressed := s.suppressed + 1 }

/-- The number of a unit state in registers and events (01 R37). -/
def UState.code : UState → Nat
  | .off => 0 | .gated => 1 | .ready => 2 | .running => 3 | .draining => 4 | .fault => 5 | .frozen => 6

/-- The report of an entry to FAULT or FROZEN, or of a failed RESTART (21 R640, 01 R42): event 0x0E11 and one fault
record derived from it. -/
def reportFault (kind u cause : Nat) (prev : UState) (detail : List Word) (s : State) : State :=
  let n := s.nextEvent
  let s := bump .globalFaultCount 0 (kind + 1) 1 s
  let s := raise 0x0E11 0x210 [.u16 u, .u16 cause, .u16 prev.code, .u32 (epochOf s u).toNat] s
  updFaultN (faultRecord kind 0 u cause 0 (eventTime s) none 0 n 0 detail s)

/-- Entry to FAULT, after the unit's partial output has been discarded (21 R640), with the fault record's detail words.
Only a live unit faults (01 R38). -/
def enterFaultW (u cause detail : Nat) (words : List Word) (s : State) : State :=
  let h := unit s u
  if h.state.live then
    let s := setUnit u { h with state := .fault, epoch := h.epoch + 1, cause := cause, detail := detail,
                                faultCount := satU 8 (h.faultCount + 1) } s
    reportFault 1 u cause h.state words s
  else s

/-- Entry to FAULT of a unit whose record carries no detail. -/
def enterFault (u cause detail : Nat) (s : State) : State := enterFaultW u cause detail [] s

/-- A failed RESTART: a further fault, without a state change (01 R42). -/
def furtherFault (u cause : Nat) (s : State) : State :=
  let h := unit s u
  let s := setUnit u { h with cause := cause, faultCount := satU 8 (h.faultCount + 1) } s
  reportFault 1 u cause .fault [] s

/-- Entry to FROZEN (21 R640, R639); UNIT_FAULT CAUSE does not change. -/
def enterFrozen (u : Nat) (s : State) : State :=
  let h := unit s u
  if h.state.live then
    reportFault 2 u 12 h.state [] (setUnit u { h with state := .frozen, epoch := h.epoch + 1 } s)
  else s

/-- A lasting fault whose first attempt failed at a given time (21 R636): counted, LASTING set, event 0x0E12, one fault
record of kind 0. -/
def faultLastingAt (first : Stamp) (op u : Nat) (ag : AgentId) (ref : Nat) (origin : BitVec 64) (detail : List Word)
    (s : State) : State :=
  let s := setB .globalFaultStatus 0 0 7 true (bump .globalFaultCount 0 1 1 s)
  let n := s.nextEvent
  let s := raise 0x0E12 0x210 [.u16 op, .u16 u, .u32 2] s
  updFaultN (faultRecord 0 op u 0 ag first (some (eventTime s)) ref n origin detail s)

/-- A lasting fault whose retry follows at once. -/
def faultLasting (op u : Nat) (ag : AgentId) (ref : Nat) (origin : BitVec 64) (detail : List Word) (s : State) : State :=
  faultLastingAt (eventTime s) op u ag ref origin detail s

/-- A transient fault is counted once more in GLOBAL_FAULT_COUNT index 0 (21 R635). -/
def faultTransient (s : State) : State := bump .globalFaultCount 0 0 1 s

/-- A change from FAULT or FROZEN to READY raises UNIT_RECOVERED (21 R651). -/
def recovered (u : Nat) (s : State) : State :=
  updFaultN (raise 0x0E13 0x210 [.u16 u, .u16 (ustate s u).code, .u32 (epochOf s u).toNat] s)

end Sys2Proof.Machine
end

