-- ==== Sys2Proof/Machine/Access.lean ====
section
/-! DEFINITION. Who may write what: blocks, unit register sets, ownership, absent units, plan fields, unit states
(00 R4, R5, R12 to R15; 01 R37; 02 R83, R84, R87, R124; 17 R569; 24 R691). -/

namespace Sys2Proof.Machine

/-- The blocks of BAR0: base, size, OWNERS index (24 R691, 02 R82). -/
def blockTable : List (Nat × Nat × Nat) :=
  [(0x0, 0x100000, 0), (0x100000, 0x100000, 1), (0x200000, 0x100000, 2), (0x300000, 0x100000, 3),
   (0x400000, 0x100000, 4), (0x500000, 0x100000, 5), (0x600000, 0x200000, 6), (0x800000, 0x200000, 7),
   (0xA00000, 0x200000, 8), (0xC00000, 0x200000, 9), (0xE00000, 0x200000, 10), (0x1000000, 0x100000, 11),
   (0x1100000, 0x100000, 12), (0x1200000, 0x600000, 13), (0x1800000, 0x100000, 14), (0x1900000, 0x200000, 15),
   (0x1B00000, 0x200000, 16), (0x1D00000, 0x100000, 17), (0x1E00000, 0x100000, 18), (0x1F00000, 0x100000, 19)]

/-- The OWNERS index of the block that holds an offset; none outside every block (24 R691). -/
def blockAt (off : Nat) : Option Nat :=
  if 0x2000000 ≤ off ∧ off < 0x3800000 then some (32 + (off - 0x2000000) / 0x100000)
  else (blockTable.find? fun b => decide (b.1 ≤ off ∧ off < b.1 + b.2.1)).map fun b => b.2.2

/-- Base and stride of the register sets of a kind of unit (24 R696 and the chapters). -/
def hdrPlace : UKind → Nat × Nat
  | .glob => (0x0, 0x10000) | .time => (0x300000, 0x100000) | .ing => (0x600000, 0x1000) | .tun => (0x800000, 0x1000)
  | .chz => (0x810000, 0x1000) | .fft => (0xA08000, 0x100) | .spec => (0xA00000, 0x1000) | .trig => (0xC00000, 0x1000)
  | .acq => (0xE00000, 0x1000) | .dens => (0x1000000, 0x1000) | .disp => (0x1100000, 0x100000)
  | .tdc => (0x500000, 0x1000) | .dsp => (0x2000000, 0x100000) | .cmp => (0x1800000, 0x1000) | .pc => (0x1900000, 0x1000)
  | .host => (0x1B00000, 0x200000) | .mgt => (0x200000, 0x100000) | .cal => (0x1D00000, 0x100000)
  | .aux => (0x1E00000, 0x100000) | .pwr => (0x1F00000, 0x100000) | .loader => (0x10000, 0x10000)
  | .none => (0x8000000, 0)

/-- BAR0 offset of a unit's header (24 R692). -/
def hdrOff (u : Nat) : Nat := (hdrPlace (unitKind u)).1 + unitIdx u * (hdrPlace (unitKind u)).2

/-- The unit of instance i of a register of a kind of unit: a kind of one unit holds every instance itself. -/
def instUnit (u i : Nat) : Nat := if unitNum 0 (unitKind u) = 1 then u else u + i

/-- The unit whose register set holds an offset: a register of its own, or a place beside its header. The shared part
of the TDC belongs to its input 0 (11 R397), the weir tree and the pins to trigger engine 0 (07 R270). -/
def unitAt (off : Nat) : Option Nat :=
  if 0x508040 ≤ off ∧ off < 0x509000 then some 0x140
  else if 0xC08000 ≤ off ∧ off < 0xC09000 then some 0x0C0
  else match regAt off with
  | some (r, i, _) => if r.info.unit = 0x3FF then none else some (instUnit r.info.unit i)
  | none =>
    allKinds.findSome? fun k =>
      let p := hdrPlace k
      if p.1 ≤ off ∧ off < p.1 + p.2 * unitNum 0 k then some (unitBase k + (off - p.1) / p.2) else none

/-- The offset lies in the register set of a unit, or of the HBM stack controller, that this variant lacks (00 R1, R4,
R5). -/
def absentAt (s : State) (off : Nat) : Bool :=
  match unitAt off with
  | some u => !unitPresent s u
  | none => (blockAt off == some 12 && s.fuse.variant != 0) ||
    (s.fuse.variant == 2 && decide (0x1941000 ≤ off ∧ off < 0x1942000))

/-- The offset lies in one of the DSP memories of a core window (12 R425). -/
def inDspMem (off : Nat) : Bool :=
  let o := off % 0x100000
  decide (0x2000000 ≤ off ∧ off < 0x3800000) && decide (0x40000 ≤ o) && !decide (0x60000 ≤ o ∧ o < 0x80000)

/-- The offset lies in the first 64 bytes of a unit's register set. -/
def inHeader (off : Nat) : Bool :=
  match unitAt off with
  | some u => decide (hdrOff u ≤ off ∧ off < hdrOff u + 0x40)
  | none => false

/-- Registers that every agent from 0x01 to 0x51 may use (17 R569). -/
def ownerExempt (off : Nat) : Bool :=
  match regAt off with
  | some (r, _, _) =>
    match r with
    | .mgtCvTx | .mgtCvSend | .mgtCvTxstat | .mgtCvRxpop | .mgtDbRing | .mgtDbClear | .mgtHeadgate => true
    | _ => false
  | none => false

/-- The plan epoch in force (02 R65). -/
def planEpoch (s : State) : BitVec 32 := rd s .globalPlanEpoch 0 0

/-- The ownership map permits the agent to write the block (02 R83, R84, R87). -/
def permitted (s : State) (ag : AgentId) (blk : Nat) : Bool :=
  ag == 0x58 || ag == 0x59 || ag == 0x5A ||
  (if planEpoch s = 0 then ag == 0x01 || ag == 0x20 || ag == 0x21 || ag == 0x51
   else s.plan.owners.any fun o => o.block == blk && o.agents.contains ag.toNat)

/-- A load has drained and not yet configured the unit (02 R124): steps 4 to 6. -/
def loadHolds (s : State) (u : Nat) : Bool :=
  decide (4 ≤ getF s .globalPlanStatus 0 0 0 3 ∧ getF s .globalPlanStatus 0 0 0 3 ≤ 6) &&
    match s.plan.load with
    | some j => j.changed.contains u
    | none => false

/-- Why a write is refused before its register is looked at: 5 outside every block, 2 absent unit, 1 ownership,
4 unit state (24 R691; 00 R5, R15; 02 R83, R124; 01 R37). -/
def accessRefusal (s : State) (ag : AgentId) (off : Nat) : Option Nat :=
  match blockAt off with
  | none => some 5
  | some blk =>
    if absentAt s off then some 2
    else if !(permitted s ag blk || (ownerExempt off && decide (1 ≤ ag.toNat ∧ ag.toNat ≤ 0x51))) then some 1
    else match unitAt off with
      | none => none
      | some u =>
        if loadHolds s u then some 4
        else if inHeader off || inDspMem off then none
        else match ustate s u with
          | .off | .fault | .frozen => some 4
          | _ => none

/-- Whether an accepted write to the block is logged (17 R587); AUDIT_CFG always is. -/
def writeLogged (s : State) (off : Nat) : Bool :=
  match blockAt off with
  | none => false
  | some b => off == 0x100000 || (decide (b < 20) && bit (rd s .auditCfg 0 0) b)

/-- The fabric port of a unit; 127 for a unit with none (00 R21, 24 UNIT_CAP). -/
def unitPort (u : Nat) : Nat :=
  let i := unitIdx u
  match unitKind u with
  | .ing => i | .tun => 4 + i | .chz => 20 + i | .spec => 24 + i | .trig => 28 + i | .acq => 32 + i | .dens => 36 + i
  | .disp => 40 | .tdc => 41 | .dsp => 42 + i | .cmp => 66 + i | .host => 74 | .aux => 78 | .mgt => 79
  | .pc => 80 + i / 4 | _ => 127

/-- What the write itself did: 0 accepted; 1 to 6 refused with that code of 17 R587; 97 accepted but for PL fields that it
would change, which are ignored and logged (00 R12, R13; log entry 14); 99 dealt with by the effect. -/
abbrev WRes := State × Nat

/-- BAR0 is served: MAIN is powered, no reset is held, and phase 0 has ended (20 R628, R631; 22 R655, R665). -/
def mainUp (s : State) : Bool :=
  s.boot.resetN && s.boot.aonResetN && s.boot.fused && !s.pwr.asleep && !s.pwr.shutdown

/-- A write by an agent: judged, then its effect, then its audit entry. Answers also whether it was refused. -/
def guardRes (ag : AgentId) (off : Nat) (v : BitVec 32) (eff : State → WRes) (s : State) : State × Bool :=
  if !mainUp s then (s, true)
  else match accessRefusal s ag off with
  | some c => (refuse ag off v c s, true)
  | none =>
    let r := eff s
    if r.2 = 0 ∨ r.2 = 97 then
      let t := if writeLogged s off then audit 0x01 ag 0 off v.toNat r.1 else r.1
      (if r.2 = 97 then refuse ag off v 3 t else t, false)
    else if r.2 = 99 then (r.1, false)
    else (refuse ag off v r.2 r.1, true)

/-- A write by an agent. -/
def guardW (ag : AgentId) (off : Nat) (v : BitVec 32) (eff : State → WRes) (s : State) : State :=
  (guardRes ag off v eff s).1

/-- How a write to a register that holds PL and writable fields is accepted (00 R12, R13). -/
def mixedRes (r : Reg) (i j : Nat) (v : BitVec 32) (s : State) : Nat :=
  if (v ^^^ rd s r i j) &&& BitVec.ofNat 32 r.info.pl = 0 then 0 else 97

/-- An effect that is always accepted. -/
def ok (f : State → State) (s : State) : WRes := (f s, 0)

end Sys2Proof.Machine
end

