-- ==== Sys2Proof/Machine/Calibration.lean ====
section
/-! DEFINITION. Calibration and trim (18_calibration.md R591 to R600). -/

namespace Sys2Proof.Machine

/-- L of a link. -/
def lkLanes (s : State) (n : Nat) : Nat := 2 ^ getF s .ingLinkCfg n 0 1 2

/-- Physical lane of a logical lane (ING_LANE_MAP). -/
def lkLane (s : State) (n k : Nat) : Nat :=
  if k < 6 then getF s .ingLaneMapLo n 0 (5 * k) 5 else getF s .ingLaneMapHi n 0 (5 * (k - 6)) 5

/-! Blocks and records (18 R591 to R593). -/

/-- The block is present (18 R593). -/
def calPresent (s : State) (b : Nat) : Bool :=
  decide (b < 65) && !(s.fuse.variant == 2 && (decide (31 ≤ b ∧ b ≤ 46) || b == 64))

/-- The record in use of a block. -/
def calRecOf (s : State) (b : Nat) : List Word := spGet s.calRec b (List.replicate 32 0)

/-- Give a block a record in use. -/
def setCalRec (b : Nat) (r : List Word) (s : State) : State := { s with calRec := spPut s.calRec b r (List.replicate 32 0) }

/-- The fused record of a block and whether its fused CRC-32C matches. -/
def calFuse (s : State) (b : Nat) : List Word × Bool :=
  match s.fuse.trim.find? fun e => e.1 == b with
  | some e => (padTo 32 0 e.2.1, e.2.2)
  | none => (List.replicate 32 0, false)

/-- The fused ball delay of a TDC input, 0 where it is unreadable. -/
def fusedDelay (s : State) (b : Nat) : Int :=
  let f := calFuse s b
  if f.2 then sgn 32 (f.1.getD 2 0).toNat else 0

/-- The default record of a block (18 R594). -/
def calDefault (s : State) (b : Nat) : List Word := calDefaultWords b (fusedDelay s b)

/-- The number of set bits below w. -/
def onesBelow (w x : Nat) : Nat := ((List.range w).filter fun i => x.testBit i).length

/-- Tap position k of a TDC record. -/
def calTap (r : List Word) (k : Nat) : Nat := fld (r.getD (3 + k / 2) 0) (16 * (k % 2)) 16

/-- Words 0 and 1 of a record as one number. -/
def calMask (r : List Word) : Nat := (r.getD 0 0).toNat + 2 ^ 32 * (r.getD 1 0).toNat

/-- A repair field is 0 to 16, or 31 for none; of an absent stack 31. -/
def laneOk (present : Bool) (x : Nat) : Bool := x == 31 || (present && decide (x ≤ 16))

/-- A record is plausible for a block (18 R592). -/
def calPlausible (s : State) (b : Nat) (r : List Word) : Bool :=
  let w := fun (i : Nat) => r.getD i 0
  match calFam b with
  | 0 =>
    decide (calMask r < 2 ^ 40 ∧ onesBelow 40 (calMask r) = 32 ∧ calTap r 31 < 40000) &&
      ((List.range 31).all fun k => decide (calTap r k + 400 ≤ calTap r (k + 1) ∧ calTap r (k + 1) ≤ calTap r k + 2500)) &&
      decide ((sgn 32 (w 2).toNat - fusedDelay s b).natAbs ≤ 20000)
  | 1 => decide (calMask r < 2 ^ 36 ∧ onesBelow 36 (calMask r) = 32 ∧ 64 ≤ fld (w 2) 0 10 ∧ fld (w 2) 0 10 ≤ 960)
  | 2 =>
    let g := sgn 32 (w 1).toNat
    decide ((w 0).toNat < 2 ^ 20 ∧ onesBelow 20 (w 0).toNat = 16 ∧ -2048 ≤ g ∧ g ≤ 2047)
  | 3 => decide (16 ≤ fld (w 0) 0 6 ∧ fld (w 0) 0 6 ≤ 48)
  | _ => (List.range 32).all fun i =>
      let present := calPresent s b
      laneOk present (fld (w (i / 2)) (16 * (i % 2)) 5) && laneOk present (fld (w (i / 2)) (16 * (i % 2) + 5) 5)

/-- The repaired lane of half h of PC p in the record of its stack (18 R591). -/
def calLane (s : State) (p h : Nat) : Nat := fld ((calRecOf s (63 + p / 32)).getD (p % 32 / 2) 0) (16 * (p % 2) + 5 * h) 5

/-- FIELD: the record in use differs from the fused one. DEFAULT: the default is in use for want of a fused record. -/
def calShow (b : Nat) (s : State) : State :=
  let r := calRecOf s b
  setB .calBlockStatus 0 b 2 (r != (calFuse s b).1)
    (setB .calBlockStatus 0 b 1 (getB s .calBlockStatus 0 b 0 && r == calDefault s b) s)

/-- A lane repaired by training enters the record of its stack (15 R520). -/
def setCalLane (p h lane : Nat) (s : State) : State :=
  let b := 63 + p / 32
  let r := calRecOf s b
  let i := p % 32 / 2
  calShow b (setCalRec b (r.set i (setFld (r.getD i 0) (16 * (p % 2) + 5 * h) 5 lane)) s)

/-! Operations (18 R595 to R600). -/

/-- Units of a kind that are not OFF, GATED or READY. -/
def kindBusy (s : State) (k : UKind) : Bool :=
  (List.range (unitNum s.fuse.variant k)).any fun i =>
    match ustate s (unitBase k + i) with
    | .off | .gated | .ready => false
    | _ => true

/-- The unit states of R596 hold for a block. -/
def calStateOk (s : State) (b : Nat) : Bool :=
  if b < 8 then ustate s (0x140 + b) != .off && (match s.time.syn.toList[4]? with
    | some y => y.lock == 2
    | none => false)
  else if b = 8 then
    !([UKind.ing, .tun, .chz, .spec, .trig, .acq, .dens, .cmp].any fun k => kindBusy s k)
  else if b = 9 then !((List.range 24).any fun c => (ustate s (0x160 + c)).busy)
  else if b = 10 then (List.range 2).all fun k => getF s .hbmStackStatus k 0 0 3 == 0 || getF s .hbmStackStatus k 0 0 3 == 5
  else if b = 11 then !kindBusy s .disp
  else if b = 12 then true
  else if b = 13 then (List.range 4).all fun n => getF s .synSysrefCfg n 0 0 2 == 0 || getF s .synSysrefCfg n 0 0 2 == 3
  else if b = 14 then !(ustate s 0x230).busy
  else if b < 47 then
    (List.range 4).all fun n =>
      match ustate s (0x020 + n) with
      | .off | .gated | .ready => true
      | _ => !((List.range (lkLanes s n)).any fun k => lkLane s n k == b - 15)
  else if b < 63 then !getB s .hostLink 0 0 0
  else getF s .hbmStackStatus (b - 63) 0 0 3 != 2 && getF s .hbmStackStatus (b - 63) 0 0 3 != 4

/-- Add 1 to a 16-bit half of CAL_COUNT. -/
def calBump (b : Nat) (ok : Bool) (s : State) : State :=
  let lo := if ok then 0 else 16
  setF .calCount 0 b lo 16 (satU 16 (getF s .calCount 0 b lo 16 + 1)) s

/-- Put a record into use at its swap, with the time of the swap as three words (18 R599). -/
def calSwapAt (t : List Word) (b : Nat) (r : List Word) (s : State) : State :=
  calShow b ((List.range 3).foldl (fun s i => wr .calLastTime b i (t.getD i 0) s) (setCalRec b r s))

/-- Put a record into use now. -/
def calSwap (b : Nat) (r : List Word) (s : State) : State := calSwapAt (stampWords (eventTime s)) b r s

/-- An operation ends with a result: statuses, counts, audit entry, event (18 R599). -/
def calEnd (ag : AgentId) (b op res : Nat) (s : State) : State :=
  let s := setF .calSeqStatus 0 0 11 4 res s
  let s := if calPresent s b then calBump b (res == 0) (setF .calBlockStatus 0 b 4 4 res s) else s
  raise 0x0F01 0x220 [.u16 b, .u16 op, .u16 res] (audit 0x07 ag (op + 1) b res s)

/-- BLOCK and OP of CAL_SEQ_STATUS. -/
def calShowOp (b op : Nat) (s : State) : State := setF .calSeqStatus 0 0 8 3 op (setF .calSeqStatus 0 0 1 7 b s)

/-- The running RETRIM ends. -/
def retrimEnd (j : CalJob) (res : Nat) (s : State) : State :=
  let s := setB .calBlockStatus 0 j.block 3 false (setB .calSeqStatus 0 0 0 false { s with calJob := none })
  calEnd j.agent j.block 1 res s

/-- A unit that leaves the states of R596 ends a RETRIM with ABORTED (18 R599). -/
def calWatch (s : State) : State :=
  match s.calJob with
  | none => s
  | some j => if calStateOk s j.block then s else retrimEnd j 4 s

/-- A measurement that loses SYN_4 lock ends with FAULT (18 R597). -/
def calSyn4Lost (s : State) : State :=
  match s.calJob with
  | some j => if j.block < 8 ∨ j.block = 12 then retrimEnd j 5 s else s
  | none => s

/-- APPLY and RELOAD: test the record, swap it in (18 R598). -/
def calUse (ag : AgentId) (b op : Nat) (r : List Word) (good : Bool) (s : State) : State :=
  if good && calPlausible s b r then calEnd ag b op 0 (calSwap b r s) else calEnd ag b op 1 s

/-- RETRIM, APPLY, RELOAD by an agent (18 R595). -/
def calOp (ag : AgentId) (b op : Nat) (s : State) : State :=
  if s.calJob.isSome then calEnd ag b op 6 s
  else
    let s := calShowOp b op s
    if !calPresent s b then calEnd ag b op 3 s
    else if op = 1 ∧ (b = 14 ∨ 63 ≤ b) then calEnd ag b op 7 s
    else if !calStateOk s b then calEnd ag b op 2 s
    else if op = 1 then
      setB .calBlockStatus 0 b 3 true (setB .calSeqStatus 0 0 0 true { s with calJob := some { block := b, agent := ag } })
    else if op = 2 then calUse ag b op ((List.range 32).map fun i => rd s .calStage 0 i) true s
    else calUse ag b op (calFuse s b).1 (calFuse s b).2 s

/-- ABORT (18 R599). -/
def calAbort (s : State) : State :=
  match s.calJob with
  | some j => setF .calSeqStatus 0 0 15 2 1 (retrimEnd j 4 s)
  | none => setF .calSeqStatus 0 0 15 2 2 s

/-- A write of CAL_CMD (18 R595). -/
def calCmdEff (ag : AgentId) (v : BitVec 32) (s : State) : WRes :=
  let op := fld v 8 3
  if op = 0 then (s, 0)
  else if op = 4 then (calAbort s, 0)
  else if 5 ≤ op then (ignored ag (Reg.off .calCmd 0 0) op s, 99)
  else (calOp ag (fld v 0 7) op s, 0)

/-- A command by an agent. -/
def calCmdWrite (ag : AgentId) (b op : Nat) (s : State) : State :=
  let v := BitVec.ofNat 32 (b % 128 + op * 256)
  guardW ag (Reg.off .calCmd 0 0) v (calCmdEff ag v) s

/-- CAL_RETRIM (18 R596). -/
def execCalRetrim (ag : AgentId) (b : Nat) (s : State) : Out := .next (calCmdWrite ag b 1 s)

/-- CAL_APPLY (18 R598). -/
def execCalApply (ag : AgentId) (b : Nat) (s : State) : Out := .next (calCmdWrite ag b 2 s)

/-- CAL_RELOAD (18 R598). -/
def execCalReload (ag : AgentId) (b : Nat) (s : State) : Out := .next (calCmdWrite ag b 3 s)

/-- CAL_ABORT (18 R599). -/
def execCalAbort (ag : AgentId) (s : State) : Out := .next (calCmdWrite ag 0 4 s)

/-- CAL_RETRIM_DONE: the measurement yields a record; a SYN_4 re-trim keeps the cell mask (18 R596, R597). -/
def execCalRetrimDone (words : List Word) (s : State) : Out :=
  match s.calJob with
  | none => .next s
  | some j =>
    let old := calRecOf s j.block
    let r := padTo 32 0 words
    let r := if j.block = 12 then (r.set 0 (old.getD 0 0)).set 1 (old.getD 1 0) else r
    if calPlausible s j.block r then .next (retrimEnd j 0 (calSwap j.block r s)) else .next (retrimEnd j 1 s)

/-- CAL_RETRIM_TIMEOUT (18 R597). -/
def execCalRetrimTimeout (s : State) : Out :=
  match s.calJob with
  | none => .next s
  | some j => .next (retrimEnd j 5 s)

/-- The boot load of a block's fused or default record; before SYN_0 locks its time is recorded as 0 (18 R594, R599). -/
def calBootLoad (b : Nat) (s : State) : State :=
  if calPresent s b then
    let f := calFuse s b
    let good := f.2 && calPlausible s b f.1
    let s := setB .calBlockStatus 0 b 0 (!good) s
    let t := if (s.time.syn.toList[0]?).any (fun y => y.lock == 2) then stampWords (eventTime s) else [0, 0, 0]
    let s := calSwapAt t b (if good then f.1 else calDefault s b) s
    let s := audit 0x07 0x5A 1 b 0 (calBump b true (setF .calBlockStatus 0 b 4 4 0 s))
    if good then s else raise 0x0F02 0x220 [.u16 b] s
  else s

/-- The sequencer loads every block (18 R594). -/
def calBoot (s : State) : State := (List.range 65).foldl (fun s b => calBootLoad b s) s

end Sys2Proof.Machine
end

