-- ==== Sys2Proof/Machine/TimeUnit.lean ====
section
/-! DEFINITION. Device time and its servo (03_device_time.md R127 to R152, R159 to R167). -/

namespace Sys2Proof.Machine

/-- x picoseconds in units of 2^-64 s, rounded down (DEDUCED, log entry 12). -/
def psTotal (x : Int) : Int := x * (2 ^ 64 : Nat) / 1000000000000

/-- A span of 2^-64 s units in picoseconds, rounded down. -/
def totalPs (x : Int) : Int := x * 1000000000000 / ((2 ^ 64 : Nat) : Int)

/-- Replace the time unit's state. -/
def withTime (f : TimeState → TimeState) (s : State) : State := { s with time := f s.time }

/-- Load device time with a count of 2^-64 s, modulo 2^112. -/
def loadTime (total : Int) (s : State) : State :=
  let x := unsgn 112 total
  withTime (fun t => { t with sec := BitVec.ofNat 48 (x / 2 ^ 64), acc := BitVec.ofNat 64 x }) s

/-- A step of device time by ps picoseconds: loaded, each source's next stamp STEPPED, every link's anchor moved with it
(04 R184), 0x0105, an audit entry (03 R130, R149). -/
def stepTime (total ps : Int) (cause : Nat) (s : State) : State :=
  let d := total - nowTotal s
  let s := withTime (fun t => { t with steps := t.steps + 1 }) (loadTime total s)
  let s := { s with ing := s.ing.map fun l => { l with anchor := l.anchor + d, edge := l.edge + d, start := l.start + d } }
  let s := raise 0x0105 0x010 [.s32 ps, .u16 cause] s
  audit 0x06 0 cause 0 (unsgn 32 (satS 32 ps)) s

/-- Set CMD_ERR of TIME_STATUS. -/
def timeCmdErr (s : State) : State := setB .timeStatus 0 0 3 true s

/-- The lock window in ps (03 R141, TIME_LOCK_CFG). -/
def lockWindow (s : State) : Nat := 10 * max 1 (getF s .timeLockCfg 0 0 0 16)

/-- REF_SEL, with the reserved value as 0. -/
def refSel (s : State) : Nat := if getF s .timeCfg 0 0 0 2 = 3 then 0 else getF s .timeCfg 0 0 0 2

/-- The reference period in ps (03 R139). -/
def refPeriod (s : State) : Nat := if refSel s = 2 then 10000 else 100000

/-- TIME_REF_OFFSET in ps. -/
def refOffset (s : State) : Int := sgn 32 (rd s .timeRefOffset 0 0).toNat

/-- The qualification period in units of 2^-64 s (TIME_CFG REF_QUAL). -/
def qualPeriod (s : State) : Nat := usTotal (100000 * max 1 (getF s .timeCfg 0 0 8 8))

/-- A phase error folded into one reference period (03 R139). -/
def foldPhase (s : State) (e : Int) : Int :=
  let t : Int := refPeriod s
  (e + t / 2) % t - t / 2

/-- The mean of a list, rounded to nearest; 0 for none. -/
def meanInt (l : List Int) : Int := if l.length = 0 then 0 else (2 * l.sum + l.length) / (2 * l.length)

/-- CODE on EFC_OUT. -/
def setCode (c : Nat) (s : State) : State :=
  setF .timeEfc 0 0 16 16 c (withTime (fun t => { t with efcFine := c * 2 ^ 48 }) s)

/-- CODE moves for one reference period toward a code, with time constant 2^EFC_TAU s; the code sought is mirrored when
EFC_INVERT says that the frequency falls as the code rises (03 R142; the first-order form is a DESIGN CHOICE, log entry
173). -/
def efcToward (target : Nat) (s : State) : State :=
  let goal : Nat := if getB s .timeCfg 0 0 7 then 65535 - target % 65536 else target % 65536
  let tau : Nat := 2 ^ getF s .timeCfg 0 0 16 4 * 1000000000000
  let fine := (s.time.efcFine : Int) + ((goal * 2 ^ 48 : Nat) - (s.time.efcFine : Int)) * refPeriod s / tau
  let fine := fine.toNat
  setF .timeEfc 0 0 16 16 (fine / 2 ^ 48) (withTime (fun t => { t with efcFine := fine }) s)

/-- The rate word: nominal plus the correction (03 R131). -/
def setRate (corr : Int) (s : State) : State :=
  withTime (fun t => { t with rateCorr := corr, rate := BitVec.ofNat 64 (unsgn 64 (nominalRate + corr)) }) s

/-- TIME_SLEW_RATE in ps/s of the nominal rate. -/
def slewLimit (s : State) : Nat := nominalRate * (rd s .timeSlewRate 0 0).toNat / 1000000000000

/-- The correction of a slew: TIME_SLEW_RATE with the sign of J (03 R147). -/
def slewCorr (s : State) : Int := if s.time.jump < 0 then -(slewLimit s : Int) else slewLimit s

/-- CODE and correction at the edges of the last 2^EFC_TAU times 8 s of the last lock, or of all of it (03 R143). -/
def lockSpan (s : State) : List (Nat × Int × Int) :=
  let span := usTotal (8000000 * 2 ^ getF s .timeCfg 0 0 16 4)
  match s.time.lockHist with
  | [] => []
  | x :: _ => s.time.lockHist.filter fun y => decide (x.1 ≤ y.1 + span)

/-- The rate correction that holdover and coarse mode hold: its mean over that span; before any lock the present one
(03 R134, R143). -/
def heldCorr (s : State) : Int :=
  if (lockSpan s).length = 0 then s.time.rateCorr else meanInt ((lockSpan s).map fun x => x.2.2)

/-- Change the servo state and its field of TIME_STATUS. -/
def setServo (v : Servo) (s : State) : State :=
  let n := match v with | .free => 0 | .acquire => 1 | .locked => 2 | .holdover => 3 | .jumpWait => 4 | .slew => 5
  setF .timeStatus 0 0 0 3 n (withTime (fun t => { t with servo := v, inWindow := none }) s)

/-- FREE: nominal rate word, EFC at its manual code (03 R136). -/
def enterFree (s : State) : State :=
  setCode (getF s .timeEfc 0 0 0 16) (setRate 0 (setServo .free (withTime (fun t => { t with slewing := false }) s)))

/-- HOLDOVER: code and rate at their means over the last 2^EFC_TAU times 8 s of lock (03 R143). -/
def enterHoldover (s : State) : State :=
  let h := lockSpan s
  let code := if getB s .timeCfg 0 0 6 then getF s .timeEfc 0 0 0 16
              else if h.length = 0 then getF s .timeEfc 0 0 16 16 else (meanInt (h.map fun x => x.2.1)).toNat
  setCode code (setRate (heldCorr s) (setServo .holdover (withTime (fun t => { t with slewing := false }) s)))

/-- Raise 0x0107 when WARM has changed from its value before: WARM, then its three terms in the order of R145, a u16 each
(03 R145, R167; the fields' form is a DESIGN CHOICE, log entry 174). -/
def warmChanged (before : Bool) (s : State) : State :=
  if warmNow s = before then s
  else raise 0x0107 0x010
    [.u16 (b2n (warmNow s)), .u16 (b2n (warmReady s)), .u16 (b2n s.time.warmExpired), .u16 (b2n (warmDrift s))] s

/-- OCXO_READY_CHANGE: the pin's level; a fall restarts the warm-up timer while READY_EN is 1 (03 R145). -/
def execOcxoReadyChange (level : Bool) (s : State) : Out :=
  let w := warmNow s
  let fell := s.time.ocxoReady && !level && getB s .timeCfg 0 0 2
  let s := withTime (fun t => { t with ocxoReady := level,
                                       warmExpired := t.warmExpired && !fell,
                                       warmStart := if fell then t.up else t.warmStart }) s
  .next (warmChanged w s)

/-- WARM_TIMER_EXPIRY (03 R145). -/
def execWarmTimerExpiry (s : State) : Out :=
  let w := warmNow s
  .next (warmChanged w (withTime (fun t => { t with warmExpired := true }) s))

/-- DRIFT_GATE_END: a drift in 0.01 ppb per 10 s, measured while the reference is present (03 R145). -/
def execDriftGateEnd (drift : Int) (s : State) : Out :=
  if s.time.qualified then
    let w := warmNow s
    let s := withTime (fun t => { t with driftMeasured := true }) s
    .next (warmChanged w (wr .timeMeas 0 2 (BitVec.ofNat 32 (unsgn 32 drift)) s))
  else .next s

/-- 1 ppm of the nominal rate word. -/
def rateLimit : Nat := nominalRate / 1000000

/-- The pull-in of ACQUIRE toward the reference: a free value of at most TIME_SLEW_RATE (03 R136). -/
def pullCorr (e : Int) (s : State) : Int :=
  let pull : Nat := min (slewLimit s) (Config.pullIn s.free)
  if e < 0 then -(pull : Int) else pull

/-- The frequency correction that the servo seeks: a free value of at most 1 ppm (03 R134). -/
def freqCorr (s : State) : Int := clampInt (-(rateLimit : Int)) rateLimit (Config.rateCorr s.free)

/-- The servo's steering at an edge of phase error e: the code it seeks and the frequency correction are free values; the
pull-in of ACQUIRE, toward the reference, is a free value of at most TIME_SLEW_RATE, the slew adds TIME_SLEW_RATE; in coarse
mode the rate is held (03 R134, R136, R142, R144, R147). -/
def steer (e : Int) (s : State) : State :=
  let corr :=
    if s.time.servo = .slew ∧ s.time.slewing then freqCorr s + slewCorr s
    else if s.time.servo = .acquire then freqCorr s + pullCorr e s
    else freqCorr s
  let s := nextFree (if getB s .timeCfg 0 0 6 then setCode (getF s .timeEfc 0 0 0 16) s
    else efcToward (Config.efcCode s.free) s)
  if s.time.mode = .full then setRate (clampInt (-(rateLimit : Int)) rateLimit corr) s else s

/-- LOCKED is reached (03 R137). -/
def lockNow (s : State) : State :=
  let s := withTime (fun t => { t with everLocked := true, lockHist := [] }) (setServo .locked s)
  raise 0x0101 0x010 [.s32 (meanInt s.time.errors)] s

/-- The window test of ACQUIRE and SLEW: |phase error| within the window for one qualification period; under
EFC_MANUAL a frequency error beyond 1 ppm keeps the servo out (03 R137, R144). -/
def windowTest (e : Int) (freqOk : Bool) (s : State) : State :=
  if e.natAbs ≤ lockWindow s ∧ (freqOk ∨ ¬ getB s .timeCfg 0 0 6) then
    let since := s.time.inWindow.getD (upTotal s)
    if since + qualPeriod s ≤ upTotal s then lockNow s
    else withTime (fun t => { t with inWindow := some since }) s
  else withTime (fun t => { t with inWindow := none }) s

/-- The end of a slew (03 R147): its duration in ms. -/
def slewDone (s : State) : State :=
  let ms : Nat := (upTotal s - s.time.slewStart) * 1000 / 2 ^ 64
  raise 0x0106 0x010 [.s32 (Int.ofNat ms)] (withTime (fun t => { t with slewing := false }) s)

/-- The phase error at a REF_IN edge whose device time is given in 2^-64 s: the reference phase less that of device time,
in ps (03 R139). -/
def phaseError (at_ : Nat) (s : State) : Int := foldPhase s (refOffset s - totalPs at_)

/-- ACQUIRE is entered from FREE: an error beyond the lock window steps device time once (03 R137, R140). -/
def acquireFirst (e : Int) (s : State) : State :=
  let s := setServo .acquire s
  if lockWindow s < e.natAbs then stepTime (nowTotal s + psTotal e) e 3 s else s

/-- The phase error of an edge in the servo's state; whether the frequency error lies within 1 ppm (03 R137 to R144, R147,
R148). -/
def servoEdge (e : Int) (freqOk : Bool) (s : State) : State :=
  match s.time.servo with
  | .free => if s.time.qualified ∧ s.time.setHeld.isNone then acquireFirst e s else s
  | .holdover => s
  | .acquire => windowTest e freqOk (steer e s)
  | .slew =>
    let s := steer e s
    let s := if s.time.slewing ∧ e.natAbs ≤ lockWindow s then slewDone s else s
    windowTest e freqOk s
  | .locked =>
    let s := steer e s
    let m := meanInt (s.time.errors.map fun x => (x.natAbs : Int))
    let s := withTime (fun t => { t with lockHist := (t.up, (getF s .timeEfc 0 0 16 16 : Int), t.rateCorr) :: t.lockHist }) s
    if s.time.errors.length = 1000 ∧ (lockWindow s : Int) < m then setServo .acquire s else s
  | .jumpWait =>
    let s := steer e s
    if s.time.jumpSince + qualPeriod s ≤ upTotal s then
      let j := meanInt s.time.errors
      wr .timeMeas 0 1 (BitVec.ofNat 32 (unsgn 32 j)) (withTime (fun t => { t with jump := j, jumpSince := t.up }) s)
    else s

/-- REF_IN_EDGE: an edge of the selected reference, late 2^-64 s after the last cycle that device time has counted, and
whether the frequency error lies within 1 ppm (03 R137 to R144, R147, R148). -/
def execRefInEdge (late : Nat) (freqOk : Bool) (s : State) : Out :=
  if refSel s = 0 ∨ ustate s 0x010 = .fault ∨ !s.time.started then .next s
  else
    let e := phaseError (nowTotal s + late) s
    let s := withTime (fun t => { t with errors := (e :: t.errors).take 1000 }) s
    .next (servoEdge e freqOk (wr .timeMeas 0 0 (BitVec.ofNat 32 (unsgn 32 (meanInt s.time.errors))) s))

/-- The loss of the reference (03 R137, R138, R147). -/
def refLost (s : State) : State :=
  let s := setB .timeStatus 0 0 4 false (withTime (fun t => { t with qualified := false, errors := [] }) s)
  let s := if s.time.servo = .slew ∧ s.time.slewing then slewDone s else s
  match s.time.servo with
  | .free => s
  | .holdover => s
  | .acquire =>
    if s.time.everLocked then raise 0x0102 0x010 [.u16 3] (enterHoldover s)
    else raise 0x0102 0x010 [.u16 0] (enterFree s)
  | .locked => raise 0x0102 0x010 [.u16 3] (enterHoldover s)
  | .jumpWait => raise 0x0102 0x010 [.u16 3] (enterHoldover s)
  | .slew => raise 0x0102 0x010 [.u16 3] (enterHoldover s)

/-- REF_LOST (03 R138). -/
def execRefLost (s : State) : Out := .next (refLost s)

/-- A qualified reference ends HOLDOVER by its jump J, the mean error of the last 1,000 edges (03 R137, R146 to R148). -/
def leaveHoldover (s : State) : State :=
  let j := meanInt s.time.errors
  let s := wr .timeMeas 0 1 (BitVec.ofNat 32 (unsgn 32 j)) (withTime (fun t => { t with jump := j, jumpSince := t.up }) s)
  let s := raise 0x0103 0x010 [.s32 j] s
  if j.natAbs ≤ (rd s .timeJumpLimit 0 0).toNat then
    setServo .slew (withTime (fun t => { t with slewing := true, slewStart := t.up }) s)
  else raise 0x0104 0x010 [.s32 j] (setServo .jumpWait s)

/-- REF_QUALIFIED: the reference has been present for the qualification period (03 R137, R138, R140, R146). FREE is left
with the error of the last edge; before device time counts, at the first edge after that. -/
def execRefQualified (s : State) : Out :=
  if refSel s = 0 ∨ ustate s 0x010 = .fault then .next s
  else
    let s := setB .timeStatus 0 0 4 true (withTime (fun t => { t with qualified := true }) s)
    match s.time.servo with
    | .free =>
      match s.time.errors with
      | [] => .next s
      | e :: _ => .next (if s.time.setHeld.isNone then acquireFirst e s else s)
    | .holdover => .next (leaveHoldover s)
    | .acquire => .next s
    | .locked => .next s
    | .jumpWait => .next s
    | .slew => .next s

/-- A TIME_CMD command refused in its state: CMD_ERR and an audit entry (03 R151). -/
def timeIgnored (ag : AgentId) (cmd : Nat) (s : State) : WRes :=
  (ignored ag (Reg.off .timeCmd 0 0) cmd (timeCmdErr s), 99)

/-- STEP in JUMP_WAIT adds J to device time (03 R149, R151). -/
def timeStepEff (ag : AgentId) (s : State) : WRes :=
  if s.time.servo = .jumpWait then
    (setServo .acquire (stepTime (nowTotal s + psTotal s.time.jump) s.time.jump 0 s), 0)
  else timeIgnored ag 1 s

/-- SLEW in JUMP_WAIT removes J at TIME_SLEW_RATE (03 R150, R151). -/
def timeSlewEff (ag : AgentId) (s : State) : WRes :=
  if s.time.servo = .jumpWait then
    (setServo .slew (withTime (fun t => { t with slewing := true, slewStart := t.up }) s), 0)
  else timeIgnored ag 2 s

/-- TIME_SET as seconds. -/
def setSeconds (s : State) : Nat := rd64 s .timeSet 0 % 2 ^ 48

/-- SET arms a load of TIME_SET, which it takes as it stands at the write, and returns the servo to FREE (03 R137, R152; when
TIME_SET is read is a DESIGN CHOICE, log entry 175). -/
def timeSetEff (s : State) : WRes :=
  (enterFree (withTime (fun t => { t with setHeld := some (setSeconds s), everLocked := false }) s), 0)

/-- The SYN_5 cycle count: whole periods of 0.8 ns of device time since its zero (03 R159). -/
def syn5Count (s : State) : Int := ((nowTotal s : Int) - s.time.syn5Zero) * 1250000000 / ((2 ^ 64 : Nat) : Int)

/-- Device time in 2^-64 s of SYN_5 cycle k, rounded up: its first instant. -/
def syn5At (s : State) (k : Int) : Int := s.time.syn5Zero - -(k * ((2 ^ 64 : Nat) : Int)) / 1250000000

/-- DIV of SYSREF_OUT_n. -/
def sysrefDiv (s : State) (n : Nat) : Nat := max 1 (getF s .synSysrefCfg n 0 16 16)

/-- The first SYN_5 cycle from c on at which SYSREF_OUT_n may rise (03 R159). -/
def sysrefNext (s : State) (n : Nat) (c : Int) : Int := c + ((getF s .synSysrefDelay n 0 0 16 : Int) - c) % (sysrefDiv s n : Nat)

/-- The burst of SYSREF_OUT_n is still being sent (03 R160). -/
def sysrefBusy (s : State) (n : Nat) : Bool :=
  let left := vget s.time.sysrefLeft n 0
  decide (0 < left ∧ getF s .synSysrefCfg n 0 0 2 = 2 ∧
    syn5Count s < ((vget s.time.sysrefFrom n 0 + (left - 1) * sysrefDiv s n + sysrefDiv s n / 2 : Nat) : Int))

/-- The SYN_5 cycle of the latest rising edge of SYSREF_OUT_n up to SYN_5 cycle c (03 R159, R160). -/
def sysrefLast (s : State) (n : Nat) (c : Int) : Option Int :=
  let div : Int := (sysrefDiv s n : Nat)
  if getF s .synSysrefCfg n 0 0 2 = 1 then some (sysrefNext s n (c - div + 1))
  else if getF s .synSysrefCfg n 0 0 2 = 2 then
    let first : Int := (vget s.time.sysrefFrom n 0 : Nat)
    let left := vget s.time.sysrefLeft n 0
    if left = 0 ∨ c < first then none
    else some (first + min ((c - first) / div) ((left - 1 : Nat) : Int) * div)
  else none

/-- The level of SYSREF_OUT_n: high for DIV / 2 cycles from each rising edge; low while SYN_5 is unlocked (03 R156,
R159). -/
def sysrefLevel (s : State) (n : Nat) : Bool :=
  (vget s.time.syn 5 synDflt).lock == 2 &&
    match sysrefLast s n (syn5Count s) with
    | some k => decide (syn5Count s < k + (sysrefDiv s n / 2 : Nat))
    | none => false

/-- SYSREF_OUT_n takes its level. -/
def sysrefTick (n : Nat) (s : State) : State :=
  withTime (fun t => { t with sysrefOut := vset t.sysrefOut n (sysrefLevel s n) }) s

/-- SYN_5's count starts again at the loaded time and ESTIMATED ends: a SET or a synchronisation load (03 R135, R159). A
burst that is being sent goes on after as many cycles as it had left (DESIGN CHOICE, log entry 176). -/
def loadEnds (before s : State) : State :=
  let c := syn5Count before
  let s := withTime (fun t => { t with estHold := false, syn5Zero := t.sec.toNat * 2 ^ 64 + t.acc.toNat }) s
  (List.range 4).foldl (fun s n =>
    if sysrefBusy before n then
      let from_ := (sysrefNext s n ((vget before.time.sysrefFrom n 0 : Nat) - c)).toNat
      withTime (fun t => { t with sysrefFrom := vset t.sysrefFrom n from_ }) s
    else withTime (fun t => { t with sysrefLeft := vset t.sysrefLeft n 0 }) s) s

/-- A SET or a synchronisation load (03 R152, R163). -/
def loadStep (tgt : Int) (cause : Nat) (s : State) : State :=
  loadEnds s (stepTime tgt (totalPs (tgt - nowTotal s)) cause s)

/-- SET_APPLIED: at the next REF_IN edge with a reference, else at the next cycle (03 R152). -/
def setApplied (s : State) : State :=
  match s.time.setHeld with
  | none => s
  | some sec =>
    if s.time.started then
      let tgt : Int := (sec * 2 ^ 64 : Nat) + (if s.time.qualified then psTotal (refOffset s) else 0)
      let s := withTime (fun t => { t with setHeld := none }) (loadStep tgt 1 s)
      if s.time.qualified ∧ s.time.servo = .free then setServo .acquire s else s
    else s

/-- SET_APPLIED (03 R152). -/
def execSetApplied (s : State) : Out := .next (setApplied s)

/-- SYNC_ROLE: 1 master, 2 member, else off. -/
def syncRole (s : State) : Nat := if getF s .timeCfg 0 0 4 2 = 3 then 0 else getF s .timeCfg 0 0 4 2

/-- CRC-16 of a synchronisation frame's bits 0 to 79 (03 R161): polynomial 0x1021, initial value 0xFFFF, byte by byte,
most significant bit first (DEDUCED, log entry 13). -/
def crc16 (bs : List (BitVec 8)) : Nat :=
  bs.foldl (fun c b =>
    (List.range 8).foldl (fun c _ => if 2 ^ 15 ≤ c then Nat.xor (c * 2 % 2 ^ 16) 0x1021 else c * 2 % 2 ^ 16)
      (Nat.xor c (b.toNat * 256))) 0xFFFF

/-- The frame of its fields with an error pattern on its CRC (03 R161). -/
def syncFrame (typ hop l sec bad : Nat) : BitVec 96 :=
  let d := typ % 256 + hop % 256 * 2 ^ 8 + l % 2 ^ 16 * 2 ^ 16 + sec % 2 ^ 48 * 2 ^ 32
  BitVec.ofNat 96 (d + Nat.xor (crc16 (leBytes 10 d)) bad * 2 ^ 80)

/-- The fields of a frame: type, hop count, L, seconds, and the error pattern of its CRC. -/
def syncFields (f : BitVec 96) : Nat × Nat × Nat × Nat × Nat :=
  let x := f.toNat
  let d := x % 2 ^ 80
  (d % 256, d / 2 ^ 8 % 256, d / 2 ^ 16 % 2 ^ 16, d / 2 ^ 32, Nat.xor (x / 2 ^ 80) (crc16 (leBytes 10 d)))

/-- The master sends a frame (03 R162, R164, R165). -/
def syncSend (ag : AgentId) (cmd : Nat) (s : State) : WRes :=
  let l := getF s .timeSyncCfg 0 0 0 16
  if syncRole s ≠ 1 ∨ l < 640 ∨ s.time.servo = .free ∨ s.time.sync.isSome then timeIgnored ag cmd s
  else
    let span := (psTotal (l * refPeriod s : Nat)).toNat
    let sec := if cmd = 4 then setSeconds s
               else if s.time.acc.toNat + span ≤ 2 ^ 64 then s.time.sec.toNat + 1 else s.time.sec.toNat + 2
    (withTime (fun t => { t with sync := some { load := cmd == 4, seconds := sec, hop := 0 },
                                 syncOut := t.syncOut ++ [syncFrame (cmd - 3) 0 l sec 0] }) s, 0)

/-- TIME_CMD as a register write (03 TIME_CMD); 6 and 7 are ignored and set CMD_ERR. -/
def timeCmdEff (ag : AgentId) (v : BitVec 32) (s : State) : WRes :=
  let c := fld v 0 3
  if c = 0 then (s, 0)
  else if c = 1 then timeStepEff ag s
  else if c = 2 then timeSlewEff ag s
  else if c = 3 then timeSetEff s
  else if c ≤ 5 then syncSend ag c s
  else timeIgnored ag c s

/-- A write of a command value to TIME_CMD by an agent. -/
def timeCmdWrite (ag : AgentId) (c : Nat) (s : State) : State :=
  guardW ag (Reg.off .timeCmd 0 0) (BitVec.ofNat 32 c) (timeCmdEff ag (BitVec.ofNat 32 c)) s

/-- STEP (03 R149). -/
def execStep (ag : AgentId) (s : State) : Out := .next (timeCmdWrite ag 1 s)

/-- SLEW (03 R150). -/
def execSlew (ag : AgentId) (s : State) : Out := .next (timeCmdWrite ag 2 s)

/-- SET (03 R152). -/
def execSet (ag : AgentId) (s : State) : Out := .next (timeCmdWrite ag 3 s)

/-- SYNC_LOAD (03 R164). -/
def execSyncLoad (ag : AgentId) (s : State) : Out := .next (timeCmdWrite ag 4 s)

/-- SYNC_CHECK (03 R164). -/
def execSyncCheck (ag : AgentId) (s : State) : Out := .next (timeCmdWrite ag 5 s)

/-- A frame that is ignored under 03 R165: 0x010A with its cause, counted in SYNC_ERR. -/
def syncError (cause : Nat) (s : State) : State :=
  raise 0x010A 0x010 [.u16 cause] (setF .timeSyncCfg 0 0 24 8 (satU 8 (getF s .timeSyncCfg 0 0 24 8 + 1)) s)

/-- SYNC_FRAME: a frame received on SYNC_IN is forwarded with its hop count increased and its CRC recomputed, an error
in the CRC kept, and then checked (03 R162 to R165). -/
def execSyncFrame (f : BitVec 96) (s : State) : Out :=
  if syncRole s = 0 then .next s
  else
    let (typ, hop, l, sec, bad) := syncFields f
    let s := withTime (fun t => { t with syncOut := t.syncOut ++ [syncFrame typ (hop + 1) l sec bad] }) s
    if s.time.servo = .free ∨ s.time.sync.isSome then .next s
    else if bad ≠ 0 then .next (syncError 0 s)
    else if typ ≠ 1 ∧ typ ≠ 2 then .next (syncError 1 s)
    else if 63 < hop then .next (syncError 2 s)
    else if l < 640 then .next (syncError 3 s)
    else .next (setF .timeSyncCfg 0 0 16 8 hop
      (withTime (fun t => { t with sync := some { load := typ == 1, seconds := sec, hop := hop } }) s))

/-- SYNC_LOAD_POINT: at E0 + L a LOAD sets device time, a CHECK compares it (03 R163, R164). -/
def execSyncLoadPoint (s : State) : Out :=
  match s.time.sync with
  | none => .next s
  | some j =>
    let s := withTime (fun t => { t with sync := none }) s
    let tgt : Int := (j.seconds * 2 ^ 64 : Nat) + psTotal (refOffset s)
    if j.load then
      .next (raise 0x0109 0x010 [.u64 j.seconds, .u16 j.hop] (loadStep tgt 2 s))
    else
      let d := clampInt (-2147483647) 2147483647 (totalPs (nowTotal s - tgt))
      .next (raise 0x0108 0x010 [.s32 d] (wr .timeSyncResult 0 0 (BitVec.ofNat 32 (unsgn 32 d)) s))

/-- SYN_SYSREF_CFG written: DIV is checked in the continuous and gapped modes, FIRE starts a burst (03 R160). -/
def sysrefCfgEff (ag : AgentId) (n : Nat) (v : BitVec 32) (s : State) : WRes :=
  let mode := if fld v 0 2 = 3 then 0 else fld v 0 2
  let div := fld v 16 16
  if mode ≠ 0 ∧ (div % 2 = 1 ∨ div < 8 ∨ 65534 < div) then (timeCmdErr s, 5)
  else
    let s := calWatch (wr .synSysrefCfg n 0 (v &&& 0xFFFFFF03) s)
    if bit v 2 ∧ mode = 2 then
      if sysrefBusy s n then (ignored ag (Reg.off .synSysrefCfg n 0) 1 s, 99)
      else
        let from_ := (sysrefNext s n (syn5Count s + 1024)).toNat
        let left := vset s.time.sysrefLeft n (fld v 8 8)
        (sysrefTick n (withTime (fun t => { t with sysrefLeft := left, sysrefFrom := vset t.sysrefFrom n from_ }) s), 0)
    else (sysrefTick n s, 0)

/-- Synthesiser n. -/
def synOf (s : State) (n : Nat) : Syn := vget s.time.syn n synDflt

/-- Change synthesiser n. -/
def withSyn (n : Nat) (f : Syn → Syn) (s : State) : State :=
  withTime (fun t => { t with syn := vset t.syn n (f (vget t.syn n synDflt)) }) s

/-- 0x0112 (03 R158). -/
def phaseDone (n : Nat) (s : State) : State :=
  raise 0x0112 0x010 [.u16 n, .u16 (unsgn 16 (synOf s n).current)]
    (withSyn n (fun y => { y with moving := false }) s)

/-- A write of TARGET (03 R158); the field is RSV on SYN_1 to SYN_3. -/
def synPhaseEff (n : Nat) (v : BitVec 32) (s : State) : WRes :=
  if n = 0 ∨ n = 4 ∨ n = 5 then
    let y := synOf s n
    let tgt := sgn 16 (fld v 0 16)
    let s := withSyn n (fun y => { y with target := tgt, moving := tgt != y.current }) s
    if y.moving ∧ tgt = y.current then (phaseDone n s, 0) else (s, 0)
  else (s, 0)

/-- SYN_PHASE_WRITE (03 R158). -/
def execSynPhaseWrite (ag : AgentId) (n : Nat) (v : BitVec 32) (s : State) : Out :=
  .next (guardW ag (Reg.off .synPhase n 0) v (synPhaseEff n v) s)

/-- SYN_PHASE_STEP: CURRENT moves one step; a step of SYN_0 is added into the accumulator by its next cycle, which the
step makes longer or shorter, and no further one comes before that cycle (03 R132, R149, R158). -/
def execSynPhaseStep (n : Nat) (s : State) : Out :=
  let y := synOf s n
  if y.moving ∧ y.lock = 2 ∧ (n ≠ 0 ∨ s.time.phaseAdj = 0) then
    let c := if y.current < y.target then y.current + 1 else y.current - 1
    let s := withSyn n (fun y => { y with current := c }) s
    let add : Int := c * nominalRate / 512 - y.current * nominalRate / 512
    let s := if n = 0 then withTime (fun t => { t with phaseAdj := add }) s else s
    if c = y.target then .next (phaseDone n s) else .next s
  else .next s

/-- What a tick adds to device time (03 R131, R134, R135). -/
def tickAdd (s : State) : Nat :=
  match s.time.mode with
  | .stopped => 0
  | .full => s.time.rate.toNat
  | .coarse => (if s.time.coarseOdd then 13 else 12) * s.time.rate.toNat
  | .rc => 50 * nominalRate

/-- One tick of the clock that device time runs from: a stream-clock cycle in full mode, a 10 ns period of OCXO_CLK in
coarse mode, a 40 ns cycle of the AON RC oscillator in RC mode (03 R131, R132, R134, R135). -/
def timeTick (s : State) : State :=
  let full := decide (s.time.mode = .full)
  let s' := loadTime (nowTotal s + tickAdd s + (if full then s.time.phaseAdj else 0)) s
  withTime (fun t => { t with
    up := t.up + tickAdd s, cycles := t.cycles + b2n full, phaseAdj := if full then 0 else t.phaseAdj,
    coarseOdd := if t.mode = .coarse then !t.coarseOdd else t.coarseOdd }) s'

end Sys2Proof.Machine
end

