-- ==== Sys2Proof/Machine/Ingress.lean ====
section
/-! DEFINITION. The ingress links (04_sample_ingress.md). -/

namespace Sys2Proof.Machine

/-- Link n. -/
def link (s : State) (n : Nat) : Link := vget s.ing n Link.reset

/-- Change link n. -/
def withLink (n : Nat) (f : Link → Link) (s : State) : State := { s with ing := vset s.ing n (f (link s n)) }

/-- Unit code of link n. -/
def ingUnit (n : Nat) : Nat := 0x020 + n

/-! Configuration (04 R169, ING_LINK_CFG, ING_LINK_TIMING). -/

/-- ENC is 64b/66b. -/
def lkEnc66 (s : State) (n : Nat) : Bool := getB s .ingLinkCfg n 0 0

/-- TRANSPORT: 0 complex, 1 real, 2 tagged. -/
def lkTransport (s : State) (n : Nat) : Nat := getF s .ingLinkCfg n 0 3 2

/-- M. -/
def lkM (s : State) (n : Nat) : Nat := if lkTransport s n = 0 then 2 else 1

/-- N. -/
def lkN (s : State) (n : Nat) : Nat := if lkTransport s n = 2 then 32 else getF s .ingLinkCfg n 0 5 5

/-- N'. -/
def lkNp (s : State) (n : Nat) : Nat := if lkTransport s n = 2 then 32 else if getB s .ingLinkCfg n 0 10 then 12 else 16

/-- S. -/
def lkS (s : State) (n : Nat) : Nat := 2 ^ getF s .ingLinkCfg n 0 11 3

/-- K or E. -/
def lkKE (s : State) (n : Nat) : Nat := getF s .ingLinkCfg n 0 14 5 + 1

/-- Bits of a frame on one lane: 8 F. -/
def lkFrameBits (s : State) (n : Nat) : Nat := lkM s n * lkS s n * lkNp s n / lkLanes s n

/-- F. -/
def lkF (s : State) (n : Nat) : Nat := lkFrameBits s n / 8

/-- ING_PERIOD in 2^-64 s. -/
def lkPeriod (s : State) (n : Nat) : Nat := (rd s .ingPeriodLo n 0).toNat + 2 ^ 32 * (rd s .ingPeriodHi n 0).toNat

/-- The logical lanes of a link. -/
def lkLaneList (s : State) (n : Nat) : List Nat := List.range (lkLanes s n)

/-- LSTATE (04 R174). -/
def lstate (s : State) (n : Nat) : Nat := getF s .ingLinkStatus n 0 0 3

/-- The lane rate agrees with the converter rate within 100 ppm (04 R171): RATE in Mb/s, PERIOD in 2^-64 s. -/
def lkRateOk (s : State) (n : Nat) : Bool :=
  let rate := getF s .ingLinkTiming n 0 0 16
  let mul := if lkTransport s n = 1 then 2 else 1
  let (cn, cd) := if lkEnc66 s n then (64, 66) else (8, 10)
  let a : Int := (rate * 1000000 * lkLanes s n * cn * lkPeriod s n : Nat)
  let b : Int := (lkM s n * lkNp s n * mul * 2 ^ 64 * cd : Nat)
  decide ((a - b).natAbs * 10000 ≤ b.natAbs)

/-- A link of a lower unit code that is not OFF maps physical lane p (04 R172). -/
def laneTaken (s : State) (n p : Nat) : Bool :=
  (List.range n).any fun m => ustate s (ingUnit m) != .off && (lkLaneList s m).any fun j => lkLane s m j == p

/-- The lowest failing field of a link's configuration (04 R169, R171, R172, R697). -/
def linkCfgFail (s : State) (n : Nat) : Option Nat :=
  let np := lkNp s n
  let tagged := lkTransport s n == 2
  let f := lkF s n
  let ke := lkKE s n
  let rate := getF s .ingLinkTiming n 0 0 16
  let crc := getF s .ingLinkCfg n 0 19 2
  let e66 := lkEnc66 s n
  let bad := fun (b : Bool) (k : Nat) => if b then some k else none
  [bad (lkTransport s n == 3) 2,
   bad (!tagged && !decide (12 ≤ lkN s n ∧ lkN s n ≤ 16)) 3,
   bad (getB s .ingLinkCfg n 0 10 && (tagged || lkN s n != 12)) 4,
   bad (decide (5 < getF s .ingLinkCfg n 0 11 3) || lkM s n * lkS s n * np % (8 * lkLanes s n) != 0 || f == 0
     || decide (256 < f)) 5,
   bad (if e66 then f != 0 && 256 * ke % f != 0 else !decide (17 ≤ f * ke ∧ f * ke ≤ 1024)) 6,
   bad (e66 && (crc == 0 || crc == 3)) 7,
   bad (if e66 then !decide (6000 ≤ rate ∧ rate ≤ 32500) else !decide (1000 ≤ rate ∧ rate ≤ 12500)) 12,
   bad (!lkRateOk s n) 12,
   bad (decide (5000000000 * lkPeriod s n < 2 ^ 64)) 17,
   ((List.range 32).find? fun p => laneTaken s n p && (lkLaneList s n).any fun k => lkLane s n k == p).map (0x100 + ·)
   ].findSome? id

/-! Link states. -/

/-- Set LSTATE. -/
def setLstate (n st : Nat) (s : State) : State := setF .ingLinkStatus n 0 0 3 st s

/-- Into CDR: lanes acquire again (04 R174). -/
def linkToCdr (n : Nat) (s : State) : State :=
  let s := withLink n (fun l => { l with aligned := false, locked := [], synced := [], ilas := [], passed := false,
                                         badBlocks := [], crcLeft := 0, bad := [] }) s
  let s := (lkLaneList s n).foldl (fun s k => setF .ingLaneStatus (lkLane s n k) 0 0 3 1 s) s
  setLstate n 1 s

/-- A parcel header's 32 bytes as 8 words (04 R195). -/
def parcelHeader (seq ch fmt : Nat) (t : Stamp) (valid flags gen : Nat) (crc : BitVec 32) : List Word :=
  bytesWords (leBytes 6 seq ++ leBytes 1 ch ++ leBytes 1 fmt ++ wordsBytes (stampWords t) ++ leBytes 2 valid
    ++ leBytes 2 flags ++ leBytes 2 gen ++ leBytes 2 0 ++ leBytes 4 crc.toNat)

/-- Hand an item to the unit's fabric port. -/
def offer (i : Item) (s : State) : State := { s with plan := { s.plan with offered := s.plan.offered ++ [i] } }

/-- Origin reference: channel and parcel sequence (01 record header). -/
def originRef (ch seq : Nat) : BitVec 64 := BitVec.ofNat 64 (seq % 2 ^ 48 + ch * 2 ^ 62)

/-- At a parcel boundary a staged ING_ADC_DELAY takes effect and the epoch increases (04 R185). -/
def applyDelay (n : Nat) (s : State) : State :=
  match (link s n).adcStaged with
  | none => s
  | some d =>
    let s := withLink n (fun l => { l with adcDelay := d, adcStaged := none,
                                           anchor := l.anchor + psTotal d - psTotal l.adcDelay }) s
    bumpEpoch (ingUnit n) s

/-- Complete the parcel in formation with padding and a flag, and hand it over or drop it (04 R195 to R198, R200). -/
def formParcel (n extra : Nat) (took : Bool) (s : State) : State :=
  let l := link s n
  let valid := l.items.length
  let tagged := lkTransport s n == 2
  let pad : Word := if tagged then 0xFFF80000#32 else 0#32
  let payload := padTo 1024 pad l.items
  let crc := crcWords payload
  let gen := getF s .ingLinkStatus n 0 16 16
  let est : BitVec 8 := if l.renewed + 2 ^ 64 < upTotal s then 16#8 else 0#8
  let (t, s) := stampAt (ingUnit n) (unsgn 112 l.start / 2 ^ 24) est s
  let flags := Nat.lor l.flags extra
  let hdr := parcelHeader l.seq n (if tagged then 2 else 1) t valid flags gen crc
  let item : Item :=
    { kind := 0x10, src := ingUnit n, stream := 0, sel := 0, seq := l.seq, gen := gen, stamp := t, epoch := l.startEpoch,
      planEpoch := l.startPlan, evSeq := 0, origin := originRef n l.seq, check := false, crc := crc,
      payload := hdr ++ payload }
  let s := bump .ingCount n 1 (1024 - valid) s
  let per := lkPeriod s n
  let s := withLink n (fun l => { l with seq := (l.seq + 1) % 2 ^ 48, items := [], flags := 0, lastSeq := l.seq,
                                         lastValid := valid, lastTime := l.start + (valid - 1) * per }) s
  let s := if took then offer item s else raiseRated 0x0208 (ingUnit n) [] 1 (bump .ingCount n 0 1 s)
  applyDelay n s

/-- The parcel in formation, if it holds items, is completed with padding, and dropped if the port is full (04 R198,
R200). -/
def padParcel (n extra : Nat) (s : State) : State :=
  if (link s n).items.length = 0 then s
  else
    let x := portTook (ingUnit n) 0 s
    formParcel n extra x.1 x.2

/-- 0x0202 (04 R202). -/
def linkDown (n cause : Nat) (s : State) : State :=
  let l := link s n
  raise 0x0202 (ingUnit n) [.u16 cause, .u64 l.lastSeq, .u16 l.lastValid] s

/-- Into ERROR with a cause (04 R174, R198, R201, R202). -/
def linkError (n cause : Nat) (s : State) : State :=
  let st := lstate s n
  if 1 ≤ st ∧ st ≤ 4 then
    let s := if st = 4 then linkDown n cause (padParcel n 1 s) else s
    let s := withLink n (fun l => { l with passed := false }) s
    bump .ingCount n 7 1 (setLstate n 5 (setF .ingLinkStatus n 0 3 4 cause s))
  else s

/-- Samples of one multiframe (04 R169): frames times S. -/
def lkMultiSamples (s : State) (n : Nat) : Nat :=
  if lkEnc66 s n then 256 * lkKE s n / max 1 (lkF s n) * lkS s n else lkKE s n * lkS s n

/-- Period of an input sample: ING_PERIOD, or half of it on a real link; as twice the value. -/
def lkSample2 (s : State) (n : Nat) : Nat := if lkTransport s n = 1 then lkPeriod s n else 2 * lkPeriod s n

/-- Into DATA at a local boundary: the generation increases and 0x0201 is raised (04 R174, R181, R195, R199). -/
def linkToData (n : Nat) (s : State) : State :=
  let s := applyDelay n s
  let l := link s n
  let multi2 := lkMultiSamples s n * lkSample2 s n
  let k : Int := if multi2 = 0 then 0 else (2 * (nowTotal s - l.edge)) / multi2
  let first := k * lkMultiSamples s n
  let gen := (getF s .ingLinkStatus n 0 16 16 + 1) % 2 ^ 16
  let s := setF .ingLinkStatus n 0 16 16 gen (setLstate n 4 s)
  let s := withLink n (fun l => { l with idx := if first < 0 then 0 else first, passed := false, items := [], flags := 64,
                                         tick := none, sinceTick := none, mixN := l.mixN + first.toNat, histI := [], histQ := [] }) s
  raise 0x0201 (ingUnit n) [.u16 gen, .u64 l.seq, .time (mkStamp (unsgn 112 l.lastTime / 2 ^ 24) (qualNow s))] s

/-- The members of a synchronisation group that are RUNNING (04 R181). -/
def groupMembers (s : State) (g : Nat) : List Nat :=
  (List.range 4).filter fun m =>
    getB s .ingLinkCfg m 0 25 && getF s .ingLinkCfg m 0 23 2 == g && ustate s (ingUnit m) == .running

/-- A link whose ALIGN checks have passed: alone it enters DATA; in a group with the others, or late (04 R174, R181). -/
def linkPassed (n : Nat) (s : State) : State :=
  if getB s .ingLinkCfg n 0 25 then
    let ms := groupMembers s (getF s .ingLinkCfg n 0 23 2)
    let s := withLink n (fun l => { l with passed := true }) s
    if ms.any fun m => lstate s m == 4 then linkToData n s
    else if ms.all fun m => (link s m).passed then ms.foldl (fun s m => linkToData m s) s
    else s
  else linkToData n s

/-- The largest and smallest of a list. -/
def maxList (l : List Nat) : Nat := l.foldl max 0

/-- The smallest of a list; 0 for none. -/
def minList (l : List Nat) : Nat := l.foldl min (maxList l)

/-- A SYSREF edge as a link sees it: its device time in 2^-64 s, the stream cycle in which it falls and its place in that
cycle (04 R177, R178). -/
structure SysEdge where
  time : Int
  cyc : Int
  fine : Int
  deriving DecidableEq, Repr

/-- An edge of a device time, seen from the current cycle (04 R178). -/
def edgeAt (s : State) (t : Int) : SysEdge :=
  let d := t - nowTotal s
  let w : Int := max 1 s.time.rate.toNat
  { time := t, cyc := s.time.cycles + d / w, fine := d % w }

/-- The rising edge of SYSREF_OUT_k that falls in the current stream cycle; in coarse mode, before the next advance of
device time (04 R177; 03 R159, R160). -/
def outEdge (s : State) (k : Nat) : Option Int :=
  let w : Int := (if s.time.mode = .full then 1 else 13) * max 1 s.time.rate.toNat
  if (vget s.time.syn 5 synDflt).lock = 2 then
    match sysrefLast s k (syn5Count s + (if s.time.mode = .full then 1 else 13)) with
    | some c => if (nowTotal s : Int) ≤ syn5At s c ∧ syn5At s c < nowTotal s + w then some (syn5At s c)
                else match sysrefLast s k (syn5Count s) with
                  | some c => if (nowTotal s : Int) ≤ syn5At s c then some (syn5At s c) else none
                  | none => none
    | none => none
  else none

/-- The SYSREF edge of a link now: an edge of the pin is captured in this cycle; the internal source has one where its
schedule does (04 R177). -/
def sysrefEdge (s : State) (n : Nat) : Option SysEdge :=
  if getB s .ingLinkTiming n 0 23 then some (edgeAt s (nowTotal s))
  else (outEdge s (getF s .ingLinkTiming n 0 24 2)).map (edgeAt s)

/-- The local boundary is set to an edge: anchor, sample 0, renewal (04 R178, R182). -/
def setBoundary (n : Nat) (e : SysEdge) (s : State) : State :=
  withLink n (fun l => { l with aligned := true, edge := e.time, edgeCyc := e.cyc, edgeFine := e.fine,
                                anchor := e.time + psTotal l.adcDelay, idx := 0, renewed := upTotal s, mixN := 0 }) s

/-- The aligning edge: the local boundary, the skew and release checks; the members of the group that have aligned before
and not entered DATA take the same edge (04 R178, R179, R181, R182; log entry 51). -/
def alignEdge (n : Nat) (e : SysEdge) (arrivals skews : List Nat) (s : State) : State :=
  let s := setBoundary n e (applyDelay n s)
  let s := if getB s .ingLinkCfg n 0 25 then
      ((groupMembers s (getF s .ingLinkCfg n 0 23 2)).filter fun m => lstate s m == 3 && (link s m).aligned).foldl
        (fun s m => setBoundary m e s) s
    else s
  let arr := maxList arrivals
  let s := setF .ingLinkStatus n 0 7 7 arr s
  let s := (lkLaneList s n).foldl (fun s k => setF .ingLaneStatus (lkLane s n k) 0 3 11 (skews.getD k 0) s) s
  if 1024 < maxList skews then linkError n 5 s
  else if getF s .ingLinkTiming n 0 16 7 < arr + 2 then linkError n 6 s
  else if lkEnc66 s n then linkPassed n s
  else s

/-- The deviation of a checked edge: whole stream cycles from the nearest local boundary, the earlier one on a tie. Boundaries
lie whole multiframes after the last edge on its boundary; 2^-9 of a cycle makes up for the rounding of ING_PERIOD (04 R178;
DEDUCED, log entry 179). -/
def edgeDev (s : State) (n : Nat) (e : SysEdge) : Int :=
  let l := link s n
  let cyc : Int := (nominalRate : Nat)
  let m2 : Int := (lkMultiSamples s n * lkSample2 s n : Nat)
  let span2 := 2 * ((e.cyc - l.edgeCyc) * cyc)
  let tol2 := cyc / 256
  if m2 = 0 then 0
  else
    let k := -((m2 - 2 * (span2 - tol2)) / (2 * m2))
    e.cyc - (l.edgeCyc + (2 * l.edgeFine + k * m2 + tol2) / (2 * cyc))

/-- A checked edge (04 R178, R183): off its boundary it counts, on it the anchor is renewed. -/
def checkedEdge (n : Nat) (e : SysEdge) (s : State) : State :=
  let dev := edgeDev s n e
  if dev = 0 then
    let l := link s n
    let anchor := e.time + psTotal l.adcDelay
    let p2 : Int := lkSample2 s n
    let moved := if p2 = 0 then 0 else (2 * (2 * (anchor - l.anchor)) + p2) / (2 * p2)
    let mix := if lstate s n = 3 then moved.toNat else 0
    withLink n (fun l => { l with anchor := anchor, edge := e.time, edgeCyc := e.cyc, edgeFine := e.fine,
                                  idx := l.idx - moved, renewed := upTotal s, mixN := l.mixN + mix }) s
  else raiseRatedT 0x0204 (ingUnit n) [] 1 [.s32 dev] (bump .ingCount n 4 1 s)

/-- SYSREF_EDGE: an edge of the link's source, and the lanes' arrivals in cycles and skews in UI if it aligns (04 R177 to
R183). -/
def execSysrefEdge (n : Nat) (arrivals skews : List Nat) (s : State) : Out :=
  match sysrefEdge s n with
  | none => .next s
  | some e =>
    if lstate s n = 3 then
      if (link s n).aligned then .next (checkedEdge n e s) else .next (alignEdge n e arrivals skews s)
    else if lstate s n = 4 then .next (checkedEdge n e s)
    else .next s

/-- LANE_CDR_LOCKED (04 R174). -/
def execLaneCdrLocked (n lane : Nat) (s : State) : Out :=
  if 1 ≤ lstate s n ∧ lane < lkLanes s n then
    let s := setF .ingLaneStatus (lkLane s n lane) 0 0 2 2 s
    let s := withLink n (fun l => { l with locked := if l.locked.contains lane then l.locked else lane :: l.locked }) s
    if lstate s n = 1 ∧ (lkLaneList s n).all (fun k => (link s n).locked.contains k) then .next (setLstate n 2 s)
    else .next s
  else .next s

/-- LANE_CODE_SYNC (04 R174). -/
def execLaneCodeSync (n lane : Nat) (s : State) : Out :=
  if 2 ≤ lstate s n ∧ lstate s n ≤ 4 ∧ lane < lkLanes s n then
    let s := setB .ingLaneStatus (lkLane s n lane) 0 2 true s
    let s := withLink n (fun l => { l with synced := if l.synced.contains lane then l.synced else lane :: l.synced }) s
    if lstate s n = 2 ∧ (lkLaneList s n).all (fun k => (link s n).synced.contains k) then .next (setLstate n 3 s)
    else .next s
  else .next s

/-- The values that the fields 0 to 12 of 04 R176 have on a correct lane. HD is 1 when a sample is split over lanes
(DEDUCED, log entry 16). -/
def ilasExpected (s : State) (n lane : Nat) : List Nat :=
  [lkLanes s n - 1, lkM s n - 1, lkF s n - 1, lkS s n - 1, lkN s n - 1, lkNp s n - 1, lkKE s n - 1, 0,
   if 8 * lkF s n % lkNp s n = 0 then 0 else 1, b2n (getB s .ingLinkCfg n 0 22), 1, 2, lane]

/-- ILAS_MULTIFRAME: the received values of fields 0 to 12 and of the checksum, and whether the checksum is right
(04 R176). -/
def execIlasMultiframe (n lane : Nat) (fields : List Nat) (chk : Nat) (chkOk : Bool) (s : State) : Out :=
  if lstate s n = 3 ∧ (link s n).aligned ∧ !lkEnc66 s n ∧ lane < lkLanes s n then
    let want := ilasExpected s n lane
    match (List.range 13).find? fun k => fields.getD k 0 != want.getD k 0 with
    | some k => .next (linkError n 4 (raise 0x0203 (ingUnit n) [.u16 lane, .u16 k, .u16 (fields.getD k 0)] s))
    | none =>
      if !chkOk then .next (linkError n 4 (raise 0x0203 (ingUnit n) [.u16 lane, .u16 13, .u16 chk] s))
      else
        let s := withLink n (fun l => { l with ilas := if l.ilas.contains lane then l.ilas else lane :: l.ilas }) s
        if (lkLaneList s n).all (fun k => (link s n).ilas.contains k) then .next (linkPassed n s) else .next s
  else .next s

/-- ALIGN_SYSREF_TIMEOUT: 100 ms in ALIGN without an aligning edge (04 R174). -/
def execAlignSysrefTimeout (n : Nat) (s : State) : Out :=
  if lstate s n = 3 ∧ !(link s n).aligned then .next (linkError n 8 s) else .next s

/-- GROUP_ALIGN_TIMEOUT: 10 ms after the first member passed (04 R181). -/
def execGroupAlignTimeout (g : Nat) (s : State) : Out :=
  let ms := groupMembers s g
  match ms.filter fun m => (link s m).passed with
  | [] => .next s
  | m0 :: rest =>
    let missing := ((ms.filter fun m => !(link s m).passed).map fun m => 2 ^ m).sum
    .next (raise 0x0205 (ingUnit m0) [.u16 g, .u32 missing] ((m0 :: rest).foldl (fun s m => linkToData m s) s))

/-- ERROR_AUTO_RESTART: 10 µs in ERROR with AUTO_RESTART set (04 R174). -/
def execErrorAutoRestart (n : Nat) (s : State) : Out :=
  if lstate s n = 5 ∧ getB s .ingLinkTiming n 0 26 then .next (linkToCdr n s) else .next s

/-- REALIGN: ignored unless RUNNING; DATA ends with a padded parcel (04 R174, R198). -/
def realign (n : Nat) (s : State) : State :=
  if ustate s (ingUnit n) = .running then
    let s := if lstate s n = 4 then linkDown n 0 (padParcel n 2 s) else s
    linkToCdr n s
  else s

/-- CLEAR_COUNTS (04 ING_LINK_CMD). -/
def ingClear (n : Nat) (s : State) : State := (List.range 8).foldl (fun s k => wr .ingCount n k 0 s) s

/-- ING_LINK_CMD as a register write. -/
def linkCmdEff (n : Nat) (v : BitVec 32) (s : State) : WRes :=
  let s := if bit v 0 then realign n s else s
  (if bit v 1 then ingClear n s else s, 0)

/-- REALIGN (04 R174). -/
def execRealign (ag : AgentId) (n : Nat) (s : State) : Out :=
  .next (guardW ag (Reg.off .ingLinkCmd n 0) 1 (linkCmdEff n 1) s)

/-- ING_CLEAR_COUNTS. -/
def execIngClearCounts (ag : AgentId) (n : Nat) (s : State) : Out :=
  .next (guardW ag (Reg.off .ingLinkCmd n 0) 2 (linkCmdEff n 2) s)

/-- One decoding error on a lane (04 ING_LANE_STATUS ERR). -/
def laneErr (n lane : Nat) (s : State) : State :=
  let p := lkLane s n lane
  setF .ingLaneStatus p 0 16 16 (satU 16 (getF s .ingLaneStatus p 0 16 16 + 1)) s

/-- LANE_CDR_UNLOCK (04 R201). -/
def execLaneCdrUnlock (n lane : Nat) (s : State) : Out :=
  if 1 ≤ lstate s n ∧ lane < lkLanes s n then
    .next (linkError n 1 (setF .ingLaneStatus (lkLane s n lane) 0 0 3 1 s))
  else .next s

/-- Two lists of bits, one sample after the other, joined. -/
def orWords : List Word → List Word → List Word
  | [], b => b
  | a, [] => a
  | x :: a, y :: b => (x ||| y) :: orWords a b

/-- SYNC_HEADER_INVALID: an invalid sync header in a block, or an invalid character, whose octet lies in the given bits of the
next input samples; in DATA it is counted and flagged (04 R186, R201). 16 invalid headers within 64 blocks of one lane end
the link in CODE_SYNC, ALIGN or DATA (04 R174). -/
def execSyncHeaderInvalid (n lane block : Nat) (octet : List Word) (s : State) : Out :=
  if 2 ≤ lstate s n ∧ lstate s n ≤ 4 ∧ lane < lkLanes s n then
    let s := laneErr n lane s
    let s := withLink n (fun l => { l with
      badBlocks := (lane, block) :: l.badBlocks.filter fun p => decide (p.1 ≠ lane ∨ block < p.2 + 64) }) s
    let s :=
      if lstate s n = 4 then
        let s := withLink n (fun l => { l with
          flags := Nat.lor l.flags 8,
          bad := if lkEnc66 s n then l.bad else orWords l.bad octet }) (bump .ingCount n 3 1 s)
        raiseRated 0x0207 (ingUnit n) [.u16 lane] 1 s
      else s
    if lkEnc66 s n ∧ 16 ≤ ((link s n).badBlocks.filter fun p => p.1 == lane).length then
      .next (linkError n 2 (setB .ingLaneStatus (lkLane s n lane) 0 2 false s))
    else .next s
  else .next s

/-- CODE_GROUP_SYNC_LOST of an 8b/10b link (04 R201). -/
def execCodeGroupSyncLost (n lane : Nat) (s : State) : Out :=
  if 1 ≤ lstate s n ∧ lane < lkLanes s n ∧ !lkEnc66 s n then
    .next (linkError n 2 (setB .ingLaneStatus (lkLane s n lane) 0 2 false s))
  else .next s

/-- Input samples that one multiblock covers: 256 octets of each lane (04 R169). -/
def crcSpan (s : State) (n : Nat) : Nat := (256 * lkS s n + lkF s n - 1) / max 1 (lkF s n)

/-- LINK_CRC_MISMATCH: the samples of the multiblock are the next that leave the deframer, and every parcel that holds one is
flagged (04 R196, R201; log entry 177). -/
def execLinkCrcMismatch (n : Nat) (s : State) : Out :=
  if lstate s n = 4 then
    let s := withLink n (fun l => { l with crcLeft := max l.crcLeft (crcSpan s n) }) (bump .ingCount n 2 1 s)
    .next (raiseRated 0x0206 (ingUnit n) [] 1 s)
  else .next s

/-- ALIGN_LOST (04 R201). -/
def execAlignLost (n : Nat) (s : State) : Out := .next (linkError n 3 s)

/-! Items (04 R186 to R193). -/

/-- The 16-bit value of an N'-bit sample: its N most significant bits, at the top (04 R186). -/
def sampleVal (N np raw : Nat) : Int := sgn 16 (raw % 2 ^ np / 2 ^ (np - N) * 2 ^ (16 - N))

/-- A complex word: I in the low half, Q in the high half (04 R195). -/
def iqWord (i q : Int) : Word := BitVec.ofNat 32 (unsgn 16 i + unsgn 16 q * 2 ^ 16)

/-- Negation with saturation (04 R187). -/
def neg16 (x : Int) : Int := satS 16 (-x)

/-- The mixer: e^(-j pi n / 2) times x (04 R187). -/
def mixVal (n : Nat) (x : Int) : Int × Int :=
  match n % 4 with
  | 0 => (x, 0)
  | 1 => (0, neg16 x)
  | 2 => (neg16 x, 0)
  | _ => (0, x)

/-- The half-band tap h[k] (04 R188), with the coefficients c_0 to c_11. -/
def hbTap (c : List Int) (k : Nat) : Int :=
  let d := if k < 23 then 23 - k else k - 23
  if d = 0 then 65536 else if d % 2 = 0 then 0 else c.getD ((d - 1) / 2) 0

/-- The filter sum over the last 47 values, newest first. -/
def hbSum (c : List Int) (h : List Int) : Int := ((List.range 47).map fun k => hbTap c k * h.getD k 0).sum

/-- The coefficients of ING_HB_COEF. -/
def ingCoefs (s : State) : List Int := (List.range 12).map fun j => sgn 18 (rd s .ingHbCoef 0 j).toNat

/-- Whether an item's input sample completes an item: every one, or every second one of a real link. -/
def tagCheck (n : Nat) (w : Word) (s : State) : State :=
  let src := fld w 20 12
  let l := link s n
  if src = 0xFFF then
    if bit w 19 then withLink n (fun l => { l with sinceTick := l.sinceTick.map (· + 1) }) s
    else
      let cnt := fld w 0 19
      let badCount := match l.tick with | some p => cnt != (p + 1) % 2 ^ 19 | none => false
      let tw := getF s .ingTagCfg n 0 12 16
      let badSpace := match l.sinceTick with | some k => tw != 0 && k != tw | none => false
      let s := withLink n (fun l => { l with tick := some cnt, sinceTick := some 0 }) s
      if badCount || badSpace then
        raiseRated 0x0209 (ingUnit n) [.u16 1] 1
          (withLink n (fun l => { l with flags := Nat.lor l.flags 32 }) (bump .ingCount n 6 1 s))
      else s
  else
    let s := withLink n (fun l => { l with sinceTick := l.sinceTick.map (· + 1) }) s
    if getF s .ingTagCfg n 0 0 12 < src then
      raiseRated 0x0209 (ingUnit n) [.u16 0] 1
        (withLink n (fun l => { l with flags := Nat.lor l.flags 16 }) (bump .ingCount n 5 1 s))
    else s

/-- Put an item into the parcel in formation; its first item fixes the parcel's time and epochs. -/
def pushItem (n : Nat) (w : Word) (time : Int) (s : State) : State :=
  let first := (link s n).items.length == 0
  withLink n (fun l => { l with items := l.items ++ [w],
                                start := if first then time else l.start,
                                startEpoch := if first then epochOf s (ingUnit n) else l.startEpoch,
                                startPlan := if first then planEpoch s else l.startPlan }) s

/-- One input sample or word of a link in DATA; a parcel of 1,024 items is formed (04 R182, R186 to R195). -/
def linkInput (n : Nat) (took : Bool) (raw : Word) (s : State) : State :=
  let l := link s n
  let t := lkTransport s n
  let k := l.idx
  let raw := raw &&& ~~~(l.bad.headD 0)
  let s := withLink n (fun l => { l with
    idx := l.idx + 1, bad := l.bad.drop 1, crcLeft := l.crcLeft - 1,
    flags := if 0 < l.crcLeft then Nat.lor l.flags 4 else l.flags }) s
  let s :=
    if t = 2 then pushItem n raw (l.anchor + k * lkPeriod s n) (tagCheck n raw s)
    else if t = 0 then
      let N := lkN s n
      let np := lkNp s n
      pushItem n (iqWord (sampleVal N np (fld raw 0 16)) (sampleVal N np (fld raw 16 16))) (l.anchor + k * lkPeriod s n) s
    else
      let x := sampleVal (lkN s n) (lkNp s n) (fld raw 0 16)
      let (vi, vq) := mixVal l.mixN x
      let hi := (vi :: l.histI).take 47
      let hq := (vq :: l.histQ).take 47
      let s := withLink n (fun l => { l with mixN := l.mixN + 1, histI := hi, histQ := hq }) s
      if l.mixN % 2 = 0 then
        let c := ingCoefs s
        let yi := satS 16 (asr (hbSum c hi) 16)
        let yq := satS 16 (asr (hbSum c hq) 16)
        let yq := if getB s .ingLinkCfg n 0 21 then neg16 yq else yq
        pushItem n (iqWord yi yq) (l.anchor + (k - 23) * lkPeriod s n / 2) s
      else s
  if 1024 ≤ (link s n).items.length then formParcel n 0 took s else s

/-- PARCEL_FORMED: input samples or words of a link in DATA as the deframer releases them, and whether the fabric port
takes a parcel they complete (04 R195, R200). -/
def execParcelFormed (n : Nat) (raws : List Word) (took : Bool) (s : State) : Out :=
  if lstate s n = 4 ∧ ustate s (ingUnit n) = .running then .next (raws.foldl (fun s w => linkInput n took w s) s)
  else .next s

/-- A write to ING_ADC_DELAY: staged for the next parcel boundary (04 R185). -/
def adcDelayEff (n : Nat) (v : BitVec 32) (s : State) : WRes :=
  let d := sgn 32 v.toNat
  if d < -1000000 ∨ 1000000 < d then (s, 5)
  else
    let s := withLink n (fun l => { l with adcStaged := some d }) (wr .ingAdcDelay n 0 v s)
    (if lstate s n = 4 ∧ (link s n).items.length ≠ 0 then s else applyDelay n s, 0)

/-- ADC_DELAY_WRITE (04 R185). -/
def execAdcDelayWrite (ag : AgentId) (n : Nat) (v : BitVec 32) (s : State) : Out :=
  .next (guardW ag (Reg.off .ingAdcDelay n 0) v (adcDelayEff n v) s)

/-! The link as a unit. -/

/-- START: the configuration check, then CDR (04 R171, R172, R174). -/
def ingStart (n : Nat) (s : State) : State :=
  match linkCfgFail s n with
  | some k =>
    enterFault (ingUnit n) 7 k (setF .ingLinkStatus n 0 3 4 7 (raise 0x020A (ingUnit n) [.u16 k] s))
  | none => linkToCdr n (changeState (ingUnit n) .running s)

/-- The links of n's group that wait for n alone enter DATA once n is RUNNING no more (04 R181). -/
def groupGo (n : Nat) (s : State) : State :=
  let ms := (groupMembers s (getF s .ingLinkCfg n 0 23 2)).filter (· != n)
  if getB s .ingLinkCfg n 0 25 ∧ ms.all fun m => (link s m).passed then ms.foldl (fun s m => linkToData m s) s else s

/-- DRAIN or STOP: the parcel in formation is padded and delivered (04 R198, R202). -/
def ingDrain (n : Nat) (s : State) : State := groupGo n (if lstate s n = 4 then linkDown n 0 (padParcel n 2 s) else s)

/-- The unit leaves RUNNING and DRAINING: DOWN (04 R174); output in formation is discarded unformed; an exit
from DATA without a drain is reported (04 R198, R202). -/
def ingLeave (n : Nat) (s : State) : State :=
  let s := if ustate s (ingUnit n) = .running ∧ lstate s n = 4 then linkDown n 0 s else s
  let s := withLink n (fun l => { l with items := [], flags := 0, crcLeft := 0, bad := [], aligned := false, locked := [], synced := [], ilas := [],
                                         passed := false }) s
  let s := (lkLaneList s n).foldl (fun s k => setF .ingLaneStatus (lkLane s n k) 0 0 3 0 s) s
  groupGo n (setLstate n 0 s)

/-- The SYNC~ request of an 8b/10b link is asserted (04 R175). -/
def jsyncRequest (s : State) (n : Nat) : Bool :=
  !lkEnc66 s n && (lstate s n != 4 && (lstate s n != 3 || !(link s n).aligned))

end Sys2Proof.Machine
end

