-- ==== Sys2Proof/Machine/Tables.lean ====
section
/-! DEFINITION. Table constants of the signal path: cosine and sine (05 R210, R230; 06 R249), logarithm (06 R251) and
the built-in windows (06 R245), computed in fixed point, and the radix-2 transform that R230 and R249 share. -/

namespace Sys2Proof.Machine

/-- 1 in the fixed point of the tables: 2^128. -/
def fixOne : Int := ((2 ^ 128 : Nat) : Int)

/-- 2 pi in that fixed point. -/
def twoPi : Int := 0x6487ed5110b4611a62633145c06e0e689

/-- Terms of the cosine (k from 1) or sine series, from the last term t: t * -x2 / (d (d + 1)) with d rising by 2. -/
def trigTerms : Nat → Int → Int → Int → Int
  | 0, _, _, _ => 0
  | n + 1, d, x2, t =>
    let u := -(t * x2 / fixOne) / (d * (d + 1))
    u + trigTerms n (d + 2) x2 u

/-- cos of 2 pi A / (8 B) for 0 ≤ A ≤ B, exact at A = 0. -/
def cosOct (A B : Nat) : Int :=
  let x := twoPi * A / (8 * B)
  fixOne + trigTerms 24 1 (x * x / fixOne) fixOne

/-- sin of 2 pi A / (8 B) for 0 ≤ A ≤ B, exact at A = 0. -/
def sinOct (A B : Nat) : Int :=
  let x := twoPi * A / (8 * B)
  x + trigTerms 24 2 (x * x / fixOne) x

/-- cos of 2 pi a / b in fixed point; exact where it is 0, 1 or -1. -/
def cosFix (a b : Nat) : Int :=
  let A := 8 * (a % b)
  let A := if 4 * b < A then 8 * b - A else A
  let neg := 2 * b < A
  let A := if neg then 4 * b - A else A
  let v := if A ≤ b then cosOct A b else sinOct (2 * b - A) b
  if neg then -v else v

/-- Round a fixed-point value times n to the nearest integer. -/
def fixRound (n v : Int) : Int := (2 * n * v + fixOne) / (2 * fixOne)

/-- Round-to-nearest of 131,071 cos(2 pi a / b) (05 R210). -/
def cosTab (a b : Nat) : Int := fixRound 131071 (cosFix a b)

/-- Round-to-nearest of 131,071 sin(2 pi a / b). -/
def sinTab (a b : Nat) : Int := fixRound 131071 (cosFix (4 * a + 3 * b) (4 * b))

/-- The next n bits of log2 of x in [1, 2), x in fixed point: square and compare. -/
def log2Bits : Nat → Nat → Nat → Nat
  | 0, _, acc => acc
  | n + 1, x, acc =>
    let y := x * x / 2 ^ 128
    if 2 ^ 129 ≤ y then log2Bits n (y / 2) (2 * acc + 1) else log2Bits n y (2 * acc)

/-- lg_tab[i]: round-to-nearest of 65,536 log2(1 + i / 1,024) (06 R251). -/
def lgTab (i : Nat) : Nat := (log2Bits 40 ((1024 + i) * 2 ^ 118) 0 + 2 ^ 23) / 2 ^ 24

/-- lg16(v), v ≥ 1 (06 R251). -/
def lg16 (v : Nat) : Nat :=
  let k := Nat.log2 v
  k * 65536 + lgTab (v * 2 ^ 10 / 2 ^ k - 1024)

/-- db(q) before sat16, and after it; −32,768 for q = 0 (06 R251). -/
def dbRaw (q : Nat) (ref : Int) : Int := (((lg16 q : Int) - 22 * 65536 - ref) * 25252226) / 2 ^ 32

/-- db(q) and whether it was clamped. -/
def db (q : Nat) (ref : Int) : Int × Nat :=
  if q = 0 then (-32768, 0)
  else
    let x := dbRaw q ref
    (satS 16 x, b2n (overS 16 x))

/-! Windows (06 R245, R246). -/

/-- Sum of a_i cos(2 pi i n / N), a_i in units of 10^-9. -/
def cosSum (as : List Int) (n N : Nat) : Int :=
  ((as.zipIdx.map fun p => p.1 * cosFix (p.2 * n) N)).sum / 1000000000

/-- Terms of the series of I0 from the last term: t z / k^2, z = (argument / 2)^2 in fixed point. -/
def besselTerms : Nat → Nat → Nat → Nat → Nat
  | 0, _, _, _ => 0
  | m + 1, k, z, t =>
    let u := t * z / (2 ^ 128 * (k * k))
    u + besselTerms m (k + 1) z u

/-- I0 of 2 sqrt z. -/
def bessel0 (z : Nat) : Nat := 2 ^ 128 + besselTerms 160 1 z (2 ^ 128)

/-- The Kaiser window at n / N with beta = p / 1,024. -/
def kaiser (p n N : Nat) : Nat :=
  let d : Int := 2 * (n : Int) - N
  let z := p * p * 2 ^ 128 / (4 * 1024 * 1024)
  let zn := z * ((N * N : Nat) - d * d).toNat / (N * N)
  bessel0 zn * 2 ^ 128 / bessel0 z

/-- Terms of the exponential series. -/
def expTerms : Nat → Nat → Nat → Nat → Nat
  | 0, _, _, _ => 0
  | m + 1, k, y, t =>
    let u := t * y / (2 ^ 128 * k)
    u + expTerms m (k + 1) y u

/-- The Gaussian window at n / N with sigma = p / 65,536; below 2^-57 it is 0. -/
def gauss (p n N : Nat) : Nat :=
  let d := ((2 * (n : Int) - N).natAbs) * 65536
  let y := d * d * 2 ^ 128 / (8 * N * N * p * p)
  if 40 * 2 ^ 128 < y then 0 else 2 ^ 256 / (2 ^ 128 + expTerms 250 1 y (2 ^ 128))

/-- w(n / N) of a built-in window in fixed point (06 R245). -/
def windowFix (win param n N : Nat) : Int :=
  match win with
  | 0 => fixOne
  | 1 => cosSum [500000000, -500000000] n N
  | 2 => cosSum [358750000, -488290000, 141280000, -11680000] n N
  | 3 => cosSum [215578950, -416631580, 277263158, -83578947, 6947368] n N
  | 4 => kaiser param n N
  | _ => gauss param n N

/-- Coefficient n of a built-in window: round-to-nearest, ties up, clamped; within 2^-10 LSB of a half-way point either
neighbour (06 R245). -/
def windowCoef (win param n N : Nat) : Nat :=
  let v := 131071 * windowFix win param n N
  let q := v / fixOne
  let r := v % fixOne
  let off := 2 * r - fixOne
  let up := if off ≠ 0 ∧ off.natAbs * 2 ^ 10 < 2 * 2 ^ 128 then Config.windowUpper win N param n else decide (0 ≤ off)
  (clampInt 0 131071 (if up then q + 1 else q)).toNat

/-- The coefficients of a bank that a built-in window generates: N of them, or the 65,536-entry table (06 R246). -/
def windowGen (win param N : Nat) : List Nat :=
  let m := if N ≤ 65536 then N else 65536
  (List.range m).map fun n => windowCoef win param n m

/-- Coefficient n in use, from a bank's contents (06 R246). -/
def windowUse (bank : List Nat) (N n : Nat) : Nat :=
  if N ≤ 65536 then bank.getD n 0
  else
    let g := N / 65536
    let a := bank.getD (n / g) 0
    let b := bank.getD ((n / g + 1) % 65536) 0
    ((a : Int) + ((b : Int) - a) * (n % g : Nat) / g).toNat

/-! The radix-2 transform. -/

/-- A complex value. -/
abbrev Cx := Int × Int

/-- The bit-reversed index of i among 2^l. -/
def bitRev : Nat → Nat → Nat
  | 0, _ => 0
  | l + 1, i => i % 2 * 2 ^ l + bitRev l (i / 2)

/-- sat28 of a complex value and the number of clamps. -/
def satCx (w : Nat) (x : Cx) : Cx × Nat := ((satS w x.1, satS w x.2), b2n (overS w x.1) + b2n (overS w x.2))

/-- One butterfly with the factor w: both results, and the clamps. -/
def butterfly (halve : Bool) (w a b : Cx) : Cx × Cx × Nat :=
  let tr := (b.1 * w.1 - b.2 * w.2) / 2 ^ 17
  let ti := (b.1 * w.2 + b.2 * w.1) / 2 ^ 17
  let h := fun x : Int => if halve then x / 2 else x
  let p := satCx 28 (h (a.1 + tr), h (a.2 + ti))
  let q := satCx 28 (h (a.1 - tr), h (a.2 - ti))
  (p.1, q.1, p.2 + q.2)

/-- One stage over one group: the two halves combined. -/
def fftGroup (halve : Bool) (ws : List Cx) (a b : List Cx) : List Cx × Nat :=
  let r := (ws.zip (a.zip b)).map fun t => butterfly halve t.1 t.2.1 t.2.2
  (r.map (fun x => x.1) ++ r.map (fun x => x.2.1), (r.map fun x => x.2.2).sum)

/-- Stage s of an n-point transform with factors e^(j sgn 2 pi m / 2^s). -/
def fftStage (sign : Int) (mask n s : Nat) (v : List Cx) : List Cx × Nat :=
  let span := 2 ^ s
  let half := span / 2
  let ws := (List.range half).map fun m => (cosTab m span, sign * sinTab m span)
  let gs := (List.range (n / span)).map fun g =>
    let blk := (v.drop (g * span)).take span
    fftGroup (mask.testBit (s - 1)) ws (blk.take half) (blk.drop half)
  (gs.flatMap (·.1), (gs.map (·.2)).sum)

/-- The transform of 2^l points: u in natural order, decimation in time, with the clamps (05 R230 with sign 1; 06 R249
with sign −1). -/
def fft (sign : Int) (mask l : Nat) (u : List Cx) : List Cx × Nat :=
  let n := 2 ^ l
  let a := (List.range n).map fun i => u.getD (bitRev l i) (0, 0)
  (List.range l).foldl (fun p k =>
    let r := fftStage sign mask n (k + 1) p.1
    (r.1, p.2 + r.2)) (a, 0)

end Sys2Proof.Machine
end

