-- ==== Sys2Proof/Machine/Tuner.lean ====
section
/-! DEFINITION. The tuners (05_tuners_channelizers.md R205 to R228). -/

namespace Sys2Proof.Machine

/-! Input items: parcels and tuner blocks share a 32-byte header (04 R195, 05 R225). -/

/-- Flags of a parcel or block header. -/
def hdrFlags (i : Item) : Nat := fld (i.payload.getD 5 0) 16 16

/-- Valid items or samples of a parcel or block header. -/
def hdrValid (i : Item) : Nat := fld (i.payload.getD 5 0) 0 16

/-- The check value of a parcel or block fails (01 R56). -/
def itemFails (i : Item) : Bool := i.check || crcWords (i.payload.drop 8) != i.crc

/-- Sample k of an item of int16 samples; padding items enter as zero (04 R198). -/
def itemSample (i : Item) (k : Nat) : Cx :=
  if k < hdrValid i then
    let w := i.payload.getD (8 + k) 0
    (sgn 16 (fld w 0 16), sgn 16 (fld w 16 16))
  else (0, 0)

/-- The reference k parcels on (01 R61). -/
def originPlus (o : BitVec 64) (k : Nat) : BitVec 64 := originRef (o.toNat / 2 ^ 62) (o.toNat % 2 ^ 48 + k)

/-- The origin reference of input sample n of a record, and its place in that parcel: of a tuner's block traced through the
tuner (05 R228). -/
def recOrigin (r : InRec) (n : Int) : BitVec 64 :=
  originPlus r.origin ((r.off + (n - r.n0).toNat * r.step) / 1024)

/-- The record of an item: a parcel, or a tuner block whose samples stand for D samples of the link. -/
def inputRec (s : State) (i : Item) (n0 : Int) (bad failed : Bool) : InRec :=
  { n0 := n0, seq := i.seq, time := ((stampTicks i.stamp * 2 ^ 24 : Nat) : Int), qual := i.stamp.qual, origin := i.origin,
    valid := hdrValid i, off := i.originOff,
    step := if i.kind == 0x10 then 0
            else getF s .tunCfg (i.src - 0x040) 0 0 11 * 2 ^ getF s .tunCfg (i.src - 0x040) 0 11 3 * (getF s .tunCfg (i.src - 0x040) 0 14 1 + 1),
    inserted := false, flagged := bad, failed := failed }

/-- The record of 1,024 zero samples that stand for a missing item after another (05 R222, R231, 06 R260). -/
def gapRec (n0 : Int) (period : Nat) (last : Option InRec) (origin0 : BitVec 64) : InRec :=
  match last with
  | some r =>
    let k := r.off + r.valid * r.step
    { n0 := n0, seq := (r.seq + 1) % 2 ^ 48, time := r.time + 1024 * period, qual := r.qual,
      origin := if r.step = 0 then originPlus r.origin 1 else originPlus r.origin (k / 1024),
      valid := 1024, off := if r.step = 0 then 0 else k % 1024, step := r.step, inserted := true, flagged := false, failed := false }
  | none =>
    { n0 := n0, seq := 0, time := 0, qual := 0, origin := origin0, valid := 1024, off := 0, step := 0, inserted := true,
      flagged := false, failed := false }

/-- The record that holds input sample n: the newest that begins at or before it. -/
def recAt (rs : List InRec) (n : Int) : Option InRec := rs.find? fun r => decide (r.n0 ≤ n)

/-- Some record with 1,024 samples that overlaps lo .. hi has the property. -/
def recAny (rs : List InRec) (lo hi : Int) (p : InRec → Bool) : Bool :=
  rs.any fun r => decide (r.n0 ≤ hi ∧ lo < r.n0 + 1024) && p r

/-- Device time of input sample n in 2^-64 s. -/
def sampleTime (rs : List InRec) (period : Nat) (n : Int) : Int :=
  match recAt rs n with
  | some r => r.time + (n - r.n0) * period
  | none => 0

/-- Number of items missing before an item, within one generation (01 R49, 05 R222). -/
def missingItems (last : Option Nat) (seq : Nat) : Nat :=
  match last with
  | none => 0
  | some l => (seq + 2 ^ 48 - l - 1) % 2 ^ 48

/-! The tuner's state. -/

/-- Tuner n. -/
def tuner (s : State) (n : Nat) : Tuner := vget s.tun n Tuner.reset

/-- Change tuner n. -/
def withTuner (n : Nat) (f : Tuner → Tuner) (s : State) : State := { s with tun := vset s.tun n (f (tuner s n)) }

/-- Unit code of tuner n. -/
def tunUnit (n : Nat) : Nat := 0x040 + n

/-- Engine t. -/
def trigOf (s : State) (t : Nat) : TrigEng := vget s.trig t TrigEng.reset

/-- Change engine t. -/
def withTrig (t : Nat) (f : TrigEng → TrigEng) (s : State) : State := { s with trig := vset s.trig t (f (trigOf s t)) }

/-- Unit code of engine t. -/
def trigUnit (t : Nat) : Nat := 0x0C0 + t

/-! Configuration (05 R209, R211, R216). -/

/-- Rc. -/
def tnRc (s : State) (n : Nat) : Nat := getF s .tunCfg n 0 0 11

/-- H. -/
def tnH (s : State) (n : Nat) : Nat := getF s .tunCfg n 0 11 3

/-- Rf. -/
def tnRf (s : State) (n : Nat) : Nat := getF s .tunCfg n 0 14 1 + 1

/-- T. -/
def tnT (s : State) (n : Nat) : Nat := getF s .tunCfg n 0 15 9 + 1

/-- OUT_WIDE. -/
def tnWide (s : State) (n : Nat) : Bool := getB s .tunCfg n 0 24

/-- D. -/
def tnD (s : State) (n : Nat) : Nat := tnRc s n * 2 ^ tnH s n * tnRf s n

/-- The period of a tuner's input samples in 2^-64 s. -/
def tnPeriod (s : State) (n : Nat) : Nat := lkPeriod s (n / 4)

/-- Twice the group delay that the engine removes, in input samples (05 R209). -/
def tnDelay2 (s : State) (n : Nat) : Nat :=
  5 * (tnRc s n - 1) + 46 * tnRc s n * (2 ^ tnH s n - 1) + (tnT s n - 1) * tnRc s n * 2 ^ tnH s n

/-- The look-ahead: half of it, rounded down (DESIGN CHOICE, log entry 20). -/
def tnDelay (s : State) (n : Nat) : Nat := tnDelay2 s n / 2

/-- The smallest s with 2^s at least Rc^5 (05 R211). -/
def cicShift (rc : Nat) : Nat := if rc ≤ 1 then 0 else Nat.log2 (rc ^ 5 - 1) + 1

/-- The lowest failing field of a tuner's configuration (05 R216). -/
def tunCfgFail (s : State) (n : Nat) : Option Nat :=
  let rc := tnRc s n
  if rc = 0 ∨ 1024 < rc then some 0
  else if 6 < tnH s n then some 1
  else if 65536 < tnD s n then some 5
  else if 160000000000 * tnPeriod s n * tnD s n < tnT s n * 2 ^ 64 then some 6
  else none

/-- coef[k] of a FIR bank (05 R213). -/
def firCoef (s : State) (n bank k : Nat) : Int := sgn 18 (rd s .tunFirCoef n (512 * bank + k)).toNat

/-- The half-band coefficients of TUN_HB_COEF (05 R212). -/
def tunHb (s : State) : List Int := (List.range 12).map fun j => sgn 18 (rd s .tunHbCoef 0 j).toNat

/-! Arithmetic (05 R210 to R214). -/

/-- NCO and mixer (05 R210). -/
def mixer (acc phase : Nat) (x : Cx) : Cx :=
  let idx := (acc + phase * 2 ^ 32) % 2 ^ 48 / 2 ^ 28
  let c := cosTab idx (2 ^ 20)
  let sn := sinTab idx (2 ^ 20)
  ((x.1 * c + x.2 * sn) / 2 ^ 10, (x.2 * c - x.1 * sn) / 2 ^ 10)

/-- The integrators: the new registers and the last one's value, modulo 2^76 (05 R211). -/
def integrate : List Int → Int → List Int × Int
  | [], x => ([], x)
  | a :: r, x =>
    let b := (a + x) % 2 ^ 76
    let p := integrate r b
    (b :: p.1, p.2)

/-- The combs of differential delay 1 (05 R211). -/
def combs : List Int → Int → List Int × Int
  | [], x => ([], x)
  | a :: r, x =>
    let p := combs r ((x - a) % 2 ^ 76)
    (x :: p.1, p.2)

/-- sat24 of floor(v / 2^k), componentwise, with the clamps. -/
def scale24 (k : Nat) (v : Cx) : Cx × Nat := satCx 24 (asr v.1 k, asr v.2 k)

/-- The half-band stages: stage i takes a value when d is a multiple of step, and yields one when d is a multiple of
twice that (05 R212). Answers the histories, the last stage's value if any, and the clamps. -/
def halfBands (c : List Int) : List Hist → Nat → Int → Cx → List Hist × Option Cx × Nat
  | [], _, _, u => ([], some u, 0)
  | h :: r, step, d, u =>
    let h' : Hist := ((u.1 :: h.1).take 47, (u.2 :: h.2).take 47)
    if d % (2 * step) = 0 then
      let y := scale24 17 (hbSum c h'.1, hbSum c h'.2)
      let p := halfBands c r (2 * step) d y.1
      (h' :: p.1, p.2.1, y.2 + p.2.2)
    else (h' :: r, none, 0)

/-- The FIR: f before the output stage, and its clamps (05 R213). -/
def firOut (coef : Nat → Int) (t : Nat) (h : Hist) : Cx × Nat :=
  scale24 17 (((List.range t).map fun k => coef k * h.1.getD k 0).sum, ((List.range t).map fun k => coef k * h.2.getD k 0).sum)

/-- The output stage: g, the output value, and the clamps (05 R214). -/
def outStage (gain : Nat) (wide : Bool) (f : Cx) : Cx × Cx × Nat :=
  let g := scale24 16 (f.1 * gain, f.2 * gain)
  if wide then (g.1, (g.1.1 * 256, g.1.2 * 256), g.2)
  else
    let o := satCx 16 (asr g.1.1 7, asr g.1.2 7)
    (g.1, o.1, g.2 + o.2)

/-! Blocks (05 R225 to R228). -/

/-- The words of an output sample. -/
def sampleWords (wide : Bool) (x : Cx) : List Word :=
  if wide then [BitVec.ofNat 32 (unsgn 32 x.1), BitVec.ofNat 32 (unsgn 32 x.2)] else [iqWord x.1 x.2]

/-- A 32-byte block header (05 R225, R234): the number at byte 6, the fields at bytes 24 and 26. -/
def blockHeader (seq num fmt : Nat) (t : Stamp) (valid flags a b : Nat) (crc : BitVec 32) : List Word :=
  bytesWords (leBytes 6 seq ++ leBytes 1 num ++ leBytes 1 fmt ++ wordsBytes (stampWords t) ++ leBytes 2 valid
    ++ leBytes 2 flags ++ leBytes 2 a ++ leBytes 2 b ++ leBytes 4 crc.toNat)

/-- A block of tuner n goes to the acquisition unit of its channel that captures the tuner (08 R313). -/
def tunCapture (n : Nat) (it : Item) (s : State) : State :=
  let a := n / 4
  if ustate s (0x0E0 + a) == .running && getB s .acqSrcCfg a (n % 4 + 1) 0 then
    let u := vget s.acq a AcqUnit.reset
    { s with acq := vset s.acq a { u with blocks := vset u.blocks (n % 4) (vget u.blocks (n % 4) [] ++ [it]) } }
  else s

/-- Complete the block in formation, if it holds samples, with zero padding and an extra flag where it is padded, and
hand it to the fabric. -/
def tunClose (n extra : Nat) (s : State) : State :=
  let t := tuner s n
  let valid := t.out.length
  if valid = 0 then s
  else
    let d := tnD s n
    let g := tnDelay s n
    let lo := t.m0 * d + g - tnDelay2 s n
    let hi := (t.m0 + valid - 1) * d + g
    let failed := recAny t.recs lo hi (·.failed)
    let flags := Nat.lor t.flags ((if valid < 1024 then extra else 0)
      + b2n (recAny t.recs lo hi (·.inserted)) + 16 * b2n (recAny t.recs lo hi (·.flagged)) + 128 * b2n failed)
    let time := sampleTime t.recs (tnPeriod s n) (t.m0 * d)
    let (qual, origin, off) := match recAt t.recs (t.m0 * d) with
      | some r => (r.qual, r.origin, (t.m0 * d - r.n0).toNat)
      | none => (0#8, 0#64, 0)
    let (st, s) := stampFrom (tunUnit n) (unsgn 112 time / 2 ^ 24) qual s
    let wide := tnWide s n
    let payload := padTo (if wide then 2048 else 1024) 0#32 (t.out.flatMap (sampleWords wide))
    let crc := crcWords payload
    let item : Item :=
      { kind := 0x11, src := tunUnit n, stream := 0, sel := 0, seq := t.seq, gen := t.gen, stamp := st, epoch := t.epoch,
        planEpoch := t.planEp, evSeq := 0, origin := origin, check := failed, crc := crc,
        payload := blockHeader t.seq n (if wide then 3 else 1) st valid flags t.gen 0 crc ++ payload, originOff := off }
    let s := withTuner n (fun t => { t with seq := (t.seq + 1) % 2 ^ 48, out := [], flags := 0 }) s
    let s := tunCapture n item s
    offer item (if failed then bump .tunCount n 3 1 s else s)

/-- Clamps: counted, and reported at most once per 1 ms (05 R215). -/
def tunSat (n k : Nat) (s : State) : State :=
  if k = 0 then s else raiseRated 0x0304 (tunUnit n) [] k (bump .tunCount n 0 k s)

/-- Marks whose output sample has come: gain and bank change, AT_TIME closes the block, the next block carries RETUNE
(05 R218 to R220). -/
def tunMarks (n : Nat) (m : Int) : Nat → State → State
  | 0, s => s
  | k + 1, s =>
    match (tuner s n).marks with
    | [] => s
    | c :: r =>
      if m < c.m then s
      else
        let s := if c.cut then tunClose n 0 s else s
        tunMarks n m k (withTuner n (fun t => { t with marks := r, gain := c.gain, bank := c.bank, gen := c.gen,
                                                       epoch := c.epoch, flags := Nat.lor t.flags 8 }) s)

/-- The value g of output sample m goes to the detectors that test tuner n (05 R208, 07 R275). -/
def tunSide (n : Nat) (m : Int) (g : Cx) (s : State) : State :=
  let e := n / 4
  if ustate s (trigUnit e) ≠ .running then s
  else
    let t := tuner s n
    let d := tnD s n
    let hi := m * d + tnDelay s n
    let at_ := fun k : Int => k * d + tnDelay s n - tnDelay2 s n
    let r := recAt t.recs (m * d)
    let x : TdSample :=
      { gi := g.1, gq := g.2, time := unsgn 112 (sampleTime t.recs (tnPeriod s n) (m * d)),
        qual := match r with | some r => r.qual | none => 0,
        valid := match r with | some r => !r.inserted && decide (m * d < r.n0 + r.valid) | none => false,
        restart := t.fresh, blkSeq := t.seq, idx := t.out.length - 1,
        flags := Nat.lor t.flags (b2n (recAny t.recs (at_ t.m0) hi (·.inserted))
          + 16 * b2n (recAny t.recs (at_ t.m0) hi (·.flagged)) + 128 * b2n (recAny t.recs (at_ m) hi (·.failed))) }
    withTuner n (fun t => { t with fresh := false }) (withTrig e (fun y => { y with
      values := (List.range 4).foldl (fun v k =>
        match y.run.td[k]? with
        | some c => if bit c.cfg 15 && fld c.cfg 0 2 == n % 4 then vset v k (vget v k [] ++ [x]) else v
        | none => v) y.values }) s)

/-- Output sample m from the FIR history (05 R213 to R215). -/
def tunOutput (n : Nat) (m : Int) (s : State) : State :=
  let s := tunMarks n m (tuner s n).marks.length s
  let t := tuner s n
  let f := firOut (firCoef s n t.bank) (tnT s n) t.fir
  let o := outStage t.gain (tnWide s n) f.1
  let k := f.2 + o.2.2
  let s := withTuner n (fun t => { t with
    m0 := if t.out.length = 0 then m else t.m0,
    planEp := if t.out.length = 0 then planEpoch s else t.planEp,
    out := t.out ++ [o.2.1], sat := false,
    flags := if t.sat || k != 0 then Nat.lor t.flags 4 else t.flags }) s
  let s := tunSide n m o.1 (tunSat n k s)
  if 1024 ≤ (tuner s n).out.length then tunClose n 0 s else s

/-! Commits (05 R217 to R221). -/

/-- Input sample n0, of device time `time` in 2^-64 s, is the boundary of the pending commit (05 R218, R219). -/
def tunBoundary (s : State) (n : Nat) (time : Int) (c : TunCommit) : Bool :=
  let t := tuner s n
  let d : Int := tnD s n
  d != 0 && t.n % d == 0 &&
    (match c.at_ with
     | none => (t.n / d - t.blk0) % 1024 == 0
     | some tc => decide (((tc * 2 ^ 24 : Nat) : Int) ≤ time))

/-- A commit takes effect at the next input sample, the one that START makes of the staged registers among them (05 R218 to
R221). -/
def tunTake (n : Nat) (time : Int) (c : TunCommit) (s : State) : State :=
  let gen := (getF s .tunStatus n 0 16 16 + 1) % 2 ^ 16
  let s := bumpEpoch (tunUnit n) (setF .tunStatus n 0 16 16 gen s)
  let t := tuner s n
  let m := t.n / tnD s n
  let mark : TunMark := { m := m, gain := c.gain, bank := c.bank, gen := gen, epoch := epochOf s (tunUnit n),
                          cut := c.at_.isSome }
  let s := withTuner n (fun t => { t with ftw := c.ftw, phase := c.phase, acc := if c.reset then 0 else t.acc,
                                          marks := t.marks ++ [mark], blk0 := if c.at_.isSome then m else t.blk0 }) s
  raise 0x0302 (tunUnit n) [.u16 gen, .time (mkStamp (unsgn 112 time / 2 ^ 24) (qualNow s))] s

/-- The next input sample, of device time `time` in 2^-64 s, reaches the tuner: START's commit, then the pending one if this
is its boundary. A commit written after the cycle of a boundary waits for the next (05 R218, R221). -/
def tunJudge (n : Nat) (time : Int) (s : State) : State :=
  let s := match (tuner s n).starts with
    | some c => tunTake n time c (withTuner n (fun t => { t with starts := none }) s)
    | none => s
  let t := tuner s n
  if t.judged = some t.n then s
  else
    let s := withTuner n (fun t => { t with judged := some t.n }) s
    match t.commit with
    | none => s
    | some c =>
      if tunBoundary s n time c then
        tunTake n time c (setB .tunStatus n 0 0 false (withTuner n (fun t => { t with commit := none }) s))
      else s

/-- TUN_COMMIT_APPLY: the cycle in which the next input sample, of device time `time` in 2^-40 s, reaches the tuner
(05 R218 to R220). -/
def execTunCommitApply (n time : Nat) (s : State) : Out :=
  if ustate s (tunUnit n) = .running then .next (tunJudge n ((time * 2 ^ 24 : Nat) : Int) s) else .next s

/-- The staged registers (05 R217). -/
def tunStaged (s : State) (n : Nat) (reset : Bool) (at_ : Option Nat) : TunCommit :=
  { ftw := (rd s .tunNcoFreqLo n 0).toNat + 2 ^ 32 * getF s .tunNcoFreqHi n 0 0 16,
    phase := getF s .tunNcoPhase n 0 0 16, gain := getF s .tunOutCfg n 0 0 18, bank := getF s .tunOutCfg n 0 18 1,
    reset := reset, at_ := at_ }

/-- A commit time register of three words, in 2^-40 s; the quality byte is ignored (03 R128). -/
def timeReg (s : State) (r : Reg) (i : Nat) : Nat :=
  let w1 := rd s r i 1
  let frac := (rd s r i 0).toNat + 2 ^ 32 * fld w1 0 8
  let sec := fld w1 8 24 + 2 ^ 24 * fld (rd s r i 2) 0 24
  sec * 2 ^ 40 + frac

/-- A write to TUN_COMMIT (05 R217 to R219). -/
def tunCommitEff (n : Nat) (v : BitVec 32) (s : State) : WRes :=
  let put := fun (c : Option TunCommit) (s : State) =>
    withTuner n (fun t => { t with commit := c }) (setB .tunStatus n 0 0 c.isSome s)
  match fld v 0 2 with
  | 1 => (put (some (tunStaged s n (bit v 2) none)) s, 0)
  | 2 =>
    let tc := timeReg s .tunCommitTime n
    if tc * 2 ^ 24 < nowTotal s then
      (raise 0x0303 (tunUnit n) [.time (mkStamp tc 0)]
        (setB .tunStatus n 0 1 true (put (some (tunStaged s n (bit v 2) none)) s)), 0)
    else (put (some (tunStaged s n (bit v 2) (some tc))) s, 0)
  | 3 => (put none s, 0)
  | _ => (s, 0)

/-- A write of TUN_COMMIT by an agent. -/
def tunCommitW (ag : AgentId) (n : Nat) (v : BitVec 32) (s : State) : State :=
  guardW ag (Reg.off .tunCommit n 0) v (tunCommitEff n v) s

/-- TUN_COMMIT_NEXT_BLOCK (05 R218). -/
def execTunCommitNextBlock (ag : AgentId) (n : Nat) (reset : Bool) (s : State) : Out :=
  .next (tunCommitW ag n (BitVec.ofNat 32 (1 + 4 * b2n reset)) s)

/-- TUN_COMMIT_AT_TIME (05 R219). -/
def execTunCommitAtTime (ag : AgentId) (n : Nat) (reset : Bool) (s : State) : Out :=
  .next (tunCommitW ag n (BitVec.ofNat 32 (2 + 4 * b2n reset)) s)

/-- TUN_COMMIT_CANCEL (05 R217). -/
def execTunCommitCancel (ag : AgentId) (n : Nat) (s : State) : Out := .next (tunCommitW ag n 3 s)

/-! Input (05 R209, R222 to R224). -/

/-- One input sample through mixer, CIC, half-bands and FIR; an output sample where one is due. -/
def tunSample (n : Nat) (period : Nat) (x : Cx) (s : State) : State :=
  let t := tuner s n
  let s := tunJudge n (sampleTime t.recs period t.n) s
  let t := tuner s n
  let rc := tnRc s n
  let d : Int := t.n - tnDelay s n
  let mx := mixer t.acc t.phase x
  let (ii, vi) := integrate t.intI mx.1
  let (iq, vq) := integrate t.intQ mx.2
  let s := withTuner n (fun t => { t with n := t.n + 1, acc := (t.acc + t.ftw) % 2 ^ 48, intI := ii, intQ := iq }) s
  if rc = 0 ∨ d % rc ≠ 0 then s
  else
    let (ci, yi) := combs t.combI vi
    let (cq, yq) := combs t.combQ vq
    let c := if rc = 1 then (mx, 0)
             else scale24 (cicShift rc) (sgn 76 (unsgn 76 yi), sgn 76 (unsgn 76 yq))
    let (hb, u, k) := halfBands (tunHb s) t.hb rc d c.1
    let clamps := c.2 + k
    let s := tunSat n clamps
      (withTuner n (fun t => { t with combI := ci, combQ := cq, hb := hb, sat := t.sat || clamps != 0 }) s)
    match u with
    | none => s
    | some u =>
      let s := withTuner n (fun t => { t with fir := ((u.1 :: t.fir.1).take (tnT s n), (u.2 :: t.fir.2).take (tnT s n)) }) s
      if 0 ≤ d ∧ d % tnD s n = 0 then tunOutput n (d / tnD s n) s else s

/-- A new link generation: the block is completed, filters cleared, the NCO advanced; before any parcel since START by
nothing (05 R223). -/
def tunRestart (n : Nat) (i : Item) (s : State) : State :=
  let s := tunClose n 2 s
  let p : Int := tnPeriod s n
  let t := tuner s n
  let t0 : Int := ((stampTicks i.stamp * 2 ^ 24 : Nat) : Int)
  let k := if p = 0 ∨ t.lastSeq = none then 0 else (2 * (t0 - t.lastTime) + p) / (2 * p)
  let s := withTuner n (fun t => Tuner.clearPipe (tnH s n)
    { t with acc := unsgn 48 ((t.lastAcc : Int) + (t.ftw : Int) * k), flags := Nat.lor t.flags 2, fresh := true,
             marks := t.marks.map fun c => { c with m := 0, cut := false } }) s
  raise 0x0306 (tunUnit n) [.u16 i.gen, .u32 k.toNat] (bump .tunCount n 2 1 s)

/-- Zero samples for dropped parcels: 1,024 for each (05 R222). -/
def tunGap (n miss : Nat) (s : State) : State :=
  if miss = 0 then s
  else
    let period := tnPeriod s n
    let s := raise 0x0305 (tunUnit n) [.u32 (1024 * miss)] (bump .tunCount n 1 (1024 * miss) s)
    (List.range miss).foldl (fun s _ =>
      let t := tuner s n
      let r := gapRec t.n period t.recs.head? (originRef (n / 4) 0)
      (List.range 1024).foldl (fun s _ => tunSample n period (0, 0) s) (withTuner n (fun t => { t with recs := r :: t.recs }) s)) s

/-- Flags of a parcel that mark a block INPUT_FLAGGED: LINK_LOST, STOP_PAD, LINK_CRC, CODE_ERR (05 R224). -/
def parcelBad (f : Nat) : Bool := f % 16 != 0

/-- TUNER_INPUT_PARCEL (05 R209 to R224): a tuner that is RUNNING takes a parcel of its channel's link. -/
def tunerInput (n : Nat) (i : Item) (s : State) : State :=
  let period := tnPeriod s n
  let t := tuner s n
  let first := (hdrFlags i).testBit 6
  let s := if first then tunRestart n i s else tunGap n (missingItems t.lastSeq i.seq) s
  let t := tuner s n
  let r := inputRec s i t.n (parcelBad (hdrFlags i)) (itemFails i)
  let keep : Int := t.m0 * tnD s n - tnDelay2 s n
  let s := withTuner n (fun t => { t with recs := r :: t.recs.filter fun r => decide (keep ≤ r.n0 + 1024),
                                          lastSeq := some i.seq }) s
  (List.range 1024).foldl (fun s k =>
    let s := tunSample n period (itemSample i k) s
    if k + 1 = hdrValid i then
      withTuner n (fun t => { t with lastAcc := (t.acc + 2 ^ 48 - t.ftw) % 2 ^ 48, lastTime := r.time + k * period }) s
    else s) s

/-- TUNER_INPUT_PARCEL: the next parcel that the fabric brings to tuner n. -/
def execTunerInputParcel (n : Nat) (s : State) : Out :=
  match takeDelivered (4 + n) 0 s with
  | none => .next s
  | some (i, t) => .next (if ustate s (tunUnit n) = .running then tunerInput n i t else refuseItem (4 + n) 0 s t)

/-- A write to TUN_FIR_COEF: the bank in force cannot be written while the tuner runs (05 R236). -/
def firCoefEff (n k : Nat) (v : BitVec 32) (s : State) : WRes :=
  if (ustate s (tunUnit n)).busy ∧ k / 512 = (tuner s n).bank then (s, 4)
  else (wr .tunFirCoef n k (BitVec.ofNat 32 (fld v 0 18)) s, 0)

/-- FIR_COEF_WRITE (05 R236). -/
def execFirCoefWrite (ag : AgentId) (n k : Nat) (v : BitVec 32) (s : State) : Out :=
  .next (guardW ag (Reg.off .tunFirCoef n k) v (firCoefEff n k v) s)

/-! The tuner as a unit. -/

/-- START: the check, then the staged registers as a commit with PHASE_RESET, which takes effect at input sample 0; a commit
still pending takes effect there after it (05 R216, R221; log entry 25). -/
def tunStart (n : Nat) (s : State) : State :=
  match tunCfgFail s n with
  | some k => enterFault (tunUnit n) 7 k (raise 0x0301 (tunUnit n) [.u16 k] s)
  | none =>
    let s := changeState (tunUnit n) .running s
    let c := tunStaged s n true none
    withTuner n (fun t => Tuner.clearPipe (tnH s n)
      { t with acc := 0, ftw := c.ftw, phase := c.phase, gain := c.gain, bank := c.bank, marks := [],
               commit := t.commit.map fun p => { p with at_ := none, reset := true }, starts := some c, lastSeq := none,
               lastAcc := 0, lastTime := 0, flags := 64, gen := getF s .tunStatus n 0 16 16,
               epoch := epochOf s (tunUnit n), fresh := false }) s

/-- DRAIN or STOP completes the block in formation (05 R227). -/
def tunDrain (n : Nat) (s : State) : State := tunClose n 32 s

/-- Something is in formation. -/
def tunPartial (s : State) (n : Nat) : Bool := (tuner s n).out.length != 0

/-- The block in formation is discarded; its sequence is not consumed (05 R227). -/
def tunDiscard (n : Nat) (s : State) : State := withTuner n (fun t => { t with out := [], flags := 0 }) s

end Sys2Proof.Machine
end

