-- ==== Sys2Proof/Machine/Channelizer.lean ====
section
/-! DEFINITION. The channelisers (05_tuners_channelizers.md R229 to R236). -/

namespace Sys2Proof.Machine

/-- Channeliser c. -/
def chzOf (s : State) (c : Nat) : Chz := vget s.chz c Chz.reset

/-- Change channeliser c. -/
def withChz (c : Nat) (f : Chz → Chz) (s : State) : State := { s with chz := vset s.chz c (f (chzOf s c)) }

/-- Group g of channeliser c. -/
def chzGroup (s : State) (c g : Nat) : ChzGroup := vget (chzOf s c).groups g ChzGroup.reset

/-- Change a group. -/
def withGroup (c g : Nat) (f : ChzGroup → ChzGroup) (s : State) : State :=
  withChz c (fun z => { z with groups := vset z.groups g (f (vget z.groups g ChzGroup.reset)) }) s

/-- Unit code of channeliser c. -/
def chzUnit (c : Nat) : Nat := 0x060 + c

/-- log2 K. -/
def czLog (s : State) (c : Nat) : Nat := getF s .tunChzCfg c 0 0 4

/-- OVERSAMPLE. -/
def czOver (s : State) (c : Nat) : Bool := getB s .tunChzCfg c 0 4

/-- P. -/
def czP (s : State) (c : Nat) : Nat := getF s .tunChzCfg c 0 5 4 + 1

/-- OUT_WIDE. -/
def czWide (s : State) (c : Nat) : Bool := getB s .tunChzCfg c 0 9

/-- T = K P. -/
def czTaps (s : State) (c : Nat) : Nat := 2 ^ czLog s c * czP s c

/-- hp. -/
def czHop (s : State) (c : Nat) : Nat := if czOver s c then 2 ^ czLog s c / 2 else 2 ^ czLog s c

/-- The producer port of the route that feeds a consumer stream. -/
def feedPort (s : State) (port stream : Nat) : Option Nat :=
  (s.plan.routes.find? fun r => (r.plan.slots.take r.plan.count).contains (port, stream)).map fun r => r.plan.port

/-- The period of a channeliser's input samples in 2^-64 s: its link's, or its tuner's (05 R207). -/
def czPeriod (s : State) (c : Nat) : Nat :=
  match feedPort s (20 + c) 0 with
  | some p => if 4 ≤ p ∧ p < 20 then lkPeriod s c * tnD s (p - 4) else lkPeriod s c
  | none => lkPeriod s c

/-- EN of a group. -/
def grpEn (s : State) (c g : Nat) : Bool := getB s .tunChzGroup c g 26

/-- WIDTH of a group. -/
def grpWidth (s : State) (c g : Nat) : Nat := getF s .tunChzGroup c g 12 12 + 1

/-- The lowest failing field of a channeliser's configuration (05 R232). -/
def chzCfgFail (s : State) (c : Nat) : Option Nat :=
  if czLog s c < 6 ∨ 12 < czLog s c then some 0
  else if 80000000000 * czPeriod s c < (if czOver s c then 2 else 1) * czP s c * 2 ^ 64 then some 5
  else if (List.range 16).all fun g => !grpEn s c g then some 6
  else none

/-- Prototype tap h[i] (05 R236). -/
def chzTap (s : State) (c i : Nat) : Int := (spGet s.chzCoef (c * 65536 + i) 0).toInt

/-- Frame r from the sample history, newest first: y of every bin and the clamps (05 R230). -/
def chzFrame (s : State) (c r : Nat) (hist : List Cx) : List Cx × Nat :=
  let l := czLog s c
  let k := 2 ^ l
  let x := fun i => hist.getD i (0, 0)
  let u := (List.range k).map fun kk =>
    let ps := (List.range (czP s c)).map fun p => (chzTap s c (kk + p * k), x (kk + p * k))
    scale24 10 ((ps.map fun q => q.1 * q.2.1).sum, (ps.map fun q => q.1 * q.2.2).sum)
  let f := fft 1 (getF s .tunChzCfg c 0 16 12) l (u.map (·.1))
  let neg := fun v : Int => if v = -134217728 then 134217727 else -v
  let y := f.1.zipIdx.map fun p =>
    if czOver s c ∧ r % 2 = 1 ∧ p.2 % 2 = 1 then (neg p.1.1, neg p.1.2) else p.1
  (y, (u.map (·.2)).sum + f.2)

/-- The delivered value of a bin and its clamps (05 R230). -/
def chzOut (wide : Bool) (y : Cx) : Cx × Nat :=
  let v := satCx 24 y
  if wide then ((v.1.1 * 256, v.1.2 * 256), v.2)
  else
    let o := satCx 16 (asr v.1.1 7, asr v.1.2 7)
    (o.1, v.2 + o.2)

/-- Items of a block. -/
def chzBlockItems (s : State) (c : Nat) : Nat := if czWide s c then 512 else 1024

/-- Complete a group's block in formation, if it holds items, with zero padding and an extra flag where it is padded
(05 R227, R234). -/
def chzClose (c g extra : Nat) (s : State) : State :=
  let b := chzGroup s c g
  if b.items = 0 then s
  else
    let flags := Nat.lor b.flags (if b.items < chzBlockItems s c then extra else 0)
    let failed := flags.testBit 7
    let (st, s) := stampFrom (chzUnit c) (unsgn 112 b.time / 2 ^ 24) b.qual s
    let payload := padTo 1024 0#32 b.words
    let crc := crcWords payload
    let item : Item :=
      { kind := 0x12, src := chzUnit c, stream := getF s .tunChzGroup c g 24 2, sel := g, seq := b.seq, gen := 0, stamp := st,
        epoch := b.epoch, planEpoch := b.planEp, evSeq := 0, origin := b.origin, check := failed, crc := crc,
        payload := blockHeader b.seq g (if czWide s c then 3 else 1) st b.items flags b.first (grpWidth s c g - 1) crc
          ++ payload }
    let s := withGroup c g (fun b => { b with seq := (b.seq + 1) % 2 ^ 48, words := [], items := 0, flags := 0 }) s
    offer item (if failed then bump .tunChzCount c 3 1 s else s)

/-- What a frame gives every item of it. -/
structure ChzMeta where
  time : Int
  qual : BitVec 8
  origin : BitVec 64
  flags : Nat
  deriving DecidableEq, Repr

/-- Put item j of a frame, the value x, into group g's block. -/
def chzPush (c g : Nat) (m : ChzMeta) (j : Nat) (x : Cx) (s : State) : State :=
  let new := (chzGroup s c g).items == 0
  let s := withGroup c g (fun b =>
    { b with words := b.words ++ sampleWords (czWide s c) x, items := b.items + 1, flags := Nat.lor b.flags m.flags,
             time := if new then m.time else b.time, qual := if new then m.qual else b.qual,
             first := if new then j else b.first, origin := if new then m.origin else b.origin,
             epoch := if new then epochOf s (chzUnit c) else b.epoch,
             planEp := if new then planEpoch s else b.planEp }) s
  if chzBlockItems s c ≤ (chzGroup s c g).items then chzClose c g 0 s else s

/-- Compute frame r, whose input sample is the newest of the history, and deliver its groups (05 R229 to R234). -/
def chzRun (c : Nat) (n : Int) (s : State) : State :=
  let z := chzOf s c
  let period := czPeriod s c
  let taps := czTaps s c
  let f := chzFrame s c z.frame z.hist
  let outs := f.1.map (chzOut (czWide s c))
  let clamps := f.2 + (outs.map (·.2)).sum
  let lo := n - (taps - 1 : Nat)
  let flags := b2n (recAny z.recs lo n (·.inserted)) + (if clamps = 0 then 0 else 4)
    + 16 * b2n (recAny z.recs lo n (·.flagged)) + 128 * b2n (recAny z.recs lo n (·.failed))
  let m : ChzMeta :=
    { time := (2 * sampleTime z.recs period n - (taps - 1 : Nat) * period) / 2, flags := flags,
      qual := match recAt z.recs n with | some r => r.qual | none => 0,
      origin := match recAt z.recs n with | some r => recOrigin r n | none => 0 }
  let s := if clamps = 0 then s else raiseRated 0x0311 (chzUnit c) [] clamps (bump .tunChzCount c 0 clamps s)
  let s := withChz c (fun z => { z with frame := z.frame + 1 }) s
  let k := 2 ^ czLog s c
  (List.range 16).foldl (fun s g =>
    if grpEn s c g then
      (List.range (grpWidth s c g)).foldl (fun s j =>
        chzPush c g m j (outs.getD ((getF s .tunChzGroup c g 0 12 + j) % k) ((0, 0), 0)).1 s) s
    else s) s

/-- One input sample (05 R229). -/
def chzSample (c : Nat) (x : Cx) (s : State) : State :=
  let z := chzOf s c
  let s := withChz c (fun z => { z with n := z.n + 1, hist := (x :: z.hist).take (czTaps s c) }) s
  if czHop s c ≠ 0 ∧ z.n % czHop s c = 0 then chzRun c z.n s else s

/-- A new link generation (05 R223, R231). -/
def chzRestart (c gen : Nat) (s : State) : State :=
  let s := (List.range 16).foldl (fun s g => chzClose c g 2 s) s
  let s := withChz c (fun z => { z with n := 0, hist := [], frame := 0, recs := [], ended := false }) s
  let s := (List.range 16).foldl (fun s g => withGroup c g (fun b => { b with flags := Nat.lor b.flags 2 }) s) s
  raise 0x0313 (chzUnit c) [.u16 gen] (bump .tunChzCount c 2 1 s)

/-- Zero samples for missing parcels or blocks (05 R222, R231). -/
def chzGap (c miss : Nat) (s : State) : State :=
  if miss = 0 then s
  else
    let period := czPeriod s c
    let s := raise 0x0312 (chzUnit c) [.u32 (1024 * miss)] (bump .tunChzCount c 1 (1024 * miss) s)
    (List.range miss).foldl (fun s _ =>
      let z := chzOf s c
      let r := gapRec z.n period z.recs.head? (originRef c 0)
      (List.range 1024).foldl (fun s _ => chzSample c (0, 0) s) (withChz c (fun z => { z with recs := r :: z.recs }) s)) s

/-- An item of a link rather than of a tuner. -/
def fromLink (i : Item) : Bool := i.kind == 0x10

/-- Whether an item begins a new generation, and whether it ends the old one: a parcel with FIRST begins one; of a tuner's
blocks with INPUT_RESTART a padded one that no such block precedes ends the old one (DESIGN CHOICE, log entry 21). -/
def itemGeneration (i : Item) (ended : Bool) : Bool × Bool :=
  if fromLink i then ((hdrFlags i).testBit 6, false)
  else if (hdrFlags i).testBit 1 then
    (if hdrValid i < 1024 && !ended then (false, true) else (true, false))
  else (false, false)

/-- CHZ_INPUT (05 R222 to R224, R230, R231): a parcel of its link or a block of its tuner. -/
def chzInput (c : Nat) (i : Item) (s : State) : State :=
  let z := chzOf s c
  let gen := if fromLink i then i.gen else getF s .ingLinkStatus c 0 16 16
  let (begins, ends) := itemGeneration i z.ended
  let s := if begins then chzRestart c gen s else chzGap c (missingItems z.lastSeq i.seq) s
  let bad := if fromLink i then parcelBad (hdrFlags i) else (hdrFlags i).testBit 4 || (hdrFlags i).testBit 5
  let r := inputRec s i (chzOf s c).n bad (itemFails i)
  let keep : Int := r.n0 - czTaps s c
  let s := withChz c (fun z => { z with recs := r :: z.recs.filter fun q => decide (keep ≤ q.n0 + 1024),
                                        lastSeq := some i.seq, ended := ends }) s
  (List.range 1024).foldl (fun s k => chzSample c (itemSample i k) s) s

/-- CHZ_INPUT: the next item that the fabric brings to channeliser c. -/
def execChzInput (c : Nat) (s : State) : Out :=
  match takeDelivered (20 + c) 0 s with
  | none => .next s
  | some (i, t) => .next (if ustate s (chzUnit c) = .running then chzInput c i t else refuseItem (20 + c) 0 s t)

/-- The next coefficient address. -/
def coefStep (c : Nat) (s : State) : State :=
  wr .tunChzCoefAddr c 0 (BitVec.ofNat 32 ((getF s .tunChzCoefAddr c 0 0 16 + 1) % 65536)) s

/-- A write to TUN_CHZ_COEF_DATA: taken while GATED or READY (05 R236). -/
def chzCoefEff (c : Nat) (v : BitVec 32) (s : State) : WRes :=
  match ustate s (chzUnit c) with
  | .gated | .ready =>
    let a := getF s .tunChzCoefAddr c 0 0 16
    (coefStep c { s with chzCoef := spPut s.chzCoef (c * 65536 + a) (BitVec.ofNat 18 v.toNat) 0 }, 0)
  | _ => (s, 4)

/-- CHZ_COEF_DATA_WRITE (05 R236). -/
def execChzCoefDataWrite (ag : AgentId) (c : Nat) (v : BitVec 32) (s : State) : Out :=
  .next (guardW ag (Reg.off .tunChzCoefData c 0) v (chzCoefEff c v) s)

/-! The channeliser as a unit. -/

/-- START (05 R229, R232). -/
def chzStart (c : Nat) (s : State) : State :=
  match chzCfgFail s c with
  | some k => enterFault (chzUnit c) 7 k (raise 0x0310 (chzUnit c) [.u16 k] s)
  | none =>
    let s := changeState (chzUnit c) .running s
    let s := withChz c (fun z => { z with n := 0, hist := [], frame := 0, recs := [], lastSeq := none, ended := false }) s
    (List.range 16).foldl (fun s g =>
      withGroup c g (fun b => { b with words := [], items := 0, flags := 64 }) s) s

/-- DRAIN or STOP completes every block in formation (05 R227, R231). -/
def chzDrain (c : Nat) (s : State) : State := (List.range 16).foldl (fun s g => chzClose c g 32 s) s

/-- Something is in formation. -/
def chzPartial (s : State) (c : Nat) : Bool := (List.range 16).any fun g => (chzGroup s c g).items != 0

/-- The blocks in formation are discarded. -/
def chzDiscard (c : Nat) (s : State) : State :=
  (List.range 16).foldl (fun s g => withGroup c g (fun b => { b with words := [], items := 0, flags := 0 }) s) s

end Sys2Proof.Machine
end

