-- ==== Sys2Proof/Machine/HbmMem.lean ====
section
/-! DEFINITION. The HBM memory (15_hbm_memory.md R510 to R515, R521, R535): its canonical list of bytes, the address
maps, and the operations every requester uses. -/

namespace Sys2Proof.Machine

/-! The canonical memory: keys strictly rising, no entry equal to what an unlisted key reads as. -/

/-- The byte at key a; d a where nothing is listed. -/
def memGet (d : Nat → Byte) (m : List Host.Cell) (a : Nat) : Byte :=
  match m with
  | [] => d a
  | (k, b) :: r => if k = a then b else memGet d r a

/-- m without key a. -/
def memDel (m : List Host.Cell) (a : Nat) : List Host.Cell :=
  match m with
  | [] => []
  | (k, b) :: r => if k = a then memDel r a else (k, b) :: memDel r a

/-- m with a cell put before the first larger key. -/
def memIns (m : List Host.Cell) (a : Nat) (v : Byte) : List Host.Cell :=
  match m with
  | [] => [(a, v)]
  | (k, b) :: r => if a < k then (a, v) :: (k, b) :: r else (k, b) :: memIns r a v

/-- Store a byte: one equal to what the unlisted key reads as is not listed. -/
def memSet (d : Nat → Byte) (m : List Host.Cell) (a : Nat) (v : Byte) : List Host.Cell :=
  if v = d a then memDel m a else memIns (memDel m a) a v

/-- Every key at least lo and strictly rising, no byte equal to its default. -/
def memWfFrom (d : Nat → Byte) (lo : Nat) : List Host.Cell → Bool
  | [] => true
  | (k, b) :: r => decide (lo ≤ k) && decide (b ≠ d k) && memWfFrom d (k + 1) r

/-- The canonical form. -/
def memWf (d : Nat → Byte) (m : List Host.Cell) : Bool := memWfFrom d 0 m

/-! The stacks' contents. -/

/-- Bytes of a PC: 768 MiB (15 R511). -/
def pcBytes : Nat := 805306368

/-- What an unlisted key reads as: 0 from power-on (DESIGN CHOICE, log entry 30); undefined once the stack has lost its
contents (15 R510, R536). -/
def hbmDflt (g0 g1 a : Nat) : Byte :=
  let g := if a < 32 * pcBytes then g0 else g1
  if g = 0 then 0 else Config.lostByte g a

/-- What an unlisted key of this state reads as. -/
def hbmDefault (s : State) : Nat → Byte := hbmDflt s.hbm.gen0 s.hbm.gen1

/-- The memory of a state is in its canonical form. -/
def Memory.wf (s : State) : Bool := memWf (hbmDefault s) s.hbm.mem

/-- A stack loses its contents. -/
def loseStack (k : Nat) (s : State) : State :=
  if k = 0 then { s with hbm := { s.hbm with gen0 := s.hbm.gen0 + 1, mem := s.hbm.mem.filter fun c => decide (32 * pcBytes ≤ c.1) } }
  else { s with hbm := { s.hbm with gen1 := s.hbm.gen1 + 1, mem := s.hbm.mem.filter fun c => decide (c.1 < 32 * pcBytes) } }

/-! Address maps (15 R512). -/

/-- PC p is fenced. -/
def fencedPc (s : State) (p : Nat) : Bool := getB s .hbmFence 0 (p / 32) (p % 32)

/-- The PCs in the running mask, ascending; with no plan, those present and not fenced (02 R96). -/
def pcsNow (s : State) : List Nat :=
  (List.range 64).filter fun p =>
    if planEpoch s = 0 then decide (p < unitNum s.fuse.variant .pc) && !fencedPc s p else s.plan.pcMask.testBit p

/-- The exclusive OR of the 6-bit groups of x, with fuel. -/
def fold6 : Nat → Nat → Nat
  | 0, _ => 0
  | n + 1, x => if x = 0 then 0 else Nat.xor (x % 64) (fold6 n (x / 64))

/-- PC, bank, row and column byte of a mapped address over the PCs of a mask (15 R512). -/
def hbmPlace (order : Nat) (pcs : List Nat) (a : Nat) : Nat × Nat × Nat × Nat :=
  let n := pcs.length
  let split := fun l : Nat => (l / 1024 % 48, l / 49152, l % 1024)
  match order with
  | 0 =>
    let q := a / 256
    let t := split (q / n * 256 + a % 256)
    (pcs.getD (q % n) 0, t.1, t.2.1, t.2.2)
  | 1 =>
    let q := a / 1024
    (pcs.getD (q / 48 % n) 0, q % 48, q / (48 * n), a % 1024)
  | 2 =>
    let l := a % pcBytes
    (pcs.getD (a / pcBytes) 0, l / 16777216, l / 1024 % 16384, l % 1024)
  | _ =>
    let q := a / 256
    let t := split (q / n * 256 + a % 256)
    (pcs.getD ((q % n + fold6 12 (q / n)) % n) 0, (t.1 + fold6 12 t.2.1) % 48, t.2.1, t.2.2)

/-- The key of a place in HbmState.mem. -/
def placeKey (p : Nat × Nat × Nat × Nat) : Nat := p.1 * pcBytes + (p.2.1 * 16384 + p.2.2.1) * 1024 + p.2.2.2

/-- The order in force; ORDER_0 with no plan (02 R96). -/
def hbmOrder (s : State) : Nat := if planEpoch s = 0 then 0 else s.plan.order

/-- The place of a mapped address now. -/
def placeNow (s : State) (a : Nat) : Nat × Nat × Nat × Nat := hbmPlace (hbmOrder s) (pcsNow s) a

/-- SSTATE of stack k. -/
def sstate (s : State) (k : Nat) : Nat := getF s .hbmStackStatus k 0 0 3

/-- The PCs that a range of mapped bytes touches, in burst steps. -/
def pcsTouched (s : State) (a n : Nat) : List Nat :=
  ((List.range ((n + 31) / 32)).map fun k => (placeNow s (a + 32 * k)).1).eraseDups

/-- Some PC of the range lies on a frozen stack (15 R535). -/
def rangeFrozen (s : State) (a n : Nat) : Bool := (pcsTouched s a n).any fun p => sstate s (p / 32) == 5

/-- The byte of a mapped address: all ones in a fenced PC (15 R521). -/
def hbmByte (s : State) (a : Nat) : Byte :=
  let p := placeNow s a
  if fencedPc s p.1 then 0xFF else memGet (hbmDefault s) s.hbm.mem (placeKey p)

/-- Bytes of a mapped range. -/
def hbmBytes (s : State) (a n : Nat) : List Byte := (List.range n).map fun k => hbmByte s (a + k)

/-- A PC takes no write: it is fenced, or its stack is frozen (15 R521, R535). -/
def dropsWrites (s : State) (p : Nat) : Bool := fencedPc s p || sstate s (p / 32) == 5

/-- Store one byte, unless its PC drops it. -/
def hbmPoke (a : Nat) (b : Byte) (s : State) : State :=
  let p := placeNow s a
  if dropsWrites s p.1 then s
  else { s with hbm := { s.hbm with mem := memSet (hbmDefault s) s.hbm.mem (placeKey p) b } }

/-- Store bytes from mapped address a on. -/
def hbmPokes : Nat → List Byte → State → State
  | _, [], s => s
  | a, b :: r, s => hbmPokes (a + 1) r (hbmPoke a b s)

/-- Unit code of PC p. -/
def pcUnit (p : Nat) : Nat := 0x1C0 + p

/-- A request wakes its PCs from power-down (15 R532). -/
def wakePcs (ps : List Nat) (s : State) : State := ps.foldl (fun s p => setB .hbmPcStatus p 0 2 false s) s

/-- Write a mapped range: frozen stacks and fenced PCs drop their bytes, each counted once per PC (15 R521, R535). -/
def hbmWrite (a : Nat) (bs : List Byte) (s : State) : State :=
  let ps := pcsTouched s a bs.length
  let s := ps.foldl (fun s p =>
    if sstate s (p / 32) = 5 then bump .hbmPcCount p 2 1 s
    else if fencedPc s p then raiseRated 0x0C0D (pcUnit p) [] 1 (bump .hbmPcCount p 3 1 s) else s) (wakePcs ps s)
  hbmPokes a bs s

/-- Read a mapped range: status 0 OK, 1 ERROR on a frozen stack, 3 POISON over a fenced PC; the bytes (15 R514, R521,
R535). -/
def hbmRead (a n : Nat) (s : State) : Nat × List Byte × State :=
  let ps := pcsTouched s a n
  let s := wakePcs ps s
  if rangeFrozen s a n then
    (1, [], ps.foldl (fun s p => if sstate s (p / 32) = 5 then bump .hbmPcCount p 2 1 s else s) s)
  else
    let bad := ps.filter (fencedPc s)
    (if bad.isEmpty then 0 else 3, hbmBytes s a n, bad.foldl (fun s p => bump .hbmPcCount p 4 1 s) s)

/-- The region with an ID. -/
def regionById (s : State) (id : Nat) : Option PlanRegion := s.plan.regions.find? fun r => r.id == id

/-- A region that a unit owns. -/
def ownedRegion (s : State) (u id : Nat) : Option PlanRegion := s.plan.regions.find? fun r => r.id == id && r.owner == u

/-- The region raises panic (02 R95). -/
def PlanRegion.realtime (r : PlanRegion) : Bool := r.flags.testBit 0

end Sys2Proof.Machine
end

