-- ==== Sys2Proof/Machine/Hbm.lean ====
section
/-! DEFINITION. The HBM controllers (15_hbm_memory.md R508 to R538): errors and freezes, training, rate changes,
refresh, row disturbance, power-down and the slice ports. -/

namespace Sys2Proof.Machine

/-- Change the HBM state. -/
def withHbm (f : HbmState → HbmState) (s : State) : State := { s with hbm := f s.hbm }

/-- The code that stack events carry (15 R508). -/
def stackUnit (k : Nat) : Nat := 0x1C0 + 32 * k

/-- The PCs of stack k. -/
def stackPcs (k : Nat) : List Nat := (List.range 32).map fun i => 32 * k + i

/-- Give stack k a state. -/
def setSstate (k st : Nat) (s : State) : State := calWatch (setF .hbmStackStatus k 0 0 3 st s)

/-! Errors (15 R533 to R535). -/

/-- The words of HBM_SNAP. -/
def snapWords (s : State) (cause port u a : Nat) (write : Bool) (e : HbmErr) : List Word :=
  let p := placeNow s a
  let t := stampWords (eventTime s)
  [BitVec.ofNat 32 (cause + p.1 * 16 + p.2.1 * 1024 + p.2.2.1 * 65536),
   BitVec.ofNat 32 (p.2.2.2 / 32 + b2n write * 1024 + port * 4096),
   BitVec.ofNat 32 (e.syn1 % 1024 + e.syn2 % 1024 * 65536)]
    ++ t ++ t ++ [BitVec.ofNat 32 u, BitVec.ofNat 32 a, BitVec.ofNat 32 (a / 2 ^ 32), 0, 0, 0, 0]

/-- Stack k freezes (15 R535). -/
def freezeStack (k cause pc : Nat) (snap : List Word) (s : State) : State :=
  let s := setF .hbmStackStatus k 0 14 4 cause (setSstate k 5 s)
  let s := (List.range 16).foldl (fun s i => wr .hbmSnap k i (snap.getD i 0) s) s
  let s := raise 0x0C05 (stackUnit k) [.u16 k, .u16 cause, .u16 pc] s
  (stackPcs k).foldl (fun s p => enterFrozen (pcUnit p) s) s

/-- One ECC outcome of a request of port and unit at mapped address a: kind 0 corrected, 1 a transient fault, 2 a
lasting fault. Answers whether it was lasting. -/
def hbmErr (port u a : Nat) (write : Bool) (e : HbmErr) (s : State) : State × Bool :=
  let b := a + 32 * e.burst
  let pc := (placeNow s b).1
  let k := pc / 32
  if e.kind = 0 then (raiseRated 0x0C08 (stackUnit k) [] 1 (bump .hbmPcCount pc 0 1 s), false)
  else if e.kind = 1 then (raiseRated 0x0C07 (stackUnit k) [] 1 (faultTransient (bump .hbmPcCount pc 1 1 s)), false)
  else
    let cause := if e.cause = 2 then 2 else if e.cause = 3 then 3 else 1
    let snap := snapWords s cause port u b write e
    let s := freezeStack k cause pc snap (bump .hbmPcCount pc 2 1 s)
    (faultLasting 1 (pcUnit pc) 0 b 0 (snap.take 4) s, true)

/-- The outcomes met in order until a lasting one. -/
def hbmErrs (port u a : Nat) (write : Bool) : List HbmErr → State → State × Bool
  | [], s => (s, false)
  | e :: r, s =>
    let x := hbmErr port u a write e s
    if x.2 then x else hbmErrs port u a write r x.1

/-- Read with ECC outcomes: status 1 and no data after a lasting fault. -/
def hbmReadE (port u a n : Nat) (errs : List HbmErr) (s : State) : Nat × List Byte × State :=
  if rangeFrozen s a n then hbmRead a n s
  else
    let x := hbmErrs port u a false errs s
    if x.2 then (1, [], x.1) else hbmRead a n x.1

/-- Write with ECC outcomes (a parity error of a command); answers whether every byte was taken. What precedes the burst
that fails twice has been written (15 R534, R535). -/
def hbmWriteE (port u a : Nat) (bs : List Byte) (errs : List HbmErr) (s : State) : State × Bool :=
  if rangeFrozen s a bs.length then (hbmWrite a bs s, false)
  else match errs.find? fun e => decide (2 ≤ e.kind ∧ 32 * e.burst < bs.length) with
    | none => (hbmWrite a bs (hbmErrs port u a true errs s).1, true)
    | some e =>
      let s := (hbmErrs port u a true (errs.filter fun f => decide (f.burst < e.burst)) s).1
      let s := (hbmErr port u a true e (hbmWrite a (bs.take (32 * e.burst)) s)).1
      let k := 32 * (e.burst + 1)
      (if k < bs.length then hbmWrite (a + k) (bs.drop k) s else s, false)

/-! Row disturbance (15 R530, R531). -/

/-- The entry with the smallest count, the lowest on a tie. -/
def minEntry : List (Nat × Nat) → Nat → Nat → Nat → Nat
  | [], _, best, _ => best
  | (_, c) :: r, i, best, m => if c < m then minEntry r (i + 1) i c else minEntry r (i + 1) best m

/-- Count an activate of a row in a bank's table; answers the entry's number and the table. -/
def rowCount (row : Nat) (t : List (Nat × Nat)) : Nat × List (Nat × Nat) :=
  match t.findIdx? fun x => x.1 == row with
  | some i => (i, t.set i (row, (t.getD i (row, 0)).2 + 1))
  | none =>
    if t.length < 32 then (t.length, t ++ [(row, 1)])
    else
      let i := minEntry t 0 0 ((t.getD 0 (0, 0)).2 + 1)
      (i, t.set i (row, (t.getD i (0, 0)).2 + 1))

/-- The neighbours of a row that exist. -/
def neighbours (row : Nat) (radius2 : Bool) : List Nat :=
  let one := (if 0 < row then [row - 1] else []) ++ (if row + 1 < 16384 then [row + 1] else [])
  let two := (if 1 < row then [row - 2] else []) ++ (if row + 2 < 16384 then [row + 2] else [])
  if radius2 then one ++ two else one

/-- An activate of a row (15 R530): PC, bank, row. -/
def activate (x : Nat × Nat × Nat) (s : State) : State :=
  let key := x.1 * 48 + x.2.1
  let r := rowCount x.2.2 (spGet s.hbm.rdTables key [])
  let full := decide (s.hbm.rdThresh ≤ (r.2.getD r.1 (0, 0)).2)
  let t := if full then r.2.set r.1 (x.2.2, 0) else r.2
  let s := withHbm (fun h => { h with rdTables := spPut h.rdTables key t [] }) s
  if full then bump .hbmPcCount x.1 5 (neighbours x.2.2 s.hbm.rdRadius2).length s else s

/-- REFRESH_WINDOW_END: every table is emptied, and a written HBM_RD_CFG takes effect (15 R530, R531). -/
def execRefreshWindowEnd (s : State) : Out :=
  .next (withHbm (fun h => { h with rdTables := [], rdThresh := max 256 (getF s .hbmRdCfg 0 0 0 16),
                                    rdRadius2 := getB s .hbmRdCfg 0 0 16 }) s)

/-- RD_CFG_WRITE (15 R531). -/
def execRdCfgWrite (ag : AgentId) (v : BitVec 32) (s : State) : Out :=
  .next (guardW ag (Reg.off .hbmRdCfg 0 0) v (ok (wrMask .hbmRdCfg 0 0 0x1FFFF#32 v)) s)

/-! Slice ports (15 R513 to R516). -/

/-- Some byte of the range lies on a stack that trains or changes its rate: its port waits (15 R519, R526). -/
def rangeWaits (s : State) (a n : Nat) : Bool :=
  (pcsTouched s a n).any fun p => sstate s (p / 32) == 2 || sstate s (p / 32) == 4

/-- The unit may access the region: its owner; or the display, a density engine's region that it shares (02 R94,
10 R379). -/
def mayAccess (s : State) (u : Nat) (r : PlanRegion) : Bool :=
  r.owner == u ||
    (u == 0x120 && (List.range 4).any fun e =>
      r.owner == 0x100 + e && getF s .densCfg e 0 0 16 == r.id && bit (rd s .dispCfg 0 0) (17 + e))

/-- The 32 header bytes of a read response. -/
def memResponse (hdr : List Byte) (status : Nat) : List Byte :=
  [0x82#8, BitVec.ofNat 8 status] ++ (hdr.drop 2).take 18 ++ List.replicate 12 0

/-- A read response on producer stream n of a slice port (15 R514). -/
def offerResponse (slice stream : Nat) (hdr : List Byte) (status : Nat) (data : List Byte) (s : State) : State :=
  let p := bytesWords (memResponse hdr status ++ data)
  let (t, s) := stampNow (pcUnit (4 * slice)) s
  offer { kind := 0, src := pcUnit (4 * slice), stream := stream, sel := 0, seq := 0, gen := 0, stamp := t,
          epoch := epochOf s (pcUnit (4 * slice)), planEpoch := planEpoch s, evSeq := 0, origin := 0, check := false,
          crc := crcWords p, payload := p } s

/-- A request outside its requester's regions: reported once per requester and 1 ms, with the port of the latest
(15 R515, R538). -/
def rangeFault (u port : Nat) (s : State) : State :=
  match rateFind s 0x0C0E (stackUnit 0) [.u16 u] with
  | some _ => rateAdd 0x0C0E (stackUnit 0) [.u16 u] 1 [.u16 port] s
  | none => rateOpen 0x0C0E (stackUnit 0) [.u16 u] (raise 0x0C0E (stackUnit 0) [.u16 u, .u16 port, .u32 1] s)

/-- The last line of a density engine's image stands in HBM: FB_LAST and 0x0706 (09 R364). -/
def imageDone (it : Item) (s : State) : State :=
  let d := it.src - 0x100
  if 0x100 ≤ it.src ∧ d < 4 ∧ it.stream = 2 ∧ it.seq = 1023 then
    raise 0x0706 it.src [.u32 it.sel, .u16 it.gen] (setF .densStatus d 0 2 1 it.gen s)
  else s

/-- A memory item performed (15 R514, R515). -/
def memoryItem (slice stream : Nat) (it : Item) (errs : List HbmErr) (s : State) : State :=
  let b := wordsBytes it.payload
  let at_ := fun o n => leNat ((b.drop o).take n)
  let op := at_ 0 1
  let len := at_ 4 4
  let off := at_ 8 8
  let port := 9 + slice
  let bad := !(op == 1 || op == 2) || at_ 1 1 != 0 || at_ 20 12 != 0 || len % 32 != 0 || off % 32 != 0 || len < 32
    || decide (65536 < len) || (op == 1 && decide (b.length < 32 + len))
  if bad then
    if op = 1 then rangeFault it.src port s else offerResponse slice stream b 4 [] s
  else
    let inside : Option PlanRegion :=
      match regionById s (at_ 2 2) with
      | some r => if mayAccess s it.src r && decide (off + len ≤ r.size) then some r else none
      | none => none
    match inside with
    | none =>
      let s := rangeFault it.src port s
      if op = 2 then offerResponse slice stream b 2 [] s else s
    | some r =>
      if op = 1 then
        let x := hbmWriteE port it.src (r.base + off) ((b.drop 32).take len) errs s
        if x.2 then imageDone it x.1 else x.1
      else
        let x := hbmReadE port it.src (r.base + off) len errs s
        offerResponse slice stream b x.1 x.2.1 x.2.2

/-- Whether a memory item must wait: its stack trains, or an earlier item of its stream waits (15 R516, R519, R526). -/
def itemWaits (s : State) (slice stream : Nat) (it : Item) : Bool :=
  (s.hbm.waiting.any fun w => w.1 == slice && w.2.1 == stream) ||
    match regionById s (fld (it.payload.getD 0 0) 16 16) with
    | some r => rangeWaits s (r.base + (it.payload.getD 2 0).toNat) (it.payload.getD 1 0).toNat
    | none => false

/-- HBM_MEMORY_ITEM: the next item on a consumer stream of a slice port, the ECC outcomes its bursts meet, and the rows
its banks activate for it. -/
def execHbmMemoryItem (slice stream : Nat) (errs : List HbmErr) (acts : List (Nat × Nat × Nat)) (s : State) : Out :=
  match takeDelivered (80 + slice) stream s with
  | none => .next s
  | some (it, s) =>
    if itemWaits s slice stream it then .next (withHbm (fun h => { h with waiting := h.waiting ++ [(slice, stream, it)] }) s)
    else .next (memoryItem slice stream it errs (acts.foldl (fun s x => activate x s) s))

/-- The items that waited are performed in order, as far as their stacks serve them. -/
def releaseWaiting (s : State) : State :=
  s.hbm.waiting.foldl
    (fun s w => if itemWaits s w.1 w.2.1 w.2.2 then withHbm (fun h => { h with waiting := h.waiting ++ [w] }) s
                else memoryItem w.1 w.2.1 w.2.2 [] s)
    (withHbm (fun h => { h with waiting := [] }) s)

/-! Rate changes (15 R523 to R527). -/

/-- SYN_2 values of a rate (15 R523). -/
def rateSyn (r : Nat) : Nat × Nat × Nat :=
  match r with
  | 0 => (1, 32, 1)
  | 1 => (1, 24, 1)
  | 2 => (1, 16, 1)
  | _ => (1, 16, 2)

/-- Why a request is refused: 4 FROZEN, 3 DEMAND, 2 REALTIME (15 R524). -/
def freqRefusal (s : State) (rate : Nat) (force : Bool) : Option Nat :=
  let pcs := ((List.range (unitNum s.fuse.variant .pc)).filter fun p => !fencedPc s p).length
  if sstate s 0 = 5 ∨ sstate s 1 = 5 then some 4
  else if (20480 - 5120 * rate) * pcs < (s.plan.regions.map fun r => r.bandwidth).sum then some 3
  else if !force ∧ (s.plan.regions.any fun r => r.realtime && ustate s r.owner == .running) then some 2
  else none

/-- A checked request starts (15 R524 to R526). -/
def freqStart (rate : Nat) (force : Bool) (s : State) : State :=
  match freqRefusal s rate force with
  | some c => raise 0x0C0A (stackUnit 0) [.u16 c] (setF .hbmFreq 0 0 8 3 c s)
  | none =>
    if rate = getF s .hbmFreq 0 0 4 2 then raise 0x0C09 (stackUnit 0) [.u16 rate] (setF .hbmFreq 0 0 8 3 1 s)
    else
      let v := rateSyn rate
      let s := [0, 1].foldl (fun s k => if sstate s k = 3 then setSstate k 4 s else s) s
      let s := setB .hbmFreq 0 0 6 true (withHbm (fun h => { h with change := some rate }) s)
      withSyn 2 (fun y => { y with lock := 1, prediv := v.1, mult := v.2.1, postdiv := v.2.2 }) s

/-- A stack trains, or a change runs: a request is held (15 R525). -/
def freqBusy (s : State) : Bool := s.hbm.change.isSome || sstate s 0 == 2 || sstate s 1 == 2

/-- A held request starts once no stack trains (15 R525). -/
def freqHeld (s : State) : State :=
  match s.hbm.held with
  | some x =>
    if freqBusy s then s
    else freqStart x.1 x.2 (setB .hbmFreq 0 0 7 false (withHbm (fun h => { h with held := none }) s))
  | none => s

/-- A write to HBM_FREQ (15 R524, R525). -/
def hbmFreqEff (v : BitVec 32) (s : State) : WRes :=
  let s := wrMask .hbmFreq 0 0 7#32 v s
  if bit v 3 then
    if freqBusy s then (setB .hbmFreq 0 0 7 true (withHbm (fun h => { h with held := some (fld v 0 2, bit v 2) }) s), 0)
    else (freqStart (fld v 0 2) (bit v 2) s, 0)
  else (s, 0)

/-- HBM_FREQ_REQ: a write to HBM_FREQ with REQ. -/
def execHbmFreqReq (ag : AgentId) (v : BitVec 32) (s : State) : Out :=
  .next (guardW ag (Reg.off .hbmFreq 0 0) (v ||| 8#32) (hbmFreqEff (v ||| 8#32)) s)

/-- HBM_FREQ_DONE (15 R526 step 5). -/
def execHbmFreqDone (s : State) : Out :=
  match s.hbm.change with
  | none => .next s
  | some rate =>
    let s := [0, 1].foldl (fun s k => if sstate s k = 4 then setSstate k 3 s else s) s
    let s := withSyn 2 (fun y => { y with lock := 2, everLocked := true }) s
    let s := setF .hbmFreq 0 0 4 2 rate (setB .hbmFreq 0 0 6 false (withHbm (fun h => { h with change := none }) s))
    let s := (List.range (unitNum s.fuse.variant .pc)).foldl (fun s p => bumpEpoch (pcUnit p) s) s
    let s := raise 0x0C09 (stackUnit 0) [.u16 rate] (setF .hbmFreq 0 0 8 3 1 s)
    .next (releaseWaiting (freqHeld (updFaultN s)))

/-! Training, lane repair, fencing, thaw (15 R519 to R522, R537). -/

/-- A powered PC is at least READY (01 R38). -/
def pcReady (p : Nat) (s : State) : State :=
  match ustate s (pcUnit p) with
  | .off | .gated => changeState (pcUnit p) .ready s
  | _ => s

/-- A PC that cannot be trained (15 R521). -/
def fencePc (p : Nat) (s : State) : State :=
  if fencedPc s p then s
  else
    let s := setB .hbmPcStatus p 0 1 true (setB .hbmFence 0 (p / 32) (p % 32) true s)
    raise 0x0C03 (pcUnit p) [.u16 p] (enterFault (pcUnit p) 8 0 (pcReady p s))

/-- A lane that failed training: PC, half, lane. The spare of its half replaces it; a second lane of one half fences the PC
(15 R520, R521). -/
def laneRepaired (x : Nat × Nat × Nat) (s : State) : State :=
  let half := x.2.1 % 2
  if getF s .hbmPcStatus x.1 0 (4 + 5 * half) 5 ≠ 31 then fencePc x.1 s else
  let s := setCalLane x.1 half x.2.2 s
  raise 0x0C02 (pcUnit x.1) [.u16 x.1, .u16 half, .u16 x.2.2] (setF .hbmPcStatus x.1 0 (4 + 5 * half) 5 x.2.2 s)

/-- The repairs of stack k's record take effect at its training (18 R598). -/
def loadLanes (k : Nat) (s : State) : State :=
  (stackPcs k).foldl (fun s p => (List.range 2).foldl (fun s h => setF .hbmPcStatus p 0 (4 + 5 * h) 5 (calLane s p h) s) s) s

/-- A PC in the mask that trained runs (15 R509, R537). -/
def runPc (p : Nat) (s : State) : State :=
  let s := pcReady p s
  if ustate s (pcUnit p) = .ready then changeState (pcUnit p) .running s else s

/-- Training of a stack ends with the lanes it repaired and the PCs it fenced. -/
def hbmTrained (k : Nat) (repairs : List (Nat × Nat × Nat)) (fences : List Nat) (s : State) : State :=
  if sstate s k = 2 ∨ sstate s k = 4 then
    let rate := s.hbm.change.getD (getF s .hbmFreq 0 0 4 2)
    let mine := repairs.filter fun x => x.1 / 32 == k
    let open_ := (stackPcs k).filter fun p => !fencedPc s p
    let gone := fences.filter open_.contains
    let s := loadLanes k s
    let s := gone.foldl (fun s p => fencePc p s) (mine.foldl (fun s x => laneRepaired x s) s)
    let s := ((pcsNow s).filter fun p => p / 32 == k && !fencedPc s p).foldl (fun s p => runPc p s) s
    let s := if sstate s k = 2 then setSstate k 3 s else s
    let s := raise 0x0C01 (stackUnit k) [.u16 k, .u16 rate, .u32 mine.length] s
    let s :=
      if s.hbm.thawing.contains k then
        raise 0x0C06 (stackUnit k) [.u16 k, .u32 (open_.filter (fencedPc s)).length]
          (withHbm (fun h => { h with thawing := h.thawing.filter fun x => x != k }) s)
      else s
    updFaultN (releaseWaiting (freqHeld s))
  else s

/-- A write to HBM_STACK_CMD (15 R536, R537): THAW takes every FROZEN PC to READY and starts training. -/
def stackCmdEff (ag : AgentId) (k : Nat) (v : BitVec 32) (s : State) : WRes :=
  if !bit v 0 ∨ sstate s k ≠ 5 then (s, 0)
  else if (synOf s 2).lock ≠ 2 then (ignored ag (Reg.off .hbmStackCmd k 0) 1 (setB .hbmStackStatus k 0 3 true s), 99)
  else
    let s := if getF s .hbmStackStatus k 0 14 4 = 4 then loseStack k s else s
    let s := (stackPcs k).foldl
      (fun s p => if ustate s (pcUnit p) = .frozen then recovered (pcUnit p) (changeState (pcUnit p) .ready s) else s) s
    let s := withHbm (fun h => { h with thawing := k :: h.thawing.filter fun x => x != k }) s
    (setF .hbmStackStatus k 0 14 4 0 (setSstate k 2 s), 0)

/-- HBM_STACK_THAW. -/
def execHbmStackThaw (ag : AgentId) (k : Nat) (s : State) : Out :=
  .next (guardW ag (Reg.off .hbmStackCmd k 0) 1#32 (stackCmdEff ag k 1#32) s)

/-! Temperature, refresh, power-down (15 R528, R529, R532). -/

/-- REF_MULT for a temperature, with its hysteresis (15 R529). -/
def refMult (old : Nat) (t : Int) : Nat :=
  if 95 < t then 2 else if 93 < t then (if old = 2 then 2 else 1) else if 85 < t then 1
  else if 83 < t then (if old = 0 then 0 else 1) else 0

/-- Stack k is present (00 R1). -/
def stackPresent (s : State) (k : Nat) : Bool := decide (k < 2) && !(s.fuse.variant == 2 && k == 1)

/-- HBM_TEMP_READ of stack k. -/
def execHbmTempRead (k : Nat) (t : Int) (s : State) : Out :=
  if !stackPresent s k then .next s else
  let old := getF s .hbmStackStatus k 0 12 2
  let m := refMult old t
  let s := setF .hbmStackStatus k 0 4 8 (unsgn 8 t) (setF .hbmStackStatus k 0 12 2 m s)
  let s := withHbm (fun h =>
    { h with hot := if 105 < t then k :: h.hot.filter fun x => x != k
                    else if t ≤ 100 then h.hot.filter fun x => x != k else h.hot }) s
  .next (if m = old then s else raise 0x0C0B (stackUnit k) [.u16 k, .u16 (2 ^ m), .s32 t] s)

/-- The refresh debt of a bank. -/
def bankDebt (s : State) (key : Nat) : Nat := spGet s.hbm.debt key 0

/-- Set the refresh debt of a bank. -/
def setDebt (key n : Nat) (s : State) : State := withHbm (fun h => { h with debt := spPut h.debt key n 0 }) s

/-- HBM_REFRESH_DUE of PC p: one interval elapses; the banks named receive their per-bank refreshes; a debt of 8 brings
an all-bank refresh (15 R528). -/
def execHbmRefreshDue (p : Nat) (placed : List Nat) (s : State) : Out :=
  let st := sstate s (p / 32)
  if st = 3 then
    let s := wakePcs [p] s
    let s := (List.range 48).foldl
      (fun s b => let d := bankDebt s (p * 48 + b) + 1
                  setDebt (p * 48 + b) (d - (placed.filter fun x => x == b).length) s) s
    if (List.range 48).any fun b => decide (8 ≤ bankDebt s (p * 48 + b)) then
      let s := (List.range 48).foldl (fun s b => setDebt (p * 48 + b) (bankDebt s (p * 48 + b) - 1) s) s
      .next (raiseRated 0x0C0C (pcUnit p) [] 1 (bump .hbmPcCount p 6 1 s))
    else .next s
  else .next s

/-- PC_IDLE_TIMEOUT of PC p: with bit 1 of the POWER preamble it enters power-down (15 R532). -/
def execPcIdleTimeout (p : Nat) (s : State) : Out :=
  let on := match s.plan.running with
    | some i => i.powerFlags.testBit 1
    | none => false
  if on && !getB s .hbmPcStatus p 0 2 && sstate s (p / 32) == 3 && ustate s (pcUnit p) == .running then
    .next (setB .hbmPcStatus p 0 2 true (wr .hbmPcCount p 7 (rd s .hbmPcCount p 7 + 1) s))
  else .next s

/-- Training of a powered stack starts (15 R519). -/
def trainStack (k : Nat) (s : State) : State := if sstate s k = 5 then s else setSstate k 2 s

/-- A loss of SYN_2 lock freezes both powered stacks; one that is frozen already loses its contents with the refresh
(15 R536). -/
def freezeSynth (s : State) : State :=
  [0, 1].foldl
    (fun s k =>
      if sstate s k = 0 then s
      else if sstate s k = 5 then loseStack k s
      else freezeStack k 4 (32 * k) (snapWords s 4 0 0 0 false ⟨0, 0, 0, 0, 0⟩ |>.mapIdx fun i w =>
        if i = 0 then 4#32 else if 3 ≤ i ∧ i < 6 then w else 0#32) s) s

end Sys2Proof.Machine
end

