-- ==== Sys2Proof/Machine/Acquisition.lean ====
section
/-! DEFINITION. The acquisition units (08_acquisition.md R312 to R346). -/

namespace Sys2Proof.Machine

/-- Acquisition unit a. -/
def acqOf (s : State) (a : Nat) : AcqUnit := vget s.acq a AcqUnit.reset

/-- Change acquisition unit a. -/
def withAcq (a : Nat) (f : AcqUnit → AcqUnit) (s : State) : State := { s with acq := vset s.acq a (f (acqOf s a)) }

/-- Source k of unit a. -/
def acqSrc (s : State) (a k : Nat) : AcqSrc := vget (acqOf s a).srcs k AcqSrc.reset

/-- Change source k of unit a. -/
def withSrc (a k : Nat) (f : AcqSrc → AcqSrc) (s : State) : State :=
  withAcq a (fun u => { u with srcs := vset u.srcs k (f (vget u.srcs k AcqSrc.reset)) }) s

/-- Unit code of acquisition unit a. -/
def acqUnit (a : Nat) : Nat := 0x0E0 + a

/-- ASTATE (08 R319). -/
def astate (s : State) (a : Nat) : Nat := getF s .acqStatus a 0 0 3

/-- Change ASTATE. -/
def setAstate (a st : Nat) (s : State) : State := setF .acqStatus a 0 0 3 st s

/-- An acquisition runs: neither IDLE nor DONE. -/
def acqRuns (s : State) (a : Nat) : Bool := astate s a != 0 && astate s a != 6

/-- A bit of ACQ_CFG. -/
def acqCfgB (s : State) (a k : Nat) : Bool := getB s .acqCfg a 0 k

/-- S. -/
def acqS (s : State) (a : Nat) : Nat := getF s .acqSegCount a 0 0 20 + 1

/-- Segments completed. -/
def acqCompleted (s : State) (a : Nat) : Nat := (rd s .acqProgress a 0).toNat

/-- The acquisition number. -/
def acqNumber (s : State) (a : Nat) : Nat := (rd s .acqProgress a 1).toNat

/-- Source k is enabled. -/
def srcEn (s : State) (a k : Nat) : Bool := getB s .acqSrcCfg a k 0

/-- The enabled sources, ascending. -/
def enSrcs (s : State) (a : Nat) : List Nat := (List.range 5).filter (srcEn s a)

/-- PRE, POST and C of a source. -/
def srcPre (s : State) (a k : Nat) : Nat := getF s .acqSrcPre a k 0 31
def srcPost (s : State) (a k : Nat) : Nat := getF s .acqSrcPost a k 0 31
def srcC (s : State) (a k : Nat) : Nat := getF s .acqSrcSlot a k 0 21

/-- The tuner of a source from 1 to 4. -/
def srcTuner (a k : Nat) : Nat := 4 * a + k - 1

/-- Bytes of an item of a source, as it is set up (08 R313). -/
def srcBytes (s : State) (a k : Nat) : Nat := if k ≠ 0 ∧ tnWide s (srcTuner a k) then 8 else 4

/-- Format code of a source's items (08 R338). -/
def srcFormat (s : State) (a k : Nat) : Nat :=
  if k = 0 then (if lkTransport s a = 2 then 2 else 1) else if srcBytes s a k = 8 then 3 else 1

/-- Bytes of a chunk position with items of ib bytes (08 R316). -/
def chunkBytes (ib : Nat) : Nat := 32 + 1024 * ib

/-- Bytes of a chunk position of a source, as it is set up. -/
def srcChunk (s : State) (a k : Nat) : Nat := chunkBytes (srcBytes s a k)

/-- B: bytes of a slot of C chunks (08 R316). -/
def slotBytes (c ib : Nat) : Nat := (64 + c * chunkBytes ib + 255) / 256 * 256

/-- B of a source, as it is set up. -/
def srcSlot (s : State) (a k : Nat) : Nat := slotBytes (srcC s a k) (srcBytes s a k)

/-- The period of a source's items in 2^-64 s (08 R345). -/
def srcPeriod (s : State) (a k : Nat) : Nat := if k = 0 then lkPeriod s a else tnD s (srcTuner a k) * lkPeriod s a

/-- The region of a source. -/
def srcRegion (s : State) (a k : Nat) : Option PlanRegion := ownedRegion s (acqUnit a) (getF s .acqSrcCfg a k 16 16)

/-- Where the slot of an ordinal lies in the region of a source that captures (08 R316). -/
def slotOff (s : State) (a k ordinal : Nat) : Nat :=
  ordinal % (acqOf s a).slots * slotBytes (srcC s a k) (acqSrc s a k).ib

/-- The writer stores bytes in a source's region: what lies outside is discarded and counted (02 R94). -/
def acqWrite (a k off : Nat) (bytes : List Byte) (errs : List HbmErr) (s : State) : State :=
  match srcRegion s a k with
  | some r =>
    if off + bytes.length ≤ r.size then (hbmWriteE a (acqUnit a) (r.base + off) bytes errs s).1 else rangeFault (acqUnit a) a s
  | none => rangeFault (acqUnit a) a s

/-- n bytes of a source's region, or none where the read fails (02 R94). -/
def acqReadBytes (a port k off n : Nat) (errs : List HbmErr) (s : State) : Option (List Byte) × State :=
  match srcRegion s a k with
  | some r =>
    if off + n ≤ r.size then
      let x := hbmReadE port (acqUnit a) (r.base + off) n errs s
      (if x.1 = 1 then none else some x.2.1, x.2.2)
    else (none, rangeFault (acqUnit a) port s)
  | none => (none, rangeFault (acqUnit a) port s)

/-! Missed triggers (08 R340, R341). -/

/-- The 32 bytes of an entry. -/
def missBytes (m : AcqMiss) : List Byte :=
  wordsBytes (stampWords m.fire.stamp) ++ leBytes 1 m.fire.weir ++ leBytes 1 m.cause ++ leBytes 1 m.fire.flags ++ leBytes 1 0
    ++ leBytes 8 m.fire.evSeq ++ leBytes 4 m.segs ++ leBytes 4 0

/-- An output record of the unit handed to its fabric port. -/
def acqOffer (a kind stream seq : Nat) (t : Stamp) (evSeq : Nat) (ep planEp : BitVec 32) (origin : BitVec 64)
    (check : Bool) (p : List Word) (s : State) : State :=
  offer { kind := kind, src := acqUnit a, stream := stream, sel := 0, seq := seq, gen := 0, stamp := t, epoch := ep,
          planEpoch := planEp, evSeq := evSeq, origin := origin, check := check, crc := crcWords p, payload := p } s

/-- One list record of up to 128 entries. -/
def listRecord (a : Nat) (s : State) : State :=
  let l := (acqOf s a).missed.take 128
  match l with
  | [] => s
  | m :: _ =>
    let s := withAcq a (fun u => { u with missed := u.missed.drop 128 }) s
    acqOffer a 0x31 1 0 m.fire.stamp m.fire.evSeq m.epoch m.planEp 0 false (bytesWords (l.flatMap missBytes)) s

/-- Every held entry is emitted. -/
def listFlush (a : Nat) (s : State) : State :=
  (List.range (((acqOf s a).missed.length + 127) / 128)).foldl (fun s _ => listRecord a s) s

/-- What a command has listed since the state b is reported: 0x0605, at most once per 1 ms, with the counts by cause. -/
def missEvent (a : Nat) (b s : State) : State :=
  let c := (acqOf s a).missCounts
  if c = (acqOf b a).missCounts then s
  else match rateFind s 0x0605 (acqUnit a) [] with
    | some _ => rateAdd 0x0605 (acqUnit a) [] 1 [] s
    | none =>
      let s := raise 0x0605 (acqUnit a) ((List.range 5).map fun k => .u32 (c.getD k 0)) s
      rateOpen 0x0605 (acqUnit a) [] (withAcq a (fun u => { u with missCounts := [0, 0, 0, 0, 0] }) s)

/-- A fire listed with its cause: 0 POST, 1 REARM, 2 PRE_WAIT, 3 EARLY, 4 LATE. -/
def miss (a : Nat) (f : Fire) (cause : Nat) (s : State) : State :=
  let s := bump .acqCount a 1 1 s
  let full := decide (1024 ≤ (acqOf s a).missed.length)
  let m : AcqMiss := { fire := f, cause := cause, segs := acqCompleted s a, epoch := epochOf s (acqUnit a),
                       planEp := planEpoch s }
  let s := withAcq a (fun u => { u with
    segMissed := satU 32 (u.segMissed + 1),
    missCounts := u.missCounts.set cause (satU 32 (u.missCounts.getD cause 0 + 1)),
    missed := if full then u.missed else u.missed ++ [m] }) s
  if full then bump .acqCount a 2 1 s else s

/-! States (08 R319, R327 to R329). -/

/-- The acquisition enters DONE: fires still held are not judged, the missed list is emitted, 0x0603 is raised. -/
def acqDone (a cause : Nat) (s : State) : State :=
  let n := (acqOf s a).held.length
  let s := bump .acqCount a 3 n s
  let s := withAcq a (fun u => { u with held := [], fire := none, stopping := none }) s
  let s := setF .acqStatus a 0 9 3 cause (setAstate a 6 s)
  listFlush a (raise 0x0603 (acqUnit a) [.u32 (acqNumber s a), .u32 (acqCompleted s a), .u16 cause] s)

/-- FILL: the next slot is opened. -/
def openSlot (a : Nat) (s : State) : State :=
  let s := withAcq a (fun u => { u with
    srcs := u.srcs.map fun x => { AcqSrc.reset with fmt := x.fmt, ib := x.ib, last := x.last, ended := x.ended }, fire := none, opened := true }) s
  setAstate a 2 s

/-- STOP, a STOP_WEIR fire and a mask stop (08 R327). -/
def acqStop (a cause : Nat) (s : State) : State :=
  match astate s a with
  | 0 => s
  | 6 => s
  | 4 => withAcq a (fun u => { u with stopping := some cause }) s
  | _ => acqDone a cause s

/-- The arm time of the segment in formation, in 2^-40 s, once every enabled source has its arm point (08 R320). -/
def armTime (s : State) (a : Nat) : Option Nat :=
  (enSrcs s a).foldl
    (fun m k => match m, (acqSrc s a k).arm with
      | some t, some x => some (max t x.2)
      | _, _ => none) (some 0)

/-- The quotient, rounded up. -/
def ceilDiv (x y : Nat) : Nat := if y = 0 then 0 else (x + y - 1) / y

/-- The stamp in 2^-40 s of the i-th sample after one of stamp t (04 R182, 08 R345). -/
def stampOn (s : State) (a k t i : Nat) : Nat := t + i * srcPeriod s a k / 2 ^ 24

/-- Every enabled source holds PRE samples at or after the arm time (08 R319). -/
def filled (s : State) (a armT : Nat) : Bool :=
  (enSrcs s a).all fun k =>
    let x := acqSrc s a k
    match x.arm with
    | some (i, t) => decide (srcPre s a k + i + ceilDiv ((armT - t) * 2 ^ 24) (srcPeriod s a k) ≤ x.next)
    | none => false

/-- Every source has stored its post-trigger samples (08 R319). -/
def postDone (s : State) (a : Nat) : Bool := (enSrcs s a).all fun k => (acqSrc s a k).done

/-! Judging (08 R321 to R323). -/

/-- The trigger sample of a source: the last whose stamp in 2^-40 s is at or before t; none where it is no longer
retained. -/
def trigSample (s : State) (a k t : Nat) : Option Nat :=
  let x := acqSrc s a k
  let p := max 1 (srcPeriod s a k)
  match x.chunks.find? fun c => decide (c.time ≤ t) with
  | none => none
  | some c =>
    let i := c.idx + ((t - c.time + 1) * 2 ^ 24 - 1) / p
    if c.idx + c.n = x.next then some i else some (min i (c.idx + c.n - 1))

/-- The oldest sample still retained in a source's slot. -/
def oldest (x : AcqSrc) : Nat := (x.chunks.getLast?.map fun c => c.idx).getD x.next

/-- PRE_ACT and its flags for a trigger sample (08 R323). -/
def preAct (s : State) (a k i : Nat) : Nat × Nat :=
  let x := acqSrc s a k
  let pre := srcPre s a k
  let armIdx := (x.arm.map (·.1)).getD 0
  let p1 := min pre (i - armIdx)
  let p2 := min p1 (i - oldest x)
  (p2, (if p1 < pre then 32 else 0) + (if p2 < p1 then 64 else 0))

/-- A source completes once it has stored POST samples from its trigger sample. -/
def srcCheck (a k : Nat) (s : State) : State :=
  let x := acqSrc s a k
  match x.trig with
  | some (i, _, _) =>
    if !x.done && decide (i + srcPost s a k ≤ x.next) then
      withSrc a k (fun x => { x with done := true, post := srcPost s a k }) s
    else s
  | none => s

/-- POST ends when every source is complete (08 R319). -/
def postCheck (a : Nat) (s : State) : State :=
  let s := (enSrcs s a).foldl (fun s k => srcCheck a k s) s
  if astate s a = 4 ∧ postDone s a then setAstate a 5 s else s

/-- An accepted trigger (08 R323). -/
def acceptFire (a : Nat) (f : Fire) (s : State) : State :=
  let t := stampTicks f.stamp
  let s := (enSrcs s a).foldl (fun s k =>
    let i := (trigSample s a k t).getD 0
    let p := preAct s a k i
    withSrc a k (fun x => { x with trig := some (i, p.1, p.2) }) s) s
  let ep := epochOf s (acqUnit a)
  let pe := planEpoch s
  postCheck a (setAstate a 4 (withAcq a (fun u => { u with fire := some (f, ep, pe) }) s))

/-- Some source no longer retains the trigger sample. -/
def anyLate (s : State) (a t : Nat) : Bool := (enSrcs s a).any fun k => (trigSample s a k t).isNone

/-- Some source cannot give its PRE. -/
def anyShort (s : State) (a t : Nat) : Bool :=
  (enSrcs s a).any fun k =>
    match trigSample s a k t with
    | some i => (preAct s a k i).2 != 0
    | none => true

/-- A trigger fire is judged (08 R322). -/
def judge (a : Nat) (f : Fire) (s : State) : State :=
  let t := stampTicks f.stamp
  let hold := withAcq a (fun u => { u with held := u.held ++ [f] }) s
  match astate s a with
  | 5 => hold
  | 4 =>
    match (acqOf s a).fire with
    | some (g, _, _) => miss a f (if stampTicks f.stamp < stampTicks g.stamp then 3 else 0) s
    | none => miss a f 0 s
  | 2 | 3 =>
    match armTime s a with
    | none => hold
    | some armT =>
      if t < armT then miss a f 1 s
      else if anyLate s a t then miss a f 4 s
      else if acqCfgB s a 0 && anyShort s a t then miss a f 2 s
      else acceptFire a f s
  | _ => bump .acqCount a 3 1 s

/-- The fires held until an arm time was known are judged in order. -/
def judgeHeld (a : Nat) (s : State) : State :=
  if (armTime s a).isSome ∧ (astate s a = 2 ∨ astate s a = 3) then
    let h := (acqOf s a).held
    h.foldl (fun s f => judge a f s) (withAcq a (fun u => { u with held := [] }) s)
  else s

/-- The roles of one fire: stop, then arm, then trigger (08 R315). -/
def takeFire (a : Nat) (f : Fire) (s : State) : State :=
  let w := rd s .acqWeir a 0
  let s := if acqCfgB s a 5 && fld w 20 4 == f.weir then acqStop a 3 s else s
  let s := if acqCfgB s a 3 && fld w 16 4 == f.weir && astate s a == 1 then openSlot a s else s
  if bit w f.weir then judge a f s else s

/-- A fire goes before another of its cycle: earlier trigger time, then lower weir. -/
def fireBefore (f g : Fire) : Bool :=
  decide (stampTicks f.stamp < stampTicks g.stamp) || (stampTicks f.stamp == stampTicks g.stamp && decide (f.weir ≤ g.weir))

/-- Put a fire in its place. -/
def fireIns (f : Fire) : List Fire → List Fire
  | [] => [f]
  | g :: r => if fireBefore f g then f :: g :: r else g :: fireIns f r

/-- The list record that 128 held entries make, unless the port stalls (08 R341). -/
def listDue (a : Nat) (stalled : Bool) (s : State) : State :=
  if !stalled && decide (128 ≤ (acqOf s a).missed.length) then listRecord a s else s

/-- ACQ_FIRE: the fires of one cycle that the tree has sent to unit a, and whether its fabric port stalls (07 R305, 08
R322). -/
def execAcqFire (a : Nat) (stalled : Bool) (s : State) : Out :=
  match vget s.tree.fires a [] with
  | [] => .next s
  | f :: r =>
    let same := fun (g : Fire) => g.cycle == f.cycle
    let s := { s with tree := { s.tree with fires := vset s.tree.fires a (r.dropWhile same) } }
    if ustate s (acqUnit a) = .running then
      .next (missEvent a s (((f :: r.takeWhile same).foldr fireIns []).foldl (fun s f => listDue a stalled (takeFire a f s)) s))
    else .next s

/-! Chunks (08 R316, R318, R320, R326). -/

/-- Put a chunk into the next position of the current slot; a gap stores a header alone. -/
def putChunk (a k : Nat) (c : AcqChunk) (bytes : List Byte) (errs : List HbmErr) (s : State) : State :=
  let x := acqSrc s a k
  let cc := max 1 (srcC s a k)
  let pos := x.count % cc
  let s := acqWrite a k (slotOff s a k (acqCompleted s a) + 64 + pos * chunkBytes x.ib) bytes errs s
  withSrc a k (fun x => { x with chunks := ({ c with pos := pos, idx := x.next } :: x.chunks).take cc,
                                 count := x.count + 1, next := x.next + c.n }) s

/-- A chunk that is a gap (08 R318): a header with no valid items. -/
def putGap (a k : Nat) (c : AcqChunk) (s : State) : State :=
  let st := mkStamp c.time c.qual
  let hdr := parcelHeader c.seq (if k = 0 then a else srcTuner a k) (acqSrc s a k).fmt st 0 c.flags 0 0
  putChunk a k { c with gap := true } (wordsBytes hdr) [] (bump .acqCount a 4 c.n s)

/-- The chunk of a missing item, j items before the item `it`: what it would have had (08 R318). -/
def lostChunk (s : State) (a k : Nat) (it : Item) (j : Nat) : AcqChunk :=
  let seq := (it.seq + 2 ^ 48 - j) % 2 ^ 48
  let (o, off) :=
    if k = 0 then (originRef a seq, 0)
    else match (acqSrc s a k).chunks with
      | c :: _ =>
        let x := c.off + c.n * tnD s (srcTuner a k)
        (originPlus c.origin (x / 1024), x % 1024)
      | [] => (it.origin, it.originOff)
  { pos := 0, seq := seq, idx := 0, n := 1024, time := stampTicks it.stamp - j * 1024 * srcPeriod s a k / 2 ^ 24,
    qual := it.stamp.qual &&& 0xF7#8, flags := 0, gap := true, failed := false, origin := o, off := off }

/-- A restart of the source (08 R326). -/
def srcRestart (a k : Nat) (s : State) : State :=
  if astate s a = 4 then
    withSrc a k (fun x =>
      match x.trig with
      | some (i, p, f) => if x.done then x else { x with done := true, post := x.next - i,
                                                          trig := some (i, p - (i - x.next), Nat.lor f 2) }
      | none => x) s
  else withSrc a k (fun x => { x with arm := none }) s

/-- What follows a stored chunk: held fires are judged, FILL may become ARMED, POST may end. -/
def acqProgress (a : Nat) (stalled : Bool) (s : State) : State :=
  let s := listDue a stalled (judgeHeld a s)
  let s := match armTime s a with
    | some t => if astate s a = 2 ∧ filled s a t then setAstate a 3 s else s
    | none => s
  if astate s a = 4 then postCheck a s else s

/-- An item of source k while the unit is armed. -/
def acqChunk (a k : Nat) (it : Item) (first : Nat) (stored stalled : Bool) (errs : List HbmErr) (s : State) : State :=
  let x := acqSrc s a k
  let (begins, ends) := itemGeneration it x.ended
  let s := if begins then srcRestart a k s else s
  let m := if begins || (acqSrc s a k).arm.isNone then 0 else missingItems x.last it.seq
  let seen := fun (s : State) => withSrc a k (fun x => { x with last := some it.seq, ended := ends }) s
  if (acqSrc s a k).done then acqProgress a stalled (seen s)
  else
    let s := (List.range m).foldl (fun s j => putGap a k (lostChunk s a k it (m - j)) s) s
    let t := stampTicks it.stamp
    let at0 := if begins then 0 else first
    let s :=
      if (acqSrc s a k).arm.isNone then
        withSrc a k (fun x => { x with arm := some (x.next + at0, stampOn s a k t at0) }) s
      else s
    let c : AcqChunk :=
      { pos := 0, seq := it.seq, idx := 0, n := min 1024 (hdrValid it), time := t, qual := it.stamp.qual,
        flags := hdrFlags it, gap := false, failed := itemFails it, origin := it.origin, off := it.originOff }
    let s := if stored then putChunk a k c (wordsBytes it.payload |>.take (chunkBytes (acqSrc s a k).ib)) errs s
      else putGap a k c s
    let s := raiseRated 0x0607 (acqUnit a) [.u16 k] (1024 * m + if stored then 0 else c.n) s
    acqProgress a stalled (seen s)

/-- The next item of source k: of the ingress link by the fabric, of a tuner by its capture path (08 R313). -/
def acqItem (a k : Nat) (s : State) : Option (Item × State) :=
  if k = 0 then takeDelivered (32 + a) 0 s
  else match vget (acqOf s a).blocks (k - 1) [] with
    | [] => none
    | i :: r => some (i, withAcq a (fun u => { u with blocks := vset u.blocks (k - 1) r }) s)

/-- ACQ_CHUNK: the next item of source k; the sample of it with which writing begins where it is the first after FILL was
entered; whether the writer's buffers could pass it to HBM; whether the unit's fabric port stalls; the ECC outcomes of its
bursts. -/
def execAcqChunk (a k first : Nat) (stored stalled : Bool) (errs : List HbmErr) (s : State) : Out :=
  match acqItem a k s with
  | none => .next s
  | some (it, s) =>
    if ustate s (acqUnit a) = .running ∧ srcEn s a k ∧ k < 5 then
      if 2 ≤ astate s a ∧ astate s a ≤ 4 then .next (missEvent a s (acqChunk a k it first stored stalled errs s))
      else .next (withSrc a k (fun x => { x with last := some it.seq, ended := (itemGeneration it x.ended).2 }) s)
    else .next s

/-! Completion (08 R317, R338, R339, R343). -/

/-- The flags of a source's segment. -/
def partFlags (k : Nat) (cs : List AcqChunk) (f : Nat) : Nat :=
  let any := fun (p : AcqChunk → Bool) => b2n (cs.any p)
  let hard := fun c : AcqChunk => if k = 0 then c.flags % 16 != 0 else c.flags.testBit 4 || c.flags.testBit 5
  Nat.lor f (any (·.gap) + 4 * any (fun c => k != 0 && c.flags.testBit 2) + 8 * any hard + 16 * any (·.failed)
    + 128 * b2n ((cs.drop 1).any fun c => c.qual.toNat.testBit 3))

/-- The stamp of sample i of a chunk's source: a chunk's own stamp carries STEPPED with its first sample only (08 R334, R345,
03 R130). -/
def chunkStamp (s : State) (a k : Nat) (c : AcqChunk) (i : Nat) : Stamp :=
  mkStamp (stampOn s a k c.time (i - c.idx)) (if i = c.idx then c.qual else c.qual &&& 0xF7#8)

/-- A source's part of the segment that completes; its stamp is one that the unit makes (03 R130). -/
def makePart (a k : Nat) (s : State) : AcqPart × State :=
  let x := acqSrc s a k
  let (i, pre, f) := x.trig.getD (0, 0, 0)
  let lo := i - pre
  let hi := i + x.post
  let cs := x.chunks.reverse.filter fun c => decide (c.idx < hi ∧ lo < c.idx + c.n)
  let st := match cs with
    | c :: _ => chunkStamp s a k c lo
    | [] => mkStamp 0 0
  let (st, s) := stampFrom (acqUnit a) (stampTicks st) st.qual s
  ({ src := k, fmt := x.fmt, ib := x.ib, slot := slotOff s a k (acqCompleted s a), first := lo, pre := pre, post := x.post,
     flags := partFlags k cs f, stamp := st, chunks := cs }, s)

/-- The parts of the segment that completes, ascending. -/
def makeParts (a : Nat) (s : State) : List AcqPart × State :=
  (enSrcs s a).foldl (fun p k => let x := makePart a k p.2; (p.1 ++ [x.1], x.2)) ([], s)

/-- The 64 bytes of a descriptor; the last fields at 36, 52, 56 and 60 as given. -/
def descriptor (g : AcqSeg) (p : AcqPart) (flags n36 n52 n60 : Nat) : List Byte :=
  leBytes 4 g.number ++ leBytes 4 g.ordinal ++ leBytes 1 p.src ++ leBytes 1 p.fmt ++ leBytes 2 flags ++ leBytes 1 g.fire.weir
    ++ leBytes 3 0 ++ wordsBytes (stampWords g.fire.stamp) ++ leBytes 4 p.pre ++ leBytes 4 p.post ++ leBytes 4 n36
    ++ wordsBytes (stampWords p.stamp) ++ leBytes 4 n52 ++ leBytes 4 g.missed ++ leBytes 4 n60

/-- The slot headers of a segment. -/
def writeHeaders (a : Nat) (g : AcqSeg) (s : State) : State :=
  g.parts.foldl (fun s p =>
    acqWrite a p.src p.slot (descriptor g p p.flags (p.pre + p.post) g.epoch.toNat g.planEp.toNat) [] s) s

/-- READ_BUSY follows the readouts. -/
def readBusy (a : Nat) (s : State) : State :=
  setB .acqStatus a 0 4 ((acqOf s a).job.isSome || (acqOf s a).auto.length != 0) s

/-- The next AUTO_READ readout starts when none runs. -/
def autoNext (a : Nat) (s : State) : State :=
  match (acqOf s a).job, (acqOf s a).auto with
  | none, o :: r =>
    let c := rd s .acqReadCfg a 0
    let lg := if 12 ≤ fld c 5 5 ∧ fld c 5 5 ≤ 24 then fld c 5 5 else 20
    readBusy a (wr .acqProgress a 2 (BitVec.ofNat 32 o) (withAcq a (fun u => { u with
      auto := r, job := some { first := o, last := o, ord := o, src := 0, frag := 0, srcMask := fld c 0 5, lg := lg, kept := none } }) s))
  | _, _ => readBusy a s

/-- ACQ_SEGMENT_COMPLETE: in REARM the slot header is written and the unit goes on (08 R317, R319). -/
def execAcqSegmentComplete (a : Nat) (s : State) : Out :=
  match astate s a, (acqOf s a).fire with
  | 5, some (f, ep, pe) =>
    let u := acqOf s a
    let o := acqCompleted s a
    let (parts, s) := makeParts a s
    let g : AcqSeg := { ordinal := o, number := acqNumber s a, fire := f, epoch := ep, planEp := pe, missed := u.segMissed,
                        parts := parts }
    let s := writeHeaders a g s
    let s := wr .acqProgress a 0 (BitVec.ofNat 32 (o + 1)) (bump .acqCount a 0 1 s)
    let full := decide (16 ≤ (u.tests.filter fun t => t.2).length)
    let mt := acqCfgB s a 6
    let s := if mt && full then bump .acqCount a 6 1 s else s
    let s := withAcq a (fun u => { u with
      segMissed := 0, fire := none, opened := false,
      segs := (u.segs.filter fun q => decide (o + 1 ≤ q.ordinal + u.slots)) ++ [g],
      auto := if acqCfgB s a 2 then u.auto ++ [o] else u.auto,
      tests := if mt then u.tests ++ [(g, !full)] else u.tests }) s
    let s := if acqCfgB s a 8 then raiseWithSeq f.evSeq 0x0604 (acqUnit a) (parts.any fun p => p.flags.testBit 4) [.u32 o, .time f.stamp] s else s
    let s := autoNext a s
    .next (match u.stopping with
      | some c => acqDone a c s
      | none =>
        if u.slots ≤ o + 1 ∧ !acqCfgB s a 1 then acqDone a 1 s
        else if acqCfgB s a 4 then setAstate a 1 s
        else openSlot a s)
  | _, _ => .next s

/-! Commands (08 R327, R328, R331 to R333, R337). -/

/-- A command that ACQ_STATUS reports as refused. -/
def acqRefused (ag : AgentId) (a cmd : Nat) (s : State) : WRes :=
  (ignored ag (Reg.off .acqCmd a 0) cmd (setB .acqStatus a 0 3 true s), 99)

/-- A word of the tolerance mask. -/
def mtWord (s : State) (a i : Nat) : Word := spGet (acqOf s a).mask i 0

/-- The entries of the mask rise strictly up to a STOP (08 R331, R342). -/
def mtRises (s : State) (a : Nat) : Nat → Nat → Bool
  | 0, _ => false
  | n + 1, j =>
    let f := fun j => sgn 32 (mtWord s a (4 * j)).toNat
    (j == 0 || decide (f (j - 1) < f j)) && (bit (mtWord s a (4 * j + 1)) 31 || mtRises s a n (j + 1))

/-- Bytes per second that a source writes, rounded up. -/
def srcRate (s : State) (a k : Nat) : Nat := ceilDiv (srcChunk s a k * 2 ^ 64) (1024 * srcPeriod s a k)

/-- The register that fails START (08 R331). -/
def startFail (s : State) (a : Nat) : Option Nat :=
  let en := enSrcs s a
  let bad := fun (b : Bool) (r : Reg) (k : Nat) => if b then some (Reg.off r a k) else none
  let each := fun (p : Nat → Option Nat) => en.findSome? p
  let mtSrc := getF s .acqMtCfg a 0 0 3
  [bad en.isEmpty .acqSrcCfg 0,
   each fun k => if k = 0 then bad ((feedPort s (32 + a) 0).isNone) .acqSrcCfg 0
                 else bad (ustate s (tunUnit (srcTuner a k)) != .running || !unitPresent s (tunUnit (srcTuner a k))) .acqSrcCfg k,
   each fun k => bad (srcPost s a k == 0) .acqSrcPost k,
   each fun k => bad (decide (srcPre s a k + srcPost s a k < 256 ∨ 2 ^ 30 < srcPre s a k + srcPost s a k)) .acqSrcPre k,
   each fun k => bad (decide (srcC s a k < ceilDiv (srcPre s a k + srcPost s a k) 1024 + 1 ∨ 2097151 < srcC s a k)) .acqSrcSlot k,
   each fun k => match srcRegion s a k with
     | some r => bad (!r.realtime || decide (r.size < acqS s a * srcSlot s a k ∨ r.bandwidth * 1000000 < srcRate s a k)) .acqSrcCfg k
     | none => bad true .acqSrcCfg k,
   bad (decide (160000000000 < (en.map (srcRate s a)).sum)) .acqSrcCfg 0,
   bad (getF s .acqWeir a 0 0 16 == 0) .acqWeir 0,
   bad (acqCfgB s a 6 && (!srcEn s a mtSrc || decide (4 < mtSrc) || (mtSrc == 0 && lkTransport s a == 2)
          || getF s .acqMtCfg a 0 3 2 == 3)) .acqMtCfg 0,
   bad (acqCfgB s a 6 && !mtRises s a 1024 0) .acqMtData 0,
   bad (acqRuns s a || (acqOf s a).job.isSome || ustate s (acqUnit a) != .running) .acqStatus 0].findSome? id

/-- START (08 R331). -/
def acqStart (ag : AgentId) (a : Nat) (s : State) : WRes :=
  match startFail s a with
  | some off =>
    let r := acqRefused ag a 1 s
    (raise 0x0601 (acqUnit a) [.u32 off] r.1, 99)
  | none =>
    let n := acqNumber s a + 1
    let s := wr .acqProgress a 1 (BitVec.ofNat 32 n) (wr .acqProgress a 0 0 s)
    let s := withAcq a (fun u => { u with held := [], stopping := none, segMissed := 0, segs := [], fire := none, opened := false,
                                          slots := acqS s a }) s
    let s := (List.range 5).foldl (fun s k => withSrc a k (fun x => { x with fmt := srcFormat s a k, ib := srcBytes s a k }) s) s
    let s := if acqCfgB s a 3 then setAstate a 1 s else openSlot a s
    (raise 0x0602 (acqUnit a) [.u32 (n % 2 ^ 32)] (bumpEpoch (acqUnit a) s), 0)

/-- ABORT (08 R328). -/
def acqAbort (a : Nat) (s : State) : State :=
  if acqRuns s a then acqDone a 5 (setF .acqStatus a 0 5 2 1 s) else setF .acqStatus a 0 5 2 2 s

/-- A completed segment whose slot has not been overwritten or re-opened (08 R333). -/
def segKept (s : State) (a o : Nat) : Bool :=
  let c := acqCompleted s a
  let n := (acqOf s a).slots
  decide (o < c) && !(decide (o + n < c) || (o + n == c && (acqOf s a).opened))

/-- READ (08 R333). -/
def acqRead (ag : AgentId) (a : Nat) (s : State) : WRes :=
  let f := (rd s .acqReadFirst a 0).toNat
  let n := max 1 (rd s .acqReadCount a 0).toNat
  let c := rd s .acqReadCfg a 0
  let lg := if 12 ≤ fld c 5 5 ∧ fld c 5 5 ≤ 24 then fld c 5 5 else 20
  if (acqOf s a).job.isSome || (acqCfgB s a 2 && acqRuns s a) || !segKept s a f || !decide (f + n ≤ acqCompleted s a) then
    acqRefused ag a 4 s
  else
    (readBusy a (wr .acqProgress a 2 (BitVec.ofNat 32 f) (withAcq a (fun u => { u with
      job := some { first := f, last := f + n - 1, ord := f, src := 0, frag := 0, srcMask := fld c 0 5, lg := lg, kept := none } }) s)), 0)

/-- READ_ABORT (08 R337). -/
def acqReadAbort (a : Nat) (s : State) : State :=
  if (acqOf s a).job.isSome then
    readBusy a (withAcq a (fun u => { u with job := none, auto := [] }) (setF .acqStatus a 0 7 2 1 s))
  else setF .acqStatus a 0 7 2 2 s

/-- A write to ACQ_CMD. -/
def acqCmdEff (ag : AgentId) (a : Nat) (v : BitVec 32) (s : State) : WRes :=
  match fld v 0 3 with
  | 0 => (s, 0)
  | 1 => acqStart ag a s
  | 2 => (acqStop a 2 s, 0)
  | 3 => (acqAbort a s, 0)
  | 4 => acqRead ag a s
  | 5 => (acqReadAbort a s, 0)
  | 6 => (listFlush a s, 0)
  | _ => acqRefused ag a 7 s

/-- A write of a command by an agent. -/
def acqCmdW (ag : AgentId) (a c : Nat) (s : State) : State :=
  guardW ag (Reg.off .acqCmd a 0) (BitVec.ofNat 32 c) (acqCmdEff ag a (BitVec.ofNat 32 c)) s

/-- ACQ_START. -/
def execAcqStart (ag : AgentId) (a : Nat) (s : State) : Out := .next (acqCmdW ag a 1 s)

/-- ACQ_STOP. -/
def execAcqStop (ag : AgentId) (a : Nat) (s : State) : Out := .next (acqCmdW ag a 2 s)

/-- ACQ_ABORT. -/
def execAcqAbort (ag : AgentId) (a : Nat) (s : State) : Out := .next (acqCmdW ag a 3 s)

/-- ACQ_READ. -/
def execAcqRead (ag : AgentId) (a : Nat) (s : State) : Out := .next (acqCmdW ag a 4 s)

/-- ACQ_READ_ABORT. -/
def execAcqReadAbort (ag : AgentId) (a : Nat) (s : State) : Out := .next (acqCmdW ag a 5 s)

/-- FLUSH_LIST (08 R341). -/
def execFlushList (ag : AgentId) (a : Nat) (s : State) : Out := .next (acqCmdW ag a 6 s)

/-- ACQ_LIST_TIMEOUT: 10 µs after the oldest held entry (08 R341). -/
def execAcqListTimeout (a : Nat) (s : State) : Out := .next (listRecord a s)

/-- A write to a set-up register: only in IDLE or DONE (08 R332). -/
def acqSetupEff (a : Nat) (eff : State → WRes) (s : State) : WRes :=
  if acqRuns s a then (setB .acqStatus a 0 3 true s, 4) else eff s

/-- The next mask word. -/
def mtStep (a : Nat) (s : State) : State :=
  wr .acqMtAddr a 0 (BitVec.ofNat 32 ((getF s .acqMtAddr a 0 0 12 + 1) % 4096)) s

/-- A write to ACQ_MT_DATA (08 R332, R342). -/
def mtDataEff (a : Nat) (v : BitVec 32) (s : State) : WRes :=
  acqSetupEff a (fun s =>
    (mtStep a (withAcq a (fun u => { u with mask := spPut u.mask (getF s .acqMtAddr a 0 0 12) v 0 }) s), 0)) s

/-- ACQ_MT_DATA_WRITE. -/
def execAcqMtDataWrite (ag : AgentId) (a : Nat) (v : BitVec 32) (s : State) : Out :=
  .next (guardW ag (Reg.off .acqMtData a 0) v (mtDataEff a v) s)

/-! Readout (08 R334 to R337). -/

/-- A stored chunk of a part, read from HBM once; the bytes of a read that fails are not stated. `fails`: its check fails
twice. -/
def readChunk (a port : Nat) (p : AcqPart) (c : AcqChunk) (fails : Bool) (errs : List HbmErr) (s : State) : AcqKept × State :=
  let n := chunkBytes p.ib
  let off := p.slot + 64 + c.pos * n
  let (b, s) := acqReadBytes a port p.src off n errs s
  match b, fails with
  | some b, false =>
    ({ idx := c.idx, bytes := b, bad := crc32c (b.drop 32) != BitVec.ofNat 32 (leNat ((b.drop 28).take 4)) }, s)
  | _, _ => ({ idx := c.idx, bytes := (List.range n).map fun i => Config.failedByte s.free (off + i), bad := true }, nextFree s)

/-- What a readout has so far of a record: its bytes, whether a chunk of it failed, the origins of those that it found to fail,
the last chunk, the number of chunks read. -/
structure AcqRead where
  bytes : List Byte
  bad : Bool
  fails : List (BitVec 64)
  kept : Option AcqKept
  reads : Nat

/-- The samples lo to hi − 1 of a part, as bytes; each chunk is read once, the chunk of the last record not again. `hard`: which
of the chunks read fail their check twice. -/
def readSamples (a port : Nat) (p : AcqPart) (lo hi : Nat) (kept : Option AcqKept) (hard : List Nat) (errs : List HbmErr)
    (s : State) : AcqRead × State :=
  (p.chunks.filter fun c => decide (c.idx < p.first + hi ∧ p.first + lo < c.idx + c.n)).foldl
    (fun (acc : AcqRead × State) c =>
      let x := acc.1
      let f := max c.idx (p.first + lo) - c.idx
      let e := min (c.idx + c.n) (p.first + hi) - c.idx
      let cut := fun (b : List Byte) => (b.drop (32 + f * p.ib)).take ((e - f) * p.ib)
      if c.gap then ({ x with bytes := x.bytes ++ List.replicate ((e - f) * p.ib) 0 }, acc.2)
      else
        let again := match x.kept with | some k => k.idx == c.idx | none => false
        match x.kept, again with
        | some k, true => ({ x with bytes := x.bytes ++ cut k.bytes, bad := x.bad || k.bad }, acc.2)
        | _, _ =>
          let r := readChunk a port p c (hard.contains x.reads) errs acc.2
          ({ bytes := x.bytes ++ cut r.1.bytes, bad := x.bad || r.1.bad,
             fails := if r.1.bad then x.fails ++ [c.origin] else x.fails, kept := some r.1, reads := x.reads + 1 }, r.2))
    ({ bytes := [], bad := false, fails := [], kept := kept, reads := 0 }, s)

/-- The chunk that holds sample i of a part. -/
def partChunk (p : AcqPart) (i : Nat) : Option AcqChunk := p.chunks.reverse.find? fun c => decide (c.idx ≤ p.first + i)

/-- The origin reference of sample i of a part, traced through the tuner (08 R334). -/
def partOrigin (s : State) (a : Nat) (p : AcqPart) (i : Nat) : BitVec 64 :=
  match partChunk p i with
  | some c =>
    if p.src = 0 then c.origin else originPlus c.origin ((c.off + (p.first + i - c.idx) * tnD s (srcTuner a p.src)) / 1024)
  | none => 0

/-- The readout goes to the next segment, or ends (08 R333, R337). -/
def nextSegment (a : Nat) (j : AcqJob) (s : State) : State :=
  if j.ord < j.last then
    wr .acqProgress a 2 (BitVec.ofNat 32 (j.ord + 1))
      (withAcq a (fun u => { u with job := some { j with ord := j.ord + 1, src := 0, frag := 0, kept := none } }) s)
  else
    autoNext a (raise 0x0609 (acqUnit a) [.u32 j.first, .u32 j.last] (withAcq a (fun u => { u with job := none }) s))

/-- One fragment record of a part (08 R334, R335, R338). -/
def fragment (a : Nat) (j : AcqJob) (g : AcqSeg) (p : AcqPart) (soft : Nat) (hard : List Nat) (errs : List HbmErr) (s : State) :
    State :=
  let per := 2 ^ j.lg / p.ib
  let total := p.pre + p.post
  let lo := j.frag * per
  let hi := min total (lo + per)
  let last := decide (total ≤ lo + per)
  let x := readSamples a 27 p lo hi j.kept hard errs s
  let s := (List.range soft).foldl (fun s _ => faultTransient s) x.2
  let s := x.1.fails.foldl (fun s o => setB .globalFaultStatus 0 0 8 true
    (faultLasting 6 (acqUnit a) 0 (g.number % 2 ^ 32 + g.ordinal * 2 ^ 32) o [] s)) s
  let flags := Nat.lor p.flags (16 * b2n x.1.bad + 256 * b2n (j.frag == 0) + 512 * b2n last)
  let body := descriptor g p flags (hi - lo) lo j.frag ++ x.1.bytes
  let body := body ++ List.replicate ((8 - body.length % 8) % 8) 0
  let t := match partChunk p lo with
    | some c => if lo = 0 then p.stamp else chunkStamp s a p.src c (p.first + lo)
    | none => p.stamp
  let s := acqOffer a 0x30 0 j.frag t g.fire.evSeq g.epoch g.planEp (partOrigin s a p lo) (x.1.bad || p.flags.testBit 4)
    (bytesWords body) (updFaultN s)
  if last then
    match (g.parts.filter fun q => j.srcMask.testBit q.src && decide (p.src < q.src)) with
    | q :: _ => withAcq a (fun u => { u with job := some { j with src := q.src, frag := 0, kept := none } }) s
    | [] => nextSegment a j s
  else withAcq a (fun u => { u with job := some { j with frag := j.frag + 1, kept := x.1.kept } }) s

/-- ACQ_READOUT_RECORD: the next record of the running readout; how many of its chunks passed only the second check, which
of those that it reads failed both, the ECC outcomes of its reads. -/
def execAcqReadoutRecord (a soft : Nat) (hard : List Nat) (errs : List HbmErr) (s : State) : Out :=
  match (acqOf s a).job with
  | none => .next s
  | some j =>
    if !segKept s a j.ord then .next (nextSegment a j (bump .acqCount a 5 1 s))
    else
      match (acqOf s a).segs.find? fun g => g.ordinal == j.ord with
      | none => .next (nextSegment a j s)
      | some g =>
        match (g.parts.filter fun p => j.srcMask.testBit p.src && decide (j.src ≤ p.src)) with
        | p :: _ => .next (fragment a j g p soft hard errs s)
        | [] => .next (nextSegment a j s)

/-! Mask testing (08 R342 to R344). -/

/-- The entry of the mask that covers an offset from the trigger sample. -/
def mtEntry (s : State) (a : Nat) (off : Int) : Nat → Nat → Option Nat
  | 0, _ => none
  | n + 1, j =>
    let f := fun j => sgn 32 (mtWord s a (4 * j)).toNat
    if bit (mtWord s a (4 * j + 1)) 31 then none
    else if f j ≤ off ∧ off < f (j + 1) then some j
    else mtEntry s a off n (j + 1)

/-- The value tested of a sample (08 R342). -/
def mtValue (comp shift : Nat) (x : Cx) : Int :=
  match comp with
  | 0 => x.1
  | 1 => x.2
  | _ => min ((x.1 * x.1 + x.2 * x.2) / ((2 ^ shift : Nat) : Int)) 2147483647

/-- A sample of item bytes. -/
def bytesSample (ib : Nat) (b : List Byte) : Cx :=
  if ib = 8 then (sgn 32 (leNat (b.take 4)), sgn 32 (leNat ((b.drop 4).take 4)))
  else (sgn 16 (leNat (b.take 2)), sgn 16 (leNat ((b.drop 2).take 2)))

/-- The samples of a part from index lo on, each against the entry that covers it: violations, offset of the first, samples
tested, added to those so far. -/
def mtSamples (s : State) (a : Nat) (p : AcqPart) : Nat → List Byte → Nat → Nat × Int × Nat → Nat × Int × Nat
  | 0, _, _, acc => acc
  | n + 1, b, i, acc =>
    let off : Int := (i : Int) - p.pre
    let acc := match mtEntry s a off 1024 0 with
      | some j =>
        let v := mtValue (getF s .acqMtCfg a 0 3 2) (getF s .acqMtCfg a 0 5 6) (bytesSample p.ib (b.take p.ib))
        let bad := decide (sgn 32 (mtWord s a (4 * j + 2)).toNat < v ∨ v < sgn 32 (mtWord s a (4 * j + 3)).toNat)
        (if bad then acc.1 + 1 else acc.1, if bad && acc.1 == 0 then off else acc.2.1, acc.2.2 + 1)
      | none => acc
    mtSamples s a p n (b.drop p.ib) (i + 1) acc

/-- The tester's result for a part, read back from HBM: as above, and whether a chunk failed its check (08 R342, R343). -/
def mtRun (a : Nat) (p : AcqPart) (errs : List HbmErr) (s : State) : (Nat × Int × Nat) × Bool × State :=
  p.chunks.foldl
    (fun acc c =>
      if c.gap then acc
      else
        let r := readChunk a 27 p c false errs acc.2.2
        let lo := max c.idx p.first
        let hi := min (c.idx + c.n) (p.first + p.pre + p.post)
        (mtSamples s a p (hi - lo) (r.1.bytes.drop (32 + (lo - c.idx) * p.ib)) (lo - p.first) acc.1, acc.2.1 || r.1.bad, r.2))
    ((0, 0, 0), false, s)

/-- MASK_TEST_DONE: the oldest waiting segment's result, and the ECC outcomes of the tester's reads (08 R343, R344). -/
def execMaskTestDone (a : Nat) (errs : List HbmErr) (s : State) : Out :=
  match (acqOf s a).tests with
  | [] => .next s
  | (g, tested) :: r =>
    let s := withAcq a (fun u => { u with tests := r }) s
    let k := getF s .acqMtCfg a 0 0 3
    let p := (g.parts.find? fun p => p.src == k).getD
      { src := k, fmt := 1, ib := 4, slot := 0, first := 0, pre := 0, post := 0, flags := 0, stamp := mkStamp 0 0, chunks := [] }
    let (m, bad, s) := if tested then mtRun a p errs s else ((0, 0, 0), false, s)
    let failed := bad || p.flags.testBit 4
    let result := if !tested then 2 else if m.1 = 0 then 0 else 1
    let b := leBytes 4 g.number ++ leBytes 4 g.ordinal ++ leBytes 1 result ++ leBytes 1 k ++ leBytes 2 (p.flags % 256)
      ++ leBytes 4 (satU 32 m.1) ++ leBytes 4 (unsgn 32 m.2.1) ++ leBytes 4 m.2.2 ++ leBytes 8 0
    let s := acqOffer a 0x22 2 0 g.fire.stamp g.fire.evSeq g.epoch g.planEp (partOrigin s a p 0) failed (bytesWords b) s
    if result = 1 then
      let s := raiseAt (eventTime s) 0x0606 (acqUnit a) failed [.u32 g.ordinal, .u32 m.1] (bump .acqCount a 7 1 s)
      .next (if acqCfgB s a 7 then acqStop a 4 s else s)
    else .next s

/-! The unit. -/

/-- Leaving RUNNING through DRAIN or STOP (08 R329): the acquisition ends, readouts end after the record in formation. -/
def acqLeave (a : Nat) (s : State) : State :=
  let s := if acqRuns s a then acqDone a 6 s else s
  readBusy a (withAcq a (fun u => { u with job := none, auto := [], blocks := Vector.replicate 4 [] })
    { s with tree := { s.tree with fires := vset s.tree.fires a [] } })

/-- ABORT in UNIT_CTRL and a fault discard the records in formation too (08 R329). -/
def acqDiscard (a : Nat) (s : State) : State := acqLeave a (withAcq a (fun u => { u with missed := [], tests := [] }) s)

/-- Something is in formation. -/
def acqPartial (s : State) (a : Nat) : Bool :=
  acqRuns s a || (acqOf s a).job.isSome || (acqOf s a).missed.length != 0 || (acqOf s a).tests.length != 0

end Sys2Proof.Machine
end

