-- ==== Sys2Proof/Machine/Auxiliary.lean ====
section
/-! DEFINITION. The auxiliary converter (19_aux_converter.md R601 to R618). -/

namespace Sys2Proof.Machine

/-- Change the converter; BUSY and CHANNEL_NOW follow. -/
def withAux (f : Aux → Aux) (s : State) : State :=
  let x := f s.aux
  let s := setB .auxStatus 0 0 0 x.cur.isSome { s with aux := x }
  match x.cur with
  | some c => setF .auxStatus 0 0 4 5 c.channel s
  | none => s

/-- CMD_ERR. -/
def auxErr (s : State) : State := setB .auxStatus 0 0 3 true s

/-- REF_SETTLED clears; the conversion in progress is marked (19 R608). -/
def auxUnsettle (s : State) : State :=
  setB .auxStatus 0 0 1 false (withAux (fun x => { x with cur := x.cur.map fun c => { c with unsettled := true } }) s)

/-- The reference in force becomes REF of AUX_CONV; a change clears REF_SETTLED (19 R608). -/
def auxTakeRef (s : State) : State :=
  let r := getF s .auxConv 0 0 12 2
  if s.aux.ref = r then s else auxUnsettle (withAux (fun x => { x with ref := r }) s)

/-- The channel after the last one in SCAN: ascending, wrapping (19 R606). -/
def scanNext (mask : Word) (last : Option Nat) : Option Nat :=
  let up := (List.range 32).filter fun c => bit mask c
  match last with
  | some l => ((up.filter fun c => decide (l < c)) ++ up).head?
  | none => up.head?

/-- What holds now: the engine's running time, device time less it, and the quality byte. -/
def auxNow (s : State) : Nat × Int × BitVec 8 := (upTotal s, (nowTotal s : Int) - upTotal s, qualNow s)

/-- A conversion in progress keeps what held at each instant of its filter window (19 R605). -/
def auxMark (s : State) : State :=
  match s.aux.cur with
  | none => s
  | some k =>
    match k.marks with
    | m :: _ =>
      if m.2 = (auxNow s).2 then s
      else withAux (fun x => { x with cur := some { k with marks := auxNow s :: k.marks } }) s
    | [] => withAux (fun x => { x with cur := some { k with marks := [auxNow s] } }) s

/-- A conversion starts on a channel with the values in force. -/
def auxBegin (c : Nat) (s : State) : State :=
  let conv := rd s .auxConv 0 0
  let k : AuxConv :=
    { channel := c, rate := fld conv 8 4, ref := s.aux.ref, unsettled := !getB s .auxStatus 0 0 1,
      marks := [auxNow s] }
  withAux (fun x => { x with cur := some k }) s

/-- A conversion boundary: writes take effect, and CONTINUOUS and SCAN start the next conversion (19 R606, R607). -/
def auxBoundary (s : State) : State :=
  let s := auxTakeRef s
  if ustate s 0x230 = .running then
    match getF s .auxConv 0 0 0 2 with
    | 2 => auxBegin (getF s .auxConv 0 0 2 5) s
    | 3 =>
      match scanNext (rd s .auxScan 0 0) s.aux.last with
      | some c => auxBegin c s
      | none => s
    | _ => s
  else s

/-- A write that takes effect at once where no conversion runs. -/
def auxApply (s : State) : State := if s.aux.cur.isSome then s else auxBoundary s

/-- A write of AUX_CONV: reserved REF and RATE are discarded while RUNNING (19 R608). -/
def auxConvEff (v : BitVec 32) (s : State) : WRes :=
  let v := v &&& 0x3F7F
  if ustate s 0x230 = .running ∧ (fld v 12 2 = 3 ∨ fld v 8 4 = 15) then (auxErr s, 5)
  else (auxApply (wr .auxConv 0 0 v s), 0)

/-- A write of AUX_SCAN (19 R607). -/
def auxScanEff (v : BitVec 32) (s : State) : WRes := (auxApply (wr .auxScan 0 0 v s), 0)

/-- AUX_CONV_WRITE: a write of AUX_CONV, or with scan of AUX_SCAN (19 R607). -/
def execAuxConvWrite (ag : AgentId) (scan : Bool) (v : BitVec 32) (s : State) : Out :=
  if scan then .next (guardW ag (Reg.off .auxScan 0 0) v (auxScanEff v) s)
  else .next (guardW ag (Reg.off .auxConv 0 0) v (auxConvEff v) s)

/-! Destinations (19 R613 to R615). -/

/-- The 16 bytes of an entry as four words. -/
def auxEntryWords (e : AuxEntry) : List Word :=
  stampWords e.stamp ++ [BitVec.ofNat 32 (unsgn 24 e.code + e.flags * 2 ^ 24)]

/-- Close the block in formation, if it holds entries (19 R615). -/
def auxClose (stop : Bool) (s : State) : State :=
  let x := s.aux
  match x.blk with
  | [] => s
  | e :: _ =>
    let hdr := leBytes 6 x.seq ++ leBytes 1 0 ++ leBytes 1 0x30 ++ leBytes 2 x.blk.length
      ++ leBytes 2 (b2n x.first + 2 * b2n stop) ++ leBytes 4 (satU 32 x.lostN) ++ leBytes 16 0
    let p := bytesWords hdr ++ x.blk.flatMap auxEntryWords
    let s := withAux (fun x => { x with blk := [], lostN := 0, seq := (x.seq + 1) % 2 ^ 48, first := false }) s
    offer { kind := 0x80, src := 0x230, stream := 0, sel := 0, seq := x.seq, gen := 0, stamp := e.stamp,
            epoch := e.ep.1, planEpoch := e.ep.2, evSeq := 0, origin := 0, check := false,
            crc := crcWords p, payload := p } s

/-- Entries that fill the output buffer of 512: those of the block in formation and of blocks not yet taken. -/
def auxBuffered (s : State) : Nat :=
  s.aux.blk.length + (((s.plan.offered.filter fun i => i.src == 0x230).map fun i => (i.payload.length - 8) / 4).sum)

/-- Lost entries are reported at most once per 1 ms, with both counts (19 R615). -/
def auxLoss (sram stream : Nat) (s : State) : State :=
  let s := withAux (fun x => { x with lossRep := (x.lossRep.1 + sram, x.lossRep.2 + stream) }) s
  match rateFind s 0x1003 0x230 [] with
  | some _ => rateAdd 0x1003 0x230 [] (sram + stream) [] s
  | none =>
    let r := s.aux.lossRep
    raise 0x1003 0x230 [.u32 r.1, .u32 r.2]
      (rateOpen 0x1003 0x230 [] (withAux (fun x => { x with lossRep := (0, 0) }) s))

/-- An entry for the SRAM buffer (19 R614). -/
def auxToSram (e : AuxEntry) (s : State) : State :=
  let i := rd s .auxBufIdx 0 0
  let wrI := fld i 16 16
  if (wrI + 65536 - fld i 0 16) % 65536 < 4096 then
    let w := auxEntryWords { e with flags := e.flags + 128 * b2n s.aux.lostSram }
    let s := (List.range 4).foldl (fun s k => wr .auxBuf 0 (wrI % 4096 * 4 + k) (w.getD k 0) s) s
    withAux (fun x => { x with lostSram := false }) (setF .auxBufIdx 0 0 16 16 (wrI + 1) s)
  else auxLoss 1 0 (bump .auxCount 0 1 1 (withAux (fun x => { x with lostSram := true }) s))

/-- An entry for stream 0 (19 R615). -/
def auxToStream (e : AuxEntry) (s : State) : State :=
  if auxBuffered s < 512 then
    let f := { e with flags := e.flags + 128 * b2n s.aux.lostStream }
    let s := withAux (fun x =>
      { x with blk := x.blk ++ [f], lostStream := false, blkAt := if x.blk.isEmpty then upTotal s else x.blkAt }) s
    if 256 ≤ s.aux.blk.length then auxClose false s else s
  else auxLoss 0 1 (bump .auxCount 0 2 1 (withAux (fun x => { x with lostStream := true, lostN := x.lostN + 1 }) s))

/-! Windows (19 R610). -/

/-- The new STATE of a channel for a result, and whether the channel left its band: 0 IN, 1 BELOW, 2 ABOVE, 3 UNKNOWN. -/
def winNext (st : Nat) (lo hi hyst v : Int) : Nat × Bool :=
  let below := decide (v < lo)
  let above := decide (hi < v)
  if st = 0 ∨ st = 3 then if below then (1, true) else if above then (2, true) else (0, false)
  else if lo + hyst ≤ v ∧ v ≤ hi - hyst then (0, false)
  else if st = 1 ∧ above then (2, true)
  else if st = 2 ∧ below then (1, true)
  else (st, false)

/-- A result is compared with its channel's window. -/
def auxCompare (c : Nat) (v : Int) (t : Stamp) (s : State) : State :=
  let st := getF s .auxWinCfg 0 c 8 2
  let r := winNext st (sgn 24 (rd s .auxWinLo 0 c).toNat) (sgn 24 (rd s .auxWinHi 0 c).toNat) (getF s .auxWinCfg 0 c 16 16) v
  let s := setF .auxWinCfg 0 c 8 2 r.1 s
  if r.2 then
    raise 0x1001 0x230 [.u16 c, .s32 v, .u16 r.1, .time t] (bump .auxCount 0 3 1 (setB .auxWinStatus 0 0 c true s))
  else s

/-- A write of AUX_WIN_CFG: clearing EN sets STATE to UNKNOWN. -/
def auxWinEff (c : Nat) (v : BitVec 32) (s : State) : WRes :=
  let s := wrMask .auxWinCfg 0 c 0xFFFF0001 v s
  (if bit v 0 then s else setF .auxWinCfg 0 c 8 2 3 s, 0)

/-! Conversions (19 R603 to R605). -/

/-- OSR of a RATE. -/
def auxOsr (rate : Nat) : Nat :=
  [256, 512, 1024, 2048, 4096, 8192, 16384, 32768, 65536, 163840, 327680, 655360, 1638400, 3276800, 6553600].getD rate 0

/-- The centre of a filter window that ends now, as the engine's running time in 2^-64 s times 32,768,000 (19 R605). -/
def auxCentreUp (s : State) (rate : Nat) : Nat := upTotal s * 32768000 - (3 * auxOsr rate - 1) * 2 ^ 64

/-- What held at the centre of the window: the latest mark that is not later. -/
def auxMarkAt (s : State) (k : AuxConv) : Nat × Int × BitVec 8 :=
  let l := auxNow s :: k.marks
  ((l.dropWhile fun m => decide (auxCentreUp s k.rate < m.1 * 32768000)).head?).getD (l.getLastD (auxNow s))

/-- The device time of the centre of the window, in 2^-40 s (19 R605). -/
def auxCentre (s : State) (k : AuxConv) : Nat :=
  ((((auxCentreUp s k.rate : Nat) : Int) + (auxMarkAt s k).2.1 * 32768000) / (32768000 * 2 ^ 24)).toNat

/-- AUX_CONVERSION_DONE: the conversion in progress completes; v is floor(V_meas × 2^23 ÷ V_ref) before the clamp. -/
def execAuxConversionDone (v : Int) (s : State) : Out :=
  match s.aux.cur with
  | none => .next s
  | some k =>
    let code := satS 24 v
    let clamped := overS 24 v
    let uns := k.unsettled || (k.ref == 1 && getB s .auxStatus 0 0 2)
    let (t, s) := stampFrom 0x230 (auxCentre s k) (auxMarkAt s k).2.2 s
    let s := addOne s
    let s := withAux (fun x => { x with cur := none, last := some k.channel }) s
    let s := wr .auxResult 0 k.channel
      (BitVec.ofNat 32 (unsgn 24 code + 2 ^ 24 + 2 ^ 25 * b2n uns + 2 ^ 26 * b2n clamped)) s
    let e : AuxEntry := { stamp := t, code := code, flags := k.channel + 32 * b2n uns + 64 * b2n clamped,
                          ep := (epochOf s 0x230, planEpoch s) }
    let s := if getB s .auxCfg 0 0 0 then auxToSram e s else s
    let s := if getB s .auxCfg 0 0 1 then auxToStream e s else s
    let s := if getB s .auxWinCfg 0 k.channel 0 && !uns then auxCompare k.channel code t s else s
    let s := if ustate s 0x230 = .draining then auxClose true s else s
    .next (auxBoundary s)
where
  /-- conversions, wrapping -/
  addOne (s : State) : State := wr .auxCount 0 0 (rd s .auxCount 0 0 + 1) s

/-- CONVERT: one SINGLE conversion, or refused (19 R607). -/
def auxConvert (ag : AgentId) (s : State) : WRes :=
  if ustate s 0x230 = .running ∧ getF s .auxConv 0 0 0 2 = 1 ∧ s.aux.cur = none then
    (auxBegin (getF s .auxConv 0 0 2 5) s, 0)
  else (ignored ag (Reg.off .auxCmd 0 0) 1 (auxErr s), 99)

/-- A write of AUX_CMD. -/
def auxCmdEff (ag : AgentId) (v : BitVec 32) (s : State) : WRes :=
  let r := if bit v 0 then auxConvert ag s else (s, 0)
  let s := if bit v 1 then auxClose false r.1 else r.1
  (if bit v 2 then (List.range 4).foldl (fun s k => wr .auxCount 0 k 0 s) s else s, r.2)

/-- A command by an agent. -/
def auxCmdWrite (ag : AgentId) (v : BitVec 32) (s : State) : State :=
  guardW ag (Reg.off .auxCmd 0 0) v (auxCmdEff ag v) s

/-- AUX_CONVERT (19 R607). -/
def execAuxConvert (ag : AgentId) (s : State) : Out := .next (auxCmdWrite ag 1 s)

/-- AUX_BLOCK_FLUSH (19 R615). -/
def execAuxBlockFlush (ag : AgentId) (s : State) : Out := .next (auxCmdWrite ag 2 s)

/-- AUX_CLEAR_COUNTS (19 AUX_CMD). -/
def execAuxClearCounts (ag : AgentId) (s : State) : Out := .next (auxCmdWrite ag 4 s)

/-- FLUSH_US have passed since the block in formation got its first entry (19 R615). -/
def auxFlushDue (s : State) : Bool := decide (s.aux.blkAt + usTotal (max 1 (getF s .auxFlush 0 0 0 16)) ≤ upTotal s)

/-- AUX_BLOCK_TIMER: FLUSH_US after its first entry the block closes (19 R615). -/
def execAuxBlockTimer (s : State) : Out := if auxFlushDue s then .next (auxClose false s) else .next s

/-- REF_SETTLE_EXPIRY: the settling time has passed (19 R608, R609). -/
def execRefSettleExpiry (s : State) : Out :=
  match ustate s 0x230 with
  | .off | .gated => .next s
  | _ => if s.aux.ref = 1 ∧ getB s .auxStatus 0 0 2 then .next s else .next (setB .auxStatus 0 0 1 true s)

/-- REFX_RANGE_CHANGE: REFX leaves (out) or enters its range (19 R609). -/
def execRefxRangeChange (out : Bool) (s : State) : Out :=
  if ustate s 0x230 = .off ∨ getB s .auxStatus 0 0 2 = out then .next s
  else
    let s := raise 0x1002 0x230 [.u16 (b2n out)] (setB .auxStatus 0 0 2 out s)
    .next (if s.aux.ref = 1 then auxUnsettle s else s)

/-- A write of RD: it may not pass WR by more than the buffer (19 R614). -/
def auxRdEff (v : BitVec 32) (s : State) : WRes :=
  let r := fld v 0 16
  if 4096 < (getF s .auxBufIdx 0 0 16 16 + 65536 - r) % 65536 then (auxErr s, 5) else (setF .auxBufIdx 0 0 0 16 r s, 0)

/-- AUX_RD_WRITE (19 R614). -/
def execAuxRdWrite (ag : AgentId) (v : BitVec 32) (s : State) : Out :=
  .next (guardW ag (Reg.off .auxBufIdx 0 0) v (auxRdEff v) s)

/-! Running and stopping (19 R616, R617). -/

/-- The START check: what fails. -/
def auxCfgFail (s : State) : Option Nat :=
  if getF s .auxConv 0 0 8 4 = 15 then some (Config.auxField 0)
  else if getF s .auxConv 0 0 12 2 = 3 then some (Config.auxField 1)
  else if getB s .auxCfg 0 0 1 && !(s.plan.routes.any fun r => r.plan.port == 78 && r.plan.stream == 0) then
    some (Config.auxField 2)
  else none

/-- START (19 R616): buffer counts 0, VALID cleared, the first conversion. -/
def auxStart (s : State) : State :=
  match auxCfgFail s with
  | some k => enterFault 0x230 7 k (raise 0x1004 0x230 [.u16 k] s)
  | none =>
    let s := (List.range 32).foldl (fun s c => setB .auxResult 0 c 24 false s) (wr .auxBufIdx 0 0 0 s)
    auxBoundary (withAux (fun x =>
      { x with cur := none, last := none, lostSram := false, lostStream := false, blk := [], lostN := 0, first := true }) s)

/-- DRAIN and STOP: the conversion in progress completes first (19 R617). -/
def auxDrain (s : State) : State := if s.aux.cur.isSome then s else auxClose true s

/-- Nothing is in progress and every block is delivered. -/
def auxIdle (s : State) : Bool :=
  s.aux.cur.isNone && s.aux.blk.isEmpty && !(s.plan.offered.any fun i => i.src == 0x230)

/-- Something is in formation (01 R39). -/
def auxPartial (s : State) : Bool := s.aux.cur.isSome || !s.aux.blk.isEmpty

/-- The ABORT rule: the conversion and the block in formation are discarded. -/
def auxDiscard (s : State) : State := withAux (fun x => { x with cur := none, blk := [] }) s

/-- The converter leaves GATED: REF_SETTLED clears (19 R608). -/
def auxUngate (s : State) : State := auxTakeRef (setB .auxStatus 0 0 1 false s)

end Sys2Proof.Machine
end

