-- ==== Sys2Proof/Machine/Host.lean ====
section
/-! DEFINITION. Flumes: steering, admission, staging, buffers, completions, states (16_host_and_flumes.md). -/

namespace Sys2Proof.Machine

/-- The bytes a payload of words has. -/
def payBytes (p : List Word) : Nat := 4 * p.length

/-- The space a staged item occupies (16 R550). -/
def stagedSize (payload : List Word) : Nat := (64 + payBytes payload + 63) / 64 * 64

/-- The bytes a flume has staged. -/
def stagedBytes (x : Flume) : Nat := (x.staged.map fun r => stagedSize r.payload).sum

/-- The bytes in a flume's spill ring. -/
def spillBytes (x : Flume) : Nat := (x.spill.map fun r => stagedSize r.payload).sum

/-- The bytes of the staging pool: the host unit's SRAM granules of 512 KiB (16 R539, 01 R30). -/
def poolSize (s : State) : Nat :=
  0x80000 * (((s.plan.sram.find? fun e => e.1 == 0x200).map fun e => e.2.length).getD 0)

/-- The bytes of the pool in use by flumes 2 and up. -/
def poolUsed (s : State) : Nat := ((s.host.flumes.filter fun e => decide (2 ≤ e.1)).map fun e => stagedBytes e.2).sum

/-- A region of the running HBM map. -/
def regionOf (s : State) (id : Nat) : Option PlanRegion := s.plan.regions.find? fun r => r.id == id

/-- The bytes of a flume's spill ring: the whole region of HOST_FLUME_SPILL (16 R550); 0 without one. -/
def spillSize (s : State) (f : Nat) : Nat :=
  if getB s .hostFlumeSpill f 0 16 then ((regionOf s (getF s .hostFlumeSpill f 0 0 16)).map fun r => r.size).getD 0 else 0

/-- SPILLING and USED follow the flume (HOST_FLUME_STATUS). -/
def showFlume (f : Nat) (s : State) : State :=
  let x := flume s f
  setF .hostFlumeStatus f 0 8 8 ((stagedBytes x + 65535) / 65536) (setB .hostFlumeStatus f 0 3 (x.spill.length != 0) s)

/-- The type of offset-44 cover: bytes 32 to end for parcels, blocks and DSP items, else the whole payload (16 R547). -/
def coveredPayload (kind : Nat) (p : List Word) : List Word :=
  if kind = 0x10 ∨ kind = 0x11 ∨ kind = 0x12 ∨ kind = 0x60 then p.drop 8 else p

/-- The staged record of an item (16 R553). -/
def itemRec (i : Item) : StagedRec :=
  { kind := i.kind, unit := i.src, seq := 0, evSeq := i.evSeq, time := i.stamp, planEpoch := i.planEpoch, epoch := i.epoch,
    crc := i.crc, origin := i.origin, checkFailed := i.check, lostBefore := false, spilled := false, payload := i.payload }

/-- 0x0D02 at most once per flume per 1 ms (16 R549). -/
def dropReport (f n : Nat) (s : State) : State := raiseRated 0x0D02 0x200 [.u16 f] n s

/-- Admit an item at binding index b to flume f, spill it, drop it or hold it; behind an item that its consumer stream
holds it waits too (16 R548 to R551). -/
def admitItem (b f : Nat) (i : Item) (s : State) : State :=
  let x := flume s f
  let cfg := rd s .hostFlumeCfg f 0
  let size := stagedSize i.payload
  let quota := fld cfg 22 8 * 65536
  let pool := decide (poolUsed s + size ≤ poolSize s)
  let quotaOk := decide (stagedBytes x + size ≤ quota) || (decide (quota < size) && x.staged.length == 0)
  let spilling := x.spill.length != 0
  let spillRoom := decide (spillBytes x + size ≤ spillSize s f)
  let toSpill := (spilling || (!(pool && quotaOk) && getB s .hostFlumeSpill f 0 16)) && spillRoom
  let never := decide (poolSize s < size ∧ spillSize s f < size)
  if s.host.waiting.any fun w => w.1 == b then { s with host := { s.host with waiting := s.host.waiting ++ [(b, i)] } }
  else if toSpill then
    let (n, s) := takeSeq f s
    showFlume f (setFlume f { x with spill := x.spill ++ [{ itemRec i with seq := n, lostBefore := x.lostBefore, spilled := true }],
                                     lostBefore := false } s)
  else if !spilling && pool && quotaOk then showFlume f (stageRec f (itemRec i) s)
  else if fld cfg 4 2 = 1 ∧ !never then { s with host := { s.host with waiting := s.host.waiting ++ [(b, i)] } }
  else dropReport f 1 (dropRec f s)

/-- The flume an item at binding index b goes to (16 R548). -/
def steerTo (s : State) (b : Nat) (i : Item) : Option Nat :=
  let e := rd s .hostBind 0 b
  let f := fld e 0 12 + (if bit e 12 ∧ (i.kind = 0x12 ∨ i.kind = 0x50) then i.sel else 0)
  if !bit e 13 || decide (f < 2) || decide (4095 < f) || fstate s f != 1 then none else some f

/-- An item whole at binding index b (16 R548). -/
def steerItem (b : Nat) (i : Item) (s : State) : State :=
  match steerTo s b i with
  | some f => admitItem b f i s
  | none => raiseRated 0x0D06 0x200 [.u16 b] 1 (bump .hostCount 0 0 1 s)

/-- The bytes that wait in the input FIFO of binding index b (16 R546). -/
def fifoBytes (s : State) (b : Nat) : Nat := ((s.host.waiting.filter fun w => w.1 == b).map fun w => payBytes w.2.payload).sum

/-- The input FIFO of 16 KiB at binding index b takes an item whole; a larger item only when it is empty (16 R546). -/
def fifoTakes (s : State) (b : Nat) (i : Item) : Bool :=
  fifoBytes s b == 0 || decide (fifoBytes s b + payBytes i.payload ≤ 16384)

/-- HOST_ITEM: the next item on consumer stream k of host port h; one that its FIFO cannot take meets the route's loss mode
(16 R546, R548, R549). -/
def execHostItem (h k : Nat) (s : State) : Out :=
  match takeDelivered (74 + h) k s with
  | none => .next s
  | some (i, t) =>
    .next (if fifoTakes s (256 * h + k) i then steerItem (256 * h + k) i t else refuseItem (74 + h) k s t)

/-- Items held under BLOCK are admitted as room appears, in order; one whose flume is no longer OPEN is discarded
(16 R548, R549). -/
def retryWaiting (s : State) : State :=
  let w := s.host.waiting
  w.foldl (fun s e => steerItem e.1 e.2 s) { s with host := { s.host with waiting := [] } }

/-- Entries of a flume's rings (16 Rings and buffers). -/
def ringSize (s : State) (f : Nat) : Nat := 2 ^ (getF s .hostFlumeCfg f 0 7 4 + 4)

/-- A ring's base address. -/
def ringBase (s : State) (lo hi : Reg) (f : Nat) : Nat := (rd s lo f 0).toNat + 2 ^ 32 * (rd s hi f 0).toNat

/-- Signal the flume's vector (16 R561). -/
def flumeIrq (f : Nat) (s : State) : State :=
  let cfg := rd s .hostFlumeCfg f 0
  msixSignal (fld cfg 0 4) (fld cfg 11 11) (setFlume f { flume s f with unsignalled := 0 } s)

/-- The 32 bytes of completion n (16 R560). -/
def cplWords (f n ring : Nat) (c : FlumeCpl) : List Word :=
  [c.cookie, BitVec.ofNat 32 c.used, BitVec.ofNat 32 c.records, c.firstSeq, BitVec.ofNat 32 (satU 32 c.dropped),
   BitVec.ofNat 32 (f + c.flags * 2 ^ 16), 0, BitVec.ofNat 32 ((n / ring + 1) % 2 * 2 ^ 31)]

/-- Room in the completion ring (16 R560). -/
def cplRoom (s : State) (f : Nat) : Bool :=
  decide ((getF s .hostFlumeCplIdx f 0 16 16 + 65536 - getF s .hostFlumeCplIdx f 0 0 16) % 65536 < ringSize s f)

/-- Write one completion entry and count it towards the flume's signal (16 R560, R561). -/
def writeCpl (f : Nat) (c : FlumeCpl) (s : State) : State :=
  let n := getF s .hostFlumeCplIdx f 0 16 16
  let ring := ringSize s f
  let s := { s with host := { s.host with out := s.host.out ++
    [.cplWrite f (ringBase s .hostFlumeCplBaseLo .hostFlumeCplBaseHi f + n % ring * 32) (cplWords f n ring c)] } }
  let s := setF .hostFlumeCplIdx f 0 16 16 (n + 1) s
  let x := flume s f
  let u := x.unsignalled + 1
  let s := setFlume f { x with unsignalled := u } s
  let cnt := getF s .hostFlumeIrq f 0 0 8
  if cnt ≠ 0 ∧ (cnt ≤ u ∨ getF s .hostFlumeIrq f 0 8 8 = 0) then flumeIrq f s else s

/-- Write held completions, in order, while the ring has room. -/
def flushHeld (f : Nat) (s : State) : State :=
  (flume s f).held.foldl (fun s c =>
    if cplRoom s f then
      let x := flume s f
      writeCpl f c (setFlume f { x with held := x.held.drop 1 } s)
    else s) s

/-- Post a completion: written at once, or held behind earlier ones until the ring has room (16 R560). -/
def postCpl (f : Nat) (c : FlumeCpl) (s : State) : State :=
  let x := flume s f
  flushHeld f (setFlume f { x with held := x.held ++ [c] } s)

/-- Close the current buffer with extra flags (16 R559, R560): 1 CLOSED, 8 TIMED. -/
def closeBuf (f flags : Nat) (s : State) : State :=
  let x := flume s f
  match x.buf with
  | none => s
  | some b =>
    let dropped := if b.records = 0 then 0 else (x.lastSeq - x.lastDone).toNat - b.records
    let c : FlumeCpl :=
      { cookie := b.cookie, used := b.used, records := b.records, firstSeq := if b.records = 0 then 0 else b.firstSeq,
        dropped := dropped, flags := flags + 2 * b2n b.checkFailed }
    postCpl f c (setFlume f { x with buf := none, lastDone := if b.records = 0 then x.lastDone else x.lastSeq } s)

/-- Set FSTATE and CAUSE. -/
def setFstate (f st cause : Nat) (s : State) : State :=
  setF .hostFlumeStatus f 0 4 4 cause (setF .hostFlumeStatus f 0 0 2 st s)

/-- A CLOSING flume with every admitted record written completes its last buffer and closes (16 R562). -/
def closeIfDone (f : Nat) (s : State) : State :=
  let x := flume s f
  if fstate s f = 2 ∧ x.staged.length = 0 ∧ x.spill.length = 0 then
    let s := closeBuf f 1 s
    if (flume s f).held.length = 0 then
      raise 0x0D05 0x200 [.u16 f, .u32 (x.lastSeq).toNat] (setFstate f 0 0 s)
    else s
  else s

/-- OPEN or CLOSING to ERROR with a cause (16 R562); what waits for the flume is discarded (16 R548). -/
def flumeError (f cause : Nat) (s : State) : State :=
  if fstate s f = 1 ∨ fstate s f = 2 then
    retryWaiting (raise 0x0D04 0x200 [.u16 f, .u16 cause] (setFstate f 3 cause s))
  else s

/-- The header of a record (01 R61, 16 R553, R554) as 16 words. -/
def recordHeader (s : State) (f : Nat) (r : StagedRec) : List Word :=
  let b := leBytes 2 0x5541 ++ leBytes 1 r.kind ++ leBytes 1 1 ++ leBytes 4 (payBytes r.payload) ++ leBytes 2 f
    ++ leBytes 2 (s.boot.engineId * 1024 + r.unit % 1024) ++ leBytes 4 r.seq.toNat ++ leBytes 8 r.evSeq
    ++ wordsBytes (stampWords r.time) ++ leBytes 4 r.planEpoch.toNat ++ leBytes 4 r.epoch.toNat ++ leBytes 4 r.crc.toNat
    ++ leBytes 8 r.origin.toNat
    ++ leBytes 4 (b2n r.checkFailed + 2 * b2n r.lostBefore + 4 * b2n r.spilled)
  bytesWords b ++ [crc32c b]

/-- The oldest admitted record of a flume. -/
def headRec (x : Flume) : Option StagedRec :=
  match x.staged with
  | r :: _ => some r
  | [] => match x.spill with
    | r :: _ => some r
    | [] => none

/-- The flume without its oldest admitted record. -/
def dropHead (x : Flume) : Flume :=
  match x.staged with
  | _ :: rest => { x with staged := rest }
  | [] => { x with spill := x.spill.drop 1 }

/-- The flume with its oldest admitted record replaced. -/
def mapHead (g : StagedRec → StagedRec) (x : Flume) : Flume :=
  match x.staged with
  | r :: rest => { x with staged := g r :: rest }
  | [] => match x.spill with
    | r :: rest => { x with spill := g r :: rest }
    | [] => x

/-- The exit check of the oldest record, made whether or not it already carries CHECK_FAILED (01 R55, R57, R59; 16 R565): a
failure is read again; a second one is lasting. -/
def exitCheck (f : Nat) (good1 good2 : Bool) (s : State) : State :=
  match headRec (flume s f) with
  | none => s
  | some r =>
    let same := crcWords (coveredPayload r.kind r.payload) == r.crc
    if good1 && same then s
    else if good2 && same then raiseRated 0x0D09 0x200 [] 1 (faultTransient s)
    else
      let s := setFlume f (mapHead (fun r => { r with checkFailed := true }) (flume s f)) s
      let s := bump .hostCount 0 5 1 s
      let s := setB .globalFaultStatus 0 0 8 true s
      faultLasting 5 0x200 (BitVec.ofNat 8 (getF s .hostFlumeCfg f 0 0 4 + 1)) (f + r.seq.toNat * 2 ^ 32) r.origin [] s

/-- The oldest record goes into the current buffer (16 R558). -/
def placeRec (f : Nat) (r : StagedRec) (b : FlumeBuf) (s : State) : State :=
  let x := flume s f
  let s := { s with host := { s.host with out := s.host.out ++
    [.recordWrite f (b.addr + b.used) (recordHeader s f r) r.payload] } }
  let b' : FlumeBuf :=
    { b with used := b.used + stagedSize r.payload, records := b.records + 1,
             firstSeq := if b.records = 0 then r.seq else b.firstSeq, checkFailed := b.checkFailed || r.checkFailed }
  let s := setFlume f { dropHead x with buf := some b', lastSeq := r.seq, retry := false } s
  let s := bump .hostFlumeCount f 2 (b2n r.checkFailed) (wr .hostFlumeCount f 0 (rd s .hostFlumeCount f 0 + 1) s)
  retryWaiting (closeIfDone f (showFlume f s))

/-- Writes of the function can be issued: the data link is up and Bus Master Enable is set (16 R565). -/
def canIssue (s : State) (f : Nat) : Bool :=
  getB s .hostLink 0 0 0 && s.host.busMaster.contains (getF s .hostFlumeCfg f 0 0 4)

/-- The flume with LOST_BEFORE for the next record that it writes (16 R549, R554). -/
def markLost (x : Flume) : Flume :=
  if (headRec x).isSome then mapHead (fun r => { r with lostBefore := true }) x else { x with lostBefore := true }

/-- The oldest record is dropped after it was admitted: it counts, and takes no further number. -/
def dropAdmitted (f : Nat) (s : State) : State :=
  let x := { dropHead (flume s f) with retry := false }
  dropReport f 1 (showFlume f (bump .hostFlumeCount f 1 1 (setFlume f (markLost x) s)))

/-- RECORD_WRITE: the outcomes of the two exit checks and of the write itself are the hardware's (16 R558, R565). -/
def execRecordWrite (f : Nat) (good1 good2 wrote : Bool) (s : State) : Out :=
  if fstate s f = 1 ∨ fstate s f = 2 then
    match headRec (flume s f), (flume s f).buf with
    | some r, some b =>
      if (flume s f).retry then .next s
      else if b.length < b.used + 64 + payBytes r.payload then
        if b.records = 0 then .next (closeIfDone f (dropAdmitted f s)) else .next (closeBuf f 0 s)
      else
        let s := exitCheck f good1 good2 s
        match headRec (flume s f) with
        | none => .next s
        | some r =>
          if wrote && canIssue s f then .next (placeRec f r b s)
          else .next (setFlume f { flume s f with retry := true, failedAt := eventTime s } s)
    | _, _ => .next s
  else .next s

/-- HOST_WRITE_RETRY: 10 µs after a failed write (16 R565). -/
def execHostWriteRetry (f : Nat) (wrote : Bool) (s : State) : Out :=
  match headRec (flume s f), (flume s f).buf, (flume s f).retry && (fstate s f == 1 || fstate s f == 2) with
  | some r, some b, true =>
    if wrote && canIssue s f then
      .next (raiseRated 0x0D09 0x200 [] 1 (bump .hostCount 0 3 1 (faultTransient (placeRec f r b s))))
    else
      let ag := BitVec.ofNat 8 (getF s .hostFlumeCfg f 0 0 4 + 1)
      let first := (flume s f).failedAt
      let s := flumeError f 8 (bump .hostCount 0 4 1 (dropAdmitted f s))
      .next (faultLastingAt first 4 0x200 ag (f + r.seq.toNat * 2 ^ 32) r.origin [] s)
  | _, _, _ => .next s

/-- FREE_ENTRY_FETCHED: a free-ring entry's address, length and cookie (16 R557, R560). -/
def execFreeEntryFetched (f addr len : Nat) (cookie : BitVec 32) (s : State) : Out :=
  let x := flume s f
  let idx := rd s .hostFlumeFreeIdx f 0
  if (fstate s f = 1 ∨ fstate s f = 2) ∧ x.buf.isNone ∧ x.held.length = 0 ∧ fld idx 0 16 ≠ fld idx 16 16 then
    let s := setF .hostFlumeFreeIdx f 0 16 16 (fld idx 16 16 + 1) s
    if addr % 64 ≠ 0 ∨ len % 4096 ≠ 0 ∨ len < 4096 ∨ 67108864 < len then
      .next (postCpl f { cookie := cookie, used := 0, records := 0, firstSeq := 0, dropped := 0, flags := 4 }
        (bump .hostFlumeCount f 3 1 s))
    else
      let b : FlumeBuf :=
        { addr := addr, length := len, cookie := cookie, used := 0, records := 0, firstSeq := 0, checkFailed := false }
      .next (setFlume f { flume s f with buf := some b } s)
  else .next s

/-- BUFFER_FLUSH_TIMER: FLUSH_US after its first record the buffer closes (16 R559). -/
def execBufferFlushTimer (f : Nat) (s : State) : Out :=
  match (flume s f).buf with
  | some b => if b.records = 0 then .next s else .next (closeBuf f 8 s)
  | none => .next s

/-- IRQ_TIMER: IRQ_US after the first unsignalled completion (16 R561). -/
def execIrqTimer (f : Nat) (s : State) : Out :=
  let irq := rd s .hostFlumeIrq f 0
  .next (if (flume s f).unsignalled ≠ 0 ∧ fld irq 0 8 ≠ 0 ∧ fld irq 8 8 ≠ 0 then flumeIrq f s else s)

/-- CMD_ERR of HOST_FLUME_STATUS. -/
def flumeCmdErr (f : Nat) (s : State) : State := setB .hostFlumeStatus f 0 2 true s

/-- The agents that may write a flume's registers: 0x01, 0x20 and that of its function (16 R564). -/
def flumeAgent (s : State) (f : Nat) (ag : AgentId) : Bool :=
  ag == 0x01 || ag == 0x20 || ag == 0x58 || ag.toNat == getF s .hostFlumeCfg f 0 0 4 + 1

/-- A write of TAIL (16 R557). -/
def freeTailEff (ag : AgentId) (f : Nat) (v : BitVec 32) (s : State) : WRes :=
  if !flumeAgent s f ag then (s, 1)
  else
    let head := getF s .hostFlumeFreeIdx f 0 16 16
    if ringSize s f < (fld v 0 16 + 65536 - head) % 65536 then (flumeCmdErr f s, 5)
    else (setF .hostFlumeFreeIdx f 0 0 16 (fld v 0 16) s, 0)

/-- FREE_TAIL_WRITE (16 R557). -/
def execFreeTailWrite (ag : AgentId) (f tail : Nat) (s : State) : Out :=
  .next (guardW ag (Reg.off .hostFlumeFreeIdx f 0) (BitVec.ofNat 32 tail) (freeTailEff ag f (BitVec.ofNat 32 tail)) s)

/-- A write of the completion HEAD frees entries for held buffers (16 R560). -/
def cplHeadEff (ag : AgentId) (f : Nat) (v : BitVec 32) (s : State) : WRes :=
  if !flumeAgent s f ag then (s, 1)
  else (closeIfDone f (flushHeld f (setF .hostFlumeCplIdx f 0 0 16 (fld v 0 16) s)), 0)

/-- CPL_HEAD_WRITE (16 R560). -/
def execCplHeadWrite (ag : AgentId) (f head : Nat) (s : State) : Out :=
  .next (guardW ag (Reg.off .hostFlumeCplIdx f 0) (BitVec.ofNat 32 head) (cplHeadEff ag f (BitVec.ofNat 32 head)) s)

/-- A function is enabled: the physical function always, a virtual function when SR-IOV has enabled it. -/
def fnEnabled (s : State) (fn : Nat) : Bool := fn == 0 || s.host.vfEnabled.contains fn

/-- OPEN's checks in the order of 16 R562, with the cause of the first that fails. -/
def openCause (s : State) (f : Nat) : Option Nat :=
  let cfg := rd s .hostFlumeCfg f 0
  let fn := fld cfg 0 4
  let internal := decide (f < 2)
  let spill := getB s .hostFlumeSpill f 0 16
  let reg := regionOf s (getF s .hostFlumeSpill f 0 0 16)
  if fld (rd s .hostFlumeFreeBaseLo f 0) 0 6 ≠ 0 ∨ fld (rd s .hostFlumeCplBaseLo f 0) 0 6 ≠ 0 ∨ 11 < fld cfg 7 4 then some 1
  else if !(s.host.busMaster.contains fn && fnEnabled s fn) then some 2
  else if (fnVec s fn).2 ≤ fld cfg 11 11 then some 3
  else if fld cfg 22 8 = 0 then some 4
  else if !internal && spill && !(match reg with
      | some r => r.owner == 0x200 && (!bit cfg 6 || r.flags % 2 == 1)
      | none => false) then some 5
  else if !internal && decide (2 ≤ fld cfg 4 2) then some 6
  else if !getB s .hostLink 0 0 0 || decide (getF s .hostLink 0 0 4 5 < 4) then some 7
  else none

/-- OPEN (16 R562): all four indices and the record sequence become 0 (01 R50); flume 1 takes what the audit log has waiting (17 R589). -/
def flumeOpenEff (f : Nat) (s : State) : WRes :=
  if fstate s f ≠ 0 then (flumeCmdErr f s, 4)
  else match openCause s f with
    | some c =>
      (raise 0x0D03 0x200 [.u16 f, .u16 c] (setF .hostFlumeStatus f 0 4 4 c (flumeCmdErr f s)), 4)
    | none =>
      (setFstate f 1 0 (wr .hostFlumeSeq f 0 0 (wr .hostFlumeFreeIdx f 0 0 (wr .hostFlumeCplIdx f 0 0
        (setFlume f Flume.reset s)))) |> (if f = 1 then auditCatchUp else id), 0)

/-- CLOSE (16 R562). -/
def flumeCloseEff (f : Nat) (s : State) : WRes :=
  if fstate s f = 1 then (retryWaiting (closeIfDone f (setFstate f 2 0 s)), 0) else (flumeCmdErr f s, 4)

/-- RESET (16 R563), also by a function-level reset: staged and spilled records count as dropped. -/
def flumeReset (f : Nat) (s : State) : State :=
  let x := flume s f
  let n := x.staged.length + x.spill.length
  let s := bump .hostFlumeCount f 1 n s
  let s := setFlume f { x with staged := [], spill := [], retry := false } s
  let s := match x.buf with
    | some b => if b.records = 0 then s else closeBuf f 1 s
    | none => s
  let s := setFlume f { flume s f with buf := none } s
  retryWaiting (showFlume f (setFstate f 0 0 s))

/-- FLUSH closes the current buffer when it holds a record (16 R559). -/
def flumeFlushEff (f : Nat) (s : State) : WRes :=
  match (flume s f).buf with
  | some b => if b.records = 0 then (s, 0) else (closeBuf f 8 s, 0)
  | none => (s, 0)

/-- HOST_FLUME_CMD as a register write: FLUSH, then CMD. -/
def flumeCmdEff (ag : AgentId) (f : Nat) (v : BitVec 32) (s : State) : WRes :=
  if !flumeAgent s f ag then (s, 1)
  else
    let s := if bit v 2 then (flumeFlushEff f s).1 else s
    match fld v 0 2 with
    | 1 => flumeOpenEff f s
    | 2 => flumeCloseEff f s
    | 3 => (flumeReset f s, 0)
    | _ => (s, 0)

/-- A write of a value to HOST_FLUME_CMD. -/
def flumeCmdWrite (ag : AgentId) (f v : Nat) (s : State) : State :=
  guardW ag (Reg.off .hostFlumeCmd f 0) (BitVec.ofNat 32 v) (flumeCmdEff ag f (BitVec.ofNat 32 v)) s

/-- FLUME_OPEN (16 R562). -/
def execFlumeOpen (ag : AgentId) (f : Nat) (s : State) : Out := .next (flumeCmdWrite ag f 1 s)

/-- FLUME_CLOSE (16 R562). -/
def execFlumeClose (ag : AgentId) (f : Nat) (s : State) : Out := .next (flumeCmdWrite ag f 2 s)

/-- FLUME_RESET (16 R563). -/
def execFlumeReset (ag : AgentId) (f : Nat) (s : State) : Out := .next (flumeCmdWrite ag f 3 s)

/-- FLUME_FLUSH (16 R559). -/
def execFlumeFlush (ag : AgentId) (f : Nat) (s : State) : Out := .next (flumeCmdWrite ag f 4 s)

/-- CLOSE_TIMEOUT: 10 ms in CLOSING; staged records are dropped and counted (16 R562). -/
def execCloseTimeout (f : Nat) (s : State) : Out :=
  if fstate s f = 2 then
    let x := flume s f
    let n := x.staged.length + x.spill.length
    let s := bump .hostFlumeCount f 1 n (setFlume f { x with staged := [], spill := [], retry := false } s)
    .next (retryWaiting (setFstate f 0 9 (showFlume f (closeBuf f 1 s))))
  else .next s

/-- A write of HOST_FLUME_CFG or of a ring base: FUNCTION by 0x01 and 0x20 only, the rest also by the function's agent
and only while CLOSED (16 R564). -/
def flumeCfgEff (ag : AgentId) (r : Reg) (f : Nat) (v : BitVec 32) (s : State) : WRes :=
  let host := ag == 0x01 || ag == 0x20 || ag == 0x58
  if !flumeAgent s f ag then (s, 1)
  else if fstate s f ≠ 0 then (s, 4)
  else if r = .hostFlumeCfg ∧ !host ∧ fld v 0 4 ≠ getF s .hostFlumeCfg f 0 0 4 then (s, 1)
  else (wrMask r f 0 (BitVec.ofNat 32 r.info.rw) v s, 0)

/-- The flumes that are not CLOSED, or hold something. -/
def activeFlumes (s : State) : List Nat :=
  ((s.regs.filterMap fun e =>
      match regAt e.1 with
      | some (.hostFlumeStatus, f, _) => some f
      | _ => none) ++ s.host.flumes.map fun e => e.1).eraseDups

/-- HOST_LINK_CHANGE: up, rate code, width, FLIT mode, MPS code; open flumes fail below x4 (16 R541). With it come the
functions whose Bus Master Enable configuration software has set and the virtual functions it has enabled. -/
def execHostLinkChange (up : Bool) (rate width : Nat) (flit : Bool) (mps : Nat) (masters vfs : List Nat) (s : State) : Out :=
  let s := { s with host := { s.host with
    busMaster := masters, vfEnabled := s.host.vfEnabled ++ vfs.filter fun f => !s.host.vfEnabled.contains f } }
  let v := BitVec.ofNat 32 (b2n up + rate % 8 * 2 + width % 32 * 16 + b2n flit * 512 + mps % 8 * 1024)
  let old := rd s .hostLink 0 0
  let s := calWatch (wr .hostLink 0 0 v s)
  let s := if fld v 1 9 = fld old 1 9 then s
           else raise 0x0D01 0x200 [.u16 (fld v 1 3), .u16 (fld v 4 5), .u16 (fld v 9 1)] s
  if up && decide (width < 4) then
    .next ((activeFlumes s).foldl (fun s f => flumeError f 7 s) s)
  else .next s

/-- A flume whose HBM port raises panic (16 R551): high priority and more than 75 % of its quota used. -/
def flumePanic (s : State) (f : Nat) : Bool :=
  getB s .hostFlumeCfg f 0 6 && decide (3 * getF s .hostFlumeCfg f 0 22 8 * 65536 < 4 * stagedBytes (flume s f))

/-- Clear a function's MSI-X table (16 R545). -/
def clearMsix (fn : Nat) (s : State) : State :=
  { s with host := { s.host with msix := s.host.msix.filter fun e => decide (e.1 / 8192 ≠ fn),
                                 msixPending := s.host.msixPending.filter fun e => decide (e / 2048 ≠ fn) } }

/-- The flumes whose FUNCTION is fn. -/
def flumesOf (s : State) (fn : Nat) : List Nat :=
  (activeFlumes s).filter fun f => getF s .hostFlumeCfg f 0 0 4 == fn

/-- The host unit's part of a function-level reset of one function (16 R545). -/
def resetFunction (fn : Nat) (s : State) : State :=
  let s := (flumesOf s fn).foldl (fun s f => flumeReset f s) s
  let s := clearMsix fn (wr .hostWin 0 fn 0 s)
  raise 0x0D08 0x200 [.u16 fn] (bump .hostCount 0 6 1 s)

end Sys2Proof.Machine
end

