-- ==== Sys2Proof/Machine/DspCode.lean ====
section
/-! DEFINITION. The DSP core's instruction words: the operations, the decoder that a core applies to the P-memory word at
PC, and the encoder (13_dsp_instructions.md R458 to R478). -/

namespace Sys2Proof.Machine

/-- Data ALU operations in the order of their OP codes (13 R470). -/
inductive AluOp where
  | add | sub | adds | subs | and | or | xor | not | neg | abs | cmp | asl | asr | lsr | min | max | add2 | sub2 | add2h
  | sub2h | addi | cmpi | bfly | bflyh
  deriving DecidableEq, Repr

/-- Accumulator operations (13 R471). -/
inductive AccOp where
  | clr | adda | suba | tfra | nega | absa | asla | asra | addd | subd | sata | cmpa | mpyi | maci
  deriving DecidableEq, Repr

/-- Fractional MAC operations (13 R472). -/
inductive FracOp where
  | mac | msu | mpy | move
  deriving DecidableEq, Repr

/-- Quad MAC operations (13 R473). -/
inductive QuadOp where
  | qmac | qmsu | qmpy
  deriving DecidableEq, Repr

/-- Complex MAC operations (13 R474). -/
inductive CplxOp where
  | cmac | cmsu | cmpy | cmacj | cmpyj
  deriving DecidableEq, Repr

/-- An instruction of a core. -/
inductive DspOp where
  | nop | halt | ret | reti | leave | wait
  | tflg (f op : Nat)
  | bri (cc p : Nat)
  | br (cc target : Nat)
  | call (cc target : Nat)
  /-- reg: the count is Dn; else it is n -/
  | loop (reg : Bool) (n len : Nat)
  | rept (reg : Bool) (n : Nat)
  | ldi (file : Nat) (h : Bool) (r imm : Nat)
  | alu (o : AluOp) (d s t imm e : Nat)
  | acc (o : AccOp) (k j s t sh : Nat)
  | frac (o : FracOp) (k s t : Nat) (x y : Option PMove)
  | quad (o : QuadOp) (q s t u : Nat) (space : Nat) (mv : Option PMove)
  | cplx (o : CplxOp) (q s t : Nat) (x y : Option PMove)
  | tap (dir sub : Bool) (k pc cm pr rm pw wm : Nat)
  | ld (space r p mode imm : Nat)
  | st (space r p mode imm : Nat)
  | mov (dst src : Nat)
  | wrs (sys d : Nat)
  | rds (d sys : Nat)
  | pack (d q : Nat)
  | mov16 (d k : Nat)
  | strIn (dst : StrArg) (n : Nat)
  | strOut (src : StrArg) (n : Nat)
  | close (n : Nat)
  | skipi (n : Nat)
  deriving DecidableEq, Repr

/-- The w bits of a word from lo up, as a number. -/
def fldN (x lo w : Nat) : Nat := x / 2 ^ lo % 2 ^ w

/-- The data ALU operations by OP code. -/
def aluOps : List AluOp :=
  [.add, .sub, .adds, .subs, .and, .or, .xor, .not, .neg, .abs, .cmp, .asl, .asr, .lsr, .min, .max, .add2, .sub2, .add2h,
   .sub2h, .addi, .cmpi, .bfly, .bflyh]

/-- OP code of a data ALU operation. -/
def AluOp.code : AluOp → Nat
  | .add => 0 | .sub => 1 | .adds => 2 | .subs => 3 | .and => 4 | .or => 5 | .xor => 6 | .not => 7 | .neg => 8 | .abs => 9
  | .cmp => 10 | .asl => 11 | .asr => 12 | .lsr => 13 | .min => 14 | .max => 15 | .add2 => 16 | .sub2 => 17 | .add2h => 18
  | .sub2h => 19 | .addi => 20 | .cmpi => 21 | .bfly => 22 | .bflyh => 23

/-- Which of d, s, t, imm9, e an operation uses; a field it does not use is zero (13 R470). A shift uses imm9[4:0]. -/
def AluOp.uses : AluOp → Bool × Bool × Bool × Nat × Bool
  | .not | .neg | .abs => (true, true, false, 0, false)
  | .cmp => (false, true, true, 0, false)
  | .asl | .asr | .lsr => (true, true, false, 5, false)
  | .addi => (true, true, false, 9, false)
  | .cmpi => (false, true, false, 9, false)
  | .bfly | .bflyh => (true, true, true, 0, true)
  | _ => (true, true, true, 0, false)

/-- The accumulator operations by OP code. -/
def accOps : List AccOp :=
  [.clr, .adda, .suba, .tfra, .nega, .absa, .asla, .asra, .addd, .subd, .sata, .cmpa, .mpyi, .maci]

/-- OP code of an accumulator operation. -/
def AccOp.code : AccOp → Nat
  | .clr => 0 | .adda => 1 | .suba => 2 | .tfra => 3 | .nega => 4 | .absa => 5 | .asla => 6 | .asra => 7 | .addd => 8
  | .subd => 9 | .sata => 10 | .cmpa => 11 | .mpyi => 12 | .maci => 13

/-- OP code of a fractional MAC operation. -/
def FracOp.code : FracOp → Nat
  | .mac => 0 | .msu => 1 | .mpy => 2 | .move => 3

/-- OP code of a quad MAC operation. -/
def QuadOp.code : QuadOp → Nat
  | .qmac => 0 | .qmsu => 1 | .qmpy => 2

/-- OP code of a complex MAC operation. -/
def CplxOp.code : CplxOp → Nat
  | .cmac => 0 | .cmsu => 1 | .cmpy => 2 | .cmacj => 3 | .cmpyj => 4

/-! Decoding. -/

/-- A parallel move field (13 R462); none where EN is 0 and bits [7:0] are not zero. -/
def decMove (x : Nat) : Option (Option PMove) :=
  if fldN x 8 1 = 1 then some (some { st := fldN x 7 1 == 1, d := fldN x 4 3, pi := fldN x 2 2, mode := fldN x 0 2 })
  else if fldN x 0 8 = 0 then some none else none

/-- Answer op where the check holds: else the encoding is reserved (13 R459). -/
def decIf (good : Bool) (op : DspOp) : Option DspOp := if good then some op else none

/-- Class 0x0 (13 R464). -/
def decControl (x : Nat) : Option DspOp :=
  let z := fldN x 0 24 == 0
  match fldN x 24 4 with
  | 0 => decIf z .nop
  | 1 => decIf z .halt
  | 2 => decIf z .ret
  | 3 => decIf z .reti
  | 4 => decIf z .leave
  | 5 => decIf z .wait
  | 6 => decIf (fldN x 3 21 == 0 && fldN x 0 2 != 3) (.tflg (fldN x 2 1) (fldN x 0 2))
  | 7 => decIf (fldN x 8 16 == 0 && fldN x 3 1 == 0) (.bri (fldN x 4 4) (fldN x 0 3))
  | _ => none

/-- Class 0x1 (13 R466). -/
def decBranch (x : Nat) : Option DspOp :=
  decIf (fldN x 15 8 == 0)
    (if fldN x 27 1 = 0 then .br (fldN x 23 4) (fldN x 0 15) else .call (fldN x 23 4) (fldN x 0 15))

/-- Class 0x2 (13 R467). -/
def decLoop (x : Nat) : Option DspOp :=
  match fldN x 26 2 with
  | 0 => some (.loop false (fldN x 10 16) (fldN x 0 10 + 1))
  | 1 => decIf (fldN x 10 13 == 0) (.loop true (fldN x 23 3) (fldN x 0 10 + 1))
  | 2 => decIf (fldN x 0 10 == 0) (.rept false (fldN x 10 16))
  | _ => decIf (fldN x 0 23 == 0) (.rept true (fldN x 23 3))

/-- Class 0x3 (13 R469). -/
def decLdi (x : Nat) : Option DspOp :=
  let h := fldN x 25 1 == 1
  decIf (fldN x 16 6 == 0 && (fldN x 26 2 == 0 || !h)) (.ldi (fldN x 26 2) h (fldN x 22 3) (fldN x 0 16))

/-- The fields of a data ALU word are zero where the operation does not use them; BFLY's two destinations differ. -/
def aluFieldsOk (o : AluOp) (d s t imm e : Nat) : Bool :=
  let u := o.uses
  (u.1 || d == 0) && (u.2.1 || s == 0) && (u.2.2.1 || t == 0) && decide (imm < 2 ^ u.2.2.2.1) && (u.2.2.2.2 || e == 0)
    && (!u.2.2.2.2 || d != e)

/-- Class 0x4 (13 R470). -/
def decAlu (x : Nat) : Option DspOp :=
  match aluOps[fldN x 23 5]? with
  | none => none
  | some o =>
    decIf (fldN x 0 2 == 0 && aluFieldsOk o (fldN x 20 3) (fldN x 17 3) (fldN x 14 3) (fldN x 5 9) (fldN x 2 3))
      (.alu o (fldN x 20 3) (fldN x 17 3) (fldN x 14 3) (fldN x 5 9) (fldN x 2 3))

/-- Class 0x5 (13 R471). -/
def decAcc (x : Nat) : Option DspOp :=
  match accOps[fldN x 24 4]? with
  | none => none
  | some o => decIf (fldN x 0 8 == 0) (.acc o (fldN x 22 2) (fldN x 20 2) (fldN x 17 3) (fldN x 14 3) (fldN x 8 6))

/-- Class 0x6 (13 R472). -/
def decFrac (x : Nat) : Option DspOp :=
  match decMove (fldN x 9 9), decMove (fldN x 0 9) with
  | some mx, some my =>
    let k := fldN x 24 2
    let s := fldN x 21 3
    let t := fldN x 18 3
    match fldN x 26 2 with
    | 0 => some (.frac .mac k s t mx my)
    | 1 => some (.frac .msu k s t mx my)
    | 2 => some (.frac .mpy k s t mx my)
    | _ => decIf (k == 0 && s == 0 && t == 0) (.frac .move k s t mx my)
  | _, _ => none

/-- Class 0x7 (13 R473). -/
def decQuad (x : Nat) : Option DspOp :=
  match decMove (fldN x 0 9) with
  | none => none
  | some mv =>
    if fldN x 10 6 = 0 then
      let f := fun o => DspOp.quad o (fldN x 25 1) (fldN x 22 3) (fldN x 19 3) (fldN x 16 3) (fldN x 9 1) mv
      match fldN x 26 2 with
      | 0 => some (f .qmac)
      | 1 => some (f .qmsu)
      | 2 => some (f .qmpy)
      | _ => none
    else none

/-- Class 0x8 (13 R474). -/
def decCplx (x : Nat) : Option DspOp :=
  match decMove (fldN x 9 9), decMove (fldN x 0 9) with
  | some mx, some my =>
    let f := fun o => DspOp.cplx o (fldN x 24 1) (fldN x 21 3) (fldN x 18 3) mx my
    match fldN x 25 3 with
    | 0 => some (f .cmac)
    | 1 => some (f .cmsu)
    | 2 => some (f .cmpy)
    | 3 => some (f .cmacj)
    | 4 => some (f .cmpyj)
    | _ => none
  | _, _ => none

/-- Class 0x9 (13 R475): its three pointers differ. -/
def decTap (x : Nat) : Option DspOp :=
  let pc := fldN x 21 3
  let pr := fldN x 16 3
  let pw := fldN x 11 3
  decIf (fldN x 0 9 == 0 && pc != pr && pc != pw && pr != pw)
    (.tap (fldN x 27 1 == 1) (fldN x 26 1 == 1) (fldN x 24 2) pc (fldN x 19 2) pr (fldN x 14 2) pw (fldN x 9 2))

/-- Class 0xA (13 R476). -/
def decLoad (x : Nat) : Option DspOp :=
  let sp := fldN x 25 2
  let r := fldN x 19 6
  let md := fldN x 14 2
  let im := fldN x 5 9
  let good := sp != 3 && decide (r < 48) && (md == 3 || im == 0) && fldN x 0 5 == 0
  if fldN x 27 1 = 0 then decIf good (.ld sp r (fldN x 16 3) md im)
  else decIf (good && sp != 2) (.st sp r (fldN x 16 3) md im)

/-- Class 0xB (13 R477). -/
def decMov (x : Nat) : Option DspOp :=
  match fldN x 24 4 with
  | 0 => decIf (fldN x 0 12 == 0 && decide (fldN x 18 6 < 48) && decide (fldN x 12 6 < 48)) (.mov (fldN x 18 6) (fldN x 12 6))
  | 1 => decIf (fldN x 23 1 == 0 && fldN x 3 13 == 0) (.wrs (fldN x 16 7) (fldN x 0 3))
  | 2 => decIf (fldN x 23 1 == 0 && fldN x 3 13 == 0) (.rds (fldN x 0 3) (fldN x 16 7))
  | 3 => decIf (fldN x 4 20 == 0) (.pack (fldN x 0 3) (fldN x 3 1))
  | 4 => decIf (fldN x 5 19 == 0) (.mov16 (fldN x 0 3) (fldN x 3 2))
  | _ => none

/-- Class 0xC (13 R478). -/
def decStream (x : Nat) : Option DspOp :=
  let n := fldN x 3 1
  let mem := StrArg.mem (fldN x 9 2) (fldN x 6 3) (fldN x 4 2)
  let memOk := fldN x 11 13 == 0 && fldN x 0 3 == 0 && decide (fldN x 9 2 < 2)
  let onlyN := fldN x 4 20 == 0 && fldN x 0 3 == 0
  match fldN x 24 4 with
  | 0 => decIf (fldN x 4 20 == 0) (.strIn (.reg (fldN x 0 3)) n)
  | 1 => decIf (fldN x 4 20 == 0) (.strOut (.reg (fldN x 0 3)) n)
  | 2 => decIf memOk (.strIn mem n)
  | 3 => decIf memOk (.strOut mem n)
  | 4 => decIf onlyN (.close n)
  | 5 => decIf onlyN (.skipi n)
  | _ => none

/-- The instruction a word encodes; none where the encoding is reserved (13 R458, R459). -/
def dspDecodeN (x : Nat) : Option DspOp :=
  match fldN x 28 4 with
  | 0 => decControl x
  | 1 => decBranch x
  | 2 => decLoop x
  | 3 => decLdi x
  | 4 => decAlu x
  | 5 => decAcc x
  | 6 => decFrac x
  | 7 => decQuad x
  | 8 => decCplx x
  | 9 => decTap x
  | 10 => decLoad x
  | 11 => decMov x
  | 12 => decStream x
  | _ => none

/-- The instruction a P-memory word encodes. -/
def dspDecode (w : Word) : Option DspOp := dspDecodeN w.toNat

/-! Encoding. -/

/-- Numbers packed as bit fields, the first lowest: each with its width. -/
def packBits : List (Nat × Nat) → Nat
  | [] => 0
  | (w, v) :: r => v + 2 ^ w * packBits r

/-- A parallel move as its nine bits. -/
def encMove : Option PMove → Nat
  | none => 0
  | some v => packBits [(2, v.mode), (2, v.pi), (3, v.d), (1, b2n v.st), (1, 1)]

/-- The word of an instruction (13 R464 to R478). -/
def dspEncodeN : DspOp → Nat
  | .nop => 0
  | .halt => packBits [(24, 0), (4, 1)]
  | .ret => packBits [(24, 0), (4, 2)]
  | .reti => packBits [(24, 0), (4, 3)]
  | .leave => packBits [(24, 0), (4, 4)]
  | .wait => packBits [(24, 0), (4, 5)]
  | .tflg f op => packBits [(2, op), (1, f), (21, 0), (4, 6)]
  | .bri cc p => packBits [(3, p), (1, 0), (4, cc), (16, 0), (4, 7)]
  | .br cc t => packBits [(15, t), (8, 0), (4, cc), (1, 0), (4, 1)]
  | .call cc t => packBits [(15, t), (8, 0), (4, cc), (1, 1), (4, 1)]
  | .loop false n len => packBits [(10, len - 1), (16, n), (2, 0), (4, 2)]
  | .loop true n len => packBits [(10, len - 1), (13, 0), (3, n), (2, 1), (4, 2)]
  | .rept false n => packBits [(10, 0), (16, n), (2, 2), (4, 2)]
  | .rept true n => packBits [(23, 0), (3, n), (2, 3), (4, 2)]
  | .ldi file h r imm => packBits [(16, imm), (6, 0), (3, r), (1, b2n h), (2, file), (4, 3)]
  | .alu o d s t imm e => packBits [(2, 0), (3, e), (9, imm), (3, t), (3, s), (3, d), (5, o.code), (4, 4)]
  | .acc o k j s t sh => packBits [(8, 0), (6, sh), (3, t), (3, s), (2, j), (2, k), (4, o.code), (4, 5)]
  | .frac o k s t x y => packBits [(9, encMove y), (9, encMove x), (3, t), (3, s), (2, k), (2, o.code), (4, 6)]
  | .quad o q s t u sp mv => packBits [(9, encMove mv), (1, sp), (6, 0), (3, u), (3, t), (3, s), (1, q), (2, o.code), (4, 7)]
  | .cplx o q s t x y => packBits [(9, encMove y), (9, encMove x), (3, t), (3, s), (1, q), (3, o.code), (4, 8)]
  | .tap dir sub k pc cm pr rm pw wm =>
    packBits [(9, 0), (2, wm), (3, pw), (2, rm), (3, pr), (2, cm), (3, pc), (2, k), (1, b2n sub), (1, b2n dir), (4, 9)]
  | .ld sp r p md im => packBits [(5, 0), (9, im), (2, md), (3, p), (6, r), (2, sp), (1, 0), (4, 10)]
  | .st sp r p md im => packBits [(5, 0), (9, im), (2, md), (3, p), (6, r), (2, sp), (1, 1), (4, 10)]
  | .mov dst src => packBits [(12, 0), (6, src), (6, dst), (4, 0), (4, 11)]
  | .wrs sys d => packBits [(3, d), (13, 0), (7, sys), (1, 0), (4, 1), (4, 11)]
  | .rds d sys => packBits [(3, d), (13, 0), (7, sys), (1, 0), (4, 2), (4, 11)]
  | .pack d q => packBits [(3, d), (1, q), (20, 0), (4, 3), (4, 11)]
  | .mov16 d k => packBits [(3, d), (2, k), (19, 0), (4, 4), (4, 11)]
  | .strIn (.reg d) n => packBits [(3, d), (1, n), (20, 0), (4, 0), (4, 12)]
  | .strIn (.mem sp p md) n => packBits [(3, 0), (1, n), (2, md), (3, p), (2, sp), (13, 0), (4, 2), (4, 12)]
  | .strOut (.reg d) n => packBits [(3, d), (1, n), (20, 0), (4, 1), (4, 12)]
  | .strOut (.mem sp p md) n => packBits [(3, 0), (1, n), (2, md), (3, p), (2, sp), (13, 0), (4, 3), (4, 12)]
  | .close n => packBits [(3, 0), (1, n), (20, 0), (4, 4), (4, 12)]
  | .skipi n => packBits [(3, 0), (1, n), (20, 0), (4, 5), (4, 12)]

/-- The word of an instruction. -/
def dspEncode (op : DspOp) : Word := BitVec.ofNat 32 (dspEncodeN op)

/-- The fields of a parallel move fit. -/
def moveFits : Option PMove → Bool
  | none => true
  | some v => decide (v.d < 8 ∧ v.pi < 4 ∧ v.mode < 4)

/-- The operands fit their fields and the encoding is not reserved (13 R459 to R478). -/
def DspOp.fits : DspOp → Bool
  | .nop | .halt | .ret | .reti | .leave | .wait => true
  | .tflg f op => decide (f < 2 ∧ op < 3)
  | .bri cc p => decide (cc < 16 ∧ p < 8)
  | .br cc t | .call cc t => decide (cc < 16 ∧ t < 2 ^ 15)
  | .loop reg n len => decide (n < (if reg then 8 else 2 ^ 16) ∧ 1 ≤ len ∧ len ≤ 1024)
  | .rept reg n => decide (n < (if reg then 8 else 2 ^ 16))
  | .ldi file h r imm => decide (file < 4 ∧ r < 8 ∧ imm < 2 ^ 16) && (file == 0 || !h)
  | .alu o d s t imm e => decide (d < 8 ∧ s < 8 ∧ t < 8 ∧ e < 8) && aluFieldsOk o d s t imm e
  | .acc _ k j s t sh => decide (k < 4 ∧ j < 4 ∧ s < 8 ∧ t < 8 ∧ sh < 64)
  | .frac o k s t x y =>
    decide (k < 4 ∧ s < 8 ∧ t < 8) && moveFits x && moveFits y && (o != .move || (k == 0 && s == 0 && t == 0))
  | .quad _ q s t u sp mv => decide (q < 2 ∧ s < 8 ∧ t < 8 ∧ u < 8 ∧ sp < 2) && moveFits mv
  | .cplx _ q s t x y => decide (q < 2 ∧ s < 8 ∧ t < 8) && moveFits x && moveFits y
  | .tap _ _ k pc cm pr rm pw wm =>
    decide (k < 4 ∧ pc < 8 ∧ cm < 4 ∧ pr < 8 ∧ rm < 4 ∧ pw < 8 ∧ wm < 4) && pc != pr && pc != pw && pr != pw
  | .ld sp r p md im => decide (sp < 3 ∧ r < 48 ∧ p < 8 ∧ md < 4 ∧ im < 2 ^ 9) && (md == 3 || im == 0)
  | .st sp r p md im => decide (sp < 2 ∧ r < 48 ∧ p < 8 ∧ md < 4 ∧ im < 2 ^ 9) && (md == 3 || im == 0)
  | .mov dst src => decide (dst < 48 ∧ src < 48)
  | .wrs sys d | .rds d sys => decide (sys < 128 ∧ d < 8)
  | .pack d q => decide (d < 8 ∧ q < 2)
  | .mov16 d k => decide (d < 8 ∧ k < 4)
  | .strIn (.reg d) n | .strOut (.reg d) n => decide (d < 8 ∧ n < 2)
  | .strIn (.mem sp p md) n | .strOut (.mem sp p md) n => decide (sp < 2 ∧ p < 8 ∧ md < 4 ∧ n < 2)
  | .close n | .skipi n => decide (n < 2)

end Sys2Proof.Machine
end

