-- ==== Sys2Proof/Machine/DspAlu.lean ====
section
/-! DEFINITION. The DSP core's arithmetic on its own registers: address generation, moves out of accumulators, flags
(12 R430 to R433; 13 R460 to R474). -/

namespace Sys2Proof.Machine

/-! STAT (12 STAT). -/

/-- Bit i of STAT. -/
def statB (x : Dsp) (i : Nat) : Bool := bit x.stat i

/-- Set bit i of STAT. -/
def setStat (i : Nat) (b : Bool) (x : Dsp) : Dsp := { x with stat := setFld x.stat i 1 (b2n b) }

/-- Set a sticky bit of STAT where the condition holds: 5 SAT, 6 AV. -/
def stick (i : Nat) (b : Bool) (x : Dsp) : Dsp := if b then setStat i true x else x

/-- IPL. -/
def Dsp.ipl (x : Dsp) : Nat := fld x.stat 10 2

/-- SCALE: 3, -3 and -4 count as 0. -/
def Dsp.scale (x : Dsp) : Int :=
  let v := sgn 3 (fld x.stat 7 3)
  if v = 3 ∨ v = -3 ∨ v = -4 then 0 else v

/-- C and V of a data ALU operation, Z and N of its result. -/
def setFlags (c v : Bool) (r : Word) (x : Dsp) : Dsp :=
  setStat 3 (bit r 31) (setStat 2 (r == 0) (setStat 1 v (setStat 0 c x)))

/-- Z and N of a lane operation. -/
def setZN (r : Word) (x : Dsp) : Dsp := setStat 3 (bit r 31) (setStat 2 (r == 0) x)

/-! Registers. -/

/-- Dn as a word, as a signed integer. -/
def Dsp.dw (x : Dsp) (n : Nat) : Word := vget x.d n 0
def Dsp.ds (x : Dsp) (n : Nat) : Int := sgn 32 (x.dw n).toNat

/-- Write Dn. -/
def setD (n : Nat) (v : Word) (x : Dsp) : Dsp := { x with d := vset x.d n v }

/-- Ak as bits, as a signed 72-bit integer. -/
def Dsp.aw (x : Dsp) (k : Nat) : BitVec 72 := vget x.a k 0
def Dsp.av (x : Dsp) (k : Nat) : Int := sgn 72 (x.aw k).toNat

/-- Write Ak as bits. -/
def setA (k : Nat) (v : BitVec 72) (x : Dsp) : Dsp := { x with a := vset x.a k v }

/-- Pn, Ln as numbers, Mn as a signed integer. -/
def Dsp.pn (x : Dsp) (n : Nat) : Nat := (vget x.p n 0).toNat
def Dsp.ln (x : Dsp) (n : Nat) : Nat := (vget x.l n 0).toNat
def Dsp.mn (x : Dsp) (n : Nat) : Int := sgn 16 (vget x.m n 0).toNat

/-- Write Pn. -/
def setP (n v : Nat) (x : Dsp) : Dsp := { x with p := vset x.p n (BitVec.ofNat 16 v) }

/-! Accumulator arithmetic (12 R431, 13 Arithmetic). -/

/-- v wrapped to 72 bits. -/
def wrap72 (v : Int) : Int := (v + 2 ^ 71) % 2 ^ 72 - 2 ^ 71

/-- acc(k, v): the wrapped value; AV on a wrap. -/
def accWrite (k : Nat) (v : Int) (x : Dsp) : Dsp :=
  setA k (BitVec.ofNat 72 (unsgn 72 (wrap72 v))) (stick 6 (wrap72 v != v) x)

/-- Z, N and G of an accumulator value. -/
def accFlags (v : Int) (x : Dsp) : Dsp :=
  setStat 4 (overS 64 v) (setStat 3 (decide (v < 0)) (setStat 2 (v == 0) x))

/-- acc(k, v) with its flags. -/
def accResult (k : Nat) (v : Int) (x : Dsp) : Dsp := accFlags (wrap72 v) (accWrite k v x)

/-- The accumulator under SCALE (12 R432). -/
def scaled (x : Dsp) (k : Nat) : Int :=
  let sc := x.scale
  if 0 ≤ sc then x.av k * (2 ^ sc.toNat : Nat) else asr (x.av k) (-sc).toNat

/-- The 32-bit move out of Ak: value and whether it clamped (12 R432). -/
def move32 (x : Dsp) (k : Nat) : Word × Bool :=
  let r := asr (scaled x k) 32
  (BitVec.ofNat 32 (unsgn 32 (satS 32 r)), overS 32 r)

/-- The 16-bit move out of Ak: value and whether it clamped (12 R432). -/
def move16 (x : Dsp) (k : Nat) : Int × Bool :=
  let r := asr (scaled x k) 48
  (satS 16 r, overS 16 r)

/-! Address generation (12 R433). -/

/-- The low k bits of x in reverse order. -/
def revBits : Nat → Nat → Nat
  | 0, _ => 0
  | k + 1, x => x % 2 * 2 ^ k + revBits k (x / 2)

/-- ceil(log2 l) for l from 1 to 65,535. -/
def ceilLog (l : Nat) : Nat := ((List.range 17).find? fun k => decide (l ≤ 2 ^ k)).getD 16

/-- The next value of a pointer. -/
def agUpdate (p : Nat) (m : Int) (l mode : Nat) : Nat :=
  if mode = 0 ∨ mode = 3 ∨ l = 0 then unsgn 16 ((p : Int) + m)
  else
    let k := ceilLog l
    let b := p - p % 2 ^ k
    if mode = 1 then b + (((p - b : Nat) + m) % (l : Int)).toNat
    else b + revBits k ((revBits k (p - b) + revBits k (unsgn k m)) % 2 ^ k)

/-- The modifier of a post-modify code with the one it gives for code 3 (13 R461); none where Pn does not change. -/
def modOf (x : Dsp) (n code : Nat) (three : Int) : Option Int :=
  if code = 0 then none else if code = 1 then some 1 else if code = 2 then some (x.mn n) else some three

/-- Pn after a post-modify; pm: the address is a P-memory address. -/
def postMod (n code : Nat) (three : Int) (pm : Bool) (x : Dsp) : Dsp :=
  match modOf x n code three with
  | none => x
  | some m =>
    let v := agUpdate (x.pn n) m (x.ln n) (fld x.amr (2 * n) 2)
    setP n (if pm then v % 2 ^ 15 else v) x

/-! The register index map (13 R460). -/

/-- A register read as 32 bits, and whether the scaled move clamped. -/
def regRead (x : Dsp) (r : Nat) : Word × Bool :=
  let n := r % 8
  let k := r % 4
  if r < 8 then (x.dw n, false)
  else if r < 16 then (BitVec.ofNat 32 (x.pn n), false)
  else if r < 24 then (BitVec.ofNat 32 (unsgn 32 (x.mn n)), false)
  else if r < 32 then (BitVec.ofNat 32 (x.ln n), false)
  else if r < 36 then ((x.aw k).truncate 32, false)
  else if r < 40 then (((x.aw k) >>> 32).truncate 32, false)
  else if r < 44 then (BitVec.ofNat 32 (unsgn 32 (sgn 8 ((x.aw k).toNat / 2 ^ 64))), false)
  else if r < 48 then move32 x k
  else (0, false)

/-- A register written from a 32-bit value. -/
def regWriteD (r : Nat) (v : Word) (x : Dsp) : Dsp :=
  let n := r % 8
  let k := r % 4
  let a := (x.aw k).toNat
  if r < 8 then setD n v x
  else if r < 16 then setP n v.toNat x
  else if r < 24 then { x with m := vset x.m n (v.truncate 16) }
  else if r < 32 then { x with l := vset x.l n (v.truncate 16) }
  else if r < 36 then setA k (BitVec.ofNat 72 (a / 2 ^ 32 * 2 ^ 32 + v.toNat)) x
  else if r < 40 then setA k (BitVec.ofNat 72 (a / 2 ^ 64 * 2 ^ 64 + v.toNat * 2 ^ 32 + a % 2 ^ 32)) x
  else if r < 44 then setA k (BitVec.ofNat 72 (v.toNat % 256 * 2 ^ 64 + a % 2 ^ 64)) x
  else if r < 48 then setA k (BitVec.ofNat 72 (unsgn 72 (sgn 32 v.toNat * 2 ^ 32))) x
  else x

/-! The data ALU (13 R470, flags R463). -/

/-- The signed lanes of a word: lo and hi. -/
def laneLo (w : Word) : Int := sgn 16 (fld w 0 16)
def laneHi (w : Word) : Int := sgn 16 (fld w 16 16)

/-- A word of two lanes. -/
def lanes (lo hi : Int) : Word := BitVec.ofNat 32 (unsgn 16 lo + unsgn 16 hi * 2 ^ 16)

/-- The result of an addition or subtraction: word, carry, overflow. -/
def addSub (sub : Bool) (s t : Word) : Word × Bool × Bool :=
  let v := if sub then sgn 32 s.toNat - sgn 32 t.toNat else sgn 32 s.toNat + sgn 32 t.toNat
  (if sub then s - t else s + t, if sub then decide (t.toNat ≤ s.toNat) else decide (2 ^ 32 ≤ s.toNat + t.toNat), overS 32 v)

/-- Write a data ALU result with its flags. -/
def aluOut (d : Nat) (r : Word) (c v : Bool) (x : Dsp) : Dsp := setFlags c v r (setD d r x)

/-- A saturated result: SAT on a clamp. -/
def aluSat (d : Nat) (v : Int) (c ov : Bool) (x : Dsp) : Dsp :=
  aluOut d (BitVec.ofNat 32 (unsgn 32 (satS 32 v))) c ov (stick 5 (overS 32 v) x)

/-- A lane result. -/
def laneOut (d : Nat) (f : Int → Int → Int) (s t : Word) (x : Dsp) : Dsp :=
  let r := lanes (f (laneLo s) (laneLo t)) (f (laneHi s) (laneHi t))
  setZN r (setD d r x)

/-- BFLY and BFLYH: d and e from both lanes (13 R470). Z and N are those of d. -/
def bflyOut (d e : Nat) (g : Int → Int) (s t : Word) (x : Dsp) : Dsp :=
  let r := lanes (g (laneLo s + laneLo t)) (g (laneHi s + laneHi t))
  let q := lanes (g (laneLo s - laneLo t)) (g (laneHi s - laneHi t))
  setZN r (setD e q (setD d r x))

/-- A data ALU instruction. -/
def aluRun (o : AluOp) (d s t imm e : Nat) (x : Dsp) : Dsp :=
  let sw := x.dw s
  let tw := x.dw t
  let si := x.ds s
  let ti := x.ds t
  let im : Word := BitVec.ofNat 32 (unsgn 32 (sgn 9 imm))
  let as_ := fun (sub : Bool) (w : Word) => addSub sub sw w
  match o with
  | .add => let r := as_ false tw; aluOut d r.1 r.2.1 r.2.2 x
  | .sub => let r := as_ true tw; aluOut d r.1 r.2.1 r.2.2 x
  | .adds => let r := as_ false tw; aluSat d (si + ti) r.2.1 r.2.2 x
  | .subs => let r := as_ true tw; aluSat d (si - ti) r.2.1 r.2.2 x
  | .and => aluOut d (sw &&& tw) false false x
  | .or => aluOut d (sw ||| tw) false false x
  | .xor => aluOut d (sw ^^^ tw) false false x
  | .not => aluOut d (~~~sw) false false x
  | .neg => aluSat d (-si) false (si == -2147483648) x
  | .abs => aluSat d (si.natAbs : Int) false (si == -2147483648) x
  | .cmp => let r := as_ true tw; setFlags r.2.1 r.2.2 r.1 x
  | .asl =>
    let sh := imm % 32
    aluOut d (sw <<< sh) (sh != 0 && bit sw (32 - sh)) (overS 32 (si * (2 ^ sh : Nat))) x
  | .asr =>
    let sh := imm % 32
    aluOut d (BitVec.ofNat 32 (unsgn 32 (asr si sh))) (sh != 0 && bit sw (sh - 1)) false x
  | .lsr =>
    let sh := imm % 32
    aluOut d (sw >>> sh) (sh != 0 && bit sw (sh - 1)) false x
  | .min => aluOut d (if si ≤ ti then sw else tw) false false x
  | .max => aluOut d (if si ≤ ti then tw else sw) false false x
  | .add2 => laneOut d (fun a b => a + b) sw tw x
  | .sub2 => laneOut d (fun a b => a - b) sw tw x
  | .add2h => laneOut d (fun a b => asr (a + b) 1) sw tw x
  | .sub2h => laneOut d (fun a b => asr (a - b) 1) sw tw x
  | .addi => let r := as_ false im; aluOut d r.1 r.2.1 r.2.2 x
  | .cmpi => let r := as_ true im; setFlags r.2.1 r.2.2 r.1 x
  | .bfly =>
    let ov := overS 16 (laneLo sw + laneLo tw) || overS 16 (laneHi sw + laneHi tw) || overS 16 (laneLo sw - laneLo tw)
      || overS 16 (laneHi sw - laneHi tw)
    bflyOut d e (satS 16) sw tw (stick 5 ov x)
  | .bflyh => bflyOut d e (fun v => asr v 1) sw tw x

/-! The accumulator ALU (13 R471). -/

/-- An accumulator instruction. -/
def accRun (o : AccOp) (k j s t sh : Nat) (x : Dsp) : Dsp :=
  let ak := x.av k
  let aj := x.av j
  let hi : Int := x.ds s * 2 ^ 32
  match o with
  | .clr => accResult k 0 x
  | .adda => accResult k (ak + aj) x
  | .suba => accResult k (ak - aj) x
  | .tfra => accResult k aj x
  | .nega => accResult k (-aj) x
  | .absa => accResult k (aj.natAbs : Int) x
  | .asla => accResult k (aj * (2 ^ sh : Nat)) x
  | .asra => accResult k (asr aj sh) x
  | .addd => accResult k (ak + hi) x
  | .subd => accResult k (ak - hi) x
  | .sata => accResult k (satS 64 aj) (stick 5 (overS 64 aj) x)
  | .cmpa => accFlags (wrap72 (ak - aj)) x
  | .mpyi => accResult k (x.ds s * x.ds t) x
  | .maci => accResult k (ak + x.ds s * x.ds t) x

/-! Multiply-accumulate (13 Arithmetic, R472 to R474). -/

/-- A Q31 product in accumulator units. -/
def frac32 (a b : Int) : Int := a * b * 2

/-- A Q15 product in accumulator units. -/
def frac16 (a b : Int) : Int := a * b * 2 ^ 33

/-- The accumulator part of a fractional MAC. -/
def fracRun (o : FracOp) (k : Nat) (s t : Int) (x : Dsp) : Dsp :=
  match o with
  | .mac => accResult k (x.av k + frac32 s t) x
  | .msu => accResult k (x.av k - frac32 s t) x
  | .mpy => accResult k (frac32 s t) x
  | .move => x

/-- The pair of accumulators q is written; the flags are those of the even one. -/
def pairResult (q : Nat) (e o : Int) (x : Dsp) : Dsp := accFlags (wrap72 e) (accWrite (2 * q + 1) o (accWrite (2 * q) e x))

/-- The accumulator part of a quad MAC. -/
def quadRun (o : QuadOp) (q : Nat) (s t u : Word) (x : Dsp) : Dsp :=
  let e := frac16 (laneLo s) (laneLo t) + frac16 (laneHi s) (laneHi t)
  let d := frac16 (laneLo s) (laneLo u) + frac16 (laneHi s) (laneHi u)
  match o with
  | .qmac => pairResult q (x.av (2 * q) + e) (x.av (2 * q + 1) + d) x
  | .qmsu => pairResult q (x.av (2 * q) - e) (x.av (2 * q + 1) - d) x
  | .qmpy => pairResult q e d x

/-- The accumulator part of a complex MAC. -/
def cplxRun (o : CplxOp) (q : Nat) (s t : Word) (x : Dsp) : Dsp :=
  let ti := if o = .cmacj ∨ o = .cmpyj then -laneHi t else laneHi t
  let re := frac16 (laneLo s) (laneLo t) - frac16 (laneHi s) ti
  let im := frac16 (laneLo s) ti + frac16 (laneHi s) (laneLo t)
  match o with
  | .cmac | .cmacj => pairResult q (x.av (2 * q) + re) (x.av (2 * q + 1) + im) x
  | .cmsu => pairResult q (x.av (2 * q) - re) (x.av (2 * q + 1) - im) x
  | .cmpy | .cmpyj => pairResult q re im x

/-- Whether condition cc holds (13 R466). -/
def condHolds (x : Dsp) (cc : Nat) : Bool :=
  let c := statB x 0
  let v := statB x 1
  let z := statB x 2
  let n := statB x 3
  match cc with
  | 0 => true | 1 => z | 2 => !z | 3 => n | 4 => !n | 5 => c | 6 => !c | 7 => v | 8 => !v | 9 => n != v | 10 => n == v
  | 11 => !z && n == v | 12 => z || n != v | 13 => statB x 4 | 14 => !statB x 4 | _ => statB x 5

end Sys2Proof.Machine
end

