-- ==== Sys2Proof/Machine/Mgt.lean ====
section
/-! DEFINITION. Culverts, doorbells, headgates, the management controllers and the audit copy-out
(17_culverts_and_audit.md). -/

namespace Sys2Proof.Machine

/-- The bank of an agent. -/
def bank (s : State) (ag : AgentId) : CvBank := spGet s.mgt.banks ag.toNat CvBank.reset

/-- Give an agent a bank. -/
def setBank (ag : AgentId) (b : CvBank) (s : State) : State :=
  { s with mgt := { s.mgt with banks := spPut s.mgt.banks ag.toNat b CvBank.reset } }

/-- Channel c. -/
def chan (s : State) (c : Nat) : CvChan := vget s.mgt.chans c CvChan.reset

/-- Give channel c a state; LEVEL of MGT_CV_STATUS follows it. -/
def setChan (c : Nat) (x : CvChan) (s : State) : State :=
  setF .mgtCvStatus c 0 0 4 x.queue.length { s with mgt := { s.mgt with chans := vset s.mgt.chans c x } }

/-- RECEIVER of channel c. -/
def receiverOf (s : State) (c : Nat) : AgentId := BitVec.ofNat 8 (getF s .mgtCvCfg c 0 0 8)

/-- The messages on a channel, with their words as header and body. -/
def waitingFor (s : State) (ag : AgentId) : List (Nat × CvMsg) :=
  (List.range 64).flatMap fun c => if receiverOf s c = ag then (chan s c).queue.map fun m => (c, m) else []

/-- Ring doorbell d: pending, and its target is signalled (17 R579). -/
def ringDoorbell (d : Nat) (s : State) : State :=
  let j := d / 32
  let s := wr .mgtDbRing 0 j (rd s .mgtDbRing 0 j ||| BitVec.ofNat 32 (2 ^ (d % 32))) s
  let t := getF s .mgtDbCfg 0 d 0 8
  if 1 ≤ t ∧ t ≤ 0x10 then irqSource 1 s
  else if 0x30 ≤ t ∧ t ≤ 0x47 then dspPend (t - 0x30) 8 s
  else s

/-- A completion entry of a send (17 R573): status, channel, send sequence, and the doorbell of the send. -/
def cvComplete (ag : AgentId) (status ch seq db : Nat) (dbEn dbAll : Bool) (s : State) : State :=
  let b := bank s ag
  let s := setBank ag { b with cpl := b.cpl ++ [(status, ch, seq)] } s
  let s := if 0x30 ≤ ag.toNat ∧ ag.toNat ≤ 0x47 then dspPend (ag.toNat - 0x30) 7 s else s
  if dbEn && (status != 0 || dbAll) then ringDoorbell db s else s

/-- The messages an agent has sent that are still queued. -/
def sendsQueued (s : State) (ag : AgentId) : Nat :=
  ((List.range 64).map fun c => ((chan s c).queue.filter fun m => m.sender == ag).length).sum

/-- The receiver cannot take a message: unused channel, a core that is OFF, a function that is not enabled, a
controller that is OFF (17 R571). -/
def receiverDown (s : State) (ag : AgentId) : Bool :=
  let n := ag.toNat
  n == 0 || (decide (0x02 ≤ n ∧ n ≤ 0x10) && !s.host.vfEnabled.contains (n - 1))
    || (decide (0x30 ≤ n ∧ n ≤ 0x47) && ustate s (0x160 + (n - 0x30)) == .off)
    || (n == 0x20 && getF s .mgtMcStatus 0 0 0 3 == 0) || (n == 0x21 && getF s .mgtMcStatus 0 1 0 3 == 0)

/-- The status with which a send is refused, if it is (17 R571). -/
def sendRefusal (s : State) (ag : AgentId) (c : Nat) : Option Nat :=
  let sender := getF s .mgtCvCfg c 0 8 8
  if 16 ≤ (bank s ag).cpl.length + sendsQueued s ag then some 6
  else if sender ≠ 0 ∧ sender ≠ ag.toNat then some 4
  else if receiverDown s (receiverOf s c) then some 2
  else if 8 ≤ (chan s c).queue.length then some 1
  else none

/-- The header of an accepted message (17 R572). -/
def cvHeader (s : State) (ag : AgentId) (c seq : Nat) (body : List Word) : List Word :=
  let b := [ag] ++ leBytes 1 (c % 64) ++ leBytes 2 seq ++ leBytes 4 (chan s c).nextSeq.toNat
    ++ wordsBytes (stampWords (eventTime s)) ++ leBytes 4 (planEpoch s).toNat ++ leBytes 4 0
  bytesWords b ++ [crc32c (b ++ wordsBytes body)]

/-- Message transfers and their ECC (17 R577): 0 good, 1 a retry succeeded, 2 a second failure. -/
def cvTransient (s : State) : State :=
  raiseRated 0x0E03 0x210 [] 1 (faultTransient (bump .mgtCount 0 2 1 s))

/-- A send by an agent: judged at once, then queued (17 R571 to R573, R577). -/
def cvSend (ag : AgentId) (v : BitVec 32) (ecc : Nat) (s : State) : State :=
  let c := fld v 0 6
  let db := fld v 8 8
  let b := bank s ag
  let seq := b.nextSend
  let s1 := setBank ag { b with nextSend := (seq + 1) % 2 ^ 16 } s
  match sendRefusal s ag c with
  | some st => cvComplete ag st c seq db (bit v 16) (bit v 17) (bump .mgtCount 0 4 1 s1)
  | none =>
    let x := chan s1 c
    let m : CvMsg :=
      { sender := ag, sendSeq := seq, header := cvHeader s1 ag c seq b.tx, body := b.tx, doorbell := db, dbEn := bit v 16,
        dbAll := bit v 17 }
    let s2 := setChan c { queue := x.queue ++ [m], nextSeq := x.nextSeq + 1 } s1
    if ecc = 0 then s2
    else if ecc = 1 then cvTransient s2
    else
      let s3 := setChan c { queue := x.queue, nextSeq := x.nextSeq + 1 } s1
      let s3 := cvComplete ag 5 c seq db (bit v 16) (bit v 17) (bump .mgtCount 0 3 1 s3)
      faultLasting 3 0x210 ag (c + x.nextSeq.toNat * 2 ^ 32) 0 [] s3

/-- Remove the head message of channel c (17 R573, R574, R577). -/
def cvPop (c ecc : Nat) (s : State) : State :=
  let x := chan s c
  match x.queue with
  | [] => s
  | m :: rest =>
    let s := setChan c { x with queue := rest } s
    if ecc = 2 then
      let s := cvComplete m.sender 5 c m.sendSeq m.doorbell m.dbEn m.dbAll (bump .mgtCount 0 3 1 s)
      faultLasting 3 0x210 m.sender (c + (m.header.getD 1 0).toNat * 2 ^ 32) 0 [] s
    else
      let s := cvComplete m.sender 0 c m.sendSeq m.doorbell m.dbEn m.dbAll (bump .mgtCount 0 0 1 s)
      if ecc = 1 then cvTransient s else s

/-- Discard every message of channel c with ABORTED_RESET; code 0 reset, 1 a change of the receiver by an agent (17 R575,
R576). -/
def cvDiscard (ag : AgentId) (c code : Nat) (s : State) : State :=
  let x := chan s c
  if x.queue.length = 0 then s
  else
    let s := setChan c { x with queue := [] } s
    let s := x.queue.foldl (fun s m => cvComplete m.sender 3 c m.sendSeq m.doorbell m.dbEn m.dbAll s) s
    audit 0x09 ag code c x.queue.length (bump .mgtCount 0 1 x.queue.length s)

/-- Free a headgate held by an agent: code 0 forced, 1 holder reset (17 R582). -/
def gateFree (h code : Nat) (ag : AgentId) (s : State) : State :=
  let g := vget s.mgt.gates h Headgate.reset
  if g.holder = 0 then s
  else
    let s := wr .mgtHeadgate 0 h 0
      { s with mgt := { s.mgt with gates := vset s.mgt.gates h { g with holder := 0 } } }
    let s := if code = 0 then bump .mgtCount 0 6 1 s else s
    raise 0x0E04 0x210 [.u16 h, .u16 g.holder.toNat, .u16 code] (audit 0x08 ag code h g.holder.toNat s)

/-- A reset of an agent frees its headgates (17 R582). -/
def gatesFree (ag : AgentId) (s : State) : State :=
  (List.range 32).foldl (fun s h => if (vget s.mgt.gates h Headgate.reset).holder = ag then gateFree h 1 0 s else s) s

/-- A receiver reset (17 R575): its queued messages are discarded, its headgates freed. -/
def receiverReset (ag : AgentId) (s : State) : State :=
  let n := (waitingFor s ag).length
  let s := (List.range 64).foldl (fun s c => if receiverOf s c = ag then cvDiscard 0 c 0 s else s) s
  let s := if n = 0 then s else raise 0x0E02 0x210 [.u16 ag.toNat, .u32 n] s
  gatesFree ag s

/-- CV_SEND: a write to MGT_CV_SEND with the outcome of the transfer's ECC (17 R571). -/
def execCvSend (ag : AgentId) (v : BitVec 32) (ecc : Nat) (s : State) : Out :=
  .next (guardW ag (Reg.off .mgtCvSend 0 0) v (ok (cvSend ag v ecc)) s)

/-- RXPOP by an agent: only the receiver's removes the head (17 R574). -/
def rxpopEff (ag : AgentId) (c ecc : Nat) (s : State) : WRes :=
  if receiverOf s c = ag then (cvPop c ecc s, 0) else (s, 6)

/-- CV_RXPOP (17 R574). -/
def execCvRxpop (ag : AgentId) (c ecc : Nat) (s : State) : Out :=
  .next (guardW ag (Reg.off .mgtCvRxpop c 0) 1 (rxpopEff ag c ecc) s)

/-- The word a read of MGT_CV_TXSTAT returns, and the bank after it (17 TXSTAT). -/
def txstat (ag : AgentId) (s : State) : Word × State :=
  let b := bank s ag
  match b.cpl with
  | [] => (0, s)
  | (st, ch, sq) :: rest =>
    (BitVec.ofNat 32 (st + ch * 2 ^ 8 + 2 ^ 14 + sq * 2 ^ 16), setBank ag { b with cpl := rest } s)

/-- CV_TXSTAT_READ (17 R571). -/
def execCvTxstatRead (ag : AgentId) (s : State) : Out :=
  let (w, s) := txstat ag s
  .next { s with rdata := [w] }

/-- The agents that may be receivers (17 R570). -/
def receiverOk (n : Nat) : Bool :=
  n == 0 || decide (1 ≤ n ∧ n ≤ 0x10) || n == 0x20 || n == 0x21 || decide (0x30 ≤ n ∧ n ≤ 0x47) || n == 0x50

/-- A write of MGT_CV_CFG (17 R570, R576). -/
def cvCfgEff (ag : AgentId) (c : Nat) (v : BitVec 32) (s : State) : WRes :=
  if !receiverOk (fld v 0 8) then (s, 6)
  else
    let s := if fld v 0 8 = getF s .mgtCvCfg c 0 0 8 then s
             else
               let n := (chan s c).queue.length
               let old := getF s .mgtCvCfg c 0 0 8
               let s := cvDiscard ag c 1 s
               if n = 0 then s else raise 0x0E02 0x210 [.u16 old, .u32 n] s
    (wr .mgtCvCfg c 0 (v &&& 0xFFFF) s, 0)

/-- CV_RECEIVER_WRITE (17 R576). -/
def execCvReceiverWrite (ag : AgentId) (c : Nat) (v : BitVec 32) (s : State) : Out :=
  .next (guardW ag (Reg.off .mgtCvCfg c 0) v (cvCfgEff ag c v) s)

/-- A write to MGT_DB_RING instance j rings every doorbell whose bit is 1 (17 R579). -/
def dbRing (j : Nat) (v : BitVec 32) (s : State) : State :=
  (List.range 32).foldl (fun s i => if bit v i then ringDoorbell (32 * j + i) s else s) s

/-- DB_RING (17 R579). -/
def execDbRing (ag : AgentId) (j : Nat) (v : BitVec 32) (s : State) : Out :=
  .next (guardW ag (Reg.off .mgtDbRing 0 j) v (ok (dbRing j v)) s)

/-- A write to MGT_DB_CLEAR instance j. -/
def dbClear (j : Nat) (v : BitVec 32) (s : State) : State := wr .mgtDbRing 0 j (rd s .mgtDbRing 0 j &&& ~~~v) s

/-- DB_CLEAR (17 R579). -/
def execDbClear (ag : AgentId) (j : Nat) (v : BitVec 32) (s : State) : Out :=
  .next (guardW ag (Reg.off .mgtDbClear 0 j) v (ok (dbClear j v)) s)

/-- The winner of a contest: the smallest (agent ID - pointer) mod 256 (17 R581). -/
def contestWinner (ptr : Nat) : List AgentId → Option AgentId
  | [] => none
  | a :: r =>
    match contestWinner ptr r with
    | none => some a
    | some b => if (a.toNat + 256 - ptr) % 256 ≤ (b.toNat + 256 - ptr) % 256 then some a else some b

/-- Reads of headgate h by the agents of one cycle (17 R580, R581): the value the first of them receives. -/
def gateRead (h : Nat) (ags : List AgentId) (s : State) : Word × State :=
  let g := vget s.mgt.gates h Headgate.reset
  if g.holder ≠ 0 then (BitVec.ofNat 32 g.holder.toNat, s)
  else match contestWinner g.ptr ags with
    | none => (0, s)
    | some w =>
      let contested := decide (1 < ags.length)
      let ptr := if contested then (w.toNat + 1) % 256 else g.ptr
      let s := wr .mgtHeadgate 0 h (BitVec.ofNat 32 w.toNat)
        { s with mgt := { s.mgt with gates := vset s.mgt.gates h { holder := w, ptr := ptr } } }
      let s := if contested then
          let t := stampWords (eventTime s)
          let s := wr .mgtHeadgateContest 0 0
            (BitVec.ofNat 32 (h + w.toNat * 2 ^ 8 + ags.length % 64 * 2 ^ 16 + ptr * 2 ^ 24)) s
          let s := wr .mgtHeadgateContest 0 1 (t.getD 0 0) s
          let s := wr .mgtHeadgateContest 0 2 (t.getD 1 0) s
          bump .mgtCount 0 5 1 (wr .mgtHeadgateContest 0 3 (t.getD 2 0) s)
        else s
      (if ags.head? = some w then 0 else BitVec.ofNat 32 w.toNat, s)

/-- An agent that may use the operation registers (17 R569). -/
def opAgent (ag : AgentId) : Bool := decide (1 ≤ ag.toNat ∧ ag.toNat ≤ 0x51)

/-- HEADGATE_READ: the reader and the others that read in the same cycle (17 R580, R581). -/
def execHeadgateRead (ag : AgentId) (h : Nat) (others : List AgentId) (s : State) : Out :=
  let (w, s) := gateRead h ((ag :: others).filter opAgent) s
  .next { s with rdata := [w] }

/-- A write to MGT_HEADGATE: 0 by the holder frees it, anything else is logged (17 R580). -/
def gateWriteEff (ag : AgentId) (h : Nat) (v : BitVec 32) (s : State) : WRes :=
  let g := vget s.mgt.gates h Headgate.reset
  if v = 0 ∧ g.holder = ag ∧ ag ≠ 0 then
    (wr .mgtHeadgate 0 h 0 { s with mgt := { s.mgt with gates := vset s.mgt.gates h { g with holder := 0 } } }, 0)
  else (s, 6)

/-- HEADGATE_RELEASE (17 R580). -/
def execHeadgateRelease (ag : AgentId) (h : Nat) (v : BitVec 32) (s : State) : Out :=
  .next (guardW ag (Reg.off .mgtHeadgate 0 h) v (gateWriteEff ag h v) s)

/-- A write to MGT_HEADGATE_FORCE: GO from agents 0x01 and 0x20 only (17 R582). -/
def gateForceEff (ag : AgentId) (v : BitVec 32) (s : State) : WRes :=
  if !bit v 8 then (s, 0)
  else if ag = 0x01 ∨ ag = 0x20 then (gateFree (fld v 0 5) 0 ag s, 0)
  else (s, 6)

/-- HEADGATE_FORCE (17 R582). -/
def execHeadgateForce (ag : AgentId) (h : Nat) (s : State) : Out :=
  let v := BitVec.ofNat 32 (h % 32 + 256)
  .next (guardW ag (Reg.off .mgtHeadgateForce 0 0) v (gateForceEff ag v) s)

/-! Management controllers. -/

/-- Set a controller's STATE and CAUSE; a change of STATE raises 0x0E01 (17 R583). -/
def setMc (m st cause : Nat) (s : State) : State :=
  let old := getF s .mgtMcStatus 0 m 0 3
  let s := setF .mgtMcStatus 0 m 3 5 cause (setF .mgtMcStatus 0 m 0 3 st s)
  if old = st then s else updFaultN (raise 0x0E01 0x210 [.u16 m, .u16 st, .u16 cause] s)

/-- MC_WATCHDOG: a controller whose heartbeat stops for 100 ms (17 R583, R575). -/
def execMcWatchdog (m : Nat) (s : State) : Out :=
  if getF s .mgtMcStatus 0 m 0 3 = 2 then .next (receiverReset (BitVec.ofNat 8 (0x20 + m)) (setMc m 3 1 s)) else .next s

/-- RESTART of a controller (17 R583, R575; 22 R660): it boots again. -/
def mcRestart (m : Nat) (s : State) : State :=
  receiverReset (BitVec.ofNat 8 (0x20 + m)) (setMc m 1 0 s)

/-- MC_RESTART (17 R583). -/
def execMcRestart (ag : AgentId) (m : Nat) (s : State) : Out :=
  .next (guardW ag (Reg.off .mgtMcCmd 0 m) 1 (ok (mcRestart m)) s)

/-- MC_FIRMWARE_LOADED: whether copies A and B verify (22 R660). -/
def execMcFirmwareLoaded (m : Nat) (okA okB : Bool) (s : State) : Out :=
  let fw := fun k s => setF .globalBootStatus 0 0 (6 + 2 * m) 2 k s
  if getF s .mgtMcStatus 0 m 0 3 = 0 ∨ getF s .mgtMcStatus 0 m 0 3 = 1 then
    if okA then .next (setMc m 2 0 (fw 1 s))
    else if okB then .next (setMc m 2 0 (fw 2 s))
    else .next (receiverReset (BitVec.ofNat 8 (0x20 + m)) (setMc m 3 3 (fw 0 s)))
  else .next s

/-- The reply words to a request (17 R584); the contents of VERSION and SENSORS are free values. -/
def mcReplyWords (k : Nat) (req : List Word) : List Word :=
  let w0 := req.getD 0 0
  let svc := fld w0 0 16
  let head := fun (st : Nat) => [w0 ||| 0x8000, BitVec.ofNat 32 st]
  if svc = 1 then head 0 ++ req.drop 2
  else if svc = 2 then head 0 ++ [Config.mcReply k 2, Config.mcReply k 3] ++ List.replicate 12 0
  else if svc = 3 then head 0 ++ ((List.range 9).map fun i => Config.mcReply k (i + 2)) ++ List.replicate 5 0
  else head 1 ++ List.replicate 14 0

/-- MC_REQUEST: the controller takes the head message of its channel and replies (17 R584). -/
def execMcRequest (m : Nat) (s : State) : Out :=
  if getF s .mgtMcStatus 0 m 0 3 = 2 then
    match (chan s m).queue with
    | [] => .next s
    | q :: _ =>
      if receiverOf s m = BitVec.ofNat 8 (0x20 + m) then
        let s := cvPop m 0 s
        if bit (q.body.getD 0 0) 15 then .next s
        else
          let ag : AgentId := BitVec.ofNat 8 (0x20 + m)
          let b := bank s ag
          let s := setBank ag { b with tx := mcReplyWords s.free q.body } { s with free := s.free + 1 }
          .next (cvSend ag (BitVec.ofNat 32 (fld (q.body.getD 1 0) 0 6)) 0 s)
      else .next s
  else .next s

/-- AUDIT_RECORD_TIMER: 100 µs after the oldest waiting entry (17 R589). -/
def execAuditRecordTimer (s : State) : Out := .next (if auditDue s then auditRecord s else s)

/-- AUDIT_QUEUE_ROOM: room appears in flume 1's queue (17 R589). -/
def execAuditQueueRoom (s : State) : Out := .next (auditCatchUp s)

/-! SMBus. -/

/-- SMBUS_CLOCK_TIMEOUT (17 R585, 22 R655). -/
def execSmbusClockTimeout (s : State) : Out :=
  let s := setF .mgtSmbStatus 0 0 16 8 (satU 8 (getF s .mgtSmbStatus 0 0 16 8 + 1)) s
  .next { s with mgt := { s.mgt with smbAddr := 0, smbRefused := false } }

/-- A transaction with a wrong PEC is discarded and counted (17 R585). -/
def smbPecErr (s : State) : State := setF .mgtSmbStatus 0 0 8 8 (satU 8 (getF s .mgtSmbStatus 0 0 8 8 + 1)) s

/-- SMB_SET_ADDR: a BAR0 offset, a multiple of 4, and whether the PEC is right (17 R585). -/
def execSmbSetAddr (addr : Nat) (pec : Bool) (s : State) : Out :=
  if !mainUp s then .next s
  else if pec then .next { s with mgt := { s.mgt with smbAddr := addr % 2 ^ 32 / 4 * 4 } }
  else .next (smbPecErr s)

/-- A doorbell is pending whose target is the SMBus target. -/
def smbDoorbell (s : State) : Bool :=
  (List.range 256).any fun d => bit (rd s .mgtDbRing 0 (d / 32)) (d % 32) && getF s .mgtDbCfg 0 d 0 8 == 0x50

/-- SMB_ALERT_N asserted: a doorbell or a message waits for agent 0x50 (17 R585). -/
def smbAlert (s : State) : Bool := smbDoorbell s || (waitingFor s 0x50).length != 0

/-- SMB_STATUS: the status byte (17 R585). -/
def execSmbStatus (s : State) : Out :=
  .next { s with rdata := [BitVec.ofNat 32 (b2n s.mgt.smbRefused + 2 * b2n (getB s .globalBootStatus 0 0 3)
    + 4 * b2n s.boot.faultN + 8 * b2n ((waitingFor s 0x50).length != 0) + 16 * b2n (smbDoorbell s))] }

end Sys2Proof.Machine
end

