-- ==== Sys2Proof/Machine/Spectral.lean ====
section
/-! DEFINITION. The spectral engines and their FFT cores (06_spectral_engines.md). -/

namespace Sys2Proof.Machine

/-- Engine e. -/
def specOf (s : State) (e : Nat) : Spec := vget s.spec e Spec.reset

/-- Change engine e. -/
def withSpec (e : Nat) (f : Spec → Spec) (s : State) : State := { s with spec := vset s.spec e (f (specOf s e)) }

/-- Unit code of engine e. -/
def specUnit (e : Nat) : Nat := 0x0A0 + e

/-- Unit code of FFT core n. -/
def fftUnit (n : Nat) : Nat := 0x080 + n

/-- The staged set (06, the registers that SPEC_COMMIT captures). -/
def specStaged (s : State) (e : Nat) : SpecSet :=
  { lg := getF s .specFft e 0 0 5, win := getF s .specFft e 0 5 3, param := getF s .specFft e 0 16 16,
    hop := getF s .specHop e 0 0 21, mask := getF s .specScale e 0 0 20, fixedShift := getF s .specScale e 0 20 3,
    bfix := getB s .specScale e 0 23, inter := getF s .specScale e 0 24 4, fmt := getF s .specOut e 0 0 1,
    outEn := getB s .specOut e 0 1, stride := getF s .specOut e 0 2 8 + 1, spr := getF s .specOut e 0 10 8 + 1,
    outFirst := getF s .specOutFirst e 0 0 20, outCount := getF s .specOutCount e 0 0 21, det := getF s .specDet e 0 0 3,
    points := getF s .specDet e 0 4 14 + 1, detFirst := getF s .specDetFirst e 0 0 20, detSpan := getF s .specDetSpan e 0 0 21,
    tmode := getF s .specTrace e 0 0 3, trEn := getB s .specTrace e 0 3, tcount := getF s .specTrace e 0 4 16 + 1 }

/-- N. -/
def SpecSet.n (c : SpecSet) : Nat := 2 ^ c.lg

/-- The period of an engine's input samples in 2^-64 s (06 R239). -/
def spPeriod (s : State) (e : Nat) : Nat :=
  if getB s .specCfg e 0 0 then lkPeriod s e * tnD s (4 * e + getF s .specCfg e 0 1 2) else lkPeriod s e

/-- The region of SPEC_CFG serves sizes above 32,768 (06 R254). -/
def twoPassOk (s : State) (e : Nat) (c : SpecSet) : Bool :=
  16 ≤ c.lg && c.lg ≤ 20 && getB s .specCfg e 0 3 &&
    match s.plan.regions.find? fun r => r.id == getF s .specCfg e 0 4 16 with
    | some r => r.owner == specUnit e && decide (16 * c.n ≤ r.size) &&
        decide (2 ^ 64 * (4 * c.hop + 12 * c.n) ≤ r.bandwidth * 1000000 * spPeriod s e * c.hop)
    | none => false

/-- The register whose value fails the check of 06 R242, as a BAR0 offset; cores are checked at START only. -/
def specCheck (s : State) (e : Nat) (c : SpecSet) (start : Bool) : Option Nat :=
  let p := spPeriod s e
  let n := c.n
  if !((6 ≤ c.lg && c.lg ≤ 15) || twoPassOk s e c) then some (Reg.off .specFft e 0)
  else if c.win = 7 ∨ (c.win = 4 ∧ 40960 < c.param) ∨ (c.win = 5 ∧ ¬ (655 ≤ c.param ∧ c.param ≤ 32768)) then
    some (Reg.off .specFft e 0)
  else if c.hop = 0 ∨ n < c.hop then some (Reg.off .specHop e 0)
  else if (if n ≤ 32768 then 20 else 10) * 1000000000 * p * c.hop < 2 ^ 64 * n then some (Reg.off .specHop e 0)
  else if 4 < c.fixedShift ∨ 12 < c.inter then some (Reg.off .specScale e 0)
  else if c.outEn ∧ (c.outCount = 0 ∨ n < c.outFirst + c.outCount) then some (Reg.off .specOutCount e 0)
  else if c.det = 7 ∨ c.points < 64 then some (Reg.off .specDet e 0)
  else if 20000000000 * p * c.hop < 2 ^ 64 * c.points then some (Reg.off .specDet e 0)
  else if c.detSpan = 0 ∨ n < c.detFirst + c.detSpan then some (Reg.off .specDetSpan e 0)
  else if 5 < c.tmode then some (Reg.off .specTrace e 0)
  else if start then
    ((List.range 4).find? fun k => ustate s (fftUnit (4 * e + k)) != .ready).map fun k => hdrOff (fftUnit (4 * e + k))
  else none

/-! Window banks (06 R246 to R248). -/

/-- Key of coefficient k of bank b of engine e. -/
def winKey (e b k : Nat) : Nat := (e * 2 + b) * 65536 + k

/-- The first m coefficients of a bank. -/
def winRead (s : State) (e b m : Nat) : List Nat := (List.range m).map fun k => spGet s.winBank (winKey e b k) 0

/-- Put generated coefficients into a bank from index 0 on. -/
def winStore (e b : Nat) (l : List Nat) (s : State) : State :=
  { s with winBank := l.zipIdx.foldl (fun m p => spPut m (winKey e b p.2) p.1 0) s.winBank }

/-- S_w of the coefficients in use. -/
def winSum (bank : List Nat) (n : Nat) : Nat := ((List.range n).map fun k => windowUse bank n k).sum

/-- SPEC_WIN_ENBW (06 R248). -/
def winEnbw (s : State) (bank : List Nat) (n : Nat) : Nat :=
  let sw := winSum bank n
  let sq := ((List.range n).map fun k => windowUse bank n k ^ 2).sum
  if sw = 0 then Config.zeroWinEnbw s.free % 2 ^ 32 else (2 * 65536 * n * sq + sw * sw) / (2 * sw * sw)

/-- SPEC_WIN_REF (06 R251). -/
def winRef (s : State) (bank : List Nat) (n : Nat) : Int :=
  let sw := winSum bank n
  if sw = 0 then sgn 32 (unsgn 32 (Config.zeroWinRef s.free)) else 2 * lg16 sw - 4 * 65536

/-- A window becomes active: the two values are computed (06 R248). -/
def winActive (e : Nat) (bank : List Nat) (n : Nat) (s : State) : State :=
  let s := wr .specWinEnbw e 0 (BitVec.ofNat 32 (winEnbw s bank n)) s
  let s := wr .specWinRef e 0 (BitVec.ofNat 32 (unsgn 32 (winRef s bank n))) s
  if winSum bank n = 0 then { s with free := s.free + 1 } else s

/-- Coefficients of a bank that a size uses. -/
def winLen (n : Nat) : Nat := if n ≤ 65536 then n else 65536

/-- A built-in window differs from the one in force, so that it must be generated (06 R247). -/
def winNew (s : State) (e : Nat) (c : SpecSet) : Bool :=
  c.win != 6 && match (specOf s e).run with
    | some r => r.set.win != c.win || r.set.lg != c.lg || r.set.param != c.param
    | none => true

/-- The banks swap, and the window of the set becomes active (06 R247, R248). -/
def bankSwap (e : Nat) (c : SpecSet) (s : State) : State :=
  let s := withSpec e (fun x => { x with bank := 1 - x.bank }) s
  winActive e (winRead s e (specOf s e).bank (winLen c.n)) c.n s

/-- Generation into the inactive bank (06 R247). -/
def winGenerate (e : Nat) (c : SpecSet) (s : State) : State :=
  winStore e (1 - (specOf s e).bank) (windowGen c.win c.param c.n) s

/-- The set in force from input sample q0 on. -/
def specRun (s : State) (e : Nat) (c : SpecSet) (q0 : Int) : SpecRun :=
  { set := c, bank := winRead s e (specOf s e).bank (winLen c.n), enbw := (rd s .specWinEnbw e 0).toNat,
    ref := sgn 32 (rd s .specWinRef e 0).toNat, q0 := q0, next := q0, begun := 0, done := 0,
    id := getF s .specStatus e 0 16 16 }

/-! Records and traces (06 R257, R261 to R268). -/

/-- Zero bytes up to a multiple of 8. -/
def pad8 (b : List Byte) : List Byte := b ++ List.replicate ((8 - b.length % 8) % 8) 0

/-- The bytes of a packed spectrum (06 R265). -/
def entryBytes (e : Nat) (r : SpecRun) (x : SpecEntry) : List Byte :=
  let c := r.set
  leBytes 6 x.seq ++ leBytes 1 e ++ leBytes 1 (0x10 + c.fmt) ++ wordsBytes (stampWords x.stamp)
    ++ leBytes 4 (c.outFirst % 2 ^ 20 + c.lg * 2 ^ 20) ++ leBytes 4 (c.outCount % 2 ^ 21)
    ++ leBytes 1 (if c.fmt = 0 then 0 else unsgn 8 x.bexp) ++ leBytes 1 c.win ++ leBytes 2 x.flags ++ x.body

/-- A record or trace that the fabric does not take once the output buffer is full is dropped whole (06 R263). -/
def specOffer (e stream : Nat) (took : Bool) (i : Item) (s : State) : State :=
  if took then offer i s
  else raiseRated 0x0408 (specUnit e) [.u16 stream] 1 (bump .specCount e (5 + stream) 1 s)

/-- Close the spectrum record in formation (06 R265, R268). -/
def specCloseRec (e : Nat) (took : Bool) (s : State) : State :=
  let x := specOf s e
  match x.form, x.formSet with
  | some f, some r =>
    let payload := bytesWords (x.entries.flatMap fun n => pad8 (entryBytes e r n))
    let item : Item :=
      { kind := 0x20, src := specUnit e, stream := 0, sel := 0, seq := f.seq, gen := 0, stamp := f.stamp, epoch := f.epoch,
        planEpoch := f.planEp, evSeq := 0, origin := f.origin, check := x.entries.any fun n => n.flags.testBit 7,
        crc := crcWords payload, payload := payload }
    specOffer e 0 took item (withSpec e (fun x => { x with form := none, formSet := none, entries := [] }) s)
  | _, _ => s

/-- The value of a trace point after n spectra, and whether db() clamped it (06 R257). -/
def traceVal (r : SpecRun) (n : Nat) (a : Int) : Int × Nat :=
  let lin := fun x : Int => db x.toNat r.ref
  let logd := r.set.det == 4
  match r.set.tmode with
  | 0 => (a, 0)
  | 2 => (a / n, 0)
  | 1 => if logd then (a / n, 0) else lin (a / n)
  | 5 => if logd then (a / n, 0) else lin ((a / n) * (a / n))
  | _ => if logd then (a, 0) else lin a

/-- Clamps: counted in the engine, and reported at most once per 1 ms (06 R252). -/
def specSat (e k : Nat) (s : State) : State :=
  if k = 0 then s else raiseRated 0x0405 (specUnit e) [] k (bump .specCount e 0 k s)

/-- Emit the trace in formation with an extra flag (06 R257, R266, R267). -/
def specEmitTrace (e extra : Nat) (took : Bool) (s : State) : State :=
  let x := specOf s e
  match x.trace, x.traceSet with
  | some f, some r =>
    let vs := x.tacc.map (traceVal r x.tcount)
    let flags := Nat.lor (Nat.land x.tflags 0x2FF) extra
    let bytes := leBytes 6 f.seq ++ leBytes 1 e ++ leBytes 1 0x12 ++ wordsBytes (stampWords f.stamp)
      ++ leBytes 2 r.set.points ++ leBytes 1 r.set.det ++ leBytes 1 r.set.tmode ++ leBytes 4 x.tcount
      ++ leBytes 2 flags ++ leBytes 2 0 ++ vs.flatMap fun v => leBytes 2 (unsgn 16 v.1)
    let payload := bytesWords (pad8 bytes)
    let item : Item :=
      { kind := 0x21, src := specUnit e, stream := 1, sel := 0, seq := f.seq, gen := 0, stamp := f.stamp, epoch := f.epoch,
        planEpoch := f.planEp, evSeq := 0, origin := f.origin, check := flags.testBit 7, crc := crcWords payload,
        payload := payload }
    let k := (vs.map (·.2)).sum
    let s := if k = 0 then s else bump .specCoreCount x.tcore 1 k s
    specOffer e 1 took item (specSat e k
      (withSpec e (fun x => { x with trace := none, traceSet := none, tacc := [], tcount := 0, tflags := 0 }) s))
  | _, _ => s

/-- The trace's accumulator after one more spectrum (06 R257). -/
def traceAdd (r : SpecRun) (acc : List Int) (vals pts : List Int) : List Int :=
  let logd := r.set.det == 4
  let new := match r.set.tmode with
    | 0 => pts
    | 2 => pts
    | 5 => if logd then vals else vals.map fun v => (Nat.sqrt v.toNat : Nat)
    | _ => vals
  if acc.isEmpty then new
  else match r.set.tmode with
    | 0 => new
    | 3 => (acc.zip new).map fun p => max p.1 p.2
    | 4 => (acc.zip new).map fun p => min p.1 p.2
    | _ => (acc.zip new).map fun p => p.1 + p.2

/-! Detectors (06 R255, R256). -/

/-- The indices of display point p: first, and number. -/
def pointSpan (c : SpecSet) (p : Nat) : Nat × Nat :=
  let lo := c.detFirst + p * c.detSpan / c.points
  if c.points ≤ c.detSpan then (lo, (p + 1) * c.detSpan / c.points - p * c.detSpan / c.points) else (lo, 1)

/-- The value of a point over its linear and dB values; log average yields a dB value (06 R256). -/
def pointVal (c : SpecSet) (enbw : Nat) (q : List Nat) (d : List Int) : Int :=
  let n := q.length
  match c.det with
  | 0 => (q.foldl max 0 : Nat)
  | 1 => (q.foldl min (q.foldl max 0) : Nat)
  | 2 => (q.getD ((n - 1) / 2) 0 : Nat)
  | 3 => (q.sum / n : Nat)
  | 4 => d.sum / n
  | 5 => let v := (q.map Nat.sqrt).sum / n; (v * v : Nat)
  | _ => (q.sum * 65536 / enbw : Nat)

/-- Detector values and output of a spectrum in frequency order, and the clamps of db(). The sample detector takes index
(lo + hi) div 2. -/
def detect (c : SpecSet) (enbw : Nat) (ref : Int) (q : List Nat) (d : List Int) : List Int × List Int × Nat :=
  let ps := (List.range c.points).map fun p =>
    let (lo, n) := pointSpan c p
    let v := if c.det = 2 then ((q.getD ((lo + (lo + n - 1)) / 2) 0 : Nat) : Int)
             else pointVal c enbw ((q.drop lo).take n) ((d.drop lo).take n)
    if c.det = 4 then (v, v, 0) else let x := db v.toNat ref; (v, x.1, x.2)
  (ps.map (·.1), ps.map (fun x => x.2.1), (ps.map fun x => x.2.2).sum)

/-! The transform (06 R249, R250, R253). -/

/-- The windowed input v (06 R249). -/
def windowed (r : SpecRun) (x : List Cx) : List Cx :=
  x.zipIdx.map fun p =>
    let w := windowUse r.bank r.set.n p.2
    (asr (p.1.1 * w) 6, asr (p.1.2 * w) 6)

/-- The first pass of a two-pass FFT: z in the order k1 n2 + n2i, and its clamps (06 R253). -/
def bigPass1 (c : SpecSet) (v : List Cx) : List Cx × Nat :=
  let l1 := (c.lg + 1) / 2
  let n1 := 2 ^ l1
  let n2 := 2 ^ (c.lg / 2)
  let cols := (List.range n2).map fun i =>
    let f := fft (-1) c.mask l1 ((List.range n1).map fun k => v.getD (i + n2 * k) (0, 0))
    let z := f.1.zipIdx.map fun p =>
      let t : Cx := (cosTab (i * p.2) c.n, -sinTab (i * p.2) c.n)
      let tr := (p.1.1 * t.1 - p.1.2 * t.2) / 2 ^ 17
      let ti := (p.1.1 * t.2 + p.1.2 * t.1) / 2 ^ 17
      satCx 16 (asr tr c.inter, asr ti c.inter)
    (z.map (·.1), f.2 + (z.map (·.2)).sum)
  ((List.range c.n).map fun k => (cols.getD (k % n2) ([], 0)).1.getD (k / n2) (0, 0), (cols.map (·.2)).sum)

/-- The second pass, over z (06 R253). -/
def bigPass2 (c : SpecSet) (z : List Cx) : List Cx × Nat :=
  let l1 := (c.lg + 1) / 2
  let l2 := c.lg / 2
  let n1 := 2 ^ l1
  let n2 := 2 ^ l2
  let rows := (List.range n1).map fun k1 => fft (-1) (c.mask / 2 ^ l1) l2 ((z.drop (k1 * n2)).take n2)
  ((List.range c.n).map fun k => (rows.getD (k % n1) ([], 0)).1.getD (k / n1) (0, 0), (rows.map (·.2)).sum)

/-- The size runs in two passes through HBM. -/
def SpecSet.big (c : SpecSet) : Bool := decide (16 ≤ c.lg)

/-- y of a frame and its clamps (06 R249, R253). -/
def frameFft (fr : SpecFrame) : List Cx × Nat :=
  let c := fr.run.set
  if c.big then
    let f := bigPass2 c fr.samples
    (f.1, f.2 + fr.clamps)
  else fft (-1) c.mask c.lg (windowed fr.run fr.samples)

/-- Whether every component fits 24 bits after a shift by b. -/
def fitsShift (y : List Cx) (b : Nat) : Bool := y.all fun v => !overS 24 (asr v.1 b) && !overS 24 (asr v.2 b)

/-- A spectrum's values of y: o of every bin, BEXP + 11, and the clamps (06 R249, R250, R253). -/
def spectrum (s : State) (c : SpecSet) (f : List Cx × Nat) : List Cx × Nat × Nat :=
  let b := if c.bfix then c.fixedShift
           else ((List.range 5).find? (fitsShift f.1)).getD (Config.noShift s.free % 5)
  let o := f.1.map fun v => satCx 24 (asr v.1 b, asr v.2 b)
  let ones := ((List.range c.lg).filter fun k => c.mask.testBit k).length
  (o.map (·.1), b + ones + (if c.big then c.inter else 0), f.2 + (o.map (·.2)).sum)

/-- q of a bin: its exact linear value (06 R250). -/
def binPower (e : Nat) (o : Cx) : Nat := (o.1 * o.1 + o.2 * o.2).toNat * 4 ^ e

/-- Bins in frequency order: index i holds bin (i + N / 2) mod N (06 R255). -/
def freqOrder {α : Type} (l : List α) : List α := l.drop (l.length / 2) ++ l.take (l.length / 2)

/-- A spectrum's body in a record (06 R265). -/
def specBody (c : SpecSet) (o : List Cx) (d : List Int) : List Byte :=
  if c.fmt = 0 then ((d.drop c.outFirst).take c.outCount).flatMap fun v => leBytes 2 (unsgn 16 v)
  else ((o.drop c.outFirst).take c.outCount).flatMap fun v => leBytes 3 (unsgn 24 v.1) ++ leBytes 3 (unsgn 24 v.2)

/-- The record and trace in formation are closed as a set or the engine's work ends; a full port drops them (06 R259, R261,
R263). -/
def specFinish (e : Nat) (s : State) : State :=
  let x := portTook (specUnit e) 0 s
  let s := specCloseRec e x.1 x.2
  let y := portTook (specUnit e) 1 s
  specEmitTrace e 256 y.1 y.2

/-- A spectrum goes to the masks and the density engine of its channel, as far as they run (06 R240). -/
def specSide (e : Nat) (out : SpecOut) (s : State) : State :=
  let s := if ustate s (trigUnit e) = .running then withTrig e (fun t => { t with spectra := t.spectra ++ [out] }) s else s
  if ustate s (0x100 + e) = .running then
    { s with dens := vset s.dens e { vget s.dens e Dens.reset with spectra := (vget s.dens e Dens.reset).spectra ++ [out] } }
  else s

/-- SPECTRUM_COMPUTED: the oldest complete frame of engine e; whether the fabric takes a spectrum record and a trace
that it completes (06 R241, R243, R249 to R257, R263 to R267). -/
def spectrumComputed (e : Nat) (took0 took1 : Bool) (fr : SpecFrame) (s : State) : State :=
  let r := fr.run
  let c := r.set
  let core := 4 * e + fr.index % 4
  let s := if fr.fresh then specFinish e s
           else if (specOf s e).traceBreak then specEmitTrace e 256 took1 s else s
  let s := withSpec e (fun x => { x with traceBreak := false }) s
  let f := frameFft fr
  let sp := spectrum s c f
  let s := if !c.bfix && ((List.range 5).all fun b => !fitsShift f.1 b) then nextFree s else s
  let o := freqOrder sp.1
  let q := o.map (binPower sp.2.1)
  let dq := q.map fun v => db v r.ref
  let d := dq.map (·.1)
  let dt := detect c r.enbw r.ref q d
  let clamps := sp.2.2 + (dq.map (·.2)).sum + dt.2.2
  let flags := Nat.lor fr.flags ((if clamps = 0 then 0 else 4) + (if c.big then 512 else 0))
  let seq := (specOf s e).seq
  let s := wr .specSeq e 0 (BitVec.ofNat 32 seq) (wr .specSeq e 1 (BitVec.ofNat 32 (seq / 2 ^ 32)) s)
  let s := wr .specCoreCount core 0 (rd s .specCoreCount core 0 + 1) s
  let s := specSat e clamps (if clamps = 0 then s else bump .specCoreCount core 1 clamps s)
  let s := if flags.testBit 7 then bump .specCount e 4 1 s else s
  let (st, s) := stampFrom (specUnit e) (unsgn 112 fr.time / 2 ^ 24) fr.qual s
  let info : FormInfo := { seq := seq, stamp := st, origin := fr.origin, epoch := fr.epoch, planEp := fr.planEp }
  let s := specSide e
    { channel := e, seq := seq, stamp := st, flags := flags, size := c.n, bins := d, points := dt.2.1, origin := fr.origin,
      arrived := fr.arrived } s
  let send := c.outEn && r.done % c.stride == 0
  let one := fun y : SpecRun => if y.id = r.id then { y with done := y.done + 1 } else y
  let s := withSpec e (fun x => { x with
    seq := (x.seq + 1) % 2 ^ 48,
    run := x.run.map one,
    ready := x.ready.map fun g => { g with run := one g.run },
    begun := x.begun.map fun g => { g with run := one g.run },
    form := if send && x.form.isNone then some info else x.form,
    formSet := if send && x.form.isNone then some r else x.formSet,
    entries := if send then x.entries ++ [{ seq := seq, stamp := st, bexp := (sp.2.1 : Int) - 11, flags := flags,
                                            body := specBody c o d }] else x.entries }) s
  let s := if send && decide (c.spr ≤ (specOf s e).entries.length) then specCloseRec e took0 s else s
  if c.trEn then
    let s := withSpec e (fun x => { x with
      trace := if x.trace.isNone then some info else x.trace,
      traceSet := if x.trace.isNone then some r else x.traceSet,
      tacc := traceAdd r x.tacc dt.1 dt.2.1, tcount := x.tcount + 1, tflags := Nat.lor x.tflags flags, tcore := core }) s
    if c.tmode = 0 ∨ c.tcount ≤ (specOf s e).tcount then specEmitTrace e 0 took1 s else s
  else s

/-! Two-pass frames in HBM (06 R238, R253; 15 R514). The engine's region holds the input samples as a ring in its first half
and the intermediate values of two frames in its second half (DESIGN CHOICE, log entry 37). -/

/-- The engine's region (06 R254). -/
def specRegion (s : State) (e : Nat) : Option PlanRegion := regionById s (getF s .specCfg e 0 4 16)

/-- Bytes of the ring of input samples. -/
def ringBytes (r : PlanRegion) : Nat := max 4096 (r.size / 2 / 4096 * 4096)

/-- Offset of the intermediate values of frame number k. -/
def zOffset (r : PlanRegion) (k : Nat) : Nat := ringBytes r + k % 2 * (r.size / 4 / 4096 * 4096)

/-- A run of bytes cut into accesses of at most 65,536 bytes that do not pass the end of a ring; with fuel. -/
def memPieces : Nat → Nat → Nat → Nat → List (Nat × Nat)
  | 0, _, _, _ => []
  | f + 1, off, len, ring =>
    if len = 0 then []
    else
      let o := off % ring
      let k := min len (min 65536 (ring - o))
      (o, k) :: memPieces f (off + k) (len - k) ring

/-- The bytes of an int16 sample. -/
def cxBytes (x : Cx) : List Byte := leBytes 4 (iqWord x.1 x.2).toNat

/-- The samples of bytes. -/
def bytesCx (b : List Byte) : List Cx := (bytesWords b).map fun w => (sgn 16 (fld w 0 16), sgn 16 (fld w 16 16))

/-- A memory item of engine e on producer stream 2: op 1 writes data, op 2 reads (15 R514). -/
def specMem (e op len off : Nat) (data : List Byte) (s : State) : State :=
  let hdr := leBytes 1 op ++ [0#8] ++ leBytes 2 (getF s .specCfg e 0 4 16) ++ leBytes 4 len ++ leBytes 8 off
    ++ leBytes 4 (specOf s e).tag ++ List.replicate 12 0#8
  let p := bytesWords (hdr ++ data)
  offer { kind := 0, src := specUnit e, stream := 2, sel := 0, seq := 0, gen := 0, stamp := Stamp.zero,
          epoch := epochOf s (specUnit e), planEpoch := planEpoch s, evSeq := 0, origin := 0, check := false, crc := crcWords p,
          payload := p } s

/-- Ask for pieces of the region, with a new tag. -/
def specAsk (e : Nat) (ps : List (Nat × Nat)) (s : State) : State :=
  let s := withSpec e (fun x => { x with tag := (x.tag + 1) % 2 ^ 32, want := ps.length, got := [] }) s
  ps.foldl (fun s p => specMem e 2 p.2 p.1 [] s) s

/-- Write bytes to the region from an offset on. -/
def specPut (e : Nat) : List (Nat × Nat) → List Byte → State → State
  | [], _, s => s
  | p :: r, b, s => specPut e r (b.drop p.2) (specMem e 1 p.2 p.1 (b.take p.2) s)

/-- The first bytes of a frame's first aligned access that lie before its first sample. -/
def frameLead (fr : SpecFrame) : Nat := (fr.start * 4).toNat % 32

/-- The oldest complete frame, if it is a two-pass one whose samples stand in HBM, is read back. -/
def specPump (e : Nat) (s : State) : State :=
  match (specOf s e).ready, specRegion s e with
  | fr :: rest, some r =>
    if fr.run.set.big ∧ fr.phase = 0 then
      let len := (frameLead fr + 4 * fr.run.set.n + 31) / 32 * 32
      specAsk e (memPieces (len / 32) ((fr.start * 4).toNat - frameLead fr) len (ringBytes r))
        (withSpec e (fun x => { x with ready := { fr with phase := 1 } :: rest }) s)
    else s
  | _, _ => s

/-- Everything asked for has come: the first pass runs and its values are stored and read back, or they are here. -/
def specRead (e : Nat) (b : List Byte) (s : State) : State :=
  match (specOf s e).ready, specRegion s e with
  | fr :: rest, some r =>
    let c := fr.run.set
    if fr.phase = 1 then
      let p := bigPass1 c (windowed fr.run ((bytesCx (b.drop (frameLead fr))).take c.n))
      let ps := memPieces (c.n / 8) (zOffset r fr.index) (4 * c.n) (max r.size (zOffset r fr.index + 4 * c.n))
      let s := withSpec e (fun x => { x with ready := { fr with phase := 2, clamps := p.2 } :: rest }) s
      specAsk e ps (specPut e ps (p.1.flatMap cxBytes) s)
    else if fr.phase = 2 then
      withSpec e (fun x => { x with ready := { fr with phase := 3, samples := (bytesCx b).take c.n } :: rest }) s
    else s
  | _, _ => s

/-- A read response on consumer stream 1: its data; where it brings none, bytes of no known value (06 R238; 15 R514). -/
def specResponse (e : Nat) (i : Item) (s : State) : State :=
  let x := specOf s e
  let b := wordsBytes (i.payload.take 8)
  let status := leNat ((b.drop 1).take 1)
  let len := leNat ((b.drop 4).take 4)
  if x.want = 0 ∨ leNat ((b.drop 16).take 4) ≠ x.tag then s
  else
    let (data, s) :=
      if status = 0 ∨ status = 3 then ((wordsBytes (i.payload.drop 8)).take len, s)
      else ((List.range len).map (Config.failedByte s.free), nextFree s)
    let got := x.got ++ data
    let s := withSpec e (fun x => { x with want := x.want - 1, got := got }) s
    if x.want = 1 then specRead e got s else s

/-- The record, the trace and the frames in formation are discarded (06 R262). -/
def specDiscard (e : Nat) (s : State) : State :=
  withSpec e (fun x => { x with begun := [], ready := [], form := none, formSet := none, entries := [], trace := none,
                                traceSet := none, tacc := [], tcount := 0, tflags := 0, want := 0, got := [] }) s

/-- A lasting fault in FFT core k of engine e: the core and its engine enter FAULT (06 R243, 21 R636). -/
def specCoreFault (e k : Nat) (s : State) : State :=
  let core := fftUnit (4 * e + k)
  let s := raise 0x0409 (specUnit e) [.u16 (4 * e + k)] s
  let s := enterFault (specUnit e) 11 0 (specDiscard e (enterFault core 11 0 s))
  faultLasting 0 core 0 0 0 [] s

/-- SPECTRUM_COMPUTED: whether the core that computes the frame meets a lasting fault. A two-pass frame waits for its values
from HBM (06 R253). -/
def execSpectrumComputed (e : Nat) (took0 took1 coreFault : Bool) (s : State) : Out :=
  match (specOf s e).ready with
  | [] => .next s
  | fr :: rest =>
    if (ustate s (specUnit e)).busy ∧ (fr.run.set.big = true → fr.phase = 3) then
      if coreFault then .next (specCoreFault e (fr.index % 4) s)
      else
        let s := specPump e (spectrumComputed e took0 took1 fr (withSpec e (fun x => { x with ready := rest }) s))
        if ustate s (specUnit e) = .draining ∧ (specOf s e).ready = [] then .next (specFinish e s) else .next s
    else .next s

/-! Input, frames and commits (06 R241, R258 to R260). -/

/-- Input sample n, of device time `time` in 2^-64 s, is a frame start at which the pending commit takes effect. -/
def specDue (time : Int) (c : SpecCommit) : Bool :=
  !c.waits && match c.at_ with
    | none => true
    | some t => decide (((t * 2 ^ 24 : Nat) : Int) ≤ time)

/-- A set takes effect at input sample q0 (06 R258, R259). -/
def specApply (e : Nat) (q0 : Int) (c : SpecCommit) (s : State) : State :=
  let s := if c.swap then bankSwap e c.set s else s
  let gen := (getF s .specStatus e 0 16 16 + 1) % 2 ^ 16
  let s := bumpEpoch (specUnit e) (setB .specStatus e 0 0 false (setF .specStatus e 0 16 16 gen s))
  let x := specOf s e
  let s := if x.begun = [] ∧ x.ready = [] then specFinish e s else s
  let s := withSpec e (fun x => { x with commit := none, run := some (specRun s e c.set q0), newFlags := Nat.lor x.newFlags 8 }) s
  raise 0x0402 (specUnit e) [.u16 gen, .u64 ((x.seq + x.begun.length + x.ready.length) % 2 ^ 48)] s

/-- The frame start at input sample n, of device time `time` in 2^-64 s, reaches the input: the pending commit takes effect if
it is due; one captured after the cycle of a frame start waits for the next (06 R258). -/
def specJudge (e : Nat) (n time : Int) (s : State) : State :=
  if (specOf s e).judged = some n then s
  else
    let s := withSpec e (fun x => { x with judged := some n }) s
    match (specOf s e).commit with
    | some c => if specDue time c then specApply e n c s else s
    | none => s

/-- Begin the frame at input sample n (06 R241). -/
def specBegin (e : Nat) (n : Int) (r : SpecRun) (s : State) : State :=
  let x := specOf s e
  let (qual, origin) := match recAt x.recs n with | some q => (q.qual, recOrigin q n) | none => (0#8, 0#64)
  let fr : SpecFrame :=
    { run := r, start := n, index := r.begun, flags := x.newFlags, fresh := x.newFlags.testBit 3,
      time := sampleTime x.recs (spPeriod s e) n, qual := qual, origin := origin, epoch := epochOf s (specUnit e),
      planEp := planEpoch s, arrived := nowTicks s, samples := [], phase := 0, clamps := 0 }
  withSpec e (fun x => { x with begun := x.begun ++ [fr], newFlags := 0,
                                run := some { r with next := r.next + r.set.hop, begun := r.begun + 1 } }) s

/-- Frame starts among the samples received, in order: commits that fall due take effect, frames begin. -/
def specStarts (e : Nat) : Nat → State → State
  | 0, s => s
  | k + 1, s =>
    let x := specOf s e
    match x.run with
    | none => s
    | some r =>
      if r.next < x.base + x.samples.length ∧ 0 < r.set.hop then
        let n := r.next
        let s := specJudge e n (sampleTime x.recs (spPeriod s e) n) s
        match (specOf s e).run with
        | some r => specStarts e k (specBegin e n r s)
        | none => s
      else s

/-- Frames whose samples are all in become ready, with the flags of the parcels they use (06 R260); samples and records
that no frame needs are let go. -/
def specReady (e : Nat) (s : State) : State :=
  withSpec e (fun x =>
    let have_ : Int := x.base + x.samples.length
    let full := fun f : SpecFrame => decide (f.start + f.run.set.n ≤ have_)
    let fill := fun f : SpecFrame =>
      let hi := f.start + f.run.set.n - 1
      { f with samples := if f.run.set.big then [] else (x.samples.drop (f.start - x.base).toNat).take f.run.set.n,
               flags := Nat.lor f.flags (b2n (recAny x.recs f.start hi (·.inserted))
                 + 16 * b2n (recAny x.recs f.start hi (·.flagged)) + 128 * b2n (recAny x.recs f.start hi (·.failed))) }
    let begun := x.begun.filter fun f => !full f
    let low := begun.foldl (fun m f => min m f.start) have_
    let held := begun.foldl (fun m f => if f.run.set.big then m else min m f.start) have_
    { x with ready := x.ready ++ (x.begun.filter full).map fill, begun := begun,
             samples := x.samples.drop (held - x.base).toNat, base := max x.base held,
             recs := x.recs.filter fun r => decide (low < r.n0 + 1024) || decide (x.recs.head?.any fun h => h.n0 == r.n0) }) s

/-- The samples of a two-pass set go to HBM (06 R253). -/
def specStore (e : Nat) (n0 : Int) (xs : List Cx) (s : State) : State :=
  let x := specOf s e
  if (x.run.any fun r => r.set.big) || x.begun.any fun f => f.run.set.big then
    match specRegion s e with
    | some r => specPut e (memPieces 2 (n0 * 4).toNat (4 * xs.length) (ringBytes r)) (xs.flatMap cxBytes) s
    | none => s
  else s

/-- 1,024 samples enter, described by a record. -/
def specTake (e : Nat) (r : InRec) (xs : List Cx) (s : State) : State :=
  let s := withSpec e (fun x => { x with recs := r :: x.recs, samples := x.samples ++ xs }) s
  let s := specStore e r.n0 xs (specStarts e ((specOf s e).samples.length + 1) s)
  specPump e (specReady e s)

/-- Frames begun that lack samples are abandoned and counted; their marks pass to the next frame (06 R260, R261). -/
def specAbandon (e : Nat) (s : State) : Nat × State :=
  let x := specOf s e
  let k := x.begun.length
  (k, withSpec e (fun x => { x with begun := [], newFlags := x.begun.foldl (fun a f => Nat.lor a f.flags) x.newFlags })
        (bump .specCount e 3 k s))

/-- A new generation: a new grid at its first sample (06 R260). -/
def specRestart (e : Nat) (s : State) : State :=
  let (k, s) := specAbandon e s
  let s := raise 0x0407 (specUnit e) [.u32 k] (bump .specCount e 2 1 s)
  withSpec e (fun x =>
    let q : Int := x.base + x.samples.length
    { x with base := q, samples := [], recs := [], ended := false, newFlags := Nat.lor x.newFlags 2,
             run := x.run.map fun r => { r with q0 := q, next := q, begun := 0 } }) s

/-- Zero samples for missing parcels or blocks (06 R260). -/
def specGap (e miss : Nat) (s : State) : State :=
  if miss = 0 then s
  else
    let period := spPeriod s e
    let s := raise 0x0406 (specUnit e) [.u32 (1024 * miss)] (bump .specCount e 1 (1024 * miss) s)
    (List.range miss).foldl (fun s _ =>
      let x := specOf s e
      let r := gapRec (x.base + x.samples.length) period x.recs.head? (originRef e 0)
      specTake e r (List.replicate 1024 (0, 0)) s) s

/-- Flags of an item that mark spectra INPUT_FLAGGED (06 R260). -/
def specBad (i : Item) : Bool :=
  let f := hdrFlags i
  if fromLink i then parcelBad f else f.testBit 2 || f.testBit 4 || f.testBit 5

/-- SPEC_INPUT: a parcel of the engine's link or a block of its tuner (06 R239, R241, R260). -/
def specInput (e : Nat) (i : Item) (s : State) : State :=
  let x := specOf s e
  let (begins, ends) := itemGeneration i x.ended
  let s := if begins then specRestart e s else specGap e (missingItems x.lastSeq i.seq) s
  let x := specOf s e
  let r := inputRec s i (x.base + x.samples.length) (specBad i) (itemFails i)
  let s := withSpec e (fun x => { x with lastSeq := some i.seq, ended := ends }) s
  specTake e r ((List.range 1024).map (itemSample i)) s

/-- SPEC_INPUT: the next item that the fabric brings to a consumer stream of spectral engine e: input samples on stream 0,
two-pass data from HBM on stream 1 (06 R238). -/
def execSpecInput (e stream : Nat) (s : State) : Out :=
  match takeDelivered (24 + e) stream s with
  | none => .next s
  | some (i, t) =>
    if stream = 1 then .next (if (ustate s (specUnit e)).busy then specResponse e i t else t)
    else .next (if ustate s (specUnit e) = .running then specInput e i t else refuseItem (24 + e) 0 s t)

/-- SPEC_COMMIT_APPLY: the cycle in which the next frame start, of device time `time` in 2^-40 s, reaches the input
(06 R258, R259). -/
def execSpecCommitApply (e time : Nat) (s : State) : Out :=
  let x := specOf s e
  match x.run with
  | some r =>
    if ustate s (specUnit e) = .running ∧ r.next = x.base + x.samples.length then
      .next (specJudge e r.next ((time * 2 ^ 24 : Nat) : Int) s)
    else .next s
  | none => .next s

/-- A captured set: refused when it fails the check, else pending (06 R247, R258). -/
def specCapture (e : Nat) (at_ : Option Nat) (s : State) : State :=
  let c := specStaged s e
  match specCheck s e c false with
  | some off =>
    raise 0x0403 (specUnit e) [.u32 off] (bump .specCount e 7 1 (setB .specStatus e 0 2 true s))
  | none =>
    let gen := winNew s e c
    let pend : SpecCommit := { set := c, at_ := at_, waits := gen, swap := gen || c.win == 6 }
    withSpec e (fun x => { x with commit := some pend, gen := if gen then some c else x.gen })
      (setB .specStatus e 0 1 (gen || getB s .specStatus e 0 1) (setB .specStatus e 0 0 true s))

/-- A write to SPEC_COMMIT (06 R257, R258). -/
def specCommitEff (e : Nat) (v : BitVec 32) (s : State) : WRes :=
  let s := if bit v 2 then withSpec e (fun x => { x with traceBreak := true }) s else s
  match fld v 0 2 with
  | 1 => (specCapture e none s, 0)
  | 2 =>
    let tc := timeReg s .specCommitTime e
    if tc * 2 ^ 24 < nowTotal s ∧ specCheck s e (specStaged s e) false = none then
      (raise 0x0404 (specUnit e) [.time (mkStamp tc 0)] (setB .specStatus e 0 3 true (specCapture e none s)), 0)
    else (specCapture e (some tc) s, 0)
  | 3 => (withSpec e (fun x => { x with commit := none }) (setB .specStatus e 0 0 false s), 0)
  | _ => (s, 0)

/-- A write of SPEC_COMMIT by an agent. -/
def specCommitW (ag : AgentId) (e : Nat) (v : BitVec 32) (s : State) : State :=
  guardW ag (Reg.off .specCommit e 0) v (specCommitEff e v) s

/-- SPEC_COMMIT_NEXT_FRAME. -/
def execSpecCommitNextFrame (ag : AgentId) (e : Nat) (s : State) : Out := .next (specCommitW ag e 1 s)

/-- SPEC_COMMIT_AT_TIME. -/
def execSpecCommitAtTime (ag : AgentId) (e : Nat) (s : State) : Out := .next (specCommitW ag e 2 s)

/-- SPEC_COMMIT_CANCEL. -/
def execSpecCommitCancel (ag : AgentId) (e : Nat) (s : State) : Out := .next (specCommitW ag e 3 s)

/-- TRACE_RESTART (06 R257). -/
def execTraceRestart (ag : AgentId) (e : Nat) (s : State) : Out := .next (specCommitW ag e 4 s)

/-- WINDOW_GENERATION_DONE: the coefficients stand in the inactive bank; the banks swap when the commit takes effect (06
R247). -/
def execWindowGenerationDone (e : Nat) (s : State) : Out :=
  match (specOf s e).gen with
  | none => .next s
  | some c =>
    .next (withSpec e (fun x => { x with gen := none, commit := x.commit.map fun p => { p with waits := false } })
      (winGenerate e c (setB .specStatus e 0 1 false s)))

/-- The next window address. -/
def winStep (e : Nat) (s : State) : State :=
  wr .specWinAddr e 0 (BitVec.ofNat 32 ((getF s .specWinAddr e 0 0 16 + 1) % 65536)) s

/-- A write to SPEC_WIN_DATA: a coefficient of the inactive bank; while a pending commit claims that bank the write is
taken as aimed at the active one and refused (06 R247; DESIGN CHOICE, log entry 22). -/
def winDataEff (e : Nat) (v : BitVec 32) (s : State) : WRes :=
  let x := specOf s e
  if x.commit.any fun c => c.waits || c.swap then (s, 4)
  else
    let a := getF s .specWinAddr e 0 0 16
    (winStep e { s with winBank := spPut s.winBank (winKey e (1 - x.bank) a) (fld v 0 17) 0 }, 0)

/-- WIN_DATA_WRITE (06 R247). -/
def execWinDataWrite (ag : AgentId) (e : Nat) (v : BitVec 32) (s : State) : Out :=
  .next (guardW ag (Reg.off .specWinData e 0) v (winDataEff e v) s)

/-! The engine as a unit. -/

/-- START: the check, then the staged set as a commit at input sample 0; a pending capture is given up (06 R242, R259; log
entry 32). -/
def specStart (e : Nat) (s : State) : State :=
  let c := specStaged s e
  match specCheck s e c true with
  | some off => enterFault (specUnit e) 7 (off % 2 ^ 16) (raise 0x0401 (specUnit e) [.u32 off] s)
  | none =>
    let s := changeState (specUnit e) .running s
    let s := if winNew s e c then bankSwap e c (winGenerate e c s) else if c.win = 6 then bankSwap e c s else s
    let s := withSpec e (fun x => { Spec.reset with seq := x.seq, bank := x.bank, tag := x.tag, newFlags := 64, run := x.run })
      (setB .specStatus e 0 1 false s)
    specApply e 0 { set := c, at_ := none, waits := false, swap := false } s

/-- The last spectrum before DRAIN or STOP carries STOP (06 R261). -/
def markStop (x : Spec) : Spec :=
  match x.ready.reverse with
  | f :: r => { x with ready := (({ f with flags := Nat.lor f.flags 32 } : SpecFrame) :: r).reverse }
  | [] => { x with entries := match x.entries.reverse with
                     | n :: r => (({ n with flags := Nat.lor n.flags 32 } : SpecEntry) :: r).reverse
                     | [] => [],
                   tflags := if x.trace.isSome then Nat.lor x.tflags 32 else x.tflags }

/-- DRAIN or STOP (06 R261). -/
def specDrain (e : Nat) (s : State) : State :=
  let s := withSpec e markStop (specAbandon e s).2
  if (specOf s e).ready = [] then specFinish e s else s

/-- Something is in formation. -/
def specPartial (s : State) (e : Nat) : Bool :=
  let x := specOf s e
  x.form.isSome || x.trace.isSome || !x.ready.isEmpty || !x.begun.isEmpty

end Sys2Proof.Machine
end

