-- ==== Sys2Proof/Machine/Trigger.lean ====
section
/-! DEFINITION. The trigger engines, the weir tree and the TRIG_OUT pins (07_triggers.md). -/

namespace Sys2Proof.Machine

/-! Resets and accessors. -/

/-- The staged set of engine t (07 R290). -/
def trigStaged (s : State) (t : Nat) : TrigSet :=
  { td := (List.range 4).map fun d =>
      { cfg := rd s .trigTdCfg t d, level := rd s .trigTdLevel t d, hyst := rd s .trigTdHyst t d,
        magLo := rd s .trigTdMagLo t d, magHi := rd s .trigTdMagHi t d, wmin := rd s .trigTdWmin t d,
        wmax := rd s .trigTdWmax t d },
    fm := (List.range 4).map fun k => (rd s .trigFmCfg t k, rd s .trigFmMinbins t k),
    densX := rd s .trigDensBoxX t 0, densY := rd s .trigDensBoxY t 0, dens := rd s .trigDensCfg t 0 }

/-- Weir w. -/
def weir (s : State) (w : Nat) : Weir := vget s.tree.weirs w Weir.reset

/-- Change weir w. -/
def withWeir (w : Nat) (f : Weir → Weir) (s : State) : State :=
  { s with tree := { s.tree with weirs := vset s.tree.weirs w (f (weir s w)) } }

/-- The device time of stream cycle c in 2^-40 s, at the rate word in force (03 R131). -/
def cycleTime (s : State) (c : Nat) : Nat :=
  ((nowTotal s : Int) + ((c : Int) - s.time.cycles) * s.time.rate.toNat).toNat / 2 ^ 24

/-- The tree works only while trigger engine 0 is RUNNING (07 R271). -/
def treeOn (s : State) : Bool := ustate s 0x0C0 == .running

/-! Sources (07 R272 to R274, R286, R300). -/

/-- Source index of input x of weir w. -/
def weirSrc (s : State) (w x : Nat) : Nat := getF s .trigWeirIn w 0 (8 * x) 8

/-- Input x of weir w is inverted. -/
def weirInv (s : State) (w x : Nat) : Bool := getB s .trigWeirInv w 0 x

/-- DELAY of input x of weir w in cycles. -/
def weirDelay (s : State) (w x : Nat) : Nat := getF s .trigWeirDelay w (x / 2) (16 * (x % 2)) 16

/-- The unit of a source yields levels: not OFF, GATED, READY or FAULT (07 R274). -/
def srcLive (s : State) (u : Nat) : Bool :=
  match ustate s u with
  | .running | .draining | .frozen => true
  | _ => false

/-- The level of EVT_IN_i as a source: that of its pin while TDC input i works (07 R272, R274, R286). -/
def evtLevel (s : State) (i : Nat) : Bool := srcLive s (0x140 + i) && s.tree.evt.testBit i

/-- The level of a source in a cycle (07 R272). -/
def srcLevel (s : State) (i cycle : Nat) : Bool :=
  if i < 0x40 then srcLive s (trigUnit (i / 16)) && decide (i % 16 ≤ 8) && getB s .trigStatus (i / 16) 0 (16 + i % 16)
  else if i < 0x48 then evtLevel s (i - 0x40)
  else if i < 0x78 then srcLive s (0x160 + (i - 0x48) / 2) && s.tree.dsp.testBit (i - 0x48)
  else if i < 0x7C then getB s .trigSwLevel 0 0 (i - 0x78) || spGet s.tree.swPulse (i - 0x78) 0 == cycle + 1
  else if 0x80 ≤ i ∧ i < 0x90 then (weir s (i - 0x80)).fireAt.any fun c => c + 2 == cycle
  else false

/-- An index that names a present unit's source, a weir below w, or nothing (07 R272, R274, R302). -/
def srcOk (s : State) (w i : Nat) : Bool :=
  if i < 0x40 then decide (i % 16 ≤ 8) && unitPresent s (trigUnit (i / 16))
  else if i < 0x48 then unitPresent s (0x140 + (i - 0x40))
  else if i < 0x78 then unitPresent s (0x160 + (i - 0x48) / 2)
  else if i < 0x7C then true
  else if 0x80 ≤ i ∧ i < 0x90 then decide (i - 0x80 < w)
  else i == 0xFF

/-- Put an arrival into the network, or into its input's delay line (07 R294). -/
def weirPush (a : Arrival) (s : State) : State :=
  match weirDelay s a.weir a.input with
  | 0 => { s with tree := { s.tree with net := s.tree.net ++ [a] } }
  | d => withWeir a.weir (fun x => { x with line := x.line ++ [{ a with cycle := a.cycle + d }] }) s

/-- The weirs and inputs that select a source. -/
def srcUsers (s : State) (i : Nat) : List (Nat × Nat) :=
  (List.range 16).flatMap fun w => ((List.range 4).filter fun x => weirSrc s w x == i).map fun x => (w, x)

/-- What a source says of itself without an occurrence: nothing. -/
def noInfo (src : Nat) : Occ := { src := src, time := 0, qual := 0, flags := 0, detail := 0, aux := 0 }

/-- The occurrence that inverted inputs take from a fall: the falling cycle's device time, marked ESTIMATED_TIME, with the
source's flags and data at that moment. Its time is a stamp (07 R294, R304, 03 R130). -/
def fallOcc (info : Occ) (s : State) : Occ × State :=
  let (m, s) := stampAt 0x0C0 info.time 0 s
  ({ info with qual := m.qual, flags := Nat.lor info.flags 16 }, s)

/-- A source's level goes from old to new in a cycle, and it may have an occurrence: what reaches the weirs. An inverted
input has the negated level and its own occurrences, at the falls (07 R294). -/
def srcChange (src cycle : Nat) (old new : Bool) (occ : Option Occ) (info : Occ) (s : State) : State :=
  if !treeOn s then s
  else
    let us := srcUsers s src
    let info := { info with src := src, time := cycleTime s cycle, qual := qualNow s }
    let falls := old && !new && us.any fun p => weirInv s p.1 p.2
    let (f, s) := if falls then fallOcc info s else (info, s)
    us.foldl (fun s p =>
      let a : Arrival := { weir := p.1, input := p.2, cycle := cycle, born := cycle, inverted := weirInv s p.1 p.2,
                           level := new, occ := occ, info := info }
      if a.inverted then
        if old = new then s else weirPush { a with level := !new, occ := if old then some f else none } s
      else if old = new ∧ occ.isNone then s
      else weirPush a s) s

/-- A source has at most one occurrence in a cycle: the first by trigger time is kept, merged instances are counted, wherever
on its way to a weir it is (07 R273). Engine t counts them. -/
def mergeOcc (t : Nat) (o : Occ) (cycle : Nat) (s : State) : State :=
  let join := fun (a : Arrival) =>
    match a.occ with
    | some p =>
      if p.src = o.src ∧ a.born = cycle ∧ !a.inverted then
        { a with occ := some (let k := if o.time < p.time then o else p; { k with flags := Nat.lor k.flags 8 }) }
      else a
    | none => a
  bump .trigCount t 0 1 { s with tree := { s.tree with
    net := s.tree.net.map join, weirs := s.tree.weirs.map fun w => { w with line := w.line.map join } } }

/-- An occurrence of a source, with its level before and after, at the present cycle (07 R272, R273). -/
def srcOccur (t : Nat) (o : Occ) (old new : Bool) (s : State) : State :=
  let cycle := s.time.cycles
  if spGet s.tree.lastOcc o.src 0 = cycle + 1 then
    srcChange o.src cycle old new none o (mergeOcc t o cycle s)
  else
    let s := { s with tree := { s.tree with lastOcc := spPut s.tree.lastOcc o.src (cycle + 1) 0 } }
    let s := if o.flags.testBit 0 then bump .trigCount t 6 1 s else s
    srcChange o.src cycle old new (some o) o s

/-- Level bit j of engine t in TRIG_STATUS, and what follows in the tree. -/
def trigLevel (t j : Nat) (new : Bool) (info : Occ) (s : State) : State :=
  let old := getB s .trigStatus t 0 (16 + j)
  if old = new then s else srcChange (16 * t + j) s.time.cycles old new none info (setB .trigStatus t 0 (16 + j) new s)

/-- The level of source j of engine t falls with the data behind it discarded. -/
def trigFall (t j : Nat) (s : State) : State := trigLevel t j false (noInfo (16 * t + j)) s

/-- An occurrence of source j of engine t with its new level (07 R272). -/
def trigOccur (t j : Nat) (new : Bool) (o : Occ) (s : State) : State :=
  let old := getB s .trigStatus t 0 (16 + j)
  srcOccur t o old new (setB .trigStatus t 0 (16 + j) new s)

/-- The EVT_IN sources whose level differs from what the weirs have of them: an input has begun or ceased to work (07 R274,
R286). -/
def evtFollow (s : State) : State :=
  (List.range 8).foldl (fun s i =>
    let new := evtLevel s i
    let old := s.tree.evtSeen.testBit i
    if old = new then s
    else
      let b := 2 ^ i
      let s := { s with tree := { s.tree with evtSeen := if new then s.tree.evtSeen + b else s.tree.evtSeen - b } }
      srcChange (0x40 + i) s.time.cycles old new none (noInfo (0x40 + i)) s) s

/-- Flags of an occurrence from the flags of its tuner block or spectrum (07 R289, 05 R226, 06 R267). -/
def occFlags (f : Nat) : Nat :=
  b2n (f.testBit 7) + 2 * b2n (f.testBit 0 || f.testBit 2 || f.testBit 4)

/-! Time-domain detectors (07 R275 to R279). -/

/-- The detector is reset: just started (07 R276). -/
def tdClear (t d : Nat) (s : State) : State :=
  withTrig t (fun e => { e with td := vset e.td d TdState.reset }) s

/-- TYPE, threshold and hysteresis of a detector (07 R275). -/
def tdLimits (c : TdCfg) : Nat × Int × Int :=
  let ty := fld c.cfg 2 2
  let mag : Int := (c.magLo.toNat + 2 ^ 32 * fld c.magHi 0 16 : Nat)
  if ty = 2 ∨ fld c.cfg 4 2 = 2 then (ty, mag, (fld c.hyst 0 24 * 2 ^ 24 : Nat))
  else (ty, sgn 24 (fld c.level 0 24), (fld c.hyst 0 24 : Nat))

/-- g_i^2 + g_q^2. -/
def tdMag (x : TdSample) : Nat := (x.gi * x.gi + x.gq * x.gq).toNat

/-- The comparand, once there is one, the power window after the sample, and the flags of the samples behind it (07 R275,
R276, R289). -/
def tdValue (c : TdCfg) (win : List (Nat × Nat)) (x : TdSample) : Option Int × List (Nat × Nat) × Nat :=
  if fld c.cfg 2 2 = 2 then
    let n := 2 ^ fld c.cfg 8 5
    let win := ((tdMag x, x.flags) :: win).take n
    (if win.length = n then some (((win.map (·.1)).sum / n : Nat) : Int) else none, win,
     win.foldl (fun a p => Nat.lor a p.2) 0)
  else match fld c.cfg 4 2 with
    | 0 => (some x.gi, win, x.flags)
    | 1 => (some x.gq, win, x.flags)
    | _ => (some (tdMag x), win, x.flags)

/-- The crossing time of an edge in 2^-64 s (07 R278). -/
def tdCross (th : Int) (period : Nat) (v0 v1 : Int) (t0 : Nat) : Nat :=
  let f := clampInt 0 255 ((256 * (th - v0)).fdiv (v1 - v0))
  t0 + f.toNat * period / 256

/-- An occurrence that a tested sample yields: its place, the flag it adds, the auxiliary value, the flags of its data. -/
structure TdYield where
  place : TdPlace
  flag : Nat
  aux : Nat
  data : Nat

/-- What a tested sample yields, and the pulse in progress after it (07 R277, R278). `fl`: the flags behind the comparand. -/
def tdYield (c : TdCfg) (th hy : Int) (period : Nat) (st : TdState) (old new : Bool) (v : Int) (p : TdPlace) (fl : Nat) :
    Option TdYield × Option (Nat × TdPlace × Nat) :=
  match fld c.cfg 2 2 with
  | 1 =>
    let slope := fld c.cfg 6 2
    if old != new && (slope == 2 || slope == (if new then 0 else 1)) then
      (match st.prev with
       | some (v0, p0, f0) =>
         (some { place := { p0 with time := tdCross (if new then th else th - hy) period v0 v p0.time }, flag := 4, aux := 0,
                 data := Nat.lor f0 fl }, none)
       | none => (some { place := p, flag := 0, aux := 0, data := fl }, none))
    else (none, none)
  | 3 =>
    let wmin := c.wmin.toNat
    let wmax := c.wmax.toNat
    let mode := fld c.cfg 13 2
    if new then
      let pu := if old then st.pulse.map fun q => (q.1 + 1, q.2.1, Nat.lor q.2.2 fl) else some (1, p, fl)
      (match pu with
       | some (w, q, f) => if mode = 1 ∧ w = max wmin 1 then some { place := q, flag := 0, aux := w, data := f } else none
       | none => none, pu)
    else
      (match st.pulse with
       | some (w, q, f) =>
         if (mode = 0 ∧ wmin ≤ w ∧ w ≤ wmax) ∨ (mode = 2 ∧ w < wmin) ∨ (mode = 3 ∧ wmax < w) then
           some { place := q, flag := 0, aux := w, data := f }
         else none
       | none => none, none)
  | _ => (if !old && new then some { place := p, flag := 0, aux := 0, data := fl } else none, none)

/-- What a detector says of a sample: detail and flags (07 R289, R304). -/
def tdOcc (t d : Nat) (p : TdPlace) (fl : Nat) : Occ :=
  { src := 16 * t + d, time := p.time / 2 ^ 24, qual := p.qual, flags := occFlags fl,
    detail := p.blkSeq % 2 ^ 48 + p.idx % 1024 * 2 ^ 48, aux := 0 }

/-- A valid sample at an enabled detector (07 R276 to R279). -/
def tdTest (t d : Nat) (c : TdCfg) (x : TdSample) (s : State) : State :=
  let st := vget (trigOf s t).td d TdState.reset
  let put := fun (f : TdState → TdState) (s : State) =>
    withTrig t (fun e => { e with td := vset e.td d (f (vget e.td d TdState.reset)) }) s
  let (ov, win, fl) := tdValue c st.win x
  let p : TdPlace := { time := x.time, qual := x.qual, blkSeq := x.blkSeq, idx := x.idx }
  match ov with
  | none => trigLevel t d false (tdOcc t d p fl) (put (fun z => { z with win := win, gap := false }) s)
  | some v =>
    let (_, th, hy) := tdLimits c
    if !st.started then
      trigLevel t d (decide (th ≤ v)) (tdOcc t d p fl)
        (put (fun z => { z with started := true, gap := false, win := win, prev := some (v, p, fl),
                                pulse := if th ≤ v then some (1, p, fl) else none }) s)
    else
      let old := getB s .trigStatus t 0 (16 + d)
      let new := if th ≤ v then true else if v < th - hy then false else old
      let tun := 4 * t + fld c.cfg 0 2
      let y := tdYield c th hy (tnPeriod s tun * tnD s tun) st old new v p fl
      let s := put (fun z => { z with win := win, gap := false, prev := some (v, p, fl), pulse := y.2 }) s
      match y.1 with
      | none => trigLevel t d new (tdOcc t d p fl) s
      | some z =>
        let (sm, s) := stampFrom (trigUnit t) (z.place.time / 2 ^ 24) z.place.qual s
        let o := tdOcc t d z.place z.data
        trigOccur t d new { o with qual := sm.qual, flags := Nat.lor z.flag o.flags, aux := z.aux } s

/-- TD_SAMPLE: detector d of engine t takes the next value g that its tuner has sent it (05 R208, 07 R275 to R279). -/
def execTdSample (t d : Nat) (s : State) : Out :=
  match vget (trigOf s t).values d [] with
  | [] => .next s
  | x :: rest =>
    let s := withTrig t (fun e => { e with values := vset e.values d rest }) s
    if ustate s (trigUnit t) ≠ .running then .next s
    else
      match (trigOf s t).run.td[d]? with
      | none => .next s
      | some c =>
        if !bit c.cfg 15 then .next s
        else
          let s := if x.restart then tdClear t d s else s
          let st := vget (trigOf s t).td d TdState.reset
          if !x.valid then
            .next (bump .trigCount t 1 1 (withTrig t (fun e => { e with td := vset e.td d { st with gap := true } }) s))
          else .next (tdTest t d c x (if st.gap then tdClear t d s else s))

/-! Frequency masks (07 R280 to R283). -/

/-- Key of a mask word of bank b of engine t. -/
def maskKey (t b a : Nat) : Nat := (t * 2 + b) * 32768 + a

/-- A mask word. -/
def maskWord (s : State) (t b a : Nat) : Word := spGet s.maskBank (maskKey t b a) 0

/-- The active bank (TRIG_STATUS BANK). -/
def maskActive (s : State) (t : Nat) : Nat := getF s .trigStatus t 0 2 1

/-- The segments of a mask from entry j on, with fuel: first index, end (none: to the last index), UPPER, LOWER. -/
def maskSegs (s : State) (t b k : Nat) : Nat → Nat → List (Nat × Option Nat × Int × Int)
  | 0, _ => []
  | n + 1, j =>
    let w0 := maskWord s t b (8192 * k + 2 * j)
    if bit w0 31 then []
    else
      let w1 := maskWord s t b (8192 * k + 2 * j + 1)
      let stop := if n = 0 then none else some (fld (maskWord s t b (8192 * k + 2 * j + 2)) 0 20)
      (fld w0 0 20, stop, sgn 16 (fld w1 0 16), sgn 16 (fld w1 16 16)) :: maskSegs s t b k n (j + 1)

/-- The number of violating indices of a spectrum under mask k of engine t (07 R281). -/
def maskViolations (s : State) (t k : Nat) (cfg : Word) (o : SpecOut) : Nat :=
  let vals := if fld cfg 0 2 = 0 then o.bins else o.points
  let viol := fld cfg 2 2
  ((maskSegs s t (maskActive s t) k 4096 0).map fun g =>
    let hi := match g.2.1 with | some e => min e vals.length | none => vals.length
    (((vals.take hi).drop g.1).filter fun v =>
      (viol != 1 && decide (g.2.2.1 < v)) || (viol != 0 && decide (v < g.2.2.2))).length).sum

/-- A mask segment whose FIRST does not rise strictly above the one before it, up to STOP; with fuel. -/
def maskNotRising (s : State) (t b k : Nat) : Nat → Nat → Option Nat → Option Nat
  | 0, _, _ => none
  | n + 1, j, prev =>
    let w0 := maskWord s t b (8192 * k + 2 * j)
    let bad := match prev with | some p => decide (fld w0 0 20 ≤ p) | none => false
    if bad then some j else if bit w0 31 then none else maskNotRising s t b k n (j + 1) (some (fld w0 0 20))

/-- Clear the history of mask k; its level falls (07 R283). -/
def maskClear (t k : Nat) (s : State) : State :=
  trigFall t (4 + k) (withTrig t (fun e => { e with hist := vset e.hist k [] }) s)

/-- Clear the density window (07 R285). -/
def densClear (t : Nat) (s : State) : State := trigFall t 8 (withTrig t (fun e => { e with dens := [] }) s)

/-- PENDING of TRIG_STATUS (07 R290). -/
def trigPendBit (t : Nat) (s : State) : State :=
  let e := trigOf s t
  setB .trigStatus t 0 0 (e.pendTd.isSome || e.pendFm.isSome || e.pendDens.isSome) s

/-- The density part of a captured set takes effect (07 R292). -/
def densApply (t : Nat) (c : TrigSet) (s : State) : State :=
  let old := (trigOf s t).run
  let s := if old.densX != c.densX || old.densY != c.densY || old.dens != c.dens then densClear t s else s
  trigPendBit t (withTrig t (fun e => { e with pendDens := none,
                                               run := { e.run with densX := c.densX, densY := c.densY, dens := c.dens } }) s)

/-- The density part of a captured set, from the next spectrum whose frame starts after the capture (07 R292); `arrived`
is the device time in 2^-40 s at which its first sample reached the engine. -/
def trigDensPart (t arrived : Nat) (s : State) : State :=
  match (trigOf s t).pendDens with
  | some (c, at_) => if arrived ≤ at_ then s else densApply t c s
  | none => s

/-- The mask and MASK_SWAP part, from the next such spectrum; the density part with it, unless rows of an earlier spectrum
are still to come (07 R292). -/
def trigSpecPart (t arrived : Nat) (s : State) : State :=
  match (trigOf s t).pendFm with
  | none => s
  | some (c, swap, at_) =>
    if arrived ≤ at_ then s
    else
      let old := (trigOf s t).run
      let s := if swap then setB .trigStatus t 0 2 (!getB s .trigStatus t 0 2) s else s
      let s := (List.range 4).foldl (fun s k =>
        if swap || old.fm[k]? != c.fm[k]? then maskClear t k s else s) s
      let s := trigPendBit t (withTrig t (fun e => { e with pendFm := none, run := { e.run with fm := c.fm } }) s)
      let older := (trigOf s t).rows.any (fun r => decide (r.arrived ≤ at_)) ||
        (vget s.dens t Dens.reset).spectra.any fun r => decide (r.arrived ≤ at_)
      if older then s else trigDensPart t arrived s

/-- What a mask or the density trigger says at a spectrum (07 R282, R285, R304). -/
def specOcc (src : Nat) (st : Stamp) (seq fl aux : Nat) : Occ :=
  { src := src, time := stampTicks st, qual := st.qual, flags := occFlags fl, detail := seq % 2 ^ 48, aux := aux }

/-- One mask at one spectrum (07 R282). -/
def maskTest (t k : Nat) (o : SpecOut) (s : State) : State × Bool :=
  match (trigOf s t).run.fm[k]? with
  | none => (s, false)
  | some (cfg, mb) =>
    if !bit cfg 5 then (s, false)
    else
      let nv := maskViolations s t k cfg o
      let hit := decide (max 1 (fld mb 0 21) ≤ nv)
      let h := ((hit != bit cfg 4, o.flags) :: vget (trigOf s t).hist k []).take (fld cfg 6 6 + 1)
      let s := withTrig t (fun e => { e with hist := vset e.hist k h }) s
      let level := decide (fld cfg 12 6 + 1 ≤ (h.filter (·.1)).length)
      let oc := specOcc (16 * t + 4 + k) o.stamp o.seq (h.foldl (fun a p => Nat.lor a p.2) 0) nv
      if level && !getB s .trigStatus t 0 (20 + k) then (trigOccur t (4 + k) true oc s, hit)
      else (trigLevel t (4 + k) level oc s, hit)

/-- A spectrum with COMMIT or INPUT_RESTART clears the histories (07 R283, R285). -/
def specClears (f : Nat) : Bool := f.testBit 3 || f.testBit 1

/-- FM_SPECTRUM: the masks of engine t test the next spectrum that its spectral engine has computed (06 R240, 07 R281 to
R283). -/
def execFmSpectrum (t : Nat) (s : State) : Out :=
  match (trigOf s t).spectra with
  | [] => .next s
  | o :: rest =>
    let s := withTrig t (fun e => { e with spectra := rest }) s
    if ustate s (trigUnit t) ≠ .running then .next s
    else
      let s := trigSpecPart t o.arrived s
      let s := if specClears o.flags then (List.range 4).foldl (fun s k => maskClear t k s) s else s
      let s := bump .trigCount t 2 1 s
      let r := (List.range 4).foldl (fun (p : State × Bool) k =>
        let q := maskTest t k o p.1
        (q.1, p.2 || q.2)) (s, false)
      .next (if r.2 then bump .trigCount t 3 1 r.1 else r.1)

/-- The density trigger at the rows of one spectrum, one for each display point (07 R284, R285). -/
def densTest (t : Nat) (o : DensRows) (s : State) : State :=
  let c := (trigOf s t).run
  if !bit c.dens 26 then s
  else
    let pf := fld c.densX 0 14
    let pl := fld c.densX 16 14
    let h := (((o.rows.take (pl + 1)).drop pf).filter fun r =>
      decide (fld c.densY 0 10 ≤ r ∧ r ≤ fld c.densY 16 10)).length
    let win := fld c.dens 16 10 + 1
    let hs := ((h, o.flags) :: (trigOf s t).dens).take win
    let s := withTrig t (fun e => { e with dens := hs }) s
    let x := pl + 1 - pf
    let sum := (hs.map (·.1)).sum
    let cmp := decide (fld c.dens 0 16 * win * x ≤ sum * 65536)
    let level := decide (hs.length = win) && (cmp != bit c.dens 27)
    let oc := specOcc (16 * t + 8) o.stamp o.seq (hs.foldl (fun a p => Nat.lor a p.2) 0) sum
    if level && !getB s .trigStatus t 0 24 then trigOccur t 8 true oc s else trigLevel t 8 level oc s

/-- DENSITY_ROWS: the density trigger of engine t takes the next rows that its density engine has passed on (07 R284). -/
def execDensityRows (t : Nat) (s : State) : Out :=
  match (trigOf s t).rows with
  | [] => .next s
  | o :: rest =>
    let s := withTrig t (fun e => { e with rows := rest }) s
    if ustate s (trigUnit t) ≠ .running then .next s
    else
      let s := trigDensPart t o.arrived s
      .next (densTest t o (if specClears o.flags then densClear t s else s))

/-! Commits (07 R291 to R293). -/

/-- The lowest failing register of a set, as an offset (07 R291). -/
def trigCheck (s : State) (t : Nat) (c : TrigSet) : Option Nat :=
  let td := (List.range 4).findSome? fun d =>
    match c.td[d]? with
    | some x =>
      if fld x.cfg 4 2 = 3 ∨ fld x.cfg 6 2 = 3 ∨ 16 < fld x.cfg 8 5 ∨
         (bit x.cfg 15 ∧ !unitPresent s (tunUnit (4 * t + fld x.cfg 0 2))) then some (Reg.off .trigTdCfg t d) else none
    | none => none
  let fm := (List.range 4).findSome? fun k =>
    match c.fm[k]? with
    | some x =>
      if 1 < fld x.1 0 2 ∨ fld x.1 2 2 = 3 ∨ fld x.1 6 6 < fld x.1 12 6 then some (Reg.off .trigFmCfg t k) else none
    | none => none
  let np := match (specOf s t).run with | some r => r.set.points | none => getF s .specDet t 0 4 14 + 1
  let box := if fld c.densX 16 14 < fld c.densX 0 14 ∨ np ≤ fld c.densX 16 14 then some (Reg.off .trigDensBoxX t 0)
             else if fld c.densY 16 10 < fld c.densY 0 10 then some (Reg.off .trigDensBoxY t 0)
             else if bit c.dens 26 ∧ !unitPresent s (0x100 + t) then some (Reg.off .trigDensCfg t 0)
             else none
  [td, fm, box].findSome? id

/-- The lowest enabled mask of the inactive bank whose FIRST values do not rise strictly, and the segment. -/
def trigMaskCheck (s : State) (t : Nat) (c : TrigSet) : Option (Nat × Nat) :=
  (List.range 4).findSome? fun k =>
    match c.fm[k]? with
    | some x => if bit x.1 5 then (maskNotRising s t (1 - maskActive s t) k 4096 0 none).map fun j => (k, j) else none
    | none => none

/-- A captured set is refused (07 R291). -/
def trigRefuse (t : Nat) (data : List EvField) (s : State) : State :=
  raise 0x0504 (trigUnit t) data (bump .trigCount t 4 1 (setB .trigStatus t 0 1 true s))

/-- A capture (07 R290, R291). -/
def trigCapture (t : Nat) (swap : Bool) (s : State) : State :=
  let c := trigStaged s t
  match trigCheck s t c with
  | some off => trigRefuse t [.u16 0, .u32 off] s
  | none =>
    match (if swap then trigMaskCheck s t c else none) with
    | some (k, j) => trigRefuse t [.u16 1, .u16 k, .u16 j] s
    | none =>
      trigPendBit t (withTrig t (fun e => { e with pendTd := some c, pendFm := some (c, swap, nowTicks s),
                                                   pendDens := some (c, nowTicks s) }) s)

/-- CLEAR_HISTORY (07 R283, R285). -/
def trigClearHistory (t : Nat) (s : State) : State := densClear t ((List.range 4).foldl (fun s k => maskClear t k s) s)

/-- A write to TRIG_COMMIT. -/
def trigCommitEff (t : Nat) (v : BitVec 32) (s : State) : WRes :=
  let s := if bit v 3 then trigClearHistory t s else s
  match fld v 0 2 with
  | 1 => (trigCapture t (bit v 2) s, 0)
  | 3 => (trigPendBit t (withTrig t (fun e => { e with pendTd := none, pendFm := none, pendDens := none }) s), 0)
  | _ => (s, 0)

/-- A write of TRIG_COMMIT by an agent. -/
def trigCommitW (ag : AgentId) (t : Nat) (v : BitVec 32) (s : State) : State :=
  guardW ag (Reg.off .trigCommit t 0) v (trigCommitEff t v) s

/-- TRIG_COMMIT_NEXT (07 R291). -/
def execTrigCommitNext (ag : AgentId) (t : Nat) (s : State) : Out := .next (trigCommitW ag t 1 s)

/-- TRIG_COMMIT_CANCEL (07 R290). -/
def execTrigCommitCancel (ag : AgentId) (t : Nat) (s : State) : Out := .next (trigCommitW ag t 3 s)

/-- MASK_SWAP: a NEXT commit that swaps the mask banks (07 R291). -/
def execMaskSwap (ag : AgentId) (t : Nat) (s : State) : Out := .next (trigCommitW ag t 5 s)

/-- CLEAR_HISTORY. -/
def execClearHistory (ag : AgentId) (t : Nat) (s : State) : Out := .next (trigCommitW ag t 8 s)

/-- TRIG_COMMIT_APPLY: the stream-clock cycle after the capture. Changed detectors restart, the epoch increases and
0x0503 names the bank that the commit makes active; its mask part waits for the next spectrum (07 R292). -/
def execTrigCommitApply (t : Nat) (s : State) : Out :=
  match (trigOf s t).pendTd with
  | none => .next s
  | some c =>
    let old := (trigOf s t).run
    let s := (List.range 4).foldl (fun s d =>
      if old.td[d]? != c.td[d]? then trigFall t d (tdClear t d s) else s) s
    let s := trigPendBit t (withTrig t (fun e => { e with pendTd := none, run := { e.run with td := c.td } }) s)
    let swap := match (trigOf s t).pendFm with | some p => p.2.1 | none => false
    .next (raise 0x0503 (trigUnit t) [.u16 (if swap then 1 - maskActive s t else maskActive s t)] (bumpEpoch (trigUnit t) s))

/-- The next mask address. -/
def maskStep (t : Nat) (s : State) : State :=
  wr .trigMaskAddr t 0 (BitVec.ofNat 32 ((getF s .trigMaskAddr t 0 0 15 + 1) % 32768)) s

/-- A write to TRIG_MASK_DATA (07 R293). -/
def maskDataEff (t : Nat) (v : BitVec 32) (s : State) : WRes :=
  if (match (trigOf s t).pendFm with | some p => p.2.1 | none => false) then (bump .trigCount t 5 1 s, 4)
  else
    let a := getF s .trigMaskAddr t 0 0 15
    (maskStep t { s with maskBank := spPut s.maskBank (maskKey t (1 - maskActive s t) a) v 0 }, 0)

/-- MASK_DATA_WRITE (07 R293). -/
def execMaskDataWrite (ag : AgentId) (t : Nat) (v : BitVec 32) (s : State) : Out :=
  .next (guardW ag (Reg.off .trigMaskData t 0) v (maskDataEff t v) s)

/-! Weirs (07 R294 to R305). -/

/-- Whether weir w is armed in a cycle (07 R302). -/
def weirArmed (x : Weir) (cycle : Nat) : Bool :=
  match x.armFrom with
  | none => false
  | some a => decide (a < cycle) && (match x.disarmAt with | some d => decide (cycle ≤ d) | none => true)

/-- Whether weir w is armed or about to be (07 R301). -/
def weirHeld (s : State) (w : Nat) : Bool :=
  let x := weir s w
  x.armFrom.isSome && (match x.disarmAt with | some d => decide (s.time.cycles ≤ d) | none => true)

/-- The used inputs of weir w. -/
def weirUsed (s : State) (w : Nat) : List Nat := (List.range 4).filter fun x => weirSrc s w x != 0xFF

/-- The AND of the levels of all used inputs. -/
def weirAnd (s : State) (w levels : Nat) : Bool :=
  !(weirUsed s w).isEmpty && (weirUsed s w).all fun x => levels.testBit x

/-- The inputs of weir w that `f` names take the levels of their sources now; what its delay lines hold stays (DESIGN
CHOICE, log entry 23). -/
def weirLevels (w : Nat) (f : Nat → Bool) (s : State) : State :=
  (List.range 4).foldl (fun s x =>
    if f x then
      let new := srcLevel s (weirSrc s w x) s.time.cycles != weirInv s w x
      withWeir w (fun y =>
        let lv := if new then Nat.lor y.levels (2 ^ x) else y.levels - y.levels / 2 ^ x % 2 * 2 ^ x
        { y with levels := lv, levelAt := y.levelAt.set x s.time.cycles }) s
    else s) s

/-- The AND of weir w's inputs, brought up to date. -/
def weirAll (w : Nat) (s : State) : State := withWeir w (fun x => { x with allHigh := weirAnd s w x.levels }) s

/-- After a write to a configuration register of weir w, from the state b: an input with a new source or sense. -/
def weirReconf (w : Nat) (b s : State) : State :=
  weirAll w (weirLevels w (fun x => weirSrc b w x != weirSrc s w x || weirInv b w x != weirInv s w x) s)

/-- Clear the SEQ window, the count and the holdoff (07 R302). -/
def weirClear (w : Nat) (s : State) : State := setF .trigWeirStatus w 0 8 24 0 (setB .trigWeirStatus w 0 1 false (setB .trigWeirStatus w 0 2 false s))

/-- TRIG_IGNORED: at most once per weir per 1 ms (07 R310). -/
def weirIgnoredEvent (w : Nat) (s : State) : State :=
  let c := (weir s w).evIgnored
  let q := [EvField.u16 w]
  match rateFind s 0x0506 0x0C0 q with
  | some _ => rateAdd 0x0506 0x0C0 q 1 [] s
  | none =>
    let s := raise 0x0506 0x0C0 [.u16 w, .u32 (c.getD 0 0), .u32 (c.getD 1 0), .u32 (c.getD 2 0)] s
    rateOpen 0x0506 0x0C0 q (withWeir w (fun x => { x with evIgnored := [0, 0, 0] }) s)

/-- The n occurrences of one cycle that weir w does not accept, by cause: 0 disarmed, 1 holdoff, 2 qualifier (07 R295). -/
def weirIgnore (w cause n : Nat) (s : State) : State :=
  if n = 0 then s
  else
    let s := bump .trigWeirIgnored w cause n s
    weirIgnoredEvent w (withWeir w (fun x => { x with
      ignored := satU 32 (x.ignored + n), evIgnored := x.evIgnored.set cause (satU 32 (x.evIgnored.getD cause 0 + n)) }) s)

/-- Why weir w accepts nothing in a cycle (07 R295, R299). -/
def weirBlocked (s : State) (w cycle : Nat) : Option Nat :=
  let cfg := rd s .trigWeirCfg w 0
  if !weirArmed (weir s w) cycle then some 0
  else if getB s .trigWeirStatus w 0 1 ∧ cycle ≤ (weir s w).holdTo then some 1
  else if bit cfg 17 ∧ srcLevel s (fld cfg 8 8) cycle = bit cfg 16 then some 2
  else none

/-- A pin at a fire of the weir it follows, with its configuration word (07 R307): a latch in progress stays, and so does a
pulse in progress that the new MODE neither restarts nor latches. -/
def pinFire (c : Word) (now : Nat) (p : OutPin) : OutPin :=
  let mode := fld c 6 2
  if p.active && (p.mode == 1 || (p.mode == 0 && decide (2 ≤ mode))) then p
  else
    { active := decide (mode ≤ 1) || (mode == 2 && !p.active), mode := mode, invert := bit c 5, stop := now + max 1 (fld c 8 16),
      fired := true }

/-- The pins that follow weir w answer its fire (07 R307). -/
def pinsFire (w : Nat) (s : State) : State :=
  (List.range 8).foldl (fun s n =>
    if getF s .trigOutCfg 0 n 0 4 = w ∧ getB s .trigOutCfg 0 n 4 then
      { s with tree := { s.tree with
        pins := vset s.tree.pins n (pinFire (rd s .trigOutCfg 0 n) s.time.cycles (vget s.tree.pins n OutPin.reset)) } }
    else s) s

/-- Raise TRIG_FIRED (07 R303, R304): always numbered, delivered only with EVENT_EN. -/
def weirEvent (w x : Nat) (o : Occ) (ignored : Nat) (s : State) : State :=
  let t := mkStamp o.time o.qual
  raiseFull t 0x0501 0x0C0 (o.flags.testBit 0) (getB s .trigWeirCfg w 0 3)
    [.u16 (w + 256 * x), .u16 (o.src + 256 * (o.flags % 32)), .time t, .u32 (rd s .trigWeirFires w 0).toNat,
     .u32 ignored, .u64 o.detail, .u32 o.aux, .u32 0] s

/-- A fire of weir w completed by input x's occurrence in a cycle (07 R298 to R300, R303, R305). -/
def weirFire (w x cycle : Nat) (o : Occ) (s : State) : State :=
  let cfg := rd s .trigWeirCfg w 0
  let s := wr .trigWeirFires w 0 (rd s .trigWeirFires w 0 + 1) s
  let t := mkStamp o.time o.qual
  let s := ((stampWords t).zipIdx).foldl (fun s p => wr .trigWeirLast w p.2 p.1 s) s
  let ev := s.nextEvent
  let s := weirEvent w x o (weir s w).ignored s
  let s := withWeir w (fun y => { y with
    ignored := 0, fireAt := (cycle :: y.fireAt).take 4, holdTo := cycle + (rd s .trigWeirHoldoff w 0).toNat,
    disarmAt := if bit cfg 4 then some cycle else y.disarmAt }) s
  let s := setB .trigWeirStatus w 0 1 (rd s .trigWeirHoldoff w 0 != 0) (weirClear w s)
  let f : Fire := { weir := w, cycle := cycle, stamp := t, flags := o.flags, evSeq := ev }
  let s := { s with tree := { s.tree with fires := (List.range 4).foldl (fun v a =>
    if ustate s (0x0E0 + a) == .running then vset v a (vget v a [] ++ [f]) else v) s.tree.fires } }
  let s := pinsFire w s
  let chain : Occ := { src := 0x80 + w, time := o.time, qual := o.qual, flags := o.flags, detail := ev, aux := 0 }
  srcChange (0x80 + w) (cycle + 3) true false none chain (srcChange (0x80 + w) (cycle + 2) false true (some chain) chain s)

/-- Accepted occurrences of one cycle at weir w: input and occurrence (07 R296 to R298). -/
def weirAccept (w cycle : Nat) (acc : List (Nat × Occ)) (s : State) : State :=
  let at_ := fun x => (acc.find? fun p => p.1 == x).map (·.2)
  match getF s .trigWeirCfg w 0 0 3 with
  | 1 =>
    match acc with
    | [] => s
    | p :: r =>
      let best := r.foldl (fun b q => if q.2.time < b.2.time ∨ (q.2.time = b.2.time ∧ q.1 < b.1) then q else b) p
      weirFire w best.1 cycle best.2 s
  | 3 =>
    let s := if (at_ 2).isSome then setB .trigWeirStatus w 0 2 false s else s
    let s := match at_ 1 with
      | some o =>
        if getB s .trigWeirStatus w 0 2 ∧ (weir s w).seqAt < cycle ∧ cycle ≤ (weir s w).seqTo then weirFire w 1 cycle o s
        else s
      | none => s
    if (at_ 0).isSome then
      setB .trigWeirStatus w 0 2 true (withWeir w (fun x => { x with
        seqAt := cycle, seqTo := cycle + max 1 (rd s .trigWeirWindow w 0).toNat }) s)
    else s
  | 4 =>
    let s := if (at_ 1).isSome then setF .trigWeirStatus w 0 8 24 0 s else s
    match at_ 0 with
    | some o =>
      let n := getF s .trigWeirStatus w 0 8 24 + 1
      if max 1 (getF s .trigWeirCountN w 0 0 24) ≤ n then weirFire w 0 cycle o s else setF .trigWeirStatus w 0 8 24 n s
    | none => s
  | _ => s

/-- One occurrence for each input: of several the earliest. -/
def occByInput (as : List Arrival) : List (Nat × Occ) :=
  (List.range 4).filterMap fun x =>
    match (as.filter fun a => a.input == x).filterMap (·.occ) with
    | [] => none
    | o :: r => some (x, r.foldl (fun b q => if q.time < b.time then q else b) o)

/-- The levels of weir w's inputs after an arrival: one from a source or sense that the input no longer has, or from before
the level it has, changes none. -/
def weirLevel (s : State) (w : Nat) (x : Weir) (a : Arrival) : Weir :=
  if a.info.src = weirSrc s w a.input ∧ a.inverted = weirInv s w a.input ∧ x.levelAt.getD a.input 0 ≤ a.born then
    { x with levelAt := x.levelAt.set a.input a.born,
             levels := if a.level then Nat.lor x.levels (2 ^ a.input)
                       else x.levels - x.levels / 2 ^ a.input % 2 * 2 ^ a.input }
  else x

/-- The completing occurrence of an ALL fire by input x: its own, or, of a level that rose without one, the cycle in which it
did, with what the source said then (07 R298, R304; DESIGN CHOICE, log entry 186). -/
def allOcc (x : Nat) (as : List Arrival) (occs : List (Nat × Occ)) (s : State) : Occ × State :=
  match occs.find? fun p => p.1 == x with
  | some p => (p.2, s)
  | none =>
    let i := match as.find? (fun a => a.input == x && a.level) with | some a => a.info | none => noInfo 0xFF
    let (m, s) := stampFrom 0x0C0 i.time i.qual s
    ({ i with qual := m.qual }, s)

/-- What reaches weir w's inputs in one cycle is applied (07 R295 to R298). -/
def weirCycle (w cycle : Nat) (as : List Arrival) (s : State) : State :=
  let x0 := weir s w
  let s := weirAll w (withWeir w (fun x => as.foldl (weirLevel s w) x) s)
  let lv := (weir s w).levels
  if !treeOn s then s
  else
    let occs := (occByInput as).filter fun p => weirSrc s w p.1 != 0xFF
    match weirBlocked s w cycle with
    | some c => weirIgnore w c occs.length s
    | none =>
      if getF s .trigWeirCfg w 0 0 3 = 2 then
        if (weir s w).allHigh && !x0.allHigh then
          let x := ((weirUsed s w).find? fun x => lv.testBit x && !x0.levels.testBit x).getD 0
          let (o, s) := allOcc x as occs s
          weirFire w x cycle o s
        else s
      else weirAccept w cycle occs s

/-- What weir w's delay lines have held for DELAY cycles waits at its inputs (07 R294). -/
def lineOut (w : Nat) (s : State) : State :=
  let due := fun (a : Arrival) => decide (a.cycle ≤ s.time.cycles)
  let out := (weir s w).line.filter due
  let s := withWeir w (fun x => { x with line := x.line.filter fun a => !due a }) s
  { s with tree := { s.tree with net := s.tree.net ++ out } }

/-- DELAY_LINE_OUTPUT (07 R294). -/
def execDelayLineOutput (w : Nat) (s : State) : Out := .next (lineOut w s)

/-- Of what waits at the inputs of the weirs that `f` names and has come to its cycle: the place of the earliest cycle's lowest
weir in the tree's order (07 R300). -/
def treeFirst (s : State) (f : Nat → Bool) : Option Nat :=
  let due := s.tree.net.filter fun a => decide (a.cycle ≤ s.time.cycles) && f a.weir
  (due.map fun a => 16 * a.cycle + a.weir).min?

/-- The tree evaluates what waits, cycle by cycle and the weirs of a cycle in ascending order, up to a place; with fuel (07
R300, R303). -/
def treeRun (stop : Nat) : Nat → State → State
  | 0, s => s
  | n + 1, s =>
    match treeFirst s (fun _ => true) with
    | none => s
    | some k =>
      if stop < k then s
      else
        let here := fun (a : Arrival) => a.weir == k % 16 && a.cycle == k / 16
        let as := s.tree.net.filter here
        treeRun stop n (weirCycle (k % 16) (k / 16) as
          { s with tree := { s.tree with net := s.tree.net.filter fun a => !here a } })

/-- WEIR_OCCURRENCE: of what waits at weir w's inputs the earliest cycle's is applied, and before it everything that the
tree's order puts first (07 R295, R300). -/
def execWeirOccurrence (w : Nat) (s : State) : Out :=
  let s := (List.range 16).foldl (fun s v => lineOut v s) (evtFollow s)
  match treeFirst s (· == w), treeFirst s (fun _ => true) with
  | some stop, some k => .next (treeRun stop (stop + 1 - k) s)
  | _, _ => .next s

/-- SEQ_WINDOW_EXPIRY: the WINDOW cycles after the latest A are over (07 R297). -/
def execSeqWindowExpiry (w : Nat) (s : State) : Out :=
  .next (if (weir s w).seqTo < s.time.cycles then setB .trigWeirStatus w 0 2 false s else s)

/-- HOLDOFF_EXPIRY: the HOLDOFF cycles after the fire are over (07 R299). -/
def execHoldoffExpiry (w : Nat) (s : State) : Out :=
  .next (if (weir s w).holdTo < s.time.cycles then setB .trigWeirStatus w 0 1 false s else s)

/-- The input letter for which an ARM is refused: 0 for the function, 4 for the qualifier (07 R302; DESIGN CHOICE, log
entry 24). -/
def armFail (s : State) (w : Nat) : Option Nat :=
  let cfg := rd s .trigWeirCfg w 0
  let f := fld cfg 0 3
  let need := fun l : List Nat => l.find? fun x => weirSrc s w x == 0xFF
  if f = 0 ∨ 4 < f then some 0
  else match (List.range 4).find? fun x => !srcOk s w (weirSrc s w x) with
    | some x => some x
    | none =>
      if bit cfg 17 ∧ !srcOk s w (fld cfg 8 8) then some 4
      else match f with
        | 3 => need [0, 1]
        | 4 => need [0]
        | _ => if (weirUsed s w).isEmpty then some 0 else none

/-- ARM (07 R302). -/
def weirArm (w : Nat) (s : State) : State :=
  match armFail s w with
  | some x =>
    raise 0x0505 0x0C0 [.u16 w, .u16 x]
      (setB .trigWeirStatus w 0 3 true (withWeir w (fun y => { y with armFrom := none, disarmAt := none }) s))
  | none =>
    bumpEpoch 0x0C0 (weirClear w (withWeir w (fun y => { y with armFrom := some s.time.cycles, disarmAt := none }) s))

/-- DISARM, from the next cycle on. -/
def weirDisarm (w : Nat) (s : State) : State :=
  if (weir s w).armFrom.isSome ∧ (weir s w).disarmAt.isNone then
    withWeir w (fun y => { y with disarmAt := some s.time.cycles }) s
  else s

/-- A write to TRIG_WEIR_CMD: ARM, then DISARM, then RESET. -/
def weirCmdEff (w : Nat) (v : BitVec 32) (s : State) : WRes :=
  let s := if bit v 0 then weirArm w s else s
  let s := if bit v 1 then weirDisarm w s else s
  (if bit v 2 then weirClear w s else s, 0)

/-- A write of TRIG_WEIR_CMD by an agent. -/
def weirCmdW (ag : AgentId) (w : Nat) (v : BitVec 32) (s : State) : State :=
  guardW ag (Reg.off .trigWeirCmd w 0) v (weirCmdEff w v) s

/-- WEIR_ARM (07 R302). -/
def execWeirArm (ag : AgentId) (w : Nat) (s : State) : Out := .next (weirCmdW ag w 1 s)

/-- WEIR_DISARM (07 R302). -/
def execWeirDisarm (ag : AgentId) (w : Nat) (s : State) : Out := .next (weirCmdW ag w 2 s)

/-- WEIR_RESET (07 R302). -/
def execWeirReset (ag : AgentId) (w : Nat) (s : State) : Out := .next (weirCmdW ag w 4 s)

/-- A write to a configuration register of a weir: refused while it is armed (07 R301). -/
def weirCfgEff (r : Reg) (w j : Nat) (v : BitVec 32) (s : State) : WRes :=
  if weirHeld s w then (setB .trigWeirStatus w 0 3 true s, 4)
  else (weirReconf w s (wrMask r w j (BitVec.ofNat 32 r.info.rw) v s), 0)

/-! Software triggers and pins. -/

/-- A software occurrence at the present cycle (07 R288). -/
def swOcc (k : Nat) (s : State) : Occ × State :=
  let (t, s) := stampNow 0x0C0 s
  ({ src := 0x78 + k, time := stampTicks t, qual := t.qual, flags := 0, detail := 0, aux := 0 }, s)

/-- The present cycle is one in which software trigger k is pulsed (07 R288). -/
def swPulsed (s : State) (k : Nat) : Bool := spGet s.tree.swPulse k 0 == s.time.cycles + 1

/-- A write to TRIG_SW_PULSE (07 R288). -/
def swPulseEff (v : BitVec 32) (s : State) : WRes :=
  ((List.range 4).foldl (fun s k =>
    if bit v k then
      let (o, s) := swOcc k s
      let c := s.time.cycles
      let lv := getB s .trigSwLevel 0 0 k
      let old := lv || swPulsed s k
      let s := { s with tree := { s.tree with swPulse := spPut s.tree.swPulse k (c + 1) 0 } }
      let s := srcOccur 0 o old true s
      if old then s else srcChange (0x78 + k) (c + 1) true false none (noInfo 0) s
    else s) s, 0)

/-- TRIG_SW_PULSE (07 R288). -/
def execTrigSwPulse (ag : AgentId) (v : BitVec 32) (s : State) : Out :=
  .next (guardW ag (Reg.off .trigSwPulse 0 0) v (swPulseEff v) s)

/-- A write to TRIG_SW_LEVEL (07 R288): in a pulse's cycle the level it gives shows from the next one on. -/
def swLevelEff (v : BitVec 32) (s : State) : WRes :=
  ((List.range 4).foldl (fun s k =>
    let old := getB s .trigSwLevel 0 0 k
    let new := bit v k
    let pu := swPulsed s k
    let s := setB .trigSwLevel 0 0 k new s
    let s := if !old && new then
        let (o, s) := swOcc k s
        srcOccur 0 o pu true s
      else s
    if old = new then s
    else if pu then srcChange (0x78 + k) (s.time.cycles + 1) old new none (noInfo 0) s
    else if new then s
    else srcChange (0x78 + k) s.time.cycles true false none (noInfo 0) s) s, 0)

/-- TRIG_SW_LEVEL_WRITE (07 R288). -/
def execTrigSwLevelWrite (ag : AgentId) (v : BitVec 32) (s : State) : Out :=
  .next (guardW ag (Reg.off .trigSwLevel 0 0) v (swLevelEff v) s)

/-- TRIG_OUT_PULSE_END: pin n has been active for WIDTH cycles since its latest fire (07 R307). -/
def execTrigOutPulseEnd (n : Nat) (s : State) : Out :=
  let p := vget s.tree.pins n OutPin.reset
  if p.mode = 0 ∧ p.stop ≤ s.time.cycles then
    .next { s with tree := { s.tree with pins := vset s.tree.pins n { p with active := false } } }
  else .next s

/-- A write to TRIG_OUT_CLR ends the latch of each named pin (07 R307). -/
def trigOutClrEff (v : BitVec 32) (s : State) : WRes :=
  ((List.range 8).foldl (fun s n =>
    let p := vget s.tree.pins n OutPin.reset
    if bit v n ∧ p.mode = 1 then { s with tree := { s.tree with pins := vset s.tree.pins n { p with active := false } } } else s) s, 0)

/-- TRIG_OUT_CLR. -/
def execTrigOutClr (ag : AgentId) (v : BitVec 32) (s : State) : Out :=
  .next (guardW ag (Reg.off .trigOutClr 0 0) v (trigOutClrEff v) s)

/-- Pin n is active: only while it is enabled and trigger engine 0 is RUNNING (07 R307). -/
def pinActive (s : State) (n : Nat) : Bool :=
  treeOn s && getB s .trigOutCfg 0 n 4 && (vget s.tree.pins n OutPin.reset).active

/-- The level driven on TRIG_OUT_n (07 R307). -/
def pinLevel (s : State) (n : Nat) : Bool :=
  let p := vget s.tree.pins n OutPin.reset
  pinActive s n != (if p.fired then p.invert else getB s .trigOutCfg 0 n 5)

/-- Pins that may not be active fall inactive: after a change of EN or of engine 0's state. -/
def pinsGate (s : State) : State :=
  (List.range 8).foldl (fun s n =>
    if pinActive s n then s
    else
      let p := vget s.tree.pins n OutPin.reset
      let p := { p with active := false, fired := p.fired && treeOn s && getB s .trigOutCfg 0 n 4 }
      { s with tree := { s.tree with pins := vset s.tree.pins n p } }) s

/-! Engines as units. -/

/-- Every weir is disarmed, with empty delay lines and fresh input levels (07 R302). -/
def treeStart (s : State) : State :=
  (List.range 16).foldl (fun s w => weirAll w (weirLevels w (fun _ => true) (weirClear w (withWeir w (fun x =>
    { x with armFrom := none, disarmAt := none, line := [] }) s)))) { s with tree := { s.tree with net := [] } }

/-- START: the staged set is checked and put in force as a commit (07 R276, R283, R292, R311). -/
def trigStart (t : Nat) (s : State) : State :=
  let c := trigStaged s t
  match trigCheck s t c with
  | some off => enterFault (trigUnit t) 7 (off % 2 ^ 16) (raise 0x0502 (trigUnit t) [.u32 off] s)
  | none =>
    let s := changeState (trigUnit t) .running s
    let s := withTrig t (fun _ => { TrigEng.reset with run := c }) (setF .trigStatus t 0 16 9 0 (setB .trigStatus t 0 0 false s))
    let s := raise 0x0503 (trigUnit t) [.u16 (maskActive s t)] (bumpEpoch (trigUnit t) s)
    if t = 0 then treeStart s else s

/-- The engine's histories and pulses in progress, and for engine 0 the open windows and partial counts, are discarded;
its levels fall (07 R274, R306). -/
def trigDiscard (t : Nat) (s : State) : State :=
  let s := (List.range 9).foldl (fun s j => trigFall t j s) s
  let s := withTrig t (fun e => { e with td := Vector.replicate 4 TdState.reset, hist := Vector.replicate 4 [], dens := [],
                                         values := Vector.replicate 4 [], spectra := [], rows := [] }) s
  if t = 0 then
    (List.range 16).foldl (fun s w => setF .trigWeirStatus w 0 8 24 0 (setB .trigWeirStatus w 0 2 false s)) s
  else s

/-- Something is in formation (07 R306). -/
def trigPartial (s : State) (t : Nat) : Bool :=
  (trigOf s t).td.toList.any (fun d => d.pulse.isSome) || (trigOf s t).hist.toList.any (fun h => h.any (·.1)) ||
    (t == 0 && (List.range 16).any fun w => getB s .trigWeirStatus w 0 2 || getF s .trigWeirStatus w 0 8 24 != 0)

end Sys2Proof.Machine
end

