-- ==== Sys2Proof/Machine/DspCore.lean ====
section
/-! DEFINITION. The DSP cores around their instructions: memories, stream ports, DMA, interrupts, system registers,
running and stopping (12_dsp_cluster.md R425 to R457). -/

namespace Sys2Proof.Machine

/-- Core c. -/
def dspOf (s : State) (c : Nat) : Dsp := vget s.dsp c Dsp.reset

/-- Change core c. -/
def withDsp (c : Nat) (f : Dsp → Dsp) (s : State) : State := { s with dsp := vset s.dsp c (f (dspOf s c)) }

/-- Unit code of core c. -/
def dspUnit (c : Nat) : Nat := 0x160 + c

/-- Agent ID of core c. -/
def dspAgent (c : Nat) : AgentId := BitVec.ofNat 8 (0x30 + c)

/-! Memories (12 R426, R427). Their words after power-on are 0. -/

/-- A word of P memory. -/
def dspP (s : State) (c a : Nat) : Word := spGet s.dspP (c * 32768 + a % 32768) 0

/-- A word of X memory (space 0), Y memory (1) or P memory (2). -/
def dspRead (s : State) (c space a : Nat) : Word :=
  if space = 0 then spGet s.dspX (c * 65536 + a % 65536) 0
  else if space = 1 then spGet s.dspY (c * 65536 + a % 65536) 0
  else dspP s c a

/-- Write a word of X memory (space 0), Y memory (1) or P memory (2). -/
def dspWrite (c space a : Nat) (v : Word) (s : State) : State :=
  if space = 0 then { s with dspX := spPut s.dspX (c * 65536 + a % 65536) v 0 }
  else if space = 1 then { s with dspY := spPut s.dspY (c * 65536 + a % 65536) v 0 }
  else { s with dspP := spPut s.dspP (c * 32768 + a % 32768) v 0 }

/-- Where a window offset lies in the core's memories: space and word (12 R425). -/
def dspWindow (w : Nat) : Option (Nat × Nat) :=
  if 0x40000 ≤ w ∧ w < 0x60000 then some (2, (w - 0x40000) / 4)
  else if 0x80000 ≤ w ∧ w < 0xC0000 then some (0, (w - 0x80000) / 4)
  else if 0xC0000 ≤ w ∧ w < 0x100000 then some (1, (w - 0xC0000) / 4)
  else none

/-- An owner's write through the window: P only while GATED or READY, X and Y in every state but OFF (12 R427). -/
def dspMemEff (c space a : Nat) (v : Word) (s : State) : WRes :=
  let st := ustate s (dspUnit c)
  if (space = 2 ∧ (st = .gated ∨ st = .ready)) ∨ (space ≠ 2 ∧ st ≠ .off) then (dspWrite c space a v s, 0) else (s, 4)

/-- A plan load writes an image from word 0 and zeros beyond it (02 R98). -/
def dspLoadMem (c space : Nat) (ws : List Word) (s : State) : State :=
  let size := if space = 2 then 32768 else 65536
  let clear := fun (m : List (Nat × Word)) => m.filter fun e => decide (e.1 < c * size ∨ (c + 1) * size ≤ e.1)
  let s :=
    if space = 0 then { s with dspX := clear s.dspX }
    else if space = 1 then { s with dspY := clear s.dspY }
    else { s with dspP := clear s.dspP }
  ((ws.zipIdx).foldl (fun s p => dspWrite c space p.2 p.1 s) s)

/-! Input streams (12 R439 to R441). -/

/-- Input n of core c. -/
def dspIn (s : State) (c n : Nat) : DspIn := vget (dspOf s c).ins n { items := [], ended := false }

/-- Change input n. -/
def withDspIn (c n : Nat) (f : DspIn → DspIn) (s : State) : State :=
  withDsp c (fun x => { x with ins := vset x.ins n (f (dspIn s c n)) }) s

/-- Words of the FIFO in use; a long item fills it as the core frees room (12 R440). -/
def dspHeld (s : State) (c n : Nat) : Nat := min 4096 (((dspIn s c n).items.map fun i => i.words.length).sum)

/-- A long item: more than 4,096 words (12 R440). -/
def isLong (i : Item) : Bool := decide (4096 < i.payload.length)

/-- Whether input n takes an item: whole where it fits, a long item only into an empty FIFO; none while a long item
still enters (12 R439, R440, R453). -/
def dspAccepts (s : State) (c n : Nat) (i : Item) : Bool :=
  let q := (dspIn s c n).items
  let left : Nat := (q.map fun i => i.words.length).sum
  ustate s (dspUnit c) == .running && decide (left ≤ 4096) &&
    (if isLong i then left == 0 else decide (left + i.payload.length ≤ 4096))

/-- Words of the items that input n has accepted and the core has not read; beyond 4,096 a long item still enters. -/
def dspLeft (s : State) (c n : Nat) : Nat := ((dspIn s c n).items.map fun i => i.words.length).sum

/-- A long item still enters input n (12 R440). -/
def dspEntering (s : State) (c n : Nat) : Bool := decide (4096 < dspLeft s c n)

/-- The payload CRC-32C of an item that carries one at header offset 28 fails (12 R441). -/
def itemCrcBad (i : Item) : Bool :=
  (i.kind == 0x10 || i.kind == 0x11 || i.kind == 0x12 || i.kind == 0x60) && crcWords (i.payload.drop 8) != i.payload.getD 7 0

/-- Input n takes an item whole: its payload CRC-32C is verified as it enters (12 R439, R441). -/
def dspEnter (c n : Nat) (i : Item) (s : State) : State :=
  let bad := itemCrcBad i
  let s := withDspIn c n (fun q => { q with items := q.items ++
    [{ words := i.payload, started := false, failed := bad || i.check, long := isLong i, origin := i.origin }] }) s
  if bad then raiseRated 0x0A07 (dspUnit c) [.u16 n] 1 (bump .dspCoreCount c 7 1 s) else s

/-- DSP_INPUT_ITEM: the next item that the fabric brings to input n of core c is taken whole; else it waits on a BLOCK
route and while a long item enters, and is lost on a DROP route (12 R439 to R441, 01 R26). -/
def execDspInputItem (c n : Nat) (s : State) : Out :=
  match takeDelivered (42 + c) n s with
  | none => .next s
  | some (i, t) =>
    if i.payload = [] then .next t
    else if dspAccepts s c n i then .next (dspEnter c n i t)
    else .next (if dspEntering s c n then s else refuseItem (42 + c) n s t)

/-- SIN_LEFT: words left in the item being read (12 R439). -/
def sinLeft (s : State) (c n : Nat) : Nat :=
  match (dspIn s c n).items with
  | i :: _ => if i.started then i.words.length else 0
  | [] => 0

/-- SIN_STAT (12 system register 0x10). ISTART: the next word read begins an item. -/
def sinStat (s : State) (c n : Nat) : Word :=
  let q := dspIn s c n
  let cur := match q.items with
    | i :: _ => (i.started && i.failed, i.long)
    | [] => (false, false)
  BitVec.ofNat 32 (dspHeld s c n + 2 ^ 26 * b2n (sinLeft s c n == 0) + 2 ^ 27 * b2n cur.1 + 2 ^ 28 * b2n q.ended
    + 2 ^ 29 * b2n cur.2)

/-- What an open output item takes over from an input item that is read (12 R444). -/
def openReads (i : DspItem) (o : DspOut) : DspOut :=
  { o with cur := o.cur.map fun x =>
      { x with failed := x.failed || i.failed, origin := some (x.origin.getD i.origin) } }

/-- Read the next word of input n; none from an empty FIFO. -/
def dspTake (c n : Nat) (s : State) : Option (Word × State) :=
  match (dspIn s c n).items with
  | [] => none
  | i :: rest =>
    match i.words with
    | [] => none
    | w :: ws =>
      let items := if ws = [] then rest else { i with words := ws, started := true } :: rest
      let s := withDspIn c n (fun q => { q with items := items }) s
      some (w, withDsp c (fun x => { x with outs := x.outs.map (openReads i) }) s)

/-- Discard the words left of the item being read (13 R478). -/
def dspSkip (c n : Nat) (s : State) : State :=
  withDspIn c n (fun q => { q with items := match q.items with
    | i :: rest => if i.started then rest else q.items
    | [] => [] }) s

/-! Output streams (12 R442 to R444). -/

/-- Output n of core c. -/
def dspOut (s : State) (c n : Nat) : DspOut := vget (dspOf s c).outs n { cur := none, seq := 0, first := true }

/-- Change output n. -/
def withDspOut (c n : Nat) (f : DspOut → DspOut) (s : State) : State :=
  withDsp c (fun x => { x with outs := vset x.outs n (f (dspOut s c n)) }) s

/-- Words of the open item. -/
def soutOpen (s : State) (c n : Nat) : Nat :=
  match (dspOut s c n).cur with
  | some o => o.words.length
  | none => 0

/-- Free words of the buffer of 8,192: closed items stay until the fabric has taken them. -/
def soutFree (s : State) (c n : Nat) : Nat :=
  let waiting := (s.plan.offered.filter fun i => i.src == dspUnit c && i.stream == n).map fun i => i.payload.length - 8
  8192 - (soutOpen s c n + waiting.sum)

/-- A system register that only holds what was written. -/
def sysWord (s : State) (c k : Nat) : Word := spGet (dspOf s c).sys k 0

/-- Append a word to output n; none where the buffer is full. A word beyond 4,096 is discarded and counted. -/
def dspAppend (c n : Nat) (w : Word) (s : State) : Option State :=
  match (dspOut s c n).cur with
  | none =>
    if soutFree s c n = 0 then none
    else
      let o : DspOpen :=
        { words := [w], start := eventTime s, steps := s.time.steps, epoch := epochOf s (dspUnit c), planEpoch := planEpoch s, truncated := false,
          failed := false, origin := none, timeSet := false }
      some (withDspOut c n (fun x => { x with cur := some o }) s)
  | some o =>
    if 4096 ≤ o.words.length then
      let s := withDspOut c n (fun x => { x with cur := some { o with truncated := true } }) s
      some (raiseRated 0x0A04 (dspUnit c) [.u16 n] 1 (bump .dspCoreCount c 5 1 s))
    else if soutFree s c n = 0 then none
    else some (withDspOut c n (fun x => { x with cur := some { o with words := o.words ++ [w] } }) s)

/-- Close the open item of output n: header, check value, sequence (12 R442, R443). -/
def dspClose (c n : Nat) (s : State) : State :=
  let x := dspOut s c n
  match x.cur with
  | none => s
  | some o =>
    let t1 := [sysWord s c (0x1A + 3 * n), sysWord s c (0x1B + 3 * n), sysWord s c (0x1C + 3 * n)]
    let setTime : Stamp :=
      { sec := BitVec.ofNat 48 (fld (t1.getD 1 0) 8 24 + fld (t1.getD 2 0) 0 24 * 2 ^ 24),
        frac := BitVec.ofNat 40 ((t1.getD 0 0).toNat + fld (t1.getD 1 0) 0 8 * 2 ^ 32),
        qual := BitVec.ofNat 8 (fld (t1.getD 2 0) 24 8) }
    let (st, s) := if o.timeSet then (setTime, s) else stampTaken (dspUnit c) o.steps o.start s
    let crc := crcWords o.words
    let flags := b2n o.failed + 2 * b2n o.truncated + 4 * b2n x.first + 8 * b2n (!o.timeSet)
    let hdr := bytesWords (leBytes 6 x.seq ++ leBytes 1 (c + 32 * n) ++ leBytes 1 (fld (sysWord s c (0x16 + n)) 0 8))
      ++ (if o.timeSet then t1 else stampWords st)
      ++ bytesWords (leBytes 2 o.words.length ++ leBytes 2 flags) ++ [sysWord s c (0x18 + n), crc]
    let s := withDspOut c n (fun x => { cur := none, seq := (x.seq + 1) % 2 ^ 48, first := false }) s
    offer { kind := 0x60, src := dspUnit c, stream := n, sel := 0, seq := x.seq, gen := 0, stamp := st, epoch := o.epoch,
            planEpoch := o.planEpoch, evSeq := 0, origin := o.origin.getD 0, check := o.failed, crc := crc,
            payload := hdr ++ o.words } (bump .dspCoreCount c 3 1 s)

/-- Discard an open item: counted, and reported (12 R453, R454). -/
def dspDropOpen (c n : Nat) (s : State) : State :=
  match (dspOut s c n).cur with
  | none => s
  | some _ =>
    raise 0x0A03 (dspUnit c) [.u16 n, .u32 1]
      (bump .dspCoreCount c 4 1 (withDspOut c n (fun x => { x with cur := none }) s))

/-! DMA (12 R445, R446). -/

/-- An idle channel. -/
def DspDma.idle : DspDma := { busy := false, loc := 0, region := 0, offset := 0, len := 0, status := 0, done := 0 }

/-- Channel ch of core c. -/
def dspDma (s : State) (c ch : Nat) : DspDma := vget (dspOf s c).dma ch DspDma.idle

/-- Change channel ch. -/
def withDma (c ch : Nat) (f : DspDma → DspDma) (s : State) : State :=
  withDsp c (fun x => { x with dma := vset x.dma ch (f (dspDma s c ch)) }) s

/-- The end of a command of channel ch with a status: it raises the channel's interrupt. -/
def dmaEnd (c ch status : Nat) (s : State) : State :=
  dspPend c (4 + ch) (withDma c ch (fun d => { d with busy := false, status := status }) s)

/-- START of channel ch: its descriptor is checked (12 R445). -/
def dmaStart (c ch : Nat) (s : State) : State :=
  let r := fun k => sysWord s c (0x20 + 8 * ch + k)
  let off := (r 2).toNat + 2 ^ 32 * (r 3).toNat
  let len := if (r 4).toNat = 0 then 65536 else (r 4).toNat
  let good := match ownedRegion s (dspUnit c) (fld (r 1) 0 16) with
    | some g => off % 4 == 0 && decide (off + 4 * len ≤ g.size) && decide (len ≤ 65536)
    | none => false
  if (dspDma s c ch).busy then dspPend c (4 + ch) (withDma c ch (fun d => { d with status := 3 }) s)
  else if good then
    withDma c ch (fun _ => { busy := true, loc := r 0, region := r 1, offset := off, len := len, status := 1, done := 0 }) s
  else dmaEnd c ch 3 (withDma c ch (fun d => { d with done := 0 }) s)

/-- Move the first n words of channel ch's transfer; answers whether the access failed (12 R446). -/
def dmaMove (c ch n : Nat) (errs : List HbmErr) (s : State) : State × Bool :=
  let d := dspDma s c ch
  match ownedRegion s (dspUnit c) (fld d.region 0 16) with
  | none => (s, true)
  | some g =>
    let n := min n d.len
    let space := fld d.loc 16 1
    let local_ := fun (i : Nat) => (fld d.loc 0 16 + i) % 65536
    if fld d.region 16 1 = 0 then
      let x := hbmReadE 25 (dspUnit c) (g.base + d.offset) (4 * n) errs s
      if x.1 = 1 then (x.2.2, true)
      else
        let s := (bytesWords x.2.1).zipIdx.foldl (fun s p => dspWrite c space (local_ p.2) p.1 s) x.2.2
        (withDma c ch (fun d => { d with done := n }) s, false)
    else
      let bytes := wordsBytes ((List.range n).map fun i => dspRead s c space (local_ i))
      let x := hbmWriteE 25 (dspUnit c) (g.base + d.offset) bytes errs s
      if x.2 then (withDma c ch (fun d => { d with done := n }) x.1, false) else (x.1, true)

/-- An access that failed twice ends the transfer (12 R446, 21 R633). -/
def dmaError (c ch : Nat) (s : State) : State :=
  let s := bump .dspCoreCount c 6 1 (dmaEnd c ch 4 s)
  faultLasting 8 (dspUnit c) 0 0 0 [] (raise 0x0A05 (dspUnit c) [.u16 ch, .u16 4] s)

/-- The words of channel ch's transfer wait for a training stack. -/
def dmaWaits (s : State) (c ch : Nat) : Bool :=
  let d := dspDma s c ch
  match ownedRegion s (dspUnit c) (fld d.region 0 16) with
  | some g => rangeWaits s (g.base + d.offset) (4 * d.len)
  | none => false

/-- The first burst of channel ch's transfer that fails twice, and where the transfer starts in HBM. -/
def dmaBroken (s : State) (c ch : Nat) (errs : List HbmErr) : Option (HbmErr × Nat) :=
  let d := dspDma s c ch
  match ownedRegion s (dspUnit c) (fld d.region 0 16) with
  | none => none
  | some g => (errs.find? fun e => decide (2 ≤ e.kind ∧ 8 * e.burst < d.len)).map fun e => (e, g.base + d.offset)

/-- DMA_DONE: a transfer ends, after soft retries that succeeded; fail: after n words an access failed twice. -/
def execDmaDone (c ch : Nat) (fail : Option Nat) (soft : Nat) (errs : List HbmErr) (s : State) : Out :=
  let d := dspDma s c ch
  if !d.busy || dmaWaits s c ch then .next s
  else
    let s := (List.range soft).foldl (fun s _ => faultTransient s) s
    match fail with
    | some n =>
      let x := if n = 0 then (s, false) else dmaMove c ch (min n (d.len - 1)) errs s
      .next (dmaError c ch x.1)
    | none =>
      match dmaBroken s c ch errs with
      | some (e, a) =>
        let x := dmaMove c ch (min (8 * e.burst) (d.len - 1)) (errs.filter fun f => decide (f.burst < e.burst)) s
        .next (dmaError c ch (hbmErr 25 (dspUnit c) a (fld d.region 16 1 == 1) e x.1).1)
      | none =>
        let x := dmaMove c ch d.len errs s
        .next (if x.2 then dmaError c ch x.1 else dmaEnd c ch 2 x.1)

/-- ABORT of channel ch after n words have been moved (12 R446). -/
def dmaAbort (c ch n : Nat) (s : State) : State :=
  let d := dspDma s c ch
  if d.busy then
    let x := if n = 0 ∨ dmaWaits s c ch then (s, false) else dmaMove c ch (min n d.len) [] s
    dmaEnd c ch 5 x.1
  else s

/-! Interrupts (12 R447, R448). -/

/-- The pending sources: edges from IPEND, levels from what they stand for. -/
def dspPending (s : State) (c : Nat) : Nat :=
  let edge := (spGet s.ipend c 0).toNat
  let lvl := b2n (dspHeld s c 0 != 0) + 2 * b2n (dspHeld s c 1 != 0) + 4 * b2n (decide (4096 ≤ soutFree s c 0))
    + 8 * b2n (decide (4096 ≤ soutFree s c 1)) + 64 * b2n ((waitingFor s (dspAgent c)).length != 0)
  Nat.lor edge lvl

/-- The source that is taken: pending, enabled, above IPL; of those the highest priority, then the lowest number. -/
def dspTaken (s : State) (c : Nat) : Option (Nat × Nat) :=
  let x := dspOf s c
  let pend := dspPending s c
  let prio := fun (k : Nat) => fld x.ipr (2 * k) 2
  let able := (List.range 16).filter fun k => pend.testBit k && bit x.imr k && decide (x.ipl < prio k)
  let top := (able.map prio).foldl max 0
  if statB x 12 then (able.find? fun k => prio k == top).map fun k => (k, top) else none

/-- A source is pending with its IMR bit, or the unit drains: WAIT ends (13 R468). -/
def dspWake (s : State) (c : Nat) : Bool :=
  ((List.range 16).any fun k => (dspPending s c).testBit k && bit (dspOf s c).imr k) || ustate s (dspUnit c) == .draining

/-- DSP_INTERRUPT_ENTRY: core c takes a source (12 R448). -/
def execDspInterruptEntry (c : Nat) (s : State) : Out :=
  let x := dspOf s c
  if (ustate s (dspUnit c)).busy && x.exec == .executing && x.rept.isNone then
    match dspTaken s c with
    | none => .next s
    | some (k, p) =>
      .next (withDsp c (fun x =>
        { x with savePc := vset x.savePc (p - 1) x.pc, saveStat := vset x.saveStat (p - 1) x.stat,
                 stat := setFld x.stat 10 2 p, pc := BitVec.ofNat 15 (2 * k), waiting := false }) s)
  else .next s

/-- TIMER now: its value at the last load less the SYN_1 cycles since. -/
def dspTimer (s : State) (c : Nat) : Word :=
  let x := dspOf s c
  BitVec.ofNat 32 (x.timer.toNat - (upTotal s - x.timerAt) * 1500000000 / 2 ^ 64)

/-- DSP_TIMER_EXPIRY: TIMER has reached 0: it raises source 9 and loads the reload value at that cycle (12 system register
0x06). -/
def execDspTimerExpiry (c : Nat) (s : State) : Out :=
  let x := dspOf s c
  if x.timer = 0 ∨ dspTimer s c ≠ 0 then .next s
  else
    let at_ := x.timerAt + x.timer.toNat * 2 ^ 64 / 1500000000
    .next (dspPend c 9 (withDsp c (fun x => { x with timer := x.reload, timerAt := at_ }) s))

/-- A write of DSP_CORE_HOST_MSG (12 R447). -/
def hostMsgEff (c : Nat) (v : BitVec 32) (s : State) : WRes := (dspPend c 10 (wr .dspCoreHostMsg c 0 v s), 0)

/-- DSP_CORE_HOST_MSG (12 R447). -/
def execDspCoreHostMsg (ag : AgentId) (c : Nat) (v : BitVec 32) (s : State) : Out :=
  .next (guardW ag (Reg.off .dspCoreHostMsg c 0) v (hostMsgEff c v) s)

/-! Trigger flags (12 R450, 13 R465). -/

/-- Flag f of core c. -/
def dspFlag (s : State) (c f : Nat) : Bool := s.tree.dsp.testBit (2 * c + f)

/-- Give flag f a value: a rise from 0 makes an occurrence of source 0x48 + 2c + f (07 R287). -/
def setFlag (c f : Nat) (new : Bool) (s : State) : State :=
  let old := dspFlag s c f
  if old = new then s
  else
    let b := 2 ^ (2 * c + f)
    let s := { s with tree := { s.tree with dsp := if new then s.tree.dsp + b else s.tree.dsp - b } }
    if new then
      let (m, s) := stampNow (dspUnit c) s
      srcOccur 0 { src := 0x48 + 2 * c + f, time := stampTicks m, qual := m.qual, flags := 0, detail := 0, aux := 0 } false true s
    else srcChange (0x48 + 2 * c + f) s.time.cycles true false none (noInfo 0) s

/-- TFLG: clear, set or pulse (13 R464, R465). -/
def tflg (c f op : Nat) (s : State) : State :=
  if op = 0 then setFlag c f false s
  else if op = 1 then setFlag c f true s
  else setFlag c f false (setFlag c f true s)

/-! System registers (12 System registers). -/

/-- Core c receives from the lowest channel with a message waiting for it (17 R578). -/
def dspHead (s : State) (c : Nat) : Option (Nat × CvMsg) := (waitingFor s (dspAgent c)).head?

/-- RDS: the value of a system register, and the state after the read. -/
def sysRead (c k : Nat) (s : State) : Word × State :=
  let x := dspOf s c
  if k = 0 then (x.stat, s)
  else if k = 1 then (x.amr, s)
  else if k = 2 then (x.imr, s)
  else if k = 3 then (BitVec.ofNat 32 (dspPending s c), s)
  else if k = 4 then (x.ipr, s)
  else if k = 5 then (BitVec.ofNat 32 (b2n (dspFlag s c 0) + 2 * b2n (dspFlag s c 1)), s)
  else if k = 6 then (dspTimer s c, s)
  else if k = 7 then (x.reload, s)
  else if k = 8 then
    let t := stampWords (eventTime s)
    (t.getD 0 0, withDsp c (fun x => { x with time := t }) s)
  else if k = 9 ∨ k = 10 then (x.time.getD (k - 8) 0, s)
  else if k = 0x0B then (BitVec.ofNat 32 (c + (0x30 + c) * 2 ^ 8 + s.boot.engineId % 64 * 2 ^ 16), s)
  else if k = 0x0C then (rd s .dspCoreHostMsg c 0, s)
  else if k = 0x10 ∨ k = 0x11 then (sinStat s c (k - 0x10), s)
  else if k = 0x12 ∨ k = 0x13 then (BitVec.ofNat 32 (sinLeft s c (k - 0x12)), s)
  else if k = 0x14 ∨ k = 0x15 then
    let n := k - 0x14
    (BitVec.ofNat 32 (soutFree s c n + soutOpen s c n * 2 ^ 14 + b2n (dspOut s c n).cur.isSome * 2 ^ 27), s)
  else if k = 0x16 ∨ k = 0x17 then (sysWord s c k &&& 0xFF, s)
  else if (0x18 ≤ k ∧ k ≤ 0x1F) ∨ (0x20 ≤ k ∧ k ≤ 0x24) ∨ (0x28 ≤ k ∧ k ≤ 0x2C) then (sysWord s c k, s)
  else if k = 0x26 ∨ k = 0x2E then
    let d := dspDma s c ((k - 0x26) / 8)
    (BitVec.ofNat 32 (d.status + d.done * 8), s)
  else if k = 0x30 then (sysWord s c k, s)
  else if k = 0x31 ∨ k = 0x33 then (sysWord s c k, s)
  else if k = 0x39 then txstat (dspAgent c) s
  else if k = 0x3A then
    match dspHead s c with
    | some (ch, _) => (BitVec.ofNat 32 ((waitingFor s (dspAgent c)).length + ch * 2 ^ 10 + 2 ^ 16), s)
    | none => (0, s)
  else if 0x40 ≤ k ∧ k ≤ 0x4F then ((bank s (dspAgent c)).tx.getD (k - 0x40) 0, s)
  else if 0x50 ≤ k ∧ k ≤ 0x5F then
    match dspHead s c with
    | some (_, m) => (m.body.getD (k - 0x50) 0, s)
    | none => (0, s)
  else if 0x60 ≤ k ∧ k ≤ 0x67 then
    match dspHead s c with
    | some (_, m) => (m.header.getD (k - 0x60) 0, s)
    | none => (0, s)
  else if 0x68 ≤ k ∧ k ≤ 0x6D then
    let i := (k - 0x68) / 2
    (if k % 2 = 0 then BitVec.ofNat 32 (vget x.savePc i 0).toNat else vget x.saveStat i 0, s)
  else (0, s)

/-- A system register that only holds what is written. -/
def sysPut (c k : Nat) (v : Word) (s : State) : State := withDsp c (fun x => { x with sys := spPut x.sys k v 0 }) s

/-- WRS: a write of a system register. n: the words a DMA transfer had moved at its ABORT. -/
def sysWrite (c k : Nat) (v : Word) (n : Nat) (s : State) : State :=
  if k = 0 then withDsp c (fun x => { x with stat := v &&& 0x1FFF }) s
  else if k = 1 then withDsp c (fun x => { x with amr := v &&& 0xFFFF }) s
  else if k = 2 then withDsp c (fun x => { x with imr := v &&& 0xFFFF }) s
  else if k = 3 then { s with ipend := spPut s.ipend c (spGet s.ipend c 0 &&& ~~~(v.truncate 16)) 0 }
  else if k = 4 then withDsp c (fun x => { x with ipr := v }) s
  else if k = 5 then setFlag c 1 (bit v 1) (setFlag c 0 (bit v 0) s)
  else if k = 6 then withDsp c (fun x => { x with timer := v, timerAt := upTotal s }) s
  else if k = 7 then withDsp c (fun x => { x with reload := v }) s
  else if k = 0x16 ∨ k = 0x17 ∨ k = 0x18 ∨ k = 0x19 then sysPut c k v s
  else if 0x1A ≤ k ∧ k ≤ 0x1F then
    withDspOut c ((k - 0x1A) / 3) (fun x => { x with cur := x.cur.map fun o => { o with timeSet := true } }) (sysPut c k v s)
  else if (0x20 ≤ k ∧ k ≤ 0x24) ∨ (0x28 ≤ k ∧ k ≤ 0x2C) then sysPut c k v s
  else if k = 0x25 ∨ k = 0x2D then
    let ch := (k - 0x25) / 8
    if v = 1 then dmaStart c ch s else if v = 2 then dmaAbort c ch n s else s
  else if k = 0x30 ∨ k = 0x31 then sysPut c k v s
  else if k = 0x32 then
    if v = 1 ∨ v = 2 then
      withDsp c (fun x => { x with bus := .asked (v == 2) (spGet x.sys 0x30 0) (spGet x.sys 0x31 0) }) s
    else s
  else if k = 0x38 then cvSend (dspAgent c) v 0 s
  else if k = 0x3B then
    match dspHead s c with
    | some (ch, _) => cvPop ch 0 s
    | none => s
  else if 0x40 ≤ k ∧ k ≤ 0x4F then
    let b := bank s (dspAgent c)
    setBank (dspAgent c) { b with tx := b.tx.set (k - 0x40) v } s
  else if 0x68 ≤ k ∧ k ≤ 0x6D then
    let i := (k - 0x68) / 2
    withDsp c (fun x =>
      if k % 2 = 0 then { x with savePc := vset x.savePc i (v.truncate 15) }
      else { x with saveStat := vset x.saveStat i (v &&& 0x1FFF) }) s
  else s

/-! Running and stopping (12 R451 to R456). -/

/-- START: R430, then fetching at DSP_CORE_ENTRY (12 R451). -/
def dspStart (c : Nat) (s : State) : State :=
  let s := { s with ipend := spPut s.ipend c 0 0 }
  let s := setBank (dspAgent c) { bank s (dspAgent c) with tx := List.replicate 16 0 } s
  let s := setFlag c 1 false (setFlag c 0 false s)
  withDsp c (fun x =>
    { Dsp.start (x.ins.map fun i => { i with ended := false }) (x.outs.map fun o => { o with first := true }) with
      pc := BitVec.ofNat 15 (getF s .dspCoreEntry c 0 0 15), exec := .executing }) s

/-- DRAIN: source 11 becomes pending (12 R453). -/
def dspDrain (c : Nat) (s : State) : State := dspPend c 11 s

/-- The core has ended its run and its closed items are delivered (12 R453). -/
def dspIdle (s : State) (c : Nat) : Bool :=
  (dspOf s c).exec == .halted && !(s.plan.offered.any fun i => i.src == dspUnit c)

/-- The core's flags end as trigger levels when it leaves RUNNING and DRAINING (07 R272). -/
def dspLevelsEnd (c : Nat) (s : State) : State :=
  (List.range 2).foldl (fun s f =>
    if dspFlag s c f then srcChange (0x48 + 2 * c + f) s.time.cycles true false none (noInfo 0) s else s) s

/-- The core stops issuing: its open items are discarded (12 R453). -/
def dspEnd (c : Nat) (s : State) : State :=
  let s := dspDropOpen c 1 (dspDropOpen c 0 s)
  dspLevelsEnd c (withDsp c (fun x => { x with exec := .stopped, waiting := false, rept := none, stallAt := none, bus := .idle }) s)

/-- Something is in formation: an open item or a transfer (01 R39). -/
def dspPartial (s : State) (c : Nat) : Bool :=
  (dspOut s c 0).cur.isSome || (dspOut s c 1).cur.isSome || (dspDma s c 0).busy || (dspDma s c 1).busy

/-- The ABORT rule: open items, FIFO contents and both DMA transfers end (12 R454). -/
def dspDiscard (c : Nat) (s : State) : State :=
  let s := dmaAbort c 1 0 (dmaAbort c 0 0 s)
  dspEnd c (withDspIn c 1 (fun q => { q with items := [] }) (withDspIn c 0 (fun q => { q with items := [] }) s))

/-- A reset of the core: ABORT, RESTART, entry to OFF clear its culvert queues (12 R450, 17 R575). -/
def dspReset (c : Nat) (s : State) : State := receiverReset (dspAgent c) s

/-- The core enters FAULT: 0x0A01 with the cause and the PC, then the entry (12 R456, 21 R640). -/
def dspFault (c cause : Nat) (s : State) : State :=
  let pc := (dspOf s c).pc.toNat
  if (ustate s (dspUnit c)).live then
    let s := raise 0x0A01 (dspUnit c) [.u16 cause, .u16 pc] s
    enterFaultW (dspUnit c) cause 0 [BitVec.ofNat 32 pc] (dspDiscard c s)
  else s

/-- DSP_CL_START's effect: every named READY core starts; the others are flagged (12 R455). -/
def clStartEff (v : BitVec 32) (s : State) : WRes :=
  let named := (List.range 24).filter fun c => bit v c
  let go := named.filter fun c => ustate s (dspUnit c) == .ready
  let err := (named.filter fun c => !go.contains c).foldl (fun m c => Nat.lor m (2 ^ c)) 0
  let s := wr .dspClStatus 0 1 (rd s .dspClStatus 0 1 ||| BitVec.ofNat 32 err) s
  (calWatch (go.foldl (fun s c => dspStart c (changeState (dspUnit c) .running s)) s), 0)

/-- DSP_CL_START (12 R455). -/
def execDspClStart (ag : AgentId) (v : BitVec 32) (s : State) : Out :=
  .next (guardW ag (Reg.off .dspClStart 0 0) v (clStartEff v) s)

/-- DSP_CORE_ENTRY: not while RUNNING or DRAINING. -/
def coreEntryEff (c : Nat) (v : BitVec 32) (s : State) : WRes :=
  if (ustate s (dspUnit c)).busy then (s, 4) else (wr .dspCoreEntry c 0 (v &&& 0x7FFF) s, 0)

/-- DSP_CORE_STATUS as it reads: EXEC shows a core in WAIT as stalled. -/
def coreStatus (s : State) (c : Nat) : Word :=
  let x := dspOf s c
  let e := match x.exec with
    | .stopped => 0
    | .executing => if x.waiting && !dspWake s c then 2 else 1
    | .stalled => 2
    | .halted => 3
  BitVec.ofNat 32 (x.pc.toNat + e * 2 ^ 16 + x.loops.length * 2 ^ 18 + x.rets.length * 2 ^ 21)

end Sys2Proof.Machine
end

