-- ==== Sys2Proof/Machine/Pewter.lean ====
section
/-! DEFINITION. The pewter block format: prediction, canonical codes, the coded body's decoder, block headers and whole
blocks (14_compression.md R484 to R494). -/

namespace Sys2Proof.Machine

/-! Prediction (14 R486). -/

/-- A predictor byte's fields (14 R484): order, lanes, bytes a lane. -/
def predOrder (p : Nat) : Nat := p % 4
def predLanes (p : Nat) : Nat := 2 ^ (p / 4 % 4)
def predWidth (p : Nat) : Nat := if p / 16 % 2 = 1 then 4 else 2

/-- Numbers of w bytes, little-endian, from as many whole ones as a list of n holds. -/
def takeNums (w : Nat) : Nat → List Byte → List Nat
  | 0, _ => []
  | n + 1, bs => leNat (bs.take w) :: takeNums w n (bs.drop w)

/-- The residual of a value against the last two of its lane, folded to unsigned. -/
def foldRes (order w v v1 v2 : Nat) : Nat :=
  let m := 2 ^ (8 * w)
  let p := if order = 1 then v1 else (2 * v1 + (m - v2)) % m
  let r := (v + (m - p)) % m
  Nat.xor (2 * r % m) (if m ≤ 2 * r then m - 1 else 0)

/-- The value that a stored lane value stands for. -/
def unfoldRes (order w z v1 v2 : Nat) : Nat :=
  let m := 2 ^ (8 * w)
  let p := if order = 1 then v1 else (2 * v1 + (m - v2)) % m
  let r := Nat.xor (z / 2) (if z % 2 = 1 then m - 1 else 0)
  (r + p) % m

/-- Predict the lane values in turn; hist holds the raw values so far, latest first. -/
def predictNums (order w lanes : Nat) (hist : List Nat) : List Nat → List Nat
  | [] => []
  | v :: r => foldRes order w v (hist.getD (lanes - 1) 0) (hist.getD (2 * lanes - 1) 0) :: predictNums order w lanes (v :: hist) r

/-- Undo the prediction. -/
def unpredictNums (order w lanes : Nat) (hist : List Nat) : List Nat → List Nat
  | [] => []
  | z :: r =>
    let v := unfoldRes order w z (hist.getD (lanes - 1) 0) (hist.getD (2 * lanes - 1) 0)
    v :: unpredictNums order w lanes (v :: hist) r

/-- Apply f to the lane values of the whole frames; trailing bytes pass unchanged. -/
def onFrames (p : Nat) (f : List Nat → List Nat) (bs : List Byte) : List Byte :=
  let w := predWidth p
  let frame := predLanes p * w
  let n := bs.length / frame * predLanes p
  (f (takeNums w n bs)).flatMap (leBytes w) ++ bs.drop (n * w)

/-- Prediction of a block's raw bytes. -/
def predict (p : Nat) (bs : List Byte) : List Byte :=
  if predOrder p = 0 then bs else onFrames p (predictNums (predOrder p) (predWidth p) (predLanes p) []) bs

/-- The raw bytes of predicted bytes. -/
def unpredict (p : Nat) (bs : List Byte) : List Byte :=
  if predOrder p = 0 then bs else onFrames p (unpredictNums (predOrder p) (predWidth p) (predLanes p) []) bs

/-! Bits (14 R487). -/

/-- The bits of bytes, bit 0 first. -/
def bytesBits (bs : List Byte) : List Bool := bs.flatMap fun b => (List.range 8).map fun i => b.toNat.testBit i

/-- n bits, the least significant first. -/
def getBits : Nat → List Bool → Option (Nat × List Bool)
  | 0, bs => some (0, bs)
  | _ + 1, [] => none
  | n + 1, b :: bs =>
    match getBits n bs with
    | none => none
    | some (x, r) => some (b2n b + 2 * x, r)

/-! The code-length table (14 R488, R489). -/

/-- Why decoding fails, as the STATUS of 14 R505: 2 HEADER, 3 TABLE, 4 SYMBOL, 5 LENGTH, 6 CHECK. -/
abbrev PewterErr := Nat

/-- Read lengths until 325 are known; fuel bounds the nibbles. -/
def readTable : Nat → List Nat → List Bool → Except PewterErr (List Nat × List Bool)
  | 0, _, _ => .error 3
  | fuel + 1, acc, bs =>
    if acc.length = 325 then .ok (acc, bs)
    else if 325 < acc.length then .error 3
    else match getBits 4 bs with
      | none => .error 5
      | some (n, r) =>
        if n < 15 then readTable fuel (acc ++ [n]) r
        else match getBits 4 r with
          | none => .error 5
          | some (c, r) => readTable fuel (acc ++ List.replicate (c + 2) 0) r

/-- Symbols with a length. -/
def countLen (lens : List Nat) (l : Nat) : Nat := (lens.filter fun x => x == l).length

/-- The first code of each length. -/
def firstCode (lens : List Nat) : Nat → Nat
  | 0 => 0
  | 1 => 0
  | l + 1 => (firstCode lens l + countLen lens l) * 2

/-- The symbols in use. -/
def usedSyms (lens : List Nat) : Nat := (lens.filter fun x => x != 0).length

/-- An alphabet is valid (14 R489). -/
def alphabetOk (lens : List Nat) (dist : Bool) : Bool :=
  let k := (lens.map fun l => if l = 0 then 0 else 2 ^ (14 - l)).sum
  k == 2 ^ 14 || (usedSyms lens == 1 && countLen lens 1 == 1) || (dist && usedSyms lens == 0)

/-- The n-th symbol of a length, counting up from symbol i. -/
def nthSym (lens : List Nat) (l : Nat) : Nat → Nat → Option Nat
  | _, i => (((lens.zipIdx).filter fun p => p.1 == l).map fun p => p.2)[i]?

/-- Read a code most significant bit first: fuel bits may still follow the l bits of value code. -/
def readCode (lens : List Nat) : Nat → Nat → Nat → List Bool → Except PewterErr (Nat × List Bool)
  | 0, _, _, _ => .error 4
  | _ + 1, _, _, [] => .error 5
  | fuel + 1, l, code, b :: r =>
    let l := l + 1
    let code := 2 * code + b2n b
    let f := firstCode lens l
    if f ≤ code ∧ code < f + countLen lens l then
      match nthSym lens l 0 (code - f) with
      | some s => .ok (s, r)
      | none => .error 4
    else readCode lens fuel l code r

/-- Read one symbol of an alphabet: an alphabet with one symbol has the code 0 alone, one with none has no code. -/
def readSym (lens : List Nat) (bs : List Bool) : Except PewterErr (Nat × List Bool) :=
  if usedSyms lens = 0 then .error 4
  else if usedSyms lens = 1 then readCode lens 1 0 0 bs
  else readCode lens 14 0 0 bs

/-- The value of bucket b with its extra bits (14 R490). -/
def bucketVal (b : Nat) (bs : List Bool) : Except PewterErr (Nat × List Bool) :=
  if b < 4 then .ok (b, bs)
  else
    let k := b / 2
    match getBits (k - 1) bs with
    | none => .error 5
    | some (e, r) => .ok (2 ^ k + b % 2 * 2 ^ (k - 1) + e, r)

/-- Append m bytes, each from d bytes back; out holds the bytes latest first. -/
def copyBack (d : Nat) : Nat → List Byte → List Byte
  | 0, out => out
  | m + 1, out => copyBack d m (out.getD (d - 1) 0 :: out)

/-- Decode symbols until END (14 R491, R492); out holds the bytes latest first, n of them; raw is the raw length. -/
def decodeSyms (ll ds : List Nat) (raw : Nat) : Nat → Nat → List Byte → List Bool → Except PewterErr (List Byte)
  | 0, _, _, _ => .error 5
  | fuel + 1, n, out, bs =>
    match readSym ll bs with
    | .error e => .error e
    | .ok (sym, r) =>
      if sym < 256 then
        if raw < n + 1 then .error 5 else decodeSyms ll ds raw fuel (n + 1) (BitVec.ofNat 8 sym :: out) r
      else if sym = 256 then
        if (r.take (r.length % 8)).any id then .error 4
        else if 8 ≤ r.length ∨ n < raw then .error 5
        else .ok out.reverse
      else match bucketVal (sym - 257) r with
        | .error e => .error e
        | .ok (x, r) => match readSym ds r with
          | .error e => .error e
          | .ok (db, r) => match bucketVal db r with
            | .error e => .error e
            | .ok (y, r) =>
              if n < y + 1 then .error 4
              else if raw < n + x + 4 then .error 5
              else decodeSyms ll ds raw fuel (n + x + 4) (copyBack (y + 1) (x + 4) out) r

/-- Decode a coded body of a block with the given raw length, to the predicted bytes. -/
def decodeBody (raw : Nat) (body : List Byte) : Except PewterErr (List Byte) :=
  let bs := bytesBits body
  match readTable (bs.length + 1) [] bs with
  | .error e => .error e
  | .ok (lens, r) =>
    let ll := lens.take 289
    let ds := lens.drop 289
    if alphabetOk ll false && alphabetOk ds true && ll.getD 256 0 != 0 then decodeSyms ll ds raw (r.length + 1) 0 [] r
    else .error 3

/-! Blocks (14 R484, R485, R494). -/

/-- A predictor byte is within the format. -/
def predOk (p : Nat) : Bool := decide (p < 32 ∧ p % 4 < 3 ∧ p / 4 % 4 < 3)

/-- A block's header: type, raw length, coded length, predictor, level, flags, offset, CRC of the raw bytes. -/
def pewterHeader (typ raw coded pred level flags offset : Nat) (crc : BitVec 32) : List Byte :=
  let h := leBytes 2 0x5042 ++ leBytes 1 1 ++ leBytes 1 typ ++ leBytes 4 raw ++ leBytes 4 coded ++ leBytes 1 pred
    ++ leBytes 1 level ++ leBytes 2 flags ++ leBytes 8 offset ++ leBytes 4 crc.toNat
  h ++ leBytes 4 (crc32c h).toNat

/-- Zero bytes up to a multiple of 8. -/
def pewterPad (bs : List Byte) : List Byte := bs ++ List.replicate ((8 - bs.length % 8) % 8) 0

/-- Make a block of raw bytes: CODED with the engine's body where that decodes to the input and is shorter, else STORED
(14 R494). Answers the block and whether it is STORED. -/
def makeBlock (level pred flags offset : Nat) (bytes : List Byte) : List Byte × Bool :=
  let p := predict pred bytes
  let body := Config.codedBody p level
  let coded := level != 0 && decide (body.length < bytes.length) &&
    (match decodeBody bytes.length body with
     | .ok out => out == p
     | .error _ => false)
  let use := if coded then body else p
  (pewterPad (pewterHeader (b2n coded) bytes.length use.length pred level flags offset (crc32c bytes) ++ use), !coded)

/-- The fields of a block at the head of a byte string: type, raw length, coded length, predictor, CRC; or why not. -/
def readHeader (bs : List Byte) : Except PewterErr (Nat × Nat × Nat × Nat × Nat) :=
  let n := fun (at_ k : Nat) => leNat ((bs.drop at_).take k)
  let raw := n 4 4
  let coded := n 8 4
  if (crc32c (bs.take 28)).toNat ≠ n 28 4 ∨ n 0 2 ≠ 0x5042 ∨ n 2 1 ≠ 1 ∨ 1 < n 3 1 ∨ raw < 1 ∨ 262144 < raw
      ∨ (n 3 1 = 0 ∧ coded ≠ raw) ∨ (n 3 1 = 1 ∧ 262656 < coded) ∨ predOk (n 12 1) = false ∨ 32 ≤ n 14 2 then .error 2
  else .ok (n 3 1, raw, coded, n 12 1, n 24 4)

/-- The raw bytes of a block's body (14 R492). -/
def readBlock (typ raw pred crc : Nat) (body : List Byte) : Except PewterErr (List Byte) :=
  let stored := if typ = 0 then .ok body else decodeBody raw body
  match stored with
  | .error e => .error e
  | .ok p =>
    let out := unpredict pred p
    if (crc32c out).toNat = crc then .ok out else .error 6

end Sys2Proof.Machine
end

