-- ==== Sys2Proof/Machine/Compression.lean ====
section
/-! DEFINITION. The compression engines (14_compression.md R482 to R507). -/

namespace Sys2Proof.Machine

/-- Engine n. -/
def cmpOf (s : State) (n : Nat) : Cmp := vget s.cmp n Cmp.reset

/-- Change engine n; QUEUE, JOB_BUSY and RESULTS follow. -/
def withCmp (n : Nat) (f : Cmp → Cmp) (s : State) : State :=
  let x := f (cmpOf s n)
  let s := { s with cmp := vset s.cmp n x }
  setF .cmpStatus n 0 1 5 x.queue.length (setB .cmpStatus n 0 6 x.running.isSome
    (setF .cmpStatus n 0 7 5 (min 16 x.results.length) s))

/-- Unit code of engine n. -/
def cmpUnit (n : Nat) : Nat := 0x180 + n

/-- The engine runs jobs (14 R482). -/
def cmpJobs (s : State) (n : Nat) : Bool := getB s .cmpCfg n 0 0

/-- CMD_ERR. -/
def cmpErr (n : Nat) (s : State) : State := setB .cmpStatus n 0 0 true s

/-! Stream mode (14 R495 to R500). -/

/-- A CMP_STREAM_CFG value is in range (14 R499). -/
def cmpCfgOk (v : Word) : Bool :=
  decide (fld v 0 4 ≤ 9 ∧ fld v 4 2 ≤ 2 ∧ fld v 6 2 ≤ 2 ∧ 4 ≤ fld v 9 9 ∧ fld v 9 9 ≤ 256)

/-- The predictor byte of a CMP_STREAM_CFG value. -/
def cfgPred (v : Word) : Nat := fld v 4 2 + 4 * fld v 6 2 + 16 * fld v 8 1

/-- Add to a wrapping count. -/
def addCount (r : Reg) (i j n : Nat) (s : State) : State := wr r i j (rd s r i j + BitVec.ofNat 32 n) s

/-- A block has been made: its counts (14 CMP_COUNT index 0 to 3). -/
def cmpCounted (n raw out : Nat) (stored : Bool) (s : State) : State :=
  bump .cmpCount n 3 (b2n stored) (bump .cmpCount n 2 1 (addCount .cmpCount n 1 out (addCount .cmpCount n 0 raw s)))

/-- Close the block in formation; stop: last before DRAIN or STOP; cont: its last frame goes on (14 R484, R497, R498). -/
def cmpClose (n : Nat) (stop cont : Bool) (s : State) : State :=
  let x := cmpOf s n
  match x.blk with
  | none => s
  | some b =>
    let flags := b2n x.first + 2 * b2n stop + 4 * b2n cont + 8 * b2n b.continued + 16 * b2n b.failed
    let r := makeBlock (fld b.cfg 0 4) (cfgPred b.cfg) flags x.offset b.bytes
    let p := bytesWords r.1
    let off := (x.offset + b.bytes.length) % 2 ^ 64
    let s := withCmp n (fun x => { x with blk := none, first := false, offset := off, seq := x.seq + 1 }) s
    let s := wr .cmpStreamOffset n 1 (BitVec.ofNat 32 (off / 2 ^ 32)) (wr .cmpStreamOffset n 0 (BitVec.ofNat 32 off) s)
    offer { kind := 0x70, src := cmpUnit n, stream := 0, sel := 0, seq := x.seq, gen := 0, stamp := b.start, epoch := b.epoch,
            planEpoch := b.planEpoch, evSeq := 0, origin := b.origin.getD 0, check := b.failed, crc := crcWords p, payload := p }
      (cmpCounted n b.bytes.length r.1.length r.2 s)

/-- The size limit of a block in bytes. -/
def cmpLimit (v : Word) : Nat := fld v 9 9 * 1024

/-- Open a block: a waiting CMP_STREAM_CFG takes effect, with a new epoch (14 R499). -/
def cmpOpen (n : Nat) (cont : Bool) (s : State) : State :=
  let s := if (cmpOf s n).cfgWaits then bumpEpoch (cmpUnit n) (withCmp n (fun x => { x with cfgWaits := false }) s) else s
  let (t, s) := stampNow (cmpUnit n) s
  let b : CmpBlk :=
    { bytes := [], start := t, born := upTotal s, epoch := epochOf s (cmpUnit n), planEpoch := planEpoch s, cfg := rd s .cmpStreamCfg n 0,
      continued := cont, failed := false, origin := none }
  withCmp n (fun x => { x with blk := some b }) s

/-- Add a piece of a frame to the block in formation; head: the frame begins with it. -/
def cmpAdd (n : Nat) (piece : List Byte) (failed head : Bool) (origin : BitVec 64) (s : State) : State :=
  withCmp n (fun x => { x with blk := x.blk.map fun b =>
    { b with bytes := b.bytes ++ piece, failed := b.failed || failed,
             origin := if head then some (b.origin.getD origin) else b.origin } }) s

/-- Put the bytes of a frame into blocks, cutting it at the block size; fuel bounds the blocks (14 R497). -/
def cmpPut (n : Nat) (failed : Bool) (origin : BitVec 64) : Nat → Bool → List Byte → State → State
  | 0, _, _, s => s
  | fuel + 1, head, bs, s =>
    let s := match (cmpOf s n).blk with
      | some b => if head && decide (cmpLimit b.cfg < b.bytes.length + bs.length) then cmpClose n false false s else s
      | none => s
    let s := if (cmpOf s n).blk.isNone then cmpOpen n (!head) s else s
    match (cmpOf s n).blk with
    | none => s
    | some b =>
      let lim := cmpLimit b.cfg
      if b.bytes.length + bs.length ≤ lim then cmpAdd n bs failed head origin s
      else
        let k := lim - b.bytes.length
        cmpPut n failed origin fuel false (bs.drop k) (cmpClose n false true (cmpAdd n (bs.take k) failed head origin s))

/-- An item enters the raw input as an item frame; a block that holds bytes of a failing item, or of one that derives from
a failing parcel, is marked (14 R495 to R499, 01 R56). -/
def cmpTake (n : Nat) (i : Item) (s : State) : State :=
  let bad := itemCrcBad i
  let s := if bad then raiseRated 0x0B04 (cmpUnit n) [] 1 (bump .cmpCount n 4 1 s) else s
  let frame := leBytes 4 (4 * i.payload.length) ++ leBytes 2 (unitPort i.src) ++ leBytes 1 i.stream ++ leBytes 1 (b2n bad)
    ++ wordsBytes i.payload
  cmpPut n (bad || i.check) i.origin (frame.length / 4096 + 2) true frame s

/-- CMP_ITEM: the next item on consumer stream 0; room: the input FIFO can take it (14 R495, 01 R26). -/
def execCmpItem (n : Nat) (room : Bool) (s : State) : Out :=
  if cmpJobs s n then .next s
  else match takeDelivered (66 + n) 0 s with
    | none => .next s
    | some (i, t) =>
      if ustate s (cmpUnit n) ≠ .running ∨ !room then .next (refuseItem (66 + n) 0 s t) else .next (cmpTake n i t)

/-- FLUSH_US microseconds have passed since the first byte of the block in formation; 0 counts as 1 (14 R497). -/
def flushDue (s : State) (n : Nat) : Bool :=
  match (cmpOf s n).blk with
  | some b => decide (b.born + usTotal (max 1 (getF s .cmpFlush n 0 0 16)) ≤ upTotal s)
  | none => false

/-- CMP_FLUSH_TIMER: FLUSH_US after its first byte the block in formation closes (14 R497). -/
def execCmpFlushTimer (n : Nat) (s : State) : Out :=
  if ustate s (cmpUnit n) = .running ∧ flushDue s n then .next (cmpClose n false false s) else .next s

/-- A write of CMP_STREAM_CFG (14 R499). -/
def streamCfgEff (n : Nat) (v : BitVec 32) (s : State) : WRes :=
  let v := v &&& 0x3FFFF
  if cmpCfgOk v then
    let s := wr .cmpStreamCfg n 0 v s
    (if (ustate s (cmpUnit n)).busy && !cmpJobs s n then withCmp n (fun x => { x with cfgWaits := true }) s else s, 0)
  else (cmpErr n s, 5)

/-- CMP_STREAM_CFG_WRITE (14 R499). -/
def execCmpStreamCfgWrite (ag : AgentId) (n : Nat) (v : BitVec 32) (s : State) : Out :=
  .next (guardW ag (Reg.off .cmpStreamCfg n 0) v (streamCfgEff n v) s)

/-! Jobs (14 R501 to R506). -/

/-- Fields of a descriptor. -/
def jobW (d : List Word) (i : Nat) : Word := d.getD i 0
def jobOp (d : List Word) : Nat := fld (jobW d 0) 0 2
def jobN (d : List Word) (i : Nat) : Nat := (jobW d i).toNat + 2 ^ 32 * (jobW d (i + 1)).toNat
def jobPred (d : List Word) : Nat := fld (jobW d 0) 6 2 + 4 * fld (jobW d 0) 8 2 + 16 * fld (jobW d 0) 10 1
def jobLimit (d : List Word) : Nat := if fld (jobW d 3) 0 19 = 0 then 262144 else fld (jobW d 3) 0 19

/-- A range of a region that engine n owns. -/
def cmpRange (s : State) (n id off len : Nat) : Option Nat :=
  match ownedRegion s (cmpUnit n) id with
  | some r => if off + len ≤ r.size then some (r.base + off) else none
  | none => none

/-- The descriptor is within its rules (14 R502): the mapped source and destination. VERIFY ignores the destination. -/
def jobCheck (s : State) (n : Nat) (d : List Word) : Option (Nat × Nat) :=
  let w0 := jobW d 0
  let op := jobOp d
  let lim := fld (jobW d 3) 0 19
  let fields := op != 3 && fld w0 20 12 == 0 && fld (jobW d 1) 16 16 == 0 && fld (jobW d 3) 19 13 == 0
    && decide (fld w0 6 2 ≤ 2 ∧ fld w0 8 2 ≤ 2)
    && (op != 0 || decide (fld w0 2 4 ≤ 9 ∧ 4 ≤ fld w0 11 9 ∧ fld w0 11 9 ≤ 256)) && (lim == 0 || decide (4096 ≤ lim ∧ lim ≤ 262144))
    && jobN d 4 % 8 == 0 && decide (1 ≤ jobN d 6) && (op == 2 || jobN d 8 % 8 == 0)
    && ((List.range 4).all fun i => jobW d (12 + i) == 0)
  if fields then
    match cmpRange s n (fld (jobW d 2) 0 16) (jobN d 4) (jobN d 6) with
    | none => none
    | some src =>
      if op = 2 then some (src, 0)
      else (cmpRange s n (fld (jobW d 2) 16 16) (jobN d 8) (jobN d 10)).map fun dst => (src, dst)
  else none

/-- Write a job's result: its completion point (14 R505). -/
def jobResult (n : Nat) (d : List Word) (status blocks good : Nat) (s : State) : State :=
  let tag := fld (jobW d 1) 0 16
  let w : List Word :=
    [BitVec.ofNat 32 (tag + status * 2 ^ 16), BitVec.ofNat 32 blocks, BitVec.ofNat 32 good, BitVec.ofNat 32 (good / 2 ^ 32)]
  let s := withCmp n (fun x => { x with results := x.results ++ [w] }) s
  let s := if status = 0 then bump .cmpCount n 6 1 s else if status = 11 then s else bump .cmpCount n 7 1 s
  raise 0x0B02 (cmpUnit n) [.u16 tag, .u16 status, .u64 good] s

/-- SUBMIT (14 R502). -/
def jobSubmit (ag : AgentId) (n : Nat) (s : State) : WRes :=
  let refuse_ := fun (cause : Nat) =>
    (ignored ag (Reg.off .cmpJobCmd n 0) 1 (raise 0x0B03 (cmpUnit n) [.u16 cause] (cmpErr n s)), 99)
  if !cmpJobs s n then refuse_ 1
  else if 16 ≤ (cmpOf s n).queue.length then refuse_ 0
  else (withCmp n (fun x => { x with queue := x.queue ++ [(List.range 16).map fun i => rd s .cmpJobDesc n i] }) s, 0)

/-- The destination of a job that did not end OK is unspecified beyond its good bytes (14 R505). -/
def jobScramble (n : Nat) (d : List Word) (good : Nat) (s : State) : State :=
  match jobCheck s n d with
  | some (_, dst) =>
    if jobOp d = 2 then s
    else
      let k := s.free
      let cap := jobN d 10
      hbmPokes (dst + good) ((List.range (cap - good)).map fun i => Config.jobByte k (dst + good + i)) { s with free := k + 1 }
  | none => s

/-- ABORT against the running job (14 R506). -/
def jobAbort (n : Nat) (s : State) : State :=
  match (cmpOf s n).running with
  | some d =>
    let s := withCmp n (fun x => { x with running := none }) s
    setF .cmpStatus n 0 12 2 1 (jobResult n d 11 0 0 (jobScramble n d 0 s))
  | none => setF .cmpStatus n 0 12 2 2 s

/-- FLUSH: every queued job ends with ABORTED (14 R506). -/
def jobFlush (n : Nat) (s : State) : State :=
  let q := (cmpOf s n).queue
  q.foldl (fun s d => jobResult n d 11 0 0 s) (withCmp n (fun x => { x with queue := [] }) s)

/-- A write of CMP_JOB_CMD (14 R502, R506). -/
def jobCmdEff (ag : AgentId) (n : Nat) (v : BitVec 32) (s : State) : WRes :=
  let c := fld v 0 2
  if c = 1 then jobSubmit ag n s else if c = 2 then (jobAbort n s, 0) else if c = 3 then (jobFlush n s, 0) else (s, 0)

/-- A job command by an agent. -/
def jobCmdWrite (ag : AgentId) (n c : Nat) (s : State) : State :=
  guardW ag (Reg.off .cmpJobCmd n 0) (BitVec.ofNat 32 c) (jobCmdEff ag n (BitVec.ofNat 32 c)) s

/-- SUBMIT (14 R502). -/
def execSubmit (ag : AgentId) (n : Nat) (s : State) : Out := .next (jobCmdWrite ag n 1 s)

/-- CMP_JOB_ABORT (14 R506). -/
def execCmpJobAbort (ag : AgentId) (n : Nat) (s : State) : Out := .next (jobCmdWrite ag n 2 s)

/-- CMP_JOB_FLUSH (14 R506). -/
def execCmpJobFlush (ag : AgentId) (n : Nat) (s : State) : Out := .next (jobCmdWrite ag n 3 s)

/-- CMP_JOB_START: the next queued job starts, if results leave room (14 R502, R505). -/
def execCmpJobStart (n : Nat) (s : State) : Out :=
  let x := cmpOf s n
  match x.queue with
  | [] => .next s
  | d :: rest =>
    if x.running.isSome || decide (16 ≤ x.results.length) || ustate s (cmpUnit n) != .running || !cmpJobs s n then .next s
    else
      let s := withCmp n (fun x => { x with queue := rest }) s
      match jobCheck s n d with
      | none => .next (jobResult n d 1 0 0 s)
      | some _ => .next (withCmp n (fun x => { x with running := some d }) s)

/-- What a job has done: blocks, output bytes of them, status, and the bytes written so far. -/
structure JobRun where
  blocks : Nat
  good : Nat
  status : Nat
  out : List Byte

/-- COMPRESS the bytes that are left; fail: the blocks after which an HBM access failed twice (14 R503, R504). -/
def runCompress (level pred size cap : Nat) (fail : Option Nat) : Nat → Nat → List Byte → JobRun → List (Nat × Nat × Bool) →
    JobRun × List (Nat × Nat × Bool)
  | 0, _, _, r, l => (r, l)
  | fuel + 1, off, bs, r, l =>
    if bs = [] then (r, l)
    else if fail = some r.blocks then ({ r with status := 10 }, l)
    else
      let b := makeBlock level pred (b2n (r.blocks == 0)) off (bs.take size)
      if cap < r.good + b.1.length then ({ r with status := 7 }, l)
      else runCompress level pred size cap fail fuel (off + size) (bs.drop size)
        { r with blocks := r.blocks + 1, good := r.good + b.1.length, out := r.out ++ b.1 }
        (l ++ [((bs.take size).length, b.1.length, b.2)])

/-- DECOMPRESS or VERIFY the blocks that are left (14 R503). -/
def runDecode (limit cap : Nat) (verify : Bool) (fail : Option Nat) : Nat → List Byte → JobRun → JobRun
  | 0, _, r => r
  | fuel + 1, bs, r =>
    if bs = [] then r
    else if fail = some r.blocks then { r with status := 10 }
    else if bs.length < 32 then { r with status := 9 }
    else match readHeader bs with
      | .error e => { r with status := e }
      | .ok (typ, raw, coded, pred, crc) =>
        if bs.length < (32 + coded + 7) / 8 * 8 then { r with status := 9 }
        else if limit < raw then { r with status := 8 }
        else if !verify && decide (cap < r.good + raw) then { r with status := 7 }
        else match readBlock typ raw pred crc ((bs.drop 32).take coded) with
          | .error e => { r with status := e }
          | .ok out =>
            runDecode limit cap verify fail fuel (bs.drop ((32 + coded + 7) / 8 * 8))
              { r with blocks := r.blocks + 1, good := r.good + raw, out := if verify then r.out else r.out ++ out }

/-- The bytes of n from mapped address a that are read before a burst fails twice, whether all of them are, and the state
(14 R504). -/
def jobRead (u a n : Nat) (errs : List HbmErr) (s : State) : List Byte × Bool × State :=
  match errs.find? fun e => decide (2 ≤ e.kind ∧ 32 * e.burst < n) with
  | none =>
    let x := hbmReadE 26 u a n errs s
    (x.2.1, x.1 != 1, x.2.2)
  | some e =>
    let x := hbmReadE 26 u a (32 * e.burst) (errs.filter fun f => decide (f.burst < e.burst)) s
    (x.2.1, false, (hbmErr 26 u a false e x.2.2).1)

/-- CMP_JOB_DONE: the running job ends, after soft retries that succeeded; fail: after that many blocks an HBM access
failed twice (14 R503 to R505). -/
def execCmpJobDone (n : Nat) (fail : Option Nat) (soft : Nat) (errs : List HbmErr) (s : State) : Out :=
  match (cmpOf s n).running with
  | none => .next s
  | some d =>
    match jobCheck s n d with
    | none => .next (jobResult n d 1 0 0 (withCmp n (fun x => { x with running := none }) s))
    | some (src, dst) =>
      if rangeWaits s src (jobN d 6) || (jobOp d != 2 && rangeWaits s dst (jobN d 10)) then .next s
      else
        let s := (List.range soft).foldl (fun s _ => faultTransient s) s
        let x := jobRead (cmpUnit n) src (jobN d 6) errs s
        let s := withCmp n (fun x => { x with running := none }) x.2.2
        let start : JobRun := { blocks := 0, good := 0, status := 0, out := [] }
        let fuel := jobN d 6 + 1
        let cap := jobN d 10
        let size := fld (jobW d 0) 11 9 * 1024
        let r :=
          if jobOp d = 0 then
            runCompress (fld (jobW d 0) 2 4) (jobPred d) size cap
              (if x.2.1 then fail else some (min (fail.getD (x.1.length / size)) (x.1.length / size))) fuel 0
              (if x.2.1 then x.1 else x.1 ++ [0]) start []
          else
            let r := runDecode (jobLimit d) cap (jobOp d == 2) fail fuel x.1 start
            (if !x.2.1 ∧ (r.status = 0 ∨ r.status = 9) then { r with status := 10 } else r, [])
        let w := if jobOp d = 2 ∨ r.1.out = [] then (s, true) else hbmWriteE 26 (cmpUnit n) dst r.1.out [] s
        let run : JobRun := if w.2 then r.1 else { start with status := 10 }
        let s := r.2.foldl (fun s b => cmpCounted n b.1 b.2.1 b.2.2 s) w.1
        let s := if run.status = 10 then faultLasting 9 (cmpUnit n) 0 0 0 [] s else s
        let s := if run.status = 0 then s else jobScramble n d run.good s
        .next (jobResult n d run.status run.blocks run.good s)

/-- A read of CMP_JOB_RESULT instance 0: the oldest result is removed and latched (14 R505). -/
def jobResultRead (n : Nat) (s : State) : Word × State :=
  match (cmpOf s n).results with
  | [] => (0xF0000, s)
  | r :: rest =>
    let s := withCmp n (fun x => { x with results := rest }) s
    (r.getD 0 0, (List.range 4).foldl (fun s i => wr .cmpJobResult n i (r.getD i 0) s) s)

/-- CMP_JOB_RESULT_READ (14 R505). -/
def execCmpJobResultRead (n : Nat) (s : State) : Out :=
  if 8 ≤ n ∨ ustate s (cmpUnit n) = .off then .next { s with rdata := [0] }
  else
    let (w, s) := jobResultRead n s
    .next { s with rdata := [w] }

/-! Running and stopping (14 R500, R506, R507). -/

/-- START: a STREAM engine checks CMP_STREAM_CFG; the stream offset counts from 0. -/
def cmpStart (n : Nat) (s : State) : State :=
  if !cmpJobs s n && !cmpCfgOk (rd s .cmpStreamCfg n 0) then
    let off := Reg.off .cmpStreamCfg n 0
    enterFault (cmpUnit n) 7 (off % 2 ^ 16) (raise 0x0B01 (cmpUnit n) [.u32 off] s)
  else
    let s := withCmp n (fun x => { x with blk := none, cfgWaits := false, first := true, offset := 0 }) s
    wr .cmpStreamOffset n 1 0 (wr .cmpStreamOffset n 0 0 s)

/-- DRAIN and STOP: the block in formation closes with STOP; jobs act as ABORT followed by FLUSH. -/
def cmpDrain (n : Nat) (s : State) : State :=
  if cmpJobs s n then jobFlush n (jobAbort n s) else cmpClose n true false s

/-- Nothing is in formation and everything closed is delivered. -/
def cmpIdle (s : State) (n : Nat) : Bool :=
  let x := cmpOf s n
  x.blk.isNone && x.running.isNone && x.queue.isEmpty && !(s.plan.offered.any fun i => i.src == cmpUnit n)

/-- Something is in formation (01 R39). -/
def cmpPartial (s : State) (n : Nat) : Bool :=
  let x := cmpOf s n
  x.blk.isSome || x.running.isSome || !x.queue.isEmpty

/-- The ABORT rule: the block in formation is discarded and counted; jobs end with ABORTED. -/
def cmpDiscard (n : Nat) (s : State) : State :=
  if cmpJobs s n then jobFlush n (jobAbort n s)
  else match (cmpOf s n).blk with
    | none => s
    | some b => bump .cmpCount n 5 b.bytes.length (withCmp n (fun x => { x with blk := none }) s)

end Sys2Proof.Machine
end

