-- ==== Sys2Proof/Machine/Density.lean ====
section
/-! DEFINITION. The density engines (09_density_engine.md R347 to R372). -/

namespace Sys2Proof.Machine

/-- Density engine d. -/
def densOf (s : State) (d : Nat) : Dens := vget s.dens d Dens.reset

/-- Change density engine d. -/
def withDens (d : Nat) (f : Dens → Dens) (s : State) : State := { s with dens := vset s.dens d (f (densOf s d)) }

/-- Unit code of density engine d. -/
def densUnit (d : Nat) : Nat := 0x100 + d

/-! Fields of a set. -/

/-- BOTTOM. -/
def DensSet.bottom (x : DensSet) : Int := sgn 16 (fld x.map 0 16)
/-- STEP. -/
def DensSet.step (x : DensSet) : Nat := fld x.map 16 16
/-- MODE of persistence. -/
def DensSet.mode (x : DensSet) : Nat := fld x.persist 0 2
/-- FRAMES. -/
def DensSet.frames (x : DensSet) : Nat := fld x.persist 16 16
/-- FORMAT. -/
def DensSet.format (x : DensSet) : Nat := fld x.out 18 2
/-- IMG_HBM. -/
def DensSet.imgHbm (x : DensSet) : Bool := bit x.out 16

/-- Bytes of a pixel (09 R363). -/
def pixelBytes (format : Nat) : Nat := match format with | 0 => 2 | 1 => 3 | _ => 4

/-- A frame number that an EVERY field selects (09 R362). -/
def everyNth (every num : Nat) : Bool := every != 0 && num % every == 0

/-- The staged registers now. -/
def densStaged (s : State) (d : Nat) : DensSet :=
  { map := rd s .densMap d 0, persist := rd s .densPersist d 0, frame := rd s .densFrame d 0, out := rd s .densOut d 0,
    gain := rd s .densIndexGain d 0, pitch := getF s .densFbPitch d 0 0 18 }

/-- The register that fails the checks (09 R368). -/
def densFail (s : State) (d : Nat) (x : DensSet) : Option Nat :=
  let bad := fun (b : Bool) (r : Reg) => if b then some (Reg.off r d 0) else none
  let bpp := pixelBytes x.format
  let reg := ownedRegion s (densUnit d) (getF s .densCfg d 0 0 16)
  let past := fun k => match reg with
    | some r => decide (r.size < (rd s .densFbBase d k).toNat * 256 + 1023 * x.pitch + 1024 * bpp)
    | none => true
  [bad (x.step == 0) .densMap, bad (x.mode == 3) .densPersist, bad (x.format == 3) .densOut,
   bad (x.frames == 0 && (x.mode == 1 || x.mode == 2)) .densPersist,
   bad (x.imgHbm && reg.isNone) .densCfg,
   bad (x.imgHbm && (x.pitch % 64 != 0 || decide (x.pitch < 1024 * bpp))) .densFbPitch,
   bad (x.imgHbm && (past 0 || past 1)) .densFbBase].findSome? id

/-- DECAY: 65,536 × 2^(−1 ÷ FRAMES) to nearest, at most 65,535 (09 R359): the largest d of 16 bits with
2 (2d − 1)^FRAMES ≤ 131,072^FRAMES. -/
def decayOf (frames : Nat) : Nat :=
  if frames = 0 then Config.decayZero
  else (List.range 16).foldl (fun d i =>
    let e := d + 2 ^ (15 - i)
    if 2 * (2 * e - 1) ^ frames ≤ 131072 ^ frames then e else d) 0

/-- A set comes into force; DECAY is computed (09 R359). -/
def densTake (d : Nat) (x : DensSet) (s : State) : State :=
  setF .densStatus d 0 16 16 (decayOf x.frames) (withDens d (fun e => { e with set := x }) s)

/-! Rows (09 R349, R350). -/

/-- W for NP points. -/
def densWidth (np : Nat) : Nat := min np 1024

/-- The column of point p. -/
def densCol (np p : Nat) : Nat := p * densWidth np / np

/-- The row of a value: before clamping. -/
def densRaw (x : DensSet) (v : Int) : Int := ((v - x.bottom) * 32) / (x.step : Int)

/-- The row of a value. -/
def densRow (x : DensSet) (v : Int) : Nat := (clampInt 0 1023 (densRaw x v)).toNat

/-- The cells that a spectrum hits, with its fills (09 R352). -/
def densHits (e : DensEntry) : List Nat :=
  let np := e.rows.length
  (List.range np).flatMap fun p =>
    let r := e.rows.getD p 0
    let c := densCol np p
    let q := if p = 0 then r else e.rows.getD (p - 1) 0
    let lo := min r q
    let fill := if e.connect then (List.range (max r q - lo - 1)).map fun i => (lo + 1 + i) * 1024 + c else []
    (r * 1024 + c) :: fill

/-! The sweep (09 R358 to R361). -/

/-- What a sweep writes back for a counter. -/
def writeBack (w : DensSweep) (c : Nat) : Nat :=
  if w.clear then 0
  else match w.set.mode with
    | 1 => c * w.decay / 65536
    | 2 => if w.accum % w.set.frames = 0 then 0 else c
    | _ => c

/-- The sweep passes its counters once every spectrum of its frame and earlier ones is in the plane. -/
def sweepPass (d : Nat) (s : State) : State :=
  let x := densOf s d
  match x.sweep with
  | none => s
  | some w =>
    if w.swept.isSome || x.queue.any fun e => e.frame == w.frame.num then s
    else
      let zero := w.clear || (w.set.mode == 2 && w.accum % w.set.frames == 0)
      let swap := w.render && x.swap
      let bank := (List.range 256).foldl (fun m i => spPut m i (rd s .densCmap d i) 0) ([] : List (Nat × Word))
      let s := if swap then (List.range 256).foldl (fun s i => wr .densCmap d i (spGet x.cmap i 0) s) s else s
      withDens d (fun x => { x with
        plane := (x.plane.map fun p => (p.1, writeBack w p.2)).filter fun p => p.2 != 0,
        sweep := some { w with swept := some x.plane }, accum := if zero then 0 else x.accum,
        cmap := if swap then bank else x.cmap, swap := x.swap && !swap }) s

/-- The frame in formation ends: its sweep begins, a pending commit takes effect (09 R357, R369). -/
def endFrame (d : Nat) (cut clear : Bool) (s : State) : State :=
  let x := densOf s d
  let clr := clear || ((x.commit.map fun c => c.clear).getD false)
  let f : DensFrame := { x.frame with flags := Nat.lor x.frame.flags (b2n cut + 16 * b2n clr) }
  let w : DensSweep :=
    { frame := f, set := x.set, decay := getF s .densStatus d 0 16 16, clear := clr,
      render := everyNth (fld x.set.out 0 8) f.num, export_ := everyNth (fld x.set.out 8 8) f.num, accum := x.accum + 1,
      fb := (rd s .densFbBase d x.nextBuf).toNat * 256,
      swept := none }
  let num := (f.num + 1) % 2 ^ 32
  let s := withDens d (fun x => { x with frame := DensFrame.start num 0, sweep := some w, ending := none,
                                         accum := x.accum + 1, commit := none }) s
  let s := setB .densStatus d 0 3 true (wr .densFrameNum d 0 (BitVec.ofNat 32 num) s)
  let s := match x.commit with
    | none => s
    | some c =>
      let s := match c.set with | some y => densTake d y s | none => s
      raise 0x0702 (densUnit d) [.u32 num] (bumpEpoch (densUnit d) (setB .densStatus d 0 0 false s))
  sweepPass d s

/-- A frame end comes: at once, or when the running sweep completes (09 R360). -/
def frameDue (d : Nat) (cut clear : Bool) (s : State) : State :=
  let x := densOf s d
  if x.frame.received = 0 then s
  else if x.sweep.isSome || x.zeroing then
    if x.ending.isSome then withDens d (fun x => { x with ending := x.ending.map fun e => (e.1, e.2 || clear) }) s
    else bump .densCount d 5 1 (withDens d (fun x => { x with
      ending := some (cut, clear), frame := { x.frame with flags := Nat.lor x.frame.flags 2 } }) s)
  else endFrame d cut clear s

/-! Input (09 R350 to R357). -/

/-- The engine's frame takes one more spectrum: its records carry the last spectrum's epochs (09 R367). -/
def frameTake (d : Nat) (o : SpecOut) (hist : Bool) (s : State) : State :=
  let ep := epochOf s (densUnit d)
  let pe := planEpoch s
  withDens d (fun x =>
    let f := x.frame
    let one := f.received == 0
    let fl := (if hist then 0 else 4)
      + (if hist then 32 * b2n (o.flags.testBit 0 || o.flags.testBit 2 || o.flags.testBit 4) + 64 * b2n (o.flags.testBit 7) else 0)
    { x with frame := { f with
        received := f.received + 1, hist := f.hist + b2n hist, turned := f.turned + b2n (!hist), flags := Nat.lor f.flags fl,
        width := if one then densWidth o.points.length else f.width, firstSeq := if one then o.seq else f.firstSeq,
        lastSeq := o.seq, firstStamp := if one then o.stamp else f.firstStamp, lastStamp := o.stamp,
        origin := if one then o.origin else f.origin, epoch := ep, planEp := pe } }) s

/-- The rows of a spectrum go to the density trigger of the channel, if its engine runs (07 R284, 09 R351). -/
def rowsSide (d : Nat) (o : SpecOut) (rows : List Nat) (s : State) : State :=
  if ustate s (trigUnit d) = .running then
    withTrig d (fun t => { t with
      rows := t.rows ++ [{ seq := o.seq, stamp := o.stamp, flags := o.flags, rows := rows, arrived := o.arrived }] }) s
  else s

/-- A spectrum of the engine's channel. -/
def densSpectrum (d : Nat) (o : SpecOut) (s : State) : State :=
  let np := o.points.length
  let f := (densOf s d).frame
  let wide := f.received != 0 && densWidth np != f.width
  let s := if o.flags.testBit 3 || o.flags.testBit 1 then frameDue d true wide s else s
  let x := densOf s d
  let raws := o.points.map (densRaw x.set)
  let rows := o.points.map (densRow x.set)
  let s := bump .densCount d 3 (raws.filter fun r => decide (r < 0)).length s
  let s := bump .densCount d 4 (raws.filter fun r => decide (1023 < r)).length s
  let s := rowsSide d o rows s
  let held := (x.queue.map fun e => e.rows.length).sum
  let hist := !x.zeroing && decide (held + np ≤ 65536)
  let s := frameTake d o hist s
  let s :=
    if hist then withDens d (fun x => { x with
      queue := x.queue ++ [{ frame := x.frame.num, rows := rows, connect := bit x.set.persist 2 }] }) s
    else raiseRated 0x0704 (densUnit d) [] 1 (bump .densCount d 1 1 s)
  let x := densOf s d
  if (x.commit.map fun c => c.snap).getD false then frameDue d true false s
  else if max 1 (fld x.set.frame 0 24) ≤ x.frame.received then frameDue d false false s
  else s

/-- DENS_SPECTRUM: the next spectrum that the side path brings to engine d (06 R240). -/
def execDensSpectrum (d : Nat) (s : State) : Out :=
  match (densOf s d).spectra with
  | [] => .next s
  | o :: r =>
    let s := withDens d (fun x => { x with spectra := r }) s
    if ustate s (densUnit d) = .running then .next (densSpectrum d o s) else .next s

/-- DENS_HISTOGRAM_DONE: the hits of the oldest queued spectrum are in the plane (09 R352, R353, R355). -/
def execDensHistogramDone (d : Nat) (s : State) : Out :=
  match (densOf s d).queue with
  | [] => .next s
  | e :: r =>
    let p := (densHits e).foldl
      (fun (acc : List (Nat × Nat) × Nat) k =>
        let c := spGet acc.1 k 0
        if c = 2 ^ 32 - 1 then (acc.1, acc.2 + 1) else (spPut acc.1 k (c + 1) 0, acc.2)) ((densOf s d).plane, 0)
    let sat := if p.2 = 0 then 0 else 8
    let s := withDens d (fun x => { x with
      plane := p.1, queue := r,
      frame := if x.frame.num = e.frame then { x.frame with flags := Nat.lor x.frame.flags sat } else x.frame,
      sweep := x.sweep.map fun w =>
        if w.frame.num = e.frame then { w with frame := { w.frame with flags := Nat.lor w.frame.flags sat } } else w }) s
    let s := raiseRated 0x0707 (densUnit d) [] p.2 (bump .densCount d 2 p.2 (bump .densCount d 0 1 s))
    .next (sweepPass d s)

/-! Rendering and export (09 R362 to R367). -/

/-- The colour index of a swept value. -/
def densIndex (x : DensSet) (c : Nat) : Nat :=
  if c = 0 then 0
  else if bit x.out 20 then min (max (lg16 (c + 1) * fld x.gain 16 16 / 2 ^ 22) 1) 255
  else min (max (c * fld x.gain 0 16 / 2 ^ 16) 1) 255

/-- The bytes of a pixel (09 R363). -/
def pixelOf (format : Nat) (e : Word) : List Byte :=
  let b := fld e 0 8
  let g := fld e 8 8
  let r := fld e 16 8
  match format with
  | 0 => leBytes 2 (b / 8 + g / 4 * 32 + r / 8 * 2048)
  | 1 => leBytes 1 b ++ leBytes 1 g ++ leBytes 1 r
  | _ => leBytes 4 (fld e 0 24)

/-- The density header (09 R365, R366). -/
def densHeader (d : Nat) (w : DensSweep) (row content : Nat) : List Byte :=
  let f := w.frame
  leBytes 4 f.num ++ leBytes 4 f.hist ++ leBytes 4 f.turned ++ leBytes 2 f.width ++ leBytes 2 row ++ leBytes 2 64
    ++ leBytes 1 (fld w.set.persist 0 3) ++ leBytes 1 content ++ leBytes 2 f.flags ++ leBytes 1 d ++ leBytes 1 0
    ++ leBytes 6 f.firstSeq ++ leBytes 2 0 ++ leBytes 6 f.lastSeq ++ leBytes 2 0 ++ wordsBytes (stampWords f.firstStamp)
    ++ leBytes 4 w.accum ++ leBytes 4 w.set.map.toNat ++ leBytes 4 w.decay

/-- One of the 16 records of a plane or an image. -/
def densRecord (d kind stream : Nat) (w : DensSweep) (k content : Nat) (body : List Byte) (s : State) : State :=
  let b := densHeader d w (64 * k) content ++ body
  let p := bytesWords (b ++ List.replicate ((8 - b.length % 8) % 8) 0)
  let f := w.frame
  offer { kind := kind, src := densUnit d, stream := stream, sel := 0, seq := f.num, gen := 0, stamp := f.lastStamp,
          epoch := f.epoch, planEpoch := f.planEp, evSeq := 0, origin := f.origin, check := f.flags.testBit 6,
          crc := crcWords p, payload := p } s

/-- The swept counter of a row and column. -/
def sweptAt (m : List (Nat × Nat)) (r c : Nat) : Nat := spGet m (1024 * r + c) 0

/-- A line of the image: row 1,023 − i. -/
def imageLine (x : Dens) (w : DensSweep) (m : List (Nat × Nat)) (i : Nat) : List Byte :=
  (List.range w.frame.width).flatMap fun c =>
    pixelOf w.set.format (spGet x.cmap (densIndex w.set (sweptAt m (1023 - i) c)) 0)

/-- A memory item that writes bytes at an offset of a region, filled with zeros to a multiple of 32 (15 R514). -/
def memWrite (region off : Nat) (b : List Byte) : List Word :=
  let len := (b.length + 31) / 32 * 32
  bytesWords (leBytes 1 1 ++ leBytes 1 0 ++ leBytes 2 region ++ leBytes 4 len ++ leBytes 8 off ++ leBytes 16 0 ++ padTo len 0 b)

/-- The image in the next frame buffer, over producer stream 2; each item names its line, frame and buffer, and the last one
in HBM makes it the image to show (09 R364; imageDone). -/
def imageWrite (d : Nat) (w : DensSweep) (m : List (Nat × Nat)) (s : State) : State :=
  let x := densOf s d
  let reg := getF s .densCfg d 0 0 16
  let s := (List.range 1024).foldl (fun s i =>
    let p := memWrite reg (w.fb + i * w.set.pitch) (imageLine x w m i)
    offer { kind := 0, src := densUnit d, stream := 2, sel := w.frame.num, seq := i, gen := x.nextBuf, stamp := w.frame.lastStamp,
            epoch := w.frame.epoch, planEpoch := w.frame.planEp, evSeq := 0, origin := 0, check := false, crc := crcWords p,
            payload := p } s) s
  withDens d (fun x => { x with nextBuf := 1 - x.nextBuf }) s

/-- What a sweep sends. -/
def sweepOut (d : Nat) (w : DensSweep) (m : List (Nat × Nat)) (s : State) : State :=
  let x := densOf s d
  let s :=
    if w.export_ then
      (List.range 16).foldl (fun s k =>
        densRecord d 0x40 0 w k 1 ((List.range 64).flatMap fun r => (List.range w.frame.width).flatMap fun c =>
          leBytes 4 (sweptAt m (64 * k + r) c)) s) s
    else s
  if w.render then
    let s := if w.set.imgHbm then imageWrite d w m s else s
    if bit w.set.out 17 then
      (List.range 16).foldl (fun s k =>
        densRecord d 0x41 1 w k (2 + w.set.format) ((List.range 64).flatMap fun r => imageLine x w m (64 * k + r)) s) s
    else s
  else s

/-- The output of a sweep waits: a stream of the engine has not taken what an earlier one sent (09 R360). -/
def sweepWaits (s : State) (d : Nat) (w : DensSweep) : Bool :=
  (w.export_ || w.render) && s.plan.offered.any fun i => i.src == densUnit d

/-- DENS_SWEEP_DONE: the zeroing after START, or a frame's sweep with its output, completes (09 R360, R370, R371). -/
def execDensSweepDone (d : Nat) (s : State) : Out :=
  let x := densOf s d
  if x.zeroing then
    let s := setB .densStatus d 0 3 false (withDens d (fun x => { x with zeroing := false }) s)
    .next (match x.ending with | some (cut, clear) => endFrame d cut clear s | none => s)
  else match x.sweep with
    | none => .next s
    | some w =>
      match w.swept with
      | none => .next s
      | some m =>
        if sweepWaits s d w then .next s else
        let s := sweepOut d w m s
        let s := setB .densStatus d 0 3 false (withDens d (fun x => { x with sweep := none }) s)
        let s :=
          if bit w.set.out 21 then raise 0x0705 (densUnit d) [.u32 w.frame.num, .u32 w.frame.hist, .u32 w.frame.turned] s
          else s
        .next (match (densOf s d).ending with | some (cut, clear) => endFrame d cut clear s | none => s)

/-! Commits (09 R368, R369). -/

/-- Merge a commit into the pending one: registers captured again replace those captured before. -/
def densPend (d : Nat) (set : Option DensSet) (v : BitVec 32) (s : State) : State :=
  let clear := bit v 2
  let snap := bit v 3
  let s := if bit v 4 then withDens d (fun x => { x with swap := true }) s else s
  if set.isSome || clear || snap then
    setB .densStatus d 0 0 true (withDens d (fun x =>
      let old := x.commit.getD { set := none, clear := false, snap := false }
      { x with commit := some { set := if set.isSome then set else old.set, clear := clear || old.clear,
                                snap := snap || old.snap } }) s)
  else s

/-- A write to DENS_COMMIT. -/
def densCommitEff (d : Nat) (v : BitVec 32) (s : State) : WRes :=
  match fld v 0 2 with
  | 0 => (densPend d none v s, 0)
  | 1 =>
    let x := densStaged s d
    match densFail s d x with
    | some off =>
      (raise 0x0703 (densUnit d) [.u32 off] (bump .densCount d 6 1 (setB .densStatus d 0 1 true s)), 0)
    | none => (densPend d (some x) v s, 0)
  | 3 => (setB .densStatus d 0 0 false (withDens d (fun x => { x with commit := none, swap := false }) s), 0)
  | _ => (s, 0)

/-- A write of DENS_COMMIT by an agent. -/
def densCommitW (ag : AgentId) (d : Nat) (v : BitVec 32) (s : State) : State :=
  guardW ag (Reg.off .densCommit d 0) v (densCommitEff d v) s

/-- DENS_COMMIT_NEXT_FRAME: MODE 1, with the bits of v above MODE. -/
def execDensCommitNextFrame (ag : AgentId) (d : Nat) (v : BitVec 32) (s : State) : Out :=
  .next (densCommitW ag d ((v &&& 0xFFFFFFFC#32) ||| 1#32) s)

/-- DENS_COMMIT_CANCEL. -/
def execDensCommitCancel (ag : AgentId) (d : Nat) (s : State) : Out := .next (densCommitW ag d 3#32 s)

/-- DENS_CLEAR: a write with CLEAR (09 R361). -/
def execDensClear (ag : AgentId) (d : Nat) (v : BitVec 32) (s : State) : Out := .next (densCommitW ag d (v ||| 4#32) s)

/-- DENS_SNAPSHOT: a write with SNAPSHOT (09 R357). -/
def execDensSnapshot (ag : AgentId) (d : Nat) (v : BitVec 32) (s : State) : Out := .next (densCommitW ag d (v ||| 8#32) s)

/-- CMAP_SWAP: a write with CMAP_SWAP (09 R369). -/
def execCmapSwap (ag : AgentId) (d : Nat) (v : BitVec 32) (s : State) : Out := .next (densCommitW ag d (v ||| 16#32) s)

/-! The engine as a unit (09 R368, R370, R371). -/

/-- START. -/
def densStart (d : Nat) (s : State) : State :=
  let x := densStaged s d
  match densFail s d x with
  | some off => enterFault (densUnit d) 7 off (raise 0x0701 (densUnit d) [.u32 off] s)
  | none =>
    let s := densTake d x (changeState (densUnit d) .running s)
    let s := withDens d (fun e => { e with
      zeroing := true, spectra := [], plane := [], queue := [], frame := DensFrame.start 0 128, sweep := none, ending := none, accum := 0,
      nextBuf := 0 }) s
    setB .densStatus d 0 3 true (wr .densFrameNum d 0 0 s)

/-- DRAIN or STOP ends the frame. -/
def densDrain (d : Nat) (s : State) : State := frameDue d true false s

/-- Nothing is queued, in formation or being swept. -/
def densIdle (s : State) (d : Nat) : Bool :=
  let x := densOf s d
  x.queue.isEmpty && x.sweep.isNone && !x.zeroing && x.frame.received == 0

/-- ABORT and faults discard the queue, the frame in formation and a sweep's unsent records. -/
def densDiscard (d : Nat) (s : State) : State :=
  setB .densStatus d 0 3 false (withDens d (fun x => { x with
    zeroing := false, spectra := [], queue := [], frame := DensFrame.start x.frame.num x.frame.flags, sweep := none, ending := none }) s)

end Sys2Proof.Machine
end

