-- ==== Sys2Proof/Machine/Display.lean ====
section
/-! DEFINITION. The display unit (10_display_scanout.md R373 to R396). -/

namespace Sys2Proof.Machine

/-- The display's unit code. -/
def dispUnit : Nat := 0x120

/-- Change the display. -/
def withDisp (f : Disp → Disp) (s : State) : State := { s with disp := f s.disp }

/-! The timing set (10 R375 to R377). -/

/-- HACTIVE and HTOTAL, VACTIVE and VTOTAL. -/
def DispTiming.hAct (t : DispTiming) : Nat := fld t.hTotal 0 16
def DispTiming.hTot (t : DispTiming) : Nat := fld t.hTotal 16 16
def DispTiming.vAct (t : DispTiming) : Nat := fld t.vTotal 0 16
def DispTiming.vTot (t : DispTiming) : Nat := fld t.vTotal 16 16

/-- PREDIV, POSTDIV, and MULT with FRAC in units of 2^-24. -/
def DispTiming.prediv (t : DispTiming) : Nat := fld t.pclk 0 4
def DispTiming.postdiv (t : DispTiming) : Nat := fld t.pclk 12 4
def DispTiming.mult24 (t : DispTiming) : Nat := fld t.pclk 4 8 * 2 ^ 24 + fld t.frac 0 24

/-- Lanes, the lane rate in 10 Mb/s, bits per pixel. -/
def DispTiming.lanes (t : DispTiming) : Nat := 2 ^ fld t.link 0 2
def DispTiming.rate (t : DispTiming) : Nat := match fld t.link 2 2 with | 0 => 162 | 1 => 270 | 2 => 540 | _ => 810
def DispTiming.bits (t : DispTiming) : Nat := if bit t.link 4 then 18 else 24

/-- The staged set. -/
def dispStaged (s : State) : DispTiming :=
  { hTotal := rd s .dispHTotal 0 0, vTotal := rd s .dispVTotal 0 0, hSync := rd s .dispHSync 0 0, vSync := rd s .dispVSync 0 0,
    pclk := rd s .dispPclk 0 0, frac := rd s .dispPclkFrac 0 0, link := rd s .dispLink 0 0 }

/-- The register that breaks R377. -/
def timingFail (t : DispTiming) : Option Nat :=
  let bad := fun (b : Bool) (r : Reg) => if b then some (Reg.off r 0 0) else none
  let sync := fun (w : Word) (act tot : Nat) =>
    decide (fld w 0 16 < act ∨ tot < fld w 0 16 + fld w 16 12 ∨ fld w 16 12 = 0)
  [bad (decide (t.hAct < 64 ∨ 3840 < t.hAct ∨ t.hAct % 2 = 1 ∨ t.hTot < t.hAct + 64 ∨ 8192 < t.hTot)) .dispHTotal,
   bad (decide (t.vAct < 64 ∨ 2160 < t.vAct ∨ t.vTot < t.vAct + 4 ∨ 4096 < t.vTot)) .dispVTotal,
   bad (sync t.hSync t.hAct t.hTot) .dispHSync,
   bad (sync t.vSync t.vAct t.vTot) .dispVSync,
   bad (decide (t.prediv = 0 ∨ t.postdiv = 0 ∨ t.mult24 < 10 * t.prediv * 2 ^ 24 ∨ 40 * t.prediv * 2 ^ 24 < t.mult24
     ∨ 6 * t.prediv * t.postdiv * 2 ^ 24 < t.mult24)) .dispPclk,
   bad (decide (fld t.link 0 2 = 3
     ∨ t.lanes * t.rate * 792 * t.prediv * t.postdiv * 2 ^ 24 < 10 * t.mult24 * t.bits * 1000)) .dispLink].findSome? id

/-! Interrupts, link, frames. -/

/-- LSTATE. -/
def lstateD (s : State) : Nat := getF s .dispStatus 0 0 16 3
/-- Change LSTATE. -/
def setLink (k : Nat) (s : State) : State := setF .dispStatus 0 0 16 3 k s
/-- The DP_HPD level. -/
def hpd (s : State) : Bool := getB s .dispStatus 0 0 19
/-- LINE. -/
def dispLine (s : State) : Nat := getF s .dispStatus 0 0 0 16

/-- The unit runs, its last frame not yet ended (10 R391, R395). -/
def dispRuns (s : State) : Bool := (ustate s dispUnit).busy && !s.disp.ended

/-- Bit k of DISP_INT_STATUS is set by hardware (10 R394). -/
def dispInt (k : Nat) (s : State) : State :=
  let s := setB .dispIntStatus 0 0 k true s
  if getB s .dispIntEn 0 0 k then irqSource 0 s else s

/-- The next frame is a blank frame (10 R389). -/
def blankNext (s : State) : State := setB .dispStatus 0 0 22 true (bump .dispCount 0 2 1 s)

/-- Training starts, for a cause, when a sink is present (10 R392). -/
def trainStart (cause : Nat) (s : State) : State :=
  withDisp (fun d => { d with cause := cause }) (if hpd s then setLink 2 s else s)

/-- SYN_3 takes the values of a timing set (10 R376). -/
def pclkSet (t : DispTiming) (s : State) : State :=
  let same := s.disp.timing.pclk == t.pclk && s.disp.timing.frac == t.frac
  let s := withSyn 3 (fun y => { y with prediv := t.prediv, mult := fld t.pclk 4 8, postdiv := t.postdiv,
                                        lock := if same then y.lock else 1 }) s
  if same then s else withDisp (fun d => { d with hold := true, planned := true }) s

/-- SYN_3 is locked again: with no sink to train, the timing generator goes on. -/
def dispSynUp (s : State) : State :=
  let s := withDisp (fun d => { d with planned := false }) s
  if s.disp.hold ∧ lstateD s ≠ 2 then withDisp (fun d => { d with hold := false }) s else s

/-- SYN_3 loses lock: outputs idle until relock and training (10 R393). -/
def dispSynLost (s : State) : State :=
  if dispRuns s then blankNext (trainStart 2 (withDisp (fun d => { d with hold := true, line := [], next := 0 }) s)) else s

/-- TRAINING_DONE: success, or failure in a phase on a lane (10 R390, R392, R393). -/
def execTrainingDone (good : Bool) (phase lane : Nat) (s : State) : Out :=
  if lstateD s = 2 ∧ (synOf s 3).lock = 2 ∧ dispRuns s then
    let s := withDisp (fun d => { d with hold := false, planned := false }) (bump .dispCount 0 3 1 s)
    if good then
      let t := s.disp.timing
      let s := raise 0x0802 dispUnit [.u16 s.disp.cause, .u16 t.lanes, .u16 (fld t.link 2 2)] (setLink 3 s)
      .next (if s.disp.cause < 3 then dispInt 4 s else s)
    else .next (raise 0x0805 dispUnit [.u16 phase, .u16 lane] (setLink 4 s))
  else .next s

/-- HPD_RISE: DP_HPD has been high for 2 ms; the end of NO_SINK is reported, and AUTO_TRAIN trains (10 R392, R394). -/
def execHpdRise (s : State) : Out :=
  let was := hpd s
  let s := setB .dispStatus 0 0 19 true s
  if dispRuns s then
    let s := if lstateD s = 1 ∧ !was then raise 0x0806 dispUnit [.u16 1, .u16 0] (dispInt 5 s) else s
    .next (if getB s .dispLink 0 0 5 then trainStart 3 s else s)
  else .next s

/-- HPD_LOW: DP_HPD has been low for 2 ms: NO_SINK (10 R391, R394). -/
def execHpdLow (s : State) : Out :=
  let s := setB .dispStatus 0 0 19 false s
  if dispRuns s ∧ lstateD s ≠ 1 then
    let s := raise 0x0806 dispUnit [.u16 0, .u16 0] (dispInt 5 (setLink 1 s))
    .next (if (synOf s 3).lock = 2 then withDisp (fun d => { d with hold := false }) s else s)
  else .next s

/-- SINK_INTERRUPT: a low pulse of 0.5 to 1 ms (10 R392). -/
def execSinkInterrupt (s : State) : Out :=
  if dispRuns s then .next (raise 0x0806 dispUnit [.u16 1, .u16 1] (bump .dispCount 0 6 1 (dispInt 5 s))) else .next s

/-! Frame-address captures (10 R378 to R384). -/

/-- The region of a plane, if it is selectable (10 R379). -/
def planeRegion (s : State) (p : DispPlane) : Option PlanRegion :=
  match fld p.cfg 18 3 with
  | 0 => ownedRegion s dispUnit (getF s .dispCfg 0 0 0 16)
  | k + 1 =>
    if k < 4 ∧ getB s .dispCfg 0 0 (17 + k) then ownedRegion s (0x100 + k) (getF s .densCfg k 0 0 16) else none

/-- Bytes of a pixel of a plane. -/
def planeBytes (p : DispPlane) : Nat := match fld p.cfg 21 2 with | 0 => 2 | 1 => 3 | _ => 4

/-- The register that fails the check at transfer (10 R383). -/
def planeFail (s : State) (t : DispTiming) (p : DispPlane) : Option Nat :=
  let bad := fun (b : Bool) (r : Reg) => if b then some (Reg.off r 0 0) else none
  let w := fld p.size 0 16
  let h := fld p.size 16 16
  let pitch := fld p.cfg 0 18
  let reg := planeRegion s p
  [bad (match reg with | some r => !r.realtime | none => true) .dispFbCfg,
   bad (decide (pitch % 64 ≠ 0 ∨ pitch < w * planeBytes p)) .dispFbCfg,
   bad (decide (t.hAct < fld p.pos 0 16 + w ∨ t.vAct < fld p.pos 16 16 + h)) .dispPlanePos,
   bad (match reg with
     | some r => decide (0 < h ∧ r.size < p.addr.toNat * 256 + (h - 1) * pitch + w * planeBytes p)
     | none => true) .dispFbAddr].findSome? id

/-- The capture was made in this frame's blanking, and waits for the next (10 R382). -/
def capWaits (s : State) : Bool :=
  getB s .dispFbPending 0 0 1 &&
    getF s .dispFbPending 0 0 16 16 == ((rd s .dispFrameNum 0 0).toNat + 2) % 65536

/-- DISP_VBLANK_START: pixel 0 of line VACTIVE; a capture is checked and transferred (10 R381 to R383). -/
def execDispVblankStart (s : State) : Out :=
  if dispRuns s ∧ !s.disp.hold ∧ dispLine s = s.disp.timing.vAct then
    let s := dispInt 0 s
    match s.disp.cap with
    | none => .next s
    | some p =>
      if capWaits s then .next s else
      let t := s.disp.mode.getD s.disp.timing
      let s := setF .dispFbPending 0 0 0 2 0 (withDisp (fun d => { d with cap := none }) s)
      match planeFail s t p with
      | some off =>
        .next (raise 0x0804 dispUnit [.u32 off] (bump .dispCount 0 4 1 (setB .dispStatus 0 0 20 true s)))
      | none => .next (withDisp (fun d => { d with plane := p }) s)
  else .next s

/-- A write to DISP_FB_COMMIT (10 R381, R382). -/
def fbCommitEff (v : BitVec 32) (s : State) : WRes :=
  match fld v 0 2 with
  | 1 =>
    let p : DispPlane := { addr := rd s .dispFbAddr 0 0, cfg := rd s .dispFbCfg 0 0, pos := rd s .dispPlanePos 0 0,
                           size := rd s .dispPlaneSize 0 0 }
    let late := decide (s.disp.timing.vAct ≤ dispLine s)
    let at_ := (rd s .dispFrameNum 0 0).toNat + (if late then 2 else 1)
    (wr .dispFbPending 0 0 (BitVec.ofNat 32 (1 + 2 * b2n late + at_ % 65536 * 65536))
      (withDisp (fun d => { d with cap := some p }) s), 0)
  | 3 => (setF .dispFbPending 0 0 0 2 0 (withDisp (fun d => { d with cap := none }) s), 0)
  | _ => (s, 0)

/-- FB_COMMIT. -/
def execFbCommit (ag : AgentId) (s : State) : Out :=
  .next (guardW ag (Reg.off .dispFbCommit 0 0) 1#32 (fbCommitEff 1#32) s)

/-- FB_CANCEL. -/
def execFbCancel (ag : AgentId) (s : State) : Out :=
  .next (guardW ag (Reg.off .dispFbCommit 0 0) 3#32 (fbCommitEff 3#32) s)

/-! Timing-mode changes (10 R388 to R390). -/

/-- A write to DISP_MODE_COMMIT: its command, then TRAIN. -/
def modeCommitEff (v : BitVec 32) (s : State) : WRes :=
  let s :=
    match fld v 0 2 with
    | 1 =>
      let t := dispStaged s
      match timingFail t with
      | some off => raise 0x0804 dispUnit [.u32 off] (bump .dispCount 0 5 1 (setB .dispStatus 0 0 20 true s))
      | none => setB .dispStatus 0 0 21 true (withDisp (fun d => { d with mode := some t }) s)
    | 3 => setB .dispStatus 0 0 21 false (withDisp (fun d => { d with mode := none }) s)
    | _ => s
  (if bit v 2 && dispRuns s then trainStart 3 s else s, 0)

/-- A write of DISP_MODE_COMMIT by an agent. -/
def modeCommitW (ag : AgentId) (v : BitVec 32) (s : State) : State :=
  guardW ag (Reg.off .dispModeCommit 0 0) v (modeCommitEff v) s

/-- MODE_COMMIT. -/
def execModeCommit (ag : AgentId) (s : State) : Out := .next (modeCommitW ag 1#32 s)

/-- MODE_CANCEL. -/
def execModeCancel (ag : AgentId) (s : State) : Out := .next (modeCommitW ag 3#32 s)

/-- DISP_TRAIN. -/
def execDispTrain (ag : AgentId) (s : State) : Out := .next (modeCommitW ag 4#32 s)

/-- A captured timing set takes effect at a frame end (10 R388 to R390). -/
def modeApply (t : DispTiming) (s : State) : State :=
  let old := s.disp.timing
  let synth := old.pclk != t.pclk || old.frac != t.frac
  let lnk := fld old.link 0 5 != fld t.link 0 5
  let s := pclkSet t s
  let s := withDisp (fun d => { d with timing := t, mode := none }) s
  let s := setB .dispStatus 0 0 21 false (bumpEpoch dispUnit s)
  let s := blankNext (raise 0x0807 dispUnit [.u32 ((rd s .dispFrameNum 0 0).toNat + 1)] s)
  if synth then trainStart 0 s else if lnk then trainStart 1 s else s

/-- DISP_FRAME_END: the end of line VTOTAL − 1 (10 R388, R389, R395). -/
def execDispFrameEnd (s : State) : Out :=
  if dispRuns s ∧ !s.disp.hold ∧ dispLine s + 1 = s.disp.timing.vTot then
    let s := setB .dispStatus 0 0 22 false (withDisp (fun d => { d with next := 0, line := [] }) s)
    if ustate s dispUnit = .draining then
      .next (setLink 0 (withDisp (fun d => { d with ended := true, hold := true }) s))
    else match s.disp.mode with
      | some t => .next (modeApply t s)
      | none => .next s
  else .next s

/-! Lines (10 R378 to R387, R394). -/

/-- A plane pixel's 8-bit components: red, green, blue (10 R380). -/
def pixelRgb (format : Nat) (b : List Byte) : Nat × Nat × Nat :=
  let x := leNat b
  match format with
  | 0 =>
    let r := x / 2048 % 32
    let g := x / 32 % 64
    let bl := x % 32
    (r * 8 + r / 4, g * 4 + g / 16, bl * 8 + bl / 4)
  | _ => (x / 65536 % 256, x / 256 % 256, x % 256)

/-- The components sent for a pixel: all 8 bits, or with BPC6 the upper 6 (10 R375). -/
def sent (t : DispTiming) (c : Nat × Nat × Nat) : Nat × Nat × Nat :=
  if bit t.link 4 then (c.1 / 4, c.2.1 / 4, c.2.2 / 4) else c

/-- The background colour's components. -/
def bgRgb (s : State) : Nat × Nat × Nat := (fld s.disp.bg 16 8, fld s.disp.bg 8 8, fld s.disp.bg 0 8)

/-- Line n of the active picture shows a line of the plane. -/
def planeLine (d : Disp) (n : Nat) : Bool :=
  decide (fld d.plane.pos 16 16 ≤ n ∧ n < fld d.plane.pos 16 16 + fld d.plane.size 16 16)

/-- The active pixels of line n, with the plane's bytes of that line; those from pixel lim of the plane on show the
background (10 R378, R386, R389). -/
def linePixels (s : State) (n : Nat) (bs : List Byte) (lim : Nat) : List (Nat × Nat × Nat) :=
  let d := s.disp
  let x0 := fld d.plane.pos 0 16
  let w := min lim (fld d.plane.size 0 16)
  let bpp := planeBytes d.plane
  (List.range d.timing.hAct).map fun x =>
    if getB s .dispStatus 0 0 22 then (0, 0, 0)
    else if planeLine d n && decide (x0 ≤ x ∧ x < x0 + w) then
      sent d.timing (pixelRgb (fld d.plane.cfg 21 2) ((bs.drop ((x - x0) * bpp)).take bpp))
    else sent d.timing (bgRgb s)

/-- The present line shows the plane's data up to pixel x only: its first underrun is counted once and reported, and
each pixel is counted as replaced once (10 R386). -/
def underrun (x : Nat) (s : State) : State :=
  let lim := s.disp.lim
  let s := withDisp (fun d => { d with lim := x }) (bump .dispCount 0 1 (lim - x) s)
  if lim = fld s.disp.plane.size 0 16 then raiseRated 0x0803 dispUnit [] 1 (dispInt 3 (bump .dispCount 0 0 1 s)) else s

/-- The plane's bytes of line n, and the plane pixels before the first HBM error or the end of the region
(10 R379, R387); what lies beyond its region is not read and counts as a fault (02 R94). -/
def fetchLine (n : Nat) (errs : List HbmErr) (s : State) : List Byte × Nat × State :=
  let d := s.disp
  match planeRegion s d.plane with
  | none => ([], 0, rangeFault dispUnit 4 s)
  | some r =>
    let bpp := planeBytes d.plane
    let len := fld d.plane.size 0 16 * bpp
    let a := r.base + d.plane.addr.toNat * 256 + (n - fld d.plane.pos 16 16) * fld d.plane.cfg 0 18
    let ok := ((List.range ((len + 255) / 256)).takeWhile fun k => !rangeFrozen s (a + 256 * k) 256).length
    let errs := errs.filter fun e => decide (e.burst < 8 * ok)
    let x := hbmErrs 4 dispUnit a false errs s
    let hard := (errs.find? fun e => decide (2 ≤ e.kind)).map fun e => e.burst * 32
    let good := min (min (ok * 256) (hard.getD len)) (r.base + r.size - a)
    let rdr := hbmRead a (min len (r.base + r.size - a)) x.1
    let t := if r.base + r.size < a + len then rangeFault dispUnit 4 rdr.2.2 else rdr.2.2
    (hbmBytes s a len, if len ≤ good then fld d.plane.size 0 16 else good / bpp, t)

/-- DISP_LINE_START: pixel 0 of the next line, with the line buffer's level in KiB and the ECC outcomes of the reads
that fetched its plane line (10 R378 to R380, R387, R394). -/
def execDispLineStart (level : Nat) (errs : List HbmErr) (s : State) : Out :=
  let n := s.disp.next
  if dispRuns s ∧ !s.disp.hold ∧ !s.disp.ended ∧ (synOf s 3).lock = 2 ∧ n < s.disp.timing.vTot then
    let s := setF .dispLinebuf 0 0 16 7 level (setF .dispStatus 0 0 0 16 n s)
    let s :=
      if n = 0 then
        if s.disp.first then withDisp (fun d => { d with first := false }) s
        else wr .dispFrameNum 0 0 (rd s .dispFrameNum 0 0 + 1) s
      else s
    let s := withDisp (fun d => { d with next := n + 1, bg := BitVec.ofNat 32 (getF s .dispBg 0 0 0 24) }) s
    let s := if getF s .dispLineMatch 0 0 0 16 = n then dispInt 1 s else s
    if s.disp.timing.vAct ≤ n then .next (withDisp (fun d => { d with line := [] }) s)
    else
      let shown := planeLine s.disp n && !getB s .dispStatus 0 0 22
      let x := if shown then fetchLine n errs s else ([], fld s.disp.plane.size 0 16, s)
      let s := x.2.2
      let short := decide (x.2.1 < fld s.disp.plane.size 0 16)
      let px := linePixels s n x.1 x.2.1
      let s := withDisp (fun d => { d with line := if lstateD s = 3 then px else [], lim := fld d.plane.size 0 16 }) s
      .next (if short then underrun x.2.1 s else s)
  else .next s

/-- DISP_UNDERRUN: plane pixel x of the present line is due before its data (10 R386). -/
def execDispUnderrun (x : Nat) (s : State) : Out :=
  let d := s.disp
  if dispRuns s ∧ !d.hold ∧ planeLine d (dispLine s) ∧ x < d.lim ∧ !getB s .dispStatus 0 0 22 then
    let lim := fld d.plane.pos 0 16 + x
    let s := withDisp (fun d => { d with
      line := d.line.mapIdx fun i c => if lim ≤ i then sent d.timing (bgRgb s) else c }) s
    .next (underrun x s)
  else .next s

/-- DISP_FRAME_DONE: the fetcher has read the plane's last byte (10 R384). -/
def execDispFrameDone (s : State) : Out :=
  if dispRuns s ∧ !getB s .dispStatus 0 0 22 then .next (dispInt 2 s) else .next s

/-! The auxiliary channel (10 DISP_AUX_CMD, R394). -/

/-- A write to DISP_AUX_CMD: starts a request; while BUSY it is discarded. -/
def auxCmdEffD (v : BitVec 32) (s : State) : WRes :=
  if getB s .dispAuxCmd 0 0 28 then (setB .dispStatus 0 0 20 true s, 4)
  else (setB .dispAuxCmd 0 0 28 true (wrMask .dispAuxCmd 0 0 0x0FFFFFFF#32 v s), 0)

/-- AUX_REQUEST. -/
def execAuxRequest (ag : AgentId) (v : BitVec 32) (s : State) : Out :=
  .next (guardW ag (Reg.off .dispAuxCmd 0 0) v (auxCmdEffD v) s)

/-- AUX_DONE: the reply and, for a read, its data words. -/
def execAuxDone (reply : Nat) (data : List Word) (s : State) : Out :=
  if getB s .dispAuxCmd 0 0 28 then
    let s := setB .dispAuxCmd 0 0 28 false (setF .dispAuxCmd 0 0 29 2 reply s)
    let s := ((data.take 4).zipIdx).foldl (fun s p => wr .dispAuxData 0 p.2 p.1 s) s
    .next (dispInt 6 s)
  else .next s

/-! The display as a unit (10 R377, R395). -/

/-- START. -/
def dispStart (s : State) : State :=
  let t := dispStaged s
  match timingFail t with
  | some off => enterFault dispUnit 7 off (raise 0x0801 dispUnit [.u32 off] s)
  | none =>
    let s := pclkSet t (changeState dispUnit .running s)
    let p : DispPlane := { addr := rd s .dispFbAddr 0 0, cfg := rd s .dispFbCfg 0 0, pos := rd s .dispPlanePos 0 0,
                           size := rd s .dispPlaneSize 0 0 }
    let s := withDisp (fun d => { d with timing := t, mode := none, plane := p, cap := none, next := 0, first := true,
                                         ended := false, line := [] }) s
    let s := wr .dispFrameNum 0 0 0 (setF .dispFbPending 0 0 0 2 0 (setB .dispStatus 0 0 21 false s))
    let s := setF .dispStatus 0 0 0 16 0 s
    blankNext (trainStart 3 (setLink 1 s))

/-- Leaving RUNNING at once: the link is DOWN, pending captures are discarded (10 R395). -/
def dispDiscard (s : State) : State :=
  let s := withDisp (fun d => { d with mode := none, cap := none, line := [], next := 0, hold := false, ended := false }) s
  setF .dispFbPending 0 0 0 2 0 (setF .dispStatus 0 0 21 2 0 (setLink 0 s))

/-- The frame in which DRAIN came has ended. -/
def dispIdle (s : State) : Bool := s.disp.ended

end Sys2Proof.Machine
end

