-- ==== Sys2Proof/Machine/DspRun.lean ====
section
/-! DEFINITION. How a DSP core issues the instruction at its PC: what each instruction does, what it costs in stall cycles,
and where the PC goes (12 R434 to R438, 13 R459 to R481). -/

namespace Sys2Proof.Machine

/-- What follows an instruction's effect: the next instruction, a branch, a stall without effect, HALT, the end of the
run by a read of an empty input at DRAIN, FAULT with a cause. -/
inductive DspFlow where
  | seq | jump (t : Nat) | stay | halt | ended (n : Nat) | fault (cause : Nat)
  deriving DecidableEq, Repr

/-! Operands in memory. -/

/-- A parallel move: a store takes the register's value from before the instruction (13 R462, R479). -/
def moveRun (c space : Nat) (x0 : Dsp) (mv : Option PMove) (s : State) : State :=
  match mv with
  | none => s
  | some v =>
    let p := v.pi + 4 * space
    let a := x0.pn p
    let s := if v.st then dspWrite c space a (x0.dw v.d) s else withDsp c (setD v.d (dspRead s c space a)) s
    withDsp c (postMod p v.mode (-1) false) s

/-- The operations that may not follow REP nor end a LOOP body (13 R467). -/
def DspOp.isFlow : DspOp → Bool
  | .br _ _ | .bri _ _ | .call _ _ | .ret | .reti | .loop _ _ _ | .rept _ _ | .leave | .wait => true
  | _ => false

/-- The count of LOOP and REP (13 R467). -/
def loopCount (x : Dsp) (reg : Bool) (n : Nat) : Nat := if reg then min (x.dw n).toNat 65536 else n

/-- RET (13 R464, 12 R449). -/
def retRun (c : Nat) (s : State) : State × DspFlow :=
  match (dspOf s c).rets with
  | [] => (s, .fault 2)
  | a :: r => (withDsp c (fun x => { x with rets := r }) s, .jump a.toNat)

/-- RETI (13 R464, 12 R448, R449). -/
def retiRun (c : Nat) (s : State) : State × DspFlow :=
  let x := dspOf s c
  if x.ipl = 0 then (s, .fault 2)
  else
    let st := vget x.saveStat (x.ipl - 1) 0
    let st := setFld (setFld st 5 1 (b2n (bit st 5 || statB x 5))) 6 1 (b2n (bit st 6 || statB x 6))
    (withDsp c (fun x => { x with stat := st }) s, .jump (vget x.savePc (x.ipl - 1) 0).toNat)

/-- LEAVE (13 R464, R467). -/
def leaveRun (c : Nat) (s : State) : State × DspFlow :=
  match (dspOf s c).loops with
  | [] => (s, .fault 3)
  | _ :: r => (withDsp c (fun x => { x with loops := r }) s, .seq)

/-- CALL (13 R466, 12 R449). -/
def callRun (c cc t : Nat) (s : State) : State × DspFlow :=
  let x := dspOf s c
  if condHolds x cc then
    if 16 ≤ x.rets.length then (s, .fault 2)
    else (withDsp c (fun x => { x with rets := (x.pc + 1) :: x.rets }) s, .jump t)
  else (s, .seq)

/-- LOOP (12 R434, R436; 13 R467). -/
def loopRun (c : Nat) (reg : Bool) (n len : Nat) (s : State) : State × DspFlow :=
  let x := dspOf s c
  let k := loopCount x reg n
  if 4 ≤ x.loops.length then (s, .fault 3)
  else if k = 0 then (s, .jump (x.pc.toNat + 1 + len))
  else
    let e : LoopEnt := { first := x.pc + 1, last := x.pc + BitVec.ofNat 15 len, count := k }
    (withDsp c (fun x => { x with loops := e :: x.loops, cache := if len ≤ 16 then some (e.first, e.last, false) else none }) s,
     .seq)

/-- REP (12 R435, 13 R467). -/
def repRun (c : Nat) (reg : Bool) (n : Nat) (s : State) : State × DspFlow :=
  let x := dspOf s c
  let k := loopCount x reg n
  let bad := match dspDecode (dspP s c (x.pc.toNat + 1)) with
    | some op => op.isFlow
    | none => false
  if bad then (s, .fault 1)
  else if k = 0 then (s, .jump (x.pc.toNat + 2))
  else (withDsp c (fun x => { x with rept := some (k, true) }) s, .seq)

/-- LDI (13 R469). -/
def ldiRun (file : Nat) (h : Bool) (r imm : Nat) (x : Dsp) : Dsp :=
  if file = 0 then
    setD r (if h then setFld (x.dw r) 16 16 imm else BitVec.ofNat 32 (unsgn 32 (sgn 16 imm))) x
  else regWriteD (8 * file + r) (BitVec.ofNat 32 imm) x

/-- TAP (13 R475). -/
def tapRun (c : Nat) (dir sub : Bool) (k pc cm pr rm pw wm : Nat) (s : State) : State :=
  let x := dspOf s c
  let src := b2n dir
  let co := sgn 32 (dspRead s c 2 (x.pn pc)).toNat
  let w := dspRead s c src (x.pn pr)
  let p := frac32 co (sgn 32 w.toNat)
  let s := dspWrite c (1 - src) (x.pn pw) w s
  withDsp c (fun x =>
    accResult k (if sub then x.av k - p else x.av k + p)
      (postMod pw wm (-1) false (postMod pr rm (-1) false (postMod pc cm (-1) true x)))) s

/-- LD (13 R476). -/
def ldRun (c sp r p md imm : Nat) (s : State) : State :=
  let w := dspRead s c sp ((dspOf s c).pn p)
  withDsp c (fun x => regWriteD r w (postMod p md (sgn 9 imm) (sp == 2) x)) s

/-- ST (13 R476). -/
def stRun (c sp r p md imm : Nat) (s : State) : State :=
  let x := dspOf s c
  let v := regRead x r
  withDsp c (fun x => stick 5 v.2 (postMod p md (sgn 9 imm) false x)) (dspWrite c sp (x.pn p) v.1 s)

/-- IN (13 R478): a stall, or the end of the run at DRAIN, where the FIFO is empty. -/
def inRun (c n : Nat) (dst : StrArg) (s : State) : State × DspFlow :=
  match dspTake c n s with
  | none => (s, if ustate s (dspUnit c) = .draining then .ended n else .stay)
  | some (w, s') =>
    match dst with
    | .reg d => (withDsp c (setD d w) s', .seq)
    | .mem sp p md => (withDsp c (postMod p md (-1) false) (dspWrite c sp ((dspOf s c).pn p) w s'), .seq)

/-- OUT (13 R478): a stall where the buffer is full. -/
def outRun (c n : Nat) (src : StrArg) (s : State) : State × DspFlow :=
  match src with
  | .reg d =>
    match dspAppend c n ((dspOf s c).dw d) s with
    | none => (s, .stay)
    | some s => (s, .seq)
  | .mem sp p md =>
    match dspAppend c n (dspRead s c sp ((dspOf s c).pn p)) s with
    | none => (s, .stay)
    | some s => (withDsp c (postMod p md (-1) false) s, .seq)

/-- WRS: a new BUS command waits for the access under way. -/
def wrsRun (c sys d n : Nat) (s : State) : State × DspFlow :=
  if sys = 0x32 ∧ (dspOf s c).bus ≠ .idle then (s, .stay) else (sysWrite c sys ((dspOf s c).dw d) n s, .seq)

/-- RDS: BUS DATA stalls until the access completes (13 R477). -/
def rdsRun (c d sys : Nat) (s : State) : State × DspFlow :=
  if sys = 0x31 ∧ (dspOf s c).bus ≠ .idle then (s, .stay)
  else
    let r := sysRead c sys s
    (withDsp c (setD d r.1) r.2, .seq)

/-- The effect of an instruction on everything but PC and REP. n: the words a DMA transfer had moved at its ABORT. -/
def dspEffect (c : Nat) (op : DspOp) (n : Nat) (s : State) : State × DspFlow :=
  let x := dspOf s c
  match op with
  | .nop => (s, .seq)
  | .halt => (s, .halt)
  | .ret => retRun c s
  | .reti => retiRun c s
  | .leave => leaveRun c s
  | .wait => (withDsp c (fun x => { x with waiting := true }) s, .seq)
  | .tflg f o => (tflg c f o s, .seq)
  | .bri cc p => (s, if condHolds x cc then .jump (x.pn p) else .seq)
  | .br cc t => (s, if condHolds x cc then .jump t else .seq)
  | .call cc t => callRun c cc t s
  | .loop reg k len => loopRun c reg k len s
  | .rept reg k => repRun c reg k s
  | .ldi file h r imm => (withDsp c (ldiRun file h r imm) s, .seq)
  | .alu o d a b imm e => (withDsp c (aluRun o d a b imm e) s, .seq)
  | .acc o k j a b sh => (withDsp c (accRun o k j a b sh) s, .seq)
  | .frac o k a b mx my => (moveRun c 1 x my (moveRun c 0 x mx (withDsp c (fracRun o k (x.ds a) (x.ds b)) s)), .seq)
  | .quad o q a b u sp mv => (moveRun c sp x mv (withDsp c (quadRun o q (x.dw a) (x.dw b) (x.dw u)) s), .seq)
  | .cplx o q a b mx my => (moveRun c 1 x my (moveRun c 0 x mx (withDsp c (cplxRun o q (x.dw a) (x.dw b)) s)), .seq)
  | .tap dir sub k pc cm pr rm pw wm => (tapRun c dir sub k pc cm pr rm pw wm s, .seq)
  | .ld sp r p md imm => (ldRun c sp r p md imm s, .seq)
  | .st sp r p md imm => (stRun c sp r p md imm s, .seq)
  | .mov dst src =>
    let v := regRead x src
    (withDsp c (fun x => regWriteD dst v.1 (stick 5 v.2 x)) s, .seq)
  | .wrs sys d => wrsRun c sys d n s
  | .rds d sys => rdsRun c d sys s
  | .pack d q =>
    let lo := move16 x (2 * q)
    let hi := move16 x (2 * q + 1)
    (withDsp c (fun x => setD d (lanes lo.1 hi.1) (stick 5 (lo.2 || hi.2) x)) s, .seq)
  | .mov16 d k =>
    let v := move16 x k
    (withDsp c (fun x => setD d (BitVec.ofNat 32 (unsgn 32 v.1)) (stick 5 v.2 x)) s, .seq)
  | .strIn dst k => inRun c k dst s
  | .strOut src k => outRun c k src s
  | .close k => (dspClose c k s, .seq)
  | .skipi k => (dspSkip c k s, .seq)

/-! Stall cycles (12 R437, R438; 13 R481). -/

/-- What a parallel move loads. -/
def moveLoads : Option PMove → List DspRes
  | some v => if v.st then [] else [.data v.d]
  | none => []

/-- A register of the index map as something produced by a move (1) or a load (2). -/
def regMade (load : Bool) (r : Nat) : List DspRes :=
  if r < 8 then (if load then [.data r] else [])
  else if r < 16 then [.ptr (r % 8)]
  else if r < 24 then [.modr (r % 8)]
  else if r < 32 then [.len (r % 8)]
  else [.acc (r % 4)]

/-- What an instruction produces that a later one may wait for (12 R438). -/
def DspOp.makes : DspOp → List DspRes
  | .ldi file _ r _ => if file = 0 then [] else regMade false (8 * file + r)
  | .acc o k _ _ _ _ => if o = .cmpa then [] else [.acc k]
  | .frac o k _ _ x y => (if o = .move then [] else [.acc k]) ++ moveLoads x ++ moveLoads y
  | .quad _ q _ _ _ _ mv => [.acc (2 * q), .acc (2 * q + 1)] ++ moveLoads mv
  | .cplx _ q _ _ x y => [.acc (2 * q), .acc (2 * q + 1)] ++ moveLoads x ++ moveLoads y
  | .tap _ _ k _ _ _ _ _ _ => [.acc k]
  | .ld _ r _ _ _ => regMade true r
  | .mov dst _ => regMade false dst
  | .wrs sys _ => if sys = 0 then [.stat] else if sys = 1 then [.amr] else []
  | .strIn (.reg d) _ => [.data d]
  | _ => []

/-- A parallel move's pointer and code; the register it stores. -/
def movePtr (space : Nat) : Option PMove → List (Nat × Nat)
  | some v => [(v.pi + 4 * space, v.mode)]
  | none => []
def moveStores : Option PMove → List Nat
  | some v => if v.st then [v.d] else []
  | none => []

/-- The pointers an instruction addresses memory with, and their post-modify codes. -/
def DspOp.pointers : DspOp → List (Nat × Nat)
  | .frac _ _ _ _ x y => movePtr 0 x ++ movePtr 1 y
  | .quad _ _ _ _ _ sp mv => movePtr sp mv
  | .cplx _ _ _ _ x y => movePtr 0 x ++ movePtr 1 y
  | .tap _ _ _ pc cm pr rm pw wm => [(pc, cm), (pr, rm), (pw, wm)]
  | .ld _ _ p md _ => [(p, md)]
  | .st _ _ p md _ => [(p, md)]
  | .strIn (.mem _ p md) _ => [(p, md)]
  | .strOut (.mem _ p md) _ => [(p, md)]
  | _ => []

/-- The D registers an instruction reads as operands. -/
def DspOp.operands : DspOp → List Nat
  | .loop true n _ => [n]
  | .rept true n => [n]
  | .alu o _ s t _ _ => (if o.uses.2.1 then [s] else []) ++ (if o.uses.2.2.1 then [t] else [])
  | .acc .addd _ _ s _ _ => [s]
  | .acc .subd _ _ s _ _ => [s]
  | .acc .mpyi _ _ s t _ => [s, t]
  | .acc .maci _ _ s t _ => [s, t]
  | .frac o _ s t x y => (if o = .move then [] else [s, t]) ++ moveStores x ++ moveStores y
  | .quad _ _ s t u _ mv => [s, t, u] ++ moveStores mv
  | .cplx _ _ s t x y => [s, t] ++ moveStores x ++ moveStores y
  | .st _ r _ _ _ => if r < 8 then [r] else []
  | .mov _ src => if src < 8 then [src] else []
  | .wrs _ d => [d]
  | .strOut (.reg d) _ => [d]
  | _ => []

/-- The accumulators an instruction moves out under R432. -/
def DspOp.movesOut : DspOp → List Nat
  | .st _ r _ _ _ => if 44 ≤ r then [r % 4] else []
  | .mov _ src => if 44 ≤ src then [src % 4] else []
  | .pack _ q => [2 * q, 2 * q + 1]
  | .mov16 _ k => [k]
  | _ => []

/-- What the address generation of a pointer reads. -/
def agNeeds (p : Nat × Nat) : List DspRes :=
  [.ptr p.1] ++ (if p.2 = 0 then [] else [.len p.1, .amr]) ++ (if p.2 = 2 then [.modr p.1] else [])

/-- The stall cycles of the hazard table: the largest that applies. -/
def hazard (x : Dsp) (op : DspOp) : Nat :=
  let h1 := x.hist.getD 0 []
  let h2 := x.hist.getD 1 []
  let ag := op.pointers.flatMap agNeeds
  let hit := fun (h : List DspRes) (need : List DspRes) => need.any fun r => h.contains r
  let out := op.movesOut.map DspRes.acc
  if hit h1 ag then 2
  else if hit h2 ag || hit h1 (op.operands.map DspRes.data) || hit h1 out || (op.movesOut != [] && h1.contains .stat) then 1
  else 0

/-- The instruction at PC comes from the repeat cache (12 R436). -/
def cached (x : Dsp) : Bool :=
  (match x.rept with
   | some (_, first) => !first
   | none => false) ||
  (match x.cache, x.loops with
   | some (f, l, full), e :: _ => full && e.first == f && e.last == l && decide (f.toNat ≤ x.pc.toNat ∧ x.pc.toNat ≤ l.toNat)
   | _, _ => false)

/-- The stall of a P-memory data read (12 R437, 13 R481). -/
def pStall (x : Dsp) (op : DspOp) : Nat :=
  match op with
  | .ld sp _ _ _ _ => if sp = 2 then 1 else 0
  | .tap _ _ _ _ _ _ _ _ _ => if cached x then 0 else 1
  | _ => 0

/-- The stall cycles of a wait at a stream or at BUS DATA that began at a device time. -/
def waitStall (s : State) (x : Dsp) : Nat :=
  match x.stallAt with
  | some t => (upTotal s - t) * 1500000000 / 2 ^ 64
  | none => 0

/-! Where the PC goes (12 R434, 13 R467). -/

/-- The end tests of the loops whose body ends at pc, innermost first: the loop stack, the next PC, and the loop that
returns to its start. -/
def loopNext (pc : BitVec 15) : List LoopEnt → List LoopEnt × BitVec 15 × Option LoopEnt
  | [] => ([], pc + 1, none)
  | e :: r =>
    if e.last = pc then
      if 1 < e.count then ({ e with count := e.count - 1 } :: r, e.first, some e) else loopNext pc r
    else (e :: r, pc + 1, none)

/-- The repeat cache after a loop has returned to its start: a second pass is served from it. -/
def cacheNext (x : Dsp) (e : LoopEnt) : Option (BitVec 15 × BitVec 15 × Bool) :=
  if (e.last - e.first).toNat < 16 then
    match x.cache with
    | some (f, l, _) => some (e.first, e.last, f == e.first && l == e.last)
    | none => some (e.first, e.last, false)
  else x.cache

/-- Past the instruction at PC. -/
def stepOn (x : Dsp) : Dsp :=
  let r := loopNext x.pc x.loops
  { x with loops := r.1, pc := r.2.1, cache := match r.2.2 with
      | some e => cacheNext x e
      | none => x.cache }

/-- The PC and REP after an instruction that ran on in sequence. -/
def seqNext (op : DspOp) (x : Dsp) : Dsp :=
  match op, x.rept with
  | .rept _ _, _ => { x with pc := x.pc + 1 }
  | _, some (k, _) => if 1 < k then { x with rept := some (k - 1, false) } else stepOn { x with rept := none }
  | _, none => stepOn x

/-- In THROTTLE a core issues every second cycle; the lost cycle counts as a stall (20 R631). -/
def throttleStall (s : State) : Nat := if getF s .pwrStatus 0 0 0 2 = 1 then 1 else 0

/-- An instruction has issued: it retires, its stalls count (12 DSP_CORE_COUNT index 0, 1, wrapping). -/
def retire (c st : Nat) (s : State) : State :=
  wr .dspCoreCount c 1 (rd s .dspCoreCount c 1 + BitVec.ofNat 32 st) (wr .dspCoreCount c 0 (rd s .dspCoreCount c 0 + 1) s)

/-- The core halts at its PC: 0x0A02 (12 R452). -/
def dspHalt (c : Nat) (s : State) : State :=
  let s := withDsp c (fun x => { x with exec := .halted, waiting := false, rept := none, stallAt := none }) s
  raise 0x0A02 (dspUnit c) [.u16 (dspOf s c).pc.toNat] s

/-- Issue one instruction. ecc: the worst outcome of its memory reads (0 clean, 1 corrected, 2 corrected by the retry,
3 failed twice); n: DMA words at an ABORT; single: issued by STEP, so that EXEC stays stopped. -/
def issueOne (c : Nat) (op : DspOp) (n ecc : Nat) (single : Bool) (s : State) : State :=
  let x := dspOf s c
  let s := if ecc = 1 then bump .dspCoreCount c 2 1 s else if ecc = 2 then faultTransient s else s
  if 3 ≤ ecc then faultLasting 7 (dspUnit c) 0 0 0 [BitVec.ofNat 32 x.pc.toNat] (dspFault c 4 s)
  else if op.isFlow && (match x.loops with
      | e :: _ => e.last == x.pc
      | [] => false) then dspFault c 1 s
  else
    let was := if single then .stopped else DspExec.executing
    let s0 := withDsp c (fun x => { x with waiting := false }) s
    let r := dspEffect c op n s0
    let done := fun (f : Dsp → Dsp) =>
      retire c (hazard x op + pStall x op + waitStall s x + throttleStall s)
        (withDsp c (fun y => { f y with exec := was, passBreak := false, stallAt := none, hist := op.makes :: y.hist.take 1 }) r.1)
    match r.2 with
    | .seq => done (seqNext op)
    | .jump t => done (fun y => { y with pc := BitVec.ofNat 15 t, rept := none })
    | .stay =>
      if single then r.1
      else withDsp c (fun y => { y with exec := .stalled, stallAt := some (x.stallAt.getD (upTotal s)) }) r.1
    | .halt => dspHalt c (done id)
    | .ended k => dspHalt c (withDspIn c k (fun q => { q with ended := true }) r.1)
    | .fault cause => dspFault c cause r.1

/-- The breakpoint holds the core at its PC (12 DSP_CORE_BREAK). -/
def atBreak (s : State) (c : Nat) : Bool :=
  let x := dspOf s c
  getB s .dspCoreBreak c 0 15 && getF s .dspCoreBreak c 0 0 15 == x.pc.toNat && !x.passBreak &&
    (match x.rept with
     | some (_, first) => first
     | none => true)

/-- Core c issues. -/
def canGo (s : State) (c : Nat) : Bool :=
  let x := dspOf s c
  decide (c < 24) && (ustate s (dspUnit c)).busy && (x.exec == .executing || x.exec == .stalled) && !atBreak s c &&
    (!x.waiting || (dspWake s c && (dspTaken s c).isNone))

/-- The word at the PC of core c. -/
def pcWord (s : State) (c : Nat) : Word := dspP s c (dspOf s c).pc.toNat

/-- Core c issues the instruction op, where that is what the word at its PC encodes (12 R426, 13 R458). -/
def dspIssue (c : Nat) (op : DspOp) (n ecc : Nat) (s : State) : State :=
  if canGo s c && dspDecode (pcWord s c) == some op then issueOne c op n ecc false s else s

/-- RESERVED_ENCODING: a reserved encoding would issue (13 R459). -/
def execReservedEncoding (c : Nat) (s : State) : Out :=
  if canGo s c && (dspDecode (pcWord s c)).isNone then .next (dspFault c 1 s) else .next s

/-- BREAKPOINT_REACHED (12 DSP_CORE_BREAK). -/
def execBreakpointReached (c : Nat) (s : State) : Out :=
  let x := dspOf s c
  if c < 24 ∧ (ustate s (dspUnit c)).busy ∧ x.exec = .executing ∧ atBreak s c then
    .next (raise 0x0A06 (dspUnit c) [.u16 x.pc.toNat] (withDsp c (fun x => { x with exec := .stopped }) s))
  else .next s

/-- A write of DSP_CORE_BREAK: STEP issues one instruction while stopped, RESUME resumes issue. -/
def breakEff (c : Nat) (ecc : Nat) (v : BitVec 32) (s : State) : WRes :=
  let s := wr .dspCoreBreak c 0 (v &&& 0xFFFF) s
  let held := fun (s : State) => (ustate s (dspUnit c)).busy && (dspOf s c).exec == .stopped
  let s :=
    if bit v 16 && held s then
      match dspDecode (pcWord s c) with
      | some op => issueOne c op 0 ecc true s
      | none => dspFault c 1 s
    else s
  (if bit v 17 && held s then withDsp c (fun x => { x with exec := .executing, passBreak := true }) s else s, 0)

/-- BREAK_STEP and BREAK_RESUME: writes that keep the address and EN. -/
def execBreakStep (ag : AgentId) (c ecc : Nat) (s : State) : Out :=
  let v := rd s .dspCoreBreak c 0 ||| 0x10000
  .next (guardW ag (Reg.off .dspCoreBreak c 0) v (breakEff c ecc v) s)
def execBreakResume (ag : AgentId) (c : Nat) (s : State) : Out :=
  let v := rd s .dspCoreBreak c 0 ||| 0x20000
  .next (guardW ag (Reg.off .dspCoreBreak c 0) v (breakEff c 0 v) s)

/-- The core's next instruction writes value v to system register sys. -/
def nextWrites (s : State) (c sys : Nat) (v : Word) : Option Nat :=
  match dspDecode (pcWord s c) with
  | some (.wrs k d) => if k = sys ∧ (dspOf s c).dw d = v then some d else none
  | _ => none

/-- DMA_START: the instruction that writes START to CTRL of channel ch (12 R445). -/
def execDmaStart (c ch ecc : Nat) (s : State) : Out :=
  match nextWrites s c (0x25 + 8 * ch) 1 with
  | some d => if ch < 2 then .next (dspIssue c (.wrs (0x25 + 8 * ch) d) 0 ecc s) else .next s
  | none => .next s

/-- DMA_ABORT: the instruction that writes ABORT to CTRL of channel ch, whose transfer has moved n words (12 R446). -/
def execDmaAbort (c ch n ecc : Nat) (s : State) : Out :=
  match nextWrites s c (0x25 + 8 * ch) 2 with
  | some d => if ch < 2 then .next (dspIssue c (.wrs (0x25 + 8 * ch) d) n ecc s) else .next s
  | none => .next s

/-- BUS_ACCESS_DONE: the access completes or is refused, and DATA and STAT hold its answer (12 R450). -/
def execBusAccessDone (c : Nat) (s : State) : Out :=
  match (dspOf s c).bus with
  | .answered write refused data =>
    let s := if write || refused then s else sysPut c 0x31 data s
    .next (withDsp c (fun x => { x with bus := .idle }) (sysPut c 0x33 (BitVec.ofNat 32 (b2n refused)) s))
  | _ => .next s

end Sys2Proof.Machine
end

