-- ==== Sys2Proof/Machine/Crypto.lean ====
section
/-! DEFINITION. SHA-384 and ECDSA P-384 verification, the checks of a plan image's signature (02_sluice_plan.md R108,
R109), as FIPS 180-4 and FIPS 186-4 define them. -/

namespace Sys2Proof.Machine

/-- The first eighty primes. -/
def shaPrimes : List Nat :=
  [2, 3, 5, 7, 11, 13, 17, 19, 23, 29, 31, 37, 41, 43, 47, 53, 59, 61, 67, 71, 73, 79, 83, 89, 97, 101, 103, 107,
   109, 113, 127, 131, 137, 139, 149, 151, 157, 163, 167, 173] ++
  [179, 181, 191, 193, 197, 199, 211, 223, 227, 229, 233, 239, 241, 251, 257, 263, 269, 271, 277, 281, 283, 293, 307,
   311, 313, 317, 331, 337, 347, 349, 353, 359, 367, 373, 379, 383, 389, 397, 401, 409]

/-- The greatest number whose d-th power is at most x, found from bit k - 1 down; r holds the bits found so far. -/
def rootFrom (d x : Nat) : Nat → Nat → Nat
  | 0, r => r
  | k + 1, r => rootFrom d x k (if (r + 2 ^ k) ^ d ≤ x then r + 2 ^ k else r)

/-- The first 64 bits of the fractional part of the d-th root of p, for roots below 8. -/
def rootFrac (d p : Nat) : Nat := rootFrom d (p * 2 ^ (64 * d)) 67 0 % 2 ^ 64

/-- The round constants of SHA-384: from the cube roots of the first eighty primes (FIPS 180-4, 4.2.3). -/
def shaK : List Nat := shaPrimes.map (rootFrac 3)

/-- The initial hash value of SHA-384: from the square roots of the ninth to the sixteenth prime (FIPS 180-4, 5.3.4). -/
def shaH : List Nat := ((shaPrimes.drop 8).take 8).map (rootFrac 2)

/-- A 64-bit word. -/
def m64 (x : Nat) : Nat := x % 2 ^ 64

/-- Rotate a 64-bit word right. -/
def rotr64 (x n : Nat) : Nat := Nat.lor (x / 2 ^ n) (m64 (x * 2 ^ (64 - n)))

/-- Three rotations combined. -/
def rot3 (x a b c : Nat) : Nat := Nat.xor (Nat.xor (rotr64 x a) (rotr64 x b)) (rotr64 x c)

/-- The small sigma functions. -/
def shaS (x a b c : Nat) : Nat := Nat.xor (Nat.xor (rotr64 x a) (rotr64 x b)) (x / 2 ^ c)

/-- The next n words of the message schedule; ws holds the words so far, newest first. -/
def shaSchedule : Nat → List Nat → List Nat
  | 0, ws => ws.reverse
  | n + 1, ws =>
    shaSchedule n (m64 (ws.getD 15 0 + shaS (ws.getD 14 0) 1 8 7 + ws.getD 6 0 + shaS (ws.getD 1 0) 19 61 6) :: ws)

/-- One round on the working variables. -/
def shaRound (v : List Nat) (k w : Nat) : List Nat :=
  match v with
  | [a, b, c, d, e, f, g, h] =>
    let ch := Nat.xor (Nat.land e f) (Nat.land (2 ^ 64 - 1 - e) g)
    let t1 := h + rot3 e 14 18 41 + ch + k + w
    let maj := Nat.xor (Nat.xor (Nat.land a b) (Nat.land a c)) (Nat.land b c)
    [m64 (t1 + rot3 a 28 34 39 + maj), a, b, c, m64 (d + t1), e, f, g]
  | _ => v

/-- One block of 16 words. -/
def shaBlock (h : List Nat) (ws : List Nat) : List Nat :=
  let w := shaSchedule 64 ws.reverse
  let v := (shaK.zip w).foldl (fun v kw => shaRound v kw.1 kw.2) h
  (h.zip v).map fun p => m64 (p.1 + p.2)

/-- The blocks of a padded message, n of them. -/
def shaBlocks : Nat → List Nat → List (BitVec 8) → List Nat
  | 0, h, _ => h
  | n + 1, h, bs =>
    let b := bs.take 128
    shaBlocks n (shaBlock h ((List.range 16).map fun i => beNat ((b.drop (8 * i)).take 8))) (bs.drop 128)

/-- SHA-384 of a byte string, as a number of 384 bits. -/
def sha384 (bs : List (BitVec 8)) : Nat :=
  let pad := bs ++ [0x80#8] ++ List.replicate ((239 - bs.length % 128) % 128) 0#8
    ++ (leBytes 16 (8 * bs.length)).reverse
  ((shaBlocks (pad.length / 128) shaH pad).take 6).foldl (fun a x => a * 2 ^ 64 + x) 0

/-! P-384. -/

/-- The field prime of P-384. -/
def p384 : Nat := 0xfffffffffffffffffffffffffffffffffffffffffffffffffffffffffffffffeffffffff0000000000000000ffffffff

/-- The group order of P-384. -/
def n384 : Nat := 0xffffffffffffffffffffffffffffffffffffffffffffffffc7634d81f4372ddf581a0db248b0a77aecec196accc52973

/-- The curve coefficient b of P-384. -/
def b384 : Nat := 0xb3312fa7e23ee7e4988e056be3f82d19181d9c6efe8141120314088f5013875ac656398d8a2ed19d2a85c8edd3ec2aef

/-- The base point of P-384. -/
def g384 : Nat × Nat :=
  (0xaa87ca22be8b05378eb1c71ef320ad746e1d3b628ba79b9859f741e082542a385502f25dbf55296c3a545e3872760ab7,
   0x3617de4a96262c6f5d9e98bf9292dc29f8f41dbd289a147ce9da3113b5f0b8c00a60b1ce1d7e819d7a431d7c90ea0e5f)

/-- x to the power e modulo m, with as many squarings as fuel. -/
def powMod (fuel x e m : Nat) : Nat :=
  match fuel with
  | 0 => 1 % m
  | k + 1 =>
    let r := powMod k (x * x % m) (e / 2) m
    if e % 2 = 1 then x * r % m else r

/-- The inverse modulo a prime. -/
def invMod (x m : Nat) : Nat := powMod 384 (x % m) (m - 2) m

/-- x minus y modulo the field prime. -/
def fsub (x y : Nat) : Nat := (x + (p384 - y % p384)) % p384

/-- A point in Jacobian coordinates; z = 0 is the point at infinity. -/
structure JPoint where
  x : Nat
  y : Nat
  z : Nat
  deriving DecidableEq, Repr

/-- Twice a point, for the curve coefficient -3. -/
def jdouble (p : JPoint) : JPoint :=
  if p.z = 0 ∨ p.y = 0 then ⟨1, 1, 0⟩
  else
    let zz := p.z * p.z % p384
    let m := 3 * (fsub p.x zz * ((p.x + zz) % p384) % p384) % p384
    let yy := p.y * p.y % p384
    let s := 4 * (p.x * yy % p384) % p384
    let x3 := fsub (m * m % p384) (2 * s)
    ⟨x3, fsub (m * fsub s x3 % p384) (8 * (yy * yy % p384)), 2 * p.y * p.z % p384⟩

/-- The sum of two points. -/
def jadd (p q : JPoint) : JPoint :=
  if p.z = 0 then q
  else if q.z = 0 then p
  else
    let z1 := p.z * p.z % p384
    let z2 := q.z * q.z % p384
    let u1 := p.x * z2 % p384
    let u2 := q.x * z1 % p384
    let s1 := p.y * (q.z * z2 % p384) % p384
    let s2 := q.y * (p.z * z1 % p384) % p384
    if u1 = u2 then (if s1 = s2 then jdouble p else ⟨1, 1, 0⟩)
    else
      let h := fsub u2 u1
      let r := fsub s2 s1
      let h2 := h * h % p384
      let h3 := h * h2 % p384
      let v := u1 * h2 % p384
      let x3 := fsub (fsub (r * r % p384) h3) (2 * v)
      ⟨x3, fsub (r * fsub v x3 % p384) (s1 * h3 % p384), h * (p.z * q.z % p384) % p384⟩

/-- k times a point, with as many doublings as fuel. -/
def jmul : Nat → Nat → JPoint → JPoint
  | 0, _, _ => ⟨1, 1, 0⟩
  | n + 1, k, p =>
    let r := jmul n (k / 2) (jdouble p)
    if k % 2 = 1 then jadd p r else r

/-- The affine point lies on P-384. -/
def onCurve (x y : Nat) : Bool :=
  decide (x < p384) && decide (y < p384) &&
    y * y % p384 == (fsub (x * x % p384 * x % p384) (3 * x) + b384) % p384

/-- ECDSA P-384 verification of (r, s) over a 384-bit hash with public key (x, y) (02 R108). -/
def ecdsaVerify (hash x y r s : Nat) : Bool :=
  if r = 0 ∨ n384 ≤ r ∨ s = 0 ∨ n384 ≤ s then false
  else if !onCurve x y then false
  else
    let w := invMod s n384
    let q := jadd (jmul 384 (hash * w % n384) ⟨g384.1, g384.2, 1⟩) (jmul 384 (r * w % n384) ⟨x, y, 1⟩)
    if q.z = 0 then false
    else
      let zi := invMod q.z p384
      (q.x * (zi * zi % p384) % p384) % n384 == r

end Sys2Proof.Machine
end

