-- ==== Sys2Proof/Machine/PlanCheck.lean ====
section
/-! DEFINITION. Reading and checking a plan image (02_sluice_plan.md R62 to R110, R125). A check answers the reject code
of the first failure, or none. -/

namespace Sys2Proof.Machine

/-- n bytes of an image from an offset. -/
def sl (b : List Byte) (off n : Nat) : List Byte := (b.drop off).take n

/-- A little-endian field. -/
def fieldAt (b : List Byte) (off n : Nat) : Nat := leNat (sl b off n)

/-- Every byte of a span is zero. -/
def zeroAt (b : List Byte) (off n : Nat) : Bool := (sl b off n).all fun x => x == 0

/-- The first failure of a list of checks. -/
def firstFail (l : List (Option Nat)) : Option Nat := l.findSome? id

/-- A condition that must hold, with its reject code. -/
def need (b : Bool) (code : Nat) : Option Nat := if b then none else some code

/-- The rules of the header that R62 states (02 R62, R63): the variant, and the bytes fetched, 0 when only the header has
been. -/
def headerShape (variant fetched : Nat) (b : List Byte) : Option Nat :=
  let len := fieldAt b 8 4
  let mask := fieldAt b 16 4
  firstFail
    [need (fieldAt b 0 4 == 0x55504C4E) 0x1201,
     need (fieldAt b 5 1 == 1 && fieldAt b 6 2 == 256) 0x1202,
     need (len % 8 == 0 && decide (1024 ≤ len) && decide (len ≤ 33554432) && fieldAt b 20 4 == len - 256
       && decide (5 ≤ fieldAt b 24 4) && decide (fieldAt b 24 4 ≤ 9) && (fetched == 0 || len == fetched)) 0x1203,
     need (mask.testBit variant) 0x1204,
     need (decide (mask < 8) && decide (fieldAt b 28 4 < 2) && zeroAt b 48 208) 0x1205]

/-- The header check of VERIFY (02 R62 to R64): R62, then the plan epoch condition against the epoch in force. -/
def headerFail (variant epoch fetched : Nat) (b : List Byte) : Option Nat :=
  firstFail [headerShape variant fetched b, need (fieldAt b 12 4 == 0 || fieldAt b 12 4 == epoch) 0x1206]

/-- The signature check (02 R107 to R109). -/
def signatureFail (fuse : Fuses) (b : List Byte) : Option Nat :=
  let o := fieldAt b 20 4
  let sel := fieldAt b o 2
  let h := if sel = 1 then fuse.vendorHash else fuse.integHash
  firstFail
    [need (sel == 1 || sel == 2) 0x1210,
     need (sel == 1 || fuse.integHash != 0) 0x1210,
     need (fieldAt b (o + 4) 4 == 256 && zeroAt b (o + 2) 2 && zeroAt b (o + 200) 56) 0x1210,
     need (sha384 (sl b (o + 8) 96) == h) 0x1211,
     need (ecdsaVerify (sha384 (b.take o)) (beNat (sl b (o + 8) 48)) (beNat (sl b (o + 56) 48)) (beNat (sl b (o + 104) 48))
       (beNat (sl b (o + 152) 48))) 0x1212]

/-- A section: its type, the offset of its value, its value length. -/
abbrev Sect := Nat × Nat × Nat

/-- A value length is a whole number of entries (02 R69, R70). -/
def sectLenOk (typ len : Nat) : Bool :=
  match typ with
  | 1 => len % 48 == 0
  | 2 => len % 8 == 0
  | 3 => len % 16 == 0
  | 5 => decide (16 ≤ len) && len % 32 == 16
  | 7 => len % 16 == 0
  | 8 => decide (16 ≤ len) && len % 8 == 0
  | 9 => len % 64 == 0
  | _ => true

/-- The required sections are there (02 R69). -/
def requiredThere (ss : List Sect) : Bool := [1, 2, 3, 4, 5].all fun t => ss.any fun x => x.1 == t

/-- The section walk (02 R68 to R70): n sections from an offset, or the reject code; what is missing shows once the walk
is over (DEDUCED, log 45). -/
def walk (b : List Byte) (sig : Nat) : Nat → Nat → Nat → List Sect → Except Nat (List Sect)
  | 0, off, _, acc =>
    if off ≠ sig then .error 0x1203 else if requiredThere acc then .ok acc.reverse else .error 0x1221
  | n + 1, off, prev, acc =>
    if sig < off + 8 then .error 0x1222
    else
      let typ := fieldAt b off 2
      let len := fieldAt b (off + 4) 4
      let stop := off + 8 + len
      let next := (stop + 7) / 8 * 8
      if typ = 0 ∨ 9 < typ ∨ fieldAt b (off + 2) 2 ≠ 1 then .error 0x1223
      else if typ ≤ prev then .error 0x1220
      else if sig < stop ∨ sig < next ∨ !sectLenOk typ len ∨ !zeroAt b stop (next - stop) then .error 0x1222
      else walk b sig n next typ ((typ, off + 8, len) :: acc)

/-- Offsets of the entries of a fixed-size section; first skips a preamble. -/
def entriesOf (ss : List Sect) (typ first size : Nat) : List Nat :=
  match ss.find? fun x => x.1 == typ with
  | some (_, o, len) => (List.range ((len - first) / size)).map fun k => o + first + k * size
  | none => []

/-- The offset of a section's value, and its length; 0 for an absent section. -/
def sectOf (ss : List Sect) (typ : Nat) : Nat × Nat :=
  match ss.find? fun x => x.1 == typ with
  | some (_, o, len) => (o, len)
  | none => (0, 0)

/-! Parsing. -/

/-- A UNITS entry (02 R71). -/
def parseUnit (b : List Byte) (o : Nat) : PlanUnit :=
  { unit := fieldAt b o 2, target := fieldAt b (o + 2) 1, force := (fieldAt b (o + 3) 1).testBit 0 }

/-- A ROUTES entry (02 R77). -/
def parseRoute (b : List Byte) (o : Nat) : PlanRoute :=
  { id := fieldAt b o 2, mode := fieldAt b (o + 2) 1, count := fieldAt b (o + 3) 1, port := fieldAt b (o + 4) 2,
    stream := fieldAt b (o + 6) 1, rate := fieldAt b (o + 8) 4,
    slots := (List.range 8).map fun k => (fieldAt b (o + 16 + 4 * k) 2, fieldAt b (o + 18 + 4 * k) 1) }

/-- An OWNERS entry (02 R81). -/
def parseOwner (b : List Byte) (o : Nat) : PlanOwner :=
  { block := fieldAt b o 2, count := fieldAt b (o + 2) 1,
    agents := ((List.range 8).map fun k => fieldAt b (o + 4 + k) 1).take (fieldAt b (o + 2) 1) }

/-- The SRAM entries, variable in size (02 R88), as far as the first that overruns the section or whose padding is not
zero, and whether there is none. -/
def parseSram (b : List Byte) : Nat → Nat → Nat → List (Nat × List Nat) × Bool
  | 0, off, stop => ([], off == stop)
  | n + 1, off, stop =>
    if off = stop then ([], true)
    else
      let k := fieldAt b (off + 2) 2
      let next := (off + 4 + k + 3) / 4 * 4
      if stop < off + 4 ∨ stop < next ∨ !zeroAt b (off + 4 + k) (next - (off + 4 + k)) then ([], false)
      else
        let r := parseSram b n next stop
        ((fieldAt b off 2, (List.range k).map fun i => fieldAt b (off + 4 + i) 1) :: r.1, r.2)

/-- An HBMMAP region (02 R90). -/
def parseRegion (b : List Byte) (o : Nat) : PlanRegion :=
  { id := fieldAt b o 2, owner := fieldAt b (o + 2) 2, flags := fieldAt b (o + 4) 4, base := fieldAt b (o + 8) 8,
    size := fieldAt b (o + 16) 8, bandwidth := fieldAt b (o + 24) 4 }

/-- The words of an image. -/
def wordsAt (b : List Byte) (o n : Nat) : List Word := bytesWords (sl b o n)

/-- The DSPIMG entries, variable in size (02 R97), each with its P, X and Y lengths, as far as the first that overruns the
section or whose reserved or padding bytes are not zero, and whether there is none. -/
def parseDsp (b : List Byte) : Nat → Nat → Nat → List (PlanDsp × Nat × Nat × Nat) × Bool
  | 0, off, stop => ([], off == stop)
  | n + 1, off, stop =>
    if off = stop then ([], true)
    else
      let p := fieldAt b (off + 4) 4
      let x := fieldAt b (off + 8) 4
      let y := fieldAt b (off + 12) 4
      let e := off + 24 + p + x + y
      let next := (e + 7) / 8 * 8
      if stop < off + 24 ∨ stop < next ∨ !(zeroAt b (off + 2) 2 && zeroAt b (off + 20) 4 && zeroAt b e (next - e)) then
        ([], false)
      else
        let d : PlanDsp :=
          { unit := fieldAt b off 2, entry := fieldAt b (off + 16) 4, p := wordsAt b (off + 24) p,
            x := wordsAt b (off + 24 + p) x, y := wordsAt b (off + 24 + p + x) y }
        let r := parseDsp b n next stop
        ((d, p, x, y) :: r.1, r.2)

/-- A REGINIT entry (02 R100). -/
def parseInit (b : List Byte) (o : Nat) : PlanInit :=
  { off := fieldAt b o 4, value := BitVec.ofNat 32 (fieldAt b (o + 4) 4), mask := BitVec.ofNat 32 (fieldAt b (o + 8) 4) }

/-- A POWER entry (02 R103). -/
def parsePower (b : List Byte) (o : Nat) : PlanPower :=
  { unit := fieldAt b o 2, policy := fieldAt b (o + 2) 1, delay := fieldAt b (o + 4) 4 }

/-- A SCHEDULE entry (02 R105). -/
def parseSched (b : List Byte) (o : Nat) : PlanSched :=
  { id := fieldAt b o 2, enabled := (fieldAt b (o + 2) 1).testBit 0, count := fieldAt b (o + 3) 1,
    period := fieldAt b (o + 4) 4, first := fieldAt b (o + 8) 8, duration := fieldAt b (o + 16) 4,
    units := ((List.range 16).map fun k => fieldAt b (o + 24 + 2 * k) 2).take (fieldAt b (o + 3) 1) }

/-- The image as the loader reads it. -/
def parseImg (b : List Byte) (ss : List Sect) (sram : List (Nat × List Nat)) (dsp : List PlanDsp) : PlanImg :=
  let h := (sectOf ss 5).1
  let p := sectOf ss 8
  { planId := sl b 32 16, force := (fieldAt b 28 4).testBit 0, length := b.length,
    units := (entriesOf ss 2 0 8).map (parseUnit b), routes := (entriesOf ss 1 0 48).map (parseRoute b),
    owners := (entriesOf ss 3 0 16).map (parseOwner b), sram := sram, order := fieldAt b h 1, pcMask := fieldAt b (h + 8) 8,
    regions := (entriesOf ss 5 16 32).map (parseRegion b), dsp := dsp, inits := (entriesOf ss 7 0 16).map (parseInit b),
    powerFlags := if p.2 = 0 then 0 else fieldAt b p.1 4, pcIdle := if p.2 = 0 then 0 else fieldAt b (p.1 + 4) 4,
    power := (entriesOf ss 8 16 8).map (parsePower b), sched := (entriesOf ss 9 0 64).map (parseSched b),
    key := fieldAt b (fieldAt b 20 4) 2, digest := sha384 (b.take (fieldAt b 20 4)) }

/-! Checks of the entries. -/

/-- The target state of a unit in an image (02 R72). -/
def planTarget (p : PlanImg) (u : Nat) : Nat := ((p.units.find? fun e => e.unit == u).map fun e => e.target).getD 0

/-- A register word after an image's REGINIT entries on its reset value (02 R100). -/
def planReg (p : PlanImg) (r : Reg) (i j : Nat) : BitVec 32 :=
  p.inits.foldl (fun v e => if e.off = r.off i j then (v &&& ~~~e.mask) ||| (e.value &&& e.mask) else v) (r.resetVal i j)

/-- An element equal to an earlier one. -/
def dupNat : List Nat → Bool
  | [] => false
  | a :: r => r.contains a || dupNat r

/-- Check entry by entry, each with the entries before it. -/
def eachFail {α : Type} (f : List α → α → Option Nat) : List α → List α → Option Nat
  | _, [] => none
  | seen, a :: r => match f seen a with
    | some c => some c
    | none => eachFail f (seen ++ [a]) r

/-- A unit code a plan may name: not reserved, not of R74, not a PC. -/
def listableUnit (u : Nat) : Bool := unitKind u != .none && !alwaysOn u && unitKind u != .pc

/-- UNITS (02 R71 to R76, R19; 11 R397). Nonzero flag bits [7:1] are rejected with 0x1222 (DESIGN CHOICE, log entry
169). -/
def unitsFail (s : State) (b : List Byte) (ss : List Sect) (p : PlanImg) : Option Nat :=
  firstFail
    [eachFail (fun seen o =>
        let e := parseUnit b o
        firstFail
          [need (listableUnit e.unit) 0x1231, need (unitPresent s e.unit) 0x1230,
           need (!seen.any fun q => (parseUnit b q).unit == e.unit) 0x1232, need (decide (e.target ≤ 3)) 0x1231,
           need (zeroAt b (o + 4) 4 && decide (fieldAt b (o + 3) 1 < 2)) 0x1222]) [] (entriesOf ss 2 0 8),
     need (planTarget p 0x140 != 0 || !(p.units.any fun e => unitKind e.unit == .tdc && e.target != 0)) 0x1231]

/-- The unit behind a fabric port (01 R21): a host port is the host, a slice port none. -/
def portUnit (port : Nat) : Option Nat :=
  if port ≤ 3 then some (0x020 + port)
  else if port ≤ 19 then some (0x040 + (port - 4))
  else if port ≤ 23 then some (0x060 + (port - 20))
  else if port ≤ 27 then some (0x0A0 + (port - 24))
  else if port ≤ 31 then some (0x0C0 + (port - 28))
  else if port ≤ 35 then some (0x0E0 + (port - 32))
  else if port ≤ 39 then some (0x100 + (port - 36))
  else if port = 40 then some 0x120
  else if port = 41 then some 0x140
  else if port ≤ 65 then some (0x160 + (port - 42))
  else if port ≤ 73 then some (0x180 + (port - 66))
  else if port ≤ 77 then some 0x200
  else if port = 78 then some 0x230
  else if port = 79 then some 0x210
  else none

/-- The unit of a port is present on this variant (01 R22). -/
def portPresent (s : State) (port : Nat) : Bool :=
  if 80 ≤ port then decide (4 * (port - 80) < unitNum s.fuse.variant .pc)
  else match portUnit port with
    | some u => unitPresent s u
    | none => false

/-- The number of producer streams of a port (the chapters' stream tables). -/
def producerStreams (p : PlanImg) (port : Nat) : Nat :=
  if port ≤ 19 then 1
  else if port ≤ 23 then 4
  else if port ≤ 27 then 3
  else if port ≤ 31 then 0
  else if port ≤ 39 then 3
  else if port = 40 then 0
  else if port ≤ 65 then 2
  else if port ≤ 73 then (if bit (planReg p .cmpCfg (port - 66) 0) 0 then 0 else 1)
  else if port ≤ 77 then 0
  else if port = 78 then 1
  else if port = 79 then 0
  else 4

/-- The number of consumer streams of a port. -/
def consumerStreams (p : PlanImg) (port : Nat) : Nat :=
  if port ≤ 3 then 0
  else if port ≤ 23 then 1
  else if port ≤ 27 then 2
  else if port ≤ 31 then 0
  else if port ≤ 35 then 1
  else if port ≤ 41 then 0
  else if port ≤ 65 then 2
  else if port ≤ 73 then (if bit (planReg p .cmpCfg (port - 66) 0) 0 then 0 else 1)
  else if port ≤ 77 then 256
  else if port ≤ 79 then 0
  else 4

/-- The endpoint's unit is powered by the plan (02 R78; 15 R510 for slice ports). -/
def endpointOn (p : PlanImg) (port : Nat) : Bool :=
  if 80 ≤ port ∧ port ≤ 95 then (List.range 4).any fun k => p.pcMask.testBit (4 * (port - 80) + k)
  else match portUnit port with
    | some u => alwaysOn u || planTarget p u != 0
    | none => false

/-- TRANSPORT of an ingress link in the plan (04 ING_LINK_CFG): 2 is tagged. -/
def planTransport (p : PlanImg) (n : Nat) : Nat := fld (planReg p .ingLinkCfg n 0) 3 2

/-- The producer a consumer may have (05 R207, 06 R239, 08 R313, 04 R194, 16 R546). -/
def producerOk (p : PlanImg) (port stream cport cstream : Nat) : Bool :=
  let untaggedLink := fun c => port == c && decide (planTransport p c < 2)
  let narrowTuner := fun c => decide (4 + 4 * c ≤ port ∧ port < 8 + 4 * c) && !bit (planReg p .tunCfg (port - 4) 0) 24
  let tagged := decide (port ≤ 3) && planTransport p port == 2
  let host := (decide (74 ≤ cport ∧ cport ≤ 77))
  let base :=
    if 4 ≤ cport ∧ cport ≤ 19 then untaggedLink ((cport - 4) / 4)
    else if 20 ≤ cport ∧ cport ≤ 23 then untaggedLink (cport - 20) || narrowTuner (cport - 20)
    else if 24 ≤ cport ∧ cport ≤ 27 ∧ cstream = 0 then
      let c := cport - 24
      if bit (planReg p .specCfg c 0) 0 then narrowTuner c && port == 4 + 4 * c + fld (planReg p .specCfg c 0) 1 2
      else untaggedLink c
    else if 32 ≤ cport ∧ cport ≤ 35 then port == cport - 32
    else true
  let toHost := !host || !(decide (80 ≤ port) || (decide (24 ≤ port ∧ port ≤ 27) && stream == 2)
    || (decide (36 ≤ port ∧ port ≤ 39) && stream == 2))
  let taggedOk := !tagged || decide (42 ≤ cport ∧ cport ≤ 65) || decide (32 ≤ cport ∧ cport ≤ 35)
    || decide (66 ≤ cport ∧ cport ≤ 73) || host
  base && toHost && taggedOk

/-- ROUTES (02 R77 to R79, 01 R22, R27). A nonzero consumer slot beyond the count is rejected with 0x1222 (DESIGN CHOICE,
log entry 169). -/
def routesFail (s : State) (b : List Byte) (ss : List Sect) (p : PlanImg) : Option Nat :=
  eachFail (fun seen o =>
      let r := parseRoute b o
      let used := r.slots.take r.count
      let prev := seen.map (parseRoute b)
      firstFail
        [need (zeroAt b (o + 7) 1 && zeroAt b (o + 12) 4
            && (List.range 8).all (fun k => zeroAt b (o + 19 + 4 * k) 1 && (decide (k < r.count) || zeroAt b (o + 16 + 4 * k) 4))) 0x1222,
         need (decide (r.id < 1024)) 0x1240,
         need (decide (1 ≤ r.count ∧ r.count ≤ 8)) 0x1241,
         need (decide (r.mode ≤ 1) && !(r.mode == 1 && decide (r.port ≤ 3))) 0x1242,
         need (decide (1 ≤ r.rate ∧ r.rate ≤ 80000)) 0x1243,
         need (decide (r.port ≤ 95) && used.all fun c => decide (c.1 ≤ 95)) 0x1240,
         need (portPresent s r.port && used.all fun c => portPresent s c.1) 0x1230,
         need (decide (r.stream < producerStreams p r.port) && endpointOn p r.port) 0x1240,
         need (used.all fun c => decide (c.2 < consumerStreams p c.1) && endpointOn p c.1
            && producerOk p r.port r.stream c.1 c.2) 0x1240,
         need (!prev.any (fun q => q.id == r.id || (q.port == r.port && q.stream == r.stream)
            || (q.slots.take q.count).any (fun c => used.contains c))) 0x1244,
         need (!dupNat (used.map fun c => c.1 * 256 + c.2)) 0x1244])
    [] (entriesOf ss 1 0 48)

/-- A block index is known (02 R82), and its block is not wholly absent (02 R86). -/
def blockOk (s : State) (i : Nat) : Bool :=
  decide (i < 20 ∨ (32 ≤ i ∧ i < 56)) && (i != 12 || unitPresent s 0x120)
    && (decide (i < 32) || unitPresent s (0x160 + (i - 32)))

/-- An external agent that OWNERS may name (02 R84, 00 R16, R17). -/
def ownerAgentOk (a : Nat) : Bool :=
  decide (1 ≤ a ∧ a ≤ 0x10) || a == 0x20 || a == 0x21 || decide (0x30 ≤ a ∧ a ≤ 0x47) || a == 0x50 || a == 0x51

/-- OWNERS (02 R81 to R86). -/
def ownersFail (s : State) (b : List Byte) (ss : List Sect) (p : PlanImg) : Option Nat :=
  firstFail
    [eachFail (fun seen o =>
        let e := parseOwner b o
        firstFail
          [need (zeroAt b (o + 3) 1 && zeroAt b (o + 12) 4) 0x1222,
           need (blockOk s e.block && !seen.any fun q => (parseOwner b q).block == e.block) 0x1252,
           need (decide (1 ≤ e.count ∧ e.count ≤ 8) && zeroAt b (o + 4 + e.count) (8 - e.count)
             && e.agents.all ownerAgentOk) 0x1250]) [] (entriesOf ss 3 0 16),
     need (p.owners.any fun e => e.block == 0 && (e.agents.contains 0x01 || e.agents.contains 0x20)) 0x1251]

/-- The fewest granules a unit needs (01 R33). -/
def minGranules (p : PlanImg) (u : Nat) : Nat :=
  match unitKind u with
  | .dens => 8
  | .spec => 2
  | .chz => 1
  | .trig => 1
  | .ing => 1
  | .tdc => if u = 0x140 then 1 else 0
  | .cmp => 1
  | .host => 4
  | .aux => if bit (planReg p .auxCfg 0 0) 0 then 1 else 0
  | _ => 0

/-- The granules an image gives a unit. -/
def granulesOf (p : PlanImg) (u : Nat) : List Nat := ((p.sram.find? fun e => e.1 == u).map fun e => e.2).getD []

/-- SRAM (02 R88, R89; 01 R30, R33; 00 R19). A reserved unit code is rejected with 0x1231 (DESIGN CHOICE, log entry
169). -/
def sramFail (s : State) (whole : Bool) (p : PlanImg) : Option Nat :=
  firstFail
    [eachFail (fun seen e =>
        firstFail
          [need (unitKind e.1 != .none) 0x1231, need (unitPresent s e.1) 0x1230,
           need (!seen.any fun q => q.1 == e.1) 0x1261, need (e.2.all fun g => decide (g ≤ 191)) 0x1262,
           need (!dupNat e.2 && !seen.any fun q => q.2.any fun g => e.2.contains g) 0x1261]) [] p.sram,
     need whole 0x1222,
     need (((p.units.filter fun e => e.target != 0).map fun e => e.unit).all (fun u =>
         decide (minGranules p u ≤ (granulesOf p u).length))
       && decide (4 ≤ (granulesOf p 0x200).length)) 0x1260]

/-- The PCs that are present, as a mask. -/
def pcsPresent (s : State) : Nat := 2 ^ unitNum s.fuse.variant .pc - 1

/-- The fenced PCs, as a mask (15 HBM_FENCE). -/
def pcsFenced (s : State) : Nat := rd64 s .hbmFence 0

/-- The number of PCs in a mask. -/
def pcCount (mask : Nat) : Nat := ((List.range 64).filter fun i => mask.testBit i).length

/-- The loader region: the highest 32 MiB of the mapped space (02 R92). -/
def loaderBase (mask : Nat) : Nat := pcBytes * pcCount mask - 2 ^ 25

/-- Two spans share a byte. -/
def overlap (a n b m : Nat) : Bool := decide (a < b + m ∧ b < a + n)

/-- HBMMAP (02 R90 to R95; 00 R19). Nonzero region flag bits [31:1] and a region count outside 1 to 256 are rejected with
0x1222, a reserved owner code with 0x1231 (DESIGN CHOICE, log entry 169). -/
def hbmFail (s : State) (b : List Byte) (ss : List Sect) (p : PlanImg) : Option Nat :=
  let h := sectOf ss 5
  let cnt := fieldAt b (h.1 + 2) 2
  let space := pcBytes * pcCount p.pcMask
  firstFail
    [need (zeroAt b (h.1 + 1) 1 && zeroAt b (h.1 + 4) 4 && decide (1 ≤ cnt ∧ cnt ≤ 256) && h.2 == 16 + 32 * cnt) 0x1222,
     need (decide (p.order ≤ 3)) 0x1272,
     need (p.pcMask != 0 && Nat.land p.pcMask (pcsPresent s) == p.pcMask) 0x1230,
     need (Nat.land p.pcMask (pcsFenced s) == 0) 0x1271,
     eachFail (fun seen o =>
        let r := parseRegion b o
        let prev := seen.map (parseRegion b)
        firstFail
          [need (zeroAt b (o + 28) 4 && decide (r.flags < 2)) 0x1222,
           need (unitKind r.owner != .none) 0x1231, need (unitPresent s r.owner) 0x1230,
           need (r.size != 0 && r.base % 2097152 == 0 && r.size % 2097152 == 0 && decide (r.base + r.size ≤ space)
             && !overlap r.base r.size (loaderBase p.pcMask) (2 ^ 25)
             && !prev.any fun q => q.id == r.id || overlap q.base q.size r.base r.size) 0x1271]) [] (entriesOf ss 5 16 32)]

/-- DSPIMG (02 R97, R99). -/
def dspFail (s : State) (whole : Bool) (p : PlanImg) (ds : List (PlanDsp × Nat × Nat × Nat)) : Option Nat :=
  firstFail
    [eachFail (fun seen e =>
        let d := e.1
        firstFail
          [need (decide (0x160 ≤ d.unit ∧ d.unit ≤ 0x177)) 0x1280, need (unitPresent s d.unit) 0x1230,
           need (decide (e.2.1 ≤ 131072 ∧ e.2.2.1 ≤ 262144 ∧ e.2.2.2 ≤ 262144) && e.2.1 % 4 == 0 && e.2.2.1 % 4 == 0
             && e.2.2.2 % 4 == 0 && decide (d.entry < e.2.1 / 4) && !seen.any (fun q => q.1.unit == d.unit)
             && planTarget p d.unit != 0) 0x1280]) [] ds,
     need whole 0x1222]

/-- The bits REGINIT may write at an offset (02 R101, R102): RW, WO, W1C, W1S and PL fields, and UNIT_EVT_MASK and
UNIT_CTRL of a header. -/
def initMask (off : Nat) : Nat :=
  match regAt off with
  | some (.timeSet, _, 1) => 0xFFFF
  | some (r, _, _) => let k := r.info; Nat.lor (Nat.lor k.rw k.pl) (Nat.lor (Nat.lor k.w1c k.w1s) k.wo)
  | none =>
    match unitAt off with
    | some u =>
      if off = hdrOff u + 0x10 then 0xFFFFFFFE
      else if off = hdrOff u + 0x0C then 0x7
      else if inDspMem off then 0xFFFFFFFF
      else 0
    | none => 0

/-- REGINIT (02 R100 to R102). -/
def initFail (s : State) (b : List Byte) (ss : List Sect) (p : PlanImg) : Option Nat :=
  eachFail (fun _ o =>
      let e := parseInit b o
      let hdr := match unitAt e.off with
        | some u => !inHeader e.off || alwaysOn u || p.units.any (fun q => q.unit == u)
            || (unitKind u == .pc && p.pcMask.testBit (unitIdx u))
        | none => true
      firstFail
        [need (zeroAt b (o + 12) 4) 0x1222,
         need (e.off % 4 == 0 && (blockAt e.off).isSome) 0x1290,
         need (!absentAt s e.off) 0x1230, need hdr 0x1231,
         need (Nat.land e.mask.toNat (0xFFFFFFFF - initMask e.off) == 0) 0x1290]) [] (entriesOf ss 7 0 16)

/-- A unit code that names no absent unit (00 R7); a reserved code is judged by its section. -/
def nameable (s : State) (u : Nat) : Bool := unitKind u == .none || unitPresent s u

/-- POWER (02 R103, R104; 00 R7). An absent unit is rejected with the code of R7 rather than that of R104 (DESIGN CHOICE,
log entry 170). -/
def powerFail (s : State) (b : List Byte) (ss : List Sect) (p : PlanImg) : Option Nat :=
  let h := sectOf ss 8
  if h.2 = 0 then none
  else firstFail
    [need (zeroAt b (h.1 + 8) 8) 0x1222,
     need (decide (p.powerFlags < 4 ∧ 100 ≤ p.pcIdle ∧ p.pcIdle ≤ 1000000)) 0x12A0,
     eachFail (fun seen o =>
        let e := parsePower b o
        firstFail
          [need (zeroAt b (o + 3) 1) 0x1222,
           need (unitKind e.unit != .pc) 0x1231, need (nameable s e.unit) 0x1230,
           need (p.units.any (fun q => q.unit == e.unit) && !seen.any (fun q => (parsePower b q).unit == e.unit)
             && decide (e.policy ≤ 2 ∧ 1 ≤ e.delay ∧ e.delay ≤ 1000000)) 0x12A0]) [] (entriesOf ss 8 16 8)]

/-- SCHEDULE (02 R105, R106; 00 R7). An absent unit is rejected with the code of R7 rather than that of R106 (DESIGN
CHOICE, log entry 170). -/
def schedFail (s : State) (b : List Byte) (ss : List Sect) (p : PlanImg) : Option Nat :=
  eachFail (fun seen o =>
      let e := parseSched b o
      firstFail
        [need (zeroAt b (o + 20) 4 && zeroAt b (o + 56) 8) 0x1222, need (e.units.all (nameable s)) 0x1230,
         need (decide (e.id ≤ 63) && !seen.any (fun q => (parseSched b q).id == e.id) && decide (fieldAt b (o + 2) 1 < 2)
           && decide (1 ≤ e.count ∧ e.count ≤ 16) && decide (e.first < 2 ^ 48)
           && decide (1 ≤ e.duration ∧ e.duration ≤ 86400000)
           && zeroAt b (o + 24 + 2 * e.count) (32 - 2 * e.count)
           && e.units.all (fun u => p.power.any fun q => q.unit == u && q.policy == 2)) 0x12B0])
    [] (entriesOf ss 9 0 64)

/-- A lane map that names an absent lane (04 R172). -/
def lanesFail (s : State) (p : PlanImg) : Option Nat :=
  need ((List.range (unitNum s.fuse.variant .ing)).all fun n =>
    s.fuse.variant != 2 ||
      (List.range (2 ^ fld (planReg p .ingLinkCfg n 0) 1 2)).all fun k =>
        let m := (planReg p .ingLaneMapLo n 0).toNat % 2 ^ 30 + (planReg p .ingLaneMapHi n 0).toNat % 2 ^ 30 * 2 ^ 30
        decide (m / 2 ^ (5 * k) % 32 ≤ 15)) 0x1230

/-- The cross-section limits (02 R79, R95; 01 R35). -/
def limitsFail (s : State) (p : PlanImg) : Option Nat :=
  let outLoad := fun port => ((p.routes.filter fun r => r.port == port).map fun r => r.rate).sum
  let inLoad := fun port =>
    (p.routes.map fun r => r.rate * ((r.slots.take r.count).filter fun c => c.1 == port).length).sum
  let pcs := pcCount (Nat.land (pcsPresent s) (Nat.xor (2 ^ 64 - 1) (pcsFenced s)))
  firstFail
    [need ((List.range 96).all fun q => decide (outLoad q ≤ 80000 ∧ inLoad q ≤ 80000)) 0x1243,
     need (decide ((p.regions.map fun r => r.bandwidth).sum ≤ 20480 * pcs)) 0x1270]

/-- VERIFY and CHECK of a fetched image (02 R110, R119): the parsed image, or the reject code. -/
def checkImage (s : State) (fetched : Nat) (b : List Byte) : Except Nat PlanImg :=
  match headerFail s.fuse.variant (planEpoch s).toNat fetched b with
  | some c => .error c
  | none =>
    match signatureFail s.fuse b with
    | some c => .error c
    | none =>
      match walk b (fieldAt b 20 4) (fieldAt b 24 4) 256 0 [] with
      | .error c => .error c
      | .ok ss =>
        let sr := sectOf ss 4
        let dr := sectOf ss 6
        let sram := parseSram b (sr.2 / 4 + 1) sr.1 (sr.1 + sr.2)
        let ds := parseDsp b (dr.2 / 24 + 1) dr.1 (dr.1 + dr.2)
        let p := parseImg b ss sram.1 (ds.1.map fun d => d.1)
        match firstFail
          [routesFail s b ss p, unitsFail s b ss p, ownersFail s b ss p, sramFail s sram.2 p, hbmFail s b ss p,
           dspFail s ds.2 p ds.1, initFail s b ss p, powerFail s b ss p, schedFail s b ss p, lanesFail s p, limitsFail s p] with
        | some c => .error c
        | none => .ok p

/-! Footprints (02 R115). -/

/-- The REGINIT entries of a unit, in order. -/
def initsOf (p : PlanImg) (u : Nat) : List PlanInit := p.inits.filter fun e => unitAt e.off == some u

/-- Two images give a unit the same footprint (02 R115). -/
def sameFootprint (a b : PlanImg) (u : Nat) : Bool :=
  let regs := fun (p : PlanImg) => p.regions.filter fun r => r.owner == u
  (a.units.find? fun e => e.unit == u) == (b.units.find? fun e => e.unit == u)
    && (a.sram.find? fun e => e.1 == u) == (b.sram.find? fun e => e.1 == u)
    && regs a == regs b
    && a.order == b.order && a.pcMask == b.pcMask
    && (a.dsp.find? fun e => e.unit == u) == (b.dsp.find? fun e => e.unit == u)
    && initsOf a u == initsOf b u
    && (a.power.find? fun e => e.unit == u) == (b.power.find? fun e => e.unit == u)

/-- The units an image names anywhere but in ROUTES, OWNERS and SCHEDULE, save the plan loader and the PCs, which have no
footprint (02 R115, R116, R124; 15 R509). -/
def namedUnits (p : PlanImg) : List Nat :=
  ((p.units.map fun e => e.unit) ++ (p.sram.map fun e => e.1) ++ (p.regions.map fun r => r.owner)
    ++ (p.dsp.map fun d => d.unit) ++ (p.inits.filterMap fun e => unitAt e.off) ++ (p.power.map fun e => e.unit)).filter
    fun u => u != 0x250 && unitKind u != .pc

/-- The changed units of a load, ascending (02 R67, R76, R115). -/
def changedUnits (s : State) (new : PlanImg) (forceAll : Bool) : List Nat :=
  let old := match s.plan.running with | some p => namedUnits p | none => []
  (presentUnits s).filter fun u =>
    (old.contains u || (namedUnits new).contains u) &&
      (match s.plan.running with
       | none => true
       | some p =>
         ((new.force || forceAll) && (namedUnits new).contains u)
           || (new.units.any fun e => e.unit == u && e.force) || !sameFootprint p new u)

end Sys2Proof.Machine
end

