-- ==== Sys2Proof/Machine/Tdc.lean ====
section
/-! DEFINITION. The time-interval unit (11_time_interval.md R397 to R424). -/

namespace Sys2Proof.Machine

/-- Input i. -/
def tdcIn (s : State) (i : Nat) : TdcIn := vget s.tdc.ins i TdcIn.reset

/-- Change input i. -/
def withIn (i : Nat) (f : TdcIn → TdcIn) (s : State) : State :=
  { s with tdc := { s.tdc with ins := vset s.tdc.ins i (f (tdcIn s i)) } }

/-- Channel c. -/
def tdcChan (s : State) (c : Nat) : TdcChan := vget s.tdc.chans c TdcChan.reset

/-- Change channel c; PENDING and TRACK follow (11 TDC_MEAS_STATUS). -/
def withChan (c : Nat) (f : TdcChan → TdcChan) (s : State) : State :=
  let x := f (tdcChan s c)
  let s := { s with tdc := { s.tdc with chans := vset s.tdc.chans c x } }
  setF .tdcMeasStatus c 0 2 5 x.pending.length (setB .tdcMeasStatus c 0 1 x.ref.isSome s)

/-- Unit code of input i. -/
def tdcUnit (i : Nat) : Nat := 0x140 + i

/-! Time-stamp blocks (11 R404, R406 to R408). -/

/-- QUEUE_LEVEL follows the queue. -/
def queueLevel (i : Nat) (s : State) : State := setF .tdcInStatus i 0 0 13 (tdcIn s i).queue.length s

/-- The 16 bytes of an entry. -/
def tdcEntryBytes (e : TdcEntry) : List Byte :=
  wordsBytes (stampWords e.stamp) ++ leBytes 1 e.flags ++ leBytes 3 e.count

/-- Close input i's block, if it holds entries; stop marks the last before DRAIN or STOP. -/
def tdcClose (i : Nat) (stop : Bool) (s : State) : State :=
  let x := tdcIn s i
  match x.blk with
  | [] => s
  | e :: _ =>
    let hdr := leBytes 6 x.seq ++ leBytes 1 i ++ leBytes 1 0x20 ++ leBytes 2 x.blk.length ++ leBytes 2 (b2n x.first + 2 * b2n stop)
      ++ leBytes 4 (satU 32 x.lostN) ++ leBytes 4 (satU 32 x.deadN) ++ leBytes 4 e.count ++ leBytes 8 0
    let p := bytesWords (hdr ++ x.blk.flatMap tdcEntryBytes)
    let s := withIn i (fun x => { x with blk := [], lostN := 0, deadN := 0, seq := (x.seq + 1) % 2 ^ 48, first := false }) s
    offer { kind := 0x50, src := tdcUnit i, stream := 0, sel := i, seq := x.seq, gen := 0, stamp := e.stamp,
            epoch := e.ep.1, planEpoch := e.ep.2, evSeq := 0, origin := 0, check := false,
            crc := crcWords p, payload := p } s

/-- Entries move from the queue into blocks of up to 256. -/
def tdcPump (i : Nat) (s : State) : State :=
  let q := (tdcIn s i).queue
  let s := q.foldl (fun s e =>
    let s := withIn i (fun x => { x with blk := x.blk ++ [e] }) s
    if 256 ≤ (tdcIn s i).blk.length then tdcClose i false s else s) (withIn i (fun x => { x with queue := [] }) s)
  queueLevel i s

/-- An entry enters the queue of 4,096, or is lost (11 R404). -/
def tdcQueue (i : Nat) (e : TdcEntry) (room : Bool) (s : State) : State :=
  let x := tdcIn s i
  let s :=
    if x.queue.length < 4096 then
      withIn i (fun x => { x with queue := x.queue ++ [{ e with flags := e.flags + 4 * b2n x.lost }], lost := false }) s
    else
      raiseRated 0x0902 (tdcUnit i) [] 1
        (bump .tdcInCount i 2 1 (withIn i (fun x => { x with lost := true, lostN := x.lostN + 1 }) s))
  if room then tdcPump i s else queueLevel i s

/-! Stamping (11 R399 to R403, R422). -/

/-- An EDGE field selects an edge: 0 rising, 1 falling, 2 both. -/
def edgeSel (edge : Nat) (rising : Bool) : Bool := edge == 2 || (edge == 0 && rising) || (edge == 1 && !rising)

/-- The input's delay line, or SYN_4's, is under re-trim (11 R422, 18 R596). -/
def tdcStale (s : State) (i : Nat) : Bool := getB s .calBlockStatus 0 i 3 || getB s .calBlockStatus 0 12 3

/-- The edge counter of input i. -/
def edgeCount (s : State) (i : Nat) : Nat := rd64 s .tdcInEdges i

/-- The dead time of 2.5 ns in units of 2^-64 s (11 R401). -/
def deadTime : Nat := (2 ^ 64 * 25 + 10 ^ 10 - 1) / 10 ^ 10

/-- CLASS, the start source, the stop source. -/
def measClass (s : State) (c : Nat) : Nat := getF s .tdcMeasCfg c 0 0 2
def startSrc (s : State) (c : Nat) : Nat × Bool := (getF s .tdcMeasCfg c 0 2 3, getB s .tdcMeasCfg c 0 5)
def stopSrc (s : State) (c : Nat) : Nat × Bool := (getF s .tdcMeasCfg c 0 6 3, getB s .tdcMeasCfg c 0 9)

/-- A stamp of a measured edge goes to every enabled channel that takes stamps of its input (11 R405). -/
def chanStamp (x : TdcStamp) (s : State) : State :=
  (List.range 16).foldl (fun s c =>
    if getB s .tdcMeasStatus c 0 0 && (x.input == (startSrc s c).1 || (measClass s c == 0 && x.input == (stopSrc s c).1)) then
      withChan c (fun y => { y with queue := y.queue ++ [x] }) s
    else s) s

/-- The looped-back pin that input i selects yields no edges: it is disabled or held low (11 R403). -/
def loopSilent (s : State) (i : Nat) : Bool :=
  let k := getF s .tdcInCfg i 0 4 3
  match getF s .tdcInCfg i 0 2 2 with
  | 1 => !(treeOn s && getB s .trigOutCfg 0 k 4)
  | 2 => getF s .synSysrefCfg (k % 4) 0 0 2 == 0 || (vget s.time.syn 5 synDflt).lock != 2
  | _ => false

/-- An occurrence of EVT_IN_i, whose level goes with it to that of its pin (07 R286). -/
def evtOccur (i : Nat) (old : Bool) (o : Occ) (s : State) : State :=
  let new := evtLevel s i
  let b := if old = new then 0 else 2 ^ i
  srcOccur 0 o old new { s with tree := { s.tree with evtSeen := if new then s.tree.evtSeen + b else s.tree.evtSeen - b } }

/-- EVT_IN_EDGE: an edge of the signal that input i selects, at device time t in 2^-64 s at the ball; whether the levels
before it lasted at least 400 ps; whether stream 0 can be drained. -/
def execEvtInEdge (i : Nat) (rising : Bool) (t : Nat) (clean room : Bool) (s : State) : Out :=
  if ustate s (tdcUnit i) = .off ∨ 8 ≤ i ∨ loopSilent s i then .next s
  else
    let measured := edgeSel (getF s .tdcInCfg i 0 0 2) rising && ustate s (tdcUnit i) == .running
    let trig := getB s .trigEvtCfg 0 i 2 && edgeSel (getF s .trigEvtCfg 0 i 0 2) rising && srcLive s (tdcUnit i)
    let old := s.tree.evtSeen.testBit i
    let s := setB .tdcInStatus i 0 13 rising { s with tree := { s.tree with
      evt := if rising then Nat.lor s.tree.evt (2 ^ i) else s.tree.evt - (if s.tree.evt.testBit i then 2 ^ i else 0) } }
    let s := if measured && clean then wr64 .tdcInEdges i ((edgeCount s i + 1) % 2 ^ 48) s else s
    let dead := match (tdcIn s i).lastEdge with
      | some p => decide (p ≤ t ∧ t < p + deadTime)
      | none => false
    if !measured && !trig then .next (evtFollow s)
    else if dead then
      let s := withIn i (fun x => { x with dead := true, deadN := x.deadN + 1 }) s
      let s := raiseRated 0x0903 (tdcUnit i) [] 1 (bump .tdcInCount i 1 1 s)
      if trig then
        let (m, s) := stampAt (tdcUnit i) (nowTicks s) 0x10#8 s
        .next (evtOccur i old { src := 0x40 + i, time := stampTicks m, qual := m.qual, flags := 16, detail := 0, aux := 0 } s)
      else .next (evtFollow s)
    else
      let stale := tdcStale s i
      let at_ := ((t : Int) - psTotal (sgn 32 (rd s .tdcInOffset i 0).toNat)).toNat
      let (st, s) := stampAt (tdcUnit i) (at_ / 2 ^ 24) (if stale then 0x40#8 else 0#8) s
      let wasDead := (tdcIn s i).dead
      let s := withIn i (fun x => { x with lastEdge := some t, dead := x.dead && !measured }) s
      let o : Occ := { src := 0x40 + i, time := stampTicks st, qual := st.qual, flags := 0, detail := 0, aux := 0 }
      let s := if trig then evtOccur i old o s else evtFollow s
      let s := bump .tdcInCount i 3 (b2n stale) s
      if measured then
        let s := bump .tdcInCount i 0 1 s
        let s := ((stampWords st).zipIdx).foldl (fun s p => wr .tdcInLast i p.2 p.1 s) s
        let n := edgeCount s i
        let x : TdcStamp := { input := i, falling := !rising, time := stampTicks st, qual := st.qual, count := n, dead := wasDead,
                              steps := s.time.steps }
        let s := chanStamp x { s with tdc := { s.tdc with stamps := s.tdc.stamps ++ [x] } }
        .next (if getB s .tdcInCfg i 0 7 then
            tdcQueue i { stamp := st, flags := b2n (!rising) + 2 * b2n wasDead, count := n,
                         ep := (epochOf s (tdcUnit i), planEpoch s) } room s
          else s)
      else .next s

/-! Interval blocks (11 R418 to R420). -/

/-- The 32 bytes of an entry. -/
def ivBytes (e : IvEntry) : List Byte :=
  let t := fun (x : Option Stamp) => match x with | some t => wordsBytes (stampWords t) | none => List.replicate 12 0
  t e.a ++ t e.b ++ leBytes 1 (e.chan + 16 * e.kind) ++ leBytes 1 e.flags ++ leBytes 6 e.n

/-- Close the interval block, if it holds entries. -/
def ivClose (stop : Bool) (s : State) : State :=
  match s.tdc.blk with
  | [] => s
  | e :: _ =>
    let x := s.tdc
    let hdr := leBytes 6 x.seq ++ leBytes 1 0 ++ leBytes 1 0x21 ++ leBytes 2 x.blk.length ++ leBytes 2 (b2n x.first + 2 * b2n stop)
      ++ leBytes 20 0
    let p := bytesWords (hdr ++ x.blk.flatMap ivBytes)
    let t := match e.b, e.a with
      | some b, _ => b
      | none, some a => a
      | none, none => eventTime s
    let s := { s with tdc := { s.tdc with blk := [], seq := (x.seq + 1) % 2 ^ 48, first := false } }
    offer { kind := 0x51, src := 0x140, stream := 1, sel := 0, seq := x.seq, gen := 0, stamp := t, epoch := x.blkEp.1,
            planEpoch := x.blkEp.2, evSeq := 0, origin := 0, check := false, crc := crcWords p, payload := p } s

/-- A channel makes an entry; with no room in the output buffer it is lost (11 R420). -/
def ivPut (room : Bool) (e : IvEntry) (s : State) : State :=
  let s := bump .tdcMeasCount e.chan 0 1 s
  if room then
    let e := { e with flags := e.flags + 8 * b2n (tdcChan s e.chan).lost }
    let s := withChan e.chan (fun x => { x with lost := false }) s
    let ep := if s.tdc.blk.isEmpty then (epochOf s 0x140, planEpoch s) else s.tdc.blkEp
    let s := { s with tdc := { s.tdc with blk := s.tdc.blk ++ [e], blkEp := ep } }
    if 128 ≤ s.tdc.blk.length then ivClose false s else s
  else
    raiseRated 0x0909 0x140 [.u16 e.chan] 1 (bump .tdcMeasCount e.chan 5 1 (withChan e.chan (fun x => { x with lost := true }) s))

/-- The stamp of a mark, with extra quality bits. -/
def markStamp (x : TdcStamp) (extra : BitVec 8) : Stamp := mkStamp x.time (x.qual ||| extra)

/-- Flags of an entry from A to B: STEPPED and DEAD_LOSS. -/
def spanFlags (a : TdcMark) (b : Option TdcStamp) : Nat :=
  (match b with | some b => b2n (a.x.steps != b.steps) | none => 0) + 2 * b2n a.dead

/-! Channels (11 R409 to R417). -/

/-- P0 and P1 of a channel in ns. -/
def measP0 (s : State) (c : Nat) : Nat := (rd s .tdcMeasP0Lo c 0).toNat + 2 ^ 32 * getF s .tdcMeasP0Hi c 0 0 10
def measP1 (s : State) (c : Nat) : Nat := (rd s .tdcMeasP1Lo c 0).toNat + 2 ^ 32 * getF s .tdcMeasP1Hi c 0 0 10

/-- A span of ticks of 2^-40 s against ns. -/
def spanLt (ticks : Int) (ns : Nat) : Bool := decide (ticks * 1000000000 < (ns * 2 ^ 40 : Nat))
def spanGt (ticks : Int) (ns : Nat) : Bool := decide (((ns * 2 ^ 40 : Nat) : Int) < ticks * 1000000000)

/-- The starts with a + P0 before t end as TIMEOUT (11 R414). -/
def expire (c : Nat) (t : Nat) (room : Bool) (s : State) : State :=
  let p0 := measP0 s c
  let due := (tdcChan s c).pending.filter fun m => spanGt ((t : Int) - m.x.time) p0
  let s := withChan c (fun x => { x with pending := x.pending.filter fun m => !spanGt ((t : Int) - m.x.time) p0 }) s
  due.foldl (fun s m =>
    let s := ivPut room { a := some (markStamp m.x 0), b := none, chan := c, kind := 1, flags := spanFlags m none, n := 0 } s
    raiseRated 0x0906 0x140 [.u16 c] 1 (bump .tdcMeasCount c 2 1 s)) s

/-- A stop stamp: the oldest start it may pair with, or an orphan (11 R411 to R413). -/
def takeStop (c : Nat) (x : TdcStamp) (room : Bool) (s : State) : State :=
  let mine := fun (m : TdcMark) => decide (m.x.time ≤ x.time + 1)
  match (tdcChan s c).pending.find? mine with
  | some m =>
    let near := decide (((x.time : Int) - m.x.time).natAbs < 2)
    let s := withChan c (fun y => { y with pending := y.pending.eraseP mine }) s
    ivPut room { a := some (markStamp m.x 0), b := some (markStamp x (if near then 0x20#8 else 0#8)), chan := c, kind := 0,
                 flags := spanFlags m (some x), n := 0 } s
  | none =>
    raiseRated 0x0905 0x140 [.u16 c] 1 (bump .tdcMeasCount c 1 1
      (ivPut room { a := none, b := some (markStamp x 0), chan := c, kind := 2, flags := 0, n := 0 } s))

/-- A start stamp (11 R410). -/
def takeStart (c : Nat) (x : TdcStamp) (room : Bool) (s : State) : State :=
  let cap := if getB s .tdcMeasCfg c 0 10 then 1 else 16
  let s :=
    match (tdcChan s c).pending with
    | m :: r =>
      if cap ≤ r.length + 1 then
        let s := withChan c (fun y => { y with pending := r }) s
        bump .tdcMeasCount c 3 1
          (ivPut room { a := some (markStamp m.x 0), b := none, chan := c, kind := 3, flags := spanFlags m none, n := 0 } s)
      else s
    | [] => s
  withChan c (fun y => { y with pending := y.pending ++ [{ x := x, dead := false }] }) s

/-- MISSING once time t has passed t_last + WMAX (11 R416). -/
def missing (c t : Nat) (room : Bool) (s : State) : State :=
  match (tdcChan s c).ref with
  | some m =>
    if spanGt ((t : Int) - m.x.time) (measP1 s c) then
      let s := withChan c (fun y => { y with ref := none }) s
      let s := ivPut room { a := some (markStamp m.x 0), b := none, chan := c, kind := 6, flags := spanFlags m none, n := 0 } s
      raise 0x0907 0x140 [.u16 c, .time (markStamp m.x 0)] (bump .tdcMeasCount c 2 1 s)
    else s
  | none => s

/-- A stamp of a class W channel (11 R416). -/
def takeWindow (c : Nat) (x : TdcStamp) (room : Bool) (s : State) : State :=
  let s := missing c x.time room s
  match (tdcChan s c).ref with
  | none =>
    let s := withChan c (fun y => { y with ref := some { x := x, dead := false } }) s
    ivPut room { a := none, b := some (markStamp x 0), chan := c, kind := 7, flags := 0, n := 0 } s
  | some m =>
    if spanLt ((x.time : Int) - m.x.time) (measP0 s c) then
      let s := if getB s .tdcMeasCfg c 0 11 then
          ivPut room { a := some (markStamp m.x 0), b := some (markStamp x 0), chan := c, kind := 5, flags := spanFlags m (some x), n := 0 } s
        else s
      raiseRated 0x0908 0x140 [.u16 c] 1 (bump .tdcMeasCount c 1 1 s)
    else
      let s := withChan c (fun y => { y with ref := some { x := x, dead := false } }) s
      ivPut room { a := some (markStamp m.x 0), b := some (markStamp x 0), chan := c, kind := 4, flags := spanFlags m (some x), n := 0 } s

/-- The number of the gate that holds device time t (2^-40 s). -/
def gateOf (s : State) (c t : Nat) : Nat := t * 1000000000 / (max 1 (measP0 s c) * 2 ^ 40)

/-- The edges that input i had counted when device time reached the beginning of channel c's gate k (11 R417): all but
those stamped from then on. -/
def countAt (s : State) (c i k : Nat) : Nat :=
  match s.tdc.stamps.find? fun x => x.input == i && x.steps == s.time.steps && decide (k ≤ gateOf s c x.time) with
  | some x => (x.count + 2 ^ 48 - 1) % 2 ^ 48
  | none => edgeCount s i

/-- The entry of a gate that ends, and the next gate (11 R417). -/
def gateEnd (c next : Nat) (room : Bool) (s : State) : State :=
  match (tdcChan s c).gate with
  | none => s
  | some g =>
    let cnt := countAt s c (startSrc s c).1 next
    let base := if g.stepped || g.steps != s.time.steps then g.base else countAt s c (startSrc s c).1 g.k
    let two := match g.first, g.last with | some a, some b => decide (a.count ≠ b.count ∨ a.time ≠ b.time) | _, _ => false
    let n := match g.first, g.last with
      | some a, some b => if two then (b.count + 2 ^ 48 - a.count) % 2 ^ 48 else (cnt + 2 ^ 48 - base) % 2 ^ 48
      | _, _ => (cnt + 2 ^ 48 - base) % 2 ^ 48
    let e : IvEntry := { a := g.first.map fun x => markStamp x 0, b := g.last.map fun x => markStamp x 0, chan := c, kind := 8,
                         flags := b2n (g.stepped || g.steps != s.time.steps) + 2 * b2n g.dead + 4 * b2n (!two), n := n }
    let s := withChan c (fun y => { y with gate := some { k := next, base := cnt, first := none, last := none,
                                                          steps := s.time.steps, stepped := false, dead := false } }) s
    ivPut room e s

/-- A stamp of a class F channel (11 R417). -/
def takeGate (c : Nat) (x : TdcStamp) (room : Bool) (s : State) : State :=
  match (tdcChan s c).gate with
  | none => s
  | some g =>
    let k := gateOf s c x.time
    let stepped := g.steps != x.steps
    let s :=
      if stepped then withChan c (fun y => { y with gate := some { g with k := k, steps := x.steps, stepped := true } }) s
      else (List.range (k - g.k)).foldl (fun s j => gateEnd c (g.k + 1 + j) room s) s
    if k < g.k ∧ !stepped then s
    else
      withChan c (fun y => { y with gate := y.gate.map fun g =>
        { g with first := if g.first.isNone then some x else g.first, last := some x, dead := g.dead || (x.dead && g.first.isSome) } }) s

/-- The stamps a channel holds see an edge lost to dead time. -/
def markDead (c : Nat) (s : State) : State :=
  withChan c (fun y => { y with pending := y.pending.map fun m => { m with dead := true },
                                ref := y.ref.map fun m => { m with dead := true } }) s

/-- A stamp comes before another in the channels' order: by time, under the same steps of device time (11 R405). -/
def stampBefore (x y : TdcStamp) : Bool := decide (x.steps < y.steps) || (x.steps == y.steps && decide (x.time < y.time))

/-- The earliest stamp that waits for a channel. -/
def firstStamp : List TdcStamp → Option TdcStamp
  | [] => none
  | x :: r => match firstStamp r with
    | some y => if stampBefore y x then some y else some x
    | none => some x

/-- TDC_CHANNEL_STAMP: channel c takes the earliest stamp that waits for it; whether the output buffer has room (11 R405,
R410 to R417). -/
def execTdcChannelStamp (c : Nat) (room : Bool) (s : State) : Out :=
  match firstStamp (tdcChan s c).queue with
  | none => .next s
  | some x =>
    let s := withChan c (fun y => { y with queue := y.queue.erase x }) s
    if getB s .tdcMeasStatus c 0 0 then
      let isStart := (x.input, x.falling) == startSrc s c
      let isStop := measClass s c == 0 && (x.input, x.falling) == stopSrc s c
      let s := if x.dead then markDead c s else s
      match measClass s c with
      | 0 =>
        let s := expire c x.time room s
        let s := if isStop then takeStop c x room s else s
        .next (if isStart then takeStart c x room s else s)
      | 1 => .next (if isStart then takeWindow c x room s else s)
      | _ => .next (if isStart then takeGate c x room s else s)
    else .next s

/-- The instant up to which channel c's results are decided, in 2^-40 s: device time 64 ns ago, and no later than a stamp that
it has still to take (11 R405). -/
def judged (s : State) (c : Nat) : Nat :=
  let t := (nowTotal s - 2 ^ 64 * 64 / 10 ^ 9) / 2 ^ 24
  match firstStamp (tdcChan s c).queue with
  | some x => if x.steps = s.time.steps then min t x.time else t
  | none => t

/-- TDC_TIMEOUT of channel c (11 R405, R414). -/
def execTdcTimeout (c : Nat) (room : Bool) (s : State) : Out :=
  if getB s .tdcMeasStatus c 0 0 ∧ measClass s c = 0 then .next (expire c (judged s c) room s) else .next s

/-- TDC_W_MISSING of channel c (11 R405, R416). -/
def execTdcWMissing (c : Nat) (room : Bool) (s : State) : Out :=
  if getB s .tdcMeasStatus c 0 0 ∧ measClass s c = 1 then .next (missing c (judged s c) room s) else .next s

/-- TDC_GATE_END of channel c: the gate in progress is over, at its end or, after a step of device time, at the next
boundary (11 R405, R417). -/
def execTdcGateEnd (c : Nat) (room : Bool) (s : State) : Out :=
  match (tdcChan s c).gate with
  | some g =>
    let k := gateOf s c (judged s c)
    if getB s .tdcMeasStatus c 0 0 ∧ (g.k < k ∨ g.steps ≠ s.time.steps) then
      .next (gateEnd c (if g.steps = s.time.steps ∧ !g.stepped then g.k + 1 else k) room s)
    else .next s
  | none => .next s

/-- TDC_BLOCK_FLUSH: FLUSH_US after its first entry, the block of input i, or for i = 8 the interval block, closes. -/
def execTdcBlockFlush (i : Nat) (s : State) : Out :=
  if i < 8 then .next (tdcClose i false (tdcPump i s)) else .next (ivClose false s)

/-! Commands and configuration (11 R409, R421). -/

/-- The register that ENABLE finds wrong (11 R409). -/
def measFail (s : State) (c : Nat) : Option Nat :=
  let bad := fun (b : Bool) (r : Reg) => if b then some (Reg.off r c 0) else none
  let cls := measClass s c
  let srcBad := fun (x : Nat × Bool) => ustate s (tdcUnit x.1) == .off || !edgeSel (getF s .tdcInCfg x.1 0 0 2) (!x.2)
  let p0 := measP0 s c
  let p1 := measP1 s c
  let top := 4000000000000
  [bad (cls == 3) .tdcMeasCfg, bad (srcBad (startSrc s c)) .tdcMeasCfg, bad (cls == 0 && srcBad (stopSrc s c)) .tdcMeasCfg,
   bad (cls == 2 && getF s .tdcInCfg (startSrc s c).1 0 0 2 == 2) .tdcMeasCfg,
   bad (cls == 0 && decide (p0 < 10 ∨ top < p0)) .tdcMeasP0Lo, bad (cls == 1 && decide (top < p0)) .tdcMeasP0Lo,
   bad (cls == 1 && decide (p1 < max p0 10 ∨ top < p1)) .tdcMeasP1Lo,
   bad (cls == 2 && decide (p0 < 1000 ∨ 1000000000000 < p0)) .tdcMeasP0Lo].findSome? id

/-- What a channel holds is discarded without entries and counted (11 R421). -/
def measDiscard (c : Nat) (s : State) : State :=
  let x := tdcChan s c
  let begun := match x.gate with
    | some g => decide (g.k ≤ gateOf s c (nowTicks s))
    | none => false
  let s := bump .tdcMeasCount c 4 (x.pending.length + b2n x.ref.isSome + b2n begun) s
  withChan c (fun y => { y with queue := [], pending := [], ref := none, gate := none }) s

/-- The first gate begins at or after now. -/
def gateStart (c : Nat) (s : State) : State :=
  if measClass s c = 2 ∧ getB s .tdcMeasStatus c 0 0 then
    let g := max 1 (measP0 s c) * 2 ^ 40
    let k := (nowTicks s * 1000000000 + g - 1) / g
    let base := edgeCount s (startSrc s c).1
    let steps := s.time.steps
    withChan c (fun y => { y with gate := some { k := k, base := base, first := none, last := none, steps := steps,
                                                 stepped := false, dead := false } }) s
  else s

/-- A write to TDC_MEAS_CMD. -/
def measCmdEff (ag : AgentId) (c : Nat) (v : BitVec 32) (s : State) : WRes :=
  match fld v 0 2 with
  | 1 =>
    match measFail s c with
    | some off =>
      (raise 0x0904 0x140 [.u16 c, .u32 off]
        (ignored ag (Reg.off .tdcMeasCmd c 0) 1 (setB .tdcMeasStatus c 0 7 true s)), 99)
    | none =>
      if getB s .tdcMeasStatus c 0 0 then (s, 0) else (gateStart c (setB .tdcMeasStatus c 0 0 true s), 0)
  | 2 => (setB .tdcMeasStatus c 0 0 false (measDiscard c s), 0)
  | _ => (s, 0)

/-- TDC_MEAS_ENABLE. -/
def execTdcMeasEnable (ag : AgentId) (c : Nat) (s : State) : Out :=
  .next (guardW ag (Reg.off .tdcMeasCmd c 0) 1#32 (measCmdEff ag c 1#32) s)

/-- TDC_MEAS_DISABLE. -/
def execTdcMeasDisable (ag : AgentId) (c : Nat) (s : State) : Out :=
  .next (guardW ag (Reg.off .tdcMeasCmd c 0) 2#32 (measCmdEff ag c 2#32) s)

/-- A write to a channel's configuration: only while it is disabled (11 R409). -/
def measCfgEff (c : Nat) (eff : State → WRes) (s : State) : WRes :=
  if getB s .tdcMeasStatus c 0 0 then (setB .tdcMeasStatus c 0 7 true s, 4) else eff s

/-- A write to TDC_IN_CFG: EDGE, SRC and SEL only outside RUNNING and DRAINING. -/
def tdcCfgEff (i : Nat) (v : BitVec 32) (s : State) : WRes :=
  if (ustate s (tdcUnit i)).busy ∧ fld v 0 7 ≠ getF s .tdcInCfg i 0 0 7 then (setB .tdcInStatus i 0 14 true s, 4)
  else (wrMask .tdcInCfg i 0 0xFF#32 v s, mixedRes .tdcInCfg i 0 v s)

/-- A write to TDC_IN_OFFSET: a value outside ±1,000,000 ps is discarded. -/
def tdcOffsetEff (i : Nat) (v : BitVec 32) (s : State) : WRes :=
  if 1000000 < (sgn 32 v.toNat).natAbs then (setB .tdcInStatus i 0 14 true s, 5) else (wr .tdcInOffset i 0 v s, 0)

/-! Inputs as units (11 R402, R408, R421, R423). -/

/-- START. -/
def tdcStart (i : Nat) (s : State) : State :=
  let c := rd s .tdcInCfg i 0
  let f : Option Nat := if fld c 0 2 = 3 then some 0 else if fld c 2 2 = 2 ∧ 3 < fld c 4 3 then some 2 else none
  match f with
  | some k => enterFault (tdcUnit i) 7 k (raise 0x0901 (tdcUnit i) [.u16 k] s)
  | none =>
    let s := wr64 .tdcInEdges i 0 (changeState (tdcUnit i) .running s)
    let s := queueLevel i (withIn i (fun x => { x with dead := false, lost := false, lostN := 0, deadN := 0,
                                                       first := true }) s)
    if i = 0 then { s with tdc := { s.tdc with blk := [], first := true } } else s

/-- Every channel drops what it holds; a class F channel waits for its next gate. -/
def measDropAll (s : State) : State := (List.range 16).foldl (fun s c => gateStart c (measDiscard c s)) s

/-- DRAIN or STOP closes the block; that of input 0 the interval block too. -/
def tdcDrain (i : Nat) (s : State) : State :=
  let s := tdcClose i true (tdcPump i s)
  if i = 0 then ivClose true (measDropAll s) else s

/-- Something is in formation. -/
def tdcPartial (s : State) (i : Nat) : Bool :=
  let x := tdcIn s i
  x.blk.length != 0 || x.queue.length != 0 || (i == 0 && s.tdc.blk.length != 0)

/-- ABORT and faults: entries not in a closed block are discarded; stamps already queued are kept on a SYN_4 loss. -/
def tdcDiscard (i : Nat) (keep : Bool) (s : State) : State :=
  let s := withIn i (fun x => { x with blk := [], queue := if keep then x.blk ++ x.queue else [] }) s
  let s := queueLevel i s
  if i = 0 then measDropAll { s with tdc := { s.tdc with blk := [] } } else s

end Sys2Proof.Machine
end

