-- ==== Sys2Proof/Machine/Units.lean ====
section
/-! DEFINITION. Units: their states and commands, what they drain and discard, their clocks, survey runs that end, gating
(01_architecture.md R37 to R48; 20 R620 to R624, R626; 21 R637 to R645; 24 R693). -/

namespace Sys2Proof.Machine

/-! Clocks (03 R153, R156). -/

/-- The synthesiser that clocks a unit; none for the converter and the units of R74. -/
def unitSyn (u : Nat) : Option Nat :=
  match unitKind u with
  | .ing | .tun | .chz | .fft | .spec | .trig | .acq | .dens | .cmp => some 0
  | .dsp => some 1
  | .pc => some 2
  | .disp => some 3
  | .tdc => some 4
  | _ => none

/-- The unit's synthesiser is locked. -/
def clocked (s : State) (u : Nat) : Bool :=
  match unitSyn u with
  | some n => (synOf s n).lock == 2
  | none => true

/-- Synthesiser n is to be powered (03 R153). -/
def synWanted (s : State) (n : Nat) : Bool :=
  let some_ := fun (k : UKind) => (List.range (unitNum s.fuse.variant k)).any fun i => ustate s (unitBase k + i) != .off
  if s.pwr.asleep || s.pwr.shutdown || !s.boot.resetN || !s.boot.aonResetN then false
  else match n with
    | 0 => s.boot.fused
    | 1 => some_ .dsp
    | 2 => some_ .pc
    | 3 => some_ .disp
    | 4 => some_ .tdc
    | _ => (List.range 4).any fun k => getF s .synSysrefCfg k 0 0 2 == 1 || getF s .synSysrefCfg k 0 0 2 == 2

/-- Synthesisers are powered and powered down with the units they serve; one that is powered down forgets its lock
(03 R153, R157). -/
def synFollow (s : State) : State :=
  (List.range 6).foldl (fun s n =>
    let y := synOf s n
    if synWanted s n then (if y.lock = 0 then withSyn n (fun y => { y with lock := 1, everLocked := false }) s else s)
    else if y.lock = 0 then s
    else withSyn n (fun y => { y with lock := 0, everLocked := false }) s) s

/-- What follows any change of unit states: synthesisers, output pins, a running RETRIM, FAULT_N. -/
def settle (s : State) : State := updFaultN (calWatch (pinsGate (evtFollow (synFollow s))))

/-- A write of SYN_SYSREF_CFG with what it powers: SYN_5 runs while any output is enabled (03 R153, R160). -/
def sysrefWriteEff (ag : AgentId) (n : Nat) (v : BitVec 32) (s : State) : WRes :=
  let x := sysrefCfgEff ag n v s
  (synFollow x.1, x.2)

/-! What a unit holds. -/

/-- The bits of a register that count since RESET_N or that RESET_N alone resets (02 R119). -/
def keepMask (r : Reg) : BitVec 32 :=
  match r with
  | .ingLinkStatus | .tunStatus | .specStatus => 0xFFFF0000#32
  | .specSeq | .trigWeirFires => 0xFFFFFFFF#32
  | _ => 0#32

/-- The unit's registers at their reset values, but for what R119 keeps. -/
def unitRegsReset (u : Nat) (s : State) : State :=
  { s with regs := s.regs.filterMap fun e =>
      if unitAt e.1 = some u then
        match regAt e.1 with
        | some (r, _, _) => if e.2 &&& keepMask r = 0 then none else some (e.1, e.2 &&& keepMask r)
        | none => none
      else some e }

/-- The unit's own state at its reset values, but for its sequences (02 R119). -/
def unitStateReset (u : Nat) (s : State) : State :=
  let i := unitIdx u
  match unitKind u with
  | .ing => withLink i (fun x => { Link.reset with seq := x.seq }) s
  | .tun => withTuner i (fun x => { Tuner.reset with seq := x.seq }) s
  | .chz => withChz i (fun x => { Chz.reset with groups := x.groups.map fun g => { ChzGroup.reset with seq := g.seq } }) s
  | .spec => withSpec i (fun x => { Spec.reset with seq := x.seq }) s
  | .trig =>
    let s := withTrig i (fun _ => TrigEng.reset) s
    if i = 0 then
      { s with tree := { s.tree with
        weirs := s.tree.weirs.map fun x => { Weir.reset with evIgnored := x.evIgnored }, net := [], pins := TreeState.reset.pins } }
    else s
  | .acq => withAcq i (fun u => { AcqUnit.reset with missCounts := u.missCounts })
      { s with tree := { s.tree with fires := vset s.tree.fires i [] } }
  | .dens => withDens i (fun _ => Dens.reset) s
  | .disp => withDisp (fun _ => Disp.reset) s
  | .tdc =>
    let s := withIn i (fun x => { TdcIn.reset with seq := x.seq }) s
    if i = 0 then { s with tdc := { s.tdc with chans := Tdc.reset.chans, stamps := [], blk := [], first := true } } else s
  | .dsp => withDsp i (fun x => { Dsp.reset with outs := x.outs.map fun o => { cur := none, seq := o.seq, first := true } }) s
  | .cmp => withCmp i (fun x => { Cmp.reset with seq := x.seq }) s
  | .aux => withAux (fun x => { Aux.reset with seq := x.seq, lossRep := x.lossRep }) s
  | _ => s

/-- The header fields at their reset values; state, epoch, policy and the history of faults stay. -/
def unitHdrReset (u : Nat) (s : State) : State :=
  setUnit u { unit s u with cmdErr := false, abortResult := 0, evtMask := 0 } s

/-- A unit's registers and state at their reset values. -/
def unitReset (u : Nat) (s : State) : State := unitStateReset u (unitRegsReset u (unitHdrReset u s))

/-- What a unit holds in memories that lose power with it (01 R31, R37). -/
def unitForget (u : Nat) (s : State) : State :=
  let i := unitIdx u
  let out := fun {α : Type} (size : Nat) (m : List (Nat × α)) => m.filter fun e => e.1 / size != i
  match unitKind u with
  | .chz => { s with chzCoef := out 65536 s.chzCoef }
  | .spec => { s with winBank := s.winBank.filter fun e => decide (e.1 < winKey i 0 0 ∨ winKey (i + 1) 0 0 ≤ e.1) }
  | .trig => { s with maskBank := out 65536 s.maskBank }
  | .dsp => { s with dspP := out 32768 s.dspP, dspX := out 65536 s.dspX, dspY := out 65536 s.dspY }
  | _ => s

/-! State changes (01 R38). -/

/-- GATED to READY: the clock is enabled; the converter's reference settles afresh (19 R608). -/
def toReady (u : Nat) (s : State) : State :=
  let s := changeState u .ready s
  if u = 0x230 then auxUngate s else s

/-- READY to GATED. -/
def toGated (u : Nat) (s : State) : State := changeState u .gated s

/-- To OFF: the unit loses its registers and memories; a core's culvert queues are discarded (17 R575). -/
def toOff (u : Nat) (s : State) : State :=
  let s := unitForget u (unitReset u (changeState u .off s))
  if unitKind u = .dsp then dspReset (unitIdx u) s else s

/-- READY through GATED to OFF (02 R120). -/
def downFromReady (u : Nat) (s : State) : State := toOff u (toGated u s)

/-- What leaving RUNNING and DRAINING ends, beside what is discarded. -/
def unitLeave (u : Nat) (s : State) : State :=
  let i := unitIdx u
  match unitKind u with
  | .ing => ingLeave i s
  | .disp => dispDiscard s
  | .dsp => dspEnd i s
  | _ => s

/-- A unit's partial output is discarded (01 R39, 21 R643). -/
def unitDiscard (u : Nat) (s : State) : State :=
  let i := unitIdx u
  match unitKind u with
  | .ing => ingLeave i s
  | .tun => tunDiscard i s
  | .chz => chzDiscard i s
  | .spec => specDiscard i s
  | .trig => trigDiscard i s
  | .acq => acqDiscard i s
  | .dens => densDiscard i s
  | .disp => dispDiscard s
  | .tdc => tdcDiscard i false s
  | .dsp => dspDiscard i s
  | .cmp => cmpDiscard i s
  | .aux => auxDiscard s
  | _ => s

/-- A unit has output in formation (01 R39). -/
def unitPartial (s : State) (u : Nat) : Bool :=
  let i := unitIdx u
  match unitKind u with
  | .ing => !(link s i).items.isEmpty
  | .tun => tunPartial s i
  | .chz => chzPartial s i
  | .spec => specPartial s i
  | .trig => trigPartial s i
  | .acq => acqPartial s i
  | .dens => !densIdle s i
  | .disp => !s.disp.line.isEmpty
  | .tdc => tdcPartial s i
  | .dsp => dspPartial s i
  | .cmp => cmpPartial s i
  | .aux => auxPartial s
  | _ => false

/-- What DRAIN completes or ends in a unit (the unit chapters). -/
def unitDrainHook (u : Nat) (s : State) : State :=
  let i := unitIdx u
  match unitKind u with
  | .ing => ingDrain i s
  | .tun => tunDrain i s
  | .chz => chzDrain i s
  | .spec => specDrain i s
  | .trig => trigDiscard i s
  | .acq => acqLeave i (listFlush i s)
  | .dens => densDrain i s
  | .tdc => tdcDrain i s
  | .dsp => dspDrain i s
  | .cmp => cmpDrain i s
  | .aux => auxDrain s
  | _ => s

/-- A DRAINING unit has nothing left to complete or deliver (01 R38). -/
def unitIdle (s : State) (u : Nat) : Bool :=
  let i := unitIdx u
  (match unitKind u with
   | .spec => !specPartial s i
   | .acq => (acqOf s i).job.isNone && (acqOf s i).missed.isEmpty && (acqOf s i).tests.isEmpty
   | .dens => densIdle s i
   | .disp => dispIdle s
   | .tdc => !tdcPartial s i
   | .dsp => dspIdle s i
   | .cmp => cmpIdle s i
   | .aux => auxIdle s
   | _ => true) && !(s.plan.offered.any fun x => x.src == u)

/-- START's effect in READY: the chapter's checks, then RUNNING, or FAULT with cause CONFIG (21 R639). -/
def unitBegin (u : Nat) (s : State) : State :=
  let i := unitIdx u
  match unitKind u with
  | .ing => ingStart i s
  | .tun => tunStart i s
  | .chz => chzStart i s
  | .spec => specStart i s
  | .trig => trigStart i s
  | .dens => densStart i s
  | .disp => dispStart s
  | .tdc => tdcStart i s
  | .dsp => dspStart i (changeState u .running s)
  | .cmp =>
    let s := cmpStart i s
    if ustate s u = .ready then changeState u .running s else s
  | .aux => if (auxCfgFail s).isSome then auxStart s else auxStart (changeState u .running s)
  | _ => changeState u .running s

/-- RUNNING to DRAINING. -/
def unitDrain (u : Nat) (s : State) : State := changeState u .draining (unitDrainHook u s)

/-- ABORT in RUNNING or DRAINING (01 R39, 21 R644). -/
def unitAbort (u : Nat) (s : State) : State :=
  let had := unitPartial s u
  let s := changeState u .ready (unitDiscard u s)
  let s := setUnit u { unit s u with abortResult := if had then 1 else 2 } s
  if unitKind u = .dsp then dspReset (unitIdx u) s else s

/-- A live unit enters FAULT, its partial output discarded first (21 R640). -/
def unitFault (u cause detail : Nat) (s : State) : State :=
  if (ustate s u).live then
    match unitKind u with
    | .dsp => dspFault (unitIdx u) cause s
    | .tdc => enterFault u cause detail (tdcDiscard (unitIdx u) (cause == 5) s)
    | _ => enterFault u cause detail (unitDiscard u s)
  else s

/-- The fence of a PC lifts (15 R522). -/
def unfence (p : Nat) (s : State) : State :=
  let s := setB .hbmPcStatus p 0 1 false (setB .hbmFence 0 (p / 32) (p % 32) false s)
  raise 0x0C04 (pcUnit p) [.u16 p] s

/-- Re-initialisation of a unit in FAULT (01 R38, R42): it reaches READY, or a further fault is counted. good is the
outcome of what the hardware tries: for a fenced PC outside the mask its training, else the unit's own logic. -/
def unitRestart (u : Nat) (good : Bool) (s : State) : State :=
  let i := unitIdx u
  let done := fun (s : State) => recovered u (changeState u .ready s)
  match unitKind u with
  | .pc =>
    if fencedPc s i then
      if (pcsNow s).contains i || !good || sstate s (i / 32) != 3 then furtherFault u 8 s else unfence i (done s)
    else if good then done s else furtherFault u 11 s
  | .spec =>
    if !clocked s u then furtherFault u 5 s
    else if !good then furtherFault u 11 s
    else
      let s := (List.range 4).foldl (fun s k =>
        let c := fftUnit (4 * i + k)
        if ustate s c = .fault then recovered c (changeState c .ready s) else s) s
      done s
  | .dsp => if !clocked s u then furtherFault u 5 s else if good then dspReset i (done s) else furtherFault u 11 s
  | _ => if !clocked s u then furtherFault u 5 s else if good then done s else furtherFault u 11 s

/-- RESTART of the time unit: through READY to RUNNING, its servo in FREE, while OCXO_CLK is present (24 R693, 03 R135). -/
def timeRestart (s : State) : State :=
  if s.time.ocxo then
    let s := recovered 0x010 (changeState 0x010 .ready s)
    enterFree (changeState 0x010 .running s)
  else furtherFault 0x010 10 s

/-! Survey runs that end (20 R626 step 6). -/

/-- Another run holds the unit. -/
def otherRun (s : State) (e u : Nat) : Bool := s.pwr.runs.any fun r => r.entry != e && !r.draining && r.units.contains u

/-- A draining run whose units have come to rest ends: READY units are gated and powered down, the others counted. -/
def surveyEnd (r : SurveyRun) (s : State) : State :=
  let mine := r.units.filter fun u => !otherRun s r.entry u
  if r.draining && !(mine.any fun u => (ustate s u).busy) then
    let left := mine.filter fun u => ustate s u != .ready
    let s := (mine.filter fun u => ustate s u == .ready).foldl (fun s u => downFromReady u s) s
    let s := if left.isEmpty then s else bump .pwrCount 0 2 1 s
    let s := raise 0x1102 0x240 [.u16 r.entry, .codes 16 left] s
    { s with pwr := { s.pwr with
        runs := s.pwr.runs.filter fun x => x.entry != r.entry,
        runEnd := if s.pwr.fromSleep then some (upTotal s) else s.pwr.runEnd } }
  else s

/-- Every run that can end ends. -/
def surveySettle (s : State) : State := settle (s.pwr.runs.foldl (fun s r => surveyEnd r s) s)

/-! Commands (24 R693, 21 R644, 20 R623, R624, 15 R537). -/

/-- A command is accepted: its audit entry carries the new state epoch (17 R587). -/
def cmdDone (ag : AgentId) (u cmd : Nat) (s : State) : WRes :=
  let s := surveySettle s
  (audit 0x03 ag cmd u (epochOf s u).toNat s, 0)

/-- A command is not accepted: CMD_ERR, and an audit entry with code 4. -/
def cmdRefused (u : Nat) (s : State) : WRes := (setUnit u { unit s u with cmdErr := true } s, 4)

/-- A write of CMD in UNIT_CTRL. -/
def unitCtrlEff (ag : AgentId) (u cmd : Nat) (good : Bool) (s : State) : WRes :=
  let st := ustate s u
  let off := hdrOff u + 0x0C
  if cmd = 0 then (s, 0)
  else if alwaysOn u then
    if u = 0x010 ∧ cmd = 5 ∧ st = .fault then cmdDone ag u cmd (timeRestart s) else (ignored ag off cmd s, 99)
  else match cmd with
    | 1 =>
      if (unit s u).policy = 2 then (s, 4)
      else if st = .ready then cmdDone ag u cmd (unitBegin u s)
      else if st = .gated ∧ (unit s u).policy = 1 then
        if clocked s u then cmdDone ag u cmd (unitBegin u (toReady u s))
        else cmdDone ag u cmd { s with pwr := { s.pwr with waiting := s.pwr.waiting.filter (· != u) ++ [u] } }
      else cmdRefused u s
    | 2 => if st = .running then cmdDone ag u cmd (unitDrain u s) else cmdRefused u s
    | 3 => if st = .running then cmdDone ag u cmd (unitDrain u s) else cmdRefused u s
    | 4 =>
      if st = .fault ∨ st = .frozen then (ignored ag off cmd s, 99)
      else if st.busy then cmdDone ag u cmd (unitAbort u s)
      else cmdDone ag u cmd (setUnit u { unit s u with abortResult := 2 } s)
    | 5 => if st = .fault then cmdDone ag u cmd (unitRestart u good s) else cmdRefused u s
    | 6 =>
      if unitKind u = .pc then (s, 4)
      else if st = .frozen then cmdDone ag u cmd (recovered u (changeState u .ready s))
      else cmdRefused u s
    | _ => cmdRefused u s

/-- A command written by an agent to the UNIT_CTRL of a unit. -/
def unitCmdW (ag : AgentId) (u cmd : Nat) (good : Bool) (s : State) : State :=
  guardW ag (hdrOff u + 0x0C) (BitVec.ofNat 32 cmd) (unitCtrlEff ag u cmd good) s

/-- UNIT_START (24 R693, 20 R623). -/
def execUnitStart (ag : AgentId) (u : Nat) (s : State) : Out := .next (unitCmdW ag u 1 true s)

/-- UNIT_DRAIN (01 R38). -/
def execUnitDrain (ag : AgentId) (u : Nat) (s : State) : Out := .next (unitCmdW ag u 2 true s)

/-- UNIT_STOP: as DRAIN (01 R38). -/
def execUnitStop (ag : AgentId) (u : Nat) (s : State) : Out := .next (unitCmdW ag u 3 true s)

/-- UNIT_ABORT (01 R39, 21 R644). -/
def execUnitAbort (ag : AgentId) (u : Nat) (s : State) : Out := .next (unitCmdW ag u 4 true s)

/-- UNIT_RESTART, with the outcome of the re-initialisation (01 R42). -/
def execUnitRestart (ag : AgentId) (u : Nat) (good : Bool) (s : State) : Out := .next (unitCmdW ag u 5 good s)

/-- UNIT_THAW: only PCs freeze, and theirs is discarded (15 R537, 02 R120). -/
def execUnitThaw (ag : AgentId) (u : Nat) (s : State) : Out := .next (unitCmdW ag u 6 true s)

/-! Draining, gating, skew, rate limits. -/

/-- DRAIN_COMPLETE: the last work in flight is delivered (01 R38); a unit of an ended load starts again (02 R121). -/
def execDrainComplete (u : Nat) (s : State) : Out :=
  if ustate s u = .draining ∧ unitIdle s u then
    let s := changeState u .ready (unitLeave u s)
    if s.plan.rearm.contains u then
      .next (surveySettle (unitBegin u { s with plan := { s.plan with rearm := s.plan.rearm.filter (· != u) } }))
    else .next (surveySettle s)
  else .next s

/-- The gate delay of a GATEABLE unit in READY has passed (02 R104, 20 R623). -/
def execGateDelayExpiry (u : Nat) (s : State) : Out :=
  if ustate s u = .ready ∧ (unit s u).policy = 1 then .next (settle (bump .pwrCount 0 3 1 (toGated u s))) else .next s

/-- STATE_SKEW: the register epoch and the epoch of the output now leaving stream k have differed for more than 2 µs, or
agree again (01 R48, 21 R645). -/
def execStateSkew (u : Nat) (data : BitVec 32) (k : Nat) (s : State) : Out :=
  if data = epochOf s u then .next { s with skew := s.skew.filter (· != u) }
  else if s.skew.contains u then .next s
  else
    let s := { s with skew := s.skew ++ [u] }
    let s := setB .globalFaultStatus 0 0 10 true (bump .globalFaultCount 0 4 1 s)
    .next (updFaultN (raise 0x0E10 0x210 [.u16 u, .u32 (epochOf s u).toNat, .u32 data.toNat, .u16 k] s))

/-- The data of a rate-limited event whose window ends, and the state once its own counts restart. -/
def rateData (r : RateRec) (s : State) : List EvField × State :=
  if r.code = 0x0506 then
    let w := match r.qual with
      | [.u16 w] => w
      | _ => 0
    let c := (weir s w).evIgnored
    ([.u16 w, .u32 (c.getD 0 0), .u32 (c.getD 1 0), .u32 (c.getD 2 0)], withWeir w (fun x => { x with evIgnored := [0, 0, 0] }) s)
  else if r.code = 0x0605 then
    let a := r.unit - 0x0E0
    ((List.range 5).map fun k => .u32 ((acqOf s a).missCounts.getD k 0), withAcq a (fun u => { u with missCounts := [0, 0, 0, 0, 0] }) s)
  else if r.code = 0x1003 then
    ([.u32 s.aux.lossRep.1, .u32 s.aux.lossRep.2], withAux (fun x => { x with lossRep := (0, 0) }) s)
  else if r.code = 0x0C0E then (r.qual ++ r.tail ++ [.u32 r.count], s)
  else (r.qual ++ [.u32 r.count] ++ r.tail, s)

/-- RATE_LIMIT_EXPIRY of the k-th running window: with a count the event is raised again and a new window runs, else
the quiet period begins (21 R638). -/
def execRateLimitExpiry (k : Nat) (s : State) : Out :=
  match s.rates[k]? with
  | none => .next s
  | some r =>
    let s := { s with rates := s.rates.eraseIdx k }
    if r.count = 0 then .next s
    else
      let (d, s) := rateData r s
      .next (raise r.code r.unit d (rateOpen r.code r.unit r.qual s))

end Sys2Proof.Machine
end

