-- ==== Sys2Proof/Machine/RegEff.lean ====
section
/-! DEFINITION. What a write does at each BAR0 offset, but for the plan loader's, the power unit's and the reset
commands, which Control.lean adds (00_scope.md R12 to R14; 24_register_map.md R692, R696; the unit chapters). -/

namespace Sys2Proof.Machine

/-- The value a register takes from a write by its access codes (00 R12): RW fields take v, 1s clear W1C bits and set W1S
bits, all other fields stay. -/
def accessValue (k : RegInfo) (old v : BitVec 32) : BitVec 32 :=
  let rw := BitVec.ofNat 32 k.rw
  (((old &&& ~~~rw) ||| (v &&& rw)) &&& ~~~(v &&& BitVec.ofNat 32 k.w1c)) ||| (v &&& BitVec.ofNat 32 k.w1s)

/-- A register without an effect of its own: its fields follow their access codes; a write of PL fields is ignored and
logged (00 R12, R13). -/
def plainEff (r : Reg) (i j : Nat) (v : BitVec 32) (s : State) : WRes :=
  let k := r.info
  if Nat.lor (Nat.lor k.rw k.w1c) (Nat.lor k.w1s k.wo) = 0 then (s, if k.pl = 0 then 0 else 3)
  else (wr r i j (accessValue k (rd s r i j) v) s, mixedRes r i j v s)

/-- A field whose value must lie in a range: any other value is discarded and sets CMD_ERR (03 registers). -/
def timeRangeEff (r : Reg) (inRange : Bool) (v : BitVec 32) (s : State) : WRes :=
  if inRange then (wr r 0 0 v s, 0) else (timeCmdErr s, 5)

/-- CODE follows MANUAL_CODE in FREE and under EFC_MANUAL (03 R136, R144). -/
def efcFollow (s : State) : State :=
  if s.time.servo = .free ∨ getB s .timeCfg 0 0 6 then setCode (getF s .timeEfc 0 0 0 16) s else s

/-- A write of TIME_CFG: the terms of WARM may change, and REF_SEL 0 counts as a loss of the reference (03 R138, R144,
R145). -/
def timeCfgEff (v : BitVec 32) (s : State) : WRes :=
  let before := warmNow s
  let sel := refSel s
  let s := efcFollow (warmChanged before (wr .timeCfg 0 0 v s))
  (if sel ≠ 0 ∧ refSel s = 0 then refLost s else s, 0)

/-- A write of one word of the MSI-X table of the writer's function; unmasking a pending vector delivers it. -/
def msixEff (ag : AgentId) (i : Nat) (v : BitVec 32) (s : State) : WRes :=
  let fn := if 1 ≤ ag.toNat ∧ ag.toNat ≤ 0x10 then ag.toNat - 1 else 0
  let d : BitVec 32 := if i % 4 = 3 then 1 else 0
  let w := if i % 4 = 3 then v &&& 1 else v
  let s := { s with host := { s.host with msix := spPut s.host.msix (fn * 8192 + i) (w ^^^ d) 0 } }
  let k := fn * 2048 + i / 4
  if i % 4 = 3 ∧ !bit w 0 ∧ s.host.msixPending.contains k then
    (msixDeliver fn (i / 4) { s with host := { s.host with msixPending := s.host.msixPending.filter (· != k) } }, 0)
  else (s, 0)

/-- Offset and size of the MSI-X table and of the pending-bit array (16 R539). -/
def msixAt (off : Nat) : Bool := decide (0x1C80000 ≤ off ∧ off < 0x1C88000)

/-- A write in a unit header (24 R692 to R694): CMD, CMD_ERR, the event mask; POLICY is a PL field. -/
def hdrEff (ag : AgentId) (u at_ : Nat) (v : BitVec 32) (good : Bool) (s : State) : WRes :=
  match at_ with
  | 0x04 => (if bit v 3 then setUnit u { unit s u with cmdErr := false } s else s, 0)
  | 0x0C => unitCtrlEff ag u (fld v 0 3) good s
  | 0x10 => (setUnit u { unit s u with evtMask := v &&& 0xFFFFFFFE } s, 0)
  | 0x18 => (s, 3)
  | _ => (s, 0)

/-- The staged words of a culvert send: banked by agent (17 R571). -/
def cvTxEff (ag : AgentId) (j : Nat) (v : BitVec 32) (s : State) : WRes :=
  let b := bank s ag
  (setBank ag { b with tx := b.tx.set j v } s, 0)

/-- HOST_WIN is written by agents 0x01 and 0x20 alone (16 R543). -/
def hostWinEff (ag : AgentId) (fn : Nat) (v : BitVec 32) (s : State) : WRes :=
  if ag = 0x01 ∨ ag = 0x20 ∨ ag = 0x58 then (wr .hostWin 0 fn v s, 0) else (s, 1)

/-- HOST_FLUME_IRQ takes writes from the flume's agents in any state (16 R564). -/
def flumeIrqEff (ag : AgentId) (f : Nat) (v : BitVec 32) (s : State) : WRes :=
  if flumeAgent s f ag then (wr .hostFlumeIrq f 0 v s, 0) else (s, 1)

/-- CAL_STAGE cannot be written while a calibration operation runs (18 R595). -/
def calStageEff (j : Nat) (v : BitVec 32) (s : State) : WRes :=
  if s.calJob.isSome then (s, 4) else (wr .calStage 0 j v s, 0)

/-- A write of register word j of instance i. ecc and good are outcomes of the hardware that some effects ask for: the
ECC of a transfer or fetch, and that of a re-initialisation. -/
def regEff (ag : AgentId) (r : Reg) (i j : Nat) (v : BitVec 32) (ecc : Nat) (s : State) : WRes :=
  match r with
  | .timeCmd => timeCmdEff ag v s
  | .timeSet => (wr .timeSet 0 j (if j = 1 then v &&& 0xFFFF else v) s, 0)
  | .timeCfg => timeCfgEff v s
  | .timeLockCfg => let w := warmNow s; (warmChanged w (wr .timeLockCfg 0 0 v s), 0)
  | .timeRefOffset => timeRangeEff .timeRefOffset (decide ((sgn 32 v.toNat).natAbs ≤ 1000000)) v s
  | .timeJumpLimit => timeRangeEff .timeJumpLimit (decide (100 ≤ v.toNat ∧ v.toNat ≤ 50000)) v s
  | .timeSlewRate => timeRangeEff .timeSlewRate (decide (1 ≤ v.toNat ∧ v.toNat ≤ 1000000)) v s
  | .timeEfc => (efcFollow (wrMask .timeEfc 0 0 0xFFFF#32 v s), 0)
  | .synPhase => synPhaseEff i v s
  | .synSysrefCfg => sysrefWriteEff ag i v s
  | .ingAdcDelay => adcDelayEff i v s
  | .ingLinkCmd => linkCmdEff i v s
  | .tunCommit => tunCommitEff i v s
  | .tunFirCoef => firCoefEff i j v s
  | .tunChzCoefData => chzCoefEff i v s
  | .specCommit => specCommitEff i v s
  | .specWinData => winDataEff i v s
  | .trigCommit => trigCommitEff i v s
  | .trigMaskData => maskDataEff i v s
  | .trigWeirCmd => weirCmdEff i v s
  | .trigWeirCfg | .trigWeirIn | .trigWeirInv | .trigWeirDelay | .trigWeirWindow | .trigWeirHoldoff | .trigWeirCountN =>
    weirCfgEff r i j v s
  | .trigOutCfg => let x := plainEff r i j v s; (pinsGate x.1, x.2)
  | .trigOutClr => trigOutClrEff v s
  | .trigSwPulse => swPulseEff v s
  | .trigSwLevel => swLevelEff v s
  | .acqCmd => acqCmdEff ag i v s
  | .acqMtData => mtDataEff i v s
  | .acqCfg | .acqSegCount | .acqWeir | .acqMtCfg | .acqSrcCfg | .acqSrcPre | .acqSrcPost | .acqSrcSlot =>
    acqSetupEff i (plainEff r i j v) s
  | .densCommit => densCommitEff i v s
  | .dispModeCommit => modeCommitEff v s
  | .dispFbCommit => fbCommitEff v s
  | .dispAuxCmd => auxCmdEffD v s
  | .tdcInCfg => tdcCfgEff i v s
  | .tdcInOffset => tdcOffsetEff i v s
  | .tdcMeasCmd => measCmdEff ag i v s
  | .tdcMeasCfg | .tdcMeasP0Lo | .tdcMeasP0Hi | .tdcMeasP1Lo | .tdcMeasP1Hi => measCfgEff i (plainEff r i j v) s
  | .dspCoreEntry => coreEntryEff i v s
  | .dspCoreHostMsg => hostMsgEff i v s
  | .dspCoreBreak => breakEff i ecc v s
  | .dspClStart => clStartEff v s
  | .cmpStreamCfg => streamCfgEff i v s
  | .cmpJobCmd => jobCmdEff ag i v s
  | .hbmStackCmd => stackCmdEff ag i v s
  | .hbmFreq => hbmFreqEff v s
  | .hostWin => hostWinEff ag j v s
  | .hostFlumeCfg | .hostFlumeFreeBaseLo | .hostFlumeFreeBaseHi | .hostFlumeCplBaseLo | .hostFlumeCplBaseHi =>
    flumeCfgEff ag r i v s
  | .hostFlumeFreeIdx => freeTailEff ag i v s
  | .hostFlumeCplIdx => cplHeadEff ag i v s
  | .hostFlumeIrq => flumeIrqEff ag i v s
  | .hostFlumeCmd => flumeCmdEff ag i v s
  | .mgtMcCmd => if bit v 0 then (mcRestart j s, 0) else (s, 0)
  | .mgtCvTx => cvTxEff ag j v s
  | .mgtCvSend => (cvSend ag v ecc s, 0)
  | .mgtDbRing => (dbRing j v s, 0)
  | .mgtDbClear => (dbClear j v s, 0)
  | .mgtHeadgate => gateWriteEff ag j v s
  | .mgtHeadgateForce => gateForceEff ag v s
  | .mgtCvCfg => cvCfgEff ag i v s
  | .mgtCvRxpop => rxpopEff ag i ecc s
  | .calCmd => calCmdEff ag v s
  | .calStage => calStageEff j v s
  | .auxConv => auxConvEff v s
  | .auxScan => auxScanEff v s
  | .auxCmd => auxCmdEff ag v s
  | .auxBufIdx => auxRdEff v s
  | .auxWinCfg => auxWinEff j v s
  | .pwrStatus | .globalFaultStatus | .globalFaultMask => let x := plainEff r i j v s; (updFaultN x.1, x.2)
  | _ => plainEff r i j v s

/-- A write at a BAR0 offset. -/
def writeEff (ag : AgentId) (off : Nat) (v : BitVec 32) (ecc : Nat) (good : Bool) (s : State) : WRes :=
  match regAt off with
  | some (r, i, j) => regEff ag r i j v ecc s
  | none =>
    if inDspMem off then
      match dspWindow (off % 0x100000) with
      | some (space, a) => dspMemEff ((off - 0x2000000) / 0x100000) space a v s
      | none => (s, 0)
    else if msixAt off then msixEff ag ((off - 0x1C80000) / 4) v s
    else match unitAt off with
      | some u => if inHeader off then hdrEff ag u (off - hdrOff u) v good s else (s, 0)
      | none => (s, 0)

/-- What a register word holds whose value lies outside the register file: a target, a table word at its ADDR, a staged
culvert word; the register file elsewhere. -/
def heldView (ag : AgentId) (s : State) (r : Reg) (i j : Nat) : Word :=
  match r with
  | .synPhase => BitVec.ofNat 32 (unsgn 16 (synOf s i).target + unsgn 16 (synOf s i).current * 2 ^ 16)
  | .tunChzCoefData =>
    BitVec.ofNat 32 (spGet s.chzCoef (i * 65536 + getF s .tunChzCoefAddr i 0 0 16) 0).toNat
  | .specWinData =>
    BitVec.ofNat 32 (spGet s.winBank (winKey i (1 - (specOf s i).bank) (getF s .specWinAddr i 0 0 16)) 0)
  | .trigMaskData => maskWord s i (1 - maskActive s i) (getF s .trigMaskAddr i 0 0 15)
  | .acqMtData => spGet (acqOf s i).mask (getF s .acqMtAddr i 0 0 12) 0
  | .mgtCvTx => (bank s ag).tx.getD j 0
  | _ => rd s r i j

/-- Give a unit the epoch that it has in another state (02 R101). -/
def keepEpoch (u : Option Nat) (old s : State) : State :=
  match u with
  | some u => setUnit u { unit s u with epoch := epochOf old u } s
  | none => s

/-- A write by the plan loader as agent 0x58 (02 R100): PL fields are set, then what the mask leaves has the effect of a
write; a refused one is logged. -/
def initWriteE (e : PlanInit) (eff : BitVec 32 → State → WRes) (s : State) : State :=
  let judge := fun (v : BitVec 32) (s : State) =>
    let x := eff v s
    if x.2 = 0 ∨ x.2 = 97 ∨ x.2 = 99 then x.1 else refuse 0x58 e.off e.value x.2 x.1
  if e.mask = 0 then s
  else match regAt e.off with
    | some (r, i, j) =>
      let pl := BitVec.ofNat 32 r.info.pl
      let s := wrMask r i j (e.mask &&& pl) e.value s
      let rest := e.mask &&& ~~~pl
      if rest = 0 then s
      else judge ((heldView 0x58 s r i j &&& BitVec.ofNat 32 r.info.rw &&& ~~~rest) ||| (e.value &&& rest)) s
    | none =>
      match unitAt e.off with
      | some u =>
        if inHeader e.off ∧ e.off = hdrOff u + 0x10 then
          judge (((unit s u).evtMask &&& ~~~e.mask) ||| (e.value &&& e.mask)) s
        else if inDspMem e.off then
          let old := match dspWindow (e.off % 0x100000) with
            | some (space, a) => dspRead s ((e.off - 0x2000000) / 0x100000) space a
            | none => 0
          judge ((old &&& ~~~e.mask) ||| (e.value &&& e.mask)) s
        else judge (e.value &&& e.mask) s
      | none => s

/-- A REGINIT write; but for a command in a unit header it does not increase the unit's state epoch (02 R101). -/
def initWrite (e : PlanInit) (eff : BitVec 32 → State → WRes) (s : State) : State :=
  if inHeader e.off then initWriteE e eff s else keepEpoch (unitAt e.off) s (initWriteE e eff s)

end Sys2Proof.Machine
end

