-- ==== Sys2Proof/Machine/Configure.lean ====
section
/-! DEFINITION. What a plan puts in force: the HBM map, the footprint of a unit, the order of starts, and the survey
schedule with its wakes and runs (02_sluice_plan.md R73, R98, R100, R101, R104, R119, R120; 15 R509, R510;
20_power_domains.md R625 to R627). -/

namespace Sys2Proof.Machine

/-! The HBM map (15 R509, R510). -/

/-- The PCs of a stack that the running mask includes. -/
def stackMask (s : State) (k : Nat) : List Nat := (pcsNow s).filter fun p => p / 32 == k

/-- A stack that is powered, or leaves self-refresh, trains once SYN_2 is locked (15 R519). -/
def stackRise (k : Nat) (s : State) : State :=
  if (synOf s 2).lock = 2 ∧ sstate s k ≤ 1 ∧ !(stackMask s k).isEmpty then
    trainStack k ((stackMask s k).foldl (fun s p => if fencedPc s p then s else pcReady p s) s)
  else s

/-- A PC that the mask leaves out goes to OFF; one in FAULT or FROZEN stays (15 R509, 02 R120). -/
def pcDown (p : Nat) (s : State) : State :=
  let u := pcUnit p
  let s := setB .hbmPcStatus p 0 2 false s
  let off := fun (s : State) => changeState u .off (changeState u .gated s)
  match ustate s u with
  | .running => off (changeState u .ready (changeState u .draining s))
  | .draining => off (changeState u .ready s)
  | .ready => off s
  | .gated => changeState u .off s
  | _ => s

/-- A PC that the mask takes in: it runs at once where its stack runs, else when its stack has trained. -/
def pcUp (p : Nat) (s : State) : State :=
  if fencedPc s p then s
  else
    let s := if ustate s (pcUnit p) = .off then changeState (pcUnit p) .gated s else s
    if sstate s (p / 32) = 3 then runPc p s
    else if 2 ≤ sstate s (p / 32) ∧ sstate s (p / 32) ≤ 4 then pcReady p s
    else s

/-- A stack with no PC in the mask: self-refresh keeps its contents, else it is powered down and loses them (15 R510). -/
def stackRest (selfRefresh : Bool) (k : Nat) (s : State) : State :=
  if (stackMask s k).isEmpty ∧ sstate s k ≠ 0 ∧ sstate s k ≠ 5 then
    if selfRefresh then setSstate k 1 s else setSstate k 0 (loseStack k s)
  else s

/-- The PCs and stacks follow the running mask. -/
def hbmFollow (s : State) : State :=
  let refresh := match s.plan.running with
    | some p => p.powerFlags.testBit 0
    | none => false
  let all := List.range (unitNum s.fuse.variant .pc)
  let s := (all.filter fun p => !(pcsNow s).contains p).foldl (fun s p => pcDown p s) s
  let s := (pcsNow s).foldl (fun s p => pcUp p s) s
  let s := synFollow (stackRest refresh 1 (stackRest refresh 0 s))
  stackRise 1 (stackRise 0 s)

/-! Footprints. -/

/-- SLEEP is refused, for a condition of 20 R628. -/
def sleepRefused (cond : Nat) (s : State) : State := raise 0x1107 0x240 [.u16 cond] (bump .pwrCount 0 5 1 s)

/-- What REGINIT does at the registers of the plan loader, the power unit and the reset (02 R113, R121; 20 R628; 22 R669),
and elsewhere the effect of a write by agent 0x58. -/
def initEff (off : Nat) (v : BitVec 32) (s : State) : WRes :=
  match regAt off with
  | some (.globalResetCmd, _, _) => (s, 1)
  | some (.globalPlanCmd, _, _) =>
    if fld v 0 2 = 0 then (s, 0)
    else if fld v 0 2 = 3 then (setF .globalPlanStatus 0 0 6 2 2 s, 0)
    else (raise 0x12F0 0x250 [] s, 4)
  | some (.pwrCmd, _, _) =>
    if bit v 0 then (ignored 0x58 off 1 (sleepRefused 1 (setB .pwrStatus 0 0 2 true s)), 99) else (s, 0)
  | _ => writeEff 0x58 off v 0 true s

/-- REGINIT entries in section order (02 R101). -/
def applyInits (l : List PlanInit) (s : State) : State := l.foldl (fun s e => initWrite e (initEff e.off) s) s

/-- The half-band coefficients of the fuses enter their two register sets, whose Reset column says fuse (04 R189, 05 R212,
22 R658). -/
def hbFuse (s : State) : State :=
  (List.range 12).foldl (fun s k =>
    let c := BitVec.ofNat 32 (s.fuse.hbCoef.getD k 0)
    wr .tunHbCoef 0 k c (wr .ingHbCoef 0 k c s)) s

/-- The PL fields of a unit's registers, or of those of no unit, return to their reset values. -/
def plZero (u : Option Nat) (s : State) : State :=
  { s with
    regs := s.regs.filterMap fun e =>
      if unitAt e.1 = u then
        match regAt e.1 with
        | some (r, _, _) =>
          let v := e.2 &&& ~~~(BitVec.ofNat 32 r.info.pl)
          if v = 0 then none else some (e.1, v)
        | none => some e
      else some e }

/-- The same, with the registers whose reset value is a fuse. -/
def resetPl (u : Option Nat) (s : State) : State := if u = none then hbFuse (plZero u s) else plZero u s

/-- The policy that an image gives a unit: HOLD without a POWER entry (02 R104). -/
def planPolicy (p : PlanImg) (u : Nat) : Nat := ((p.power.find? fun e => e.unit == u).map fun e => e.policy).getD 0

/-- The images of a core: each from word 0, zero beyond; without an entry all three memories are zero (02 R98, R99). -/
def dspImage (p : PlanImg) (u : Nat) (s : State) : State :=
  let c := unitIdx u
  match p.dsp.find? fun d => d.unit == u with
  | some d =>
    wr .dspCoreEntry c 0 (BitVec.ofNat 32 d.entry) (dspLoadMem c 2 d.p (dspLoadMem c 1 d.y (dspLoadMem c 0 d.x s)))
  | none => dspLoadMem c 2 [] (dspLoadMem c 1 [] (dspLoadMem c 0 [] s))

/-- Step 6 of R119 for a unit in READY: reset values, policy, image, REGINIT. -/
def unitConfigure (p : PlanImg) (u : Nat) (s : State) : State :=
  let s := unitReset u s
  let s := setUnit u { unit s u with policy := planPolicy p u } s
  let s := if unitKind u = .dsp then dspImage p u s else s
  applyInits (initsOf p u) s

/-- Units in the order in which they start: descending code, then the ingress links ascending (02 R73). -/
def startOrder (us : List Nat) : List Nat :=
  let all := (List.range 1024).filter fun u => us.contains u
  (all.filter fun u => unitKind u != .ing).reverse ++ all.filter fun u => unitKind u == .ing

/-- START in READY, in the order of R73. -/
def startUnits (us : List Nat) (s : State) : State :=
  (startOrder us).foldl (fun s u => if ustate s u = .ready then unitBegin u s else s) s

/-! The survey schedule (20 R625 to R627). -/

/-- The enabled bit of a schedule entry. -/
def schedOn (s : State) (e : Nat) : Bool := getB s .pwrSchedEn 0 (e / 32) (e % 32)

/-- The number of wakes of an entry that have been served or have passed. -/
def schedServed (s : State) (e : Nat) : Nat := spGet s.pwr.served e 0

/-- Device time of wake k of an entry in seconds (20 R625). -/
def dueTime (p : PlanSched) (k : Nat) : Nat := p.first + k * p.period

/-- The wakes of an entry whose time device time has reached, from the next one on. -/
def dueCount (s : State) (p : PlanSched) : Nat :=
  let k := schedServed s p.id
  let now := s.time.sec.toNat
  if p.period = 0 then (if k = 0 ∧ p.first ≤ now then 1 else 0)
  else if dueTime p k ≤ now then (now - dueTime p k) / p.period + 1 else 0

/-- Due times pass. -/
def schedPass (p : PlanSched) (n : Nat) (s : State) : State :=
  { s with pwr := { s.pwr with served := spPut s.pwr.served p.id (schedServed s p.id + n) 0 } }

/-- The schedule of a loaded plan takes effect: its past due times pass unused, and PWR_SCHED_EN takes its ENABLED bits.
After a wake from sleep an unchanged schedule goes on from the copy made at SLEEP (20 R629). -/
def schedLoad (l : List PlanSched) (s : State) : State :=
  let en := fun j => BitVec.ofNat 32 ((l.filter fun p => p.enabled && p.id / 32 == j).foldl (fun x p => x + 2 ^ (p.id % 32)) 0)
  let same := s.pwr.fromSleep && !s.pwr.aonSched.isEmpty && l == s.pwr.aonSched
  let s := wr .pwrSchedEn 0 1 (en 1) (wr .pwrSchedEn 0 0 (en 0) s)
  let s := { s with pwr := { s.pwr with sched := l, served := if same then s.pwr.aonServed else [], aonSched := [], aonServed := [], aonEn := [] } }
  if same then s else l.foldl (fun s p => schedPass p (dueCount s p) s) s

/-- A write of PWR_SCHED_EN: the due times that passed while an entry was disabled are gone (20 R625). -/
def schedEnEff (j : Nat) (v : BitVec 32) (s : State) : WRes :=
  let s := s.pwr.sched.foldl (fun s p => if p.id / 32 = j ∧ !schedOn s p.id then schedPass p (dueCount s p) s else s) s
  (wr .pwrSchedEn 0 j v s, 0)

/-- Wakes skipped, with a cause: 0 LATE, 1 OVERRUN, 2 FAULT (20 R627, R632). -/
def schedSkip (e cause n : Nat) (s : State) : State :=
  let s := bump .pwrCount 0 1 n s
  let s := setF .pwrSchedCount 0 e 16 16 (satU 16 (getF s .pwrSchedCount 0 e 16 16 + n)) s
  raise 0x1103 0x240 [.u16 e, .u16 cause, .u32 n] s

/-- Steps 3 and 4 of R626: once the clocks of its units run, a run configures and starts them. -/
def runBegin (e : Nat) (s : State) : State :=
  match s.pwr.runs.find? fun r => r.entry == e, s.plan.running with
  | some r, some p =>
    let mine := r.units.filter fun u => ustate s u == .gated
    if r.started || r.draining || !(mine.all fun u => clocked s u) then s
    else
      let s := mine.foldl (fun s u => unitConfigure p u (toReady u s)) s
      let s := startUnits mine s
      settle { s with pwr := { s.pwr with runs := s.pwr.runs.map fun x => if x.entry = e then { x with started := true } else x } }
  | _, _ => s

/-- A wake of an enabled entry, due at a time in seconds, runs unless the entry's last run goes on (20 R626, R627). -/
def wakeNow (p : PlanSched) (due : Nat) (s : State) : State :=
  let late := nowTotal s - due * 2 ^ 64
  if s.pwr.runs.any fun r => r.entry == p.id then schedSkip p.id 1 1 s
  else
    let stuck := p.units.any fun u => ustate s u == .fault || ustate s u == .frozen
    let s := raise 0x1101 0x240 [.u16 p.id, .u32 (late * 1000000 / 2 ^ 64), .u16 (b2n s.pwr.fromSleep)] s
    let s := bump .pwrCount 0 0 1 s
    let s := setF .pwrSchedCount 0 p.id 0 16 (satU 16 (getF s .pwrSchedCount 0 p.id 0 16 + 1)) s
    let s := if stuck then schedSkip p.id 2 0 s else s
    let s := p.units.foldl (fun s u => if ustate s u = .off then changeState u .gated s else s) s
    let r : SurveyRun := { entry := p.id, stop := nowTotal s + p.duration * 2 ^ 64 / 1000, units := p.units, started := false,
                           draining := false }
    runBegin p.id (synFollow { s with pwr := { s.pwr with runs := s.pwr.runs ++ [r] } })

/-- An entry with period 0 is disabled after its one wake (20 R625). -/
def schedOnce (p : PlanSched) (s : State) : State :=
  if p.period = 0 then setB .pwrSchedEn 0 (p.id / 32) (p.id % 32) false s else s

/-- The latest due wake of an entry runs; those before it are skipped as late (20 R627). -/
def wakeRun (p : PlanSched) (s : State) : State :=
  let n := dueCount s p
  if n = 0 then s
  else
    let due := dueTime p (schedServed s p.id + n - 1)
    let s := schedPass p n s
    if !schedOn s p.id then s
    else schedOnce p (wakeNow p due (if 1 < n then schedSkip p.id 0 (n - 1) s else s))

/-- A load is in steps 4 to 6 (02 R124). -/
def loadLate (s : State) : Bool := decide (4 ≤ getF s .globalPlanStatus 0 0 0 3 ∧ getF s .globalPlanStatus 0 0 0 3 ≤ 6)

/-- PWR_WAKE of a schedule entry: when device time in full or coarse mode has reached its due time, it wakes, or is
deferred by a load (20 R625 to R627, 02 R124). -/
def execPwrWake (e : Nat) (s : State) : Out :=
  match s.pwr.sched.find? fun p => p.id == e with
  | none => .next s
  | some p =>
    let n := dueCount s p
    if n = 0 ∨ !(s.time.mode = .full ∨ s.time.mode = .coarse) then .next s
    else if loadLate s ∧ schedOn s e then
      if s.plan.deferred.any fun d => d.1 == e then .next s
      else .next { s with plan := { s.plan with deferred := s.plan.deferred ++ [(e, dueTime p (schedServed s e + n - 1))] } }
    else .next (wakeRun p s)

/-- A run drains its units in ascending unit code, but for those another run holds (20 R626, R627). -/
def runDrain (r : SurveyRun) (s : State) : State :=
  let s := { s with pwr := { s.pwr with runs := s.pwr.runs.map fun x => if x.entry = r.entry then { x with draining := true } else x } }
  let mine := (List.range 1024).filter fun u => r.units.contains u && !otherRun s r.entry u
  let s := mine.foldl (fun s u => if ustate s u = .running then unitDrain u s else s) s
  surveySettle (mine.foldl (fun s u => if ustate s u = .gated then toOff u s else s) s)

/-- RUN_DURATION_END of a schedule entry (20 R626 step 5). -/
def execRunDurationEnd (e : Nat) (s : State) : Out :=
  match s.pwr.runs.find? fun r => r.entry == e with
  | none => .next s
  | some r => if r.draining ∨ nowTotal s < r.stop then .next s else .next (runDrain r s)

/-- The wakes that a load deferred are performed after its step 6, each by the entry of its ID in the schedule then in
force, though the swap has passed its due time; the audit log records their delays (02 R124, log entry 172). -/
def deferredWakes (s : State) : State :=
  let l := s.plan.deferred
  l.foldl (fun s d =>
    let us := (nowTotal s - d.2 * 2 ^ 64) * 1000000 / 2 ^ 64
    let s := audit 0x0A 0x59 d.1 0 us s
    match s.pwr.sched.find? fun p => p.id == d.1 with
    | some p => if dueCount s p ≠ 0 then wakeRun p s else if schedOn s p.id then schedOnce p (wakeNow p d.2 s) else s
    | none => s) { s with plan := { s.plan with deferred := [] } }

end Sys2Proof.Machine
end

