-- ==== Sys2Proof/Machine/PlanLoad.lean ====
section
/-! DEFINITION. The plan loader (02_sluice_plan.md R111 to R126): a load from its command to its end, the swap point, and
what a reject or an ABORT leaves; the boot loads (22_start_up.md R661, R662, R666, R668); the drain timeout (01 R40). -/

namespace Sys2Proof.Machine

/-- Replace the plan state. -/
def withPlan (f : PlanState → PlanState) (s : State) : State := { s with plan := f s.plan }

/-- PHASE of GLOBAL_PLAN_STATUS, with BUSY. -/
def setPhase (k : Nat) (s : State) : State :=
  setB .globalPlanStatus 0 0 3 (decide (k ≠ 0)) (setF .globalPlanStatus 0 0 0 3 k s)

/-- PHASE of GLOBAL_PLAN_STATUS. -/
def planPhase (s : State) : Nat := getF s .globalPlanStatus 0 0 0 3

/-- PHASE of GLOBAL_BOOT_STATUS (22 R658). -/
def setBootPhase (k : Nat) (s : State) : State := setF .globalBootStatus 0 0 0 3 k s

/-- PHASE of GLOBAL_BOOT_STATUS. -/
def bootPhase (s : State) : Nat := getF s .globalBootStatus 0 0 0 3

/-- GLOBAL_BOOT_TIME index k in µs, once (22 registers). -/
def bootTime (k us : Nat) (s : State) : State :=
  if rd s .globalBootTime 0 k = 0 then wr .globalBootTime 0 k (BitVec.ofNat 32 us) s else s

/-- The PLAN entry and its two PLAN_ID entries (17 R587, 02 R114). -/
def auditPlan (ag : AgentId) (code len : Nat) (planId : List Byte) (s : State) : State :=
  let w := fun k => leNat ((planId.drop (4 * k)).take 4)
  let s := audit 0x04 ag code len (planEpoch s).toNat s
  audit 0x05 ag 1 (w 2) (w 3) (audit 0x05 ag 0 (w 0) (w 1) s)

/-- A load begins its FETCH (02 R119 step 1). -/
def loadBegin (ag : AgentId) (source len : Nat) (boot : Bool) (s : State) : State :=
  setPhase 1 (withPlan (fun p => { p with
    load := some { origin := ag, source := source, length := len, img := none, bytes := [], changed := [], before := [],
                   boot := boot } }) s)

/-- The units that an ended load drained start again under the running plan; those still DRAINING when they have
drained (02 R121, R122). -/
def loadRestart (j : LoadJob) (s : State) : State :=
  let ran := (j.before.filter fun b => b.2 == .running).map fun b => b.1
  let late := ran.filter fun u => ustate s u == .draining
  settle (startUnits ran (withPlan (fun p => { p with rearm := p.rearm ++ late }) s))

/-- Both boot slots are rejected (22 R662). -/
def noPlan (s : State) : State := updFaultN (setB .globalFaultStatus 0 0 6 true s)

/-- What follows a rejected boot load: slot 1 after slot 0, else no plan (02 R112, 22 R661, R662). -/
def bootNext (j : LoadJob) (code : Nat) (s : State) : State :=
  if !j.boot then s
  else if j.source = 1 then loadBegin 0x58 2 0 true (setF .globalBootStatus 0 0 16 16 code s)
  else
    let s := { s with boot := { s.boot with warm := none } }
    if j.source = 2 then noPlan s else s

/-- A load ends rejected; the running plan stays in force (02 R114, R125). -/
def loadReject (j : LoadJob) (code : Nat) (goOn : Bool) (s : State) : State :=
  let s := setF .globalPlanStatus 0 0 16 16 code (setF .globalPlanStatus 0 0 4 2 2 (setPhase 0 s))
  let s := withPlan (fun p => { p with load := none }) s
  let id := match j.img with
    | some p => p.planId
    | none => sl j.bytes 32 16
  let len := if j.length ≠ 0 then j.length else j.bytes.length
  let s := auditPlan j.origin code len id (raise code 0x250 [] s)
  let s := deferredWakes (loadRestart j s)
  if goOn then bootNext j code s else s

/-- A LOAD command finds a load BUSY (02 R113). -/
def loadBusy (ag : AgentId) (s : State) : State :=
  auditPlan ag 0x12F0 (rd s .globalPlanLen 0 0).toNat [] (raise 0x12F0 0x250 [] s)

/-- The host image's length, which GLOBAL_PLAN_LEN gives. -/
def planLen (s : State) : Nat := getF s .globalPlanLen 0 0 0 26

/-- LOAD_HOST: the length is checked before any byte is fetched (02 R113). -/
def loadHost (ag : AgentId) (s : State) : State :=
  if planPhase s ≠ 0 then loadBusy ag s
  else
    let len := planLen s
    let s := loadBegin ag 0 len false s
    match s.plan.load with
    | some j => if len < 1024 ∨ 33554432 < len ∨ len % 8 ≠ 0 then loadReject j 0x1203 true s else s
    | none => s

/-- LOAD_FLASH of a slot (02 R112). -/
def loadFlash (ag : AgentId) (slot : Nat) (s : State) : State :=
  if planPhase s ≠ 0 then loadBusy ag s else loadBegin ag (slot + 1) 0 false s

/-- ABORT (02 R121): before the swap point the load ends with PLAN_ABORTED, else ALREADY_COMPLETE. -/
def loadAbort (goOn : Bool) (s : State) : State :=
  match s.plan.load with
  | some j =>
    if planPhase s < 5 then setF .globalPlanStatus 0 0 6 2 1 (loadReject j 0x12F2 goOn s)
    else setF .globalPlanStatus 0 0 6 2 2 s
  | none => setF .globalPlanStatus 0 0 6 2 2 s

/-- A write of GLOBAL_PLAN_CMD. -/
def planCmdEff (ag : AgentId) (v : BitVec 32) (s : State) : WRes :=
  match fld v 0 2 with
  | 1 => (loadHost ag s, 0)
  | 2 => (loadFlash ag (b2n (bit v 8)) s, 0)
  | 3 => (loadAbort true s, 0)
  | _ => (s, 0)

/-- A command written to GLOBAL_PLAN_CMD by an agent. -/
def planCmdW (ag : AgentId) (v : Nat) (s : State) : State :=
  guardW ag (Reg.off .globalPlanCmd 0 0) (BitVec.ofNat 32 v) (planCmdEff ag (BitVec.ofNat 32 v)) s

/-- LOAD_HOST (02 R113). -/
def execLoadHost (ag : AgentId) (s : State) : Out := .next (planCmdW ag 1 s)

/-- LOAD_FLASH of a slot (02 R112). -/
def execLoadFlash (ag : AgentId) (slot : Nat) (s : State) : Out := .next (planCmdW ag (2 + slot % 2 * 256) s)

/-- PLAN_ABORT (02 R121). -/
def execPlanAbort (ag : AgentId) (s : State) : Out := .next (planCmdW ag 3 s)

/-! FETCH, VERIFY, CHECK. -/

/-- The mapped address of the loader region (02 R92). -/
def loaderAddr (s : State) : Nat := pcBytes * (pcsNow s).length - 2 ^ 25

/-- The unit whose RETRIM runs must wait to drain (02 R124). -/
def retrimHolds (s : State) (u : Nat) : Bool :=
  match s.calJob with
  | some j => decide (j.block < 8) && u == 0x140 + j.block
  | none => false

/-- Changed units that are RUNNING begin to drain (02 R119 step 4). -/
def loadDrain (us : List Nat) (s : State) : State :=
  settle (us.foldl (fun s u =>
    if ustate s u = .running ∧ !alwaysOn u ∧ !retrimHolds s u then unitDrain u s else s) s)

/-- A verified and checked image: footprints are compared, the changed units drain (02 R115, R119). -/
def loadAccept (j : LoadJob) (b : List Byte) (p : PlanImg) (s : State) : State :=
  let ch := changedUnits s p (j.source == 3)
  let j := { j with img := some p, bytes := b, changed := ch, before := ch.map fun u => (u, ustate s u) }
  loadDrain ch (setPhase 4 (withPlan (fun x => { x with load := some j }) s))

/-- The image that a fetch delivers, or the reject code: a host fetch is exactly GLOBAL_PLAN_LEN bytes, a flash fetch
the header, which must obey R62, and then its total length, a warm restart the image kept (02 R112, R113; 22 R661,
R670). The source address is judged when the fetch ends (DESIGN CHOICE, log entry 171). -/
def loadFetched (s : State) (j : LoadJob) (bytes : List Byte) (good : Bool) : Except Nat (List Byte × Nat) :=
  if j.source = 3 then .ok (s.plan.image, s.plan.image.length)
  else if !good || (pcsNow s).isEmpty then .error 0x12F1
  else if j.source = 0 then
    if rd64 s .globalPlanSrc 0 % 8 ≠ 0 ∨ bytes.length ≠ j.length then .error 0x12F1 else .ok (bytes, j.length)
  else if bytes.length < 256 then .error 0x12F1
  else match headerShape s.fuse.variant 0 bytes with
    | some c => .error c
    | none =>
      let n := fieldAt bytes 8 4
      if bytes.length < n then .error 0x12F1 else .ok (bytes.take n, n)

/-- PLAN_FETCH_DONE: the bytes that the source delivered, and whether every read succeeded (02 R111 to R113, R119). -/
def execPlanFetchDone (bytes : List Byte) (good : Bool) (s : State) : Out :=
  match s.plan.load with
  | none => .next s
  | some j =>
    if planPhase s ≠ 1 then .next s
    else match loadFetched s j bytes good with
      | .error c => .next (loadReject { j with bytes := sl bytes 0 256 } c true s)
      | .ok (b, n) =>
        let s := hbmWrite (loaderAddr s) b s
        match checkImage s n b with
        | .error c => .next (loadReject { j with bytes := b } c true s)
        | .ok p => .next (loadAccept j b p s)

/-! The swap point (02 R116 to R119, R123; 15 R509). -/

/-- Bytes per second times 11/10 of a declared rate in MB/s (02 R80). -/
def rateGrowth (mbps : Nat) : Nat := mbps * 1100000

/-- The cap of a route's credit, what 110 % of its rate carries in 10 µs, in bytes times 2^64. -/
def creditCap (p : PlanRoute) : Int := ((p.rate * 11 * 2 ^ 64 : Nat) : Int)

/-- A route is created with its credit at its cap (02 R80), its consumers receiving from plan epoch e on (02 R118). -/
def newRoute (now : Nat) (e : BitVec 32) (p : PlanRoute) : Route :=
  { plan := p, credit := creditCap p, since := now, dropped := 0, slotDrops := List.replicate 8 0, held := [],
    joined := List.replicate 8 e }

/-- The consumers of a route: port and stream. -/
def routeSlots (p : PlanRoute) : List (Nat × Nat) := p.slots.take p.count

/-- Items already accepted on a route that closes are delivered (02 R118). -/
def closeRoute (r : Route) (s : State) : State :=
  withPlan (fun p => { p with
    delivered := p.delivered ++ r.held.flatMap fun it => (routeSlots r.plan).map fun c => (c.1, c.2, it) }) s

/-- A route goes on under an entry of the new plan: the same route ID, producer and loss mode (02 R118). -/
def sameRoute (r : Route) (p : PlanRoute) : Bool :=
  r.plan.id == p.id && r.plan.port == p.port && r.plan.stream == p.stream && r.plan.mode == p.mode

/-- A running route takes over its entry of the new plan: a consumer it already had goes on, one newly added receives from
plan epoch e on (02 R118). -/
def joinRoute (e : BitVec 32) (p : PlanRoute) (r : Route) : Route :=
  let old := fun c => (routeSlots r.plan).idxOf? c
  { r with
    plan := p
    slotDrops := p.slots.map fun c => match old c with | some i => r.slotDrops.getD i 0 | none => 0
    joined := p.slots.map fun c => match old c with | some i => r.joined.getD i e | none => e }

/-- The routes of the new plan, which begins with plan epoch e; items that a closing route holds are delivered. -/
def swapRoutes (e : BitVec 32) (new : List PlanRoute) (s : State) : State :=
  let now := upTotal s
  let gone := s.plan.routes.filter fun r => !new.any (sameRoute r)
  let s := gone.foldl (fun s r => closeRoute r s) s
  withPlan (fun x => { x with
    routes := new.map fun p =>
      match x.routes.find? fun r => sameRoute r p with
      | some r => joinRoute e p r
      | none => newRoute now e p }) s

/-- HOST_FN_VEC of the first plan: mappings of the physical function outside its new range are cleared (22 R666). -/
def firstVectors (s : State) : State :=
  let n := getF s .hostFnVec 0 0 12 12
  let s := (List.range 32).foldl (fun s k =>
    if getF s .hostIrqMap 0 k 11 4 = 0 ∧ n ≤ getF s .hostIrqMap 0 k 0 11 then wr .hostIrqMap 0 k 0 s else s) s
  { s with host := { s.host with msix := s.host.msix.filter fun e => decide (e.1 < n * 4 ∨ 8192 ≤ e.1) } }

/-- A unit's table lies in the granules that the SRAM section lists for it, in the listed order (01 R32); the first of them
hold it. -/
def tableGranules (p : PlanImg) (u : Nat) : List Nat := (granulesOf p u).take (minGranules p u)

/-- A unit whose table comes to lie in other granules loses it: those held no data of its own (01 R31, R32). -/
def swapGranules (p : PlanImg) (s : State) : State :=
  match s.plan.running with
  | none => s
  | some old =>
    ((presentUnits s).filter fun u =>
      (unitKind u == .chz || unitKind u == .spec || unitKind u == .trig) && tableGranules old u != tableGranules p u).foldl
      (fun s u => unitForget u s) s

/-- Everything the swap point changes in one cycle. -/
def swapPlan (j : LoadJob) (p : PlanImg) (s : State) : State :=
  let e := planEpoch s + 1
  let s := wr .globalPlanEpoch 0 0 e s
  let s := swapGranules p (swapRoutes e p.routes s)
  let s := withPlan (fun x => { x with
    running := some p, image := j.bytes, owners := p.owners, sram := p.sram, order := p.order, pcMask := p.pcMask,
    regions := p.regions, rearm := [] }) s
  let s := setF .globalPlanStatus 0 0 8 2 p.key s
  let dig := bytesWords ((List.range 48).map fun i => BitVec.ofNat 8 (p.digest / 2 ^ (8 * (47 - i))))
  let s := (List.range 12).foldl (fun s i => wr .globalPlanDigest 0 i (dig.getD i 0) s) s
  let s := { s with pwr := { s.pwr with runs := s.pwr.runs.map fun r => { r with units := r.units.filter fun u => !j.changed.contains u } } }
  hbmFollow (schedLoad p.sched (raise 0x1200 0x250 [.u32 e.toNat] s))

/-- The target state of a changed unit at the end of step 6; a SURVEY unit waits for its schedule (02 R72, R104). -/
def configTarget (p : PlanImg) (u : Nat) : Nat := if planPolicy p u = 2 then 0 else planTarget p u

/-- CONFIGURE begins: the units that the plan adds are powered (02 R119 step 6, R120). -/
def configBegin (j : LoadJob) (p : PlanImg) (s : State) : State :=
  let add := j.changed.filter fun u => !alwaysOn u && configTarget p u != 0 && ustate s u == .off
  settle (add.foldl (fun s u => changeState u .gated s) s)

/-- PLAN_SWAP: once every changed unit has drained; a PC fenced since CHECK ends the load (02 R119 step 5, R123). -/
def execPlanSwap (us : Nat) (s : State) : Out :=
  match s.plan.load with
  | none => .next s
  | some j =>
    match j.img with
    | none => .next s
    | some p =>
      if planPhase s ≠ 4 then .next s
      else if j.changed.any fun u => !alwaysOn u && (ustate s u).busy then .next (loadDrain j.changed s)
      else if Nat.land p.pcMask (pcsFenced s) ≠ 0 then .next (loadReject j 0x1271 true s)
      else
        let s := if j.boot then bootTime 2 us s else s
        .next (configBegin j p (setPhase 6 (swapPlan j p s)))

/-! CONFIGURE (02 R119 step 6, R120). -/

/-- Every changed unit that is to be READY has its clock, or is in FAULT. -/
def configClocked (s : State) (j : LoadJob) (p : PlanImg) : Bool :=
  j.changed.all fun u => alwaysOn u || configTarget p u == 0 || ustate s u == .fault || clocked s u

/-- A changed unit in FAULT is re-initialised as by RESTART; one that is removed and fails is powered down. -/
def configRecover (p : PlanImg) (bad : List Nat) (u : Nat) (s : State) : State :=
  if ustate s u = .fault ∧ !alwaysOn u then
    let fails := bad.contains u || !clocked s u
    if fails ∧ configTarget p u = 0 then toOff u s else unitRestart u (!fails) s
  else s

/-- A changed unit reaches the state from which it is configured: removed units OFF, the others READY. -/
def configPower (p : PlanImg) (u : Nat) (s : State) : State :=
  if configTarget p u = 0 then
    match ustate s u with
    | .ready => downFromReady u s
    | .gated => toOff u s
    | _ => s
  else
    match ustate s u with
    | .off => toReady u (changeState u .gated s)
    | .gated => toReady u s
    | _ => s

/-- A changed unit's reset values and policy; of a unit of R74 the PL fields alone. -/
def configReset (p : PlanImg) (u : Nat) (s : State) : State :=
  if alwaysOn u then resetPl (some u) s
  else
    let s := setUnit u { unit s u with policy := planPolicy p u } s
    if ustate s u = .ready then
      let s := unitReset u s
      if unitKind u = .dsp then dspImage p u s else s
    else s

/-- REGINIT entries go to changed units that are READY, to changed units of R74, to PCs and to registers of no unit. -/
def configInit (s : State) (j : LoadJob) (e : PlanInit) : Bool :=
  match unitAt e.off with
  | none => true
  | some u => unitKind u == .pc || (j.changed.contains u && (alwaysOn u || ustate s u == .ready))

/-- READY rises at the end of the first accepted load (22 R668). -/
def readyRise (us : Nat) (s : State) : State :=
  if getB s .globalBootStatus 0 0 3 then s else bootTime 3 us (setB .globalBootStatus 0 0 3 true s)

/-- PLAN_CONFIGURE_DONE: the units whose re-initialisation fails, and the µs since the sequence began (02 R119 step 6). -/
def execPlanConfigureDone (us : Nat) (bad : List Nat) (s : State) : Out :=
  match s.plan.load with
  | none => .next s
  | some j =>
    match j.img with
    | none => .next s
    | some p =>
      if planPhase s ≠ 6 ∨ !configClocked s j p then .next s
      else
        let s := j.changed.foldl (fun s u => configRecover p bad u s) s
        let s := (j.changed.filter fun u => !alwaysOn u).foldl (fun s u => configPower p u s) s
        let s := resetPl none (j.changed.foldl (fun s u => configReset p u s) s)
        let s := applyInits (p.inits.filter (configInit s j)) s
        let mine := j.changed.filter fun u => !alwaysOn u && ustate s u == .ready
        let s := (mine.filter fun u => configTarget p u == 1).foldl (fun s u => toGated u s) s
        let s := startUnits (mine.filter fun u => configTarget p u == 3) s
        let s := if planEpoch s = 1 then firstVectors s else s
        let s := withPlan (fun x => { x with load := none }) (setF .globalPlanStatus 0 0 4 2 1 (setPhase 0 s))
        let s := auditPlan j.origin 0 p.length p.planId s
        let s := if j.source = 3 then s else setF .globalBootStatus 0 0 4 2 (if j.source = 0 then 3 else j.source) s
        let s := if j.boot ∧ j.source = 1 then setF .globalBootStatus 0 0 16 16 0 s else s
        let s := setB .globalFaultStatus 0 0 6 false s
        let s := readyRise us { s with boot := { s.boot with warm := none } }
        let s := if bootPhase s = 3 then setBootPhase 4 s else s
        .next (deferredWakes (settle s))

/-! The drain timeout (01 R40, 02 R122). -/

/-- DRAIN_TIMEOUT: 1 ms in DRAINING. -/
def execDrainTimeout (u : Nat) (s : State) : Out :=
  if ustate s u = .draining then
    let s := unitFault u 6 0 s
    let s := withPlan (fun p => { p with rearm := p.rearm.filter (· != u) }) s
    let s := match s.plan.load with
      | some j => if planPhase s = 4 ∧ j.changed.contains u then loadReject j 0x12E0 true s else s
      | none => s
    .next (surveySettle s)
  else .next s

end Sys2Proof.Machine
end

