-- ==== Sys2Proof/Machine/Power.lean ====
section
/-! DEFINITION. AON sleep, its wakes, and thermal protection (20_power_domains.md R628 to R631). -/

namespace Sys2Proof.Machine

/-! What a loss of power leaves. -/

/-- The registers and fields of the AON domain: PWR_SLEEP_CFG, LAST_SHUTDOWN and WAKE_CAUSE. -/
def aonRegs (s : State) : List (Nat × BitVec 32) :=
  (wr .pwrStatus 0 0 (rd s .pwrStatus 0 0 &&& 0x38#32) (wr .pwrSleepCfg 0 0 (rd s .pwrSleepCfg 0 0) State.reset)).regs

/-- Only the AON domain is left: every other domain is as after RESET_N, HBM has lost its contents, the pins and the
fuses are what they were. The record of committed events is the model's own and stays. -/
def aonOnly (s : State) : State :=
  { State.reset with
    pending := s.pending, free := s.free, fuse := s.fuse, regs := aonRegs s, events := s.events,
    time := { TimeState.reset with ocxo := s.time.ocxo, ocxoReady := s.time.ocxoReady },
    hbm := { HbmState.reset with gen0 := s.hbm.gen0 + 1, gen1 := s.hbm.gen1 + 1 },
    pwr := { PwrState.reset with aonSched := s.pwr.aonSched, aonServed := s.pwr.aonServed, aonEn := s.pwr.aonEn },
    boot := { s.boot with fused := false, warm := none, linkTraining := false } }

/-- Device time in the AON domain: it goes on in coarse mode, or from the RC oscillator without OCXO_CLK, at the rate in
force; servo and synthesisers are as after RESET_N (03 R134, R135). -/
def aonTime (t : TimeState) : TimeState :=
  { TimeState.reset with
    sec := t.sec, acc := t.acc, started := t.started, rate := t.rate, rateCorr := t.rateCorr, coarseOdd := t.coarseOdd,
    ocxo := t.ocxo, ocxoReady := t.ocxoReady, estHold := t.estHold, up := t.up,
    mode := if !t.started then .stopped else if t.ocxo then .coarse else .rc }

/-! SLEEP. -/

/-- A due time of an entry that lies in the future. -/
def futureDue (s : State) (p : PlanSched) : Option Nat :=
  let k := schedServed s p.id
  if p.period = 0 then (if k = 0 ∧ s.time.sec.toNat < p.first then some p.first else none)
  else
    let d := dueTime p (k + dueCount s p)
    if d < 2 ^ 48 then some d else none

/-- Some unit that the engine could stop is RUNNING or DRAINING, or one is in FAULT or FROZEN. RUNNING pseudo-channels
do not count: their plan keeps them so (DEDUCED, log entry 40). -/
def unitsAwake (s : State) : Bool :=
  (presentUnits s).any fun u =>
    !alwaysOn u && match ustate s u with
      | .running => unitKind u != .pc
      | .draining | .fault | .frozen => true
      | _ => false

/-- The first condition of R628 that fails. -/
def sleepCond (s : State) : Option Nat :=
  if unitsAwake s then some 0
  else if planPhase s ≠ 0 then some 1
  else if s.calJob.isSome then some 2
  else if !(s.pwr.sched.any fun p => schedOn s p.id && (futureDue s p).isSome) then some 3
  else none

/-- An accepted SLEEP (20 R628): the schedule is copied into the AON domain, READY falls, the link goes down, MAIN and
every switched domain lose power. -/
def sleepNow (s : State) : State :=
  let s := bump .pwrCount 0 4 1 s
  let s := if s.time.mode = .full then raise 0x0113 0x010 [.u16 1] s else s
  let cnt := (rd s .pwrCount 0 4)
  let n := aonOnly s
  updFaultN { n with
    time := aonTime s.time,
    pwr := { n.pwr with asleep := true, aonSched := s.pwr.sched, aonServed := s.pwr.served,
                        aonEn := [rd s .pwrSchedEn 0 0, rd s .pwrSchedEn 0 1] },
    regs := (wr .pwrCount 0 4 cnt n).regs }

/-- A write of PWR_CMD (20 R628). -/
def pwrCmdEff (ag : AgentId) (v : BitVec 32) (s : State) : WRes :=
  if !bit v 0 then (s, 0)
  else match sleepCond s with
    | some c => (ignored ag (Reg.off .pwrCmd 0 0) 1 (sleepRefused c (setB .pwrStatus 0 0 2 true s)), 99)
    | none => (sleepNow s, 99)

/-- SLEEP (20 R628). -/
def execSleep (ag : AgentId) (s : State) : Out := .next (guardW ag (Reg.off .pwrCmd 0 0) 1 (pwrCmdEff ag 1) s)

/-- Every flume from 2 upward is CLOSED. -/
def flumesClosed (s : State) : Bool := (activeFlumes s).all fun f => decide (f < 2) || fstate s f == 0

/-- AUTO_SLEEP_ATTEMPT: after a run that followed a wake from sleep, once the flumes are CLOSED and the conditions hold, or
HOLD seconds after the run ended (20 R630). -/
def execAutoSleepAttempt (s : State) : Out :=
  match s.pwr.runEnd with
  | none => .next s
  | some e =>
    if !getB s .pwrSleepCfg 0 0 0 ∨ !s.pwr.fromSleep ∨ s.pwr.asleep then .next s
    else
      let held := decide (e + max 1 (getF s .pwrSleepCfg 0 0 16 16) * 2 ^ 64 ≤ upTotal s)
      match sleepCond s with
      | some c => if held then .next (sleepRefused c s) else .next s
      | none => if flumesClosed s || held then .next (sleepNow s) else .next s

/-! Wakes from sleep. -/

/-- The next due time of an entry of the AON copy; none while its enable bit is clear. -/
def aonDue (s : State) (p : PlanSched) : Option Nat :=
  let k := spGet s.pwr.aonServed p.id 0
  if !bit (s.pwr.aonEn.getD (p.id / 32) 0) (p.id % 32) then none
  else if p.period = 0 ∧ k ≠ 0 then none
  else some (dueTime p k)

/-- Device time has come within LEAD seconds of the earliest due time (20 R629). -/
def wakeDue (s : State) : Bool :=
  s.pwr.aonSched.any fun p =>
    match aonDue s p with
    | some d => decide (d ≤ s.time.sec.toNat + max 1 (getF s .pwrSleepCfg 0 0 8 8))
    | none => false

/-- A start-up begins, for a cause of START_CAUSE, on a state in which only the AON domain has been kept. -/
def bootStart (cause : Nat) (s : State) : State :=
  { setF .globalBootStatus 0 0 10 2 cause s with events := [] }

/-- AON_WAKE: a wake from sleep is a start-up that keeps the AON state and device time (20 R629, 22 R658). -/
def execAonWake (s : State) : Out :=
  if s.pwr.asleep ∧ wakeDue s then
    let n := aonOnly s
    let t := aonTime s.time
    let n := { n with
      time := { t with rate := BitVec.ofNat 64 nominalRate, rateCorr := 0, warmStart := upTotal s },
      pwr := { n.pwr with fromSleep := true } }
    .next (updFaultN (bootStart 2 (setF .pwrStatus 0 0 4 2 1 n)))
  else .next s

/-! Thermal protection (20 R631). -/

/-- The stacks present. -/
def stacksOf (s : State) : List Nat := List.range (unitNum s.fuse.variant .pc / 32)

/-- The readings: die sensors 0 to 7, then 8 + k for stack k (15 R529). -/
def thermals (dies : List Int) (s : State) : List Int :=
  padTo 8 0 dies ++ (stacksOf s).map fun k => sgn 8 (getF s .hbmStackStatus k 0 4 8)

/-- A SHUTDOWN: everything but the AON domain loses power at once, and the AON domain records it. -/
def thermalOff (sensor : Nat) (t : Int) (s : State) : State :=
  let s := raise 0x1105 0x240 [.u16 sensor, .s32 t] s
  let n := aonOnly (setB .pwrStatus 0 0 3 true s)
  updFaultN { n with time := aonTime s.time, pwr := { n.pwr with shutdown := true } }

/-- THERMAL_SAMPLE: the eight die sensors in °C; the stack temperatures are those that HBM_TEMP_READ took. -/
def execThermalSample (dies : List Int) (s : State) : Out :=
  if !mainUp s then .next s
  else
    let t := thermals dies s
    let s := { s with pwr := { s.pwr with temps := t } }
    let s := setF .pwrStatus 0 0 8 8 (unsgn 8 (satS 8 (t.foldl max (t.getD 0 0)))) s
    let hot := getF s .pwrStatus 0 0 0 2 == 1
    match t.findIdx? fun x => decide (115 < x) with
    | some i => .next (thermalOff i (t.getD i 0) s)
    | none =>
      let us := s.pwr.throttleUs + (if hot then 100 else 0)
      let s := { s with pwr := { s.pwr with throttleUs := us % 1000 } }
      let s := if 1000 ≤ us then bump .pwrCount 0 7 1 s else s
      match t.findIdx? fun x => decide (105 < x) with
      | some i =>
        if hot then .next s
        else .next (updFaultN (raise 0x1104 0x240 [.u16 1, .u16 i, .s32 (t.getD i 0)]
          (bump .pwrCount 0 6 1 (setF .pwrStatus 0 0 0 2 1 s))))
      | none =>
        if hot && t.all (fun x => decide (x ≤ 100)) then
          let i := Config.coolSensor s.free % t.length
          let s := { s with free := s.free + 1 }
          .next (updFaultN (raise 0x1104 0x240 [.u16 0, .u16 i, .s32 (t.getD i 0)] (setF .pwrStatus 0 0 0 2 0 s)))
        else .next s

end Sys2Proof.Machine
end

