-- ==== Sys2Proof/Machine/Synth.lean ====
section
/-! DEFINITION. Synthesisers and OCXO_CLK: locks, losses, relocks and what follows from them (03_device_time.md R133 to
R135, R153, R156, R157; 20 R623, R626; 22 R658, R663). -/

namespace Sys2Proof.Machine

/-- The units that synthesiser n clocks, present ones (03 R156). -/
def synUnits (s : State) (n : Nat) : List Nat := (presentUnits s).filter fun u => unitSyn u == some n

/-- The pulse density on pin LOCK_n, in sixteenths: 0 powered off, 8 not locked, 15 locked (03 R154). -/
def lockDensity (s : State) (n : Nat) : Nat :=
  match (synOf s n).lock with
  | 0 => 0
  | 1 => 8
  | _ => 15

/-- SYSREF_FIRE: a write with FIRE set (03 R160). -/
def execSysrefFire (ag : AgentId) (n : Nat) (v : BitVec 32) (s : State) : Out :=
  .next (guardW ag (Reg.off .synSysrefCfg n 0) (v ||| 4) (sysrefWriteEff ag n (v ||| 4)) s)

/-- What waited for a lock of synthesiser n goes on: STARTs of GATED units and survey runs (03 R156, 20 R623, R626). -/
def synGo (n : Nat) (s : State) : State :=
  let mine := s.pwr.waiting.filter fun u => unitSyn u == some n
  let s := { s with pwr := { s.pwr with waiting := s.pwr.waiting.filter fun u => unitSyn u != some n } }
  let s := mine.foldl (fun s u => if ustate s u = .gated then unitBegin u (toReady u s) else s) s
  settle (s.pwr.runs.foldl (fun s r => runBegin r.entry s) s)

/-- SYN_0 has locked: device time counts at full resolution, from 0 at its first lock since RESET_N (03 R133, R134). -/
def timeUp (s : State) : State :=
  if s.time.started then raise 0x0113 0x010 [.u16 0] (withTime (fun t => { t with mode := .full }) s)
  else withTime (fun t => { t with mode := .full, started := true, sec := 0, acc := 0 }) s

/-- Phase 1 ends: every present PC is powered, and with it SYN_2 (22 R658). -/
def phaseClockEnd (us : Nat) (s : State) : State :=
  if bootPhase s = 1 ∨ bootPhase s = 5 then
    let s := bootTime 0 us (setBootPhase 2 s)
    synFollow ((pcsNow s).foldl (fun s p => if ustate s (pcUnit p) = .off then changeState (pcUnit p) .gated s else s) s)
  else s

/-- The clock of synthesiser n is there. -/
def synUp (n : Nat) (s : State) : State :=
  let s := withSyn n (fun y => { y with lock := 2, everLocked := true }) s
  match n with
  | 0 => timeUp s
  | 2 => stackRise 1 (stackRise 0 s)
  | 3 => dispSynUp s
  | _ => s

/-- SYN_LOCK_ACQUIRED: the first lock since synthesiser n was powered, us µs after the start-up began (03 R133, R157; 22
R658). -/
def execSynLockAcquired (n us : Nat) (s : State) : Out :=
  let y := synOf s n
  if y.lock = 1 ∧ !y.everLocked ∧ s.time.ocxo then
    let s := synUp n s
    .next (synGo n (if n = 0 then phaseClockEnd us s else s))
  else .next s

/-- SYN_RELOCKED: 0x0111, but for a lock that a frequency change of HBM or a change of pixel clock planned (03 R157, 10
R376, 15 R526). -/
def execSynRelocked (n : Nat) (s : State) : Out :=
  let y := synOf s n
  if y.lock = 1 ∧ y.everLocked ∧ s.time.ocxo ∧ !(n = 2 ∧ s.hbm.change.isSome) then
    let quiet := n == 3 && s.disp.planned
    let s := synUp n s
    .next (synGo n (if quiet then s else raise 0x0111 0x010 [.u16 n] s))
  else .next s

/-- The units of synthesiser n that are READY, RUNNING or DRAINING enter FAULT with cause SYNTH. -/
def synFault (n : Nat) (s : State) : State := (synUnits s n).foldl (fun s u => unitFault u 5 0 s) s

/-- Synthesiser n loses lock (03 R156). -/
def synLost (n : Nat) (s : State) : State :=
  if (synOf s n).lock = 2 then
    let s := withSyn n (fun y => { y with lock := 1, lossCount := satU 8 (y.lossCount + 1) }) s
    let s := raise 0x0110 0x010 [.u16 n] s
    match n with
    | 0 =>
      let s := setRate (heldCorr s) s
      synFault 0 (if s.time.ocxo then raise 0x0113 0x010 [.u16 1] (withTime (fun t => { t with mode := .coarse }) s)
                  else withTime (fun t => { t with mode := .rc }) s)
    | 1 => synFault 1 s
    | 2 => freezeSynth s
    | 3 => dispSynLost s
    | 4 => calSyn4Lost (synFault 4 s)
    | _ => (List.range 4).foldl (fun s k => sysrefTick k s) s
  else s

/-- SYN_LOCK_LOST (03 R156). -/
def execSynLockLost (n : Nat) (s : State) : Out := .next (surveySettle (synLost n s))

/-- OCXO_LOST: no edge of OCXO_CLK for 1 µs (03 R135); before SYN_0 first locks nothing faults (22 R663). -/
def execOcxoLost (s : State) : Out :=
  if !s.time.ocxo then .next s
  else
    let first := (synOf s 0).everLocked
    let left := mainUp s && s.time.mode == .coarse
    let s := withTime (fun t => { t with ocxo := false }) s
    let s := if left then raise 0x0113 0x010 [.u16 0] s else s
    let s := if mainUp s then (List.range 6).foldl (fun s n => synLost n s) s else s
    let s := withTime (fun t => { t with mode := if t.started then .rc else t.mode, estHold := t.estHold || t.started }) s
    if mainUp s ∧ first then .next (surveySettle (enterFault 0x010 10 0 s)) else .next s

/-- OCXO_RETURNED: device time passes from RC to coarse mode without a step, and a stalled phase 1 resumes (03 R135, 22
R663). -/
def execOcxoReturned (s : State) : Out :=
  let back := mainUp s && s.time.mode == .rc
  let s := withTime (fun t => { t with ocxo := true, mode := if t.mode = .rc then .coarse else t.mode,
                                       estHold := t.estHold || t.mode == .rc }) s
  let s := if back then raise 0x0113 0x010 [.u16 1] s else s
  .next (if bootPhase s = 5 then updFaultN (setBootPhase 1 s) else s)

end Sys2Proof.Machine
end

