-- ==== Sys2Proof/Machine/Boot.lean ====
section
/-! DEFINITION. Resets, the boot sequence and warm restarts (22_start_up.md R653 to R672; 16 R545; 17 R575; 20 R629). -/

namespace Sys2Proof.Machine

/-! RESET_N and AON_RESET_N (22 R654 to R657). -/

/-- RESET_N_ASSERT: every domain but AON is cleared (22 R655, R656). -/
def execResetNAssert (s : State) : Out :=
  if !s.boot.resetN then .next s
  else
    let cause := if s.boot.aonResetN then 0 else 1
    let n := aonOnly s
    .next (updFaultN (bootStart cause { n with boot := { n.boot with resetN := false } }))

/-- RESET_N_RELEASE: the straps are sampled and the start-up begins in phase 0 (00 R20; 17 R585; 20 R629; 22 R657, R658). -/
def execResetNRelease (engineId smbStrap : Nat) (s : State) : Out :=
  if s.boot.resetN then .next s
  else
    let s := setF .pwrStatus 0 0 4 2 0 s
    .next (updFaultN { s with
      boot := { s.boot with resetN := true, engineId := engineId % 64, smbStrap := smbStrap % 8 } })

/-- AON_RESET_N_ASSERT: everything is cleared and held (22 R655). -/
def execAonResetNAssert (s : State) : Out :=
  if !s.boot.aonResetN then .next s
  else
    let n := aonOnly s
    .next (updFaultN (bootStart 1
      { n with regs := [], pwr := PwrState.reset, boot := { n.boot with aonResetN := false } }))

/-- AON_RESET_N_RELEASE: the AON domain runs; with RESET_N high the start-up begins (22 R654). -/
def execAonResetNRelease (s : State) : Out :=
  .next (updFaultN { s with boot := { s.boot with aonResetN := true } })

/-! PCIe (16 R545; 22 R655, R665, R667). -/

/-- A function-level reset of one function, and the receiver reset of its agent (16 R545, 17 R575). -/
def flrOne (fn : Nat) (s : State) : State := receiverReset (BitVec.ofNat 8 (fn + 1)) (resetFunction fn s)

/-- FUNCTION_LEVEL_RESET; of the physical function also of every virtual function (16 R545). -/
def execFunctionLevelReset (fn : Nat) (s : State) : Out :=
  if !mainUp s then .next s
  else if fn = 0 then .next ((List.range 16).foldl (fun s f => flrOne f s) s)
  else .next (flrOne fn s)

/-- A virtual function is disabled (17 R575). -/
def vfDisable (fn : Nat) (s : State) : State :=
  if s.host.vfEnabled.contains fn then
    receiverReset (BitVec.ofNat 8 (fn + 1)) { s with host := { s.host with
      vfEnabled := s.host.vfEnabled.filter (· != fn), busMaster := s.host.busMaster.filter (· != fn) } }
  else s

/-- VIRTUAL_FUNCTION_DISABLE (17 R575). -/
def execVirtualFunctionDisable (fn : Nat) (s : State) : Out := .next (vfDisable fn s)

/-- What PERST_N and a hot reset reset: controller, configuration spaces, flumes, windows, MSI-X tables (22 R655). -/
def pcieReset (s : State) : State :=
  let s := (activeFlumes s).foldl (fun s f => flumeReset f s) s
  let s := s.host.vfEnabled.foldl (fun s f => vfDisable f s) s
  let s := (List.range 16).foldl (fun s f => wr .hostWin 0 f 0 s) s
  let s := { s with host := { s.host with busMaster := [], msix := [], msixPending := [] } }
  calWatch (wr .hostLink 0 0 0 s)

/-- PERST_N_ASSERT (22 R655, R667). -/
def execPerstNAssert (s : State) : Out :=
  if !s.boot.perstN then .next s
  else
    let s := { s with boot := { s.boot with perstN := false, linkTraining := false } }
    .next (if mainUp s then pcieReset s else s)

/-- PERST_N_RELEASE: link training begins once phase 0 has ended too (22 R665). -/
def execPerstNRelease (s : State) : Out :=
  .next { s with boot := { s.boot with perstN := true, linkTraining := mainUp s } }

/-- PCIE_HOT_RESET (22 R655). -/
def execPcieHotReset (s : State) : Out := if mainUp s then .next (pcieReset s) else .next s

/-- TRST_N_ASSERT (22 R655). -/
def execTrstNAssert (s : State) : Out := .next { s with boot := { s.boot with tapReset := true } }

/-! The boot sequence (22 R658 to R664). -/

/-- FUSE_PHASE_DONE: fuses and trim records are loaded; the clock phase, the controllers and link training begin (18 R594;
22 R658, R660, R665). -/
def execFusePhaseDone (s : State) : Out :=
  if s.boot.fused ∨ !s.boot.resetN ∨ !s.boot.aonResetN ∨ s.pwr.asleep ∨ s.pwr.shutdown then .next s
  else
    let s := calBoot (hbFuse s)
    let s := { s with boot := { s.boot with fused := true, linkTraining := s.boot.perstN } }
    let s := setMc 1 1 0 (setMc 0 1 0 (setBootPhase 1 s))
    .next (settle s)

/-- BOOT_STALLED: 10 ms in phase 1 (22 R663). -/
def execBootStalled (s : State) : Out :=
  if bootPhase s = 1 ∧ (synOf s 0).lock ≠ 2 then .next (updFaultN (setBootPhase 5 s)) else .next s

/-- Every present stack is trained, so phase 2 ends and the boot load begins with slot 0 (22 R658; 02 R112). -/
def phaseMemoryEnd (us : Nat) (s : State) : State :=
  if bootPhase s = 2 ∧ (stacksOf s).all (fun k => sstate s k == 3) then
    let s := bootTime 1 us (setBootPhase 3 s)
    if planPhase s = 0 then loadBegin 0x58 1 0 true s else s
  else s

/-- HBM_TRAINED of stack k: the lanes repaired and the PCs fenced, us µs after the start-up began (15 R519 to R521). -/
def execHbmTrained (k : Nat) (repairs : List (Nat × Nat × Nat)) (fences : List Nat) (us : Nat) (s : State) : Out :=
  .next (phaseMemoryEnd us (hbmTrained k repairs fences s))

/-! Warm restarts (22 R669 to R672). -/

/-- Step 1: a running load and a running RETRIM end. A load past its swap point has been accepted. -/
def warmAborts (s : State) : State :=
  let s := setB .globalBootStatus 0 0 3 false s
  let s := match s.plan.load with
    | none => s
    | some j =>
      if planPhase s < 5 then loadAbort false s
      else
        let s := setF .globalPlanStatus 0 0 6 2 2 (setF .globalPlanStatus 0 0 4 2 1 (setPhase 0 s))
        let s := withPlan (fun x => { x with load := none }) s
        match j.img with
        | some p => auditPlan j.origin 0 p.length p.planId s
        | none => s
  if s.calJob.isSome then calAbort s else s

/-- Step 2: every unit not in R74 goes to OFF; its partial output is discarded. -/
def warmOff (s : State) : State :=
  let s := withPlan (fun x => { x with rearm := [], deferred := [] }) s
  let s := { s with pwr := { s.pwr with runs := [], waiting := [] } }
  (presentUnits s).foldl (fun s u =>
    if alwaysOn u ∨ ustate s u = .off then s
    else
      let s := if (ustate s u).busy then unitDiscard u s else s
      toOff u s) s

/-- Step 3: flumes, culverts, headgates. -/
def warmMgt (s : State) : State :=
  let s := (activeFlumes s).foldl (fun s f => flumeReset f s) s
  let rs := ((List.range 64).map fun c => receiverOf s c).eraseDups.filter (· != 0)
  let s := rs.foldl (fun s r => receiverReset r s) s
  (List.range 32).foldl (fun s h => gateFree h 1 0 s) s

/-- Step 5 for a stack: thawed, in self-refresh; its PCs are trained afresh, and fenced again where they fail. -/
def warmStack (k : Nat) (s : State) : State :=
  let frozen := sstate s k == 5
  let s := if frozen ∧ getF s .hbmStackStatus k 0 14 4 = 4 then loseStack k s else s
  let s := wr .hbmFence 0 k 0 s
  let s := (stackPcs k).foldl (fun s p => setF .hbmPcStatus p 0 0 3 0 s) s
  let s := withHbm (fun h =>
    let rest := h.thawing.filter fun x => x != k
    { h with thawing := if frozen then k :: rest else rest }) (setF .hbmStackStatus k 0 14 4 0 s)
  if sstate s k = 0 ∨ sstate s k = 4 then s else setSstate k 1 s

/-- Step 5: both stacks train on leaving self-refresh. -/
def warmHbm (s : State) : State :=
  let s := warmStack 1 (warmStack 0 s)
  let s := (pcsNow s).foldl (fun s p => if ustate s (pcUnit p) = .off then changeState (pcUnit p) .gated s else s) s
  stackRise 1 (stackRise 0 (synFollow s))

/-- Step 6: with SOURCE 0 the running image, with SOURCE 1 the boot slots (22 R670, R672). -/
def warmLoad (src : Nat) (s : State) : State :=
  if bootPhase s < 3 ∨ bootPhase s = 5 then s
  else
    let s := setBootPhase 3 s
    if src = 1 then loadBegin 0x58 1 0 true { s with boot := { s.boot with warm := some 1 } }
    else if planEpoch s = 0 then noPlan s
    else loadBegin 0x58 3 0 true { s with boot := { s.boot with warm := some 0 } }

/-- A warm restart up to the fetch of its load (22 R670). -/
def warmRestart (src : Nat) (s : State) : State :=
  let s := setF .globalBootStatus 0 0 10 2 3 (warmOff (warmAborts s))
  let s := mcRestart 1 (mcRestart 0 (warmMgt s))
  settle (warmLoad src (warmHbm s))

/-- A write of GLOBAL_RESET_CMD (22 R669, R672). -/
def resetCmdEff (ag : AgentId) (v : BitVec 32) (s : State) : WRes :=
  let off := Reg.off .globalResetCmd 0 0
  if !(ag == 0x01 || ag == 0x20) then (s, 1)
  else if fld v 0 16 ≠ 0x5752 then (ignored ag off (fld v 16 2) s, 99)
  else if !bit v 16 then (s, 0)
  else if s.boot.warm.isSome then (ignored ag off (fld v 16 2) s, 99)
  else (warmRestart (b2n (bit v 17)) s, 0)

/-- WARM_RESTART: a write of a value to GLOBAL_RESET_CMD (22 R669). -/
def execWarmRestart (ag : AgentId) (v : BitVec 32) (s : State) : Out :=
  .next (guardW ag (Reg.off .globalResetCmd 0 0) v (resetCmdEff ag v) s)

end Sys2Proof.Machine
end

