-- ==== Sys2Proof/Machine/Fabric.lean ====
section
/-! DEFINITION. The sluice fabric: metering, loss modes, ECC of beats (01_architecture.md R21 to R29; 02 R77, R80; 04 R200;
21 R633, R637). -/

namespace Sys2Proof.Machine

/-- The route of the stream on which an item is offered. -/
def routeOf (s : State) (it : Item) : Option Route :=
  s.plan.routes.find? fun r => r.plan.port == unitPort it.src && r.plan.stream == it.stream

/-- A route's credit now: it grows at 110 % of the declared rate up to its cap (02 R80). -/
def creditNow (s : State) (r : Route) : Int :=
  let grown := r.credit + ((rateGrowth r.plan.rate * (upTotal s - r.since) : Nat) : Int)
  if creditCap r.plan < grown then creditCap r.plan else grown

/-- Replace a route, by its ID. -/
def setRoute (r : Route) (s : State) : State :=
  withPlan (fun p => { p with routes := p.routes.map fun x => if x.plan.id = r.plan.id then r else x }) s

/-- A unit meets a lasting fabric failure: 16 within 1 s put it in FAULT, but for the units of R74 (21 R637). -/
def fabricFailure (u : Nat) (s : State) : State :=
  if alwaysOn u then s
  else
    let now := upTotal s
    let l := now :: (spGet s.fabricFails u []).filter fun t => decide (now < t + 2 ^ 64)
    let s := { s with fabricFails := spPut s.fabricFails u l [] }
    if 16 ≤ l.length then unitFault u 9 0 s else s

/-- A beat fails twice: the item is discarded at every consumer; the events of the units that fault come before that of the
lasting fault, as 01 R51 orders one cycle's (21 R633, R637). -/
def fabricLost (r : Route) (it : Item) (s : State) : State :=
  let us := it.src :: (routeSlots r.plan).filterMap fun c => portUnit c.1
  let s := ((List.range 1024).filter us.contains).foldl (fun s u => fabricFailure u s) (bump .globalFaultCount 0 7 1 s)
  surveySettle (faultLasting 2 it.src 0 r.plan.id it.origin [] s)

/-- A route is metered out: the item is dropped whole and counted against the route; an ingress link counts it as well
(02 R80, 04 R200). -/
def meterDrop (r : Route) (it : Item) (s : State) : State :=
  let s := setRoute { r with dropped := r.dropped + 1 } s
  if unitKind it.src = .ing then raiseRated 0x0208 it.src [] 1 (bump .ingCount (unitIdx it.src) 0 1 s) else s

/-- Consumer slot i takes an item: it was produced under a plan in which that consumer was on the route (02 R118; plan
epochs compare as 01 R46 states). -/
def takesFrom (r : Route) (it : Item) (i : Nat) : Bool := decide ((it.planEpoch - r.joined.getD i 0).toNat < 2 ^ 31)

/-- The item passes to the consumers that have room for it whole; the others lose it alone (01 R26). -/
def fabricDeliver (r : Route) (it : Item) (room : List Bool) (s : State) : State :=
  let c := (routeSlots r.plan).zipIdx
  let s := setRoute { r with slotDrops := r.slotDrops.mapIdx fun i n =>
    if i < r.plan.count ∧ takesFrom r it i ∧ !(room.getD i true) then n + 1 else n } s
  withPlan (fun p => { p with
    delivered := p.delivered ++ (c.filter fun x => takesFrom r it x.2 && room.getD x.2 true).map fun x => (x.1.1, x.1.2, it) }) s

/-- The item begins: its bytes are taken from the credit, then its beats cross the fabric; ecc 0 good, 1 a retry
succeeded, 2 a second failure (01 R28; 02 R80; 21 R633). -/
def fabricPass (r : Route) (it : Item) (room : List Bool) (ecc : Nat) (s : State) : State :=
  let r := { r with credit := creditNow s r - ((4 * it.payload.length * 2 ^ 64 : Nat) : Int), since := upTotal s }
  let s := setRoute r s
  if ecc = 0 then fabricDeliver r it room s
  else if ecc = 1 then fabricDeliver r it room (faultTransient s)
  else fabricLost r it s

/-- BLOCK mode with a consumer that has no room: the producer and the other consumers stall (01 R26). -/
def fabricStalled (r : Route) (room : List Bool) : Bool :=
  r.plan.mode == 1 && (List.range r.plan.count).any fun i => !(room.getD i true)

/-- A DSP core's input that still takes a long item holds the route, whatever its loss mode (01 R26, 12 R440). -/
def longHeld (s : State) (r : Route) : Bool :=
  (routeSlots r.plan).any fun c =>
    decide (42 ≤ c.1 ∧ c.1 < 66) && dspEntering s (c.1 - 42) c.2

/-- FABRIC_ITEM: the k-th item that the units offer, which of its route's consumers have room for it, and the outcome of
its beats' ECC. Items of one stream of a port go in order; what no route carries is discarded; while SYN_0 is unlocked
transfers pause (01 R25, R26; 02 R80; 03 R156). -/
def execFabricItem (k : Nat) (room : List Bool) (ecc : Nat) (s : State) : Out :=
  match s.plan.offered[k]? with
  | none => .next s
  | some it =>
    let takeIt := withPlan (fun p => { p with offered := p.offered.eraseIdx k })
    if (s.plan.offered.take k).any fun x => unitPort x.src == unitPort it.src && x.stream == it.stream then .next s
    else if (synOf s 0).lock ≠ 2 then .next s
    else match routeOf s it with
      | none => .next (takeIt s)
      | some r =>
        if 0 ≤ creditNow s r ∧ r.held.isEmpty then
          if fabricStalled r room || longHeld s r then .next s else .next (fabricPass r it room ecc (takeIt s))
        else if r.plan.mode = 1 then .next (setRoute { r with held := r.held ++ [it] } (takeIt s))
        else .next (meterDrop r it (takeIt s))

/-- ROUTE_CREDIT_RECOVERED: the oldest item that a route holds passes once the credit is 0 or more (02 R80). -/
def execRouteCreditRecovered (id : Nat) (room : List Bool) (ecc : Nat) (s : State) : Out :=
  match s.plan.routes.find? fun r => r.plan.id == id with
  | none => .next s
  | some r =>
    match r.held with
    | [] => .next s
    | it :: rest =>
      if creditNow s r < 0 ∨ fabricStalled r room ∨ longHeld s r ∨ (synOf s 0).lock ≠ 2 then .next s
      else .next (fabricPass { r with held := rest } it room ecc s)

end Sys2Proof.Machine
end

