-- ==== Sys2Proof/Machine/RegRead.lean ====
section
/-! DEFINITION. What a read returns and does at each BAR0 offset (00_scope.md R4, R12; 20 R619 to R621; 24_register_map.md
R691 to R696; the registers of the chapters). -/

namespace Sys2Proof.Machine

/-! Capabilities (24 GLOBAL_ID, CAP_UNITS, CAP_MEMORY, CAP_LINKS). -/

/-- The number whose bits below n are 1. -/
def ones (n : Nat) : Nat := 2 ^ n - 1

/-- The present PCs that are fenced (24 R695). -/
def fencedCount (s : State) : Nat := ((List.range (unitNum s.fuse.variant .pc)).filter fun p => fencedPc s p).length

/-- CAP_UNITS. -/
def capUnits (s : State) (j : Nat) : Nat :=
  let v := s.fuse.variant
  if j = 0 then ones (unitNum v .ing) + unitNum v .disp * 16 + ones (unitNum v .tdc) * 256 + unitNum v .aux * 65536
  else ones (unitNum v .dsp) + ones (unitNum v .cmp) * 2 ^ 24

/-- CAP_MEMORY. -/
def capMemory (s : State) (j : Nat) : Nat :=
  let n := unitNum s.fuse.variant .pc
  let f := fencedCount s
  if j = 0 then ones (n / 32) + n * 4 + f * 2 ^ 9 + (n - f) * 768 * 2 ^ 16 else 192

/-- CAP_LINKS. -/
def capLinks (s : State) (j : Nat) : Nat :=
  let n := unitNum s.fuse.variant .ing
  if j = 0 then ones (8 * n) else ones n + 16 * 16

/-! Power and clock domains (20 R619 to R621). -/

/-- Unit i of a kind is not OFF. -/
def onUnit (s : State) (k : UKind) (i : Nat) : Bool := ustate s (unitBase k + i) != .off

/-- Unit i of a kind is READY, RUNNING, DRAINING, FAULT or FROZEN. -/
def clkUnit (s : State) (k : UKind) (i : Nat) : Bool :=
  ustate s (unitBase k + i) != .off && ustate s (unitBase k + i) != .gated

/-- Some unit of a kind is clocked. -/
def clkAny (s : State) (k : UKind) : Bool := (List.range (unitNum s.fuse.variant k)).any fun i => clkUnit s k i

/-- A link for which a property holds maps physical lane p. -/
def laneBy (s : State) (f : Nat → Bool) (p : Nat) : Bool :=
  (List.range (unitNum s.fuse.variant .ing)).any fun n => f n && (List.range (lkLanes s n)).any fun k => lkLane s n k == p

/-- Power domain d is powered (20 R619, R620). -/
def domainOn (s : State) (d : Nat) : Bool :=
  if d < 32 then laneBy s (onUnit s .ing) d
  else if d < 36 then onUnit s .ing (d - 32)
  else if d < 40 then (List.range 4).any fun k => onUnit s .tun (4 * (d - 36) + k)
  else if d < 44 then onUnit s .chz (d - 40)
  else if d < 60 then onUnit s .fft (d - 44) || onUnit s .spec ((d - 44) / 4)
  else if d < 64 then onUnit s .trig (d - 60)
  else if d < 68 then onUnit s .acq (d - 64)
  else if d < 72 then onUnit s .dens (d - 68)
  else if d < 74 then onUnit s .disp 0
  else if d < 82 then onUnit s .tdc (d - 74)
  else if d < 106 then onUnit s .dsp (d - 82)
  else if d < 114 then onUnit s .cmp (d - 106)
  else if d < 130 then (pcsNow s).any fun p => p / 4 == d - 114 && onUnit s .pc p
  else if d < 134 then !getB s .hostLink 0 0 0 || decide (4 * (d - 130) < getF s .hostLink 0 0 4 5)
  else if d = 134 then true
  else if d < 137 then getF s .mgtMcStatus 0 (d - 135) 0 3 != 0
  else if d = 137 then onUnit s .aux 0
  else if d < 144 then (synOf s (d - 138)).lock != 0
  else false

/-- Synthesiser n is locked. -/
def lockedSyn (s : State) (n : Nat) : Bool := (synOf s n).lock == 2

/-- Some PC of stack k is clocked. -/
def clkStack (s : State) (k : Nat) : Bool := lockedSyn s 2 && (List.range 32).any fun i => clkUnit s .pc (32 * k + i)

/-- Clock domain c runs (20 R621). The units of R74 are served by the stream, fabric, PCIe, management, interface and
reference clocks (DEDUCED, log entry 44). -/
def clockOn (s : State) (c : Nat) : Bool :=
  if c < 32 then laneBy s (clkUnit s .ing) c
  else if c < 36 then clkUnit s .ing (c - 32)
  else if c = 37 then lockedSyn s 1 && clkAny s .dsp
  else if c < 39 then lockedSyn s 0
  else if c < 41 then clkStack s (c - 39)
  else if c < 43 then clkStack s (c - 41)
  else if c = 45 ∨ c = 46 then lockedSyn s 3 && clkUnit s .disp 0
  else if c = 47 then false
  else if c = 51 then lockedSyn s 4 && clkAny s .tdc
  else if c = 52 then clkUnit s .aux 0
  else if c = 56 then lockedSyn s 5
  else if 59 ≤ c ∧ c < 63 then
    lockedSyn s 5 && (getF s .synSysrefCfg (c - 59) 0 0 2 == 1 || getF s .synSysrefCfg (c - 59) 0 0 2 == 2)
  else true

/-- 32 bits from a predicate on the bit numbers from 32j up. -/
def bitsWord (f : Nat → Bool) (j : Nat) : Nat := ((List.range 32).map fun i => if f (32 * j + i) then 2 ^ i else 0).sum

/-! Unit headers (24 R692). -/

/-- The switched domain that holds a unit's logic; 255 for the units of R74 (24 UNIT_CAP). -/
def unitDomain (u : Nat) : Nat :=
  let i := unitIdx u
  match unitKind u with
  | .ing => 32 + i | .tun => 36 + i / 4 | .chz => 40 + i | .fft => 44 + i | .spec => 44 + 4 * i | .trig => 60 + i
  | .acq => 64 + i | .dens => 68 + i | .disp => 72 | .tdc => 74 + i | .dsp => 82 + i | .cmp => 106 + i
  | .pc => 114 + i / 4 | .aux => 137 | _ => 255

/-- A word of the header of unit u as it reads. -/
def hdrView (s : State) (u at_ : Nat) : Nat :=
  let h := unit s u
  match at_ with
  | 0x00 => u + s.boot.engineId * 2 ^ 10 + (blockAt (hdrOff u)).getD 0 * 2 ^ 16
  | 0x04 => h.state.code + b2n h.cmdErr * 8 + h.abortResult * 16
  | 0x08 => (spGet s.latch (hdrOff u + 8) 0).toNat
  | 0x10 => h.evtMask.toNat
  | 0x14 => h.cause + h.faultCount * 2 ^ 8 + h.detail * 2 ^ 16
  | 0x18 => (if alwaysOn u then 3 else h.policy) + unitPort u * 4 + unitDomain u * 2 ^ 9
  | _ => 0

/-- Keep a word that a read of instance 0 latched. -/
def latchWord (off : Nat) (v : BitVec 32) (s : State) : State := { s with latch := spPut s.latch off v 0 }

/-- A read in a unit header: instance 0 of UNIT_STATE latches the epoch, UNIT_FAULT clears COUNT. -/
def hdrRead (u at_ : Nat) (s : State) : Word × State :=
  let v := BitVec.ofNat 32 (hdrView s u at_)
  match at_ with
  | 0x04 => (v, latchWord (hdrOff u + 8) (epochOf s u) s)
  | 0x14 => (v, setUnit u { unit s u with faultCount := 0 } s)
  | _ => (v, s)

/-! Registers. -/

/-- Registers of several words whose instance 0 latches the others (24 R692). -/
def latches (r : Reg) : Bool :=
  match r with
  | .timeNow | .timeRate | .specSeq | .trigWeirLast | .tdcInEdges | .tdcInLast | .cmpStreamOffset
  | .mgtHeadgateContest | .calLastTime | .globalFaultLast => true
  | _ => false

/-- TIME_STATUS: the stored fields, and the levels now (03 registers). -/
def timeStatusView (s : State) : Nat :=
  let gone := (upTotal s - s.time.warmStart) / 2 ^ 64
  let left := if s.time.warmExpired then 0 else getF s .timeCfg 0 0 20 12 - gone
  (rd s .timeStatus 0 0).toNat % 32 + b2n (s.time.mode == .coarse) * 32 + b2n s.time.ocxoReady * 64
    + (qualNow s).toNat * 2 ^ 8 + left * 2 ^ 16

/-- The audit entry at an index of the log's window (17 R588). -/
def auditAt (s : State) (k : Nat) : Option AuditEntry := s.mgt.log.find? fun e => e.seq.toNat % auditSize == k

/-- The head message of channel c: its header and body words (17 registers). -/
def cvHead (s : State) (c : Nat) : List Word × List Word :=
  match (chan s c).queue with
  | m :: _ => (m.header, m.body)
  | [] => ([], [])

/-- What register word j of instance i shows an agent, before the access codes WO and RSV. -/
def regView (ag : AgentId) (s : State) (r : Reg) (i j : Nat) : Word :=
  match r with
  | .timeNow => (stampWords (eventTime s)).getD j 0
  | .timeStatus => BitVec.ofNat 32 (timeStatusView s)
  | .timeRate => if s.time.started then BitVec.ofNat 32 (s.time.rate.toNat / 2 ^ (32 * j)) else 0
  | .synCfg =>
    let y := synOf s i
    if i = 3 ∧ s.fuse.variant ≠ 0 then 0 else BitVec.ofNat 32 (y.prediv + y.mult * 16 + y.postdiv * 2 ^ 12)
  | .synStatus =>
    let y := synOf s i
    BitVec.ofNat 32 (y.lock + y.lossCount * 2 ^ 8 + b2n (y.current != y.target) * 2 ^ 16)
  | .trigWeirStatus =>
    setFld (rd s .trigWeirStatus i 0) 0 1 (b2n (weirHeld s i))
  | .trigOutState =>
    BitVec.ofNat 32 (bitsWord (fun n => decide (n < 8) && (vget s.tree.pins n OutPin.reset).active) 0)
  | .dspCoreStatus => coreStatus s i
  | .dspClStatus =>
    if j = 0 then BitVec.ofNat 32 (bitsWord (fun n => decide (n < 24) && ustate s (0x160 + n) == .running) 0)
    else rd s .dspClStatus 0 j
  | .mgtDbClear => rd s .mgtDbRing 0 j
  | .mgtCvRxhdr => (cvHead s i).1.getD j 0
  | .mgtCvRx => (cvHead s i).2.getD j 0
  | .mgtSmbStatus => setFld (rd s .mgtSmbStatus 0 0) 0 7 (0x58 + s.boot.smbStrap)
  | .auditEntry =>
    match auditAt s (j / 8) with
    | some e => (auditWords e).getD (j % 8) 0
    | none => 0
  | .calRec => if calPresent s i then (calRecOf s i).getD j 0 else 0
  | .calFuseRec => if calPresent s i then (calFuse s i).1.getD j 0 else 0
  | .pwrDomain => BitVec.ofNat 32 (bitsWord (domainOn s) j)
  | .pwrClock => BitVec.ofNat 32 (bitsWord (clockOn s) j)
  | .pwrSchedNext =>
    let d := ((s.pwr.sched.find? fun p => p.id == i).bind fun p => futureDue s p).getD 0
    BitVec.ofNat 32 (if j = 0 then d else d / 2 ^ 32)
  | .hbmPcStatus => setFld (rd s .hbmPcStatus i 0) 0 1 (b2n ((pcsNow s).contains i))
  | .globalFaultStatus => faultStatus s
  | .globalId => BitVec.ofNat 32 (s.fuse.variant + s.boot.engineId * 2 ^ 8 + s.fuse.stepping * 2 ^ 16)
  | .capUnits => BitVec.ofNat 32 (capUnits s j)
  | .capMemory => BitVec.ofNat 32 (capMemory s j)
  | .capLinks => BitVec.ofNat 32 (capLinks s j)
  | _ => heldView ag s r i j

/-- What it reads as: WO fields read 0 (00 R12). -/
def regShown (ag : AgentId) (s : State) (r : Reg) (i j : Nat) : Word :=
  regView ag s r i j &&& ~~~(BitVec.ofNat 32 r.info.wo)

/-- A read of instance 0 latches the further words. -/
def latchAll (ag : AgentId) (r : Reg) (i : Nat) (s : State) : State :=
  (List.range (r.info.n2 - 1)).foldl (fun s k => latchWord (r.off i (k + 1)) (regShown ag s r i (k + 1)) s) s

/-- A read of register word j of instance i by an agent: RC fields clear, DATA ports advance ADDR, the operation registers
act (00 R12, 17 R569). -/
def regFetch (ag : AgentId) (r : Reg) (i j : Nat) (s : State) : Word × State :=
  let v := regShown ag s r i j
  match r with
  | .cmpJobResult => if j = 0 then jobResultRead i s else (v, s)
  | .mgtCvTxstat => txstat ag s
  | .mgtHeadgate => if opAgent ag then gateRead j [ag] s else (v, s)
  | .tunChzCoefData => (v, coefStep i s)
  | .specWinData => (v, winStep i s)
  | .trigMaskData => (v, maskStep i s)
  | .acqMtData => (v, mtStep i s)
  | .synStatus => (v, withSyn i (fun y => { y with lossCount := 0 }) s)
  | _ =>
    if latches r then (if j = 0 then (v, latchAll ag r i s) else (spGet s.latch (r.off i j) 0, s))
    else if r.info.rc = 0 then (v, s)
    else (v, wr r i j (rd s r i j &&& ~~~(BitVec.ofNat 32 r.info.rc)) s)

/-- Word i of the pending-bit array of a function (16 R539). -/
def pbaWord (s : State) (fn i : Nat) : Nat :=
  bitsWord (fun k => s.host.msixPending.contains (fn * 2048 + k)) i

/-- The host function whose tables an agent sees. -/
def agentFn (ag : AgentId) : Nat := if 1 ≤ ag.toNat ∧ ag.toNat ≤ 0x10 then ag.toNat - 1 else 0

/-- A read of a place that no register table lists. -/
def otherRead (ag : AgentId) (off : Nat) (s : State) : Word :=
  if inDspMem off then
    match dspWindow (off % 0x100000) with
    | some (space, a) => dspRead s ((off - 0x2000000) / 0x100000) space a
    | none => 0
  else if msixAt off then msixWord s (agentFn ag) ((off - 0x1C80000) / 4)
  else if 0x1C88000 ≤ off ∧ off < 0x1C88100 then BitVec.ofNat 32 (pbaWord s (agentFn ag) ((off - 0x1C88000) / 4))
  else 0

/-- A read by an agent at a BAR0 offset. Absent units, units that are OFF and places outside every block read 0 (00 R4,
01 R37, 24 R691). -/
def readReg (ag : AgentId) (off : Nat) (s : State) : Word × State :=
  if !mainUp s ∨ (blockAt off).isNone ∨ absentAt s off then (0, s)
  else
    let body := match regAt off with
      | some (r, i, j) => regFetch ag r i j s
      | none => (otherRead ag off s, s)
    match unitAt off with
    | none => body
    | some u =>
      if inHeader off then hdrRead u (off - hdrOff u) s
      else if ustate s u = .off then (0, s)
      else body

/-- A read whose value the reader receives. -/
def readOut (ag : AgentId) (off : Nat) (s : State) : State :=
  let x := readReg ag off s
  { x.2 with rdata := [x.1] }

/-- RC_REGISTER_READ (00 R12). -/
def execRcRegisterRead (ag : AgentId) (off : Nat) (s : State) : Out := .next (readOut ag (off / 4 * 4) s)

/-- LATCHED_REGISTER_READ (24 R692). -/
def execLatchedRegisterRead (ag : AgentId) (off : Nat) (s : State) : Out := .next (readOut ag (off / 4 * 4) s)

end Sys2Proof.Machine
end

