-- ==== Sys2Proof/Machine/Control.lean ====
section
/-! DEFINITION. Accesses to registers and to HBM from outside: by the host, by a DSP core over its BUS, by the SMBus target,
through a window (00_scope.md R5, R12 to R15; 12 R450; 16 R543; 17 R585). -/

namespace Sys2Proof.Machine

/-- What a write does at a BAR0 offset, the plan loader's, the power unit's and the reset commands among them. -/
def busEff (ag : AgentId) (off : Nat) (v : BitVec 32) (ecc : Nat) (good : Bool) (s : State) : WRes :=
  match regAt off with
  | some (.globalPlanCmd, _, _) => planCmdEff ag v s
  | some (.pwrCmd, _, _) => pwrCmdEff ag v s
  | some (.pwrSchedEn, _, j) => schedEnEff j v s
  | some (.globalResetCmd, _, _) => resetCmdEff ag v s
  | _ => writeEff ag off v ecc good s

/-- A write by an agent at a BAR0 offset, and whether it was refused. -/
def busWrite (ag : AgentId) (off : Nat) (v : BitVec 32) (ecc : Nat) (good : Bool) (s : State) : State × Bool :=
  guardRes ag off v (busEff ag off v ecc good) s

/-- REGISTER_WRITE (00 R12 to R15). -/
def execRegisterWrite (ag : AgentId) (off : Nat) (v : BitVec 32) (ecc : Nat) (good : Bool) (s : State) : Out :=
  .next (busWrite ag (off / 4 * 4) v ecc good s).1

/-! The BUS of a core (12 R450). -/

/-- The agent of core c (00 R16). -/
def coreAgent (c : Nat) : AgentId := BitVec.ofNat 8 (0x30 + c)

/-- BUS_READ: the access that core c asked for is performed. -/
def execBusRead (c : Nat) (s : State) : Out :=
  match (dspOf s c).bus with
  | .asked false a _ =>
    let x := readReg (coreAgent c) (a.toNat / 4 * 4) s
    .next (withDsp c (fun y => { y with bus := .answered false false x.1 }) x.2)
  | _ => .next s

/-- BUS_WRITE: the access that core c asked for is performed, under ownership. -/
def execBusWrite (c ecc : Nat) (good : Bool) (s : State) : Out :=
  match (dspOf s c).bus with
  | .asked true a d =>
    let x := busWrite (coreAgent c) (a.toNat / 4 * 4) d ecc good s
    .next (withDsp c (fun y => { y with bus := .answered true x.2 0 }) x.1)
  | _ => .next s

/-! The SMBus target (17 R585). -/

/-- ADDR moves on; the status byte tells whether the access was refused. -/
def smbStep (refused : Bool) (s : State) : State :=
  { s with mgt := { s.mgt with smbAddr := (s.mgt.smbAddr + 4) % 2 ^ 32, smbRefused := refused } }

/-- SMB_READ. -/
def execSmbRead (s : State) : Out :=
  if mainUp s then .next (smbStep false (readOut 0x50 s.mgt.smbAddr s)) else .next s

/-- SMB_WRITE, and whether the PEC is right. -/
def execSmbWrite (v : BitVec 32) (pec : Bool) (ecc : Nat) (good : Bool) (s : State) : Out :=
  if !mainUp s then .next s
  else if !pec then .next (smbPecErr s)
  else
    let x := busWrite 0x50 s.mgt.smbAddr v ecc good s
    .next (smbStep x.2 x.1)

/-! Windows into HBM (16 R543). -/

/-- The mapped address of n bytes at byte b of the window of a function; none outside its region. -/
def windowAddr (s : State) (fn b n : Nat) : Option Nat :=
  let w := rd s .hostWin 0 fn
  let at_ := fld w 16 15 * 2 ^ 21 + b
  if !bit w 31 then none
  else (regionById s (fld w 0 16)).bind fun r => if at_ + n ≤ r.size then some (r.base + at_) else none

/-- A discarded or aborted access. -/
def windowFail (fn : Nat) (s : State) : State := raiseRated 0x0D07 0x200 [.u16 fn] 1 (bump .hostCount 0 2 1 s)

/-- WINDOW_ACCESS: a write of data, or a read of n bytes, at byte b of a function's BAR2, with the ECC outcomes it meets. A
read returns a status (0 OK, 1 Completer Abort, 3 poisoned) and its words. -/
def execWindowAccess (fn : Nat) (write : Bool) (b n : Nat) (data : List Byte) (errs : List HbmErr) (s : State) : Out :=
  let len := if write then data.length else n
  if !mainUp s then .next s
  else match windowAddr s fn b len with
    | none =>
      let s := windowFail fn s
      .next (if write then s else { s with rdata := [1] })
    | some a =>
      if rangeWaits s a len then .next s
      else if write then .next (hbmWriteE 28 0x200 a data errs s).1
      else
        let x := hbmReadE 28 0x200 a len errs s
        if x.1 = 1 then .next (windowFail fn { x.2.2 with rdata := [1] })
        else .next { x.2.2 with rdata := BitVec.ofNat 32 x.1 :: bytesWords x.2.1 }

end Sys2Proof.Machine
end

