-- ==== Sys2Proof/Machine/DspExec.lean ====
section
/-! DEFINITION. The DSP instructions, one meaning for each (13_dsp_instructions.md R464 to R478): core c issues the
instruction where the word at its PC encodes it; ecc is the outcome of its memory reads. -/

namespace Sys2Proof.Machine

/-- NOP (13 R464). -/
def execDspNop (c ecc : Nat) (s : State) : Out := .next (dspIssue c .nop 0 ecc s)

/-- HALT (13 R464, 12 R452). -/
def execDspHalt (c ecc : Nat) (s : State) : Out := .next (dspIssue c .halt 0 ecc s)

/-- RET (13 R464). -/
def execDspRet (c ecc : Nat) (s : State) : Out := .next (dspIssue c .ret 0 ecc s)

/-- RETI (13 R464). -/
def execDspReti (c ecc : Nat) (s : State) : Out := .next (dspIssue c .reti 0 ecc s)

/-- LEAVE (13 R464, R467). -/
def execDspLeave (c ecc : Nat) (s : State) : Out := .next (dspIssue c .leave 0 ecc s)

/-- WAIT (13 R468). -/
def execDspWait (c ecc : Nat) (s : State) : Out := .next (dspIssue c .wait 0 ecc s)

/-- TFLG (13 R464, R465). -/
def execDspTflg (c f o ecc : Nat) (s : State) : Out := .next (dspIssue c (.tflg f o) 0 ecc s)

/-- BRI (13 R464, R466). -/
def execDspBri (c cc p ecc : Nat) (s : State) : Out := .next (dspIssue c (.bri cc p) 0 ecc s)

/-- BR (13 R466). -/
def execDspBr (c cc t ecc : Nat) (s : State) : Out := .next (dspIssue c (.br cc t) 0 ecc s)

/-- CALL (13 R466). -/
def execDspCall (c cc t ecc : Nat) (s : State) : Out := .next (dspIssue c (.call cc t) 0 ecc s)

/-- LOOP (13 R467, 12 R434). -/
def execDspLoop (c : Nat) (reg : Bool) (k len ecc : Nat) (s : State) : Out :=
  .next (dspIssue c (.loop reg k len) 0 ecc s)

/-- REP (13 R467, 12 R435). -/
def execDspRep (c : Nat) (reg : Bool) (k ecc : Nat) (s : State) : Out := .next (dspIssue c (.rept reg k) 0 ecc s)

/-- LDI (13 R469). -/
def execDspLdi (c file : Nat) (h : Bool) (r imm ecc : Nat) (s : State) : Out :=
  .next (dspIssue c (.ldi file h r imm) 0 ecc s)

/-- ADD (13 R470). -/
def execDspAdd (c d a b ecc : Nat) (s : State) : Out := .next (dspIssue c (.alu .add d a b 0 0) 0 ecc s)

/-- SUB (13 R470). -/
def execDspSub (c d a b ecc : Nat) (s : State) : Out := .next (dspIssue c (.alu .sub d a b 0 0) 0 ecc s)

/-- ADDS (13 R470). -/
def execDspAdds (c d a b ecc : Nat) (s : State) : Out := .next (dspIssue c (.alu .adds d a b 0 0) 0 ecc s)

/-- SUBS (13 R470). -/
def execDspSubs (c d a b ecc : Nat) (s : State) : Out := .next (dspIssue c (.alu .subs d a b 0 0) 0 ecc s)

/-- AND (13 R470). -/
def execDspAnd (c d a b ecc : Nat) (s : State) : Out := .next (dspIssue c (.alu .and d a b 0 0) 0 ecc s)

/-- OR (13 R470). -/
def execDspOr (c d a b ecc : Nat) (s : State) : Out := .next (dspIssue c (.alu .or d a b 0 0) 0 ecc s)

/-- XOR (13 R470). -/
def execDspXor (c d a b ecc : Nat) (s : State) : Out := .next (dspIssue c (.alu .xor d a b 0 0) 0 ecc s)

/-- NOT (13 R470). -/
def execDspNot (c d a ecc : Nat) (s : State) : Out := .next (dspIssue c (.alu .not d a 0 0 0) 0 ecc s)

/-- NEG (13 R470). -/
def execDspNeg (c d a ecc : Nat) (s : State) : Out := .next (dspIssue c (.alu .neg d a 0 0 0) 0 ecc s)

/-- ABS (13 R470). -/
def execDspAbs (c d a ecc : Nat) (s : State) : Out := .next (dspIssue c (.alu .abs d a 0 0 0) 0 ecc s)

/-- CMP (13 R470). -/
def execDspCmp (c a b ecc : Nat) (s : State) : Out := .next (dspIssue c (.alu .cmp 0 a b 0 0) 0 ecc s)

/-- ASL (13 R470). -/
def execDspAsl (c d a sh ecc : Nat) (s : State) : Out := .next (dspIssue c (.alu .asl d a 0 sh 0) 0 ecc s)

/-- ASR (13 R470). -/
def execDspAsr (c d a sh ecc : Nat) (s : State) : Out := .next (dspIssue c (.alu .asr d a 0 sh 0) 0 ecc s)

/-- LSR (13 R470). -/
def execDspLsr (c d a sh ecc : Nat) (s : State) : Out := .next (dspIssue c (.alu .lsr d a 0 sh 0) 0 ecc s)

/-- MIN (13 R470). -/
def execDspMin (c d a b ecc : Nat) (s : State) : Out := .next (dspIssue c (.alu .min d a b 0 0) 0 ecc s)

/-- MAX (13 R470). -/
def execDspMax (c d a b ecc : Nat) (s : State) : Out := .next (dspIssue c (.alu .max d a b 0 0) 0 ecc s)

/-- ADD2 (13 R470). -/
def execDspAdd2 (c d a b ecc : Nat) (s : State) : Out := .next (dspIssue c (.alu .add2 d a b 0 0) 0 ecc s)

/-- SUB2 (13 R470). -/
def execDspSub2 (c d a b ecc : Nat) (s : State) : Out := .next (dspIssue c (.alu .sub2 d a b 0 0) 0 ecc s)

/-- ADD2H (13 R470). -/
def execDspAdd2h (c d a b ecc : Nat) (s : State) : Out := .next (dspIssue c (.alu .add2h d a b 0 0) 0 ecc s)

/-- SUB2H (13 R470). -/
def execDspSub2h (c d a b ecc : Nat) (s : State) : Out := .next (dspIssue c (.alu .sub2h d a b 0 0) 0 ecc s)

/-- ADDI (13 R470). -/
def execDspAddi (c d a imm ecc : Nat) (s : State) : Out := .next (dspIssue c (.alu .addi d a 0 imm 0) 0 ecc s)

/-- CMPI (13 R470). -/
def execDspCmpi (c a imm ecc : Nat) (s : State) : Out := .next (dspIssue c (.alu .cmpi 0 a 0 imm 0) 0 ecc s)

/-- BFLY (13 R470). -/
def execDspBfly (c d e a b ecc : Nat) (s : State) : Out := .next (dspIssue c (.alu .bfly d a b 0 e) 0 ecc s)

/-- BFLYH (13 R470). -/
def execDspBflyh (c d e a b ecc : Nat) (s : State) : Out := .next (dspIssue c (.alu .bflyh d a b 0 e) 0 ecc s)

/-- CLR (13 R471). -/
def execDspClr (c k j a b sh ecc : Nat) (s : State) : Out := .next (dspIssue c (.acc .clr k j a b sh) 0 ecc s)

/-- ADDA (13 R471). -/
def execDspAdda (c k j a b sh ecc : Nat) (s : State) : Out := .next (dspIssue c (.acc .adda k j a b sh) 0 ecc s)

/-- SUBA (13 R471). -/
def execDspSuba (c k j a b sh ecc : Nat) (s : State) : Out := .next (dspIssue c (.acc .suba k j a b sh) 0 ecc s)

/-- TFRA (13 R471). -/
def execDspTfra (c k j a b sh ecc : Nat) (s : State) : Out := .next (dspIssue c (.acc .tfra k j a b sh) 0 ecc s)

/-- NEGA (13 R471). -/
def execDspNega (c k j a b sh ecc : Nat) (s : State) : Out := .next (dspIssue c (.acc .nega k j a b sh) 0 ecc s)

/-- ABSA (13 R471). -/
def execDspAbsa (c k j a b sh ecc : Nat) (s : State) : Out := .next (dspIssue c (.acc .absa k j a b sh) 0 ecc s)

/-- ASLA (13 R471). -/
def execDspAsla (c k j a b sh ecc : Nat) (s : State) : Out := .next (dspIssue c (.acc .asla k j a b sh) 0 ecc s)

/-- ASRA (13 R471). -/
def execDspAsra (c k j a b sh ecc : Nat) (s : State) : Out := .next (dspIssue c (.acc .asra k j a b sh) 0 ecc s)

/-- ADDD (13 R471). -/
def execDspAddd (c k j a b sh ecc : Nat) (s : State) : Out := .next (dspIssue c (.acc .addd k j a b sh) 0 ecc s)

/-- SUBD (13 R471). -/
def execDspSubd (c k j a b sh ecc : Nat) (s : State) : Out := .next (dspIssue c (.acc .subd k j a b sh) 0 ecc s)

/-- SATA (13 R471). -/
def execDspSata (c k j a b sh ecc : Nat) (s : State) : Out := .next (dspIssue c (.acc .sata k j a b sh) 0 ecc s)

/-- CMPA (13 R471). -/
def execDspCmpa (c k j a b sh ecc : Nat) (s : State) : Out := .next (dspIssue c (.acc .cmpa k j a b sh) 0 ecc s)

/-- MPYI (13 R471). -/
def execDspMpyi (c k j a b sh ecc : Nat) (s : State) : Out := .next (dspIssue c (.acc .mpyi k j a b sh) 0 ecc s)

/-- MACI (13 R471). -/
def execDspMaci (c k j a b sh ecc : Nat) (s : State) : Out := .next (dspIssue c (.acc .maci k j a b sh) 0 ecc s)

/-- MAC (13 R472). -/
def execDspMac (c k a b : Nat) (mx my : Option PMove) (ecc : Nat) (s : State) : Out :=
  .next (dspIssue c (.frac .mac k a b mx my) 0 ecc s)

/-- MSU (13 R472). -/
def execDspMsu (c k a b : Nat) (mx my : Option PMove) (ecc : Nat) (s : State) : Out :=
  .next (dspIssue c (.frac .msu k a b mx my) 0 ecc s)

/-- MPY (13 R472). -/
def execDspMpy (c k a b : Nat) (mx my : Option PMove) (ecc : Nat) (s : State) : Out :=
  .next (dspIssue c (.frac .mpy k a b mx my) 0 ecc s)

/-- MOVE (13 R472). -/
def execDspMove (c : Nat) (mx my : Option PMove) (ecc : Nat) (s : State) : Out :=
  .next (dspIssue c (.frac .move 0 0 0 mx my) 0 ecc s)

/-- QMAC (13 R473). -/
def execDspQmac (c q a b u sp : Nat) (mv : Option PMove) (ecc : Nat) (s : State) : Out :=
  .next (dspIssue c (.quad .qmac q a b u sp mv) 0 ecc s)

/-- QMSU (13 R473). -/
def execDspQmsu (c q a b u sp : Nat) (mv : Option PMove) (ecc : Nat) (s : State) : Out :=
  .next (dspIssue c (.quad .qmsu q a b u sp mv) 0 ecc s)

/-- QMPY (13 R473). -/
def execDspQmpy (c q a b u sp : Nat) (mv : Option PMove) (ecc : Nat) (s : State) : Out :=
  .next (dspIssue c (.quad .qmpy q a b u sp mv) 0 ecc s)

/-- CMAC (13 R474). -/
def execDspCmac (c q a b : Nat) (mx my : Option PMove) (ecc : Nat) (s : State) : Out :=
  .next (dspIssue c (.cplx .cmac q a b mx my) 0 ecc s)

/-- CMSU (13 R474). -/
def execDspCmsu (c q a b : Nat) (mx my : Option PMove) (ecc : Nat) (s : State) : Out :=
  .next (dspIssue c (.cplx .cmsu q a b mx my) 0 ecc s)

/-- CMPY (13 R474). -/
def execDspCmpy (c q a b : Nat) (mx my : Option PMove) (ecc : Nat) (s : State) : Out :=
  .next (dspIssue c (.cplx .cmpy q a b mx my) 0 ecc s)

/-- CMACJ (13 R474). -/
def execDspCmacj (c q a b : Nat) (mx my : Option PMove) (ecc : Nat) (s : State) : Out :=
  .next (dspIssue c (.cplx .cmacj q a b mx my) 0 ecc s)

/-- CMPYJ (13 R474). -/
def execDspCmpyj (c q a b : Nat) (mx my : Option PMove) (ecc : Nat) (s : State) : Out :=
  .next (dspIssue c (.cplx .cmpyj q a b mx my) 0 ecc s)

/-- TAP (13 R475). -/
def execDspTap (c : Nat) (dir sub : Bool) (k pc cm pr rm pw wm ecc : Nat) (s : State) : Out :=
  .next (dspIssue c (.tap dir sub k pc cm pr rm pw wm) 0 ecc s)

/-- LD (13 R476). -/
def execDspLd (c sp r p md imm ecc : Nat) (s : State) : Out := .next (dspIssue c (.ld sp r p md imm) 0 ecc s)

/-- ST (13 R476). -/
def execDspSt (c sp r p md imm ecc : Nat) (s : State) : Out := .next (dspIssue c (.st sp r p md imm) 0 ecc s)

/-- MOV (13 R477). -/
def execDspMov (c dst src ecc : Nat) (s : State) : Out := .next (dspIssue c (.mov dst src) 0 ecc s)

/-- WRS (13 R477). -/
def execDspWrs (c sys d ecc : Nat) (s : State) : Out := .next (dspIssue c (.wrs sys d) 0 ecc s)

/-- RDS (13 R477). -/
def execDspRds (c d sys ecc : Nat) (s : State) : Out := .next (dspIssue c (.rds d sys) 0 ecc s)

/-- PACK (13 R477). -/
def execDspPack (c d q ecc : Nat) (s : State) : Out := .next (dspIssue c (.pack d q) 0 ecc s)

/-- MOV16 (13 R477). -/
def execDspMov16 (c d k ecc : Nat) (s : State) : Out := .next (dspIssue c (.mov16 d k) 0 ecc s)

/-- IN (13 R478). -/
def execDspIn (c : Nat) (dst : StrArg) (k ecc : Nat) (s : State) : Out := .next (dspIssue c (.strIn dst k) 0 ecc s)

/-- OUT (13 R478). -/
def execDspOut (c : Nat) (src : StrArg) (k ecc : Nat) (s : State) : Out := .next (dspIssue c (.strOut src k) 0 ecc s)

/-- CLOSE (13 R478, 12 R442). -/
def execDspClose (c k ecc : Nat) (s : State) : Out := .next (dspIssue c (.close k) 0 ecc s)

/-- SKIPI (13 R478). -/
def execDspSkipi (c k ecc : Nat) (s : State) : Out := .next (dspIssue c (.skipi k) 0 ecc s)

end Sys2Proof.Machine
end

