-- ==== Sys2Proof/Machine/Dispatch.lean ====
section
/-! DEFINITION. The dispatch of a command to its meaning: one arm for each command. -/

namespace Sys2Proof.Machine

/-- What a command does, but for the queue of waiting commands. -/
def exec (i : Instr) (s : State) : Host.Outcome State Fault Refusal :=
  match i with
  | .registerWrite ag off v ecc good => Sys2Proof.Machine.execRegisterWrite ag off v ecc good s
  | .rcRegisterRead ag off => Sys2Proof.Machine.execRcRegisterRead ag off s
  | .latchedRegisterRead ag off => Sys2Proof.Machine.execLatchedRegisterRead ag off s
  | .resetNAssert => Sys2Proof.Machine.execResetNAssert s
  | .resetNRelease engineId smbStrap => Sys2Proof.Machine.execResetNRelease engineId smbStrap s
  | .aonResetNAssert => Sys2Proof.Machine.execAonResetNAssert s
  | .perstNAssert => Sys2Proof.Machine.execPerstNAssert s
  | .pcieHotReset => Sys2Proof.Machine.execPcieHotReset s
  | .functionLevelReset fn => Sys2Proof.Machine.execFunctionLevelReset fn s
  | .trstNAssert => Sys2Proof.Machine.execTrstNAssert s
  | .smbusClockTimeout => Sys2Proof.Machine.execSmbusClockTimeout s
  | .fusePhaseDone => Sys2Proof.Machine.execFusePhaseDone s
  | .bootStalled => Sys2Proof.Machine.execBootStalled s
  | .mcFirmwareLoaded m okA okB => Sys2Proof.Machine.execMcFirmwareLoaded m okA okB s
  | .warmRestart ag v => Sys2Proof.Machine.execWarmRestart ag v s
  | .unitStart ag u => Sys2Proof.Machine.execUnitStart ag u s
  | .unitDrain ag u => Sys2Proof.Machine.execUnitDrain ag u s
  | .unitStop ag u => Sys2Proof.Machine.execUnitStop ag u s
  | .unitAbort ag u => Sys2Proof.Machine.execUnitAbort ag u s
  | .unitRestart ag u good => Sys2Proof.Machine.execUnitRestart ag u good s
  | .unitThaw ag u => Sys2Proof.Machine.execUnitThaw ag u s
  | .drainComplete u => Sys2Proof.Machine.execDrainComplete u s
  | .drainTimeout u => Sys2Proof.Machine.execDrainTimeout u s
  | .gateDelayExpiry u => Sys2Proof.Machine.execGateDelayExpiry u s
  | .stateSkew u data k => Sys2Proof.Machine.execStateSkew u data k s
  | .rateLimitExpiry k => Sys2Proof.Machine.execRateLimitExpiry k s
  | .fabricItem k room ecc => Sys2Proof.Machine.execFabricItem k room ecc s
  | .loadHost ag => Sys2Proof.Machine.execLoadHost ag s
  | .loadFlash ag slot => Sys2Proof.Machine.execLoadFlash ag slot s
  | .planAbort ag => Sys2Proof.Machine.execPlanAbort ag s
  | .planFetchDone bytes good => Sys2Proof.Machine.execPlanFetchDone bytes good s
  | .planSwap us => Sys2Proof.Machine.execPlanSwap us s
  | .planConfigureDone us bad => Sys2Proof.Machine.execPlanConfigureDone us bad s
  | .ocxoLost => Sys2Proof.Machine.execOcxoLost s
  | .ocxoReturned => Sys2Proof.Machine.execOcxoReturned s
  | .ocxoReadyChange level => Sys2Proof.Machine.execOcxoReadyChange level s
  | .warmTimerExpiry => Sys2Proof.Machine.execWarmTimerExpiry s
  | .driftGateEnd drift => Sys2Proof.Machine.execDriftGateEnd drift s
  | .refInEdge late freqOk => Sys2Proof.Machine.execRefInEdge late freqOk s
  | .refLost => Sys2Proof.Machine.execRefLost s
  | .refQualified => Sys2Proof.Machine.execRefQualified s
  | .step ag => Sys2Proof.Machine.execStep ag s
  | .slew ag => Sys2Proof.Machine.execSlew ag s
  | .set ag => Sys2Proof.Machine.execSet ag s
  | .setApplied => Sys2Proof.Machine.execSetApplied s
  | .syncLoad ag => Sys2Proof.Machine.execSyncLoad ag s
  | .syncCheck ag => Sys2Proof.Machine.execSyncCheck ag s
  | .syncFrame f => Sys2Proof.Machine.execSyncFrame f s
  | .syncLoadPoint => Sys2Proof.Machine.execSyncLoadPoint s
  | .synLockAcquired n us => Sys2Proof.Machine.execSynLockAcquired n us s
  | .synLockLost n => Sys2Proof.Machine.execSynLockLost n s
  | .synRelocked n => Sys2Proof.Machine.execSynRelocked n s
  | .synPhaseWrite ag n v => Sys2Proof.Machine.execSynPhaseWrite ag n v s
  | .synPhaseStep n => Sys2Proof.Machine.execSynPhaseStep n s
  | .sysrefFire ag n v => Sys2Proof.Machine.execSysrefFire ag n v s
  | .laneCdrLocked n lane => Sys2Proof.Machine.execLaneCdrLocked n lane s
  | .laneCodeSync n lane => Sys2Proof.Machine.execLaneCodeSync n lane s
  | .ilasMultiframe n lane fields chk chkOk => Sys2Proof.Machine.execIlasMultiframe n lane fields chk chkOk s
  | .sysrefEdge n arrivals skews => Sys2Proof.Machine.execSysrefEdge n arrivals skews s
  | .alignSysrefTimeout n => Sys2Proof.Machine.execAlignSysrefTimeout n s
  | .groupAlignTimeout g => Sys2Proof.Machine.execGroupAlignTimeout g s
  | .errorAutoRestart n => Sys2Proof.Machine.execErrorAutoRestart n s
  | .realign ag n => Sys2Proof.Machine.execRealign ag n s
  | .ingClearCounts ag n => Sys2Proof.Machine.execIngClearCounts ag n s
  | .laneCdrUnlock n lane => Sys2Proof.Machine.execLaneCdrUnlock n lane s
  | .syncHeaderInvalid n lane block octet => Sys2Proof.Machine.execSyncHeaderInvalid n lane block octet s
  | .codeGroupSyncLost n lane => Sys2Proof.Machine.execCodeGroupSyncLost n lane s
  | .linkCrcMismatch n => Sys2Proof.Machine.execLinkCrcMismatch n s
  | .alignLost n => Sys2Proof.Machine.execAlignLost n s
  | .parcelFormed n raws took => Sys2Proof.Machine.execParcelFormed n raws took s
  | .adcDelayWrite ag n v => Sys2Proof.Machine.execAdcDelayWrite ag n v s
  | .tunerInputParcel n => Sys2Proof.Machine.execTunerInputParcel n s
  | .tunCommitNextBlock ag n reset => Sys2Proof.Machine.execTunCommitNextBlock ag n reset s
  | .tunCommitAtTime ag n reset => Sys2Proof.Machine.execTunCommitAtTime ag n reset s
  | .tunCommitCancel ag n => Sys2Proof.Machine.execTunCommitCancel ag n s
  | .tunCommitApply n time => Sys2Proof.Machine.execTunCommitApply n time s
  | .chzInput c => Sys2Proof.Machine.execChzInput c s
  | .chzCoefDataWrite ag c v => Sys2Proof.Machine.execChzCoefDataWrite ag c v s
  | .firCoefWrite ag n k v => Sys2Proof.Machine.execFirCoefWrite ag n k v s
  | .specInput e stream => Sys2Proof.Machine.execSpecInput e stream s
  | .spectrumComputed e took0 took1 coreFault => Sys2Proof.Machine.execSpectrumComputed e took0 took1 coreFault s
  | .specCommitNextFrame ag e => Sys2Proof.Machine.execSpecCommitNextFrame ag e s
  | .specCommitAtTime ag e => Sys2Proof.Machine.execSpecCommitAtTime ag e s
  | .specCommitCancel ag e => Sys2Proof.Machine.execSpecCommitCancel ag e s
  | .traceRestart ag e => Sys2Proof.Machine.execTraceRestart ag e s
  | .specCommitApply e time => Sys2Proof.Machine.execSpecCommitApply e time s
  | .windowGenerationDone e => Sys2Proof.Machine.execWindowGenerationDone e s
  | .winDataWrite ag e v => Sys2Proof.Machine.execWinDataWrite ag e v s
  | .tdSample t d => Sys2Proof.Machine.execTdSample t d s
  | .fmSpectrum t => Sys2Proof.Machine.execFmSpectrum t s
  | .densityRows t => Sys2Proof.Machine.execDensityRows t s
  | .evtInEdge it rising t clean room => Sys2Proof.Machine.execEvtInEdge it rising t clean room s
  | .trigSwPulse ag v => Sys2Proof.Machine.execTrigSwPulse ag v s
  | .trigSwLevelWrite ag v => Sys2Proof.Machine.execTrigSwLevelWrite ag v s
  | .weirOccurrence w => Sys2Proof.Machine.execWeirOccurrence w s
  | .delayLineOutput w => Sys2Proof.Machine.execDelayLineOutput w s
  | .seqWindowExpiry w => Sys2Proof.Machine.execSeqWindowExpiry w s
  | .holdoffExpiry w => Sys2Proof.Machine.execHoldoffExpiry w s
  | .weirArm ag w => Sys2Proof.Machine.execWeirArm ag w s
  | .weirDisarm ag w => Sys2Proof.Machine.execWeirDisarm ag w s
  | .weirReset ag w => Sys2Proof.Machine.execWeirReset ag w s
  | .trigCommitNext ag t => Sys2Proof.Machine.execTrigCommitNext ag t s
  | .trigCommitCancel ag t => Sys2Proof.Machine.execTrigCommitCancel ag t s
  | .maskSwap ag t => Sys2Proof.Machine.execMaskSwap ag t s
  | .clearHistory ag t => Sys2Proof.Machine.execClearHistory ag t s
  | .trigCommitApply t => Sys2Proof.Machine.execTrigCommitApply t s
  | .maskDataWrite ag t v => Sys2Proof.Machine.execMaskDataWrite ag t v s
  | .trigOutPulseEnd n => Sys2Proof.Machine.execTrigOutPulseEnd n s
  | .trigOutClr ag v => Sys2Proof.Machine.execTrigOutClr ag v s
  | .acqStart ag a => Sys2Proof.Machine.execAcqStart ag a s
  | .acqStop ag a => Sys2Proof.Machine.execAcqStop ag a s
  | .acqAbort ag a => Sys2Proof.Machine.execAcqAbort ag a s
  | .acqRead ag a => Sys2Proof.Machine.execAcqRead ag a s
  | .acqReadAbort ag a => Sys2Proof.Machine.execAcqReadAbort ag a s
  | .flushList ag a => Sys2Proof.Machine.execFlushList ag a s
  | .acqFire a stalled => Sys2Proof.Machine.execAcqFire a stalled s
  | .acqChunk a k first stored stalled errs => Sys2Proof.Machine.execAcqChunk a k first stored stalled errs s
  | .acqSegmentComplete a => Sys2Proof.Machine.execAcqSegmentComplete a s
  | .acqListTimeout a => Sys2Proof.Machine.execAcqListTimeout a s
  | .acqReadoutRecord a soft hard errs => Sys2Proof.Machine.execAcqReadoutRecord a soft hard errs s
  | .maskTestDone a errs => Sys2Proof.Machine.execMaskTestDone a errs s
  | .acqMtDataWrite ag a v => Sys2Proof.Machine.execAcqMtDataWrite ag a v s
  | .densSpectrum d => Sys2Proof.Machine.execDensSpectrum d s
  | .densHistogramDone d => Sys2Proof.Machine.execDensHistogramDone d s
  | .densSweepDone d => Sys2Proof.Machine.execDensSweepDone d s
  | .densCommitNextFrame ag d v => Sys2Proof.Machine.execDensCommitNextFrame ag d v s
  | .densCommitCancel ag d => Sys2Proof.Machine.execDensCommitCancel ag d s
  | .densClear ag d v => Sys2Proof.Machine.execDensClear ag d v s
  | .densSnapshot ag d v => Sys2Proof.Machine.execDensSnapshot ag d v s
  | .cmapSwap ag d v => Sys2Proof.Machine.execCmapSwap ag d v s
  | .dispVblankStart => Sys2Proof.Machine.execDispVblankStart s
  | .dispFrameEnd => Sys2Proof.Machine.execDispFrameEnd s
  | .dispFrameDone => Sys2Proof.Machine.execDispFrameDone s
  | .dispUnderrun x => Sys2Proof.Machine.execDispUnderrun x s
  | .fbCommit ag => Sys2Proof.Machine.execFbCommit ag s
  | .fbCancel ag => Sys2Proof.Machine.execFbCancel ag s
  | .modeCommit ag => Sys2Proof.Machine.execModeCommit ag s
  | .modeCancel ag => Sys2Proof.Machine.execModeCancel ag s
  | .dispTrain ag => Sys2Proof.Machine.execDispTrain ag s
  | .hpdRise => Sys2Proof.Machine.execHpdRise s
  | .hpdLow => Sys2Proof.Machine.execHpdLow s
  | .sinkInterrupt => Sys2Proof.Machine.execSinkInterrupt s
  | .trainingDone good phase lane => Sys2Proof.Machine.execTrainingDone good phase lane s
  | .auxRequest ag v => Sys2Proof.Machine.execAuxRequest ag v s
  | .auxDone reply data => Sys2Proof.Machine.execAuxDone reply data s
  | .tdcMeasEnable ag c => Sys2Proof.Machine.execTdcMeasEnable ag c s
  | .tdcMeasDisable ag c => Sys2Proof.Machine.execTdcMeasDisable ag c s
  | .tdcChannelStamp c room => Sys2Proof.Machine.execTdcChannelStamp c room s
  | .tdcTimeout c room => Sys2Proof.Machine.execTdcTimeout c room s
  | .tdcWMissing c room => Sys2Proof.Machine.execTdcWMissing c room s
  | .tdcGateEnd c room => Sys2Proof.Machine.execTdcGateEnd c room s
  | .tdcBlockFlush it => Sys2Proof.Machine.execTdcBlockFlush it s
  | .dspInputItem c n => Sys2Proof.Machine.execDspInputItem c n s
  | .dspInterruptEntry c => Sys2Proof.Machine.execDspInterruptEntry c s
  | .dspTimerExpiry c => Sys2Proof.Machine.execDspTimerExpiry c s
  | .dspCoreHostMsg ag c v => Sys2Proof.Machine.execDspCoreHostMsg ag c v s
  | .dspClStart ag v => Sys2Proof.Machine.execDspClStart ag v s
  | .breakpointReached c => Sys2Proof.Machine.execBreakpointReached c s
  | .breakStep ag c ecc => Sys2Proof.Machine.execBreakStep ag c ecc s
  | .breakResume ag c => Sys2Proof.Machine.execBreakResume ag c s
  | .dmaStart c ch ecc => Sys2Proof.Machine.execDmaStart c ch ecc s
  | .dmaAbort c ch n ecc => Sys2Proof.Machine.execDmaAbort c ch n ecc s
  | .dmaDone c ch fail soft errs => Sys2Proof.Machine.execDmaDone c ch fail soft errs s
  | .busRead c => Sys2Proof.Machine.execBusRead c s
  | .busWrite c ecc good => Sys2Proof.Machine.execBusWrite c ecc good s
  | .busAccessDone c => Sys2Proof.Machine.execBusAccessDone c s
  | .reservedEncoding c => Sys2Proof.Machine.execReservedEncoding c s
  | .dspNop c ecc => Sys2Proof.Machine.execDspNop c ecc s
  | .dspHalt c ecc => Sys2Proof.Machine.execDspHalt c ecc s
  | .dspRet c ecc => Sys2Proof.Machine.execDspRet c ecc s
  | .dspReti c ecc => Sys2Proof.Machine.execDspReti c ecc s
  | .dspLeave c ecc => Sys2Proof.Machine.execDspLeave c ecc s
  | .dspWait c ecc => Sys2Proof.Machine.execDspWait c ecc s
  | .dspTflg c f o ecc => Sys2Proof.Machine.execDspTflg c f o ecc s
  | .dspBri c cc p ecc => Sys2Proof.Machine.execDspBri c cc p ecc s
  | .dspBr c cc t ecc => Sys2Proof.Machine.execDspBr c cc t ecc s
  | .dspCall c cc t ecc => Sys2Proof.Machine.execDspCall c cc t ecc s
  | .dspLoop c reg k len ecc => Sys2Proof.Machine.execDspLoop c reg k len ecc s
  | .dspRep c reg k ecc => Sys2Proof.Machine.execDspRep c reg k ecc s
  | .dspLdi c file h r imm ecc => Sys2Proof.Machine.execDspLdi c file h r imm ecc s
  | .dspAdd c d a b ecc => Sys2Proof.Machine.execDspAdd c d a b ecc s
  | .dspSub c d a b ecc => Sys2Proof.Machine.execDspSub c d a b ecc s
  | .dspAdds c d a b ecc => Sys2Proof.Machine.execDspAdds c d a b ecc s
  | .dspSubs c d a b ecc => Sys2Proof.Machine.execDspSubs c d a b ecc s
  | .dspAnd c d a b ecc => Sys2Proof.Machine.execDspAnd c d a b ecc s
  | .dspOr c d a b ecc => Sys2Proof.Machine.execDspOr c d a b ecc s
  | .dspXor c d a b ecc => Sys2Proof.Machine.execDspXor c d a b ecc s
  | .dspNot c d a ecc => Sys2Proof.Machine.execDspNot c d a ecc s
  | .dspNeg c d a ecc => Sys2Proof.Machine.execDspNeg c d a ecc s
  | .dspAbs c d a ecc => Sys2Proof.Machine.execDspAbs c d a ecc s
  | .dspCmp c a b ecc => Sys2Proof.Machine.execDspCmp c a b ecc s
  | .dspAsl c d a sh ecc => Sys2Proof.Machine.execDspAsl c d a sh ecc s
  | .dspAsr c d a sh ecc => Sys2Proof.Machine.execDspAsr c d a sh ecc s
  | .dspLsr c d a sh ecc => Sys2Proof.Machine.execDspLsr c d a sh ecc s
  | .dspMin c d a b ecc => Sys2Proof.Machine.execDspMin c d a b ecc s
  | .dspMax c d a b ecc => Sys2Proof.Machine.execDspMax c d a b ecc s
  | .dspAdd2 c d a b ecc => Sys2Proof.Machine.execDspAdd2 c d a b ecc s
  | .dspSub2 c d a b ecc => Sys2Proof.Machine.execDspSub2 c d a b ecc s
  | .dspAdd2h c d a b ecc => Sys2Proof.Machine.execDspAdd2h c d a b ecc s
  | .dspSub2h c d a b ecc => Sys2Proof.Machine.execDspSub2h c d a b ecc s
  | .dspAddi c d a imm ecc => Sys2Proof.Machine.execDspAddi c d a imm ecc s
  | .dspCmpi c a imm ecc => Sys2Proof.Machine.execDspCmpi c a imm ecc s
  | .dspBfly c d e a b ecc => Sys2Proof.Machine.execDspBfly c d e a b ecc s
  | .dspBflyh c d e a b ecc => Sys2Proof.Machine.execDspBflyh c d e a b ecc s
  | .dspClr c k j a b sh ecc => Sys2Proof.Machine.execDspClr c k j a b sh ecc s
  | .dspAdda c k j a b sh ecc => Sys2Proof.Machine.execDspAdda c k j a b sh ecc s
  | .dspSuba c k j a b sh ecc => Sys2Proof.Machine.execDspSuba c k j a b sh ecc s
  | .dspTfra c k j a b sh ecc => Sys2Proof.Machine.execDspTfra c k j a b sh ecc s
  | .dspNega c k j a b sh ecc => Sys2Proof.Machine.execDspNega c k j a b sh ecc s
  | .dspAbsa c k j a b sh ecc => Sys2Proof.Machine.execDspAbsa c k j a b sh ecc s
  | .dspAsla c k j a b sh ecc => Sys2Proof.Machine.execDspAsla c k j a b sh ecc s
  | .dspAsra c k j a b sh ecc => Sys2Proof.Machine.execDspAsra c k j a b sh ecc s
  | .dspAddd c k j a b sh ecc => Sys2Proof.Machine.execDspAddd c k j a b sh ecc s
  | .dspSubd c k j a b sh ecc => Sys2Proof.Machine.execDspSubd c k j a b sh ecc s
  | .dspSata c k j a b sh ecc => Sys2Proof.Machine.execDspSata c k j a b sh ecc s
  | .dspCmpa c k j a b sh ecc => Sys2Proof.Machine.execDspCmpa c k j a b sh ecc s
  | .dspMpyi c k j a b sh ecc => Sys2Proof.Machine.execDspMpyi c k j a b sh ecc s
  | .dspMaci c k j a b sh ecc => Sys2Proof.Machine.execDspMaci c k j a b sh ecc s
  | .dspMac c k a b mx my ecc => Sys2Proof.Machine.execDspMac c k a b mx my ecc s
  | .dspMsu c k a b mx my ecc => Sys2Proof.Machine.execDspMsu c k a b mx my ecc s
  | .dspMpy c k a b mx my ecc => Sys2Proof.Machine.execDspMpy c k a b mx my ecc s
  | .dspMove c mx my ecc => Sys2Proof.Machine.execDspMove c mx my ecc s
  | .dspQmac c q a b u sp mv ecc => Sys2Proof.Machine.execDspQmac c q a b u sp mv ecc s
  | .dspQmsu c q a b u sp mv ecc => Sys2Proof.Machine.execDspQmsu c q a b u sp mv ecc s
  | .dspQmpy c q a b u sp mv ecc => Sys2Proof.Machine.execDspQmpy c q a b u sp mv ecc s
  | .dspCmac c q a b mx my ecc => Sys2Proof.Machine.execDspCmac c q a b mx my ecc s
  | .dspCmsu c q a b mx my ecc => Sys2Proof.Machine.execDspCmsu c q a b mx my ecc s
  | .dspCmpy c q a b mx my ecc => Sys2Proof.Machine.execDspCmpy c q a b mx my ecc s
  | .dspCmacj c q a b mx my ecc => Sys2Proof.Machine.execDspCmacj c q a b mx my ecc s
  | .dspCmpyj c q a b mx my ecc => Sys2Proof.Machine.execDspCmpyj c q a b mx my ecc s
  | .dspTap c dir sub k pc cm pr rm pw wm ecc => Sys2Proof.Machine.execDspTap c dir sub k pc cm pr rm pw wm ecc s
  | .dspLd c sp r p md imm ecc => Sys2Proof.Machine.execDspLd c sp r p md imm ecc s
  | .dspSt c sp r p md imm ecc => Sys2Proof.Machine.execDspSt c sp r p md imm ecc s
  | .dspMov c dst src ecc => Sys2Proof.Machine.execDspMov c dst src ecc s
  | .dspWrs c sys d ecc => Sys2Proof.Machine.execDspWrs c sys d ecc s
  | .dspRds c d sys ecc => Sys2Proof.Machine.execDspRds c d sys ecc s
  | .dspPack c d q ecc => Sys2Proof.Machine.execDspPack c d q ecc s
  | .dspMov16 c d k ecc => Sys2Proof.Machine.execDspMov16 c d k ecc s
  | .dspIn c dst k ecc => Sys2Proof.Machine.execDspIn c dst k ecc s
  | .dspOut c src k ecc => Sys2Proof.Machine.execDspOut c src k ecc s
  | .dspClose c k ecc => Sys2Proof.Machine.execDspClose c k ecc s
  | .dspSkipi c k ecc => Sys2Proof.Machine.execDspSkipi c k ecc s
  | .cmpItem n room => Sys2Proof.Machine.execCmpItem n room s
  | .cmpFlushTimer n => Sys2Proof.Machine.execCmpFlushTimer n s
  | .cmpStreamCfgWrite ag n v => Sys2Proof.Machine.execCmpStreamCfgWrite ag n v s
  | .submit ag n => Sys2Proof.Machine.execSubmit ag n s
  | .cmpJobAbort ag n => Sys2Proof.Machine.execCmpJobAbort ag n s
  | .cmpJobFlush ag n => Sys2Proof.Machine.execCmpJobFlush ag n s
  | .cmpJobStart n => Sys2Proof.Machine.execCmpJobStart n s
  | .cmpJobDone n fail soft errs => Sys2Proof.Machine.execCmpJobDone n fail soft errs s
  | .cmpJobResultRead n => Sys2Proof.Machine.execCmpJobResultRead n s
  | .hbmTrained k repairs fences us => Sys2Proof.Machine.execHbmTrained k repairs fences us s
  | .hbmFreqReq ag v => Sys2Proof.Machine.execHbmFreqReq ag v s
  | .hbmFreqDone => Sys2Proof.Machine.execHbmFreqDone s
  | .hbmMemoryItem slice stream errs acts => Sys2Proof.Machine.execHbmMemoryItem slice stream errs acts s
  | .hbmStackThaw ag k => Sys2Proof.Machine.execHbmStackThaw ag k s
  | .hbmTempRead k t => Sys2Proof.Machine.execHbmTempRead k t s
  | .hbmRefreshDue p placed => Sys2Proof.Machine.execHbmRefreshDue p placed s
  | .refreshWindowEnd => Sys2Proof.Machine.execRefreshWindowEnd s
  | .pcIdleTimeout p => Sys2Proof.Machine.execPcIdleTimeout p s
  | .rdCfgWrite ag v => Sys2Proof.Machine.execRdCfgWrite ag v s
  | .hostLinkChange up rate width flit mps masters vfs => Sys2Proof.Machine.execHostLinkChange up rate width flit mps masters vfs s
  | .windowAccess fn write b n data errs => Sys2Proof.Machine.execWindowAccess fn write b n data errs s
  | .hostItem h k => Sys2Proof.Machine.execHostItem h k s
  | .freeTailWrite ag f tail => Sys2Proof.Machine.execFreeTailWrite ag f tail s
  | .freeEntryFetched f addr len cookie => Sys2Proof.Machine.execFreeEntryFetched f addr len cookie s
  | .recordWrite f good1 good2 wrote => Sys2Proof.Machine.execRecordWrite f good1 good2 wrote s
  | .hostWriteRetry f wrote => Sys2Proof.Machine.execHostWriteRetry f wrote s
  | .bufferFlushTimer f => Sys2Proof.Machine.execBufferFlushTimer f s
  | .irqTimer f => Sys2Proof.Machine.execIrqTimer f s
  | .cplHeadWrite ag f head => Sys2Proof.Machine.execCplHeadWrite ag f head s
  | .flumeOpen ag f => Sys2Proof.Machine.execFlumeOpen ag f s
  | .flumeClose ag f => Sys2Proof.Machine.execFlumeClose ag f s
  | .flumeReset ag f => Sys2Proof.Machine.execFlumeReset ag f s
  | .flumeFlush ag f => Sys2Proof.Machine.execFlumeFlush ag f s
  | .closeTimeout f => Sys2Proof.Machine.execCloseTimeout f s
  | .cvSend ag v ecc => Sys2Proof.Machine.execCvSend ag v ecc s
  | .cvRxpop ag c ecc => Sys2Proof.Machine.execCvRxpop ag c ecc s
  | .cvTxstatRead ag => Sys2Proof.Machine.execCvTxstatRead ag s
  | .cvReceiverWrite ag c v => Sys2Proof.Machine.execCvReceiverWrite ag c v s
  | .dbRing ag j v => Sys2Proof.Machine.execDbRing ag j v s
  | .dbClear ag j v => Sys2Proof.Machine.execDbClear ag j v s
  | .headgateRead ag h others => Sys2Proof.Machine.execHeadgateRead ag h others s
  | .headgateRelease ag h v => Sys2Proof.Machine.execHeadgateRelease ag h v s
  | .headgateForce ag h => Sys2Proof.Machine.execHeadgateForce ag h s
  | .mcWatchdog m => Sys2Proof.Machine.execMcWatchdog m s
  | .mcRestart ag m => Sys2Proof.Machine.execMcRestart ag m s
  | .mcRequest m => Sys2Proof.Machine.execMcRequest m s
  | .smbSetAddr addr pec => Sys2Proof.Machine.execSmbSetAddr addr pec s
  | .smbRead => Sys2Proof.Machine.execSmbRead s
  | .smbWrite v pec ecc good => Sys2Proof.Machine.execSmbWrite v pec ecc good s
  | .smbStatus => Sys2Proof.Machine.execSmbStatus s
  | .auditRecordTimer => Sys2Proof.Machine.execAuditRecordTimer s
  | .auditQueueRoom => Sys2Proof.Machine.execAuditQueueRoom s
  | .calRetrim ag b => Sys2Proof.Machine.execCalRetrim ag b s
  | .calApply ag b => Sys2Proof.Machine.execCalApply ag b s
  | .calReload ag b => Sys2Proof.Machine.execCalReload ag b s
  | .calAbort ag => Sys2Proof.Machine.execCalAbort ag s
  | .calRetrimDone words => Sys2Proof.Machine.execCalRetrimDone words s
  | .calRetrimTimeout => Sys2Proof.Machine.execCalRetrimTimeout s
  | .auxConvert ag => Sys2Proof.Machine.execAuxConvert ag s
  | .auxBlockFlush ag => Sys2Proof.Machine.execAuxBlockFlush ag s
  | .auxClearCounts ag => Sys2Proof.Machine.execAuxClearCounts ag s
  | .auxConvWrite ag scan v => Sys2Proof.Machine.execAuxConvWrite ag scan v s
  | .auxConversionDone v => Sys2Proof.Machine.execAuxConversionDone v s
  | .refSettleExpiry => Sys2Proof.Machine.execRefSettleExpiry s
  | .refxRangeChange out => Sys2Proof.Machine.execRefxRangeChange out s
  | .auxBlockTimer => Sys2Proof.Machine.execAuxBlockTimer s
  | .auxRdWrite ag v => Sys2Proof.Machine.execAuxRdWrite ag v s
  | .pwrWake e => Sys2Proof.Machine.execPwrWake e s
  | .runDurationEnd e => Sys2Proof.Machine.execRunDurationEnd e s
  | .sleep ag => Sys2Proof.Machine.execSleep ag s
  | .aonWake => Sys2Proof.Machine.execAonWake s
  | .autoSleepAttempt => Sys2Proof.Machine.execAutoSleepAttempt s
  | .thermalSample dies => Sys2Proof.Machine.execThermalSample dies s
  | .aonResetNRelease => Sys2Proof.Machine.execAonResetNRelease s
  | .perstNRelease => Sys2Proof.Machine.execPerstNRelease s
  | .virtualFunctionDisable fn => Sys2Proof.Machine.execVirtualFunctionDisable fn s
  | .dispLineStart level errs => Sys2Proof.Machine.execDispLineStart level errs s
  | .routeCreditRecovered id room ecc => Sys2Proof.Machine.execRouteCreditRecovered id room ecc s

end Sys2Proof.Machine
end

