-- ==== Sys2Proof/Machine/Tick.lean ====
section
/-! DEFINITION. What happens at a clock tick whatever is commanded: device time advances, SYSREF bursts go on and the
controllers' heartbeats count. Every other timed effect is a command of the table. -/

namespace Sys2Proof.Machine

/-- The number of whole milliseconds in a duration in units of 2^-64 s. -/
def msOf (total : Nat) : Nat := total * 1000 / 2 ^ 64

/-- HEARTBEAT of controller m goes on by 1 while it is RUNNING (17 R583). -/
def heartbeat (m : Nat) (s : State) : State :=
  if getF s .mgtMcStatus 0 m 0 3 = 2 then
    setF .mgtMcStatus 0 m 16 16 ((getF s .mgtMcStatus 0 m 16 16 + 1) % 65536) s
  else s

/-- One tick (03 R131, R134, R135, R160; 17 R583; 19 R605). -/
def idleTick (s : State) : State :=
  let s := auxMark s
  let t := timeTick s
  let t := (List.range 4).foldl (fun s n => sysrefTick n s) t
  if msOf (upTotal s) = msOf (upTotal t) then t else heartbeat 1 (heartbeat 0 t)

end Sys2Proof.Machine
end

