-- ==== Sys2Proof/Safety.lean ====
section
/-! DEFINITION. The terms that the statements use: when a write is open, what an event report is, what a DSP core is about to
issue and what its instruction has done, the invariant of the model's containers, and the commands that leave HBM alone. No
run of this model is stopped by a command; a run is safe as long as its states meet MachineInv. -/

namespace Sys2Proof.Machine

/-- A write by the agent at the offset reaches its register's effect: MAIN is up and no rule of access refuses it. -/
abbrev WriteOpen (s : State) (ag : AgentId) (off : Nat) : Prop := mainUp s = true ∧ accessRefusal s ag off = none

/-- Between s and t an event of that code and unit has been committed. -/
def Raised (s t : State) (code u : Nat) : Prop :=
  ∃ new, t.events = new ++ s.events ∧ ∃ e ∈ new, e.code = code ∧ e.unit = u

/-- The same, with those data. -/
def RaisedData (s t : State) (code u : Nat) (data : List EvField) : Prop :=
  ∃ new, t.events = new ++ s.events ∧ ∃ e ∈ new, e.code = code ∧ e.unit = u ∧ e.data = data

/-- The holder of headgate h, and its pointer. -/
def gateHolder (s : State) (h : Nat) : AgentId := (vget s.mgt.gates h Headgate.reset).holder
def gatePtr (s : State) (h : Nat) : Nat := (vget s.mgt.gates h Headgate.reset).ptr

/-! Registers. -/

/-- Registers whose write does more than their access codes say, each by a rule of its own chapter. -/
def ownEffect : Reg → Bool
  | .timeCmd | .timeSet | .timeCfg | .timeLockCfg | .timeRefOffset | .timeJumpLimit | .timeSlewRate | .timeEfc
  | .synPhase | .synSysrefCfg | .ingAdcDelay | .ingLinkCmd | .tunCommit | .tunFirCoef | .tunChzCoefData
  | .specCommit | .specWinData | .trigCommit | .trigMaskData | .trigWeirCmd | .trigWeirCfg | .trigWeirIn
  | .trigWeirInv | .trigWeirDelay | .trigWeirWindow | .trigWeirHoldoff | .trigWeirCountN | .trigOutCfg
  | .trigOutClr | .trigSwPulse | .trigSwLevel | .acqCmd | .acqMtData | .acqCfg | .acqSegCount | .acqWeir
  | .acqMtCfg | .acqSrcCfg | .acqSrcPre | .acqSrcPost | .acqSrcSlot | .densCommit | .dispModeCommit
  | .dispFbCommit | .dispAuxCmd | .tdcInCfg | .tdcInOffset | .tdcMeasCmd | .tdcMeasCfg | .tdcMeasP0Lo
  | .tdcMeasP0Hi | .tdcMeasP1Lo | .tdcMeasP1Hi | .dspCoreEntry | .dspCoreHostMsg | .dspCoreBreak | .dspClStart
  | .cmpStreamCfg | .cmpJobCmd | .hbmStackCmd | .hbmFreq | .hostWin | .hostFlumeCfg | .hostFlumeFreeBaseLo
  | .hostFlumeFreeBaseHi | .hostFlumeCplBaseLo | .hostFlumeCplBaseHi | .hostFlumeFreeIdx | .hostFlumeCplIdx
  | .hostFlumeIrq | .hostFlumeCmd | .mgtMcCmd | .mgtCvTx | .mgtCvSend | .mgtDbRing | .mgtDbClear | .mgtHeadgate
  | .mgtHeadgateForce | .mgtCvCfg | .mgtCvRxpop | .calCmd | .calStage | .auxConv | .auxScan | .auxCmd | .auxBufIdx
  | .auxWinCfg | .pwrStatus | .globalFaultStatus | .globalFaultMask | .globalPlanCmd | .pwrCmd | .pwrSchedEn
  | .globalResetCmd => true
  | _ => false

/-- Registers whose read does more than clear RC bits or latch words: DATA ports, operation registers, SYN_STATUS. -/
def ownRead : Reg → Bool
  | .cmpJobResult | .mgtCvTxstat | .mgtHeadgate | .tunChzCoefData | .specWinData | .trigMaskData | .acqMtData
  | .synStatus => true
  | _ => false

/-- A register with a field that a write can act on. -/
def writable (r : Reg) : Bool := r.info.rw != 0 || r.info.w1c != 0 || r.info.w1s != 0 || r.info.wo != 0

/-- Each bit of a register word after a write of v, by its access code (00 R12). -/
def CodesFollowed (r : Reg) (old v new : BitVec 32) : Prop :=
  ∀ k < 32, new.getLsbD k =
    if r.info.w1s.testBit k && v.getLsbD k then true
    else if r.info.w1c.testBit k && v.getLsbD k then false
    else if r.info.rw.testBit k then v.getLsbD k else old.getLsbD k

/-- The register words that an audit entry changes while the log is not full. -/
def auditOffs : List Nat := [Reg.off .auditSeq 0 0, Reg.off .auditCopy 0 0, Reg.off .hostFlumeSeq 1 0]

/-- t has that one audit entry more than s, the last of its log; of the rest only registers and flumes may differ. -/
def Audited (s t : State) (kind : Nat) (ag : AgentId) (code off : Nat) (v : BitVec 32) : Prop :=
  (∃ e, t.mgt.log = s.mgt.log ++ [e] ∧ e.kind = kind ∧ e.agent = ag ∧ e.code = code ∧
    e.target = BitVec.ofNat 32 off ∧ e.value = v) ∧
    t = { s with regs := t.regs, mgt := { s.mgt with log := t.mgt.log }, host := { s.host with flumes := t.host.flumes } }

/-! The invariant. -/

/-- The canonical forms: HBM memory, register file, unit headers, DSP memories. -/
abbrev MachineInv (s : State) : Prop :=
  Memory.wf s = true ∧ spWf 0 s.regs = true ∧ spWf 0 s.dspP = true ∧ spWf 0 s.dspX = true ∧ spWf 0 s.dspY = true ∧
    (s.units.Pairwise fun a b => a.1 < b.1) ∧ ∀ e ∈ s.units, e.2 ≠ UnitRec.reset e.1

/-! DSP cores. -/

/-- The byte offset and the length in words that the descriptor registers of channel ch hold. -/
def dmaOffset (s : State) (c ch : Nat) : Nat :=
  (sysWord s c (0x22 + 8 * ch)).toNat + 2 ^ 32 * (sysWord s c (0x23 + 8 * ch)).toNat
def dmaLen (s : State) (c ch : Nat) : Nat :=
  if (sysWord s c (0x24 + 8 * ch)).toNat = 0 then 65536 else (sysWord s c (0x24 + 8 * ch)).toNat

/-- Core c is about to issue op, under no REP and at the end of no loop's body. -/
abbrev DspAt (s : State) (c : Nat) (op : DspOp) : Prop :=
  canGo s c = true ∧ dspDecode (pcWord s c) = some op ∧ op.fits = true ∧ (dspOf s c).rept = none ∧
    ∀ e ∈ (dspOf s c).loops, e.last ≠ (dspOf s c).pc

/-- Between s and t only core c and the registers have changed, of these only counters: the instruction has retired. -/
def DspFrame (s t : State) (c : Nat) : Prop :=
  t = { s with dsp := t.dsp, regs := t.regs } ∧ (∀ k, k ≠ c → dspOf t k = dspOf s k) ∧
    (∀ o, o ≠ Reg.off .dspCoreCount c 0 → o ≠ Reg.off .dspCoreCount c 1 → o ≠ Reg.off .dspCoreCount c 2 →
      o ≠ Reg.off .globalFaultCount 0 0 → spGet t.regs o 0 = spGet s.regs o 0) ∧
    rd t .dspCoreCount c 0 = rd s .dspCoreCount c 0 + 1

/-- The same, and the core goes on to the next instruction. -/
def DspSeq (s t : State) (c : Nat) : Prop :=
  DspFrame s t c ∧ (dspOf t c).pc = (dspOf s c).pc + 1 ∧ (dspOf t c).loops = (dspOf s c).loops ∧
    (dspOf t c).rets = (dspOf s c).rets ∧ (dspOf t c).exec = .executing

/-- A value outside 32 or 16 signed bits, and the value clamped into them. -/
def out32 (v : Int) : Bool := decide (v < -2 ^ 31 ∨ 2 ^ 31 ≤ v)
def out16 (v : Int) : Bool := decide (v < -2 ^ 15 ∨ 2 ^ 15 ≤ v)
def clamp32 (v : Int) : Int := max (-2 ^ 31) (min (2 ^ 31 - 1) v)
def clamp16 (v : Int) : Int := max (-2 ^ 15) (min (2 ^ 15 - 1) v)

/-- Signed 16-bit lane i of a word: 0 bits [15:0], 1 bits [31:16]. -/
def lane (w : Word) (i : Nat) : Int := (BitVec.ofNat 16 (w.toNat / 2 ^ (16 * i))).toInt

/-- The accumulators, pointers, modifiers, lengths and AMR are as before. -/
def DspRest (x y : Dsp) : Prop := y.a = x.a ∧ y.p = x.p ∧ y.m = x.m ∧ y.l = x.l ∧ y.amr = x.amr

/-- A data ALU instruction has written r to Dd (to none for d = 8) with its C and V, and set SAT where sat holds. -/
def AluDone (s t : State) (c d : Nat) (r : Word) (cf vf sat : Bool) : Prop :=
  DspSeq s t c ∧ DspRest (dspOf s c) (dspOf t c) ∧ (d < 8 → (dspOf t c).dw d = r) ∧
    (∀ n, n ≠ d → (dspOf t c).dw n = (dspOf s c).dw n) ∧
    statB (dspOf t c) 0 = cf ∧ statB (dspOf t c) 1 = vf ∧ statB (dspOf t c) 2 = (r == 0) ∧ statB (dspOf t c) 3 = r.msb ∧
    statB (dspOf t c) 5 = (statB (dspOf s c) 5 || sat) ∧ ∀ i, i = 4 ∨ 6 ≤ i → statB (dspOf t c) i = statB (dspOf s c) i

/-- A lane instruction has computed both lanes of Dd with f, and set Z and N alone. -/
def LaneDone (s t : State) (c d : Nat) (f : Int → Int → BitVec 16) (a b : Word) : Prop :=
  DspSeq s t c ∧ DspRest (dspOf s c) (dspOf t c) ∧
    (∀ i, i < 2 → BitVec.ofNat 16 (((dspOf t c).dw d).toNat / 2 ^ (16 * i)) = f (lane a i) (lane b i)) ∧
    (∀ n, n ≠ d → (dspOf t c).dw n = (dspOf s c).dw n) ∧ statB (dspOf t c) 2 = ((dspOf t c).dw d == 0) ∧
    statB (dspOf t c) 3 = ((dspOf t c).dw d).msb ∧ ∀ i, i ≠ 2 → i ≠ 3 → statB (dspOf t c) i = statB (dspOf s c) i

/-- Z, N and G as a 72-bit value gives them. -/
def AccFlags (y : Dsp) (w : BitVec 72) : Prop :=
  statB y 2 = (w == 0) ∧ statB y 3 = w.msb ∧ statB y 4 = decide (w.toInt < -2 ^ 63 ∨ 2 ^ 63 ≤ w.toInt)

/-- An accumulator instruction has written v, wrapped, to Ak with its flags, AV where it wrapped and SAT where sat holds. -/
def AccDone (s t : State) (c k : Nat) (v : Int) (sat : Bool) : Prop :=
  DspSeq s t c ∧ (dspOf t c).aw k = BitVec.ofInt 72 v ∧ (∀ n, n ≠ k → (dspOf t c).aw n = (dspOf s c).aw n) ∧
    (dspOf t c).d = (dspOf s c).d ∧ (dspOf t c).p = (dspOf s c).p ∧ (dspOf t c).m = (dspOf s c).m ∧
    (dspOf t c).l = (dspOf s c).l ∧ AccFlags (dspOf t c) ((dspOf t c).aw k) ∧
    statB (dspOf t c) 6 = (statB (dspOf s c) 6 || decide (v < -2 ^ 71 ∨ 2 ^ 71 ≤ v)) ∧
    statB (dspOf t c) 5 = (statB (dspOf s c) 5 || sat) ∧
    ∀ i, i = 0 ∨ i = 1 ∨ 7 ≤ i → statB (dspOf t c) i = statB (dspOf s c) i

/-- A move of a quad instruction seen as an X move, as a Y move. -/
def atX (sp : Nat) (mv : Option PMove) : Option PMove := if sp = 0 then mv else none
def atY (sp : Nat) (mv : Option PMove) : Option PMove := if sp = 1 then mv else none

/-- What word a of a memory reads after a parallel move whose pointer holds p: a store has changed that one word. -/
def afterMove (x : Dsp) (p : PMove → Nat) (mv : Option PMove) (a : Nat) (old : Word) : Word :=
  match mv with
  | some v => if v.st ∧ a % 65536 = x.pn (p v) then x.dw v.d else old
  | none => old

/-- The data register that a parallel move loads. -/
def moveTarget (mv : Option PMove) : Option Nat := mv.bind fun v => if v.st then none else some v.d

/-- The parallel moves have been made: stores with the registers' old values, loads, post-modifies; nothing else moved. -/
def MovesDone (s t : State) (c : Nat) (mx my : Option PMove) : Prop :=
  t = { s with dsp := t.dsp, regs := t.regs, dspX := t.dspX, dspY := t.dspY } ∧ (∀ k, k ≠ c → dspOf t k = dspOf s k) ∧
    (dspOf t c).pc = (dspOf s c).pc + 1 ∧
    (∀ a, dspRead t c 0 a = afterMove (dspOf s c) (fun v => v.pi) mx a (dspRead s c 0 a)) ∧
    (∀ a, dspRead t c 1 a = afterMove (dspOf s c) (fun v => v.pi + 4) my a (dspRead s c 1 a)) ∧
    (∀ v, mx = some v → v.st = false → moveTarget my ≠ some v.d →
      (dspOf t c).dw v.d = dspRead s c 0 ((dspOf s c).pn v.pi)) ∧
    (∀ v, my = some v → v.st = false → moveTarget mx ≠ some v.d →
      (dspOf t c).dw v.d = dspRead s c 1 ((dspOf s c).pn (v.pi + 4))) ∧
    (∀ n, moveTarget mx ≠ some n → moveTarget my ≠ some n → (dspOf t c).dw n = (dspOf s c).dw n) ∧
    (∀ v, mx = some v → (dspOf t c).pn v.pi = (postMod v.pi v.mode (-1) false (dspOf s c)).pn v.pi) ∧
    (∀ v, my = some v → (dspOf t c).pn (v.pi + 4) = (postMod (v.pi + 4) v.mode (-1) false (dspOf s c)).pn (v.pi + 4))

/-- The sum of two Q15 products in accumulator units; real and imaginary part of a complex product, with the sign of the
second factor's imaginary part. -/
def dot16 (x y : Word) : Int := (lane x 0 * lane y 0 + lane x 1 * lane y 1) * 2 ^ 33
def reMul (sg : Int) (x y : Word) : Int := (lane x 0 * lane y 0 - lane x 1 * (sg * lane y 1)) * 2 ^ 33
def imMul (sg : Int) (x y : Word) : Int := (lane x 0 * (sg * lane y 1) + lane x 1 * lane y 0) * 2 ^ 33

/-- Register r of the index map holds what a write of w gives it (13 R460). -/
def RegHolds (y : Dsp) (r : Nat) (w : Word) : Prop :=
  (r < 8 → y.dw r = w) ∧ (8 ≤ r → r < 16 → y.pn (r - 8) = w.toNat % 65536) ∧
    (16 ≤ r → r < 24 → (vget y.m (r - 16) 0).toNat = w.toNat % 65536) ∧ (24 ≤ r → r < 32 → y.ln (r - 24) = w.toNat % 65536) ∧
    (32 ≤ r → r < 36 → (y.aw (r - 32)).toNat % 2 ^ 32 = w.toNat) ∧
    (36 ≤ r → r < 40 → (y.aw (r - 36)).toNat / 2 ^ 32 % 2 ^ 32 = w.toNat) ∧
    (40 ≤ r → r < 44 → (y.aw (r - 40)).toNat / 2 ^ 64 = w.toNat % 256) ∧
    (44 ≤ r → r < 48 → y.aw (r - 44) = BitVec.ofInt 72 (w.toInt * 2 ^ 32))

/-- The part above bit n of Ak under SCALE, rounded down (12 R432). -/
def scaledOut (x : Dsp) (k n : Nat) : Int :=
  let sc : Int := (BitVec.ofNat 3 (x.stat.toNat / 2 ^ 7)).toInt
  if sc = 1 ∨ sc = 2 then x.av k * 2 ^ sc.toNat / 2 ^ n
  else if sc = -1 ∨ sc = -2 then x.av k / 2 ^ (-sc).toNat / 2 ^ n
  else x.av k / 2 ^ n

/-! Commands by what they can reach. -/

/-- Commands outside the resets and the start-up after a sleep, which begin a new history of events. -/
def KeepsHistory : Instr → Bool
  | .resetNAssert | .aonResetNAssert | .aonWake => false
  | _ => true

/-- Commands that cannot store to HBM or take a stack's contents away: not register writes of every kind, unit commands,
plan commands, instructions of a DSP core, jobs, memory items and what ends in one of these. -/
def QuietHbm : Instr → Bool
  | .registerWrite .. | .resetNAssert | .aonResetNAssert | .warmRestart .. | .unitStart .. | .unitDrain ..
  | .unitStop .. | .unitAbort .. | .unitRestart .. | .unitThaw .. | .drainTimeout .. | .fabricItem ..
  | .loadHost .. | .loadFlash .. | .planAbort .. | .planFetchDone .. | .planSwap .. | .planConfigureDone ..
  | .ocxoLost | .synLockAcquired .. | .synLockLost .. | .synRelocked .. | .acqChunk .. | .acqSegmentComplete ..
  | .breakStep .. | .breakResume .. | .dmaStart .. | .dmaAbort .. | .dmaDone .. | .busWrite ..
  | .reservedEncoding .. | .dspNop .. | .dspHalt .. | .dspRet .. | .dspReti .. | .dspLeave .. | .dspWait ..
  | .dspTflg .. | .dspBri .. | .dspBr .. | .dspCall .. | .dspLoop .. | .dspRep .. | .dspLdi .. | .dspAdd ..
  | .dspSub .. | .dspAdds .. | .dspSubs .. | .dspAnd .. | .dspOr .. | .dspXor .. | .dspNot .. | .dspNeg ..
  | .dspAbs .. | .dspCmp .. | .dspAsl .. | .dspAsr .. | .dspLsr .. | .dspMin .. | .dspMax .. | .dspAdd2 ..
  | .dspSub2 .. | .dspAdd2h .. | .dspSub2h .. | .dspAddi .. | .dspCmpi .. | .dspBfly .. | .dspBflyh ..
  | .dspClr .. | .dspAdda .. | .dspSuba .. | .dspTfra .. | .dspNega .. | .dspAbsa .. | .dspAsla .. | .dspAsra ..
  | .dspAddd .. | .dspSubd .. | .dspSata .. | .dspCmpa .. | .dspMpyi .. | .dspMaci .. | .dspMac .. | .dspMsu ..
  | .dspMpy .. | .dspMove .. | .dspQmac .. | .dspQmsu .. | .dspQmpy .. | .dspCmac .. | .dspCmsu .. | .dspCmpy ..
  | .dspCmacj .. | .dspCmpyj .. | .dspTap .. | .dspLd .. | .dspSt .. | .dspMov .. | .dspWrs .. | .dspRds ..
  | .dspPack .. | .dspMov16 .. | .dspIn .. | .dspOut .. | .dspClose .. | .dspSkipi .. | .submit ..
  | .cmpJobAbort .. | .cmpJobFlush .. | .cmpJobDone .. | .hbmTrained .. | .hbmFreqDone | .hbmMemoryItem ..
  | .hbmStackThaw .. | .windowAccess .. | .smbWrite .. | .pwrWake .. | .runDurationEnd .. | .sleep .. | .aonWake
  | .autoSleepAttempt | .thermalSample .. | .routeCreditRecovered .. => false
  | _ => true

end Sys2Proof.Machine
end

