-- ==== Sys2Proof/Certificates/Slice0/Obligations.lean ====
section
/-! DEFINITION. The statements about the model, by chapter of the specification. -/

open Sys2Proof Sys2Proof.Machine

/-- The step of a block: the command at the front of the queue, with the queue's rest. -/
def Obligations.StepRunsFront : Prop :=
  ∀ (s : State) (c : Instr) (rest : List Instr), Machine.step { s with pending := c :: rest } = exec c { s with pending := rest }

/-- The step on an empty queue (the model's choice, log 1; what a tick adds: 03 R131, R134, R135). -/
def Obligations.StepIdles : Prop :=
  ∀ (s : State), s.pending = [] →
      ∃ t, Machine.step s = .next t ∧ t.pending = [] ∧ t.units = s.units ∧ t.plan = s.plan ∧ t.hbm = s.hbm ∧
        t.events = s.events ∧ t.host = s.host ∧ t.dsp = s.dsp ∧ t.free = s.free ∧
        (s.time.phaseAdj = 0 → s.time.mode = .full → nowTotal t = (nowTotal s + s.time.rate.toNat) % 2 ^ 112) ∧
        (s.time.mode = .coarse → t.time.coarseOdd = !s.time.coarseOdd ∧
          nowTotal t = (nowTotal s + (if s.time.coarseOdd then 13 else 12) * s.time.rate.toNat) % 2 ^ 112) ∧
        (s.time.mode = .rc → nowTotal t = (nowTotal s + 50 * nominalRate) % 2 ^ 112) ∧
        (s.time.mode = .stopped → nowTotal t = nowTotal s)

/-- 22 R655, R658; 01 R43, R51; 15 R510. The values that the specification leaves open at reset are the model's (logs 3, 4, 30). -/
def Obligations.ResetHasInvariant : Prop :=
  MachineInv State.reset ∧ (∀ (r : Reg) (i j : Nat), rd State.reset r i j = r.resetVal i j) ∧
    (∀ u, epochOf State.reset u = 0 ∧ (ustate State.reset u = .off ∨ (ustate State.reset u = .running ∧ alwaysOn u = true))) ∧
    State.reset.plan.running = none ∧ State.reset.events = [] ∧ State.reset.nextEvent = 1 ∧ State.reset.pending = [] ∧
    (∀ a, hbmByte State.reset a = 0)

/-- The invariant of the model's containers, kept by every command and by the tick. -/
def Obligations.StepKeepsInvariant : Prop :=
  ∀ (s t : State), MachineInv s → Machine.step s = .next t → MachineInv t

/-- No command of this block stops the machine, and none is added to or taken from the queue by a meaning. -/
def Obligations.CommandsKeepQueue : Prop :=
  ∀ (c : Instr) (s : State), ∃ t, exec c s = .next t ∧ t.pending = s.pending

/-- 13 R458 to R478: decode of encode, with every operand at every value the encoding admits. -/
def Obligations.DspDecodeEncode : Prop :=
  ∀ op : DspOp, op.fits = true → dspDecode (dspEncode op) = some op

/-- 13 R459: every encoding whose zero bits are not zero is reserved, so decoding loses no bit. -/
def Obligations.DspEncodeDecode : Prop :=
  ∀ (w : Word) (op : DspOp), dspDecode w = some op → op.fits = true ∧ dspEncode op = w

/-- 13 R464 to R478. -/
def Obligations.DspWordsDecode : Prop :=
  dspDecode 0x00000000 = some .nop ∧ dspDecode 0x01000000 = some .halt ∧ dspDecode 0x06000006 = some (.tflg 1 2) ∧
  dspDecode 0x14800123 = some (.br 9 0x123) ∧ dspDecode 0x20001403 = some (.loop false 5 4) ∧
  dspDecode 0x32C01234 = some (.ldi 0 true 3 0x1234) ∧ dspDecode 0x401A4000 = some (.alu .add 1 5 1 0 0) ∧
  dspDecode 0x51600000 = some (.acc .adda 1 2 0 0 0) ∧ dspDecode 0x80000000 = some (.cplx .cmac 0 0 0 none none) ∧
  dspDecode 0xA2184000 = some (.ld 1 3 0 1 0) ∧ dspDecode 0xC000000B = some (.strIn (.reg 3) 1) ∧
  dspDecode 0x08000000 = none ∧ dspDecode 0xD0000000 = none ∧ dspDecode 0x00000001 = none

/-- The HBM frame of every command that the predicate QuietHbm names. -/
def Obligations.QuietCommandsKeepMemory : Prop :=
  ∀ (c : Instr) (s t : State), QuietHbm c = true → exec c s = .next t → t.hbm.mem = s.hbm.mem ∧
      ∀ p, memGet (hbmDefault t) t.hbm.mem p = memGet (hbmDefault s) s.hbm.mem p

/-- 01 R51, R52: the history of committed events only grows while MAIN stays powered. -/
def Obligations.EventsOnlyGrow : Prop :=
  ∀ (c : Instr) (s t : State), KeepsHistory c = true → exec c s = .next t → ∃ new, t.events = new ++ s.events

/-- 00 R4, R12 (code RC) and 24 R691, R692: what RC_REGISTER_READ and LATCHED_REGISTER_READ return and leave. -/
def Obligations.RegisterReadsComplete : Prop :=
  (∀ (s : State) (ag : AgentId) (off i j : Nat) (r : Reg),
      mainUp s = true → off % 4 = 0 → (blockAt off).isSome = true → absentAt s off = false →
      regAt off = some (r, i, j) → r.info.rc ≠ 0 → latches r = false → ownRead r = false → inHeader off = false →
      (unitAt off).all (fun u => ustate s u != .off) = true →
      ∃ t, exec (.rcRegisterRead ag off) s = .next t ∧ t.rdata = [regShown ag s r i j] ∧
        rd t r i j = rd s r i j &&& ~~~(BitVec.ofNat 32 r.info.rc) ∧
        t = { s with rdata := t.rdata, regs := t.regs } ∧
        ∀ o, o ≠ r.off i j → spGet t.regs o 0 = spGet s.regs o 0) ∧
  (∀ (s : State) (ag : AgentId) (n : Nat), mainUp s = true → n < 6 → ustate s 0x010 ≠ .off →
      ∃ t, exec (.rcRegisterRead ag (Reg.off .synStatus n 0)) s = .next t ∧
        t.rdata = [BitVec.ofNat 32 ((synOf s n).lock + (synOf s n).lossCount * 2 ^ 8 + b2n ((synOf s n).current != (synOf s n).target) * 2 ^ 16)] ∧
        (synOf t n).lossCount = 0 ∧ (synOf t n).lock = (synOf s n).lock ∧ (∀ m, m ≠ n → synOf t m = synOf s m) ∧
        t = { s with rdata := t.rdata, time := { s.time with syn := t.time.syn } }) ∧
  (∀ (s : State) (ag : AgentId) (u : Nat), mainUp s = true → unitPresent s u = true →
      ∃ t, exec (.rcRegisterRead ag (hdrOff u + 0x14)) s = .next t ∧
        t.rdata = [BitVec.ofNat 32 ((unit s u).cause + (unit s u).faultCount * 2 ^ 8 + (unit s u).detail * 2 ^ 16)] ∧
        unit t u = { unit s u with faultCount := 0 } ∧ (∀ k, k ≠ u → unit t k = unit s k) ∧
        t = { s with rdata := t.rdata, units := t.units }) ∧
  (∀ (s : State) (ag : AgentId) (i : Nat) (r : Reg),
      mainUp s = true → (blockAt (r.off i 0)).isSome = true → absentAt s (r.off i 0) = false →
      regAt (r.off i 0) = some (r, i, 0) → latches r = true → inHeader (r.off i 0) = false →
      (unitAt (r.off i 0)).all (fun u => ustate s u != .off) = true →
      ∃ t, exec (.latchedRegisterRead ag (r.off i 0)) s = .next t ∧ t.rdata = [regShown ag s r i 0] ∧
        (∀ k, 0 < k → k < r.info.n2 → spGet t.latch (r.off i k) 0 = regShown ag s r i k) ∧
        t = { s with rdata := t.rdata, latch := t.latch }) ∧
  (∀ (s : State) (ag : AgentId) (i k : Nat) (r : Reg),
      mainUp s = true → 0 < k → (blockAt (r.off i k)).isSome = true → absentAt s (r.off i k) = false →
      regAt (r.off i k) = some (r, i, k) → latches r = true → inHeader (r.off i k) = false →
      (unitAt (r.off i k)).all (fun u => ustate s u != .off) = true →
      exec (.latchedRegisterRead ag (r.off i k)) s = .next { s with rdata := [spGet s.latch (r.off i k) 0] }) ∧
  (∀ (s : State) (ag : AgentId) (u : Nat), mainUp s = true → unitPresent s u = true →
      (∃ t, exec (.latchedRegisterRead ag (hdrOff u + 4)) s = .next t ∧
        t.rdata = [BitVec.ofNat 32 ((ustate s u).code + b2n (unit s u).cmdErr * 8 + (unit s u).abortResult * 16)] ∧
        spGet t.latch (hdrOff u + 8) 0 = epochOf s u ∧ t = { s with rdata := t.rdata, latch := t.latch }) ∧
      exec (.latchedRegisterRead ag (hdrOff u + 8)) s = .next { s with rdata := [spGet s.latch (hdrOff u + 8) 0] }) ∧
  (∀ (s : State) (ag : AgentId) (off : Nat), off % 4 = 0 →
      ((blockAt off).isNone = true ∨ absentAt s off = true ∨
        (inHeader off = false ∧ (unitAt off).any (fun u => ustate s u == .off) = true)) →
      exec (.rcRegisterRead ag off) s = .next { s with rdata := [0] } ∧
        exec (.latchedRegisterRead ag off) s = .next { s with rdata := [0] })

/-- 00 R12, R13, R15 and 17 R586, R587: what REGISTER_WRITE does to a register word, accepted and refused. -/
def Obligations.RegisterWritesComplete : Prop :=
  (∀ (s : State) (ag : AgentId) (off i j ecc : Nat) (v : BitVec 32) (good : Bool) (r : Reg),
      WriteOpen s ag off → off % 4 = 0 → regAt off = some (r, i, j) → ownEffect r = false → writeLogged s off = false →
      r.info.pl = 0 →
      ∃ t, exec (.registerWrite ag off v ecc good) s = .next t ∧ CodesFollowed r (rd s r i j) v (rd t r i j) ∧
        (∀ o, o ≠ r.off i j → spGet t.regs o 0 = spGet s.regs o 0) ∧ t = { s with regs := t.regs }) ∧
  (∀ (s : State) (ag : AgentId) (off i j ecc : Nat) (v : BitVec 32) (good : Bool) (r : Reg),
      WriteOpen s ag off → off % 4 = 0 → regAt off = some (r, i, j) → ownEffect r = false → writeLogged s off = true →
      writable r = true → r.info.pl = 0 → s.mgt.log.length < auditSize →
      ∃ t, exec (.registerWrite ag off v ecc good) s = .next t ∧ CodesFollowed r (rd s r i j) v (rd t r i j) ∧
        Audited s t 0x01 ag 0 off v ∧
        (∀ o, o ≠ r.off i j → o ∉ auditOffs → spGet t.regs o 0 = spGet s.regs o 0)) ∧
  (∀ (s : State) (ag : AgentId) (off i j ecc : Nat) (v : BitVec 32) (good : Bool) (r : Reg),
      WriteOpen s ag off → off % 4 = 0 → regAt off = some (r, i, j) → ownEffect r = false → writable r = false →
      r.info.pl ≠ 0 → s.mgt.log.length < auditSize →
      ∃ t, exec (.registerWrite ag off v ecc good) s = .next t ∧ Audited s t 0x02 ag 3 off v ∧
        (∀ o, o ∉ auditOffs → spGet t.regs o 0 = spGet s.regs o 0)) ∧
  (∀ (s : State) (ag : AgentId) (a j ecc : Nat) (v : BitVec 32) (good : Bool), a < 4 → j < 5 →
      WriteOpen s ag (Reg.off .acqSrcCfg a j) → writeLogged s (Reg.off .acqSrcCfg a j) = false → acqRuns s a = false →
      mixedRes .acqSrcCfg a j v s ≠ 0 → s.mgt.log.length < auditSize →
      ∃ t, exec (.registerWrite ag (Reg.off .acqSrcCfg a j) v ecc good) s = .next t ∧
        CodesFollowed .acqSrcCfg (rd s .acqSrcCfg a j) v (rd t .acqSrcCfg a j) ∧
        Audited s t 0x02 ag 3 (Reg.off .acqSrcCfg a j) v ∧
        (∀ o, o ≠ Reg.off .acqSrcCfg a j → o ∉ auditOffs → spGet t.regs o 0 = spGet s.regs o 0)) ∧
  (∀ (s : State) (ag : AgentId) (off ecc c : Nat) (v : BitVec 32) (good : Bool),
      mainUp s = true → off % 4 = 0 → accessRefusal s ag off = some c → s.mgt.log.length < auditSize →
      ∃ t, exec (.registerWrite ag off v ecc good) s = .next t ∧ Audited s t 0x02 ag c off v ∧
        ∀ o, o ∉ auditOffs → spGet t.regs o 0 = spGet s.regs o 0) ∧
  (∀ (s : State) (ag : AgentId) (off ecc : Nat) (v : BitVec 32) (good : Bool), WriteOpen s ag off → off % 4 = 0 →
      exec (.registerWrite ag off v ecc good) s =
        .next (let r := busEff ag off v ecc good s;
          let x := (if (r.2 = 0 ∨ r.2 = 97) ∧ writeLogged s off = true then audit 0x01 ag 0 off v.toNat r.1 else r.1);
          if r.2 = 0 ∨ r.2 = 99 then x else refuse ag off v (if r.2 = 97 then 3 else r.2) x)) ∧
  (∀ (s : State) (ag : AgentId) (off ecc : Nat) (v : BitVec 32) (good : Bool), mainUp s = false →
      exec (.registerWrite ag off v ecc good) s = .next s)

/-- 12 R450, 17 R585 and 22 R655: the two access paths beside the host's, and the TAP reset. -/
def Obligations.BusAndSmbusComplete : Prop :=
  (∀ (s : State) (c : Nat) (a d : Word), c < 24 → (dspOf s c).bus = .asked false a d →
      ∃ t, exec (.busRead c) s = .next t ∧
        (dspOf t c).bus = .answered false false (readReg (coreAgent c) (a.toNat / 4 * 4) s).1 ∧
        (∀ k, k ≠ c → dspOf t k = dspOf (readReg (coreAgent c) (a.toNat / 4 * 4) s).2 k) ∧
        t = { (readReg (coreAgent c) (a.toNat / 4 * 4) s).2 with dsp := t.dsp }) ∧
  (∀ (s : State) (c ecc : Nat) (good : Bool) (a d : Word), c < 24 → (dspOf s c).bus = .asked true a d →
      ∃ t, exec (.busWrite c ecc good) s = .next t ∧
        (dspOf t c).bus = .answered true (busWrite (coreAgent c) (a.toNat / 4 * 4) d ecc good s).2 0 ∧
        (∀ k, k ≠ c → dspOf t k = dspOf (busWrite (coreAgent c) (a.toNat / 4 * 4) d ecc good s).1 k) ∧
        t = { (busWrite (coreAgent c) (a.toNat / 4 * 4) d ecc good s).1 with dsp := t.dsp }) ∧
  (∀ (s : State) (addr : Nat), mainUp s = true →
      ∃ t, exec (.smbSetAddr addr true) s = .next t ∧ t.mgt.smbAddr = addr % 2 ^ 32 / 4 * 4 ∧
        t = { s with mgt := { s.mgt with smbAddr := t.mgt.smbAddr } }) ∧
  (∀ (s : State), mainUp s = true →
      ∃ t, exec .smbRead s = .next t ∧ t.rdata = [(readReg 0x50 s.mgt.smbAddr s).1] ∧
        t.mgt.smbAddr = ((readReg 0x50 s.mgt.smbAddr s).2.mgt.smbAddr + 4) % 2 ^ 32 ∧ t.mgt.smbRefused = false ∧
        t.regs = (readReg 0x50 s.mgt.smbAddr s).2.regs) ∧
  (∀ (s : State) (v : BitVec 32) (ecc : Nat) (good : Bool), mainUp s = true →
      ∃ t, exec (.smbWrite v true ecc good) s = .next t ∧
        t.mgt.smbAddr = ((busWrite 0x50 s.mgt.smbAddr v ecc good s).1.mgt.smbAddr + 4) % 2 ^ 32 ∧
        t.mgt.smbRefused = (busWrite 0x50 s.mgt.smbAddr v ecc good s).2 ∧
        t.regs = (busWrite 0x50 s.mgt.smbAddr v ecc good s).1.regs ∧
        t.units = (busWrite 0x50 s.mgt.smbAddr v ecc good s).1.units) ∧
  (∀ (s : State) (v : BitVec 32) (addr ecc : Nat) (good : Bool), mainUp s = true →
      ∃ t, exec (.smbWrite v false ecc good) s = .next t ∧ exec (.smbSetAddr addr false) s = .next t ∧
        getF t .mgtSmbStatus 0 0 8 8 = satU 8 (getF s .mgtSmbStatus 0 0 8 8 + 1) ∧
        (∀ o, o ≠ Reg.off .mgtSmbStatus 0 0 → spGet t.regs o 0 = spGet s.regs o 0) ∧ t = { s with regs := t.regs }) ∧
  (∀ (s : State),
      ∃ t, exec .smbStatus s = .next t ∧ t = { s with rdata := t.rdata } ∧ t.rdata.length = 1 ∧
        (t.rdata.getD 0 0).toNat < 32 ∧ (t.rdata.getD 0 0).toNat.testBit 0 = s.mgt.smbRefused ∧
        (t.rdata.getD 0 0).toNat.testBit 1 = getB s .globalBootStatus 0 0 3 ∧
        (t.rdata.getD 0 0).toNat.testBit 2 = s.boot.faultN ∧
        (t.rdata.getD 0 0).toNat.testBit 3 = !(waitingFor s 0x50).isEmpty ∧
        (t.rdata.getD 0 0).toNat.testBit 4 = smbDoorbell s) ∧
  (∀ (s : State),
      ∃ t, exec .smbusClockTimeout s = .next t ∧ t.mgt = { s.mgt with smbAddr := 0, smbRefused := false } ∧
        getF t .mgtSmbStatus 0 0 16 8 = satU 8 (getF s .mgtSmbStatus 0 0 16 8 + 1) ∧
        (∀ o, o ≠ Reg.off .mgtSmbStatus 0 0 → spGet t.regs o 0 = spGet s.regs o 0) ∧
        t = { s with regs := t.regs, mgt := t.mgt }) ∧
  (∀ (s : State), exec .trstNAssert s = .next { s with boot := { s.boot with tapReset := true } })

/-- 22 R654 to R657, 00 R20 and 17 R585. The queue and the counter of free values are the model's own state (log 1). -/
def Obligations.ResetPinsComplete : Prop :=
  (∀ (s : State), s.boot.resetN = true →
      ∃ t, exec .resetNAssert s = .next t ∧ t.boot.resetN = false ∧ t.boot.fused = false ∧ t.units = [] ∧
        t.plan = PlanState.reset ∧ t.hbm.mem = [] ∧ nowTotal t = 0 ∧ t.time.mode = .stopped ∧ t.mgt = MgtState.reset ∧ t.events = [] ∧
        t.dsp = State.reset.dsp ∧ t.ing = State.reset.ing ∧ t.pending = s.pending ∧ t.free = s.free ∧
        getF t .globalBootStatus 0 0 10 2 = (if s.boot.aonResetN then 0 else 1)) ∧
  (∀ (s : State) (r : Reg) (i j : Nat), s.boot.resetN = true → regAt (r.off i j) = some (r, i, j) →
      r ≠ .pwrStatus → r ≠ .pwrSleepCfg → r ≠ .globalBootStatus →
      ∃ t, exec .resetNAssert s = .next t ∧ rd t r i j = r.resetVal i j) ∧
  (∀ (s : State) (e st : Nat), s.boot.resetN = false → e < 64 → st < 8 →
      ∃ t, exec (.resetNRelease e st) s = .next t ∧ t.boot.resetN = true ∧ t.boot.engineId = e ∧ t.boot.smbStrap = st ∧
        t.units = s.units ∧ t.time = s.time ∧ getF t .pwrStatus 0 0 4 2 = 0) ∧
  (∀ (s : State), s.boot.aonResetN = true →
      ∃ t, exec .aonResetNAssert s = .next t ∧ t.boot.aonResetN = false ∧ t.pwr = PwrState.reset ∧ t.units = [] ∧
        t.pending = s.pending ∧ getF t .globalBootStatus 0 0 10 2 = 1 ∧ rd t .pwrStatus 0 0 = Reg.resetVal .pwrStatus 0 0) ∧
  (∀ (s : State),
      ∃ t, exec .aonResetNRelease s = .next t ∧ t.boot.aonResetN = true ∧ t.regs = s.regs ∧ t.units = s.units)

/-- 22 R655, R665; 16 R545; 17 R575. -/
def Obligations.PcieResetsComplete : Prop :=
  (∀ (s : State), mainUp s = true → s.boot.perstN = true →
      ∃ t, exec .perstNAssert s = .next t ∧ t.boot.perstN = false ∧ t.boot.linkTraining = false ∧
        t.host.busMaster = [] ∧ t.host.msix = [] ∧ rd t .hostLink 0 0 = 0 ∧ (∀ f, f < 16 → rd t .hostWin 0 f = 0)) ∧
  (∀ (s : State),
      exec .perstNRelease s = .next { s with boot := { s.boot with perstN := true, linkTraining := mainUp s } }) ∧
  (∀ (s : State), mainUp s = true →
      ∃ t, exec .pcieHotReset s = .next t ∧ t.boot.perstN = s.boot.perstN ∧
        t.host.busMaster = [] ∧ t.host.msix = [] ∧ rd t .hostLink 0 0 = 0 ∧ (∀ f, f < 16 → rd t .hostWin 0 f = 0)) ∧
  (∀ (s : State) (fn : Nat), mainUp s = true → 0 < fn → fn < 16 →
      ∃ t, exec (.functionLevelReset fn) s = .next t ∧ rd t .hostWin 0 fn = 0 ∧
        (∀ f, f < 16 → f ≠ fn → rd t .hostWin 0 f = rd s .hostWin 0 f) ∧
        (∀ e ∈ t.host.msix, e.1 / 8192 ≠ fn) ∧ t.host.busMaster = s.host.busMaster ∧ t.units = s.units) ∧
  (∀ (s : State) (fn : Nat), fn ∈ s.host.vfEnabled →
      ∃ t, exec (.virtualFunctionDisable fn) s = .next t ∧ fn ∉ t.host.vfEnabled ∧ fn ∉ t.host.busMaster ∧
        ∀ f, f ≠ fn → (f ∈ t.host.vfEnabled ↔ f ∈ s.host.vfEnabled))

/-- 22 R658, R660, R663, R669, R670 and 17 R583. -/
def Obligations.StartUpCommandsComplete : Prop :=
  (∀ (s : State), s.boot.fused = false → s.boot.resetN = true → s.boot.aonResetN = true → s.pwr.asleep = false →
      s.pwr.shutdown = false →
      ∃ t, exec .fusePhaseDone s = .next t ∧ t.boot.fused = true ∧ t.boot.linkTraining = s.boot.perstN ∧ bootPhase t = 1 ∧
        getF t .mgtMcStatus 0 0 0 3 = 1 ∧ getF t .mgtMcStatus 0 1 0 3 = 1) ∧
  (∀ (s : State), bootPhase s = 1 → (synOf s 0).lock ≠ 2 →
      ∃ t, exec .bootStalled s = .next t ∧ bootPhase t = 5 ∧ t.units = s.units ∧ t.time = s.time) ∧
  (∀ (s : State) (m : Nat) (okA okB : Bool), m < 2 →
      (getF s .mgtMcStatus 0 m 0 3 = 0 ∨ getF s .mgtMcStatus 0 m 0 3 = 1) →
      ∃ t, exec (.mcFirmwareLoaded m okA okB) s = .next t ∧
        getF t .mgtMcStatus 0 m 0 3 = (if okA || okB then 2 else 3) ∧
        getF t .mgtMcStatus 0 m 3 5 = (if okA || okB then 0 else 3) ∧
        getF t .globalBootStatus 0 0 (6 + 2 * m) 2 = (if okA then 1 else if okB then 2 else 0)) ∧
  (∀ (s : State) (ag : AgentId) (v : BitVec 32), WriteOpen s ag (Reg.off .globalResetCmd 0 0) →
      (ag = 0x01 ∨ ag = 0x20) → fld v 0 16 = 0x5752 → bit v 16 = true → s.boot.warm = none →
      ∃ t, exec (.warmRestart ag v) s = .next t ∧ getF t .globalBootStatus 0 0 10 2 = 3 ∧
        (∀ u ∈ presentUnits s, alwaysOn u = false → unitKind u ≠ .pc → ustate t u = .off) ∧ t.pwr.runs = [])

/-- 01 R38 with 24 R693. No survey run is in progress, which could power a resting unit down at once (20 R626). -/
def Obligations.UnitCommandsComplete : Prop :=
  (∀ (s : State) (ag : AgentId) (u : Nat), WriteOpen s ag (hdrOff u + 0x0C) → s.pwr.runs = [] → 0x080 ≤ u → u < 0x090 →
      (unit s u).policy ≠ 2 → ustate s u = .ready →
      ∃ t, exec (.unitStart ag u) s = .next t ∧ ustate t u = .running ∧ epochOf t u = epochOf s u + 1) ∧
  (∀ (s : State) (ag : AgentId) (u : Nat), WriteOpen s ag (hdrOff u + 0x0C) → s.pwr.runs = [] → alwaysOn u = false →
      ustate s u = .running →
      (∃ t, exec (.unitDrain ag u) s = .next t ∧ ustate t u = .draining) ∧
      (∃ t, exec (.unitStop ag u) s = .next t ∧ ustate t u = .draining)) ∧
  (∀ (s : State) (ag : AgentId) (u : Nat), WriteOpen s ag (hdrOff u + 0x0C) → s.pwr.runs = [] → alwaysOn u = false →
      (ustate s u = .running ∨ ustate s u = .draining) →
      ∃ t, exec (.unitAbort ag u) s = .next t ∧ ustate t u = .ready ∧
        (unit t u).abortResult = (if unitPartial s u then 1 else 2)) ∧
  (∀ (s : State) (ag : AgentId) (u : Nat), WriteOpen s ag (hdrOff u + 0x0C) → s.pwr.runs = [] → 0x080 ≤ u → u < 0x090 →
      ustate s u = .fault → clocked s u = true →
      ∃ t, exec (.unitRestart ag u true) s = .next t ∧ ustate t u = .ready ∧ Raised s t 0x0E13 0x210) ∧
  (∀ (s : State) (ag : AgentId) (u : Nat), WriteOpen s ag (hdrOff u + 0x0C) → s.pwr.runs = [] → alwaysOn u = false →
      unitKind u ≠ .pc → ustate s u = .frozen →
      ∃ t, exec (.unitThaw ag u) s = .next t ∧ ustate t u = .ready ∧ Raised s t 0x0E13 0x210) ∧
  (∀ (s : State) (ag : AgentId) (u : Nat), WriteOpen s ag (hdrOff u + 0x0C) → alwaysOn u = false → (unit s u).policy ≠ 2 →
      (ustate s u = .running ∨ ustate s u = .draining) →
      ∃ t, exec (.unitStart ag u) s = .next t ∧ ustate t u = ustate s u ∧ (unit t u).cmdErr = true ∧
        epochOf t u = epochOf s u)

/-- 01 R38, R40, R48; 02 R121, R122; 20 R623, R626; 21 R638, R645. -/
def Obligations.UnitEventsComplete : Prop :=
  (∀ (s : State) (u : Nat), ustate s u = .draining → unitIdle s u = true → u ∉ s.plan.rearm →
      (∀ r ∈ s.pwr.runs, u ∉ r.units) →
      ∃ t, exec (.drainComplete u) s = .next t ∧ ustate t u = .ready) ∧
  (∀ (s : State) (u : Nat), ustate s u = .draining → unitIdle s u = true → u ∈ s.plan.rearm → 0x080 ≤ u → u < 0x090 →
      (∀ r ∈ s.pwr.runs, u ∉ r.units) →
      ∃ t, exec (.drainComplete u) s = .next t ∧ ustate t u = .running ∧ u ∉ t.plan.rearm) ∧
  (∀ (s : State) (u : Nat) (r : SurveyRun), ustate s u = .draining → unitIdle s u = true → u ∉ s.plan.rearm →
      s.pwr.runs = [r] → r.draining = true → r.units = [u] →
      ∃ t, exec (.drainComplete u) s = .next t ∧ ustate t u = .off ∧ t.pwr.runs = [] ∧ Raised s t 0x1102 0x240) ∧
  (∀ (s : State) (u : Nat), (ustate s u ≠ .draining ∨ unitIdle s u = false) → exec (.drainComplete u) s = .next s) ∧
  (∀ (s : State) (u : Nat), ustate s u = .draining → (∀ j, s.plan.load = some j → planPhase s ≠ 4 ∨ u ∉ j.changed) →
      ∃ t, exec (.drainTimeout u) s = .next t ∧ ustate t u = .fault ∧ (unit t u).cause = 6 ∧ Raised s t 0x0E11 0x210) ∧
  (∀ (s : State) (u : Nat) (j : LoadJob), ustate s u = .draining → s.plan.load = some j → planPhase s = 4 → u ∈ j.changed →
      j.boot = false → j.before = [] → s.plan.deferred = [] →
      ∃ t, exec (.drainTimeout u) s = .next t ∧ ustate t u = .fault ∧ (unit t u).cause = 6 ∧ t.plan.load = none ∧
        planPhase t = 0 ∧ getF t .globalPlanStatus 0 0 4 2 = 2 ∧ getF t .globalPlanStatus 0 0 16 16 = 0x12E0 ∧
        Raised s t 0x12E0 0x250) ∧
  (∀ (s : State) (u : Nat), ustate s u ≠ .draining → exec (.drainTimeout u) s = .next s) ∧
  (∀ (s : State) (u : Nat), ustate s u = .ready → (unit s u).policy = 1 →
      ∃ t, exec (.gateDelayExpiry u) s = .next t ∧ ustate t u = .gated ∧ epochOf t u = epochOf s u + 1 ∧
        (rd t .pwrCount 0 3).toNat = satU 32 ((rd s .pwrCount 0 3).toNat + 1)) ∧
  (∀ (s : State) (u k : Nat) (d : BitVec 32), d ≠ epochOf s u → u ∉ s.skew →
      ∃ t, exec (.stateSkew u d k) s = .next t ∧
        RaisedData s t 0x0E10 0x210 [.u16 u, .u32 (epochOf s u).toNat, .u32 d.toNat, .u16 k] ∧ t.skew = s.skew ++ [u] ∧
        getB t .globalFaultStatus 0 0 10 = true) ∧
  (∀ (s : State) (u k : Nat) (d : BitVec 32), d ≠ epochOf s u → u ∈ s.skew → exec (.stateSkew u d k) s = .next s) ∧
  (∀ (s : State) (u k : Nat),
      ∃ t, exec (.stateSkew u (epochOf s u) k) s = .next t ∧ t = { s with skew := s.skew.filter (· != u) }) ∧
  (∀ (s : State) (k : Nat) (r : RateRec), s.rates[k]? = some r → r.count = 0 →
      exec (.rateLimitExpiry k) s = .next { s with rates := s.rates.eraseIdx k }) ∧
  (∀ (s : State) (k : Nat) (r : RateRec), s.rates[k]? = some r → r.count ≠ 0 →
      ∃ t, exec (.rateLimitExpiry k) s = .next t ∧ RaisedData s t r.code r.unit (rateData r s).1 ∧
        ∃ w ∈ t.rates, w.code = r.code ∧ w.unit = r.unit ∧ w.qual = r.qual)

/-- 02 R111 to R113, R119, R121, R125. -/
def Obligations.PlanCommandsComplete : Prop :=
  (∀ (s : State) (ag : AgentId), WriteOpen s ag (Reg.off .globalPlanCmd 0 0) → planPhase s = 0 →
      1024 ≤ planLen s → planLen s ≤ 33554432 → planLen s % 8 = 0 →
      ∃ t, exec (.loadHost ag) s = .next t ∧ planPhase t = 1 ∧ getB t .globalPlanStatus 0 0 3 = true ∧
        (∃ j, t.plan.load = some j ∧ j.source = 0 ∧ j.length = planLen s ∧ j.origin = ag) ∧
        t.plan.running = s.plan.running ∧ planEpoch t = planEpoch s) ∧
  (∀ (s : State) (ag : AgentId), WriteOpen s ag (Reg.off .globalPlanCmd 0 0) → planPhase s = 0 → s.plan.deferred = [] →
      (planLen s < 1024 ∨ 33554432 < planLen s ∨ planLen s % 8 ≠ 0) →
      ∃ t, exec (.loadHost ag) s = .next t ∧ planPhase t = 0 ∧ t.plan.load = none ∧ Raised s t 0x1203 0x250 ∧
        getF t .globalPlanStatus 0 0 4 2 = 2 ∧ t.plan.running = s.plan.running) ∧
  (∀ (s : State) (ag : AgentId) (slot : Nat), WriteOpen s ag (Reg.off .globalPlanCmd 0 0) → planPhase s ≠ 0 →
      (∃ t, exec (.loadHost ag) s = .next t ∧ t.plan = s.plan ∧ planPhase t = planPhase s ∧ Raised s t 0x12F0 0x250) ∧
      (∃ t, exec (.loadFlash ag slot) s = .next t ∧ t.plan = s.plan ∧ planPhase t = planPhase s ∧
        Raised s t 0x12F0 0x250)) ∧
  (∀ (s : State) (ag : AgentId) (slot : Nat), WriteOpen s ag (Reg.off .globalPlanCmd 0 0) → planPhase s = 0 → slot < 2 →
      ∃ t, exec (.loadFlash ag slot) s = .next t ∧ planPhase t = 1 ∧
        (∃ j, t.plan.load = some j ∧ j.source = slot + 1) ∧ t.plan.running = s.plan.running) ∧
  (∀ (s : State) (ag : AgentId) (j : LoadJob), WriteOpen s ag (Reg.off .globalPlanCmd 0 0) → s.plan.load = some j →
      0 < planPhase s → planPhase s < 5 → j.boot = false → s.plan.deferred = [] → j.before = [] →
      ∃ t, exec (.planAbort ag) s = .next t ∧ t.plan.load = none ∧ planPhase t = 0 ∧ Raised s t 0x12F2 0x250 ∧
        getF t .globalPlanStatus 0 0 6 2 = 1 ∧ getF t .globalPlanStatus 0 0 16 16 = 0x12F2 ∧
        t.plan.running = s.plan.running) ∧
  (∀ (s : State) (ag : AgentId), WriteOpen s ag (Reg.off .globalPlanCmd 0 0) → (s.plan.load = none ∨ 5 ≤ planPhase s) →
      ∃ t, exec (.planAbort ag) s = .next t ∧ t.plan = s.plan ∧ planPhase t = planPhase s ∧
        getF t .globalPlanStatus 0 0 6 2 = 2) ∧
  (∀ (s : State) (j : LoadJob) (bytes : List Byte) (good : Bool) (c : Nat), s.plan.load = some j → planPhase s = 1 →
      j.boot = false → s.plan.deferred = [] → j.before = [] → c < 65536 →
      (loadFetched s j bytes good = .error c ∨
        (loadFetched s j bytes good).toOption.any (fun x =>
          decide (checkImage (hbmWrite (loaderAddr s) x.1 s) x.2 x.1 = .error c)) = true) →
      ∃ t, exec (.planFetchDone bytes good) s = .next t ∧ t.plan.load = none ∧ planPhase t = 0 ∧ Raised s t c 0x250 ∧
        getF t .globalPlanStatus 0 0 4 2 = 2 ∧ getF t .globalPlanStatus 0 0 16 16 = c ∧
        t.plan.running = s.plan.running) ∧
  (∀ (s : State) (j : LoadJob) (bytes : List Byte), s.plan.load = some j → planPhase s = 1 → j.source = 0 →
      j.boot = false → s.plan.deferred = [] → j.before = [] → (pcsNow s).isEmpty = false →
      ∃ t, exec (.planFetchDone bytes false) s = .next t ∧ t.plan.load = none ∧ planPhase t = 0 ∧
        Raised s t 0x12F1 0x250 ∧ getF t .globalPlanStatus 0 0 4 2 = 2 ∧ t.plan.running = s.plan.running) ∧
  (∀ (s : State) (j : LoadJob) (b bytes : List Byte) (n : Nat) (p : PlanImg), s.plan.load = some j → planPhase s = 1 →
      loadFetched s j bytes true = .ok (b, n) → checkImage (hbmWrite (loaderAddr s) b s) n b = .ok p →
      ∃ t, exec (.planFetchDone bytes true) s = .next t ∧ planPhase t = 4 ∧ t.plan.running = s.plan.running ∧
        (∃ k, t.plan.load = some k ∧ k.img = some p ∧ k.bytes = b ∧ k.origin = j.origin)) ∧
  (∀ (s : State) (j : LoadJob) (p : PlanImg) (us : Nat), s.plan.load = some j → j.img = some p → planPhase s = 4 →
      j.changed.any (fun u => !alwaysOn u && (ustate s u).busy) = false → Nat.land p.pcMask (pcsFenced s) = 0 →
      ∃ t, exec (.planSwap us) s = .next t ∧ planPhase t = 6 ∧ t.plan.running = some p ∧
        planEpoch t = planEpoch s + 1 ∧ t.plan.owners = p.owners ∧ t.plan.regions = p.regions ∧
        t.plan.image = j.bytes) ∧
  (∀ (s : State) (j : LoadJob) (p : PlanImg) (us : Nat), s.plan.load = some j → j.img = some p → planPhase s = 4 →
      j.changed.any (fun u => !alwaysOn u && (ustate s u).busy) = false → Nat.land p.pcMask (pcsFenced s) ≠ 0 →
      j.boot = false → s.plan.deferred = [] → j.before = [] →
      ∃ t, exec (.planSwap us) s = .next t ∧ planPhase t = 0 ∧ t.plan.load = none ∧ t.plan.running = s.plan.running ∧
        Raised s t 0x1271 0x250) ∧
  (∀ (s : State) (j : LoadJob) (p : PlanImg) (us : Nat) (bad : List Nat), s.plan.load = some j → j.img = some p →
      planPhase s = 6 → configClocked s j p = true → s.plan.deferred = [] →
      ∃ t, exec (.planConfigureDone us bad) s = .next t ∧ t.plan.load = none ∧ planPhase t = 0 ∧
        getF t .globalPlanStatus 0 0 4 2 = 1 ∧ getB t .globalBootStatus 0 0 3 = true ∧
        getB t .globalFaultStatus 0 0 6 = false)

/-- 03 R134, R135, R137, R138, R145, R167. -/
def Obligations.ReferenceClockCommandsComplete : Prop :=
  (∀ (s : State), s.time.ocxo = true → s.time.started = true →
      ∃ t, exec .ocxoLost s = .next t ∧ t.time.ocxo = false ∧ t.time.mode = .rc ∧ t.time.estHold = true ∧
        nowTotal t = nowTotal s) ∧
  (∀ (s : State), s.time.ocxo = true → mainUp s = true → (synOf s 0).everLocked = true → ustate s 0x010 = .running →
      ∃ t, exec .ocxoLost s = .next t ∧ ustate t 0x010 = .fault ∧ (unit t 0x010).cause = 10) ∧
  (∀ (s : State), s.time.mode = .rc →
      ∃ t, exec .ocxoReturned s = .next t ∧ t.time.ocxo = true ∧ t.time.mode = .coarse ∧ t.time.estHold = true ∧
        nowTotal t = nowTotal s) ∧
  (∀ (s : State) (level : Bool),
      ∃ t, exec (.ocxoReadyChange level) s = .next t ∧ t.time.ocxoReady = level ∧ nowTotal t = nowTotal s ∧
        (s.time.ocxoReady = true → level = false → getB s .timeCfg 0 0 2 = true →
          t.time.warmExpired = false ∧ t.time.warmStart = s.time.up)) ∧
  (∀ (s : State), ∃ t, exec .warmTimerExpiry s = .next t ∧ t.time.warmExpired = true ∧
      t.time = { s.time with warmExpired := true }) ∧
  (∀ (s : State) (drift : Int), s.time.qualified = true →
      ∃ t, exec (.driftGateEnd drift) s = .next t ∧ t.time.driftMeasured = true ∧
        rd t .timeMeas 0 2 = BitVec.ofNat 32 (unsgn 32 drift)) ∧
  (∀ (s : State) (drift : Int), s.time.qualified = false → exec (.driftGateEnd drift) s = .next s) ∧
  (∀ (s : State),
      ∃ t, exec .refLost s = .next t ∧ t.time.qualified = false ∧ t.time.errors = [] ∧
        getB t .timeStatus 0 0 4 = false ∧ nowTotal t = nowTotal s ∧
        (s.time.servo = .free ∨ s.time.servo = .holdover → t.time.servo = s.time.servo) ∧
        (s.time.servo = .acquire → s.time.everLocked = false →
          t.time.servo = .free ∧ RaisedData s t 0x0102 0x010 [.u16 0]) ∧
        (s.time.servo = .locked ∨ s.time.servo = .slew ∨ s.time.servo = .jumpWait ∨
            (s.time.servo = .acquire ∧ s.time.everLocked = true) →
          t.time.servo = .holdover ∧ RaisedData s t 0x0102 0x010 [.u16 3]))

/-- 03 R137 to R141, R146 to R152 and R167. -/
def Obligations.ServoCommandsComplete : Prop :=
  (∀ (s : State) (late : Nat) (f : Bool), refSel s ≠ 0 → ustate s 0x010 ≠ .fault → s.time.started = true →
      ∃ t, exec (.refInEdge late f) s = .next t ∧
        t.time.errors = (phaseError (nowTotal s + late) s :: s.time.errors).take 1000 ∧
        rd t .timeMeas 0 0 = BitVec.ofNat 32 (unsgn 32 (meanInt t.time.errors))) ∧
  (∀ (s : State) (late : Nat) (f : Bool), (refSel s = 0 ∨ ustate s 0x010 = .fault ∨ s.time.started = false) →
      exec (.refInEdge late f) s = .next s) ∧
  (∀ (s : State) (e : Int) (l : List Int), refSel s ≠ 0 → ustate s 0x010 ≠ .fault → s.time.servo = .free →
      s.time.errors = e :: l → s.time.setHeld = none →
      ∃ t, exec .refQualified s = .next t ∧ t.time.qualified = true ∧ t.time.servo = .acquire ∧
        getB t .timeStatus 0 0 4 = true ∧
        (lockWindow s < e.natAbs → nowTotal t = unsgn 112 (nowTotal s + psTotal e) ∧
          RaisedData s t 0x0105 0x010 [.s32 e, .u16 3]) ∧
        (e.natAbs ≤ lockWindow s → nowTotal t = nowTotal s)) ∧
  (∀ (s : State), refSel s ≠ 0 → ustate s 0x010 ≠ .fault → s.time.servo ≠ .holdover →
      (s.time.servo = .free → s.time.errors = [] ∨ s.time.setHeld ≠ none) →
      ∃ t, exec .refQualified s = .next t ∧ t.time = { s.time with qualified := true } ∧
        getB t .timeStatus 0 0 4 = true) ∧
  (∀ (s : State), refSel s ≠ 0 → ustate s 0x010 ≠ .fault → s.time.servo = .holdover →
      ∃ t, exec .refQualified s = .next t ∧ t.time.qualified = true ∧ t.time.jump = meanInt s.time.errors ∧
        RaisedData s t 0x0103 0x010 [.s32 (meanInt s.time.errors)] ∧
        t.time.servo = (if (meanInt s.time.errors).natAbs ≤ (rd s .timeJumpLimit 0 0).toNat then .slew else .jumpWait)) ∧
  (∀ (s : State) (ag : AgentId), WriteOpen s ag (Reg.off .timeCmd 0 0) → s.time.servo = .jumpWait →
      ∃ t, exec (.step ag) s = .next t ∧ t.time.servo = .acquire ∧ RaisedData s t 0x0105 0x010 [.s32 s.time.jump, .u16 0] ∧
        nowTotal t = unsgn 112 (nowTotal s + psTotal s.time.jump) ∧ t.time.steps = s.time.steps + 1) ∧
  (∀ (s : State) (ag : AgentId), WriteOpen s ag (Reg.off .timeCmd 0 0) → s.time.servo = .jumpWait →
      ∃ t, exec (.slew ag) s = .next t ∧ t.time.servo = .slew ∧ t.time.slewing = true ∧ nowTotal t = nowTotal s) ∧
  (∀ (s : State) (ag : AgentId), WriteOpen s ag (Reg.off .timeCmd 0 0) → s.time.servo ≠ .jumpWait →
      (∃ t, exec (.step ag) s = .next t ∧ t.time = s.time ∧ getB t .timeStatus 0 0 3 = true) ∧
      (∃ t, exec (.slew ag) s = .next t ∧ t.time = s.time ∧ getB t .timeStatus 0 0 3 = true)) ∧
  (∀ (s : State) (ag : AgentId), WriteOpen s ag (Reg.off .timeCmd 0 0) →
      ∃ t, exec (.set ag) s = .next t ∧ t.time.servo = .free ∧ t.time.setHeld = some (setSeconds s) ∧
        t.time.everLocked = false ∧ nowTotal t = nowTotal s) ∧
  (∀ (s : State) (sec : Nat), s.time.setHeld = some sec → s.time.started = true → sec < 2 ^ 48 →
      ∃ t, exec .setApplied s = .next t ∧ t.time.setHeld = none ∧ t.time.estHold = false ∧ Raised s t 0x0105 0x010 ∧
        nowTotal t = unsgn 112 (sec * 2 ^ 64 + (if s.time.qualified then psTotal (refOffset s) else 0)) ∧
        t.time.servo = (if s.time.qualified = true ∧ s.time.servo = .free then .acquire else s.time.servo)) ∧
  (∀ (s : State), (s.time.setHeld = none ∨ s.time.started = false) → exec .setApplied s = .next s)

/-- 03 R161 to R165 and R167. -/
def Obligations.SynchronisationCommandsComplete : Prop :=
  (∀ (s : State) (ag : AgentId), WriteOpen s ag (Reg.off .timeCmd 0 0) → syncRole s = 1 →
      640 ≤ getF s .timeSyncCfg 0 0 0 16 → s.time.servo ≠ .free → s.time.sync = none →
      (∃ t, exec (.syncLoad ag) s = .next t ∧ t.time.sync = some { load := true, seconds := setSeconds s, hop := 0 } ∧
        t.time.syncOut = s.time.syncOut ++ [syncFrame 1 0 (getF s .timeSyncCfg 0 0 0 16) (setSeconds s) 0]) ∧
      (∃ t j, exec (.syncCheck ag) s = .next t ∧ t.time.sync = some j ∧ j.load = false ∧ j.hop = 0 ∧
        t.time.syncOut = s.time.syncOut ++ [syncFrame 2 0 (getF s .timeSyncCfg 0 0 0 16) j.seconds 0])) ∧
  (∀ (s : State) (ag : AgentId), WriteOpen s ag (Reg.off .timeCmd 0 0) →
      (syncRole s ≠ 1 ∨ getF s .timeSyncCfg 0 0 0 16 < 640 ∨ s.time.servo = .free ∨ s.time.sync ≠ none) →
      (∃ t, exec (.syncLoad ag) s = .next t ∧ t.time = s.time ∧ getB t .timeStatus 0 0 3 = true) ∧
      (∃ t, exec (.syncCheck ag) s = .next t ∧ t.time = s.time ∧ getB t .timeStatus 0 0 3 = true)) ∧
  (∀ (s : State) (f : BitVec 96) (typ hop l sec : Nat), syncRole s ≠ 0 → syncFields f = (typ, hop, l, sec, 0) →
      s.time.servo ≠ .free → s.time.sync = none → (typ = 1 ∨ typ = 2) → hop ≤ 63 → 640 ≤ l →
      ∃ t, exec (.syncFrame f) s = .next t ∧ t.time.syncOut = s.time.syncOut ++ [syncFrame typ (hop + 1) l sec 0] ∧
        t.time.sync = some { load := typ == 1, seconds := sec, hop := hop } ∧ getF t .timeSyncCfg 0 0 16 8 = hop) ∧
  (∀ (s : State) (f : BitVec 96) (typ hop l sec bad : Nat), syncRole s ≠ 0 → syncFields f = (typ, hop, l, sec, bad) →
      s.time.servo ≠ .free → s.time.sync = none → (bad ≠ 0 ∨ (typ ≠ 1 ∧ typ ≠ 2) ∨ 63 < hop ∨ l < 640) →
      ∃ t, exec (.syncFrame f) s = .next t ∧ t.time.syncOut = s.time.syncOut ++ [syncFrame typ (hop + 1) l sec bad] ∧
        t.time.sync = none ∧ RaisedData s t 0x010A 0x010
          [.u16 (if bad ≠ 0 then 0 else if typ ≠ 1 ∧ typ ≠ 2 then 1 else if 63 < hop then 2 else 3)]) ∧
  (∀ (s : State) (f : BitVec 96) (typ hop l sec bad : Nat), syncRole s ≠ 0 → syncFields f = (typ, hop, l, sec, bad) →
      (s.time.servo = .free ∨ s.time.sync ≠ none) →
      exec (.syncFrame f) s = .next { s with time := { s.time with
        syncOut := s.time.syncOut ++ [syncFrame typ (hop + 1) l sec bad] } }) ∧
  (∀ (s : State) (f : BitVec 96), syncRole s = 0 → exec (.syncFrame f) s = .next s) ∧
  (∀ (s : State) (j : SyncJob), s.time.sync = some j → j.load = true →
      ∃ t, exec .syncLoadPoint s = .next t ∧ t.time.sync = none ∧ t.time.estHold = false ∧
        RaisedData s t 0x0109 0x010 [.u64 j.seconds, .u16 j.hop] ∧
        nowTotal t = unsgn 112 ((j.seconds * 2 ^ 64 : Nat) + psTotal (refOffset s))) ∧
  (∀ (s : State) (j : SyncJob), s.time.sync = some j → j.load = false →
      ∃ t, exec .syncLoadPoint s = .next t ∧ t.time.sync = none ∧ nowTotal t = nowTotal s ∧ Raised s t 0x0108 0x010 ∧
        rd t .timeSyncResult 0 0 = BitVec.ofNat 32 (unsgn 32 (clampInt (-2147483647) 2147483647
          (totalPs (nowTotal s - ((j.seconds * 2 ^ 64 : Nat) + psTotal (refOffset s))))))) ∧
  (∀ (s : State), s.time.sync = none → exec .syncLoadPoint s = .next s)

/-- 03 R133, R153, R156 to R158, R160. -/
def Obligations.SynthesiserCommandsComplete : Prop :=
  (∀ (s : State) (us : Nat), (synOf s 0).lock = 1 → (synOf s 0).everLocked = false → s.time.ocxo = true →
      s.time.started = false →
      ∃ t, exec (.synLockAcquired 0 us) s = .next t ∧ t.time.started = true ∧ t.time.mode = .full ∧ nowTotal t = 0) ∧
  (∀ (s : State) (n us : Nat), n < 6 → (synOf s n).lock = 1 → (synOf s n).everLocked = false →
      s.time.ocxo = true → s.pwr.waiting = [] → s.pwr.runs = [] → synWanted s n = true →
      ∃ t, exec (.synLockAcquired n us) s = .next t ∧ (synOf t n).lock = 2 ∧ (synOf t n).everLocked = true) ∧
  (∀ (s : State) (n : Nat), n < 6 → (synOf s n).lock = 2 →
      ∃ t, exec (.synLockLost n) s = .next t ∧ RaisedData s t 0x0110 0x010 [.u16 n] ∧ (synOf t n).lock ≠ 2 ∧
        (synOf t n).lossCount = satU 8 ((synOf s n).lossCount + 1)) ∧
  (∀ (s : State) (n : Nat), n < 6 → (synOf s n).lock = 1 → (synOf s n).everLocked = true →
      s.time.ocxo = true → s.pwr.waiting = [] → s.pwr.runs = [] → synWanted s n = true →
      ¬(n = 2 ∧ s.hbm.change ≠ none) →
      ∃ t, exec (.synRelocked n) s = .next t ∧ (synOf t n).lock = 2 ∧
        (¬(n = 3 ∧ s.disp.planned = true) → RaisedData s t 0x0111 0x010 [.u16 n])) ∧
  (∀ (s : State) (ag : AgentId) (n : Nat) (v : BitVec 32), WriteOpen s ag (Reg.off .synPhase n 0) →
      (n = 0 ∨ n = 4 ∨ n = 5) →
      ∃ t, exec (.synPhaseWrite ag n v) s = .next t ∧ (synOf t n).target = sgn 16 (fld v 0 16) ∧
        (synOf t n).current = (synOf s n).current ∧ (∀ k, k ≠ n → synOf t k = synOf s k) ∧
        ((synOf t n).moving = true ↔ sgn 16 (fld v 0 16) ≠ (synOf s n).current)) ∧
  (∀ (s : State) (ag : AgentId) (n : Nat) (v : BitVec 32), WriteOpen s ag (Reg.off .synPhase n 0) →
      (n = 1 ∨ n = 2 ∨ n = 3) → ∃ t, exec (.synPhaseWrite ag n v) s = .next t ∧ t.time = s.time) ∧
  (∀ (s : State) (n : Nat), n < 6 → (synOf s n).moving = true → (synOf s n).lock = 2 → (n = 0 → s.time.phaseAdj = 0) →
      ∃ t, exec (.synPhaseStep n) s = .next t ∧
        (synOf t n).current = (if (synOf s n).current < (synOf s n).target then (synOf s n).current + 1
          else (synOf s n).current - 1) ∧
        ((synOf t n).current = (synOf s n).target → (synOf t n).moving = false ∧ Raised s t 0x0112 0x010) ∧
        ((synOf t n).current ≠ (synOf s n).target → (synOf t n).moving = true)) ∧
  (∀ (s : State) (n : Nat), ((synOf s n).moving = false ∨ (synOf s n).lock ≠ 2 ∨ (n = 0 ∧ s.time.phaseAdj ≠ 0)) →
      exec (.synPhaseStep n) s = .next s) ∧
  (∀ (s : State) (ag : AgentId) (n : Nat) (v : BitVec 32), n < 4 → WriteOpen s ag (Reg.off .synSysrefCfg n 0) →
      fld v 0 2 = 2 → fld v 16 16 % 2 = 0 → 8 ≤ fld v 16 16 → sysrefBusy (wr .synSysrefCfg n 0 (v &&& 0xFFFFFF03) s) n = false →
      ∃ t, exec (.sysrefFire ag n v) s = .next t ∧ vget t.time.sysrefLeft n 0 = fld v 8 8 ∧
        vget t.time.sysrefFrom n 0 = (sysrefNext t n (syn5Count s + 1024)).toNat) ∧
  (∀ (s : State) (ag : AgentId) (n : Nat) (v : BitVec 32), n < 4 → WriteOpen s ag (Reg.off .synSysrefCfg n 0) →
      fld v 0 2 = 2 → fld v 16 16 % 2 = 0 → 8 ≤ fld v 16 16 → sysrefBusy (wr .synSysrefCfg n 0 (v &&& 0xFFFFFF03) s) n = true →
      ∃ t, exec (.sysrefFire ag n v) s = .next t ∧ t.time.sysrefLeft = s.time.sysrefLeft ∧
        t.time.sysrefFrom = s.time.sysrefFrom)

/-- 04 R174, R176 to R179, R181 to R183. Lane and link operands in range. -/
def Obligations.LinkBringUpCommandsComplete : Prop :=
  (∀ (s : State) (n lane : Nat), n < 4 → 1 ≤ lstate s n → lane < lkLanes s n →
      ∃ t, exec (.laneCdrLocked n lane) s = .next t ∧ lane ∈ (link t n).locked ∧
        lstate t n = (if lstate s n = 1 ∧ (∀ k < lkLanes s n, k = lane ∨ k ∈ (link s n).locked) then 2 else lstate s n)) ∧
  (∀ (s : State) (n lane : Nat), n < 4 → 2 ≤ lstate s n → lstate s n ≤ 4 → lane < lkLanes s n →
      ∃ t, exec (.laneCodeSync n lane) s = .next t ∧ lane ∈ (link t n).synced ∧
        lstate t n = (if lstate s n = 2 ∧ (∀ k < lkLanes s n, k = lane ∨ k ∈ (link s n).synced) then 3 else lstate s n)) ∧
  (∀ (s : State) (n lane chk : Nat) (fields : List Nat), n < 4 → lstate s n = 3 → (link s n).aligned = true →
      lkEnc66 s n = false → lane < lkLanes s n → (∀ k < 13, fields.getD k 0 = (ilasExpected s n lane).getD k 0) →
      (∀ k < lkLanes s n, k = lane ∨ k ∈ (link s n).ilas) → getB s .ingLinkCfg n 0 25 = false →
      ∃ t, exec (.ilasMultiframe n lane fields chk true) s = .next t ∧ lstate t n = 4 ∧
        Raised s t 0x0201 (ingUnit n) ∧
        getF t .ingLinkStatus n 0 16 16 = (getF s .ingLinkStatus n 0 16 16 + 1) % 2 ^ 16) ∧
  (∀ (s : State) (n lane chk : Nat) (fields : List Nat), n < 4 → lstate s n = 3 → (link s n).aligned = true →
      lkEnc66 s n = false → lane < lkLanes s n → (∀ k < 13, fields.getD k 0 = (ilasExpected s n lane).getD k 0) →
      (∀ k < lkLanes s n, k = lane ∨ k ∈ (link s n).ilas) → getB s .ingLinkCfg n 0 25 = true →
      (∀ m ∈ groupMembers s (getF s .ingLinkCfg n 0 23 2), lstate s m ≠ 4) →
      (∃ m ∈ groupMembers s (getF s .ingLinkCfg n 0 23 2), m ≠ n ∧ (link s m).passed = false) →
      ∃ t, exec (.ilasMultiframe n lane fields chk true) s = .next t ∧ lstate t n = 3 ∧ (link t n).passed = true) ∧
  (∀ (s : State) (n lane k chk : Nat) (ok : Bool) (fields : List Nat), n < 4 → lstate s n = 3 →
      (link s n).aligned = true → lkEnc66 s n = false → lane < lkLanes s n → k < 13 →
      fields.getD k 0 ≠ (ilasExpected s n lane).getD k 0 → (∀ j < k, fields.getD j 0 = (ilasExpected s n lane).getD j 0) →
      ∃ t, exec (.ilasMultiframe n lane fields chk ok) s = .next t ∧ lstate t n = 5 ∧
        RaisedData s t 0x0203 (ingUnit n) [.u16 lane, .u16 k, .u16 (fields.getD k 0)] ∧
        getF t .ingLinkStatus n 0 3 4 = 4) ∧
  (∀ (s : State) (n lane chk : Nat) (fields : List Nat), n < 4 → lstate s n = 3 → (link s n).aligned = true →
      lkEnc66 s n = false → lane < lkLanes s n → (∀ k < 13, fields.getD k 0 = (ilasExpected s n lane).getD k 0) →
      ∃ t, exec (.ilasMultiframe n lane fields chk false) s = .next t ∧ lstate t n = 5 ∧
        RaisedData s t 0x0203 (ingUnit n) [.u16 lane, .u16 13, .u16 chk] ∧ getF t .ingLinkStatus n 0 3 4 = 4) ∧
  (∀ (s : State) (n : Nat) (e : SysEdge) (arr skews : List Nat), n < 4 → sysrefEdge s n = some e → lstate s n = 3 →
      (link s n).aligned = false →
      ∃ t, exec (.sysrefEdge n arr skews) s = .next t ∧ (link t n).aligned = true ∧ (link t n).edge = e.time ∧
        (link t n).anchor = e.time + psTotal ((link s n).adcStaged.getD (link s n).adcDelay) ∧
        (1024 < maxList skews → lstate t n = 5 ∧ getF t .ingLinkStatus n 0 3 4 = 5) ∧
        (maxList skews ≤ 1024 → getF s .ingLinkTiming n 0 16 7 < maxList arr + 2 →
          lstate t n = 5 ∧ getF t .ingLinkStatus n 0 3 4 = 6) ∧
        (maxList skews ≤ 1024 → maxList arr + 2 ≤ getF s .ingLinkTiming n 0 16 7 → lkEnc66 s n = true →
          getB s .ingLinkCfg n 0 25 = false → lstate t n = 4)) ∧
  (∀ (s : State) (n : Nat) (e : SysEdge) (arr skews : List Nat), n < 4 → sysrefEdge s n = some e →
      (lstate s n = 4 ∨ (lstate s n = 3 ∧ (link s n).aligned = true)) →
      ∃ t, exec (.sysrefEdge n arr skews) s = .next t ∧ lstate t n = lstate s n ∧
        (edgeDev s n e ≠ 0 → t.ing = s.ing ∧
          (rd t .ingCount n 4).toNat = satU 32 ((rd s .ingCount n 4).toNat + 1)) ∧
        (edgeDev s n e = 0 → (link t n).anchor = e.time + psTotal (link s n).adcDelay ∧
          (link t n).renewed = upTotal s ∧ t = { s with ing := t.ing })) ∧
  (∀ (s : State) (n : Nat) (arr skews : List Nat), (sysrefEdge s n = none ∨ (lstate s n ≠ 3 ∧ lstate s n ≠ 4)) →
      exec (.sysrefEdge n arr skews) s = .next s) ∧
  (∀ (s : State) (n : Nat), n < 4 → lstate s n = 3 → (link s n).aligned = false →
      ∃ t, exec (.alignSysrefTimeout n) s = .next t ∧ lstate t n = 5 ∧ getF t .ingLinkStatus n 0 3 4 = 8) ∧
  (∀ (s : State) (g m : Nat), m ∈ groupMembers s g → (link s m).passed = true →
      ∃ t, exec (.groupAlignTimeout g) s = .next t ∧ lstate t m = 4 ∧ ∃ u ∈ [0x020, 0x021, 0x022, 0x023], Raised s t 0x0205 u) ∧
  (∀ (s : State) (n : Nat), n < 4 → lstate s n = 5 → getB s .ingLinkTiming n 0 26 = true →
      ∃ t, exec (.errorAutoRestart n) s = .next t ∧ lstate t n = 1 ∧ (link t n).aligned = false) ∧
  (∀ (s : State) (ag : AgentId) (n : Nat), n < 4 → WriteOpen s ag (Reg.off .ingLinkCmd n 0) →
      ustate s (ingUnit n) = .running →
      ∃ t, exec (.realign ag n) s = .next t ∧ lstate t n = 1 ∧ (link t n).locked = [])

/-- 04 R174, R182, R185 to R187, R195, R196, R198, R200 to R202. -/
def Obligations.LinkDataCommandsComplete : Prop :=
  (∀ (s : State) (n lane : Nat), n < 4 → 1 ≤ lstate s n → lstate s n ≤ 4 → lane < lkLanes s n →
      (∃ t, exec (.laneCdrUnlock n lane) s = .next t ∧ lstate t n = 5 ∧ getF t .ingLinkStatus n 0 3 4 = 1 ∧
        (lstate s n = 4 → Raised s t 0x0202 (ingUnit n))) ∧
      (lkEnc66 s n = false →
        ∃ t, exec (.codeGroupSyncLost n lane) s = .next t ∧ lstate t n = 5 ∧ getF t .ingLinkStatus n 0 3 4 = 2 ∧
          (lstate s n = 4 → Raised s t 0x0202 (ingUnit n))) ∧
      (∃ t, exec (.alignLost n) s = .next t ∧ lstate t n = 5 ∧ getF t .ingLinkStatus n 0 3 4 = 3 ∧
        (lstate s n = 4 → Raised s t 0x0202 (ingUnit n)))) ∧
  (∀ (s : State) (n lane block : Nat) (octet : List Word), n < 4 → lstate s n = 4 → lane < lkLanes s n →
      (lkEnc66 s n = false ∨
        ((link s n).badBlocks.filter fun p => p.1 == lane && decide (block < p.2 + 64)).length < 15) →
      ∃ t, exec (.syncHeaderInvalid n lane block octet) s = .next t ∧ lstate t n = 4 ∧
        (rd t .ingCount n 3).toNat = satU 32 ((rd s .ingCount n 3).toNat + 1) ∧
        (link t n).flags = Nat.lor (link s n).flags 8) ∧
  (∀ (s : State) (n lane block : Nat) (octet : List Word), n < 4 → 2 ≤ lstate s n → lstate s n ≤ 4 →
      lane < lkLanes s n → lkEnc66 s n = true →
      15 ≤ ((link s n).badBlocks.filter fun p => p.1 == lane && decide (block < p.2 + 64)).length →
      ∃ t, exec (.syncHeaderInvalid n lane block octet) s = .next t ∧ lstate t n = 5 ∧
        getF t .ingLinkStatus n 0 3 4 = 2) ∧
  (∀ (s : State) (n : Nat), n < 4 → lstate s n = 4 →
      ∃ t, exec (.linkCrcMismatch n) s = .next t ∧ (link t n).crcLeft = max (link s n).crcLeft (crcSpan s n) ∧
        (rd t .ingCount n 2).toNat = satU 32 ((rd s .ingCount n 2).toNat + 1)) ∧
  (∀ (s : State) (ag : AgentId) (n k : Nat), n < 4 → k < 8 → WriteOpen s ag (Reg.off .ingLinkCmd n 0) →
      ∃ t, exec (.ingClearCounts ag n) s = .next t ∧ rd t .ingCount n k = 0 ∧ t.ing = s.ing) ∧
  (∀ (s : State) (n : Nat) (w : Word) (ws : List Word) (took : Bool), n < 4 → lstate s n = 4 →
      ustate s (ingUnit n) = .running →
      ∃ t, exec (.parcelFormed n [w] took) s = .next t ∧ (link t n).idx = (link s n).idx + 1 ∧
        (link t n).crcLeft = (link s n).crcLeft - 1 ∧
        exec (.parcelFormed n (w :: ws) took) s = exec (.parcelFormed n ws took) t) ∧
  (∀ (s : State) (n : Nat) (w : Word) (took : Bool), n < 4 → lstate s n = 4 → ustate s (ingUnit n) = .running →
      lkTransport s n = 2 → (link s n).items.length = 1023 → (link s n).bad = [] →
      ∃ t, exec (.parcelFormed n [w] took) s = .next t ∧ (link t n).items = [] ∧
        (link t n).seq = ((link s n).seq + 1) % 2 ^ 48 ∧
        (took = true → ∃ it, t.plan.offered = s.plan.offered ++ [it] ∧ it.src = ingUnit n ∧ it.seq = (link s n).seq ∧
          it.payload.drop 8 = (link s n).items ++ [w]) ∧
        (took = false → t.plan.offered = s.plan.offered ∧
          (rd t .ingCount n 0).toNat = satU 32 ((rd s .ingCount n 0).toNat + 1))) ∧
  (∀ (s : State) (n : Nat) (w : Word) (took : Bool), n < 4 → lstate s n = 4 → ustate s (ingUnit n) = .running →
      lkTransport s n = 2 → (link s n).items.length < 1023 → (link s n).bad = [] →
      ∃ t, exec (.parcelFormed n [w] took) s = .next t ∧ (link t n).items = (link s n).items ++ [w] ∧
        t.plan.offered = s.plan.offered) ∧
  (∀ (s : State) (n : Nat) (w : Word) (took : Bool), n < 4 → lstate s n = 4 → ustate s (ingUnit n) = .running →
      lkTransport s n = 0 → (link s n).items.length < 1023 → (link s n).bad = [] →
      ∃ t, exec (.parcelFormed n [w] took) s = .next t ∧ t.plan.offered = s.plan.offered ∧
        (link t n).items = (link s n).items ++ [iqWord (sampleVal (lkN s n) (lkNp s n) (fld w 0 16))
          (sampleVal (lkN s n) (lkNp s n) (fld w 16 16))] ∧
        (0 < (link s n).crcLeft → (link t n).flags = Nat.lor (link s n).flags 4)) ∧
  (∀ (s : State) (n : Nat) (w : Word) (took : Bool), n < 4 → lstate s n = 4 → ustate s (ingUnit n) = .running →
      (lkTransport s n = 1 ∨ lkTransport s n = 3) → (link s n).items.length < 1023 →
      ∃ t, exec (.parcelFormed n [w] took) s = .next t ∧ (link t n).mixN = (link s n).mixN + 1 ∧
        (link t n).items.length = (link s n).items.length + (if (link s n).mixN % 2 = 0 then 1 else 0)) ∧
  (∀ (s : State) (ag : AgentId) (n : Nat) (v : BitVec 32), n < 4 → WriteOpen s ag (Reg.off .ingAdcDelay n 0) →
      -1000000 ≤ sgn 32 v.toNat → sgn 32 v.toNat ≤ 1000000 →
      (∃ t, exec (.adcDelayWrite ag n v) s = .next t ∧ rd t .ingAdcDelay n 0 = v ∧
        (lstate s n = 4 ∧ (link s n).items ≠ [] → (link t n).adcStaged = some (sgn 32 v.toNat) ∧
          (link t n).adcDelay = (link s n).adcDelay) ∧
        (lstate s n ≠ 4 ∨ (link s n).items = [] → (link t n).adcDelay = sgn 32 v.toNat ∧
          (link t n).adcStaged = none ∧ epochOf t (ingUnit n) = epochOf s (ingUnit n) + 1)))

/-- 01 R26, 05 R209, R217 to R223, R236; what a boundary whose cycle has passed means: log entry 181. -/
def Obligations.TunerCommandsComplete : Prop :=
  (∀ (s u : State) (n : Nat) (i : Item), n < 16 → takeDelivered (4 + n) 0 s = some (i, u) →
      (ustate s (tunUnit n) = .running → (hdrFlags i).testBit 6 = true →
        ∃ t, exec (.tunerInputParcel n) s = .next t ∧ (tuner t n).lastSeq = some i.seq ∧ (tuner t n).n = 1024 ∧
          Raised s t 0x0306 (tunUnit n) ∧ ∀ m, m ≠ n → tuner t m = tuner s m) ∧
      (ustate s (tunUnit n) = .running → (hdrFlags i).testBit 6 = false →
        ∃ t, exec (.tunerInputParcel n) s = .next t ∧ (tuner t n).lastSeq = some i.seq ∧
          (tuner t n).n = (tuner s n).n + 1024 * (missingItems (tuner s n).lastSeq i.seq + 1 : Nat) ∧
          (missingItems (tuner s n).lastSeq i.seq ≠ 0 →
            RaisedData s t 0x0305 (tunUnit n) [.u32 (1024 * missingItems (tuner s n).lastSeq i.seq)]) ∧
          ∀ m, m ≠ n → tuner t m = tuner s m) ∧
      (ustate s (tunUnit n) ≠ .running → exec (.tunerInputParcel n) s = .next (refuseItem (4 + n) 0 s u))) ∧
  (∀ (s : State) (n : Nat), takeDelivered (4 + n) 0 s = none → exec (.tunerInputParcel n) s = .next s) ∧
  (∀ (s : State) (ag : AgentId) (n : Nat) (reset : Bool), n < 16 → WriteOpen s ag (Reg.off .tunCommit n 0) →
      (∃ t, exec (.tunCommitNextBlock ag n reset) s = .next t ∧ (tuner t n).commit = some (tunStaged s n reset none) ∧
        getB t .tunStatus n 0 0 = true) ∧
      (nowTotal s ≤ timeReg s .tunCommitTime n * 2 ^ 24 →
        ∃ t, exec (.tunCommitAtTime ag n reset) s = .next t ∧ getB t .tunStatus n 0 0 = true ∧
          (tuner t n).commit = some (tunStaged s n reset (some (timeReg s .tunCommitTime n)))) ∧
      (timeReg s .tunCommitTime n * 2 ^ 24 < nowTotal s →
        ∃ t, exec (.tunCommitAtTime ag n reset) s = .next t ∧
          RaisedData s t 0x0303 (tunUnit n) [.time (mkStamp (timeReg s .tunCommitTime n) 0)] ∧
          getB t .tunStatus n 0 1 = true ∧ getB t .tunStatus n 0 0 = true ∧
          (tuner t n).commit = some (tunStaged s n reset none)) ∧
      (∃ t, exec (.tunCommitCancel ag n) s = .next t ∧ (tuner t n).commit = none ∧ getB t .tunStatus n 0 0 = false)) ∧
  (∀ (s : State) (n time : Nat) (c : TunCommit), n < 16 → ustate s (tunUnit n) = .running →
      (((tuner s n).starts = some c ∧ (tuner s n).commit = none) ∨
        ((tuner s n).starts = none ∧ (tuner s n).commit = some c ∧ (tuner s n).judged ≠ some (tuner s n).n ∧
          tunBoundary s n ((time * 2 ^ 24 : Nat) : Int) c = true)) →
      ∃ t, exec (.tunCommitApply n time) s = .next t ∧ (tuner t n).commit = none ∧ (tuner t n).starts = none ∧
        (tuner t n).ftw = c.ftw ∧ (tuner t n).phase = c.phase ∧
        (tuner t n).acc = (if c.reset then 0 else (tuner s n).acc) ∧
        epochOf t (tunUnit n) = epochOf s (tunUnit n) + 1 ∧ Raised s t 0x0302 (tunUnit n) ∧
        getF t .tunStatus n 0 16 16 = (getF s .tunStatus n 0 16 16 + 1) % 2 ^ 16) ∧
  (∀ (s : State) (n time : Nat), n < 16 → ustate s (tunUnit n) = .running → (tuner s n).starts = none →
      ((tuner s n).judged = some (tuner s n).n ∨ (tuner s n).commit = none ∨
        ∃ c, (tuner s n).commit = some c ∧ tunBoundary s n ((time * 2 ^ 24 : Nat) : Int) c = false) →
      ∃ t, exec (.tunCommitApply n time) s = .next t ∧ t = { s with tun := t.tun } ∧
        (tuner t n).judged = some (tuner s n).n ∧ (tuner t n).commit = (tuner s n).commit ∧
        (tuner t n).marks = (tuner s n).marks) ∧
  (∀ (s : State) (n time : Nat), ustate s (tunUnit n) ≠ .running → exec (.tunCommitApply n time) s = .next s) ∧
  (∀ (s : State) (ag : AgentId) (n k : Nat) (v : BitVec 32), n < 16 → k < 1024 → WriteOpen s ag (Reg.off .tunFirCoef n k) →
      ((ustate s (tunUnit n)).busy = false ∨ k / 512 ≠ (tuner s n).bank →
        ∃ t, exec (.firCoefWrite ag n k v) s = .next t ∧ rd t .tunFirCoef n k = BitVec.ofNat 32 (fld v 0 18) ∧
          t.tun = s.tun) ∧
      ((ustate s (tunUnit n)).busy = true → k / 512 = (tuner s n).bank → s.mgt.log.length < auditSize →
        ∃ t, exec (.firCoefWrite ag n k v) s = .next t ∧ Audited s t 0x02 ag 4 (Reg.off .tunFirCoef n k) v ∧
          rd t .tunFirCoef n k = rd s .tunFirCoef n k))

/-- 01 R26, 05 R229, R231, R236; what begins a generation: log entry 21. -/
def Obligations.ChannelizerCommandsComplete : Prop :=
  (∀ (s u : State) (c : Nat) (i : Item), c < 4 → takeDelivered (20 + c) 0 s = some (i, u) →
      (ustate s (chzUnit c) = .running → (itemGeneration i (chzOf s c).ended).1 = true →
        ∃ t, exec (.chzInput c) s = .next t ∧ (chzOf t c).lastSeq = some i.seq ∧ (chzOf t c).n = 1024 ∧
          RaisedData s t 0x0313 (chzUnit c) [.u16 (if fromLink i then i.gen else getF s .ingLinkStatus c 0 16 16)] ∧
          ∀ m, m ≠ c → chzOf t m = chzOf s m) ∧
      (ustate s (chzUnit c) = .running → (itemGeneration i (chzOf s c).ended).1 = false →
        ∃ t, exec (.chzInput c) s = .next t ∧ (chzOf t c).lastSeq = some i.seq ∧
          (chzOf t c).n = (chzOf s c).n + 1024 * (missingItems (chzOf s c).lastSeq i.seq + 1) ∧
          (missingItems (chzOf s c).lastSeq i.seq ≠ 0 →
            RaisedData s t 0x0312 (chzUnit c) [.u32 (1024 * missingItems (chzOf s c).lastSeq i.seq)]) ∧
          ∀ m, m ≠ c → chzOf t m = chzOf s m) ∧
      (ustate s (chzUnit c) ≠ .running → exec (.chzInput c) s = .next (refuseItem (20 + c) 0 s u))) ∧
  (∀ (s : State) (c : Nat), takeDelivered (20 + c) 0 s = none → exec (.chzInput c) s = .next s) ∧
  (∀ (s : State) (ag : AgentId) (c : Nat) (v : BitVec 32), c < 4 → WriteOpen s ag (Reg.off .tunChzCoefData c 0) →
      ((ustate s (chzUnit c) = .gated ∨ ustate s (chzUnit c) = .ready) →
        ∃ t, exec (.chzCoefDataWrite ag c v) s = .next t ∧
          spGet t.chzCoef (c * 65536 + getF s .tunChzCoefAddr c 0 0 16) 0 = BitVec.ofNat 18 v.toNat ∧
          getF t .tunChzCoefAddr c 0 0 16 = (getF s .tunChzCoefAddr c 0 0 16 + 1) % 65536) ∧
      (ustate s (chzUnit c) ≠ .gated → ustate s (chzUnit c) ≠ .ready → s.mgt.log.length < auditSize →
        ∃ t, exec (.chzCoefDataWrite ag c v) s = .next t ∧ Audited s t 0x02 ag 4 (Reg.off .tunChzCoefData c 0) v))

/-- 06 R238, R240, R241, R243, R247, R257 to R260; the bank a pending commit claims: log entry 22. -/
def Obligations.SpectralCommandsComplete : Prop :=
  (∀ (s u : State) (e : Nat) (i : Item), e < 4 → takeDelivered (24 + e) 0 s = some (i, u) →
      (ustate s (specUnit e) = .running →
        ∃ t, exec (.specInput e 0) s = .next t ∧ (specOf t e).lastSeq = some i.seq ∧
          (specOf t e).base + (specOf t e).samples.length = (specOf s e).base + (specOf s e).samples.length +
            1024 * ((if (itemGeneration i (specOf s e).ended).1 then 0 else missingItems (specOf s e).lastSeq i.seq) + 1 : Nat) ∧
          ((itemGeneration i (specOf s e).ended).1 = true → Raised s t 0x0407 (specUnit e)) ∧
          ((itemGeneration i (specOf s e).ended).1 = false → missingItems (specOf s e).lastSeq i.seq ≠ 0 →
            RaisedData s t 0x0406 (specUnit e) [.u32 (1024 * missingItems (specOf s e).lastSeq i.seq)]) ∧
          ∀ m, m ≠ e → specOf t m = specOf s m) ∧
      (ustate s (specUnit e) ≠ .running → exec (.specInput e 0) s = .next (refuseItem (24 + e) 0 s u))) ∧
  (∀ (s u : State) (e w : Nat) (i : Item), e < 4 → takeDelivered (24 + e) 1 s = some (i, u) →
      ((ustate s (specUnit e)).busy = true → (specOf s e).want = w + 2 →
        leNat (((wordsBytes (i.payload.take 8)).drop 16).take 4) = (specOf s e).tag →
        leNat (((wordsBytes (i.payload.take 8)).drop 1).take 1) = 0 →
        ∃ t, exec (.specInput e 1) s = .next t ∧ (specOf t e).want = w + 1 ∧
          (specOf t e).got = (specOf s e).got ++
            (wordsBytes (i.payload.drop 8)).take (leNat (((wordsBytes (i.payload.take 8)).drop 4).take 4))) ∧
      ((ustate s (specUnit e)).busy = false ∨ (specOf s e).want = 0 ∨
        leNat (((wordsBytes (i.payload.take 8)).drop 16).take 4) ≠ (specOf s e).tag → exec (.specInput e 1) s = .next u)) ∧
  (∀ (s : State) (e stream : Nat), takeDelivered (24 + e) stream s = none → exec (.specInput e stream) s = .next s) ∧
  (∀ (s : State) (e : Nat) (a b : Bool) (fr : SpecFrame) (rest : List SpecFrame), e < 4 →
      (specOf s e).ready = fr :: rest → (ustate s (specUnit e)).busy = true → (fr.run.set.big = true → fr.phase = 3) →
      (∃ t, exec (.spectrumComputed e a b false) s = .next t ∧ (specOf t e).seq = ((specOf s e).seq + 1) % 2 ^ 48 ∧
        rd t .specSeq e 0 = BitVec.ofNat 32 (specOf s e).seq ∧ (specOf t e).ready.length = rest.length ∧
        (ustate s (trigUnit e) = .running → ∃ o, (trigOf t e).spectra = (trigOf s e).spectra ++ [o] ∧
          o.seq = (specOf s e).seq ∧ o.channel = e ∧ o.size = fr.run.set.n) ∧
        (ustate s (0x100 + e) = .running → ∃ o, (vget t.dens e Dens.reset).spectra = (vget s.dens e Dens.reset).spectra ++ [o] ∧
          o.seq = (specOf s e).seq ∧ o.channel = e ∧ o.size = fr.run.set.n)) ∧
      (∃ t, exec (.spectrumComputed e a b true) s = .next t ∧
        RaisedData s t 0x0409 (specUnit e) [.u16 (4 * e + fr.index % 4)] ∧
        ustate t (specUnit e) = .fault ∧ ((ustate s (fftUnit (4 * e + fr.index % 4))).live = true →
          ustate t (fftUnit (4 * e + fr.index % 4)) = .fault))) ∧
  (∀ (s : State) (e : Nat) (a b f : Bool),
      ((specOf s e).ready = [] ∨ (ustate s (specUnit e)).busy = false ∨
        ∃ fr ∈ (specOf s e).ready.head?, fr.run.set.big = true ∧ fr.phase ≠ 3) →
      exec (.spectrumComputed e a b f) s = .next s) ∧
  (∀ (s : State) (ag : AgentId) (e : Nat), e < 4 → WriteOpen s ag (Reg.off .specCommit e 0) →
      (specCheck s e (specStaged s e) false = none →
        ∃ t, exec (.specCommitNextFrame ag e) s = .next t ∧ getB t .specStatus e 0 0 = true ∧
          ∃ c, (specOf t e).commit = some c ∧ c.set = specStaged s e ∧ c.at_ = none ∧ c.waits = winNew s e c.set ∧
            (c.waits = true → (specOf t e).gen = some c.set ∧ getB t .specStatus e 0 1 = true)) ∧
      (specCheck s e (specStaged s e) false = none → nowTotal s ≤ timeReg s .specCommitTime e * 2 ^ 24 →
        ∃ t, exec (.specCommitAtTime ag e) s = .next t ∧ getB t .specStatus e 0 0 = true ∧
          ∃ c, (specOf t e).commit = some c ∧ c.set = specStaged s e ∧ c.at_ = some (timeReg s .specCommitTime e)) ∧
      (specCheck s e (specStaged s e) false = none → timeReg s .specCommitTime e * 2 ^ 24 < nowTotal s →
        ∃ t, exec (.specCommitAtTime ag e) s = .next t ∧ getB t .specStatus e 0 0 = true ∧ getB t .specStatus e 0 3 = true ∧
          RaisedData s t 0x0404 (specUnit e) [.time (mkStamp (timeReg s .specCommitTime e) 0)] ∧
          ∃ c, (specOf t e).commit = some c ∧ c.set = specStaged s e ∧ c.at_ = none) ∧
      (∀ off, specCheck s e (specStaged s e) false = some off →
        (∃ t, exec (.specCommitNextFrame ag e) s = .next t ∧ (specOf t e).commit = (specOf s e).commit ∧
          getB t .specStatus e 0 2 = true ∧ RaisedData s t 0x0403 (specUnit e) [.u32 off]) ∧
        (∃ t, exec (.specCommitAtTime ag e) s = .next t ∧ (specOf t e).commit = (specOf s e).commit ∧
          getB t .specStatus e 0 2 = true ∧ RaisedData s t 0x0403 (specUnit e) [.u32 off])) ∧
      (∃ t, exec (.specCommitCancel ag e) s = .next t ∧ (specOf t e).commit = none ∧ getB t .specStatus e 0 0 = false) ∧
      (∃ t, exec (.traceRestart ag e) s = .next t ∧ (specOf t e).traceBreak = true ∧
        (specOf t e).commit = (specOf s e).commit)) ∧
  (∀ (s : State) (e time : Nat) (c : SpecCommit) (r : SpecRun), e < 4 → ustate s (specUnit e) = .running →
      (specOf s e).commit = some c → (specOf s e).run = some r → (specOf s e).judged ≠ some r.next →
      r.next = (specOf s e).base + (specOf s e).samples.length → specDue ((time * 2 ^ 24 : Nat) : Int) c = true →
      ∃ t, exec (.specCommitApply e time) s = .next t ∧ (specOf t e).commit = none ∧
        (∃ q, (specOf t e).run = some q ∧ q.set = c.set ∧ q.q0 = r.next) ∧
        (specOf t e).bank = (if c.swap then 1 - (specOf s e).bank else (specOf s e).bank) ∧
        epochOf t (specUnit e) = epochOf s (specUnit e) + 1 ∧ getB t .specStatus e 0 0 = false ∧
        getF t .specStatus e 0 16 16 = (getF s .specStatus e 0 16 16 + 1) % 2 ^ 16 ∧
        ∃ v ∈ t.events, v.code = 0x0402 ∧ v.unit = specUnit e) ∧
  (∀ (s : State) (e time : Nat) (r : SpecRun), e < 4 → ustate s (specUnit e) = .running → (specOf s e).run = some r →
      r.next = (specOf s e).base + (specOf s e).samples.length →
      ((specOf s e).judged = some r.next ∨ (specOf s e).commit.any (specDue ((time * 2 ^ 24 : Nat) : Int)) = false) →
      ∃ t, exec (.specCommitApply e time) s = .next t ∧ t = { s with spec := t.spec } ∧
        (specOf t e).judged = some r.next ∧ (specOf t e).commit = (specOf s e).commit ∧ (specOf t e).run = some r) ∧
  (∀ (s : State) (e time : Nat), (ustate s (specUnit e) ≠ .running ∨ (specOf s e).run = none) →
      exec (.specCommitApply e time) s = .next s) ∧
  (∀ (s : State) (e time : Nat) (r : SpecRun), (specOf s e).run = some r →
      r.next ≠ (specOf s e).base + (specOf s e).samples.length → exec (.specCommitApply e time) s = .next s) ∧
  (∀ (s : State) (e : Nat) (c : SpecSet), e < 4 → (specOf s e).gen = some c →
      ∃ t, exec (.windowGenerationDone e) s = .next t ∧ (specOf t e).gen = none ∧
        (specOf t e).commit = (specOf s e).commit.map (fun p => { p with waits := false }) ∧
        (specOf t e).bank = (specOf s e).bank ∧ getB t .specStatus e 0 1 = false ∧
        ∀ k v, k < 65536 → (windowGen c.win c.param c.n)[k]? = some v →
          spGet t.winBank (winKey e (1 - (specOf s e).bank) k) 0 = v) ∧
  (∀ (s : State) (e : Nat), (specOf s e).gen = none → exec (.windowGenerationDone e) s = .next s) ∧
  (∀ (s : State) (ag : AgentId) (e : Nat) (v : BitVec 32), e < 4 → WriteOpen s ag (Reg.off .specWinData e 0) →
      ((specOf s e).commit.any (fun c => c.waits || c.swap) = false →
        ∃ t, exec (.winDataWrite ag e v) s = .next t ∧
          spGet t.winBank (winKey e (1 - (specOf s e).bank) (getF s .specWinAddr e 0 0 16)) 0 = fld v 0 17 ∧
          getF t .specWinAddr e 0 0 16 = (getF s .specWinAddr e 0 0 16 + 1) % 65536) ∧
      ((specOf s e).commit.any (fun c => c.waits || c.swap) = true → s.mgt.log.length < auditSize →
        ∃ t, exec (.winDataWrite ag e v) s = .next t ∧ Audited s t 0x02 ag 4 (Reg.off .specWinData e 0) v))

/-- 05 R208, 06 R240, 07 R276, R281, R282, R284, R285, R290 to R293. -/
def Obligations.DetectorCommandsComplete : Prop :=
  (∀ (s : State) (t d : Nat) (x : TdSample) (rest : List TdSample) (c : TdCfg), t < 4 → d < 4 →
      vget (trigOf s t).values d [] = x :: rest →
      (ustate s (trigUnit t) = .running → (trigOf s t).run.td[d]? = some c → bit c.cfg 15 = true → x.valid = true →
        x.restart = false → (vget (trigOf s t).td d TdState.reset).gap = false →
        (vget (trigOf s t).td d TdState.reset).started = true →
        ∀ v, (tdValue c (vget (trigOf s t).td d TdState.reset).win x).1 = some v →
        ∃ u, exec (.tdSample t d) s = .next u ∧ vget (trigOf u t).values d [] = rest ∧ getB u .trigStatus t 0 (16 + d) =
          (if (tdLimits c).2.1 ≤ v then true
           else if v < (tdLimits c).2.1 - (tdLimits c).2.2 then false
           else getB s .trigStatus t 0 (16 + d))) ∧
      (ustate s (trigUnit t) = .running → (trigOf s t).run.td[d]? = some c → bit c.cfg 15 = true → x.valid = true →
        (x.restart = true ∨ (vget (trigOf s t).td d TdState.reset).gap = true) →
        ∃ u, exec (.tdSample t d) s = .next u ∧ vget (trigOf u t).values d [] = rest ∧ getB u .trigStatus t 0 (16 + d) =
          (tdValue c [] x).1.any fun v => decide ((tdLimits c).2.1 ≤ v)) ∧
      (ustate s (trigUnit t) = .running → (trigOf s t).run.td[d]? = some c → bit c.cfg 15 = true → x.valid = false →
        ∃ u, exec (.tdSample t d) s = .next u ∧ vget (trigOf u t).values d [] = rest ∧
          (vget (trigOf u t).td d TdState.reset).gap = true ∧ getB u .trigStatus t 0 (16 + d) = getB s .trigStatus t 0 (16 + d) ∧
          (rd u .trigCount t 1).toNat = satU 32 ((rd s .trigCount t 1).toNat + 1)) ∧
      (ustate s (trigUnit t) ≠ .running →
        ∃ u, exec (.tdSample t d) s = .next u ∧ vget (trigOf u t).values d [] = rest ∧ u = { s with trig := u.trig })) ∧
  (∀ (s : State) (t d : Nat), vget (trigOf s t).values d [] = [] → exec (.tdSample t d) s = .next s) ∧
  (∀ (s : State) (t k : Nat) (o : SpecOut) (rest : List SpecOut) (cfg mb : Word), t < 4 → k < 4 →
      (trigOf s t).spectra = o :: rest →
      (ustate s (trigUnit t) = .running → (∀ p ∈ (trigOf s t).pendFm, o.arrived ≤ p.2.2) →
        (trigOf s t).run.fm[k]? = some (cfg, mb) → bit cfg 5 = true →
        ∃ u, exec (.fmSpectrum t) s = .next u ∧ (trigOf u t).spectra = rest ∧
          vget (trigOf u t).hist k [] =
            (((decide (max 1 (fld mb 0 21) ≤ maskViolations s t k cfg o) != bit cfg 4), o.flags) ::
              if specClears o.flags then [] else vget (trigOf s t).hist k []).take (fld cfg 6 6 + 1) ∧
          getB u .trigStatus t 0 (20 + k) =
            decide (fld cfg 12 6 + 1 ≤ ((vget (trigOf u t).hist k []).filter (·.1)).length) ∧
          (rd u .trigCount t 2).toNat = satU 32 ((rd s .trigCount t 2).toNat + 1)) ∧
      (∀ c swap at_, ustate s (trigUnit t) = .running → (trigOf s t).pendFm = some (c, swap, at_) → at_ < o.arrived →
        ∃ u, exec (.fmSpectrum t) s = .next u ∧ (trigOf u t).pendFm = none ∧ (trigOf u t).run.fm = c.fm ∧
          maskActive u t = (if swap then 1 - maskActive s t else maskActive s t)) ∧
      (ustate s (trigUnit t) ≠ .running →
        ∃ u, exec (.fmSpectrum t) s = .next u ∧ (trigOf u t).spectra = rest ∧ u = { s with trig := u.trig })) ∧
  (∀ (s : State) (t : Nat), (trigOf s t).spectra = [] → exec (.fmSpectrum t) s = .next s) ∧
  (∀ (s : State) (t : Nat) (o : DensRows) (rest : List DensRows), t < 4 → (trigOf s t).rows = o :: rest →
      (ustate s (trigUnit t) = .running → (∀ p ∈ (trigOf s t).pendDens, o.arrived ≤ p.2) →
        bit (trigOf s t).run.dens 26 = true →
        ∃ u, exec (.densityRows t) s = .next u ∧ (trigOf u t).rows = rest ∧
          (trigOf u t).dens = (((((o.rows.take (fld (trigOf s t).run.densX 16 14 + 1)).drop
              (fld (trigOf s t).run.densX 0 14)).filter fun r => decide (fld (trigOf s t).run.densY 0 10 ≤ r ∧
                r ≤ fld (trigOf s t).run.densY 16 10)).length, o.flags) ::
              if specClears o.flags then [] else (trigOf s t).dens).take (fld (trigOf s t).run.dens 16 10 + 1) ∧
          getB u .trigStatus t 0 24 = (decide ((trigOf u t).dens.length = fld (trigOf s t).run.dens 16 10 + 1) &&
            (decide (fld (trigOf s t).run.dens 0 16 * (fld (trigOf s t).run.dens 16 10 + 1) *
                (fld (trigOf s t).run.densX 16 14 + 1 - fld (trigOf s t).run.densX 0 14) ≤
              ((trigOf u t).dens.map (·.1)).sum * 65536) != bit (trigOf s t).run.dens 27))) ∧
      (∀ c at_, ustate s (trigUnit t) = .running → (trigOf s t).pendDens = some (c, at_) → at_ < o.arrived →
        ∃ u, exec (.densityRows t) s = .next u ∧ (trigOf u t).pendDens = none ∧ (trigOf u t).run.dens = c.dens ∧
          (trigOf u t).run.densX = c.densX ∧ (trigOf u t).run.densY = c.densY) ∧
      (ustate s (trigUnit t) ≠ .running →
        ∃ u, exec (.densityRows t) s = .next u ∧ (trigOf u t).rows = rest ∧ u = { s with trig := u.trig })) ∧
  (∀ (s : State) (t : Nat), (trigOf s t).rows = [] → exec (.densityRows t) s = .next s) ∧
  (∀ (s : State) (ag : AgentId) (t : Nat), t < 4 → WriteOpen s ag (Reg.off .trigCommit t 0) →
      (trigCheck s t (trigStaged s t) = none →
        ∃ u, exec (.trigCommitNext ag t) s = .next u ∧ (trigOf u t).pendTd = some (trigStaged s t) ∧
          (trigOf u t).pendFm = some (trigStaged s t, false, nowTicks s) ∧
          (trigOf u t).pendDens = some (trigStaged s t, nowTicks s) ∧ getB u .trigStatus t 0 0 = true) ∧
      (trigCheck s t (trigStaged s t) = none → trigMaskCheck s t (trigStaged s t) = none →
        ∃ u, exec (.maskSwap ag t) s = .next u ∧ (trigOf u t).pendTd = some (trigStaged s t) ∧
          (trigOf u t).pendFm = some (trigStaged s t, true, nowTicks s)) ∧
      (∀ off, trigCheck s t (trigStaged s t) = some off →
        (∃ u, exec (.trigCommitNext ag t) s = .next u ∧ RaisedData s u 0x0504 (trigUnit t) [.u16 0, .u32 off] ∧
          getB u .trigStatus t 0 1 = true ∧ u.trig = s.trig) ∧
        (∃ u, exec (.maskSwap ag t) s = .next u ∧ RaisedData s u 0x0504 (trigUnit t) [.u16 0, .u32 off] ∧
          getB u .trigStatus t 0 1 = true ∧ u.trig = s.trig)) ∧
      (∀ k j, trigCheck s t (trigStaged s t) = none → trigMaskCheck s t (trigStaged s t) = some (k, j) →
        ∃ u, exec (.maskSwap ag t) s = .next u ∧ RaisedData s u 0x0504 (trigUnit t) [.u16 1, .u16 k, .u16 j] ∧
          getB u .trigStatus t 0 1 = true ∧ u.trig = s.trig) ∧
      (∃ u, exec (.trigCommitCancel ag t) s = .next u ∧ (trigOf u t).pendTd = none ∧ (trigOf u t).pendFm = none ∧
        (trigOf u t).pendDens = none ∧ getB u .trigStatus t 0 0 = false) ∧
      (∃ u, exec (.clearHistory ag t) s = .next u ∧ (trigOf u t).dens = [] ∧
        ∀ k, k < 4 → vget (trigOf u t).hist k [] = [])) ∧
  (∀ (s : State) (t : Nat) (c : TrigSet), t < 4 → (trigOf s t).pendTd = some c →
      ∃ u, exec (.trigCommitApply t) s = .next u ∧ (trigOf u t).pendTd = none ∧ (trigOf u t).run.td = c.td ∧
        epochOf u (trigUnit t) = epochOf s (trigUnit t) + 1 ∧
        RaisedData s u 0x0503 (trigUnit t)
          [.u16 (if (trigOf s t).pendFm.any fun p => p.2.1 then 1 - maskActive s t else maskActive s t)]) ∧
  (∀ (s : State) (t : Nat), (trigOf s t).pendTd = none → exec (.trigCommitApply t) s = .next s) ∧
  (∀ (s : State) (ag : AgentId) (t : Nat) (v : BitVec 32), t < 4 → WriteOpen s ag (Reg.off .trigMaskData t 0) →
      ((trigOf s t).pendFm.any (fun p => p.2.1) = false →
        ∃ u, exec (.maskDataWrite ag t v) s = .next u ∧
          spGet u.maskBank (maskKey t (1 - maskActive s t) (getF s .trigMaskAddr t 0 0 15)) 0 = v ∧
          getF u .trigMaskAddr t 0 0 15 = (getF s .trigMaskAddr t 0 0 15 + 1) % 32768) ∧
      ((trigOf s t).pendFm.any (fun p => p.2.1) = true → s.mgt.log.length < auditSize →
        ∃ u, exec (.maskDataWrite ag t v) s = .next u ∧ Audited s u 0x02 ag 4 (Reg.off .trigMaskData t 0) v ∧
          (rd u .trigCount t 5).toNat = satU 32 ((rd s .trigCount t 5).toNat + 1)))

/-- 07 R288, R294, R295, R297 to R300, R302, R303, R305, R307; the letter of a refused ARM: log entry 24. -/
def Obligations.WeirCommandsComplete : Prop :=
  (∀ (s : State) (ag : AgentId) (w : Nat), w < 16 → WriteOpen s ag (Reg.off .trigWeirCmd w 0) →
      (armFail s w = none →
        ∃ t, exec (.weirArm ag w) s = .next t ∧ (weir t w).armFrom = some s.time.cycles ∧ (weir t w).disarmAt = none ∧
          epochOf t 0x0C0 = epochOf s 0x0C0 + 1) ∧
      (∀ x, armFail s w = some x →
        ∃ t, exec (.weirArm ag w) s = .next t ∧ (weir t w).armFrom = none ∧ getB t .trigWeirStatus w 0 3 = true ∧
          RaisedData s t 0x0505 0x0C0 [.u16 w, .u16 x]) ∧
      (∃ t, exec (.weirDisarm ag w) s = .next t ∧ (weir t w).armFrom = (weir s w).armFrom ∧ (weir t w).disarmAt =
        (if (weir s w).armFrom.isSome && (weir s w).disarmAt.isNone then some s.time.cycles else (weir s w).disarmAt)) ∧
      (∃ t, exec (.weirReset ag w) s = .next t ∧ getB t .trigWeirStatus w 0 1 = false ∧
        getB t .trigWeirStatus w 0 2 = false ∧ getF t .trigWeirStatus w 0 8 24 = 0 ∧ t.tree = s.tree)) ∧
  (∀ (s : State) (w : Nat) (a : Arrival) (o : Occ), w < 16 → evtFollow s = s → (∀ v < 16, ∀ b ∈ (weir s v).line, s.time.cycles < b.cycle) →
      s.tree.net = [a] → a.weir = w → a.cycle ≤ s.time.cycles → a.input < 4 → a.occ = some o →
      weirSrc s w a.input ≠ 0xFF → treeOn s = true →
      (getF s .trigWeirCfg w 0 0 3 = 1 → weirBlocked s w a.cycle = none →
        ∃ t f, exec (.weirOccurrence w) s = .next t ∧ rd t .trigWeirFires w 0 = rd s .trigWeirFires w 0 + 1 ∧
          Raised s t 0x0501 0x0C0 ∧ (weir t w).fireAt = (a.cycle :: (weir s w).fireAt).take 4 ∧
          getB t .trigWeirStatus w 0 1 = (rd s .trigWeirHoldoff w 0 != 0) ∧
          (weir t w).holdTo = a.cycle + (rd s .trigWeirHoldoff w 0).toNat ∧
          f = ({ weir := w, cycle := a.cycle, stamp := mkStamp o.time o.qual, flags := o.flags, evSeq := s.nextEvent } : Fire) ∧
          ∀ k < 4, vget t.tree.fires k [] =
            if ustate s (0x0E0 + k) = .running then vget s.tree.fires k [] ++ [f] else vget s.tree.fires k []) ∧
      (getF s .trigWeirCfg w 0 0 3 = 3 → a.input = 0 → weirBlocked s w a.cycle = none →
        ∃ t, exec (.weirOccurrence w) s = .next t ∧ getB t .trigWeirStatus w 0 2 = true ∧ (weir t w).seqAt = a.cycle ∧
          (weir t w).seqTo = a.cycle + max 1 (rd s .trigWeirWindow w 0).toNat) ∧
      (getF s .trigWeirCfg w 0 0 3 = 4 → a.input = 0 → weirBlocked s w a.cycle = none →
        getF s .trigWeirStatus w 0 8 24 + 1 < getF s .trigWeirCountN w 0 0 24 →
        ∃ t, exec (.weirOccurrence w) s = .next t ∧
          getF t .trigWeirStatus w 0 8 24 = getF s .trigWeirStatus w 0 8 24 + 1) ∧
      (∀ c, weirBlocked s w a.cycle = some c →
        ∃ t, exec (.weirOccurrence w) s = .next t ∧ rd t .trigWeirFires w 0 = rd s .trigWeirFires w 0 ∧
          (rd t .trigWeirIgnored w c).toNat = satU 32 ((rd s .trigWeirIgnored w c).toNat + 1))) ∧
  (∀ (s : State) (w : Nat), w < 16 → evtFollow s = s → (∀ v < 16, ∀ b ∈ (weir s v).line, s.time.cycles < b.cycle) →
      (∀ a ∈ s.tree.net, a.weir = w → s.time.cycles < a.cycle) → exec (.weirOccurrence w) s = .next s) ∧
  (∀ (s : State) (w : Nat), w < 16 →
      ∃ t, exec (.delayLineOutput w) s = .next t ∧
        (weir t w).line = ((weir s w).line.filter fun a => decide (s.time.cycles < a.cycle)) ∧
        t.tree.net = s.tree.net ++ ((weir s w).line.filter fun a => decide (a.cycle ≤ s.time.cycles))) ∧
  (∀ (s : State) (w : Nat),
      ((weir s w).seqTo < s.time.cycles →
        ∃ t, exec (.seqWindowExpiry w) s = .next t ∧ getB t .trigWeirStatus w 0 2 = false ∧ t = { s with regs := t.regs }) ∧
      (s.time.cycles ≤ (weir s w).seqTo → exec (.seqWindowExpiry w) s = .next s) ∧
      ((weir s w).holdTo < s.time.cycles →
        ∃ t, exec (.holdoffExpiry w) s = .next t ∧ getB t .trigWeirStatus w 0 1 = false ∧ t = { s with regs := t.regs }) ∧
      (s.time.cycles ≤ (weir s w).holdTo → exec (.holdoffExpiry w) s = .next s)) ∧
  (∀ (s : State) (ag : AgentId) (v : BitVec 32) (k : Nat), k < 4 →
      (WriteOpen s ag (Reg.off .trigSwPulse 0 0) →
        ∃ t, exec (.trigSwPulse ag v) s = .next t ∧ spGet t.tree.swPulse k 0 =
          if bit v k then s.time.cycles + 1 else spGet s.tree.swPulse k 0) ∧
      (WriteOpen s ag (Reg.off .trigSwLevel 0 0) →
        ∃ t, exec (.trigSwLevelWrite ag v) s = .next t ∧ getB t .trigSwLevel 0 0 k = bit v k)) ∧
  (∀ (s : State) (n : Nat), n < 8 → (vget s.tree.pins n OutPin.reset).mode = 0 →
      (vget s.tree.pins n OutPin.reset).stop ≤ s.time.cycles →
      ∃ t, exec (.trigOutPulseEnd n) s = .next t ∧ (vget t.tree.pins n OutPin.reset).active = false ∧
        ∀ m, m ≠ n → vget t.tree.pins m OutPin.reset = vget s.tree.pins m OutPin.reset) ∧
  (∀ (s : State) (n : Nat), ((vget s.tree.pins n OutPin.reset).mode ≠ 0 ∨
      s.time.cycles < (vget s.tree.pins n OutPin.reset).stop) → exec (.trigOutPulseEnd n) s = .next s) ∧
  (∀ (s : State) (ag : AgentId) (v : BitVec 32) (n : Nat), n < 8 → WriteOpen s ag (Reg.off .trigOutClr 0 0) →
      ∃ t, exec (.trigOutClr ag v) s = .next t ∧ (vget t.tree.pins n OutPin.reset).active =
        (if bit v n && decide ((vget s.tree.pins n OutPin.reset).mode = 1) then false
         else (vget s.tree.pins n OutPin.reset).active))

/-- 08 R315, R318 to R320, R322, R323, R327, R328, R331, R341. -/
def Obligations.AcquisitionRunCommandsComplete : Prop :=
  (∀ (s : State) (ag : AgentId) (a : Nat), a < 4 → WriteOpen s ag (Reg.off .acqCmd a 0) →
      (startFail s a = none →
        ∃ t, exec (.acqStart ag a) s = .next t ∧ astate t a = (if acqCfgB s a 3 then 1 else 2) ∧
          rd t .acqProgress a 1 = rd s .acqProgress a 1 + 1 ∧ rd t .acqProgress a 0 = 0 ∧ (acqOf t a).slots = acqS s a ∧
          epochOf t (acqUnit a) = epochOf s (acqUnit a) + 1 ∧
          RaisedData s t 0x0602 (acqUnit a) [.u32 ((acqNumber s a + 1) % 2 ^ 32)]) ∧
      (∀ off, startFail s a = some off →
        ∃ t, exec (.acqStart ag a) s = .next t ∧ astate t a = astate s a ∧ getB t .acqStatus a 0 3 = true ∧ t.acq = s.acq ∧
          RaisedData s t 0x0601 (acqUnit a) [.u32 off]) ∧
      (acqRuns s a = true → astate s a ≠ 4 →
        ∃ t, exec (.acqStop ag a) s = .next t ∧ astate t a = 6 ∧ getF t .acqStatus a 0 9 3 = 2 ∧
          RaisedData s t 0x0603 (acqUnit a) [.u32 (acqNumber s a), .u32 (acqCompleted s a), .u16 2]) ∧
      (astate s a = 4 →
        ∃ t, exec (.acqStop ag a) s = .next t ∧ astate t a = 4 ∧ (acqOf t a).stopping = some 2) ∧
      (acqRuns s a = false →
        ∃ t, exec (.acqStop ag a) s = .next t ∧ astate t a = astate s a ∧ t.acq = s.acq) ∧
      (acqRuns s a = true →
        ∃ t, exec (.acqAbort ag a) s = .next t ∧ astate t a = 6 ∧ getF t .acqStatus a 0 9 3 = 5 ∧
          getF t .acqStatus a 0 5 2 = 1 ∧
          RaisedData s t 0x0603 (acqUnit a) [.u32 (acqNumber s a), .u32 (acqCompleted s a), .u16 5]) ∧
      (acqRuns s a = false →
        ∃ t, exec (.acqAbort ag a) s = .next t ∧ astate t a = astate s a ∧ getF t .acqStatus a 0 5 2 = 2 ∧ t.acq = s.acq)) ∧
  (∀ (s : State) (a : Nat) (f : Fire) (r : List Fire) (stalled : Bool), a < 4 → vget s.tree.fires a [] = f :: r →
      (∀ g ∈ r.head?, g.cycle ≠ f.cycle) →
      (ustate s (acqUnit a) = .running → (acqCfgB s a 5 && fld (rd s .acqWeir a 0) 20 4 == f.weir) = false →
        bit (rd s .acqWeir a 0) f.weir = true →
        (∀ armT, (astate s a = 2 ∨ astate s a = 3) → armTime s a = some armT → armT ≤ stampTicks f.stamp →
          anyLate s a (stampTicks f.stamp) = false → (acqCfgB s a 0 && anyShort s a (stampTicks f.stamp)) = false →
          ∃ t, exec (.acqFire a stalled) s = .next t ∧ (astate t a = 4 ∨ astate t a = 5) ∧ vget t.tree.fires a [] = r ∧
            (acqOf t a).fire = some (f, epochOf s (acqUnit a), planEpoch s)) ∧
        ((astate s a = 5 ∨ ((astate s a = 2 ∨ astate s a = 3) ∧ armTime s a = none)) →
          ∃ t, exec (.acqFire a stalled) s = .next t ∧ (acqOf t a).held = (acqOf s a).held ++ [f] ∧
            astate t a = astate s a) ∧
        (∀ c, (acqOf s a).missed.length < 127 →
          ((astate s a = 4 ∧ (∃ g ∈ (acqOf s a).fire, c = if stampTicks f.stamp < stampTicks g.1.stamp then 3 else 0)) ∨
            ((astate s a = 2 ∨ astate s a = 3) ∧ (∃ armT ∈ armTime s a,
              (stampTicks f.stamp < armT ∧ c = 1) ∨
                (armT ≤ stampTicks f.stamp ∧ anyLate s a (stampTicks f.stamp) = true ∧ c = 4) ∨
                (armT ≤ stampTicks f.stamp ∧ anyLate s a (stampTicks f.stamp) = false ∧
                  (acqCfgB s a 0 && anyShort s a (stampTicks f.stamp)) = true ∧ c = 2)))) →
          ∃ t m, exec (.acqFire a stalled) s = .next t ∧ (acqOf t a).missed = (acqOf s a).missed ++ [m] ∧
            m = ({ fire := f, cause := c, segs := acqCompleted s a, epoch := epochOf s (acqUnit a),
                   planEp := planEpoch s } : AcqMiss) ∧
            astate t a = astate s a)) ∧
      (ustate s (acqUnit a) = .running → acqCfgB s a 5 = true → fld (rd s .acqWeir a 0) 20 4 = f.weir →
        acqRuns s a = true → astate s a ≠ 4 →
        ∃ t, exec (.acqFire a stalled) s = .next t ∧ astate t a = 6 ∧ getF t .acqStatus a 0 9 3 = 3 ∧
          RaisedData s t 0x0603 (acqUnit a) [.u32 (acqNumber s a), .u32 (acqCompleted s a), .u16 3]) ∧
      (ustate s (acqUnit a) = .running → acqCfgB s a 5 = false → acqCfgB s a 3 = true →
        fld (rd s .acqWeir a 0) 16 4 = f.weir → bit (rd s .acqWeir a 0) f.weir = false → astate s a = 1 →
        ∃ t, exec (.acqFire a stalled) s = .next t ∧ astate t a = 2 ∧ (acqOf t a).opened = true) ∧
      (ustate s (acqUnit a) ≠ .running →
        ∃ t, exec (.acqFire a stalled) s = .next t ∧ vget t.tree.fires a [] = r ∧ t = { s with tree := t.tree })) ∧
  (∀ (s : State) (a : Nat) (stalled : Bool), vget s.tree.fires a [] = [] → exec (.acqFire a stalled) s = .next s) ∧
  (∀ (s u : State) (a k first : Nat) (it : Item) (stored stalled : Bool) (errs : List HbmErr), a < 4 → k < 5 →
      acqItem a k s = some (it, u) →
      (ustate s (acqUnit a) = .running → srcEn s a k = true → 2 ≤ astate s a → astate s a ≤ 4 →
        (itemGeneration it (acqSrc s a k).ended).1 = false → (acqSrc s a k).done = false →
        ∃ t c, exec (.acqChunk a k first stored stalled errs) s = .next t ∧ (acqSrc t a k).last = some it.seq ∧
          (acqSrc t a k).count = (acqSrc s a k).count + 1 +
            (if (acqSrc s a k).arm = none then 0 else missingItems (acqSrc s a k).last it.seq) ∧
          (acqSrc t a k).next = (acqSrc s a k).next + min 1024 (hdrValid it) +
            1024 * (if (acqSrc s a k).arm = none then 0 else missingItems (acqSrc s a k).last it.seq) ∧
          (acqSrc t a k).arm.isSome = true ∧ (acqSrc t a k).chunks.head? = some c ∧ c.gap = !stored ∧ c.seq = it.seq) ∧
      (ustate s (acqUnit a) = .running → srcEn s a k = true → 2 ≤ astate s a → astate s a ≤ 4 →
        (itemGeneration it (acqSrc s a k).ended).1 = false → (acqSrc s a k).done = true →
        ∃ t, exec (.acqChunk a k first stored stalled errs) s = .next t ∧ (acqSrc t a k).last = some it.seq ∧
          (acqSrc t a k).count = (acqSrc s a k).count) ∧
      (ustate s (acqUnit a) = .running → srcEn s a k = true → (astate s a < 2 ∨ 4 < astate s a) →
        ∃ t, exec (.acqChunk a k first stored stalled errs) s = .next t ∧ (acqSrc t a k).last = some it.seq ∧
          (acqSrc t a k).chunks = (acqSrc s a k).chunks ∧ t = { u with acq := t.acq }) ∧
      ((ustate s (acqUnit a) ≠ .running ∨ srcEn s a k = false) →
        exec (.acqChunk a k first stored stalled errs) s = .next u)) ∧
  (∀ (s : State) (a k first : Nat) (stored stalled : Bool) (errs : List HbmErr), acqItem a k s = none →
      exec (.acqChunk a k first stored stalled errs) s = .next s) ∧
  (∀ (s : State) (a : Nat) (f : Fire) (ep pe : BitVec 32), a < 4 → astate s a = 5 → (acqOf s a).fire = some (f, ep, pe) →
      ∃ t, exec (.acqSegmentComplete a) s = .next t ∧ rd t .acqProgress a 0 = rd s .acqProgress a 0 + 1 ∧
        (∃ g ∈ (acqOf t a).segs, g.ordinal = acqCompleted s a ∧ g.fire = f ∧ g.epoch = ep ∧ g.planEp = pe) ∧
        (∀ c, (acqOf s a).stopping = some c → astate t a = 6 ∧ getF t .acqStatus a 0 9 3 = c % 8) ∧
        ((acqOf s a).stopping = none → (acqOf s a).slots ≤ acqCompleted s a + 1 → acqCfgB s a 1 = false →
          astate t a = 6 ∧ getF t .acqStatus a 0 9 3 = 1) ∧
        ((acqOf s a).stopping = none → (acqCompleted s a + 1 < (acqOf s a).slots ∨ acqCfgB s a 1 = true) →
          astate t a = if acqCfgB s a 4 then 1 else 2)) ∧
  (∀ (s : State) (a : Nat), (astate s a ≠ 5 ∨ (acqOf s a).fire = none) → exec (.acqSegmentComplete a) s = .next s)

/-- 08 R332 to R334, R337, R341 to R343. -/
def Obligations.AcquisitionReadCommandsComplete : Prop :=
  (∀ (s : State) (ag : AgentId) (a : Nat), a < 4 → WriteOpen s ag (Reg.off .acqCmd a 0) →
      ((acqOf s a).job = none → (acqCfgB s a 2 && acqRuns s a) = false →
        segKept s a (rd s .acqReadFirst a 0).toNat = true →
        (rd s .acqReadFirst a 0).toNat + max 1 (rd s .acqReadCount a 0).toNat ≤ acqCompleted s a →
        ∃ t j, exec (.acqRead ag a) s = .next t ∧ (acqOf t a).job = some j ∧ j.first = (rd s .acqReadFirst a 0).toNat ∧
          j.last = (rd s .acqReadFirst a 0).toNat + max 1 (rd s .acqReadCount a 0).toNat - 1 ∧ j.ord = j.first ∧
          getB t .acqStatus a 0 4 = true) ∧
      (((acqOf s a).job.isSome = true ∨ (acqCfgB s a 2 && acqRuns s a) = true ∨
          segKept s a (rd s .acqReadFirst a 0).toNat = false ∨
          acqCompleted s a < (rd s .acqReadFirst a 0).toNat + max 1 (rd s .acqReadCount a 0).toNat) →
        ∃ t, exec (.acqRead ag a) s = .next t ∧ t.acq = s.acq ∧ getB t .acqStatus a 0 3 = true) ∧
      ((acqOf s a).job.isSome = true →
        ∃ t, exec (.acqReadAbort ag a) s = .next t ∧ (acqOf t a).job = none ∧ getF t .acqStatus a 0 7 2 = 1 ∧
          getB t .acqStatus a 0 4 = false) ∧
      ((acqOf s a).job = none →
        ∃ t, exec (.acqReadAbort ag a) s = .next t ∧ getF t .acqStatus a 0 7 2 = 2 ∧ t.acq = s.acq) ∧
      (∃ t, exec (.flushList ag a) s = .next t ∧ (acqOf t a).missed = [] ∧
        t.plan.offered.length = s.plan.offered.length + ((acqOf s a).missed.length + 127) / 128)) ∧
  (∀ (s : State) (a : Nat), a < 4 →
      ((acqOf s a).missed ≠ [] →
        ∃ t it, exec (.acqListTimeout a) s = .next t ∧ (acqOf t a).missed = (acqOf s a).missed.drop 128 ∧
          t.plan.offered = s.plan.offered ++ [it] ∧ it.kind = 0x31 ∧ it.src = acqUnit a) ∧
      ((acqOf s a).missed = [] → exec (.acqListTimeout a) s = .next s)) ∧
  (∀ (s : State) (a soft : Nat) (hard : List Nat) (errs : List HbmErr) (j : AcqJob), a < 4 → (acqOf s a).job = some j →
      (∀ (g : AcqSeg) (p : AcqPart) (ps : List AcqPart), segKept s a j.ord = true →
        (acqOf s a).segs.find? (fun g => g.ordinal == j.ord) = some g →
        g.parts.filter (fun p => j.srcMask.testBit p.src && decide (j.src ≤ p.src)) = p :: ps →
        ∃ t it, exec (.acqReadoutRecord a soft hard errs) s = .next t ∧ t.plan.offered.getLast? = some it ∧
          it.kind = 0x30 ∧ it.src = acqUnit a ∧ it.seq = j.frag ∧ it.evSeq = g.fire.evSeq ∧ it.epoch = g.epoch) ∧
      (segKept s a j.ord = false →
        ∃ t, exec (.acqReadoutRecord a soft hard errs) s = .next t ∧ t.plan = s.plan ∧
          (rd t .acqCount a 5).toNat = satU 32 ((rd s .acqCount a 5).toNat + 1) ∧
          (j.ord < j.last → (acqOf t a).job = some { j with ord := j.ord + 1, src := 0, frag := 0, kept := none }) ∧
          (j.last ≤ j.ord → RaisedData s t 0x0609 (acqUnit a) [.u32 j.first, .u32 j.last]))) ∧
  (∀ (s : State) (a soft : Nat) (hard : List Nat) (errs : List HbmErr), (acqOf s a).job = none →
      exec (.acqReadoutRecord a soft hard errs) s = .next s) ∧
  (∀ (s : State) (a : Nat) (errs : List HbmErr) (g : AcqSeg) (tested : Bool) (r : List (AcqSeg × Bool)), a < 4 →
      (acqOf s a).tests = (g, tested) :: r →
      ∃ t it, exec (.maskTestDone a errs) s = .next t ∧ (acqOf t a).tests = r ∧
        it ∈ t.plan.offered ∧ it.kind = 0x22 ∧ it.src = acqUnit a ∧ it.evSeq = g.fire.evSeq ∧ it.epoch = g.epoch) ∧
  (∀ (s : State) (a : Nat) (errs : List HbmErr), (acqOf s a).tests = [] → exec (.maskTestDone a errs) s = .next s) ∧
  (∀ (s : State) (ag : AgentId) (a : Nat) (v : BitVec 32), a < 4 → WriteOpen s ag (Reg.off .acqMtData a 0) →
      (acqRuns s a = false →
        ∃ t, exec (.acqMtDataWrite ag a v) s = .next t ∧ mtWord t a (getF s .acqMtAddr a 0 0 12) = v ∧
          getF t .acqMtAddr a 0 0 12 = (getF s .acqMtAddr a 0 0 12 + 1) % 4096) ∧
      (acqRuns s a = true → s.mgt.log.length < auditSize →
        ∃ t, exec (.acqMtDataWrite ag a v) s = .next t ∧ Audited s t 0x02 ag 4 (Reg.off .acqMtData a 0) v ∧
          getB t .acqStatus a 0 3 = true))

/-- 06 R240, 07 R284, 09 R350, R355, R357, R360, R361, R368, R369. -/
def Obligations.DensityCommandsComplete : Prop :=
  (∀ (s : State) (d : Nat) (o : SpecOut) (r : List SpecOut), d < 4 → (densOf s d).spectra = o :: r →
      (ustate s (densUnit d) = .running →
        ((o.flags.testBit 3 || o.flags.testBit 1) = false ∨ (densOf s d).frame.received = 0) →
        ∃ t, exec (.densSpectrum d) s = .next t ∧ (densOf t d).spectra = r ∧
          (ustate s (trigUnit d) = .running → (trigOf t d).rows = (trigOf s d).rows ++
            [{ seq := o.seq, stamp := o.stamp, flags := o.flags, rows := o.points.map (densRow (densOf s d).set),
               arrived := o.arrived }]) ∧
          ((densOf s d).zeroing = false → ((densOf s d).queue.map fun e => e.rows.length).sum + o.points.length ≤ 65536 →
            (densOf t d).queue = (densOf s d).queue ++
              [{ frame := (densOf s d).frame.num, rows := o.points.map (densRow (densOf s d).set),
                 connect := bit (densOf s d).set.persist 2 }]) ∧
          (((densOf s d).zeroing = true ∨ 65536 < ((densOf s d).queue.map fun e => e.rows.length).sum + o.points.length) →
            (densOf t d).queue = (densOf s d).queue ∧
            (rd t .densCount d 1).toNat = satU 32 ((rd s .densCount d 1).toNat + 1))) ∧
      (ustate s (densUnit d) = .running → (o.flags.testBit 3 || o.flags.testBit 1) = true →
        (densOf s d).frame.received ≠ 0 → (densOf s d).sweep = none → (densOf s d).zeroing = false →
        (densOf s d).commit = none → 1 < fld (densOf s d).set.frame 0 24 →
        ∃ t, exec (.densSpectrum d) s = .next t ∧ (densOf t d).spectra = r ∧ (densOf t d).frame.num = ((densOf s d).frame.num + 1) % 2 ^ 32 ∧
          (densOf t d).frame.received = 1 ∧ (densOf t d).sweep.isSome = true) ∧
      (ustate s (densUnit d) ≠ .running →
        ∃ t, exec (.densSpectrum d) s = .next t ∧ (densOf t d).spectra = r ∧ t = { s with dens := t.dens })) ∧
  (∀ (s : State) (d : Nat), (densOf s d).spectra = [] → exec (.densSpectrum d) s = .next s) ∧
  (∀ (s : State) (d : Nat) (e : DensEntry) (r : List DensEntry), d < 4 → (densOf s d).queue = e :: r →
      ∃ t, exec (.densHistogramDone d) s = .next t ∧ (densOf t d).queue = r ∧
        (rd t .densCount d 0).toNat = satU 32 ((rd s .densCount d 0).toNat + 1)) ∧
  (∀ (s : State) (d : Nat), (densOf s d).queue = [] → exec (.densHistogramDone d) s = .next s) ∧
  (∀ (s : State) (d : Nat), d < 4 →
      ((densOf s d).zeroing = true → (densOf s d).ending = none →
        ∃ t, exec (.densSweepDone d) s = .next t ∧ (densOf t d).zeroing = false ∧ getB t .densStatus d 0 3 = false ∧
          (densOf t d).frame = (densOf s d).frame) ∧
      (∀ w m, (densOf s d).zeroing = false → (densOf s d).sweep = some w → w.swept = some m → sweepWaits s d w = false →
        (densOf s d).ending = none →
        ∃ t, exec (.densSweepDone d) s = .next t ∧ (densOf t d).sweep = none ∧ getB t .densStatus d 0 3 = false ∧
          (bit w.set.out 21 = true →
            RaisedData s t 0x0705 (densUnit d) [.u32 w.frame.num, .u32 w.frame.hist, .u32 w.frame.turned])) ∧
      (∀ cut clear, ((densOf s d).zeroing = true ∨
          ((densOf s d).zeroing = false ∧ ∃ w ∈ (densOf s d).sweep, w.swept.isSome = true ∧ sweepWaits s d w = false)) →
        (densOf s d).ending = some (cut, clear) →
        ∃ t, exec (.densSweepDone d) s = .next t ∧ (densOf t d).zeroing = false ∧ (densOf t d).ending = none ∧
          (densOf t d).frame.num = ((densOf s d).frame.num + 1) % 2 ^ 32 ∧ (densOf t d).sweep.isSome = true ∧ getB t .densStatus d 0 3 = true) ∧
      (∀ w, (densOf s d).zeroing = false → (densOf s d).sweep = some w →
        (w.swept = none ∨ sweepWaits s d w = true) → exec (.densSweepDone d) s = .next s) ∧
      ((densOf s d).zeroing = false → (densOf s d).sweep = none → exec (.densSweepDone d) s = .next s)) ∧
  (∀ (s : State) (ag : AgentId) (d : Nat) (v : BitVec 32), d < 4 → WriteOpen s ag (Reg.off .densCommit d 0) →
      (densFail s d (densStaged s d) = none →
        ∃ t c, exec (.densCommitNextFrame ag d v) s = .next t ∧ (densOf t d).commit = some c ∧
          c.set = some (densStaged s d) ∧ getB t .densStatus d 0 0 = true) ∧
      (∀ off, densFail s d (densStaged s d) = some off →
        ∃ t, exec (.densCommitNextFrame ag d v) s = .next t ∧ RaisedData s t 0x0703 (densUnit d) [.u32 off] ∧
          getB t .densStatus d 0 1 = true ∧ t.dens = s.dens) ∧
      (∃ t, exec (.densCommitCancel ag d) s = .next t ∧ (densOf t d).commit = none ∧ (densOf t d).swap = false ∧
        getB t .densStatus d 0 0 = false) ∧
      ((fld v 0 2 = 0 ∨ (fld v 0 2 = 1 ∧ densFail s d (densStaged s d) = none)) →
        (∃ t c, exec (.densClear ag d v) s = .next t ∧ (densOf t d).commit = some c ∧ c.clear = true) ∧
        (∃ t c, exec (.densSnapshot ag d v) s = .next t ∧ (densOf t d).commit = some c ∧ c.snap = true) ∧
        (∃ t, exec (.cmapSwap ag d v) s = .next t ∧ (densOf t d).swap = true)) ∧
      ((fld v 0 2 = 2 ∨ (fld v 0 2 = 1 ∧ densFail s d (densStaged s d) ≠ none)) →
        (∃ t, exec (.densClear ag d v) s = .next t ∧ t.dens = s.dens) ∧
        (∃ t, exec (.densSnapshot ag d v) s = .next t ∧ t.dens = s.dens) ∧
        (∃ t, exec (.cmapSwap ag d v) s = .next t ∧ t.dens = s.dens)) ∧
      (fld v 0 2 = 3 →
        (∃ t, exec (.densClear ag d v) s = .next t ∧ (densOf t d).commit = none ∧ (densOf t d).swap = false) ∧
        (∃ t, exec (.densSnapshot ag d v) s = .next t ∧ (densOf t d).commit = none ∧ (densOf t d).swap = false) ∧
        (∃ t, exec (.cmapSwap ag d v) s = .next t ∧ (densOf t d).commit = none ∧ (densOf t d).swap = false)))

/-- 10 R378, R381 to R384, R386, R388, R389, R395. -/
def Obligations.DisplayFrameCommandsComplete : Prop :=
  (∀ (s : State) (level : Nat) (errs : List HbmErr),
      (dispRuns s = true → s.disp.hold = false → (synOf s 3).lock = 2 → s.disp.next < s.disp.timing.vTot →
        ∃ t, exec (.dispLineStart level errs) s = .next t ∧ t.disp.next = s.disp.next + 1 ∧ dispLine t = s.disp.next ∧
          (getF s .dispLineMatch 0 0 0 16 = s.disp.next → getB t .dispIntStatus 0 0 1 = true)) ∧
      ((dispRuns s = false ∨ s.disp.hold = true ∨ (synOf s 3).lock ≠ 2 ∨ s.disp.timing.vTot ≤ s.disp.next) →
        exec (.dispLineStart level errs) s = .next s)) ∧
  (∀ (s : State), dispRuns s = true → s.disp.hold = false → dispLine s = s.disp.timing.vAct →
      ((s.disp.cap = none ∨ capWaits s = true) →
        ∃ t, exec .dispVblankStart s = .next t ∧ getB t .dispIntStatus 0 0 0 = true ∧ t.disp = s.disp) ∧
      (∀ p, s.disp.cap = some p → capWaits s = false → planeFail s (s.disp.mode.getD s.disp.timing) p = none →
        ∃ t, exec .dispVblankStart s = .next t ∧ t.disp = { s.disp with plane := p, cap := none } ∧
          getF t .dispFbPending 0 0 0 2 = 0) ∧
      (∀ p off, s.disp.cap = some p → capWaits s = false →
        planeFail s (s.disp.mode.getD s.disp.timing) p = some off →
        ∃ t, exec .dispVblankStart s = .next t ∧ t.disp = { s.disp with cap := none } ∧
          getF t .dispFbPending 0 0 0 2 = 0 ∧ getB t .dispStatus 0 0 20 = true ∧
          RaisedData s t 0x0804 dispUnit [.u32 off])) ∧
  (∀ (s : State), (dispRuns s = false ∨ s.disp.hold = true ∨ dispLine s ≠ s.disp.timing.vAct) →
      exec .dispVblankStart s = .next s) ∧
  (∀ (s : State), dispRuns s = true → s.disp.hold = false → dispLine s + 1 = s.disp.timing.vTot →
      (ustate s dispUnit = .draining →
        ∃ t, exec .dispFrameEnd s = .next t ∧ t.disp.ended = true ∧ lstateD t = 0) ∧
      (∀ m, ustate s dispUnit = .running → s.disp.mode = some m →
        ∃ t, exec .dispFrameEnd s = .next t ∧ t.disp.timing = m ∧ t.disp.mode = none ∧ t.disp.next = 0 ∧
          epochOf t dispUnit = epochOf s dispUnit + 1 ∧
          RaisedData s t 0x0807 dispUnit [.u32 ((rd s .dispFrameNum 0 0).toNat + 1)]) ∧
      (ustate s dispUnit = .running → s.disp.mode = none →
        ∃ t, exec .dispFrameEnd s = .next t ∧ t.disp.next = 0 ∧ t.disp.line = [] ∧ getB t .dispStatus 0 0 22 = false)) ∧
  (∀ (s : State), (dispRuns s = false ∨ s.disp.hold = true ∨ dispLine s + 1 ≠ s.disp.timing.vTot) →
      exec .dispFrameEnd s = .next s) ∧
  (∀ (s : State) (x : Nat),
      (dispRuns s = true → getB s .dispStatus 0 0 22 = false →
        (∃ t, exec .dispFrameDone s = .next t ∧ getB t .dispIntStatus 0 0 2 = true ∧ t.disp = s.disp) ∧
        (s.disp.hold = false → planeLine s.disp (dispLine s) = true → x < s.disp.lim →
          ∃ t, exec (.dispUnderrun x) s = .next t ∧ t.disp.lim = x ∧
            (rd t .dispCount 0 1).toNat = satU 32 ((rd s .dispCount 0 1).toNat + (s.disp.lim - x)) ∧
            (s.disp.lim = fld s.disp.plane.size 0 16 → getB t .dispIntStatus 0 0 3 = true ∧
              (rd t .dispCount 0 0).toNat = satU 32 ((rd s .dispCount 0 0).toNat + 1)))) ∧
      ((dispRuns s = false ∨ getB s .dispStatus 0 0 22 = true) → exec .dispFrameDone s = .next s) ∧
      ((dispRuns s = false ∨ getB s .dispStatus 0 0 22 = true ∨ s.disp.hold = true ∨
          planeLine s.disp (dispLine s) = false ∨ s.disp.lim ≤ x) → exec (.dispUnderrun x) s = .next s)) ∧
  (∀ (s : State) (ag : AgentId), WriteOpen s ag (Reg.off .dispFbCommit 0 0) →
      (∃ t p, exec (.fbCommit ag) s = .next t ∧ t.disp = { s.disp with cap := some p } ∧
        p = ({ addr := rd s .dispFbAddr 0 0, cfg := rd s .dispFbCfg 0 0, pos := rd s .dispPlanePos 0 0,
               size := rd s .dispPlaneSize 0 0 } : DispPlane) ∧
        getB t .dispFbPending 0 0 0 = true ∧
        getB t .dispFbPending 0 0 1 = decide (s.disp.timing.vAct ≤ dispLine s)) ∧
      (∃ t, exec (.fbCancel ag) s = .next t ∧ t.disp = { s.disp with cap := none } ∧ getF t .dispFbPending 0 0 0 2 = 0))

/-- 10 R377, R388, R390 to R394. -/
def Obligations.DisplayLinkCommandsComplete : Prop :=
  (∀ (s : State) (ag : AgentId), WriteOpen s ag (Reg.off .dispModeCommit 0 0) →
      (timingFail (dispStaged s) = none →
        ∃ t, exec (.modeCommit ag) s = .next t ∧ t.disp = { s.disp with mode := some (dispStaged s) } ∧
          getB t .dispStatus 0 0 21 = true) ∧
      (∀ off, timingFail (dispStaged s) = some off →
        ∃ t, exec (.modeCommit ag) s = .next t ∧ t.disp = s.disp ∧ RaisedData s t 0x0804 dispUnit [.u32 off] ∧
          getB t .dispStatus 0 0 20 = true) ∧
      (∃ t, exec (.modeCancel ag) s = .next t ∧ t.disp = { s.disp with mode := none } ∧ getB t .dispStatus 0 0 21 = false) ∧
      (dispRuns s = true →
        ∃ t, exec (.dispTrain ag) s = .next t ∧ lstateD t = (if hpd s then 2 else lstateD s) ∧
          t.disp = { s.disp with cause := 3 }) ∧
      (dispRuns s = false →
        ∃ t, exec (.dispTrain ag) s = .next t ∧ lstateD t = lstateD s ∧ t.disp = s.disp)) ∧
  (∀ (s : State),
      (∃ t, exec .hpdRise s = .next t ∧ hpd t = true ∧
        lstateD t = (if dispRuns s && getB s .dispLink 0 0 5 then 2 else lstateD s) ∧
        (dispRuns s = true → lstateD s = 1 → hpd s = false →
          RaisedData s t 0x0806 dispUnit [.u16 1, .u16 0] ∧ getB t .dispIntStatus 0 0 5 = true)) ∧
      (dispRuns s = true → lstateD s ≠ 1 →
        ∃ t, exec .hpdLow s = .next t ∧ hpd t = false ∧ lstateD t = 1 ∧
          RaisedData s t 0x0806 dispUnit [.u16 0, .u16 0] ∧ getB t .dispIntStatus 0 0 5 = true) ∧
      ((dispRuns s = false ∨ lstateD s = 1) →
        ∃ t, exec .hpdLow s = .next t ∧ hpd t = false ∧ lstateD t = lstateD s ∧ t = { s with regs := t.regs }) ∧
      (dispRuns s = true →
        ∃ t, exec .sinkInterrupt s = .next t ∧ RaisedData s t 0x0806 dispUnit [.u16 1, .u16 1] ∧ lstateD t = lstateD s ∧
          getB t .dispIntStatus 0 0 5 = true ∧
          (rd t .dispCount 0 6).toNat = satU 32 ((rd s .dispCount 0 6).toNat + 1)) ∧
      (dispRuns s = false → exec .sinkInterrupt s = .next s)) ∧
  (∀ (s : State) (phase lane : Nat),
      (lstateD s = 2 → (synOf s 3).lock = 2 → dispRuns s = true →
        (∃ t, exec (.trainingDone true phase lane) s = .next t ∧ lstateD t = 3 ∧ t.disp.hold = false ∧
          RaisedData s t 0x0802 dispUnit
            [.u16 s.disp.cause, .u16 s.disp.timing.lanes, .u16 (fld s.disp.timing.link 2 2)]) ∧
        (∃ t, exec (.trainingDone false phase lane) s = .next t ∧ lstateD t = 4 ∧ t.disp.hold = false ∧
          RaisedData s t 0x0805 dispUnit [.u16 phase, .u16 lane])) ∧
      (∀ good, (lstateD s ≠ 2 ∨ (synOf s 3).lock ≠ 2 ∨ dispRuns s = false) →
        exec (.trainingDone good phase lane) s = .next s)) ∧
  (∀ (s : State) (ag : AgentId) (v : BitVec 32), WriteOpen s ag (Reg.off .dispAuxCmd 0 0) →
      (getB s .dispAuxCmd 0 0 28 = false →
        ∃ t, exec (.auxRequest ag v) s = .next t ∧ getB t .dispAuxCmd 0 0 28 = true ∧
          getF t .dispAuxCmd 0 0 0 28 = fld v 0 28) ∧
      (getB s .dispAuxCmd 0 0 28 = true → s.mgt.log.length < auditSize →
        ∃ t, exec (.auxRequest ag v) s = .next t ∧ Audited s t 0x02 ag 4 (Reg.off .dispAuxCmd 0 0) v ∧
          rd t .dispAuxCmd 0 0 = rd s .dispAuxCmd 0 0 ∧ getB t .dispStatus 0 0 20 = true)) ∧
  (∀ (s : State) (reply : Nat) (data : List Word),
      (getB s .dispAuxCmd 0 0 28 = true →
        ∃ t, exec (.auxDone reply data) s = .next t ∧ getB t .dispAuxCmd 0 0 28 = false ∧
          getF t .dispAuxCmd 0 0 29 2 = reply % 4 ∧ getB t .dispIntStatus 0 0 6 = true ∧
          ∀ k w, k < 4 → data[k]? = some w → rd t .dispAuxData 0 k = w) ∧
      (getB s .dispAuxCmd 0 0 28 = false → exec (.auxDone reply data) s = .next s))

/-- 11 R399 to R404 (edges), R405, R409 (commands), R410, R411, R414 (class S), R416 (class W), R417 (class F). -/
def Obligations.TimeIntervalCommandsComplete : Prop :=
  (∀ (s : State) (i t : Nat) (rising clean room : Bool), i < 8 → ustate s (tdcUnit i) = .running →
      edgeSel (getF s .tdcInCfg i 0 0 2) rising = true → loopSilent s i = false →
      (∀ p, (tdcIn s i).lastEdge = some p → t < p ∨ p + deadTime ≤ t) →
      ∃ u x, exec (.evtInEdge i rising t clean room) s = .next u ∧ u.tdc.stamps = s.tdc.stamps ++ [x] ∧
        x.input = i ∧ x.falling = !rising ∧ x.dead = (tdcIn s i).dead ∧ u.tree.evt.testBit i = rising ∧
        (∀ c, c < 16 → getB s .tdcMeasStatus c 0 0 = true →
          (i = (startSrc s c).1 ∨ (measClass s c = 0 ∧ i = (stopSrc s c).1)) →
          (tdcChan u c).queue = (tdcChan s c).queue ++ [x])) ∧
  (∀ (s : State) (i t p : Nat) (rising clean room : Bool), i < 8 → ustate s (tdcUnit i) ≠ .off → loopSilent s i = false →
      ((edgeSel (getF s .tdcInCfg i 0 0 2) rising = true ∧ ustate s (tdcUnit i) = .running) ∨
        (getB s .trigEvtCfg 0 i 2 = true ∧ edgeSel (getF s .trigEvtCfg 0 i 0 2) rising = true ∧
          srcLive s (tdcUnit i) = true)) →
      (tdcIn s i).lastEdge = some p → p ≤ t → t < p + deadTime →
      ∃ u, exec (.evtInEdge i rising t clean room) s = .next u ∧ u.tdc.stamps = s.tdc.stamps ∧ (tdcIn u i).dead = true ∧
        (tdcIn u i).deadN = (tdcIn s i).deadN + 1 ∧
        (rd u .tdcInCount i 1).toNat = satU 32 ((rd s .tdcInCount i 1).toNat + 1) ∧ u.tree.evt.testBit i = rising) ∧
  (∀ (s : State) (i t : Nat) (rising clean room : Bool), i < 8 → ustate s (tdcUnit i) ≠ .off → loopSilent s i = false →
      (edgeSel (getF s .tdcInCfg i 0 0 2) rising = false ∨ ustate s (tdcUnit i) ≠ .running) →
      (getB s .trigEvtCfg 0 i 2 = false ∨ edgeSel (getF s .trigEvtCfg 0 i 0 2) rising = false ∨
        srcLive s (tdcUnit i) = false) →
      ∃ u, exec (.evtInEdge i rising t clean room) s = .next u ∧ u.tdc = s.tdc ∧ u.tree.evt.testBit i = rising ∧
        getB u .tdcInStatus i 0 13 = rising) ∧
  (∀ (s : State) (i t : Nat) (rising clean room : Bool),
      (ustate s (tdcUnit i) = .off ∨ 8 ≤ i ∨ loopSilent s i = true) →
      exec (.evtInEdge i rising t clean room) s = .next s) ∧
  (∀ (s : State) (ag : AgentId) (c : Nat), c < 16 → WriteOpen s ag (Reg.off .tdcMeasCmd c 0) →
      (measFail s c = none →
        ∃ t, exec (.tdcMeasEnable ag c) s = .next t ∧ getB t .tdcMeasStatus c 0 0 = true) ∧
      (∀ off, measFail s c = some off →
        ∃ t, exec (.tdcMeasEnable ag c) s = .next t ∧ getB t .tdcMeasStatus c 0 7 = true ∧
          getB t .tdcMeasStatus c 0 0 = getB s .tdcMeasStatus c 0 0 ∧
          RaisedData s t 0x0904 0x140 [.u16 c, .u32 off]) ∧
      (∃ t, exec (.tdcMeasDisable ag c) s = .next t ∧ getB t .tdcMeasStatus c 0 0 = false ∧
        (tdcChan t c).queue = [] ∧ (tdcChan t c).pending = [] ∧ (tdcChan t c).ref = none ∧ (tdcChan t c).gate = none)) ∧
  (∀ (s : State) (c : Nat) (x : TdcStamp) (p l : List TdcMark) (room : Bool), c < 16 →
      getB s .tdcMeasStatus c 0 0 = true → measClass s c = 0 → firstStamp (tdcChan s c).queue = some x →
      p = ((if x.dead = true then (tdcChan s c).pending.map fun m => { m with dead := true }
            else (tdcChan s c).pending).filter fun m => !spanGt ((x.time : Int) - m.x.time) (measP0 s c)) →
      l = (if (x.input, x.falling) = stopSrc s c then p.eraseP fun m => decide (m.x.time ≤ x.time + 1) else p) →
      ∃ t, exec (.tdcChannelStamp c room) s = .next t ∧ (tdcChan t c).queue = (tdcChan s c).queue.erase x ∧
        ((x.input, x.falling) ≠ startSrc s c → (tdcChan t c).pending = l) ∧
        ((x.input, x.falling) = startSrc s c → (tdcChan t c).pending =
          (if (if getB s .tdcMeasCfg c 0 10 = true then 1 else 16) ≤ l.length then l.drop 1 else l)
            ++ [{ x := x, dead := false }]) ∧
        ((x.input, x.falling) = stopSrc s c → (∀ m ∈ p, ¬ m.x.time ≤ x.time + 1) →
          (rd t .tdcMeasCount c 1).toNat = satU 32 ((rd s .tdcMeasCount c 1).toNat + 1))) ∧
  (∀ (s : State) (c : Nat) (x : TdcStamp) (room : Bool), c < 16 → getB s .tdcMeasStatus c 0 0 = true →
      measClass s c = 1 → firstStamp (tdcChan s c).queue = some x → (x.input, x.falling) = startSrc s c →
      ((∀ m, (tdcChan s c).ref = some m → spanGt ((x.time : Int) - m.x.time) (measP1 s c) = true ∨
          spanLt ((x.time : Int) - m.x.time) (measP0 s c) = false) →
        ∃ t, exec (.tdcChannelStamp c room) s = .next t ∧ (tdcChan t c).ref = some { x := x, dead := false }) ∧
      (∀ m, (tdcChan s c).ref = some m → spanGt ((x.time : Int) - m.x.time) (measP1 s c) = false →
        spanLt ((x.time : Int) - m.x.time) (measP0 s c) = true →
        ∃ t, exec (.tdcChannelStamp c room) s = .next t ∧
          (tdcChan t c).ref = some { m with dead := m.dead || x.dead } ∧
          (rd t .tdcMeasCount c 1).toNat = satU 32 ((rd s .tdcMeasCount c 1).toNat + 1))) ∧
  (∀ (s : State) (c : Nat) (x : TdcStamp) (g : TdcGate) (room : Bool), c < 16 → getB s .tdcMeasStatus c 0 0 = true →
      measClass s c = 2 → firstStamp (tdcChan s c).queue = some x → (x.input, x.falling) = startSrc s c →
      (tdcChan s c).gate = some g →
      (g.steps = x.steps → gateOf s c x.time < g.k →
        ∃ t, exec (.tdcChannelStamp c room) s = .next t ∧ (tdcChan t c).gate = some g) ∧
      ((g.steps ≠ x.steps ∨ g.k ≤ gateOf s c x.time) →
        ∃ t h, exec (.tdcChannelStamp c room) s = .next t ∧ (tdcChan t c).gate = some h ∧
          h.k = gateOf s c x.time ∧ h.last = some x)) ∧
  (∀ (s : State) (c : Nat) (room : Bool), c < 16 →
      (firstStamp (tdcChan s c).queue = none → exec (.tdcChannelStamp c room) s = .next s) ∧
      (∀ x, firstStamp (tdcChan s c).queue = some x → getB s .tdcMeasStatus c 0 0 = false →
        ∃ t, exec (.tdcChannelStamp c room) s = .next t ∧
          tdcChan t c = { tdcChan s c with queue := (tdcChan s c).queue.erase x })) ∧
  (∀ (s : State) (c : Nat) (room : Bool), c < 16 →
      (getB s .tdcMeasStatus c 0 0 = true → measClass s c = 0 →
        ∃ t, exec (.tdcTimeout c room) s = .next t ∧ (tdcChan t c).queue = (tdcChan s c).queue ∧
          (tdcChan t c).pending =
            ((tdcChan s c).pending.filter fun m => !spanGt ((judged s c : Int) - m.x.time) (measP0 s c))) ∧
      ((getB s .tdcMeasStatus c 0 0 = false ∨ measClass s c ≠ 0) → exec (.tdcTimeout c room) s = .next s) ∧
      (∀ m, getB s .tdcMeasStatus c 0 0 = true → measClass s c = 1 → (tdcChan s c).ref = some m →
        spanGt ((judged s c : Int) - m.x.time) (measP1 s c) = true →
        ∃ t, exec (.tdcWMissing c room) s = .next t ∧ (tdcChan t c).ref = none ∧
          RaisedData s t 0x0907 0x140 [.u16 c, .time (markStamp m.x 0)]) ∧
      ((getB s .tdcMeasStatus c 0 0 = false ∨ measClass s c ≠ 1 ∨
          (∀ m, (tdcChan s c).ref = some m → spanGt ((judged s c : Int) - m.x.time) (measP1 s c) = false)) →
        exec (.tdcWMissing c room) s = .next s)) ∧
  (∀ (s : State) (c : Nat) (room : Bool), c < 16 →
      (∀ g, (tdcChan s c).gate = some g → getB s .tdcMeasStatus c 0 0 = true →
        (g.k < gateOf s c (judged s c) ∨ g.steps ≠ s.time.steps) →
        ∃ t h, exec (.tdcGateEnd c room) s = .next t ∧ (tdcChan t c).gate = some h ∧
          h.k = (if g.steps = s.time.steps ∧ g.stepped = false then g.k + 1 else gateOf s c (judged s c)) ∧
          h.base = countAt s c (startSrc s c).1 h.k ∧ h.first = none ∧ h.last = none ∧ h.stepped = false) ∧
      (((tdcChan s c).gate = none ∨ getB s .tdcMeasStatus c 0 0 = false ∨
          (∀ g, (tdcChan s c).gate = some g → gateOf s c (judged s c) ≤ g.k ∧ g.steps = s.time.steps)) →
        exec (.tdcGateEnd c room) s = .next s)) ∧
  (∀ (s : State) (i : Nat),
      (i < 8 → ∃ t, exec (.tdcBlockFlush i) s = .next t ∧ (tdcIn t i).blk = [] ∧ (tdcIn t i).queue = []) ∧
      (∀ e r, i < 8 → (tdcIn s i).queue = [] → (tdcIn s i).blk = e :: r →
        ∃ t it, exec (.tdcBlockFlush i) s = .next t ∧ t.plan.offered = s.plan.offered ++ [it] ∧ it.kind = 0x50 ∧
          it.src = tdcUnit i ∧ it.seq = (tdcIn s i).seq) ∧
      (8 ≤ i → s.tdc.blk = [] → exec (.tdcBlockFlush i) s = .next s) ∧
      (∀ e r, 8 ≤ i → s.tdc.blk = e :: r →
        ∃ t it, exec (.tdcBlockFlush i) s = .next t ∧ t.tdc.blk = [] ∧ t.plan.offered = s.plan.offered ++ [it] ∧
          it.kind = 0x51 ∧ it.seq = s.tdc.seq))

/-- 14 R495 to R499 (streams) and R501 to R506 (jobs). -/
def Obligations.CompressionCommandsComplete : Prop :=
  (∀ (s u : State) (n : Nat) (i : Item) (room : Bool), n < 8 → cmpJobs s n = false →
      takeDelivered (66 + n) 0 s = some (i, u) →
      ((ustate s (cmpUnit n) ≠ .running ∨ room = false) →
        exec (.cmpItem n room) s = .next (refuseItem (66 + n) 0 s u)) ∧
      (ustate s (cmpUnit n) = .running → room = true →
        ∃ t, exec (.cmpItem n room) s = .next t ∧ t.plan.delivered = u.plan.delivered) ∧
      (ustate s (cmpUnit n) = .running → room = true → (cmpOf s n).blk = none →
        8 + 4 * i.payload.length ≤ cmpLimit (rd s .cmpStreamCfg n 0) →
        ∃ t b, exec (.cmpItem n room) s = .next t ∧ (cmpOf t n).blk = some b ∧
          b.failed = (itemCrcBad i || i.check) ∧
          b.bytes = leBytes 4 (4 * i.payload.length) ++ leBytes 2 (unitPort i.src) ++ leBytes 1 i.stream
            ++ leBytes 1 (b2n (itemCrcBad i)) ++ wordsBytes i.payload) ∧
      (∀ a, ustate s (cmpUnit n) = .running → room = true → (cmpOf s n).blk = some a →
        a.bytes.length + 8 + 4 * i.payload.length ≤ cmpLimit a.cfg →
        ∃ t b, exec (.cmpItem n room) s = .next t ∧ (cmpOf t n).blk = some b ∧
          b.failed = (a.failed || itemCrcBad i || i.check) ∧
          b.bytes = a.bytes ++ (leBytes 4 (4 * i.payload.length) ++ leBytes 2 (unitPort i.src) ++ leBytes 1 i.stream
            ++ leBytes 1 (b2n (itemCrcBad i)) ++ wordsBytes i.payload))) ∧
  (∀ (s : State) (n : Nat) (room : Bool), n < 8 → (cmpJobs s n = true ∨ takeDelivered (66 + n) 0 s = none) →
      exec (.cmpItem n room) s = .next s) ∧
  (∀ (s : State) (n : Nat), n < 8 →
      (∀ b, ustate s (cmpUnit n) = .running → flushDue s n = true → (cmpOf s n).blk = some b →
        ∃ t it, exec (.cmpFlushTimer n) s = .next t ∧ (cmpOf t n).blk = none ∧
          (cmpOf t n).offset = ((cmpOf s n).offset + b.bytes.length) % 2 ^ 64 ∧
          t.plan.offered = s.plan.offered ++ [it] ∧ it.kind = 0x70 ∧ it.src = cmpUnit n ∧ it.seq = (cmpOf s n).seq) ∧
      ((ustate s (cmpUnit n) ≠ .running ∨ flushDue s n = false) → exec (.cmpFlushTimer n) s = .next s)) ∧
  (∀ (s : State) (ag : AgentId) (n : Nat) (v : BitVec 32), n < 8 → WriteOpen s ag (Reg.off .cmpStreamCfg n 0) →
      (cmpCfgOk (v &&& 0x3FFFF) = true →
        ∃ t, exec (.cmpStreamCfgWrite ag n v) s = .next t ∧ rd t .cmpStreamCfg n 0 = v &&& 0x3FFFF ∧
          ((ustate s (cmpUnit n)).busy = true → cmpJobs s n = false → (cmpOf t n).cfgWaits = true)) ∧
      (cmpCfgOk (v &&& 0x3FFFF) = false →
        ∃ t, exec (.cmpStreamCfgWrite ag n v) s = .next t ∧ rd t .cmpStreamCfg n 0 = rd s .cmpStreamCfg n 0 ∧
          t.cmp = s.cmp ∧ getB t .cmpStatus n 0 0 = true)) ∧
  (∀ (s : State) (ag : AgentId) (n : Nat), n < 8 → WriteOpen s ag (Reg.off .cmpJobCmd n 0) →
      (cmpJobs s n = true → (cmpOf s n).queue.length < 16 →
        ∃ t, exec (.submit ag n) s = .next t ∧
          (cmpOf t n).queue = (cmpOf s n).queue ++ [(List.range 16).map fun i => rd s .cmpJobDesc n i]) ∧
      (cmpJobs s n = false →
        ∃ t, exec (.submit ag n) s = .next t ∧ t.cmp = s.cmp ∧ RaisedData s t 0x0B03 (cmpUnit n) [.u16 1]) ∧
      (cmpJobs s n = true → 16 ≤ (cmpOf s n).queue.length →
        ∃ t, exec (.submit ag n) s = .next t ∧ t.cmp = s.cmp ∧ RaisedData s t 0x0B03 (cmpUnit n) [.u16 0]) ∧
      (∀ d, (cmpOf s n).running = some d →
        ∃ t w, exec (.cmpJobAbort ag n) s = .next t ∧ (cmpOf t n).running = none ∧ getF t .cmpStatus n 0 12 2 = 1 ∧
          (cmpOf t n).results = (cmpOf s n).results ++ [w] ∧
          w.getD 0 0 = BitVec.ofNat 32 (fld (jobW d 1) 0 16 + 11 * 2 ^ 16) ∧ w.getD 2 0 = 0) ∧
      ((cmpOf s n).running = none →
        ∃ t, exec (.cmpJobAbort ag n) s = .next t ∧ getF t .cmpStatus n 0 12 2 = 2 ∧ t.cmp = s.cmp) ∧
      (∃ t, exec (.cmpJobFlush ag n) s = .next t ∧ (cmpOf t n).queue = [] ∧
        (cmpOf t n).results.length = (cmpOf s n).results.length + (cmpOf s n).queue.length)) ∧
  (∀ (s : State) (n : Nat), n < 8 →
      (∀ d rest, (cmpOf s n).queue = d :: rest → (cmpOf s n).running = none → (cmpOf s n).results.length < 16 →
        ustate s (cmpUnit n) = .running → cmpJobs s n = true →
        (jobCheck s n d ≠ none →
          ∃ t, exec (.cmpJobStart n) s = .next t ∧ (cmpOf t n).queue = rest ∧ (cmpOf t n).running = some d) ∧
        (jobCheck s n d = none →
          ∃ t w, exec (.cmpJobStart n) s = .next t ∧ (cmpOf t n).queue = rest ∧ (cmpOf t n).running = none ∧
            (cmpOf t n).results = (cmpOf s n).results ++ [w] ∧
            w.getD 0 0 = BitVec.ofNat 32 (fld (jobW d 1) 0 16 + 2 ^ 16))) ∧
      (((cmpOf s n).queue = [] ∨ (cmpOf s n).running ≠ none ∨ 16 ≤ (cmpOf s n).results.length ∨
          ustate s (cmpUnit n) ≠ .running ∨ cmpJobs s n = false) → exec (.cmpJobStart n) s = .next s)) ∧
  (∀ (s : State) (n soft : Nat) (fail : Option Nat) (errs : List HbmErr), n < 8 →
      (∀ d src dst, (cmpOf s n).running = some d → jobCheck s n d = some (src, dst) →
        (rangeWaits s src (jobN d 6) = false → (jobOp d = 2 ∨ rangeWaits s dst (jobN d 10) = false) →
          ∃ t w, exec (.cmpJobDone n fail soft errs) s = .next t ∧ (cmpOf t n).running = none ∧
            (cmpOf t n).results = (cmpOf s n).results ++ [w] ∧ fld (w.getD 0 0) 0 16 = fld (jobW d 1) 0 16) ∧
        ((rangeWaits s src (jobN d 6) = true ∨ (jobOp d ≠ 2 ∧ rangeWaits s dst (jobN d 10) = true)) →
          exec (.cmpJobDone n fail soft errs) s = .next s)) ∧
      ((cmpOf s n).running = none → exec (.cmpJobDone n fail soft errs) s = .next s)) ∧
  (∀ (s : State) (n : Nat),
      (n < 8 → ustate s (cmpUnit n) ≠ .off → (cmpOf s n).results = [] →
        exec (.cmpJobResultRead n) s = .next { s with rdata := [0xF0000] }) ∧
      (∀ r rest, n < 8 → ustate s (cmpUnit n) ≠ .off → (cmpOf s n).results = r :: rest →
        ∃ t, exec (.cmpJobResultRead n) s = .next t ∧ t.rdata = [r.getD 0 0] ∧ (cmpOf t n).results = rest ∧
          (∀ k, k < 4 → rd t .cmpJobResult n k = r.getD k 0)) ∧
      ((8 ≤ n ∨ ustate s (cmpUnit n) = .off) → exec (.cmpJobResultRead n) s = .next { s with rdata := [0] }))

/-- 19 R603, R604, R606 to R610, R613 to R615. -/
def Obligations.ConverterCommandsComplete : Prop :=
  (∀ (s : State) (ag : AgentId), WriteOpen s ag (Reg.off .auxCmd 0 0) →
      (ustate s 0x230 = .running → getF s .auxConv 0 0 0 2 = 1 → s.aux.cur = none →
        ∃ t k, exec (.auxConvert ag) s = .next t ∧ t.aux.cur = some k ∧ k.channel = getF s .auxConv 0 0 2 5 ∧
          k.rate = getF s .auxConv 0 0 8 4 ∧ k.ref = s.aux.ref ∧ getB t .auxStatus 0 0 0 = true) ∧
      ((ustate s 0x230 ≠ .running ∨ getF s .auxConv 0 0 0 2 ≠ 1 ∨ s.aux.cur ≠ none) → s.mgt.log.length < auditSize →
        ∃ t, exec (.auxConvert ag) s = .next t ∧ t.aux = s.aux ∧ getB t .auxStatus 0 0 3 = true ∧
          t.mgt.log.length = s.mgt.log.length + 1)) ∧
  (∀ (s : State) (v : Int),
      (∀ k, s.aux.cur = some k → k.channel < 32 →
        ∃ t, exec (.auxConversionDone v) s = .next t ∧ t.aux.last = some k.channel ∧
          getF t .auxResult 0 k.channel 0 24 = unsgn 24 (satS 24 v) ∧ getB t .auxResult 0 k.channel 24 = true ∧
          getB t .auxResult 0 k.channel 25 = (k.unsettled || (k.ref == 1 && getB s .auxStatus 0 0 2)) ∧
          getB t .auxResult 0 k.channel 26 = overS 24 v ∧ rd t .auxCount 0 0 = rd s .auxCount 0 0 + 1) ∧
      (s.aux.cur = none → exec (.auxConversionDone v) s = .next s)) ∧
  (∀ (s : State) (ag : AgentId) (v : BitVec 32), WriteOpen s ag (Reg.off .auxScan 0 0) →
      ∃ t, exec (.auxConvWrite ag true v) s = .next t ∧ rd t .auxScan 0 0 = v) ∧
  (∀ (s : State) (ag : AgentId) (v : BitVec 32), WriteOpen s ag (Reg.off .auxConv 0 0) →
      (ustate s 0x230 = .running → (fld (v &&& 0x3F7F) 12 2 = 3 ∨ fld (v &&& 0x3F7F) 8 4 = 15) →
        ∃ t, exec (.auxConvWrite ag false v) s = .next t ∧ rd t .auxConv 0 0 = rd s .auxConv 0 0 ∧ t.aux = s.aux ∧
          getB t .auxStatus 0 0 3 = true) ∧
      ((ustate s 0x230 ≠ .running ∨ (fld (v &&& 0x3F7F) 12 2 ≠ 3 ∧ fld (v &&& 0x3F7F) 8 4 ≠ 15)) →
        ∃ t, exec (.auxConvWrite ag false v) s = .next t ∧ rd t .auxConv 0 0 = v &&& 0x3F7F ∧
          (s.aux.cur = none → t.aux.ref = fld v 12 2))) ∧
  (∀ (s : State) (ag : AgentId),
      (∀ e r, WriteOpen s ag (Reg.off .auxCmd 0 0) → s.aux.blk = e :: r →
        ∃ t it, exec (.auxBlockFlush ag) s = .next t ∧ t.aux.blk = [] ∧ t.plan.offered = s.plan.offered ++ [it] ∧
          it.kind = 0x80 ∧ it.src = 0x230 ∧ it.seq = s.aux.seq) ∧
      (WriteOpen s ag (Reg.off .auxCmd 0 0) → s.aux.blk = [] →
        ∃ t, exec (.auxBlockFlush ag) s = .next t ∧ t.aux = s.aux ∧ t.plan = s.plan) ∧
      (∀ e r, auxFlushDue s = true → s.aux.blk = e :: r →
        ∃ t it, exec .auxBlockTimer s = .next t ∧ t.aux.blk = [] ∧ t.plan.offered = s.plan.offered ++ [it] ∧
          it.kind = 0x80 ∧ it.src = 0x230 ∧ it.seq = s.aux.seq) ∧
      ((auxFlushDue s = false ∨ s.aux.blk = []) → exec .auxBlockTimer s = .next s) ∧
      (WriteOpen s ag (Reg.off .auxCmd 0 0) →
        ∃ t, exec (.auxClearCounts ag) s = .next t ∧ (∀ k, k < 4 → rd t .auxCount 0 k = 0) ∧ t.aux = s.aux)) ∧
  (∀ (s : State),
      (ustate s 0x230 ≠ .off → ustate s 0x230 ≠ .gated → (s.aux.ref ≠ 1 ∨ getB s .auxStatus 0 0 2 = false) →
        ∃ t, exec .refSettleExpiry s = .next t ∧ getB t .auxStatus 0 0 1 = true ∧ t.aux = s.aux) ∧
      ((ustate s 0x230 = .off ∨ ustate s 0x230 = .gated ∨ (s.aux.ref = 1 ∧ getB s .auxStatus 0 0 2 = true)) →
        exec .refSettleExpiry s = .next s)) ∧
  (∀ (s : State) (out : Bool),
      (ustate s 0x230 ≠ .off → getB s .auxStatus 0 0 2 ≠ out →
        ∃ t, exec (.refxRangeChange out) s = .next t ∧ getB t .auxStatus 0 0 2 = out ∧
          (s.aux.ref = 1 → getB t .auxStatus 0 0 1 = false) ∧ RaisedData s t 0x1002 0x230 [.u16 (b2n out)]) ∧
      ((ustate s 0x230 = .off ∨ getB s .auxStatus 0 0 2 = out) → exec (.refxRangeChange out) s = .next s)) ∧
  (∀ (s : State) (ag : AgentId) (v : BitVec 32), WriteOpen s ag (Reg.off .auxBufIdx 0 0) →
      ((getF s .auxBufIdx 0 0 16 16 + 65536 - fld v 0 16) % 65536 ≤ 4096 →
        ∃ t, exec (.auxRdWrite ag v) s = .next t ∧ getF t .auxBufIdx 0 0 16 16 = getF s .auxBufIdx 0 0 16 16 ∧
          getF t .auxBufIdx 0 0 0 16 = fld v 0 16) ∧
      (4096 < (getF s .auxBufIdx 0 0 16 16 + 65536 - fld v 0 16) % 65536 →
        ∃ t, exec (.auxRdWrite ag v) s = .next t ∧ rd t .auxBufIdx 0 0 = rd s .auxBufIdx 0 0 ∧
          getB t .auxStatus 0 0 3 = true))

/-- 18 R592 to R599. -/
def Obligations.CalibrationCommandsComplete : Prop :=
  (∀ (s : State) (ag : AgentId) (b : Nat), WriteOpen s ag (Reg.off .calCmd 0 0) → b < 128 →
      (s.calJob = none → calPresent s b = true → b < 63 → b ≠ 14 → calStateOk s b = true →
        ∃ t, exec (.calRetrim ag b) s = .next t ∧ t.calJob = some { block := b, agent := ag } ∧
          getB t .calSeqStatus 0 0 0 = true ∧ getB t .calBlockStatus 0 b 3 = true ∧ t.calRec = s.calRec) ∧
      (s.calJob ≠ none →
        (∃ t, exec (.calRetrim ag b) s = .next t ∧ t.calJob = s.calJob ∧ t.calRec = s.calRec ∧
          RaisedData s t 0x0F01 0x220 [.u16 b, .u16 1, .u16 6]) ∧
        (∃ t, exec (.calApply ag b) s = .next t ∧ t.calJob = s.calJob ∧ t.calRec = s.calRec ∧
          RaisedData s t 0x0F01 0x220 [.u16 b, .u16 2, .u16 6]) ∧
        (∃ t, exec (.calReload ag b) s = .next t ∧ t.calJob = s.calJob ∧ t.calRec = s.calRec ∧
          RaisedData s t 0x0F01 0x220 [.u16 b, .u16 3, .u16 6])) ∧
      (s.calJob = none → calPresent s b = false →
        (∃ t, exec (.calRetrim ag b) s = .next t ∧ t.calJob = s.calJob ∧ t.calRec = s.calRec ∧
          RaisedData s t 0x0F01 0x220 [.u16 b, .u16 1, .u16 3]) ∧
        (∃ t, exec (.calApply ag b) s = .next t ∧ t.calJob = s.calJob ∧ t.calRec = s.calRec ∧
          RaisedData s t 0x0F01 0x220 [.u16 b, .u16 2, .u16 3]) ∧
        (∃ t, exec (.calReload ag b) s = .next t ∧ t.calJob = s.calJob ∧ t.calRec = s.calRec ∧
          RaisedData s t 0x0F01 0x220 [.u16 b, .u16 3, .u16 3])) ∧
      (s.calJob = none → calPresent s b = true → (b = 14 ∨ 63 ≤ b) →
        ∃ t, exec (.calRetrim ag b) s = .next t ∧ t.calJob = s.calJob ∧ t.calRec = s.calRec ∧
          RaisedData s t 0x0F01 0x220 [.u16 b, .u16 1, .u16 7]) ∧
      (s.calJob = none → calPresent s b = true → b ≠ 14 → b < 63 → calStateOk s b = false →
        ∃ t, exec (.calRetrim ag b) s = .next t ∧ t.calJob = s.calJob ∧ t.calRec = s.calRec ∧
          RaisedData s t 0x0F01 0x220 [.u16 b, .u16 1, .u16 2]) ∧
      (s.calJob = none → calPresent s b = true → calStateOk s b = false →
        (∃ t, exec (.calApply ag b) s = .next t ∧ t.calJob = s.calJob ∧ t.calRec = s.calRec ∧
          RaisedData s t 0x0F01 0x220 [.u16 b, .u16 2, .u16 2]) ∧
        (∃ t, exec (.calReload ag b) s = .next t ∧ t.calJob = s.calJob ∧ t.calRec = s.calRec ∧
          RaisedData s t 0x0F01 0x220 [.u16 b, .u16 3, .u16 2]))) ∧
  (∀ (s : State) (ag : AgentId) (b : Nat) (r : List Word), WriteOpen s ag (Reg.off .calCmd 0 0) → s.calJob = none →
      calPresent s b = true → calStateOk s b = true →
      (r = (List.range 32).map (fun i => rd s .calStage 0 i) →
        (calPlausible s b r = true →
          ∃ t, exec (.calApply ag b) s = .next t ∧ calRecOf t b = r ∧ getF t .calBlockStatus 0 b 4 4 = 0 ∧
            RaisedData s t 0x0F01 0x220 [.u16 b, .u16 2, .u16 0]) ∧
        (calPlausible s b r = false →
          ∃ t, exec (.calApply ag b) s = .next t ∧ t.calRec = s.calRec ∧ getF t .calBlockStatus 0 b 4 4 = 1 ∧
            RaisedData s t 0x0F01 0x220 [.u16 b, .u16 2, .u16 1])) ∧
      (r = (calFuse s b).1 →
        ((calFuse s b).2 = true → calPlausible s b r = true →
          ∃ t, exec (.calReload ag b) s = .next t ∧ calRecOf t b = r ∧ getF t .calBlockStatus 0 b 4 4 = 0 ∧
            RaisedData s t 0x0F01 0x220 [.u16 b, .u16 3, .u16 0]) ∧
        (((calFuse s b).2 = false ∨ calPlausible s b r = false) →
          ∃ t, exec (.calReload ag b) s = .next t ∧ t.calRec = s.calRec ∧ getF t .calBlockStatus 0 b 4 4 = 1 ∧
            RaisedData s t 0x0F01 0x220 [.u16 b, .u16 3, .u16 1]))) ∧
  (∀ (s : State) (ag : AgentId), WriteOpen s ag (Reg.off .calCmd 0 0) →
      (∀ j, s.calJob = some j →
        ∃ t, exec (.calAbort ag) s = .next t ∧ t.calJob = none ∧ t.calRec = s.calRec ∧
          getF t .calSeqStatus 0 0 15 2 = 1 ∧ RaisedData s t 0x0F01 0x220 [.u16 j.block, .u16 1, .u16 4]) ∧
      (s.calJob = none →
        ∃ t, exec (.calAbort ag) s = .next t ∧ t.calJob = none ∧ t.calRec = s.calRec ∧
          getF t .calSeqStatus 0 0 15 2 = 2)) ∧
  (∀ (s : State) (words : List Word),
      (∀ j r, s.calJob = some j →
        r = (if j.block = 12 then ((padTo 32 0 words).set 0 ((calRecOf s 12).getD 0 0)).set 1 ((calRecOf s 12).getD 1 0)
             else padTo 32 0 words) →
        (calPlausible s j.block r = true →
          ∃ t, exec (.calRetrimDone words) s = .next t ∧ t.calJob = none ∧ calRecOf t j.block = r ∧
            getF t .calSeqStatus 0 0 11 4 = 0 ∧ RaisedData s t 0x0F01 0x220 [.u16 j.block, .u16 1, .u16 0]) ∧
        (calPlausible s j.block r = false →
          ∃ t, exec (.calRetrimDone words) s = .next t ∧ t.calJob = none ∧ t.calRec = s.calRec ∧
            getF t .calSeqStatus 0 0 11 4 = 1 ∧ RaisedData s t 0x0F01 0x220 [.u16 j.block, .u16 1, .u16 1])) ∧
      (∀ j, s.calJob = some j →
        ∃ t, exec .calRetrimTimeout s = .next t ∧ t.calJob = none ∧ t.calRec = s.calRec ∧
          getF t .calSeqStatus 0 0 11 4 = 5 ∧ RaisedData s t 0x0F01 0x220 [.u16 j.block, .u16 1, .u16 5]) ∧
      (s.calJob = none → exec (.calRetrimDone words) s = .next s ∧ exec .calRetrimTimeout s = .next s))

/-- 20 R625 to R631. -/
def Obligations.PowerCommandsComplete : Prop :=
  (∀ (s : State) (e d : Nat) (p : PlanSched), (s.pwr.sched.find? fun p => p.id == e) = some p → dueCount s p ≠ 0 →
      (s.time.mode = .full ∨ s.time.mode = .coarse) → d = dueTime p (schedServed s e + dueCount s p - 1) →
      (loadLate s = false → schedOn s e = true → (s.pwr.runs.any fun r => r.entry == e) = false →
        ∃ t, exec (.pwrWake e) s = .next t ∧ schedServed t e = schedServed s e + dueCount s p ∧
          RaisedData s t 0x1101 0x240
            [.u16 e, .u32 ((nowTotal s - d * 2 ^ 64) * 1000000 / 2 ^ 64), .u16 (b2n s.pwr.fromSleep)] ∧
          ∃ r ∈ t.pwr.runs, r.entry = e ∧ r.units = p.units ∧
            r.stop = nowTotal s + p.duration * 2 ^ 64 / 1000 ∧ r.draining = false) ∧
      (loadLate s = false → schedOn s e = true → (s.pwr.runs.any fun r => r.entry == e) = true →
        ∃ t, exec (.pwrWake e) s = .next t ∧ t.pwr.runs = s.pwr.runs ∧
          schedServed t e = schedServed s e + dueCount s p ∧ RaisedData s t 0x1103 0x240 [.u16 e, .u16 1, .u32 1]) ∧
      (loadLate s = true → schedOn s e = true → (s.plan.deferred.any fun x => x.1 == e) = false →
        exec (.pwrWake e) s = .next { s with plan := { s.plan with deferred := s.plan.deferred ++ [(e, d)] } }) ∧
      (loadLate s = true → schedOn s e = true → (s.plan.deferred.any fun x => x.1 == e) = true →
        exec (.pwrWake e) s = .next s) ∧
      (schedOn s e = false →
        ∃ t, exec (.pwrWake e) s = .next t ∧ t = { s with pwr := { s.pwr with served := t.pwr.served } } ∧
          schedServed t e = schedServed s e + dueCount s p)) ∧
  (∀ (s : State) (e : Nat),
      ((s.pwr.sched.find? fun p => p.id == e) = none ∨ (s.time.mode ≠ .full ∧ s.time.mode ≠ .coarse) ∨
        (∀ p, (s.pwr.sched.find? fun p => p.id == e) = some p → dueCount s p = 0)) →
      exec (.pwrWake e) s = .next s) ∧
  (∀ (s : State) (e : Nat),
      (∀ r, (s.pwr.runs.find? fun r => r.entry == e) = some r → r.draining = false → r.stop ≤ nowTotal s →
        ∃ t, exec (.runDurationEnd e) s = .next t ∧ ∀ x ∈ t.pwr.runs, x.entry = e → x.draining = true) ∧
      (∀ r, (s.pwr.runs.find? fun r => r.entry == e) = some r → (r.draining = true ∨ nowTotal s < r.stop) →
        exec (.runDurationEnd e) s = .next s) ∧
      ((s.pwr.runs.find? fun r => r.entry == e) = none → exec (.runDurationEnd e) s = .next s)) ∧
  (∀ (s : State) (ag : AgentId), WriteOpen s ag (Reg.off .pwrCmd 0 0) →
      (sleepCond s = none →
        ∃ t, exec (.sleep ag) s = .next t ∧ t.pwr.asleep = true ∧ t.pwr.aonSched = s.pwr.sched ∧
          t.pwr.aonServed = s.pwr.served ∧ t.plan = PlanState.reset ∧ t.units = [] ∧ t.hbm.mem = [] ∧
          t.time.sec = s.time.sec ∧ t.time.acc = s.time.acc) ∧
      (∀ c, sleepCond s = some c →
        ∃ t, exec (.sleep ag) s = .next t ∧ t.pwr = s.pwr ∧ RaisedData s t 0x1107 0x240 [.u16 c] ∧
          getB t .pwrStatus 0 0 2 = true ∧ t.units = s.units ∧ t.plan = s.plan)) ∧
  (∀ (s : State),
      (s.pwr.asleep = true → wakeDue s = true →
        ∃ t, exec .aonWake s = .next t ∧ t.pwr.asleep = false ∧ t.pwr.fromSleep = true ∧
          t.pwr.aonSched = s.pwr.aonSched ∧ getF t .globalBootStatus 0 0 10 2 = 2 ∧ getF t .pwrStatus 0 0 4 2 = 1 ∧
          t.time.sec = s.time.sec) ∧
      ((s.pwr.asleep = false ∨ wakeDue s = false) → exec .aonWake s = .next s)) ∧
  (∀ (s : State) (e h : Nat), s.pwr.runEnd = some e → getB s .pwrSleepCfg 0 0 0 = true → s.pwr.fromSleep = true →
      s.pwr.asleep = false → h = e + max 1 (getF s .pwrSleepCfg 0 0 16 16) * 2 ^ 64 →
      (sleepCond s = none → (flumesClosed s = true ∨ h ≤ upTotal s) →
        ∃ t, exec .autoSleepAttempt s = .next t ∧ t.pwr.asleep = true ∧ t.pwr.aonSched = s.pwr.sched) ∧
      (∀ c, sleepCond s = some c → h ≤ upTotal s →
        ∃ t, exec .autoSleepAttempt s = .next t ∧ t.pwr = s.pwr ∧ RaisedData s t 0x1107 0x240 [.u16 c]) ∧
      (sleepCond s = none → flumesClosed s = false → upTotal s < h → exec .autoSleepAttempt s = .next s) ∧
      (sleepCond s ≠ none → upTotal s < h → exec .autoSleepAttempt s = .next s)) ∧
  (∀ (s : State), (s.pwr.runEnd = none ∨ getB s .pwrSleepCfg 0 0 0 = false ∨ s.pwr.fromSleep = false ∨
        s.pwr.asleep = true) → exec .autoSleepAttempt s = .next s) ∧
  (∀ (s : State) (dies : List Int),
      (mainUp s = true → (∀ x ∈ thermals dies s, x ≤ 115) →
        ((∃ x ∈ thermals dies s, 105 < x) → getF s .pwrStatus 0 0 0 2 ≠ 1 →
          ∃ t, exec (.thermalSample dies) s = .next t ∧ t.pwr.temps = thermals dies s ∧
            getF t .pwrStatus 0 0 0 2 = 1 ∧ Raised s t 0x1104 0x240) ∧
        ((∀ x ∈ thermals dies s, x ≤ 100) → getF s .pwrStatus 0 0 0 2 = 1 →
          ∃ t, exec (.thermalSample dies) s = .next t ∧ t.pwr.temps = thermals dies s ∧
            getF t .pwrStatus 0 0 0 2 = 0 ∧ Raised s t 0x1104 0x240) ∧
        ((∀ x ∈ thermals dies s, x ≤ 105) → ((∃ x ∈ thermals dies s, 100 < x) ∨ getF s .pwrStatus 0 0 0 2 ≠ 1) →
          ∃ t, exec (.thermalSample dies) s = .next t ∧ t.pwr.temps = thermals dies s ∧ t.events = s.events ∧
            getF t .pwrStatus 0 0 0 2 = getF s .pwrStatus 0 0 0 2)) ∧
      (mainUp s = true → (∃ x ∈ thermals dies s, 115 < x) →
        ∃ t, exec (.thermalSample dies) s = .next t ∧ t.pwr.shutdown = true ∧ t.units = [] ∧ t.plan = PlanState.reset ∧
          t.boot.faultN = true ∧ Raised s t 0x1105 0x240) ∧
      (mainUp s = false → exec (.thermalSample dies) s = .next s))

/-- 15 R514 to R516, R519, R524 to R526, R528 to R532, R537 and 16 R543. -/
def Obligations.MemoryCommandsComplete : Prop :=
  (∀ (s : State) (k us : Nat) (repairs : List (Nat × Nat × Nat)) (fences : List Nat), k < 2 →
      (sstate s k = 2 → s.hbm.held = none →
        ∃ t, exec (.hbmTrained k repairs fences us) s = .next t ∧ sstate t k = 3 ∧ Raised s t 0x0C01 (stackUnit k)) ∧
      (sstate s k = 4 → s.hbm.held = none →
        ∃ t, exec (.hbmTrained k repairs fences us) s = .next t ∧ sstate t k = 4 ∧ Raised s t 0x0C01 (stackUnit k)) ∧
      ((sstate s k = 2 ∨ sstate s k = 4) →
        ∃ t, exec (.hbmTrained k repairs fences us) s = .next t ∧ Raised s t 0x0C01 (stackUnit k)) ∧
      (sstate s k ≠ 2 → sstate s k ≠ 4 → bootPhase s ≠ 2 → exec (.hbmTrained k repairs fences us) s = .next s)) ∧
  (∀ (s : State) (ag : AgentId) (v : BitVec 32), WriteOpen s ag (Reg.off .hbmFreq 0 0) →
      (freqBusy s = false → freqRefusal s (fld v 0 2) (bit v 2) = none → fld v 0 2 ≠ getF s .hbmFreq 0 0 4 2 →
        ∃ t, exec (.hbmFreqReq ag v) s = .next t ∧ t.hbm.change = some (fld v 0 2) ∧ getB t .hbmFreq 0 0 6 = true ∧
          (synOf t 2).lock = 1) ∧
      (freqBusy s = false → freqRefusal s (fld v 0 2) (bit v 2) = none → fld v 0 2 = getF s .hbmFreq 0 0 4 2 →
        ∃ t, exec (.hbmFreqReq ag v) s = .next t ∧ t.hbm = s.hbm ∧ getF t .hbmFreq 0 0 8 3 = 1 ∧
          RaisedData s t 0x0C09 (stackUnit 0) [.u16 (fld v 0 2)]) ∧
      (∀ c, freqBusy s = false → freqRefusal s (fld v 0 2) (bit v 2) = some c →
        ∃ t, exec (.hbmFreqReq ag v) s = .next t ∧ t.hbm = s.hbm ∧ getF t .hbmFreq 0 0 8 3 = c ∧
          RaisedData s t 0x0C0A (stackUnit 0) [.u16 c]) ∧
      (freqBusy s = true →
        ∃ t, exec (.hbmFreqReq ag v) s = .next t ∧ t.hbm.held = some (fld v 0 2, bit v 2) ∧
          t.hbm.change = s.hbm.change ∧ getB t .hbmFreq 0 0 7 = true)) ∧
  (∀ (s : State),
      (∀ rate, s.hbm.change = some rate → rate < 4 →
        ∃ t, exec .hbmFreqDone s = .next t ∧ RaisedData s t 0x0C09 (stackUnit 0) [.u16 rate]) ∧
      (∀ rate, s.hbm.change = some rate → rate < 4 → s.hbm.held = none →
        ∃ t, exec .hbmFreqDone s = .next t ∧ t.hbm.change = none ∧ getF t .hbmFreq 0 0 4 2 = rate ∧
          getB t .hbmFreq 0 0 6 = false ∧ (synOf t 2).lock = 2) ∧
      (s.hbm.change = none → exec .hbmFreqDone s = .next s)) ∧
  (∀ (s u : State) (slice stream off : Nat) (it : Item) (w0 w1 w2 w3 w4 : Word) (data : List Word),
      takeDelivered (80 + slice) stream s = some (it, u) → itemWaits u slice stream it = false →
      it.payload = w0 :: w1 :: w2 :: w3 :: w4 :: 0 :: 0 :: 0 :: data → off = w2.toNat + 2 ^ 32 * w3.toNat →
      (fld w0 0 16 = 1 → 32 ≤ w1.toNat → w1.toNat ≤ 65536 → w1.toNat % 32 = 0 → off % 32 = 0 → w1.toNat ≤ 4 * data.length →
        (∀ r, regionById s (fld w0 16 16) = some r → mayAccess s it.src r = true → off + w1.toNat ≤ r.size →
          (rangeFrozen s (r.base + off) w1.toNat = false →
            exec (.hbmMemoryItem slice stream [] []) s =
              .next (imageDone it (hbmWrite (r.base + off) ((wordsBytes data).take w1.toNat) u))) ∧
          (rangeFrozen s (r.base + off) w1.toNat = true →
            exec (.hbmMemoryItem slice stream [] []) s = .next (hbmWrite (r.base + off) ((wordsBytes data).take w1.toNat) u))) ∧
        ((∀ r, regionById s (fld w0 16 16) = some r → mayAccess s it.src r = false ∨ r.size < off + w1.toNat) →
          exec (.hbmMemoryItem slice stream [] []) s = .next (rangeFault it.src (9 + slice) u))) ∧
      (fld w0 0 16 = 2 → 32 ≤ w1.toNat → w1.toNat ≤ 65536 → w1.toNat % 32 = 0 → off % 32 = 0 →
        (∀ r x, regionById s (fld w0 16 16) = some r → mayAccess s it.src r = true → off + w1.toNat ≤ r.size →
          x = hbmRead (r.base + off) w1.toNat u →
          exec (.hbmMemoryItem slice stream [] []) s =
            .next (offerResponse slice stream (wordsBytes it.payload) x.1 x.2.1 x.2.2)) ∧
        ((∀ r, regionById s (fld w0 16 16) = some r → mayAccess s it.src r = false ∨ r.size < off + w1.toNat) →
          exec (.hbmMemoryItem slice stream [] []) s =
            .next (offerResponse slice stream (wordsBytes it.payload) 2 [] (rangeFault it.src (9 + slice) u)))) ∧
      (((fld w0 0 16 ≠ 1 ∧ fld w0 0 16 ≠ 2) ∨ w1.toNat < 32 ∨ 65536 < w1.toNat ∨ w1.toNat % 32 ≠ 0 ∨ off % 32 ≠ 0) →
        (fld w0 0 8 = 1 → exec (.hbmMemoryItem slice stream [] []) s = .next (rangeFault it.src (9 + slice) u)) ∧
        (fld w0 0 8 ≠ 1 → exec (.hbmMemoryItem slice stream [] []) s =
          .next (offerResponse slice stream (wordsBytes it.payload) 4 [] u)))) ∧
  (∀ (s : State) (slice stream : Nat) (errs : List HbmErr) (acts : List (Nat × Nat × Nat)),
      (∀ it u, takeDelivered (80 + slice) stream s = some (it, u) → itemWaits u slice stream it = true →
        exec (.hbmMemoryItem slice stream errs acts) s =
          .next { u with hbm := { u.hbm with waiting := u.hbm.waiting ++ [(slice, stream, it)] } }) ∧
      (takeDelivered (80 + slice) stream s = none → exec (.hbmMemoryItem slice stream errs acts) s = .next s)) ∧
  (∀ (s : State) (ag : AgentId) (k : Nat), k < 2 → WriteOpen s ag (Reg.off .hbmStackCmd k 0) →
      (sstate s k = 5 → (synOf s 2).lock = 2 →
        ∃ t, exec (.hbmStackThaw ag k) s = .next t ∧ sstate t k = 2 ∧ k ∈ t.hbm.thawing ∧
          getF t .hbmStackStatus k 0 14 4 = 0) ∧
      (sstate s k = 5 → (synOf s 2).lock ≠ 2 →
        ∃ t, exec (.hbmStackThaw ag k) s = .next t ∧ t.hbm = s.hbm ∧ sstate t k = 5 ∧
          getB t .hbmStackStatus k 0 3 = true) ∧
      (sstate s k ≠ 5 →
        ∃ t, exec (.hbmStackThaw ag k) s = .next t ∧ t.hbm = s.hbm ∧ sstate t k = sstate s k ∧ t.units = s.units)) ∧
  (∀ (s : State) (k m : Nat) (x : Int),
      (stackPresent s k = true → m = refMult (getF s .hbmStackStatus k 0 12 2) x →
        ∃ t, exec (.hbmTempRead k x) s = .next t ∧ getF t .hbmStackStatus k 0 4 8 = unsgn 8 x ∧
          getF t .hbmStackStatus k 0 12 2 = m ∧ sstate t k = sstate s k ∧
          (m ≠ getF s .hbmStackStatus k 0 12 2 →
            RaisedData s t 0x0C0B (stackUnit k) [.u16 k, .u16 (2 ^ m), .s32 x])) ∧
      (stackPresent s k = false → exec (.hbmTempRead k x) s = .next s)) ∧
  (∀ (s : State) (p : Nat) (placed : List Nat), p < 64 →
      (sstate s (p / 32) = 3 →
        (∀ b, b < 48 → bankDebt s (p * 48 + b) + 1 - (placed.filter fun x => x == b).length < 8) →
        ∃ t, exec (.hbmRefreshDue p placed) s = .next t ∧
          t = { s with regs := t.regs, hbm := { s.hbm with debt := t.hbm.debt } } ∧
          (∀ b, b < 48 → bankDebt t (p * 48 + b) =
            bankDebt s (p * 48 + b) + 1 - (placed.filter fun x => x == b).length)) ∧
      (∀ b, sstate s (p / 32) = 3 → b < 48 →
        8 ≤ bankDebt s (p * 48 + b) + 1 - (placed.filter fun x => x == b).length →
        ∃ t, exec (.hbmRefreshDue p placed) s = .next t ∧
          (rd t .hbmPcCount p 6).toNat = satU 32 ((rd s .hbmPcCount p 6).toNat + 1) ∧
          (∀ k, k < 48 → bankDebt t (p * 48 + k) =
            bankDebt s (p * 48 + k) + 1 - (placed.filter fun x => x == k).length - 1)) ∧
      (sstate s (p / 32) ≠ 3 → exec (.hbmRefreshDue p placed) s = .next s)) ∧
  (∀ (s : State), exec .refreshWindowEnd s = .next { s with hbm := { s.hbm with
      rdTables := [], rdThresh := max 256 (getF s .hbmRdCfg 0 0 0 16), rdRadius2 := getB s .hbmRdCfg 0 0 16 } }) ∧
  (∀ (s : State) (ag : AgentId) (v : BitVec 32), WriteOpen s ag (Reg.off .hbmRdCfg 0 0) →
      ∃ t, exec (.rdCfgWrite ag v) s = .next t ∧ getF t .hbmRdCfg 0 0 0 17 = fld v 0 17 ∧ t.hbm = s.hbm) ∧
  (∀ (s : State) (p : Nat), p < 64 →
      (∀ i, s.plan.running = some i → i.powerFlags.testBit 1 = true → getB s .hbmPcStatus p 0 2 = false →
        sstate s (p / 32) = 3 → ustate s (pcUnit p) = .running →
        ∃ t, exec (.pcIdleTimeout p) s = .next t ∧ getB t .hbmPcStatus p 0 2 = true ∧
          rd t .hbmPcCount p 7 = rd s .hbmPcCount p 7 + 1) ∧
      ((s.plan.running = none ∨ getB s .hbmPcStatus p 0 2 = true ∨ sstate s (p / 32) ≠ 3 ∨
          ustate s (pcUnit p) ≠ .running) → exec (.pcIdleTimeout p) s = .next s) ∧
      (∀ i, s.plan.running = some i → i.powerFlags.testBit 1 = false → exec (.pcIdleTimeout p) s = .next s)) ∧
  (∀ (s : State) (fn b a n : Nat) (data : List Byte), mainUp s = true → n = data.length →
      (windowAddr s fn b n = some a → rangeWaits s a n = false →
        exec (.windowAccess fn true b n data []) s = .next (hbmWrite a data s)) ∧
      (windowAddr s fn b n = none →
        ∃ t, exec (.windowAccess fn true b n data []) s = .next t ∧ t.hbm = s.hbm ∧
          (rd t .hostCount 0 2).toNat = satU 32 ((rd s .hostCount 0 2).toNat + 1))) ∧
  (∀ (s : State) (fn b a n : Nat) (data : List Byte), mainUp s = true →
      (windowAddr s fn b n = some a → rangeWaits s a n = false → rangeFrozen s a n = false →
        ∃ t, exec (.windowAccess fn false b n data []) s = .next t ∧
          t.rdata = BitVec.ofNat 32 (hbmRead a n s).1 :: bytesWords (hbmBytes s a n) ∧ t.hbm = s.hbm) ∧
      (windowAddr s fn b n = some a → rangeWaits s a n = false → rangeFrozen s a n = true →
        ∃ t, exec (.windowAccess fn false b n data []) s = .next t ∧ t.rdata = [1] ∧ t.hbm = s.hbm) ∧
      (windowAddr s fn b n = none →
        ∃ t, exec (.windowAccess fn false b n data []) s = .next t ∧ t.rdata = [1] ∧ t.hbm = s.hbm)) ∧
  (∀ (s : State) (fn b a n : Nat) (write : Bool) (data : List Byte) (errs : List HbmErr),
      (mainUp s = false → exec (.windowAccess fn write b n data errs) s = .next s) ∧
      (windowAddr s fn b (if write = true then data.length else n) = some a →
        rangeWaits s a (if write = true then data.length else n) = true →
        exec (.windowAccess fn write b n data errs) s = .next s))

/-- 01 R25, R26, R28; 02 R80, R118; 03 R156; 12 R440; 21 R633, R637. -/
def Obligations.FabricCommandsComplete : Prop :=
  (∀ (s : State) (k ecc : Nat) (room : List Bool) (it : Item), s.plan.offered[k]? = some it → (synOf s 0).lock = 2 →
      ((s.plan.offered.take k).any fun x => unitPort x.src == unitPort it.src && x.stream == it.stream) = false →
      (routeOf s it = none →
        exec (.fabricItem k room ecc) s = .next { s with plan := { s.plan with offered := s.plan.offered.eraseIdx k } }) ∧
      (∀ r, routeOf s it = some r → 0 ≤ creditNow s r → r.held = [] → fabricStalled r room = false →
        longHeld s r = false → ecc < 2 →
        ∃ t, exec (.fabricItem k room ecc) s = .next t ∧ t.plan.offered = s.plan.offered.eraseIdx k ∧
          t.plan.delivered = s.plan.delivered ++ (((routeSlots r.plan).zipIdx.filter fun x =>
            takesFrom r it x.2 && room.getD x.2 true).map fun x => (x.1.1, x.1.2, it)) ∧
          (∀ q ∈ t.plan.routes, q.plan.id = r.plan.id →
            q.credit = creditNow s r - ((4 * it.payload.length * 2 ^ 64 : Nat) : Int) ∧
            q.slotDrops = (r.slotDrops.mapIdx fun i n =>
              if i < r.plan.count ∧ takesFrom r it i = true ∧ room.getD i true = false then n + 1 else n)) ∧
          t.hbm = s.hbm ∧ t.units = s.units) ∧
      (∀ r, routeOf s it = some r → 0 ≤ creditNow s r → r.held = [] → fabricStalled r room = false →
        longHeld s r = false → 2 ≤ ecc →
        ∃ t, exec (.fabricItem k room ecc) s = .next t ∧ t.plan.delivered = s.plan.delivered ∧
          RaisedData s t 0x0E12 0x210 [.u16 2, .u16 it.src, .u32 2]) ∧
      (∀ r, routeOf s it = some r → 0 ≤ creditNow s r → r.held = [] →
        (fabricStalled r room = true ∨ longHeld s r = true) → exec (.fabricItem k room ecc) s = .next s) ∧
      (∀ r, routeOf s it = some r → (creditNow s r < 0 ∨ r.held ≠ []) →
        ∃ t, exec (.fabricItem k room ecc) s = .next t ∧ t.plan.offered = s.plan.offered.eraseIdx k ∧
          t.plan.delivered = s.plan.delivered ∧
          (r.plan.mode = 1 → { r with held := r.held ++ [it] } ∈ t.plan.routes) ∧
          (r.plan.mode ≠ 1 → { r with dropped := r.dropped + 1 } ∈ t.plan.routes))) ∧
  (∀ (s : State) (k ecc : Nat) (room : List Bool),
      ((synOf s 0).lock ≠ 2 ∨ s.plan.offered[k]? = none) → exec (.fabricItem k room ecc) s = .next s) ∧
  (∀ (s : State) (k ecc : Nat) (room : List Bool) (it : Item), s.plan.offered[k]? = some it →
      ((s.plan.offered.take k).any fun x => unitPort x.src == unitPort it.src && x.stream == it.stream) = true →
      exec (.fabricItem k room ecc) s = .next s) ∧
  (∀ (s : State) (id ecc : Nat) (room : List Bool) (r : Route),
      (s.plan.routes.find? fun r => r.plan.id == id) = some r →
      (∀ it rest, r.held = it :: rest → 0 ≤ creditNow s r → fabricStalled r room = false → longHeld s r = false →
        (synOf s 0).lock = 2 → ecc < 2 →
        ∃ t, exec (.routeCreditRecovered id room ecc) s = .next t ∧ t.plan.offered = s.plan.offered ∧
          t.plan.delivered = s.plan.delivered ++ (((routeSlots r.plan).zipIdx.filter fun x =>
            takesFrom r it x.2 && room.getD x.2 true).map fun x => (x.1.1, x.1.2, it)) ∧
          (∀ q ∈ t.plan.routes, q.plan.id = id → q.held = rest)) ∧
      (∀ it rest, r.held = it :: rest → 0 ≤ creditNow s r → fabricStalled r room = false → longHeld s r = false →
        (synOf s 0).lock = 2 → 2 ≤ ecc →
        ∃ t, exec (.routeCreditRecovered id room ecc) s = .next t ∧ t.plan.delivered = s.plan.delivered ∧
          RaisedData s t 0x0E12 0x210 [.u16 2, .u16 it.src, .u32 2]) ∧
      ((r.held = [] ∨ creditNow s r < 0 ∨ fabricStalled r room = true ∨ longHeld s r = true ∨ (synOf s 0).lock ≠ 2) →
        exec (.routeCreditRecovered id room ecc) s = .next s)) ∧
  (∀ (s : State) (id ecc : Nat) (room : List Bool), (s.plan.routes.find? fun r => r.plan.id == id) = none →
      exec (.routeCreditRecovered id room ecc) s = .next s)

/-- 16 R541, R546, R548 to R550, R558, R565; 01 R26; 21 R633, R636. -/
def Obligations.FlumeRecordCommandsComplete : Prop :=
  (∀ (s : State) (up flit : Bool) (rate width mps : Nat) (masters vfs : List Nat) (v : BitVec 32), rate < 8 → width < 32 →
      mps < 8 → v = BitVec.ofNat 32 (b2n up + rate * 2 + width * 16 + b2n flit * 512 + mps * 1024) →
      ∃ t, exec (.hostLinkChange up rate width flit mps masters vfs) s = .next t ∧ t.host.busMaster = masters ∧
        rd t .hostLink 0 0 = v ∧
        (fld v 1 9 ≠ fld (rd s .hostLink 0 0) 1 9 →
          RaisedData s t 0x0D01 0x200 [.u16 rate, .u16 width, .u16 (b2n flit)]) ∧
        (∀ f, f < 4096 → up = true → width < 4 → (fstate s f = 1 ∨ fstate s f = 2) →
          fstate t f = 3 ∧ getF t .hostFlumeStatus f 0 4 4 = 7)) ∧
  (∀ (s u : State) (h k b : Nat) (i : Item), takeDelivered (74 + h) k s = some (i, u) → b = 256 * h + k →
      (fifoTakes s b i = false → exec (.hostItem h k) s = .next (refuseItem (74 + h) k s u)) ∧
      (fifoTakes s b i = true → steerTo s b i = none →
        ∃ t, exec (.hostItem h k) s = .next t ∧ t.plan = u.plan ∧
          (rd t .hostCount 0 0).toNat = satU 32 ((rd s .hostCount 0 0).toNat + 1)) ∧
      (fifoTakes s b i = true → steerTo s b i ≠ none → (s.host.waiting.any fun w => w.1 == b) = true →
        exec (.hostItem h k) s = .next { u with host := { u.host with waiting := u.host.waiting ++ [(b, i)] } }) ∧
      (∀ f, fifoTakes s b i = true → steerTo s b i = some f → (s.host.waiting.any fun w => w.1 == b) = false →
        (flume s f).spill = [] → poolUsed s + stagedSize i.payload ≤ poolSize s →
        stagedBytes (flume s f) + stagedSize i.payload ≤ getF s .hostFlumeCfg f 0 22 8 * 65536 →
        ∃ t, exec (.hostItem h k) s = .next t ∧ rd t .hostFlumeSeq f 0 = rd s .hostFlumeSeq f 0 + 1 ∧
          (flume t f).staged = (flume s f).staged ++
            [{ itemRec i with seq := rd s .hostFlumeSeq f 0, lostBefore := (flume s f).lostBefore }] ∧
          (flume t f).lostBefore = false) ∧
      (∀ f, fifoTakes s b i = true → steerTo s b i = some f → (s.host.waiting.any fun w => w.1 == b) = false →
        (flume s f).spill = [] → getB s .hostFlumeSpill f 0 16 = false → poolSize s < poolUsed s + stagedSize i.payload →
        (getF s .hostFlumeCfg f 0 4 2 = 1 → stagedSize i.payload ≤ poolSize s →
          exec (.hostItem h k) s = .next { u with host := { u.host with waiting := u.host.waiting ++ [(b, i)] } }) ∧
        ((getF s .hostFlumeCfg f 0 4 2 ≠ 1 ∨ poolSize s < stagedSize i.payload) →
          ∃ t, exec (.hostItem h k) s = .next t ∧ rd t .hostFlumeSeq f 0 = rd s .hostFlumeSeq f 0 + 1 ∧
            (rd t .hostFlumeCount f 1).toNat = satU 32 ((rd s .hostFlumeCount f 1).toNat + 1) ∧
            (flume t f).staged = (flume s f).staged ∧ (flume t f).lostBefore = true))) ∧
  (∀ (s : State) (h k : Nat), takeDelivered (74 + h) k s = none → exec (.hostItem h k) s = .next s) ∧
  (∀ (s : State) (f : Nat) (good1 good2 wrote : Bool) (r : StagedRec) (b : FlumeBuf), f < 4096 →
      (2 ≤ f ∨ (flume s f).spill = []) → (fstate s f = 1 ∨ fstate s f = 2) → headRec (flume s f) = some r →
      (flume s f).buf = some b → (flume s f).retry = false →
      (b.used + 64 + payBytes r.payload ≤ b.length → wrote = true → canIssue s f = true →
        crcWords (coveredPayload r.kind r.payload) = r.crc → (good1 = true ∨ good2 = true) →
        ∃ t, exec (.recordWrite f good1 good2 wrote) s = .next t ∧
          .recordWrite f (b.addr + b.used) (recordHeader s f r) r.payload ∈ t.host.out ∧
          rd t .hostFlumeCount f 0 = rd s .hostFlumeCount f 0 + 1 ∧
          (fstate s f = 1 → fstate t f = 1 ∧ (flume t f).lastSeq = r.seq)) ∧
      (b.used + 64 + payBytes r.payload ≤ b.length → wrote = true → canIssue s f = true →
        (crcWords (coveredPayload r.kind r.payload) ≠ r.crc ∨ (good1 = false ∧ good2 = false)) →
        ∃ t, exec (.recordWrite f good1 good2 wrote) s = .next t ∧
          .recordWrite f (b.addr + b.used) (recordHeader s f { r with checkFailed := true }) r.payload ∈ t.host.out ∧
          (rd t .hostCount 0 5).toNat = satU 32 ((rd s .hostCount 0 5).toNat + 1) ∧
          RaisedData s t 0x0E12 0x210 [.u16 5, .u16 0x200, .u32 2]) ∧
      (b.used + 64 + payBytes r.payload ≤ b.length → (wrote = false ∨ canIssue s f = false) →
        ∃ t, exec (.recordWrite f good1 good2 wrote) s = .next t ∧ (flume t f).retry = true ∧
          rd t .hostFlumeCount f 0 = rd s .hostFlumeCount f 0 ∧ fstate t f = fstate s f ∧ (flume t f).buf = some b) ∧
      (b.length < b.used + 64 + payBytes r.payload → b.records ≠ 0 →
        ∃ t, exec (.recordWrite f good1 good2 wrote) s = .next t ∧ (flume t f).buf = none ∧
          (flume t f).staged = (flume s f).staged ∧ (flume t f).spill = (flume s f).spill) ∧
      (b.length < b.used + 64 + payBytes r.payload → b.records = 0 → 2 ≤ f →
        ∃ t, exec (.recordWrite f good1 good2 wrote) s = .next t ∧
          (rd t .hostFlumeCount f 1).toNat = satU 32 ((rd s .hostFlumeCount f 1).toNat + 1) ∧
          (flume t f).staged.length + (flume t f).spill.length + 1 =
            (flume s f).staged.length + (flume s f).spill.length)) ∧
  (∀ (s : State) (f : Nat) (good1 good2 wrote : Bool),
      ((fstate s f ≠ 1 ∧ fstate s f ≠ 2) ∨ headRec (flume s f) = none ∨ (flume s f).buf = none ∨
        (flume s f).retry = true) → exec (.recordWrite f good1 good2 wrote) s = .next s) ∧
  (∀ (s : State) (f : Nat) (r : StagedRec) (b : FlumeBuf) (wrote : Bool), f < 4096 →
      (2 ≤ f ∨ (flume s f).spill = []) → (fstate s f = 1 ∨ fstate s f = 2) → headRec (flume s f) = some r → (flume s f).buf = some b →
      (flume s f).retry = true →
      (wrote = true → canIssue s f = true →
        ∃ t, exec (.hostWriteRetry f wrote) s = .next t ∧
          .recordWrite f (b.addr + b.used) (recordHeader s f r) r.payload ∈ t.host.out ∧
          (rd t .hostCount 0 3).toNat = satU 32 ((rd s .hostCount 0 3).toNat + 1) ∧
          (fstate s f = 1 → fstate t f = 1 ∧ (flume t f).retry = false)) ∧
      ((wrote = false ∨ canIssue s f = false) →
        ∃ t, exec (.hostWriteRetry f wrote) s = .next t ∧ fstate t f = 3 ∧ getF t .hostFlumeStatus f 0 4 4 = 8 ∧
          (2 ≤ f → (flume t f).staged.length + (flume t f).spill.length + 1 =
            (flume s f).staged.length + (flume s f).spill.length) ∧
          RaisedData s t 0x0D04 0x200 [.u16 f, .u16 8] ∧ RaisedData s t 0x0E12 0x210 [.u16 4, .u16 0x200, .u32 2])) ∧
  (∀ (s : State) (f : Nat) (wrote : Bool),
      ((fstate s f ≠ 1 ∧ fstate s f ≠ 2) ∨ headRec (flume s f) = none ∨ (flume s f).buf = none ∨
        (flume s f).retry = false) → exec (.hostWriteRetry f wrote) s = .next s)

/-- 16 R557, R559 to R564. -/
def Obligations.FlumeCommandsComplete : Prop :=
  (∀ (s : State) (ag : AgentId) (f tail : Nat), f < 4096 → tail < 65536 →
      WriteOpen s ag (Reg.off .hostFlumeFreeIdx f 0) → flumeAgent s f ag = true →
      ((tail + 65536 - getF s .hostFlumeFreeIdx f 0 16 16) % 65536 ≤ ringSize s f →
        ∃ t, exec (.freeTailWrite ag f tail) s = .next t ∧ getF t .hostFlumeFreeIdx f 0 0 16 = tail ∧
          getF t .hostFlumeFreeIdx f 0 16 16 = getF s .hostFlumeFreeIdx f 0 16 16) ∧
      (ringSize s f < (tail + 65536 - getF s .hostFlumeFreeIdx f 0 16 16) % 65536 →
        ∃ t, exec (.freeTailWrite ag f tail) s = .next t ∧ rd t .hostFlumeFreeIdx f 0 = rd s .hostFlumeFreeIdx f 0 ∧
          getB t .hostFlumeStatus f 0 2 = true)) ∧
  (∀ (s : State) (f addr len : Nat) (cookie : BitVec 32), f < 4096 →
      ((fstate s f = 1 ∨ fstate s f = 2) → (flume s f).buf = none → (flume s f).held = [] →
        getF s .hostFlumeFreeIdx f 0 0 16 ≠ getF s .hostFlumeFreeIdx f 0 16 16 →
        (addr % 64 = 0 → len % 4096 = 0 → 4096 ≤ len → len ≤ 67108864 →
          ∃ t b, exec (.freeEntryFetched f addr len cookie) s = .next t ∧
            getF t .hostFlumeFreeIdx f 0 16 16 = (getF s .hostFlumeFreeIdx f 0 16 16 + 1) % 65536 ∧
            (flume t f).buf = some b ∧ b.addr = addr ∧ b.length = len ∧ b.cookie = cookie ∧ b.used = 0 ∧ b.records = 0) ∧
        ((addr % 64 ≠ 0 ∨ len % 4096 ≠ 0 ∨ len < 4096 ∨ 67108864 < len) →
          ∃ t, exec (.freeEntryFetched f addr len cookie) s = .next t ∧
            getF t .hostFlumeFreeIdx f 0 16 16 = (getF s .hostFlumeFreeIdx f 0 16 16 + 1) % 65536 ∧
            (flume t f).buf = none ∧
            (rd t .hostFlumeCount f 3).toNat = satU 32 ((rd s .hostFlumeCount f 3).toNat + 1))) ∧
      (((fstate s f ≠ 1 ∧ fstate s f ≠ 2) ∨ (flume s f).buf ≠ none ∨ (flume s f).held ≠ [] ∨
          getF s .hostFlumeFreeIdx f 0 0 16 = getF s .hostFlumeFreeIdx f 0 16 16) →
        exec (.freeEntryFetched f addr len cookie) s = .next s)) ∧
  (∀ (s : State) (f : Nat), f < 4096 →
      (∀ b, (flume s f).buf = some b → b.records ≠ 0 →
        ∃ t, exec (.bufferFlushTimer f) s = .next t ∧ (flume t f).buf = none ∧
          (flume t f).lastDone = (flume s f).lastSeq) ∧
      (∀ b, (flume s f).buf = some b → b.records = 0 → exec (.bufferFlushTimer f) s = .next s) ∧
      ((flume s f).buf = none → exec (.bufferFlushTimer f) s = .next s) ∧
      ((flume s f).unsignalled ≠ 0 → getF s .hostFlumeIrq f 0 0 8 ≠ 0 → getF s .hostFlumeIrq f 0 8 8 ≠ 0 →
        ∃ t, exec (.irqTimer f) s = .next t ∧ (flume t f).unsignalled = 0) ∧
      (((flume s f).unsignalled = 0 ∨ getF s .hostFlumeIrq f 0 0 8 = 0 ∨ getF s .hostFlumeIrq f 0 8 8 = 0) →
        exec (.irqTimer f) s = .next s) ∧
      (fstate s f = 2 →
        ∃ t, exec (.closeTimeout f) s = .next t ∧ fstate t f = 0 ∧ getF t .hostFlumeStatus f 0 4 4 = 9 ∧
          (flume t f).staged = [] ∧ (flume t f).spill = [] ∧ (flume t f).buf = none) ∧
      (fstate s f ≠ 2 → exec (.closeTimeout f) s = .next s)) ∧
  (∀ (s : State) (ag : AgentId) (f head : Nat), f < 4096 → head < 65536 →
      WriteOpen s ag (Reg.off .hostFlumeCplIdx f 0) → flumeAgent s f ag = true →
      ∃ t, exec (.cplHeadWrite ag f head) s = .next t ∧ getF t .hostFlumeCplIdx f 0 0 16 = head) ∧
  (∀ (s : State) (ag : AgentId) (f : Nat), 2 ≤ f → f < 4096 → WriteOpen s ag (Reg.off .hostFlumeCmd f 0) →
      flumeAgent s f ag = true →
      (fstate s f = 0 → openCause s f = none →
        ∃ t, exec (.flumeOpen ag f) s = .next t ∧ fstate t f = 1 ∧ rd t .hostFlumeSeq f 0 = 0 ∧
          rd t .hostFlumeFreeIdx f 0 = 0 ∧ rd t .hostFlumeCplIdx f 0 = 0 ∧ flume t f = Flume.reset) ∧
      (fstate s f = 1 → (flume s f).staged = [] → (flume s f).spill = [] → (flume s f).buf = none → (flume s f).held = [] →
        ∃ t, exec (.flumeClose ag f) s = .next t ∧ fstate t f = 0 ∧
          RaisedData s t 0x0D05 0x200 [.u16 f, .u32 (flume s f).lastSeq.toNat]) ∧
      (fstate s f = 1 → ((flume s f).staged ≠ [] ∨ (flume s f).spill ≠ []) →
        ∃ t, exec (.flumeClose ag f) s = .next t ∧ fstate t f = 2 ∧ (flume t f).staged = (flume s f).staged ∧
          (flume t f).spill = (flume s f).spill)) ∧
  (∀ (s : State) (ag : AgentId) (f : Nat), f < 4096 → WriteOpen s ag (Reg.off .hostFlumeCmd f 0) →
      flumeAgent s f ag = true →
      (fstate s f = 0 → openCause s f = none → ∃ t, exec (.flumeOpen ag f) s = .next t ∧ fstate t f = 1) ∧
      (∀ c, fstate s f = 0 → openCause s f = some c →
        ∃ t, exec (.flumeOpen ag f) s = .next t ∧ fstate t f = 0 ∧ getF t .hostFlumeStatus f 0 4 4 = c ∧
          getB t .hostFlumeStatus f 0 2 = true ∧ RaisedData s t 0x0D03 0x200 [.u16 f, .u16 c]) ∧
      (fstate s f ≠ 0 →
        ∃ t, exec (.flumeOpen ag f) s = .next t ∧ fstate t f = fstate s f ∧ getB t .hostFlumeStatus f 0 2 = true) ∧
      (fstate s f = 1 →
        ∃ t, exec (.flumeClose ag f) s = .next t ∧ (fstate t f = 0 ∨ fstate t f = 2)) ∧
      (fstate s f ≠ 1 →
        ∃ t, exec (.flumeClose ag f) s = .next t ∧ fstate t f = fstate s f ∧ getB t .hostFlumeStatus f 0 2 = true) ∧
      (∃ t, exec (.flumeReset ag f) s = .next t ∧ fstate t f = 0 ∧ (flume t f).staged = [] ∧ (flume t f).spill = [] ∧
        (flume t f).buf = none) ∧
      (∀ b, (flume s f).buf = some b → b.records ≠ 0 →
        ∃ t, exec (.flumeFlush ag f) s = .next t ∧ (flume t f).buf = none ∧ fstate t f = fstate s f) ∧
      (((flume s f).buf = none ∨ (∀ b, (flume s f).buf = some b → b.records = 0)) →
        ∃ t, exec (.flumeFlush ag f) s = .next t ∧ (flume t f).buf = (flume s f).buf ∧ fstate t f = fstate s f ∧
          (flume t f).lastDone = (flume s f).lastDone)) ∧
  (∀ (s : State) (ag : AgentId) (f n : Nat), f < 4096 → n < 65536 → flumeAgent s f ag = false →
      s.mgt.log.length < auditSize →
      (WriteOpen s ag (Reg.off .hostFlumeFreeIdx f 0) →
        ∃ t, exec (.freeTailWrite ag f n) s = .next t ∧
          Audited s t 0x02 ag 1 (Reg.off .hostFlumeFreeIdx f 0) (BitVec.ofNat 32 n)) ∧
      (WriteOpen s ag (Reg.off .hostFlumeCplIdx f 0) →
        ∃ t, exec (.cplHeadWrite ag f n) s = .next t ∧
          Audited s t 0x02 ag 1 (Reg.off .hostFlumeCplIdx f 0) (BitVec.ofNat 32 n)) ∧
      (WriteOpen s ag (Reg.off .hostFlumeCmd f 0) →
        (∃ t, exec (.flumeOpen ag f) s = .next t ∧ Audited s t 0x02 ag 1 (Reg.off .hostFlumeCmd f 0) 1) ∧
        (∃ t, exec (.flumeClose ag f) s = .next t ∧ Audited s t 0x02 ag 1 (Reg.off .hostFlumeCmd f 0) 2) ∧
        (∃ t, exec (.flumeReset ag f) s = .next t ∧ Audited s t 0x02 ag 1 (Reg.off .hostFlumeCmd f 0) 3) ∧
        (∃ t, exec (.flumeFlush ag f) s = .next t ∧ Audited s t 0x02 ag 1 (Reg.off .hostFlumeCmd f 0) 4)))

/-- 17 R571, R573, R574, R576, R577, R579, R580, R582 to R584, R589. Reads of a headgate are those of R581. -/
def Obligations.ManagementCommandsComplete : Prop :=
  (∀ (s : State) (ag : AgentId) (v : BitVec 32) (ecc : Nat), WriteOpen s ag (Reg.off .mgtCvSend 0 0) →
      (sendRefusal s ag (fld v 0 6) = none → ecc < 2 →
        ∃ t m, exec (.cvSend ag v ecc) s = .next t ∧ (chan t (fld v 0 6)).queue = (chan s (fld v 0 6)).queue ++ [m] ∧
          m.sender = ag ∧ m.body = (bank s ag).tx ∧ m.sendSeq = (bank s ag).nextSend ∧
          (chan t (fld v 0 6)).nextSeq = (chan s (fld v 0 6)).nextSeq + 1 ∧
          (bank t ag).nextSend = ((bank s ag).nextSend + 1) % 2 ^ 16) ∧
      (sendRefusal s ag (fld v 0 6) = none → 2 ≤ ecc →
        ∃ t, exec (.cvSend ag v ecc) s = .next t ∧ (chan t (fld v 0 6)).queue = (chan s (fld v 0 6)).queue ∧
          (bank t ag).cpl = (bank s ag).cpl ++ [(5, fld v 0 6, (bank s ag).nextSend)] ∧
          RaisedData s t 0x0E12 0x210 [.u16 3, .u16 0x210, .u32 2]) ∧
      (∀ st, sendRefusal s ag (fld v 0 6) = some st →
        ∃ t, exec (.cvSend ag v ecc) s = .next t ∧ t.mgt.chans = s.mgt.chans ∧
          (bank t ag).cpl = (bank s ag).cpl ++ [(st, fld v 0 6, (bank s ag).nextSend)])) ∧
  (∀ (s : State) (ag : AgentId) (c ecc : Nat), c < 64 → WriteOpen s ag (Reg.off .mgtCvRxpop c 0) →
      (∀ m rest, receiverOf s c = ag → (chan s c).queue = m :: rest →
        (ecc ≠ 2 → ∃ t, exec (.cvRxpop ag c ecc) s = .next t ∧ (chan t c).queue = rest ∧
          (bank t m.sender).cpl = (bank s m.sender).cpl ++ [(0, c, m.sendSeq)]) ∧
        (ecc = 2 → ∃ t, exec (.cvRxpop ag c ecc) s = .next t ∧ (chan t c).queue = rest ∧
          (bank t m.sender).cpl = (bank s m.sender).cpl ++ [(5, c, m.sendSeq)])) ∧
      (receiverOf s c = ag → (chan s c).queue = [] →
        ∃ t, exec (.cvRxpop ag c ecc) s = .next t ∧ t.mgt.chans = s.mgt.chans ∧ t.mgt.banks = s.mgt.banks) ∧
      (receiverOf s c ≠ ag → s.mgt.log.length < auditSize →
        ∃ t, exec (.cvRxpop ag c ecc) s = .next t ∧ Audited s t 0x02 ag 6 (Reg.off .mgtCvRxpop c 0) 1)) ∧
  (∀ (s : State) (ag : AgentId),
      (∀ st c q rest, (bank s ag).cpl = (st, c, q) :: rest →
        ∃ t, exec (.cvTxstatRead ag) s = .next t ∧ (bank t ag).cpl = rest ∧
          t.rdata = [BitVec.ofNat 32 (st + c * 2 ^ 8 + 2 ^ 14 + q * 2 ^ 16)]) ∧
      ((bank s ag).cpl = [] → exec (.cvTxstatRead ag) s = .next { s with rdata := [0] })) ∧
  (∀ (s : State) (ag : AgentId) (c : Nat) (v : BitVec 32), c < 64 → WriteOpen s ag (Reg.off .mgtCvCfg c 0) →
      (receiverOk (fld v 0 8) = true → fld v 0 8 = getF s .mgtCvCfg c 0 0 8 →
        ∃ t, exec (.cvReceiverWrite ag c v) s = .next t ∧ rd t .mgtCvCfg c 0 = v &&& 0xFFFF ∧
          t.mgt.chans = s.mgt.chans) ∧
      (receiverOk (fld v 0 8) = true → fld v 0 8 ≠ getF s .mgtCvCfg c 0 0 8 →
        ∃ t, exec (.cvReceiverWrite ag c v) s = .next t ∧ rd t .mgtCvCfg c 0 = v &&& 0xFFFF ∧ (chan t c).queue = [] ∧
          ((chan s c).queue ≠ [] →
            RaisedData s t 0x0E02 0x210 [.u16 (getF s .mgtCvCfg c 0 0 8), .u32 (chan s c).queue.length])) ∧
      (receiverOk (fld v 0 8) = false → s.mgt.log.length < auditSize →
        ∃ t, exec (.cvReceiverWrite ag c v) s = .next t ∧ Audited s t 0x02 ag 6 (Reg.off .mgtCvCfg c 0) v)) ∧
  (∀ (s : State) (ag : AgentId) (j : Nat) (v : BitVec 32), j < 8 →
      (WriteOpen s ag (Reg.off .mgtDbRing 0 j) →
        ∃ t, exec (.dbRing ag j v) s = .next t ∧ rd t .mgtDbRing 0 j = rd s .mgtDbRing 0 j ||| v ∧
          (∀ k, k < 8 → k ≠ j → rd t .mgtDbRing 0 k = rd s .mgtDbRing 0 k)) ∧
      (WriteOpen s ag (Reg.off .mgtDbClear 0 j) →
        ∃ t, exec (.dbClear ag j v) s = .next t ∧ rd t .mgtDbRing 0 j = rd s .mgtDbRing 0 j &&& ~~~v ∧
          (∀ k, k < 8 → k ≠ j → rd t .mgtDbRing 0 k = rd s .mgtDbRing 0 k))) ∧
  (∀ (s : State) (ag : AgentId) (h : Nat) (v : BitVec 32), h < 32 → WriteOpen s ag (Reg.off .mgtHeadgate 0 h) →
      (v = 0 → ag ≠ 0 → gateHolder s h = ag →
        ∃ t, exec (.headgateRelease ag h v) s = .next t ∧ gateHolder t h = 0 ∧ gatePtr t h = gatePtr s h) ∧
      ((v ≠ 0 ∨ gateHolder s h ≠ ag) → s.mgt.log.length < auditSize →
        ∃ t, exec (.headgateRelease ag h v) s = .next t ∧ Audited s t 0x02 ag 6 (Reg.off .mgtHeadgate 0 h) v)) ∧
  (∀ (s : State) (ag : AgentId) (h : Nat), h < 32 → WriteOpen s ag (Reg.off .mgtHeadgateForce 0 0) →
      ((ag = 0x01 ∨ ag = 0x20) → gateHolder s h ≠ 0 →
        ∃ t, exec (.headgateForce ag h) s = .next t ∧ gateHolder t h = 0 ∧
          RaisedData s t 0x0E04 0x210 [.u16 h, .u16 (gateHolder s h).toNat, .u16 0]) ∧
      ((ag = 0x01 ∨ ag = 0x20) → gateHolder s h = 0 →
        ∃ t, exec (.headgateForce ag h) s = .next t ∧ t.mgt.gates = s.mgt.gates) ∧
      (ag ≠ 0x01 → ag ≠ 0x20 → s.mgt.log.length < auditSize →
        ∃ t, exec (.headgateForce ag h) s = .next t ∧
          Audited s t 0x02 ag 6 (Reg.off .mgtHeadgateForce 0 0) (BitVec.ofNat 32 (h + 256)))) ∧
  (∀ (s : State) (ag : AgentId) (m : Nat), m < 2 →
      (getF s .mgtMcStatus 0 m 0 3 = 2 →
        ∃ t, exec (.mcWatchdog m) s = .next t ∧ getF t .mgtMcStatus 0 m 0 3 = 3 ∧ getF t .mgtMcStatus 0 m 3 5 = 1 ∧
          RaisedData s t 0x0E01 0x210 [.u16 m, .u16 3, .u16 1]) ∧
      (getF s .mgtMcStatus 0 m 0 3 ≠ 2 → exec (.mcWatchdog m) s = .next s) ∧
      (WriteOpen s ag (Reg.off .mgtMcCmd 0 m) →
        ∃ t, exec (.mcRestart ag m) s = .next t ∧ getF t .mgtMcStatus 0 m 0 3 = 1 ∧ getF t .mgtMcStatus 0 m 3 5 = 0)) ∧
  (∀ (s : State) (m : Nat), m < 2 →
      (∀ q rest, getF s .mgtMcStatus 0 m 0 3 = 2 → (chan s m).queue = q :: rest →
        receiverOf s m = BitVec.ofNat 8 (0x20 + m) → bit (q.body.getD 0 0) 15 = false →
        ∃ t, exec (.mcRequest m) s = .next t ∧ (bank t (BitVec.ofNat 8 (0x20 + m))).tx = mcReplyWords s.free q.body ∧
          t.free = s.free + 1) ∧
      (∀ q rest, getF s .mgtMcStatus 0 m 0 3 = 2 → (chan s m).queue = q :: rest →
        receiverOf s m = BitVec.ofNat 8 (0x20 + m) → bit (q.body.getD 0 0) 15 = true →
        ∃ t, exec (.mcRequest m) s = .next t ∧ (chan t m).queue = rest ∧ t.free = s.free) ∧
      ((getF s .mgtMcStatus 0 m 0 3 ≠ 2 ∨ (chan s m).queue = [] ∨ receiverOf s m ≠ BitVec.ofNat 8 (0x20 + m)) →
        exec (.mcRequest m) s = .next s)) ∧
  (∀ (s : State),
      (auditDue s = true → fstate s 1 = 1 → queueRoom s 1 = true →
        ∃ t, exec .auditRecordTimer s = .next t ∧ (flume t 1).staged.length = (flume s 1).staged.length + 1 ∧
          t.mgt = s.mgt ∧ rd t .auditCopy 0 0 = rd s .auditCopy 0 0 + BitVec.ofNat 32 (min 32 (auditWaiting s).length)) ∧
      ((32 ≤ (auditWaiting s).length ∨ auditDue s = true) → fstate s 1 = 1 → queueRoom s 1 = true →
        ∃ t, exec .auditQueueRoom s = .next t ∧ (flume s 1).staged.length < (flume t 1).staged.length ∧ t.mgt = s.mgt) ∧
      ((auditDue s = false ∨ fstate s 1 ≠ 1 ∨ queueRoom s 1 = false) → exec .auditRecordTimer s = .next s) ∧
      (((auditDue s = false ∧ (auditWaiting s).length < 32) ∨ fstate s 1 ≠ 1 ∨ queueRoom s 1 = false) →
        exec .auditQueueRoom s = .next s))

/-- 17 R581, as HEADGATE_READ answers the first of the readers of one cycle. -/
def Obligations.HeadgateContest : Prop :=
  (∀ (s : State) (ag : AgentId) (h : Nat) (others : List AgentId), h < 32 → gateHolder s h = 0 →
      (∀ x ∈ ag :: others, opAgent x = true) → (ag :: others).Nodup →
      ∃ t w, exec (.headgateRead ag h others) s = .next t ∧ w ∈ ag :: others ∧ gateHolder t h = w ∧
        (∀ x ∈ ag :: others, (w.toNat + 256 - gatePtr s h) % 256 ≤ (x.toNat + 256 - gatePtr s h) % 256) ∧
        t.rdata = [if ag = w then 0 else BitVec.ofNat 32 w.toNat] ∧
        (others = [] → gatePtr t h = gatePtr s h ∧ ∀ k, k < 4 → rd t .mgtHeadgateContest 0 k = rd s .mgtHeadgateContest 0 k) ∧
        (others ≠ [] → gatePtr t h = (w.toNat + 1) % 256 ∧ getF t .mgtHeadgateContest 0 0 0 5 = h ∧
          getF t .mgtHeadgateContest 0 0 8 8 = w.toNat ∧ getF t .mgtHeadgateContest 0 0 24 8 = (w.toNat + 1) % 256) ∧
        (∀ k, k ≠ h → gateHolder t k = gateHolder s k ∧ gatePtr t k = gatePtr s k)) ∧
  (∀ (s : State) (ag : AgentId) (h : Nat) (others : List AgentId), gateHolder s h ≠ 0 →
      exec (.headgateRead ag h others) s = .next { s with rdata := [BitVec.ofNat 32 (gateHolder s h).toNat] }) ∧
  (∀ h, gatePtr State.reset h = 0)

/-- 12 R439 to R441, R445 to R448, R450, R456, DSP_CORE_BREAK; 13 R459. -/
def Obligations.CoreEventCommandsComplete : Prop :=
  (∀ (s u : State) (c n : Nat) (i : Item), c < 24 → n < 2 → takeDelivered (42 + c) n s = some (i, u) → i.payload ≠ [] →
      dspAccepts s c n i = true →
      ∃ t, exec (.dspInputItem c n) s = .next t ∧ t.plan = u.plan ∧ (dspIn t c n).items = (dspIn s c n).items ++
        [{ words := i.payload, started := false, failed := itemCrcBad i || i.check, long := isLong i, origin := i.origin }] ∧
        (itemCrcBad i = true →
          rd t .dspCoreCount c 7 = BitVec.ofNat 32 (satU 32 ((rd s .dspCoreCount c 7).toNat + 1)))) ∧
  (∀ (s u : State) (c n : Nat) (i : Item), c < 24 → n < 2 → takeDelivered (42 + c) n s = some (i, u) → i.payload ≠ [] →
      dspAccepts s c n i = false → exec (.dspInputItem c n) s = .next (if dspEntering s c n then s else refuseItem (42 + c) n s u)) ∧
  (∀ (s : State) (c n : Nat), takeDelivered (42 + c) n s = none → exec (.dspInputItem c n) s = .next s) ∧
  (∀ (s : State) (c k p : Nat), c < 24 → (ustate s (dspUnit c)).busy = true → (dspOf s c).exec = .executing →
      (dspOf s c).rept = none → dspTaken s c = some (k, p) →
      ∃ t, exec (.dspInterruptEntry c) s = .next t ∧ t = { s with dsp := t.dsp } ∧
        (dspOf t c).pc = BitVec.ofNat 15 (2 * k) ∧ (dspOf t c).ipl = p ∧ vget (dspOf t c).savePc (p - 1) 0 = (dspOf s c).pc ∧
        vget (dspOf t c).saveStat (p - 1) 0 = (dspOf s c).stat ∧ (dspOf t c).d = (dspOf s c).d ∧ (dspOf t c).a = (dspOf s c).a) ∧
  (∀ (s : State) (c : Nat), ((ustate s (dspUnit c)).busy = false ∨ (dspOf s c).exec ≠ .executing ∨ (dspOf s c).rept ≠ none ∨
      dspTaken s c = none) → exec (.dspInterruptEntry c) s = .next s) ∧
  (∀ (s : State) (c : Nat), c < 24 → (dspOf s c).timer ≠ 0 → dspTimer s c = 0 →
      ∃ t, exec (.dspTimerExpiry c) s = .next t ∧ (dspOf t c).timer = (dspOf s c).reload ∧
        (spGet t.ipend c 0).toNat.testBit 9 = true) ∧
  (∀ (s : State) (c : Nat), ((dspOf s c).timer = 0 ∨ dspTimer s c ≠ 0) → exec (.dspTimerExpiry c) s = .next s) ∧
  (∀ (s : State) (ag : AgentId) (c : Nat) (v : BitVec 32), c < 24 → WriteOpen s ag (Reg.off .dspCoreHostMsg c 0) →
      ∃ t, exec (.dspCoreHostMsg ag c v) s = .next t ∧ rd t .dspCoreHostMsg c 0 = v ∧
        (spGet t.ipend c 0).toNat.testBit 10 = true ∧ t.dsp = s.dsp) ∧
  (∀ (s : State) (c : Nat), c < 24 → (ustate s (dspUnit c)).busy = true → (dspOf s c).exec = .executing →
      atBreak s c = true →
      ∃ t, exec (.breakpointReached c) s = .next t ∧ (dspOf t c).exec = .stopped ∧ (dspOf t c).pc = (dspOf s c).pc ∧
        RaisedData s t 0x0A06 (dspUnit c) [.u16 (dspOf s c).pc.toNat]) ∧
  (∀ (s : State) (c : Nat), c < 24 → ((ustate s (dspUnit c)).busy = false ∨ (dspOf s c).exec ≠ .executing ∨ atBreak s c = false) →
      exec (.breakpointReached c) s = .next s) ∧
  (∀ (s : State) (ag : AgentId) (c ecc : Nat), c < 24 → WriteOpen s ag (Reg.off .dspCoreBreak c 0) → ecc < 3 →
      rd s .dspCoreBreak c 0 < 0x10000 → (ustate s (dspUnit c)).busy = true → (dspOf s c).exec = .stopped →
      dspDecode (pcWord s c) = some .nop → (dspOf s c).rept = none → (dspOf s c).loops = [] →
      ∃ t, exec (.breakStep ag c ecc) s = .next t ∧ (dspOf t c).exec = .stopped ∧ (dspOf t c).pc = (dspOf s c).pc + 1 ∧
        rd t .dspCoreBreak c 0 = rd s .dspCoreBreak c 0) ∧
  (∀ (s : State) (ag : AgentId) (c : Nat), c < 24 → WriteOpen s ag (Reg.off .dspCoreBreak c 0) →
      rd s .dspCoreBreak c 0 < 0x10000 → (ustate s (dspUnit c)).busy = true → (dspOf s c).exec = .stopped →
      ∃ t, exec (.breakResume ag c) s = .next t ∧ (dspOf t c).exec = .executing ∧ (dspOf t c).passBreak = true ∧
        (dspOf t c).pc = (dspOf s c).pc) ∧
  (∀ (s : State) (ag : AgentId) (c ecc : Nat), c < 24 → WriteOpen s ag (Reg.off .dspCoreBreak c 0) →
      ((ustate s (dspUnit c)).busy = false ∨ (dspOf s c).exec ≠ .stopped) →
      (∃ t, exec (.breakStep ag c ecc) s = .next t ∧ t.dsp = s.dsp) ∧
      (∃ t, exec (.breakResume ag c) s = .next t ∧ t.dsp = s.dsp)) ∧
  (∀ (s : State) (c ch d ecc : Nat) (g : PlanRegion), ch < 2 → ecc < 3 → DspAt s c (.wrs (0x25 + 8 * ch) d) →
      (dspOf s c).dw d = 1 → (dspDma s c ch).busy = false →
      ownedRegion s (dspUnit c) (fld (sysWord s c (0x21 + 8 * ch)) 0 16) = some g →
      dmaOffset s c ch % 4 = 0 → dmaOffset s c ch + 4 * dmaLen s c ch ≤ g.size → dmaLen s c ch ≤ 65536 →
      ∃ t, exec (.dmaStart c ch ecc) s = .next t ∧ (dspDma t c ch).busy = true ∧ (dspDma t c ch).status = 1 ∧
        (dspDma t c ch).len = dmaLen s c ch ∧ (dspDma t c ch).offset = dmaOffset s c ch ∧
        (dspOf t c).pc = (dspOf s c).pc + 1) ∧
  (∀ (s : State) (c ch d ecc : Nat), ch < 2 → ecc < 3 → DspAt s c (.wrs (0x25 + 8 * ch) d) →
      (dspOf s c).dw d = 1 → ((dspDma s c ch).busy = true ∨ dmaOffset s c ch % 4 ≠ 0 ∨ 65536 < dmaLen s c ch ∨
        ownedRegion s (dspUnit c) (fld (sysWord s c (0x21 + 8 * ch)) 0 16) = none) →
      ∃ t, exec (.dmaStart c ch ecc) s = .next t ∧ (dspDma t c ch).busy = (dspDma s c ch).busy ∧ (dspDma t c ch).status = 3 ∧
        (spGet t.ipend c 0).toNat.testBit (4 + ch) = true ∧ (dspOf t c).pc = (dspOf s c).pc + 1) ∧
  (∀ (s : State) (c ch d ecc : Nat), ch < 2 → ecc < 3 → DspAt s c (.wrs (0x25 + 8 * ch) d) →
      (dspOf s c).dw d = 2 → (dspDma s c ch).busy = true →
      ∃ t, exec (.dmaAbort c ch 0 ecc) s = .next t ∧ (dspDma t c ch).busy = false ∧ (dspDma t c ch).status = 5 ∧
        (spGet t.ipend c 0).toNat.testBit (4 + ch) = true ∧ t.dspX = s.dspX ∧ t.dspY = s.dspY ∧ t.hbm = s.hbm) ∧
  (∀ (s : State) (c ch n ecc : Nat), nextWrites s c (0x25 + 8 * ch) 1 = none → nextWrites s c (0x25 + 8 * ch) 2 = none →
      exec (.dmaStart c ch ecc) s = .next s ∧ exec (.dmaAbort c ch n ecc) s = .next s) ∧
  (∀ (s : State) (c ch : Nat) (g : PlanRegion), c < 24 → ch < 2 → (dspDma s c ch).busy = true → dmaWaits s c ch = false →
      ownedRegion s (dspUnit c) (fld (dspDma s c ch).region 0 16) = some g →
      rangeFrozen s (g.base + (dspDma s c ch).offset) (4 * (dspDma s c ch).len) = false →
      ∃ t, exec (.dmaDone c ch none 0 []) s = .next t ∧ (dspDma t c ch).busy = false ∧ (dspDma t c ch).status = 2 ∧
        (dspDma t c ch).done = (dspDma s c ch).len ∧ (spGet t.ipend c 0).toNat.testBit (4 + ch) = true) ∧
  (∀ (s : State) (c ch soft : Nat) (errs : List HbmErr), c < 24 → ch < 2 → (dspDma s c ch).busy = true →
      dmaWaits s c ch = false →
      ∃ t, exec (.dmaDone c ch (some 0) soft errs) s = .next t ∧ (dspDma t c ch).busy = false ∧
        (dspDma t c ch).status = 4 ∧ (spGet t.ipend c 0).toNat.testBit (4 + ch) = true ∧
        RaisedData s t 0x0A05 (dspUnit c) [.u16 ch, .u16 4]) ∧
  (∀ (s : State) (c ch soft : Nat) (fail : Option Nat) (errs : List HbmErr),
      ((dspDma s c ch).busy = false ∨ dmaWaits s c ch = true) → exec (.dmaDone c ch fail soft errs) s = .next s) ∧
  (∀ (s : State) (c : Nat) (w refused : Bool) (data : Word), c < 24 → (dspOf s c).bus = .answered w refused data →
      ∃ t, exec (.busAccessDone c) s = .next t ∧ (dspOf t c).bus = .idle ∧
        sysWord t c 0x33 = BitVec.ofNat 32 (b2n refused) ∧
        sysWord t c 0x31 = (if w || refused then sysWord s c 0x31 else data)) ∧
  (∀ (s : State) (c : Nat), (dspOf s c).bus = .idle → exec (.busAccessDone c) s = .next s) ∧
  (∀ (s : State) (c : Nat), canGo s c = true → dspDecode (pcWord s c) = none →
      ∃ t, exec (.reservedEncoding c) s = .next t ∧ ustate t (dspUnit c) = .fault ∧ (unit t (dspUnit c)).cause = 1 ∧
        RaisedData s t 0x0A01 (dspUnit c) [.u16 1, .u16 (dspOf s c).pc.toNat]) ∧
  (∀ (s : State) (c : Nat), (canGo s c = false ∨ dspDecode (pcWord s c) ≠ none) → exec (.reservedEncoding c) s = .next s)

/-- 12 R455, with R451 for what START does. -/
def Obligations.ClusterStart : Prop :=
  ∀ (s : State) (ag : AgentId) (v : BitVec 32), WriteOpen s ag (Reg.off .dspClStart 0 0) →
      ∃ t, exec (.dspClStart ag v) s = .next t ∧ ∀ c, c < 24 →
        (bit v c = true → ustate s (dspUnit c) = .ready →
          ustate t (dspUnit c) = .running ∧ (dspOf t c).exec = .executing ∧
          (dspOf t c).pc = BitVec.ofNat 15 (getF s .dspCoreEntry c 0 0 15)) ∧
        (bit v c = true → ustate s (dspUnit c) ≠ .ready →
          unit t (dspUnit c) = unit s (dspUnit c) ∧ dspOf t c = dspOf s c ∧ getB t .dspClStatus 0 1 c = true) ∧
        (bit v c = false → unit t (dspUnit c) = unit s (dspUnit c) ∧ dspOf t c = dspOf s c)

/-- 12 R449. -/
def Obligations.StackFaults : Prop :=
  (∀ (s : State) (c cc a ecc : Nat), ecc < 3 → DspAt s c (.call cc a) → condHolds (dspOf s c) cc = true →
      16 ≤ (dspOf s c).rets.length →
      ∃ t, exec (.dspCall c cc a ecc) s = .next t ∧ ustate t (dspUnit c) = .fault ∧ (unit t (dspUnit c)).cause = 2) ∧
  (∀ (s : State) (c ecc : Nat), ecc < 3 → DspAt s c .ret → (dspOf s c).rets = [] →
      ∃ t, exec (.dspRet c ecc) s = .next t ∧ ustate t (dspUnit c) = .fault ∧ (unit t (dspUnit c)).cause = 2) ∧
  (∀ (s : State) (c ecc : Nat), ecc < 3 → DspAt s c .reti → (dspOf s c).ipl = 0 →
      ∃ t, exec (.dspReti c ecc) s = .next t ∧ ustate t (dspUnit c) = .fault ∧ (unit t (dspUnit c)).cause = 2) ∧
  (∀ (s : State) (c : Nat), ∃ t, exec (.dspInterruptEntry c) s = .next t ∧ t.units = s.units)

/-- 12 R429, R434, R435, R456; 13 R459, R467; shown for NOP and ADD where the rule holds for every instruction. -/
def Obligations.CoreIssueAndFaults : Prop :=
  (∀ (s : State) (c ecc : Nat), (canGo s c = false ∨ dspDecode (pcWord s c) ≠ some .nop) →
      exec (.dspNop c ecc) s = .next s) ∧
  (∀ (s : State) (c d a b ecc : Nat), (canGo s c = false ∨ dspDecode (pcWord s c) ≠ some (.alu .add d a b 0 0)) →
      exec (.dspAdd c d a b ecc) s = .next s) ∧
  (∀ (s : State) (c : Nat), DspAt s c .nop →
      ∃ t, exec (.dspNop c 1) s = .next t ∧ DspSeq s t c ∧
        rd t .dspCoreCount c 2 = BitVec.ofNat 32 (satU 32 ((rd s .dspCoreCount c 2).toNat + 1))) ∧
  (∀ (s : State) (c : Nat), DspAt s c .nop →
      ∃ t, exec (.dspNop c 2) s = .next t ∧ DspSeq s t c ∧
        rd t .globalFaultCount 0 0 = BitVec.ofNat 32 (satU 32 ((rd s .globalFaultCount 0 0).toNat + 1))) ∧
  (∀ (s : State) (c d a b ecc : Nat), 3 ≤ ecc → DspAt s c (.alu .add d a b 0 0) →
      ∃ t, exec (.dspAdd c d a b ecc) s = .next t ∧ ustate t (dspUnit c) = .fault ∧ (unit t (dspUnit c)).cause = 4 ∧
        (dspOf t c).d = (dspOf s c).d ∧ (dspOf t c).pc = (dspOf s c).pc ∧
        RaisedData s t 0x0A01 (dspUnit c) [.u16 4, .u16 (dspOf s c).pc.toNat] ∧
        RaisedData s t 0x0E12 0x210 [.u16 7, .u16 (dspUnit c), .u32 2]) ∧
  (∀ (s : State) (c k len ecc : Nat) (reg : Bool), ecc < 3 → DspAt s c (.loop reg k len) → 4 ≤ (dspOf s c).loops.length →
      ∃ t, exec (.dspLoop c reg k len ecc) s = .next t ∧ ustate t (dspUnit c) = .fault ∧ (unit t (dspUnit c)).cause = 3 ∧
        (dspOf t c).loops = (dspOf s c).loops ∧ RaisedData s t 0x0A01 (dspUnit c) [.u16 3, .u16 (dspOf s c).pc.toNat]) ∧
  (∀ (s : State) (c ecc : Nat), ecc < 3 → DspAt s c .leave → (dspOf s c).loops = [] →
      ∃ t, exec (.dspLeave c ecc) s = .next t ∧ ustate t (dspUnit c) = .fault ∧ (unit t (dspUnit c)).cause = 3 ∧
        RaisedData s t 0x0A01 (dspUnit c) [.u16 3, .u16 (dspOf s c).pc.toNat]) ∧
  (∀ (s : State) (c k ecc : Nat) (reg : Bool), ecc < 3 → DspAt s c (.rept reg k) →
      (dspDecode (dspP s c ((dspOf s c).pc.toNat + 1))).any (fun op => op.isFlow) = true →
      ∃ t, exec (.dspRep c reg k ecc) s = .next t ∧ ustate t (dspUnit c) = .fault ∧ (unit t (dspUnit c)).cause = 1 ∧
        RaisedData s t 0x0A01 (dspUnit c) [.u16 1, .u16 (dspOf s c).pc.toNat]) ∧
  (∀ (s : State) (c cc a ecc : Nat) (e : LoopEnt) (r : List LoopEnt), ecc < 3 → canGo s c = true →
      dspDecode (pcWord s c) = some (.br cc a) → (dspOf s c).loops = e :: r → e.last = (dspOf s c).pc →
      ∃ t, exec (.dspBr c cc a ecc) s = .next t ∧ ustate t (dspUnit c) = .fault ∧ (unit t (dspUnit c)).cause = 1 ∧
        (dspOf t c).pc = (dspOf s c).pc ∧ RaisedData s t 0x0A01 (dspUnit c) [.u16 1, .u16 (dspOf s c).pc.toNat])

/-- 12 R434, R435, R448, R452 and 13 R464 to R468. -/
def Obligations.CoreControlCommandsComplete : Prop :=
  (∀ (s : State) (c ecc : Nat), ecc < 3 → DspAt s c .nop →
      ∃ t, exec (.dspNop c ecc) s = .next t ∧ DspSeq s t c ∧ (dspOf t c).d = (dspOf s c).d ∧ (dspOf t c).a = (dspOf s c).a ∧
        (dspOf t c).p = (dspOf s c).p ∧ (dspOf t c).stat = (dspOf s c).stat) ∧
  (∀ (s : State) (c ecc : Nat), ecc < 3 → DspAt s c .halt →
      ∃ t, exec (.dspHalt c ecc) s = .next t ∧ (dspOf t c).exec = .halted ∧ (dspOf t c).pc = (dspOf s c).pc ∧
        Raised s t 0x0A02 (dspUnit c) ∧ t.units = s.units) ∧
  (∀ (s : State) (c ecc : Nat) (a : BitVec 15) (r : List (BitVec 15)), ecc < 3 → DspAt s c .ret →
      (dspOf s c).rets = a :: r →
      ∃ t, exec (.dspRet c ecc) s = .next t ∧ DspFrame s t c ∧ (dspOf t c).pc = a ∧ (dspOf t c).rets = r) ∧
  (∀ (s : State) (c ecc : Nat), ecc < 3 → DspAt s c .reti → (dspOf s c).ipl ≠ 0 →
      ∃ t, exec (.dspReti c ecc) s = .next t ∧ DspFrame s t c ∧
        (dspOf t c).pc = vget (dspOf s c).savePc ((dspOf s c).ipl - 1) 0 ∧
        (∀ i, i < 32 → i ≠ 5 → i ≠ 6 → statB (dspOf t c) i = bit (vget (dspOf s c).saveStat ((dspOf s c).ipl - 1) 0) i) ∧
        (∀ i, i = 5 ∨ i = 6 → statB (dspOf t c) i =
          (bit (vget (dspOf s c).saveStat ((dspOf s c).ipl - 1) 0) i || statB (dspOf s c) i))) ∧
  (∀ (s : State) (c ecc : Nat) (e : LoopEnt) (r : List LoopEnt), ecc < 3 → DspAt s c .leave → (dspOf s c).loops = e :: r →
      ∃ t, exec (.dspLeave c ecc) s = .next t ∧ DspFrame s t c ∧ (dspOf t c).loops = r ∧
        (dspOf t c).pc = (dspOf s c).pc + 1) ∧
  (∀ (s : State) (c ecc : Nat), ecc < 3 → DspAt s c .wait →
      ∃ t, exec (.dspWait c ecc) s = .next t ∧ DspSeq s t c ∧ (dspOf t c).waiting = true ∧ (dspOf t c).d = (dspOf s c).d) ∧
  (∀ (s : State) (c f o ecc : Nat), ecc < 3 → DspAt s c (.tflg f o) →
      ∃ t, exec (.dspTflg c f o ecc) s = .next t ∧ dspFlag t c f = (o == 1) ∧ (dspOf t c).pc = (dspOf s c).pc + 1) ∧
  (∀ (s : State) (c cc p ecc : Nat), ecc < 3 → DspAt s c (.bri cc p) →
      ∃ t, exec (.dspBri c cc p ecc) s = .next t ∧ DspFrame s t c ∧ (dspOf t c).rets = (dspOf s c).rets ∧
        (dspOf t c).pc = (if condHolds (dspOf s c) cc then BitVec.ofNat 15 ((dspOf s c).pn p) else (dspOf s c).pc + 1)) ∧
  (∀ (s : State) (c cc a ecc : Nat), ecc < 3 → DspAt s c (.br cc a) →
      ∃ t, exec (.dspBr c cc a ecc) s = .next t ∧ DspFrame s t c ∧ (dspOf t c).rets = (dspOf s c).rets ∧
        (dspOf t c).pc = (if condHolds (dspOf s c) cc then BitVec.ofNat 15 a else (dspOf s c).pc + 1)) ∧
  (∀ (s : State) (c cc a ecc : Nat), ecc < 3 → DspAt s c (.call cc a) → (dspOf s c).rets.length < 16 →
      ∃ t, exec (.dspCall c cc a ecc) s = .next t ∧ DspFrame s t c ∧
        (condHolds (dspOf s c) cc = true →
          (dspOf t c).pc = BitVec.ofNat 15 a ∧ (dspOf t c).rets = ((dspOf s c).pc + 1) :: (dspOf s c).rets) ∧
        (condHolds (dspOf s c) cc = false →
          (dspOf t c).pc = (dspOf s c).pc + 1 ∧ (dspOf t c).rets = (dspOf s c).rets)) ∧
  (∀ (s : State) (c k len ecc : Nat) (reg : Bool), ecc < 3 → DspAt s c (.loop reg k len) → (dspOf s c).loops.length < 4 →
      ∃ t, exec (.dspLoop c reg k len ecc) s = .next t ∧ DspFrame s t c ∧
        (loopCount (dspOf s c) reg k = 0 →
          (dspOf t c).pc = (dspOf s c).pc + 1 + BitVec.ofNat 15 len ∧ (dspOf t c).loops = (dspOf s c).loops) ∧
        (loopCount (dspOf s c) reg k ≠ 0 → (dspOf t c).pc = (dspOf s c).pc + 1 ∧
          (dspOf t c).loops = { first := (dspOf s c).pc + 1, last := (dspOf s c).pc + BitVec.ofNat 15 len,
                                count := loopCount (dspOf s c) reg k } :: (dspOf s c).loops)) ∧
  (∀ (s : State) (c k ecc : Nat) (reg : Bool), ecc < 3 → DspAt s c (.rept reg k) →
      (dspDecode (dspP s c ((dspOf s c).pc.toNat + 1))).any (fun op => op.isFlow) = false →
      ∃ t, exec (.dspRep c reg k ecc) s = .next t ∧ DspFrame s t c ∧
        (loopCount (dspOf s c) reg k = 0 → (dspOf t c).pc = (dspOf s c).pc + 2 ∧ (dspOf t c).rept = none) ∧
        (loopCount (dspOf s c) reg k ≠ 0 → (dspOf t c).pc = (dspOf s c).pc + 1 ∧
          (dspOf t c).rept = some (loopCount (dspOf s c) reg k, true)))

/-- 12 R434, R435 and 13 R467, shown for NOP as the repeated or last instruction. -/
def Obligations.CoreLoopsAndRepeats : Prop :=
  (∀ (s : State) (c ecc k : Nat) (b : Bool), ecc < 3 → canGo s c = true → dspDecode (pcWord s c) = some .nop →
      (dspOf s c).rept = some (k, b) → 1 < k →
      ∃ t, exec (.dspNop c ecc) s = .next t ∧ (dspOf t c).pc = (dspOf s c).pc ∧ (dspOf t c).rept = some (k - 1, false) ∧
        (dspOf t c).loops = (dspOf s c).loops) ∧
  (∀ (s : State) (c ecc : Nat) (b : Bool), ecc < 3 → canGo s c = true → dspDecode (pcWord s c) = some .nop →
      (dspOf s c).rept = some (1, b) → (∀ e ∈ (dspOf s c).loops, e.last ≠ (dspOf s c).pc) →
      ∃ t, exec (.dspNop c ecc) s = .next t ∧ (dspOf t c).pc = (dspOf s c).pc + 1 ∧ (dspOf t c).rept = none) ∧
  (∀ (s : State) (c ecc : Nat) (e : LoopEnt) (r : List LoopEnt), ecc < 3 → canGo s c = true →
      dspDecode (pcWord s c) = some .nop → (dspOf s c).rept = none → (dspOf s c).loops = e :: r →
      e.last = (dspOf s c).pc → 1 < e.count →
      ∃ t, exec (.dspNop c ecc) s = .next t ∧ (dspOf t c).pc = e.first ∧
        (dspOf t c).loops = { e with count := e.count - 1 } :: r) ∧
  (∀ (s : State) (c ecc : Nat) (e f : LoopEnt) (r : List LoopEnt), ecc < 3 → canGo s c = true →
      dspDecode (pcWord s c) = some .nop → (dspOf s c).rept = none → (dspOf s c).loops = e :: f :: r →
      e.last = (dspOf s c).pc → e.count = 1 → f.last = (dspOf s c).pc → 1 < f.count →
      ∃ t, exec (.dspNop c ecc) s = .next t ∧ (dspOf t c).pc = f.first ∧
        (dspOf t c).loops = { f with count := f.count - 1 } :: r) ∧
  (∀ (s : State) (c ecc : Nat) (e : LoopEnt), ecc < 3 → canGo s c = true → dspDecode (pcWord s c) = some .nop →
      (dspOf s c).rept = none → (dspOf s c).loops = [e] → e.last = (dspOf s c).pc → e.count = 1 →
      ∃ t, exec (.dspNop c ecc) s = .next t ∧ (dspOf t c).pc = (dspOf s c).pc + 1 ∧ (dspOf t c).loops = [])

/-- 13 R463, R469, R470. -/
def Obligations.CoreDataAluCommandsComplete : Prop :=
  (∀ (s : State) (c r imm ecc : Nat) (h : Bool), ecc < 3 → DspAt s c (.ldi 0 h r imm) →
      ∃ t, exec (.dspLdi c 0 h r imm ecc) s = .next t ∧ DspSeq s t c ∧ (dspOf t c).stat = (dspOf s c).stat ∧
        (dspOf t c).dw r = (if h then BitVec.ofNat 32 (imm * 2 ^ 16 + ((dspOf s c).dw r).toNat % 2 ^ 16)
          else BitVec.ofInt 32 (sgn 16 imm)) ∧
        (∀ k, k ≠ r → (dspOf t c).dw k = (dspOf s c).dw k) ∧ (dspOf t c).p = (dspOf s c).p) ∧
  (∀ (s : State) (c file r imm ecc : Nat), ecc < 3 → DspAt s c (.ldi file false r imm) → 1 ≤ file →
      ∃ t, exec (.dspLdi c file false r imm ecc) s = .next t ∧ DspSeq s t c ∧ (dspOf t c).stat = (dspOf s c).stat ∧
        (dspOf t c).d = (dspOf s c).d ∧ (file = 1 → (dspOf t c).pn r = imm) ∧
        (file = 2 → vget (dspOf t c).m r 0 = BitVec.ofNat 16 imm) ∧ (file = 3 → (dspOf t c).ln r = imm)) ∧
  (∀ (s : State) (c d a b ecc : Nat), ecc < 3 → DspAt s c (.alu .add d a b 0 0) →
      ∃ t, exec (.dspAdd c d a b ecc) s = .next t ∧ AluDone s t c d ((dspOf s c).dw a + (dspOf s c).dw b)
        (decide (2 ^ 32 ≤ ((dspOf s c).dw a).toNat + ((dspOf s c).dw b).toNat)) (out32 ((dspOf s c).ds a + (dspOf s c).ds b))
        false) ∧
  (∀ (s : State) (c d a b ecc : Nat), ecc < 3 → DspAt s c (.alu .sub d a b 0 0) →
      ∃ t, exec (.dspSub c d a b ecc) s = .next t ∧ AluDone s t c d ((dspOf s c).dw a - (dspOf s c).dw b)
        (decide (((dspOf s c).dw b).toNat ≤ ((dspOf s c).dw a).toNat)) (out32 ((dspOf s c).ds a - (dspOf s c).ds b)) false) ∧
  (∀ (s : State) (c d a b ecc : Nat), ecc < 3 → DspAt s c (.alu .adds d a b 0 0) →
      ∃ t, exec (.dspAdds c d a b ecc) s = .next t ∧ AluDone s t c d (BitVec.ofInt 32 (clamp32 ((dspOf s c).ds a + (dspOf s c).ds b)))
        (decide (2 ^ 32 ≤ ((dspOf s c).dw a).toNat + ((dspOf s c).dw b).toNat)) (out32 ((dspOf s c).ds a + (dspOf s c).ds b))
        (out32 ((dspOf s c).ds a + (dspOf s c).ds b))) ∧
  (∀ (s : State) (c d a b ecc : Nat), ecc < 3 → DspAt s c (.alu .subs d a b 0 0) →
      ∃ t, exec (.dspSubs c d a b ecc) s = .next t ∧ AluDone s t c d (BitVec.ofInt 32 (clamp32 ((dspOf s c).ds a - (dspOf s c).ds b)))
        (decide (((dspOf s c).dw b).toNat ≤ ((dspOf s c).dw a).toNat)) (out32 ((dspOf s c).ds a - (dspOf s c).ds b))
        (out32 ((dspOf s c).ds a - (dspOf s c).ds b))) ∧
  (∀ (s : State) (c d a b ecc : Nat), ecc < 3 → DspAt s c (.alu .and d a b 0 0) →
      ∃ t, exec (.dspAnd c d a b ecc) s = .next t ∧
        AluDone s t c d ((dspOf s c).dw a &&& (dspOf s c).dw b) false false false) ∧
  (∀ (s : State) (c d a b ecc : Nat), ecc < 3 → DspAt s c (.alu .or d a b 0 0) →
      ∃ t, exec (.dspOr c d a b ecc) s = .next t ∧
        AluDone s t c d ((dspOf s c).dw a ||| (dspOf s c).dw b) false false false) ∧
  (∀ (s : State) (c d a b ecc : Nat), ecc < 3 → DspAt s c (.alu .xor d a b 0 0) →
      ∃ t, exec (.dspXor c d a b ecc) s = .next t ∧
        AluDone s t c d ((dspOf s c).dw a ^^^ (dspOf s c).dw b) false false false) ∧
  (∀ (s : State) (c d a ecc : Nat), ecc < 3 → DspAt s c (.alu .not d a 0 0 0) →
      ∃ t, exec (.dspNot c d a ecc) s = .next t ∧ AluDone s t c d (~~~(dspOf s c).dw a) false false false) ∧
  (∀ (s : State) (c d a ecc : Nat), ecc < 3 → DspAt s c (.alu .neg d a 0 0 0) →
      ∃ t, exec (.dspNeg c d a ecc) s = .next t ∧ AluDone s t c d (BitVec.ofInt 32 (clamp32 (-(dspOf s c).ds a))) false
        ((dspOf s c).ds a == -2147483648) ((dspOf s c).ds a == -2147483648)) ∧
  (∀ (s : State) (c d a ecc : Nat), ecc < 3 → DspAt s c (.alu .abs d a 0 0 0) →
      ∃ t, exec (.dspAbs c d a ecc) s = .next t ∧ AluDone s t c d (BitVec.ofInt 32 (clamp32 ((dspOf s c).ds a).natAbs)) false
        ((dspOf s c).ds a == -2147483648) ((dspOf s c).ds a == -2147483648)) ∧
  (∀ (s : State) (c a b ecc : Nat), ecc < 3 → DspAt s c (.alu .cmp 0 a b 0 0) →
      ∃ t, exec (.dspCmp c a b ecc) s = .next t ∧ AluDone s t c 8 ((dspOf s c).dw a - (dspOf s c).dw b)
        (decide (((dspOf s c).dw b).toNat ≤ ((dspOf s c).dw a).toNat)) (out32 ((dspOf s c).ds a - (dspOf s c).ds b)) false) ∧
  (∀ (s : State) (c d a sh ecc : Nat), ecc < 3 → DspAt s c (.alu .asl d a 0 sh 0) →
      ∃ t, exec (.dspAsl c d a sh ecc) s = .next t ∧ AluDone s t c d ((dspOf s c).dw a <<< sh)
        (decide (0 < sh) && ((dspOf s c).dw a).toNat.testBit (32 - sh)) (out32 ((dspOf s c).ds a * 2 ^ sh)) false) ∧
  (∀ (s : State) (c d a sh ecc : Nat), ecc < 3 → DspAt s c (.alu .asr d a 0 sh 0) →
      ∃ t, exec (.dspAsr c d a sh ecc) s = .next t ∧ AluDone s t c d (((dspOf s c).dw a).sshiftRight sh)
        (decide (0 < sh) && ((dspOf s c).dw a).toNat.testBit (sh - 1)) false false) ∧
  (∀ (s : State) (c d a sh ecc : Nat), ecc < 3 → DspAt s c (.alu .lsr d a 0 sh 0) →
      ∃ t, exec (.dspLsr c d a sh ecc) s = .next t ∧ AluDone s t c d ((dspOf s c).dw a >>> sh)
        (decide (0 < sh) && ((dspOf s c).dw a).toNat.testBit (sh - 1)) false false) ∧
  (∀ (s : State) (c d a b ecc : Nat), ecc < 3 → DspAt s c (.alu .min d a b 0 0) →
      ∃ t, exec (.dspMin c d a b ecc) s = .next t ∧
        AluDone s t c d (BitVec.ofInt 32 (min ((dspOf s c).ds a) ((dspOf s c).ds b))) false false false) ∧
  (∀ (s : State) (c d a b ecc : Nat), ecc < 3 → DspAt s c (.alu .max d a b 0 0) →
      ∃ t, exec (.dspMax c d a b ecc) s = .next t ∧
        AluDone s t c d (BitVec.ofInt 32 (max ((dspOf s c).ds a) ((dspOf s c).ds b))) false false false) ∧
  (∀ (s : State) (c d a imm ecc : Nat), ecc < 3 → DspAt s c (.alu .addi d a 0 imm 0) →
      ∃ t, exec (.dspAddi c d a imm ecc) s = .next t ∧ AluDone s t c d ((dspOf s c).dw a + BitVec.ofInt 32 (sgn 9 imm))
        (decide (2 ^ 32 ≤ ((dspOf s c).dw a).toNat + (BitVec.ofInt 32 (sgn 9 imm)).toNat))
        (out32 ((dspOf s c).ds a + sgn 9 imm)) false) ∧
  (∀ (s : State) (c a imm ecc : Nat), ecc < 3 → DspAt s c (.alu .cmpi 0 a 0 imm 0) →
      ∃ t, exec (.dspCmpi c a imm ecc) s = .next t ∧ AluDone s t c 8 ((dspOf s c).dw a - BitVec.ofInt 32 (sgn 9 imm))
        (decide ((BitVec.ofInt 32 (sgn 9 imm)).toNat ≤ ((dspOf s c).dw a).toNat)) (out32 ((dspOf s c).ds a - sgn 9 imm)) false)

/-- 13 R463, R470. -/
def Obligations.CoreLaneCommandsComplete : Prop :=
  (∀ (s : State) (c d a b ecc : Nat), ecc < 3 → DspAt s c (.alu .add2 d a b 0 0) →
      ∃ t, exec (.dspAdd2 c d a b ecc) s = .next t ∧
        LaneDone s t c d (fun x y => BitVec.ofInt 16 (x + y)) ((dspOf s c).dw a) ((dspOf s c).dw b)) ∧
  (∀ (s : State) (c d a b ecc : Nat), ecc < 3 → DspAt s c (.alu .sub2 d a b 0 0) →
      ∃ t, exec (.dspSub2 c d a b ecc) s = .next t ∧
        LaneDone s t c d (fun x y => BitVec.ofInt 16 (x - y)) ((dspOf s c).dw a) ((dspOf s c).dw b)) ∧
  (∀ (s : State) (c d a b ecc : Nat), ecc < 3 → DspAt s c (.alu .add2h d a b 0 0) →
      ∃ t, exec (.dspAdd2h c d a b ecc) s = .next t ∧
        LaneDone s t c d (fun x y => BitVec.ofInt 16 ((x + y) / 2)) ((dspOf s c).dw a) ((dspOf s c).dw b)) ∧
  (∀ (s : State) (c d a b ecc : Nat), ecc < 3 → DspAt s c (.alu .sub2h d a b 0 0) →
      ∃ t, exec (.dspSub2h c d a b ecc) s = .next t ∧
        LaneDone s t c d (fun x y => BitVec.ofInt 16 ((x - y) / 2)) ((dspOf s c).dw a) ((dspOf s c).dw b)) ∧
  (∀ (s : State) (c d e a b ecc : Nat), ecc < 3 → DspAt s c (.alu .bfly d a b 0 e) →
      ∃ t, exec (.dspBfly c d e a b ecc) s = .next t ∧ DspSeq s t c ∧
        (∀ i, i < 2 → lane ((dspOf t c).dw d) i =
          clamp16 (lane ((dspOf s c).dw a) i + lane ((dspOf s c).dw b) i)) ∧
        (∀ i, i < 2 → lane ((dspOf t c).dw e) i =
          clamp16 (lane ((dspOf s c).dw a) i - lane ((dspOf s c).dw b) i)) ∧
        (∀ k, k ≠ d → k ≠ e → (dspOf t c).dw k = (dspOf s c).dw k) ∧
        (statB (dspOf t c) 5 = true ↔ statB (dspOf s c) 5 = true ∨ ∃ i, i < 2 ∧
          (out16 (lane ((dspOf s c).dw a) i + lane ((dspOf s c).dw b) i) = true ∨
            out16 (lane ((dspOf s c).dw a) i - lane ((dspOf s c).dw b) i) = true))) ∧
  (∀ (s : State) (c d e a b ecc : Nat), ecc < 3 → DspAt s c (.alu .bflyh d a b 0 e) →
      ∃ t, exec (.dspBflyh c d e a b ecc) s = .next t ∧ DspSeq s t c ∧
        (∀ i, i < 2 → lane ((dspOf t c).dw d) i = (lane ((dspOf s c).dw a) i + lane ((dspOf s c).dw b) i) / 2) ∧
        (∀ i, i < 2 → lane ((dspOf t c).dw e) i = (lane ((dspOf s c).dw a) i - lane ((dspOf s c).dw b) i) / 2) ∧
        (∀ k, k ≠ d → k ≠ e → (dspOf t c).dw k = (dspOf s c).dw k) ∧ statB (dspOf t c) 5 = statB (dspOf s c) 5)

/-- 12 R431 and 13 R471. -/
def Obligations.CoreAccumulatorCommandsComplete : Prop :=
  (∀ (s : State) (c k j a b sh ecc : Nat), ecc < 3 → DspAt s c (.acc .clr k j a b sh) →
      ∃ t, exec (.dspClr c k j a b sh ecc) s = .next t ∧ AccDone s t c k 0 false) ∧
  (∀ (s : State) (c k j a b sh ecc : Nat), ecc < 3 → DspAt s c (.acc .adda k j a b sh) →
      ∃ t, exec (.dspAdda c k j a b sh ecc) s = .next t ∧ AccDone s t c k ((dspOf s c).av k + (dspOf s c).av j) false) ∧
  (∀ (s : State) (c k j a b sh ecc : Nat), ecc < 3 → DspAt s c (.acc .suba k j a b sh) →
      ∃ t, exec (.dspSuba c k j a b sh ecc) s = .next t ∧ AccDone s t c k ((dspOf s c).av k - (dspOf s c).av j) false) ∧
  (∀ (s : State) (c k j a b sh ecc : Nat), ecc < 3 → DspAt s c (.acc .tfra k j a b sh) →
      ∃ t, exec (.dspTfra c k j a b sh ecc) s = .next t ∧ AccDone s t c k ((dspOf s c).av j) false) ∧
  (∀ (s : State) (c k j a b sh ecc : Nat), ecc < 3 → DspAt s c (.acc .nega k j a b sh) →
      ∃ t, exec (.dspNega c k j a b sh ecc) s = .next t ∧ AccDone s t c k (-(dspOf s c).av j) false) ∧
  (∀ (s : State) (c k j a b sh ecc : Nat), ecc < 3 → DspAt s c (.acc .absa k j a b sh) →
      ∃ t, exec (.dspAbsa c k j a b sh ecc) s = .next t ∧ AccDone s t c k ((dspOf s c).av j).natAbs false) ∧
  (∀ (s : State) (c k j a b sh ecc : Nat), ecc < 3 → DspAt s c (.acc .asla k j a b sh) →
      ∃ t, exec (.dspAsla c k j a b sh ecc) s = .next t ∧ AccDone s t c k ((dspOf s c).av j * 2 ^ sh) false) ∧
  (∀ (s : State) (c k j a b sh ecc : Nat), ecc < 3 → DspAt s c (.acc .asra k j a b sh) →
      ∃ t, exec (.dspAsra c k j a b sh ecc) s = .next t ∧ AccDone s t c k ((dspOf s c).av j / 2 ^ sh) false) ∧
  (∀ (s : State) (c k j a b sh ecc : Nat), ecc < 3 → DspAt s c (.acc .addd k j a b sh) →
      ∃ t, exec (.dspAddd c k j a b sh ecc) s = .next t ∧
        AccDone s t c k ((dspOf s c).av k + (dspOf s c).ds a * 2 ^ 32) false) ∧
  (∀ (s : State) (c k j a b sh ecc : Nat), ecc < 3 → DspAt s c (.acc .subd k j a b sh) →
      ∃ t, exec (.dspSubd c k j a b sh ecc) s = .next t ∧
        AccDone s t c k ((dspOf s c).av k - (dspOf s c).ds a * 2 ^ 32) false) ∧
  (∀ (s : State) (c k j a b sh ecc : Nat), ecc < 3 → DspAt s c (.acc .sata k j a b sh) →
      ∃ t, exec (.dspSata c k j a b sh ecc) s = .next t ∧
        AccDone s t c k (max (-2 ^ 63) (min (2 ^ 63 - 1) ((dspOf s c).av j)))
          (decide ((dspOf s c).av j < -2 ^ 63 ∨ 2 ^ 63 ≤ (dspOf s c).av j))) ∧
  (∀ (s : State) (c k j a b sh ecc : Nat), ecc < 3 → DspAt s c (.acc .cmpa k j a b sh) →
      ∃ t, exec (.dspCmpa c k j a b sh ecc) s = .next t ∧ DspSeq s t c ∧ (dspOf t c).a = (dspOf s c).a ∧
        (dspOf t c).d = (dspOf s c).d ∧ AccFlags (dspOf t c) (BitVec.ofInt 72 ((dspOf s c).av k - (dspOf s c).av j)) ∧
        (∀ i, i ≠ 2 → i ≠ 3 → i ≠ 4 → statB (dspOf t c) i = statB (dspOf s c) i)) ∧
  (∀ (s : State) (c k j a b sh ecc : Nat), ecc < 3 → DspAt s c (.acc .mpyi k j a b sh) →
      ∃ t, exec (.dspMpyi c k j a b sh ecc) s = .next t ∧ AccDone s t c k ((dspOf s c).ds a * (dspOf s c).ds b) false) ∧
  (∀ (s : State) (c k j a b sh ecc : Nat), ecc < 3 → DspAt s c (.acc .maci k j a b sh) →
      ∃ t, exec (.dspMaci c k j a b sh ecc) s = .next t ∧
        AccDone s t c k ((dspOf s c).av k + (dspOf s c).ds a * (dspOf s c).ds b) false)

/-- 12 R431; 13 R461, R462, R472 to R474. -/
def Obligations.CoreMultiplyCommandsComplete : Prop :=
  (∀ (s : State) (c k a b ecc : Nat) (mx my : Option PMove), ecc < 3 → DspAt s c (.frac .mac k a b mx my) →
      ∃ t, exec (.dspMac c k a b mx my ecc) s = .next t ∧ MovesDone s t c mx my ∧
        (dspOf t c).aw k = BitVec.ofInt 72 ((dspOf s c).av k + (dspOf s c).ds a * (dspOf s c).ds b * 2) ∧
        AccFlags (dspOf t c) ((dspOf t c).aw k)) ∧
  (∀ (s : State) (c k a b ecc : Nat) (mx my : Option PMove), ecc < 3 → DspAt s c (.frac .msu k a b mx my) →
      ∃ t, exec (.dspMsu c k a b mx my ecc) s = .next t ∧ MovesDone s t c mx my ∧
        (dspOf t c).aw k = BitVec.ofInt 72 ((dspOf s c).av k - (dspOf s c).ds a * (dspOf s c).ds b * 2) ∧
        AccFlags (dspOf t c) ((dspOf t c).aw k)) ∧
  (∀ (s : State) (c k a b ecc : Nat) (mx my : Option PMove), ecc < 3 → DspAt s c (.frac .mpy k a b mx my) →
      ∃ t, exec (.dspMpy c k a b mx my ecc) s = .next t ∧ MovesDone s t c mx my ∧
        (dspOf t c).aw k = BitVec.ofInt 72 ((dspOf s c).ds a * (dspOf s c).ds b * 2) ∧
        AccFlags (dspOf t c) ((dspOf t c).aw k)) ∧
  (∀ (s : State) (c ecc : Nat) (mx my : Option PMove), ecc < 3 → DspAt s c (.frac .move 0 0 0 mx my) →
      ∃ t, exec (.dspMove c mx my ecc) s = .next t ∧ MovesDone s t c mx my ∧ (dspOf t c).a = (dspOf s c).a ∧
        (dspOf t c).stat = (dspOf s c).stat) ∧
  (∀ (s : State) (c q a b u sp ecc : Nat) (mv : Option PMove), ecc < 3 → DspAt s c (.quad .qmac q a b u sp mv) →
      ∃ t, exec (.dspQmac c q a b u sp mv ecc) s = .next t ∧ MovesDone s t c (atX sp mv) (atY sp mv) ∧
        (dspOf t c).aw (2 * q) = BitVec.ofInt 72 ((dspOf s c).av (2 * q) + dot16 ((dspOf s c).dw a) ((dspOf s c).dw b)) ∧
        (dspOf t c).aw (2 * q + 1) =
          BitVec.ofInt 72 ((dspOf s c).av (2 * q + 1) + dot16 ((dspOf s c).dw a) ((dspOf s c).dw u))) ∧
  (∀ (s : State) (c q a b u sp ecc : Nat) (mv : Option PMove), ecc < 3 → DspAt s c (.quad .qmsu q a b u sp mv) →
      ∃ t, exec (.dspQmsu c q a b u sp mv ecc) s = .next t ∧ MovesDone s t c (atX sp mv) (atY sp mv) ∧
        (dspOf t c).aw (2 * q) = BitVec.ofInt 72 ((dspOf s c).av (2 * q) - dot16 ((dspOf s c).dw a) ((dspOf s c).dw b)) ∧
        (dspOf t c).aw (2 * q + 1) =
          BitVec.ofInt 72 ((dspOf s c).av (2 * q + 1) - dot16 ((dspOf s c).dw a) ((dspOf s c).dw u))) ∧
  (∀ (s : State) (c q a b u sp ecc : Nat) (mv : Option PMove), ecc < 3 → DspAt s c (.quad .qmpy q a b u sp mv) →
      ∃ t, exec (.dspQmpy c q a b u sp mv ecc) s = .next t ∧ MovesDone s t c (atX sp mv) (atY sp mv) ∧
        (dspOf t c).aw (2 * q) = BitVec.ofInt 72 (dot16 ((dspOf s c).dw a) ((dspOf s c).dw b)) ∧
        (dspOf t c).aw (2 * q + 1) = BitVec.ofInt 72 (dot16 ((dspOf s c).dw a) ((dspOf s c).dw u))) ∧
  (∀ (s : State) (c q a b ecc : Nat) (mx my : Option PMove), ecc < 3 → DspAt s c (.cplx .cmac q a b mx my) →
      ∃ t, exec (.dspCmac c q a b mx my ecc) s = .next t ∧ MovesDone s t c mx my ∧
        (dspOf t c).aw (2 * q) = BitVec.ofInt 72 ((dspOf s c).av (2 * q) + reMul 1 ((dspOf s c).dw a) ((dspOf s c).dw b)) ∧
        (dspOf t c).aw (2 * q + 1) =
          BitVec.ofInt 72 ((dspOf s c).av (2 * q + 1) + imMul 1 ((dspOf s c).dw a) ((dspOf s c).dw b))) ∧
  (∀ (s : State) (c q a b ecc : Nat) (mx my : Option PMove), ecc < 3 → DspAt s c (.cplx .cmsu q a b mx my) →
      ∃ t, exec (.dspCmsu c q a b mx my ecc) s = .next t ∧ MovesDone s t c mx my ∧
        (dspOf t c).aw (2 * q) = BitVec.ofInt 72 ((dspOf s c).av (2 * q) - reMul 1 ((dspOf s c).dw a) ((dspOf s c).dw b)) ∧
        (dspOf t c).aw (2 * q + 1) =
          BitVec.ofInt 72 ((dspOf s c).av (2 * q + 1) - imMul 1 ((dspOf s c).dw a) ((dspOf s c).dw b))) ∧
  (∀ (s : State) (c q a b ecc : Nat) (mx my : Option PMove), ecc < 3 → DspAt s c (.cplx .cmpy q a b mx my) →
      ∃ t, exec (.dspCmpy c q a b mx my ecc) s = .next t ∧ MovesDone s t c mx my ∧
        (dspOf t c).aw (2 * q) = BitVec.ofInt 72 (reMul 1 ((dspOf s c).dw a) ((dspOf s c).dw b)) ∧
        (dspOf t c).aw (2 * q + 1) = BitVec.ofInt 72 (imMul 1 ((dspOf s c).dw a) ((dspOf s c).dw b))) ∧
  (∀ (s : State) (c q a b ecc : Nat) (mx my : Option PMove), ecc < 3 → DspAt s c (.cplx .cmacj q a b mx my) →
      ∃ t, exec (.dspCmacj c q a b mx my ecc) s = .next t ∧ MovesDone s t c mx my ∧
        (dspOf t c).aw (2 * q) = BitVec.ofInt 72 ((dspOf s c).av (2 * q) + reMul (-1) ((dspOf s c).dw a) ((dspOf s c).dw b)) ∧
        (dspOf t c).aw (2 * q + 1) =
          BitVec.ofInt 72 ((dspOf s c).av (2 * q + 1) + imMul (-1) ((dspOf s c).dw a) ((dspOf s c).dw b))) ∧
  (∀ (s : State) (c q a b ecc : Nat) (mx my : Option PMove), ecc < 3 → DspAt s c (.cplx .cmpyj q a b mx my) →
      ∃ t, exec (.dspCmpyj c q a b mx my ecc) s = .next t ∧ MovesDone s t c mx my ∧
        (dspOf t c).aw (2 * q) = BitVec.ofInt 72 (reMul (-1) ((dspOf s c).dw a) ((dspOf s c).dw b)) ∧
        (dspOf t c).aw (2 * q + 1) = BitVec.ofInt 72 (imMul (-1) ((dspOf s c).dw a) ((dspOf s c).dw b)))

/-- 12 R432, R433 and 13 R460, R461, R475 to R477. -/
def Obligations.CoreMoveCommandsComplete : Prop :=
  (∀ (s : State) (c sp r p md imm ecc : Nat), ecc < 3 → DspAt s c (.ld sp r p md imm) →
      ∃ t, exec (.dspLd c sp r p md imm ecc) s = .next t ∧ DspSeq s t c ∧
        RegHolds (dspOf t c) r (dspRead s c sp ((dspOf s c).pn p)) ∧ (dspOf t c).stat = (dspOf s c).stat ∧
        (r ≠ 8 + p → (dspOf t c).pn p = (postMod p md (sgn 9 imm) (sp == 2) (dspOf s c)).pn p)) ∧
  (∀ (s : State) (c sp r p md imm ecc : Nat), ecc < 3 → DspAt s c (.st sp r p md imm) →
      ∃ t, exec (.dspSt c sp r p md imm ecc) s = .next t ∧ (dspOf t c).pc = (dspOf s c).pc + 1 ∧
        (∀ q a, dspRead t c q a = if q = sp ∧ a % 65536 = (dspOf s c).pn p then (regRead (dspOf s c) r).1
          else dspRead s c q a) ∧
        (∀ k q a, k < 24 → k ≠ c → dspRead t k q a = dspRead s k q a) ∧ (dspOf t c).d = (dspOf s c).d ∧
        (dspOf t c).a = (dspOf s c).a ∧
        (dspOf t c).pn p = (postMod p md (sgn 9 imm) false (dspOf s c)).pn p) ∧
  (∀ (s : State) (c dst src ecc : Nat), ecc < 3 → DspAt s c (.mov dst src) →
      ∃ t, exec (.dspMov c dst src ecc) s = .next t ∧ DspSeq s t c ∧ RegHolds (dspOf t c) dst (regRead (dspOf s c) src).1 ∧
        (∀ i, i ≠ 5 → statB (dspOf t c) i = statB (dspOf s c) i)) ∧
  (∀ (s : State) (c d q ecc : Nat), ecc < 3 → DspAt s c (.pack d q) →
      ∃ t, exec (.dspPack c d q ecc) s = .next t ∧ DspSeq s t c ∧
        (∀ i, i < 2 → lane ((dspOf t c).dw d) i = clamp16 (scaledOut (dspOf s c) (2 * q + i) 48)) ∧
        (statB (dspOf t c) 5 = true ↔ statB (dspOf s c) 5 = true ∨ ∃ i, i < 2 ∧ out16 (scaledOut (dspOf s c) (2 * q + i) 48) = true) ∧
        (∀ k, k ≠ d → (dspOf t c).dw k = (dspOf s c).dw k) ∧ (dspOf t c).a = (dspOf s c).a) ∧
  (∀ (s : State) (c d k ecc : Nat), ecc < 3 → DspAt s c (.mov16 d k) →
      ∃ t, exec (.dspMov16 c d k ecc) s = .next t ∧ DspSeq s t c ∧
        (dspOf t c).dw d = BitVec.ofInt 32 (clamp16 (scaledOut (dspOf s c) k 48)) ∧
        (statB (dspOf t c) 5 = true ↔ statB (dspOf s c) 5 = true ∨ out16 (scaledOut (dspOf s c) k 48) = true) ∧
        (∀ j, j ≠ d → (dspOf t c).dw j = (dspOf s c).dw j) ∧ (dspOf t c).a = (dspOf s c).a) ∧
  (∀ (s : State) (c k pc cm pr rm pw wm ecc : Nat) (dir sub : Bool), ecc < 3 →
      DspAt s c (.tap dir sub k pc cm pr rm pw wm) →
      ∃ t, exec (.dspTap c dir sub k pc cm pr rm pw wm ecc) s = .next t ∧ (dspOf t c).pc = (dspOf s c).pc + 1 ∧
        (dspOf t c).aw k = BitVec.ofInt 72 ((dspOf s c).av k + (if sub then -1 else 1) *
          (sgn 32 (dspRead s c 2 ((dspOf s c).pn pc)).toNat * sgn 32 (dspRead s c (b2n dir) ((dspOf s c).pn pr)).toNat * 2)) ∧
        (∀ q a, dspRead t c q a = if q = 1 - b2n dir ∧ a % 65536 = (dspOf s c).pn pw then
            dspRead s c (b2n dir) ((dspOf s c).pn pr) else dspRead s c q a) ∧
        (dspOf t c).pn pc = (postMod pc cm (-1) true (dspOf s c)).pn pc ∧
        (dspOf t c).pn pr = (postMod pr rm (-1) false (dspOf s c)).pn pr ∧
        (dspOf t c).pn pw = (postMod pw wm (-1) false (dspOf s c)).pn pw ∧ (dspOf t c).d = (dspOf s c).d) ∧
  (∀ (s : State) (c sys d ecc : Nat), ecc < 3 → DspAt s c (.wrs sys d) →
      (sys = 0 ∨ sys = 1 ∨ sys = 2 ∨ sys = 4 ∨ sys = 6 ∨ sys = 7 ∨ sys = 0x16 ∨ sys = 0x18 ∨ sys = 0x30 ∨ sys = 0x31 ∨
        (0x20 ≤ sys ∧ sys ≤ 0x24) ∨ (0x28 ≤ sys ∧ sys ≤ 0x2C)) →
      ∃ t, exec (.dspWrs c sys d ecc) s = .next t ∧ DspSeq s t c ∧ (dspOf t c).d = (dspOf s c).d ∧
        (sys = 0 → (dspOf t c).stat = (dspOf s c).dw d &&& 0x1FFF) ∧
        (sys = 1 → (dspOf t c).amr = (dspOf s c).dw d &&& 0xFFFF) ∧
        (sys = 2 → (dspOf t c).imr = (dspOf s c).dw d &&& 0xFFFF) ∧ (sys = 4 → (dspOf t c).ipr = (dspOf s c).dw d) ∧
        (sys = 6 → (dspOf t c).timer = (dspOf s c).dw d) ∧ (sys = 7 → (dspOf t c).reload = (dspOf s c).dw d) ∧
        (0x16 ≤ sys → sysWord t c sys = (dspOf s c).dw d)) ∧
  (∀ (s : State) (c sys d ecc : Nat), ecc < 3 → DspAt s c (.wrs sys d) → (sys = 0x32 → (dspOf s c).bus = .idle) →
      ∃ t, exec (.dspWrs c sys d ecc) s = .next t ∧ (dspOf t c).pc = (dspOf s c).pc + 1 ∧ (dspOf t c).d = (dspOf s c).d ∧
        (dspOf t c).a = (dspOf s c).a ∧
        (sys = 3 → spGet t.ipend c 0 = spGet s.ipend c 0 &&& ~~~(((dspOf s c).dw d).truncate 16)) ∧
        (sys = 5 → dspFlag t c 0 = bit ((dspOf s c).dw d) 0 ∧ dspFlag t c 1 = bit ((dspOf s c).dw d) 1) ∧
        (0x17 ≤ sys → sys ≤ 0x1F → sysWord t c sys = (dspOf s c).dw d) ∧
        (sys = 0x32 → (dspOf s c).dw d = 1 ∨ (dspOf s c).dw d = 2 →
          (dspOf t c).bus = .asked ((dspOf s c).dw d == 2) (sysWord s c 0x30) (sysWord s c 0x31)) ∧
        (0x40 ≤ sys → sys ≤ 0x4F → (bank s (dspAgent c)).tx.length = 16 →
          (bank t (dspAgent c)).tx.getD (sys - 0x40) 0 = (dspOf s c).dw d)) ∧
  (∀ (s : State) (c d ecc : Nat), ecc < 3 → DspAt s c (.wrs 0x32 d) → (dspOf s c).bus ≠ .idle →
      ∃ t, exec (.dspWrs c 0x32 d ecc) s = .next t ∧ (dspOf t c).exec = .stalled ∧ (dspOf t c).pc = (dspOf s c).pc ∧
        (dspOf t c).bus = (dspOf s c).bus) ∧
  (∀ (s : State) (c d ecc : Nat), ecc < 3 → DspAt s c (.rds d 0x31) → (dspOf s c).bus ≠ .idle →
      ∃ t, exec (.dspRds c d 0x31 ecc) s = .next t ∧ (dspOf t c).exec = .stalled ∧ (dspOf t c).pc = (dspOf s c).pc ∧
        (dspOf t c).d = (dspOf s c).d) ∧
  (∀ (s : State) (c d sys ecc : Nat), ecc < 3 → DspAt s c (.rds d sys) → (sys = 0x31 → (dspOf s c).bus = .idle) →
      ∃ t, exec (.dspRds c d sys ecc) s = .next t ∧ (dspOf t c).dw d = (sysRead c sys s).1 ∧
        (dspOf t c).pc = (dspOf s c).pc + 1 ∧ (∀ k, k ≠ d → (dspOf t c).dw k = (dspOf s c).dw k) ∧
        (dspOf t c).stat = (dspOf s c).stat)

/-- 12 R439, R442, R443, R453 and 13 R478. -/
def Obligations.CoreStreamCommandsComplete : Prop :=
  (∀ (s : State) (c n d ecc : Nat) (i : DspItem) (rest : List DspItem) (w : Word) (ws : List Word), ecc < 3 →
      DspAt s c (.strIn (.reg d) n) → (dspIn s c n).items = i :: rest → i.words = w :: ws →
      ∃ t, exec (.dspIn c (.reg d) n ecc) s = .next t ∧ (dspOf t c).dw d = w ∧ (dspOf t c).pc = (dspOf s c).pc + 1 ∧
        (dspIn t c n).items = (if ws = [] then rest else { i with words := ws, started := true } :: rest)) ∧
  (∀ (s : State) (c n sp p md ecc : Nat) (i : DspItem) (rest : List DspItem) (w : Word) (ws : List Word), ecc < 3 →
      DspAt s c (.strIn (.mem sp p md) n) → (dspIn s c n).items = i :: rest → i.words = w :: ws →
      ∃ t, exec (.dspIn c (.mem sp p md) n ecc) s = .next t ∧ (dspOf t c).pc = (dspOf s c).pc + 1 ∧
        (∀ q a, dspRead t c q a = if q = sp ∧ a % 65536 = (dspOf s c).pn p then w else dspRead s c q a) ∧
        (dspOf t c).pn p = (postMod p md (-1) false (dspOf s c)).pn p) ∧
  (∀ (s : State) (c n ecc : Nat) (a : StrArg), ecc < 3 → DspAt s c (.strIn a n) → (dspIn s c n).items = [] →
      (ustate s (dspUnit c) = .running →
        ∃ t, exec (.dspIn c a n ecc) s = .next t ∧ (dspOf t c).exec = .stalled ∧ (dspOf t c).pc = (dspOf s c).pc ∧
          (dspOf t c).d = (dspOf s c).d) ∧
      (ustate s (dspUnit c) = .draining →
        ∃ t, exec (.dspIn c a n ecc) s = .next t ∧ (dspOf t c).exec = .halted ∧ (dspIn t c n).ended = true ∧
          Raised s t 0x0A02 (dspUnit c))) ∧
  (∀ (s : State) (c n d ecc : Nat), ecc < 3 → DspAt s c (.strOut (.reg d) n) → (dspOut s c n).cur = none →
      soutFree s c n ≠ 0 →
      ∃ t, exec (.dspOut c (.reg d) n ecc) s = .next t ∧ (dspOf t c).pc = (dspOf s c).pc + 1 ∧
        ∃ o, (dspOut t c n).cur = some o ∧ o.words = [(dspOf s c).dw d] ∧ o.epoch = epochOf s (dspUnit c)) ∧
  (∀ (s : State) (c n d ecc : Nat) (o : DspOpen), ecc < 3 → DspAt s c (.strOut (.reg d) n) →
      (dspOut s c n).cur = some o → o.words.length < 4096 → soutFree s c n ≠ 0 →
      ∃ t, exec (.dspOut c (.reg d) n ecc) s = .next t ∧ (dspOf t c).pc = (dspOf s c).pc + 1 ∧
        (dspOut t c n).cur = some { o with words := o.words ++ [(dspOf s c).dw d] }) ∧
  (∀ (s : State) (c n sp p md ecc : Nat), ecc < 3 → DspAt s c (.strOut (.mem sp p md) n) → (dspOut s c n).cur = none →
      soutFree s c n ≠ 0 →
      ∃ t, exec (.dspOut c (.mem sp p md) n ecc) s = .next t ∧ (dspOf t c).pc = (dspOf s c).pc + 1 ∧
        (∃ o, (dspOut t c n).cur = some o ∧ o.words = [dspRead s c sp ((dspOf s c).pn p)] ∧ o.epoch = epochOf s (dspUnit c)) ∧
        (dspOf t c).pn p = (postMod p md (-1) false (dspOf s c)).pn p) ∧
  (∀ (s : State) (c n sp p md ecc : Nat) (o : DspOpen), ecc < 3 → DspAt s c (.strOut (.mem sp p md) n) →
      (dspOut s c n).cur = some o → o.words.length < 4096 → soutFree s c n ≠ 0 →
      ∃ t, exec (.dspOut c (.mem sp p md) n ecc) s = .next t ∧ (dspOf t c).pc = (dspOf s c).pc + 1 ∧
        (dspOut t c n).cur = some { o with words := o.words ++ [dspRead s c sp ((dspOf s c).pn p)] } ∧
        (dspOf t c).pn p = (postMod p md (-1) false (dspOf s c)).pn p) ∧
  (∀ (s : State) (c n ecc : Nat) (a : StrArg) (o : DspOpen), ecc < 3 → DspAt s c (.strOut a n) →
      (dspOut s c n).cur = some o → 4096 ≤ o.words.length →
      ∃ t, exec (.dspOut c a n ecc) s = .next t ∧ (dspOf t c).pc = (dspOf s c).pc + 1 ∧
        (dspOut t c n).cur = some { o with truncated := true } ∧
        rd t .dspCoreCount c 5 = BitVec.ofNat 32 (satU 32 ((rd s .dspCoreCount c 5).toNat + 1))) ∧
  (∀ (s : State) (c n ecc : Nat) (a : StrArg), ecc < 3 → DspAt s c (.strOut a n) →
      (dspOut s c n).cur.all (fun o => decide (o.words.length < 4096)) = true → soutFree s c n = 0 →
      ∃ t, exec (.dspOut c a n ecc) s = .next t ∧ (dspOf t c).exec = .stalled ∧ (dspOf t c).pc = (dspOf s c).pc) ∧
  (∀ (s : State) (c n ecc : Nat) (o : DspOpen), ecc < 3 → DspAt s c (.close n) → (dspOut s c n).cur = some o →
      ∃ t, exec (.dspClose c n ecc) s = .next t ∧ (dspOut t c n).cur = none ∧ (dspOf t c).pc = (dspOf s c).pc + 1 ∧
        (dspOut t c n).seq = ((dspOut s c n).seq + 1) % 2 ^ 48 ∧
        ∃ it, t.plan.offered = s.plan.offered ++ [it] ∧ it.kind = 0x60 ∧ it.src = dspUnit c ∧ it.stream = n ∧
          it.seq = (dspOut s c n).seq ∧ it.payload.drop 8 = o.words ∧ it.crc = crcWords o.words) ∧
  (∀ (s : State) (c n ecc : Nat), ecc < 3 → DspAt s c (.close n) → (dspOut s c n).cur = none →
      ∃ t, exec (.dspClose c n ecc) s = .next t ∧ t.plan = s.plan ∧ (dspOut t c n).seq = (dspOut s c n).seq ∧
        (dspOf t c).pc = (dspOf s c).pc + 1) ∧
  (∀ (s : State) (c n ecc : Nat) (i : DspItem) (rest : List DspItem), ecc < 3 → DspAt s c (.skipi n) →
      (dspIn s c n).items = i :: rest →
      ∃ t, exec (.dspSkipi c n ecc) s = .next t ∧ (dspOf t c).pc = (dspOf s c).pc + 1 ∧
        (dspIn t c n).items = (if i.started then rest else i :: rest)) ∧
  (∀ (s : State) (c n ecc : Nat), ecc < 3 → DspAt s c (.skipi n) → (dspIn s c n).items = [] →
      ∃ t, exec (.dspSkipi c n ecc) s = .next t ∧ (dspOf t c).pc = (dspOf s c).pc + 1 ∧ (dspIn t c n).items = [])
end

