-- ==== Sys2Proof/Laws/Bits.lean ====
section
/-! SUPPORT. Laws of the containers and bit fields: a read after a write, what a write leaves alone, canonical forms. -/

namespace Sys2Proof.Machine

variable {α : Type}

/-! Sparse maps. -/

theorem spGet_spDel_self (m : List (Nat × α)) (k : Nat) (d : α) : spGet (spDel m k) k d = d := by
  induction m with
  | nil => rfl
  | cons e r ih =>
    obtain ⟨j, v⟩ := e
    by_cases h : j = k <;> simp [spDel, spGet, h, ih]

theorem spGet_spDel_ne (m : List (Nat × α)) {k o : Nat} (d : α) (h : o ≠ k) : spGet (spDel m k) o d = spGet m o d := by
  induction m with
  | nil => rfl
  | cons e r ih =>
    obtain ⟨j, v⟩ := e
    by_cases h1 : j = k
    · have h2 : ¬ j = o := fun hh => h (hh ▸ h1)
      simp [spDel, spGet, h1, ih]
      intro hh
      exact absurd hh.symm h
    · simp only [spDel, h1, if_false, spGet, ih]

theorem spGet_spIns_ne (m : List (Nat × α)) {k o : Nat} (v d : α) (h : o ≠ k) : spGet (spIns m k v) o d = spGet m o d := by
  induction m with
  | nil => simp [spIns, spGet, h.symm]
  | cons e r ih =>
    obtain ⟨j, u⟩ := e
    by_cases h1 : k < j
    · simp [spIns, spGet, h1, h.symm]
    · simp [spIns, spGet, h1, ih]

theorem spGet_spIns_self (m : List (Nat × α)) (k : Nat) (v d : α) : spGet (spIns (spDel m k) k v) k d = v := by
  induction m with
  | nil => simp [spDel, spIns, spGet]
  | cons e r ih =>
    obtain ⟨j, u⟩ := e
    by_cases h : j = k
    · simpa [spDel, h] using ih
    · by_cases h1 : k < j
      · simp [spDel, spIns, spGet, h, h1]
      · simp [spDel, spIns, spGet, h, h1, ih]

/-- A read after a write to the same key gives the value written. -/
@[simp] theorem spGet_spPut_self [DecidableEq α] (m : List (Nat × α)) (k : Nat) (v d : α) :
    spGet (spPut m k v d) k d = v := by
  unfold spPut
  split
  · rename_i h
    rw [spGet_spDel_self, h]
  · exact spGet_spIns_self m k v d

/-- A write leaves every other key alone. -/
theorem spGet_spPut_ne [DecidableEq α] (m : List (Nat × α)) {k o : Nat} (v d e : α) (h : o ≠ k) :
    spGet (spPut m k v d) o e = spGet m o e := by
  unfold spPut
  split
  · exact spGet_spDel_ne m e h
  · rw [spGet_spIns_ne _ _ _ h, spGet_spDel_ne m e h]

theorem spGet_spPut [DecidableEq α] (m : List (Nat × α)) (k o : Nat) (v d : α) :
    spGet (spPut m k v d) o d = if o = k then v else spGet m o d := by
  split
  · rename_i h
    rw [h, spGet_spPut_self]
  · exact spGet_spPut_ne m v d d ‹_›

section
variable [DecidableEq α]

theorem spWfFrom_mono {d : α} {lo hi : Nat} {m : List (Nat × α)} (h : lo ≤ hi) (hw : spWfFrom d hi m = true) :
    spWfFrom d lo m = true := by
  cases m with
  | nil => rfl
  | cons e r =>
    obtain ⟨j, v⟩ := e
    simp [spWfFrom] at hw ⊢
    exact ⟨⟨by omega, hw.1.2⟩, hw.2⟩

theorem spWfFrom_filter {d : α} (p : Nat × α → Bool) {m : List (Nat × α)} :
    ∀ {lo : Nat}, spWfFrom d lo m = true → spWfFrom d lo (m.filter p) = true := by
  induction m with
  | nil => intro lo h; exact h
  | cons e r ih =>
    intro lo h
    obtain ⟨j, v⟩ := e
    simp [spWfFrom] at h
    by_cases hp : p (j, v) = true
    · rw [List.filter_cons_of_pos hp]
      simp [spWfFrom, h.1, ih h.2]
    · rw [List.filter_cons_of_neg hp]
      exact spWfFrom_mono (by omega) (ih h.2)

omit [DecidableEq α] in
theorem spDel_eq_filter (m : List (Nat × α)) (k : Nat) : spDel m k = m.filter fun e => e.1 != k := by
  induction m with
  | nil => rfl
  | cons e r ih =>
    obtain ⟨j, v⟩ := e
    by_cases h : j = k <;> simp [spDel, h, ih]

theorem spWfFrom_spIns {d v : α} {k : Nat} (hv : v ≠ d) {m : List (Nat × α)} (hk : ∀ e ∈ m, e.1 ≠ k) :
    ∀ {lo : Nat}, lo ≤ k → spWfFrom d lo m = true → spWfFrom d lo (spIns m k v) = true := by
  induction m with
  | nil => intro lo h _; simp [spIns, spWfFrom, h, hv]
  | cons e r ih =>
    intro lo h hw
    obtain ⟨j, u⟩ := e
    have hj : j ≠ k := hk (j, u) (by simp)
    simp [spWfFrom] at hw
    by_cases h1 : k < j
    · have h2 : k + 1 ≤ j := by omega
      simp [spIns, h1, spWfFrom, h, hv, hw.1.2, hw.2, h2]
    · simp [spIns, h1, spWfFrom, hw.1]
      exact ih (fun e he => hk e (by simp [he])) (by omega) hw.2

/-- A write keeps the canonical form. -/
theorem spWf_spPut {d : α} {m : List (Nat × α)} (k : Nat) (v : α) (h : spWf d m = true) : spWf d (spPut m k v d) = true := by
  unfold spPut
  have h1 : spWf d (spDel m k) = true := by
    rw [spDel_eq_filter]
    exact spWfFrom_filter _ h
  split
  · exact h1
  · refine spWfFrom_spIns ‹_› ?_ (Nat.zero_le _) h1
    intro e he
    rw [spDel_eq_filter] at he
    simp at he
    exact he.2

/-- Leaving entries out keeps the canonical form. -/
theorem spWf_filter {d : α} {m : List (Nat × α)} (p : Nat × α → Bool) (h : spWf d m = true) : spWf d (m.filter p) = true :=
  spWfFrom_filter p h

end

/-! Tables. -/

theorem vget_vset {n : Nat} (v : Vector α n) (k o : Nat) (x d : α) :
    vget (vset v k x) o d = if o = k ∧ k < n then x else vget v o d := by
  unfold vget vset
  have hn : v.toList.length = n := by simp
  by_cases h : o = k
  · subst h
    by_cases hk : o < n
    · simp [List.getD, hk, hn]
    · simp [List.getD, hk, hn]
  · simp [List.getD, h, List.getElem?_set_ne (Ne.symm h)]

@[simp] theorem vget_vset_self {n : Nat} (v : Vector α n) (k : Nat) (x d : α) (h : k < n) : vget (vset v k x) k d = x := by
  simp [vget_vset, h]

theorem vget_vset_ne {n : Nat} (v : Vector α n) {k o : Nat} (x d : α) (h : o ≠ k) : vget (vset v k x) o d = vget v o d := by
  simp [vget_vset, h]

/-! Bit fields. -/

theorem fld_lt (v : BitVec 32) (lo w : Nat) : fld v lo w < 2 ^ w := Nat.mod_lt _ (Nat.two_pow_pos w)

theorem fld_le_toNat (v : BitVec 32) (lo w : Nat) : fld v lo w * 2 ^ lo ≤ v.toNat := by
  unfold fld
  calc v.toNat / 2 ^ lo % 2 ^ w * 2 ^ lo ≤ v.toNat / 2 ^ lo * 2 ^ lo := Nat.mul_le_mul_right _ (Nat.mod_le _ _)
    _ ≤ v.toNat := Nat.div_mul_le_self _ _

/-- The bits below, in and above a field. -/
theorem fld_split (x lo w : Nat) : x = x / 2 ^ (lo + w) * 2 ^ (lo + w) + x / 2 ^ lo % 2 ^ w * 2 ^ lo + x % 2 ^ lo := by
  have h1 := Nat.div_add_mod x (2 ^ lo)
  have h2 := Nat.div_add_mod (x / 2 ^ lo) (2 ^ w)
  rw [Nat.div_div_eq_div_mul, ← Nat.pow_add] at h2
  calc x = 2 ^ lo * (x / 2 ^ lo) + x % 2 ^ lo := h1.symm
    _ = 2 ^ lo * (2 ^ w * (x / 2 ^ (lo + w)) + x / 2 ^ lo % 2 ^ w) + x % 2 ^ lo := by rw [h2]
    _ = _ := by rw [Nat.pow_add]; ring

/-- The number that a word with one field replaced holds. -/
theorem setFld_toNat (v : BitVec 32) (lo w x : Nat) (h : lo + w ≤ 32) :
    (setFld v lo w x).toNat = v.toNat / 2 ^ (lo + w) * 2 ^ (lo + w) + x % 2 ^ w * 2 ^ lo + v.toNat % 2 ^ lo := by
  have hs := fld_split v.toNat lo w
  have hx : x % 2 ^ w < 2 ^ w := Nat.mod_lt _ (Nat.two_pow_pos w)
  have hl : v.toNat % 2 ^ lo < 2 ^ lo := Nat.mod_lt _ (Nat.two_pow_pos lo)
  have hv : v.toNat < 2 ^ 32 := v.isLt
  have hq : v.toNat / 2 ^ (lo + w) < 2 ^ (32 - (lo + w)) := by
    rw [Nat.div_lt_iff_lt_mul (Nat.two_pow_pos _), ← Nat.pow_add]
    have : 32 - (lo + w) + (lo + w) = 32 := by omega
    rw [this]; exact hv
  unfold setFld fld
  rw [BitVec.toNat_ofNat]
  have he : v.toNat - v.toNat / 2 ^ lo % 2 ^ w * 2 ^ lo + x % 2 ^ w * 2 ^ lo =
      v.toNat / 2 ^ (lo + w) * 2 ^ (lo + w) + x % 2 ^ w * 2 ^ lo + v.toNat % 2 ^ lo := by omega
  rw [he]
  apply Nat.mod_eq_of_lt
  have h1 : x % 2 ^ w * 2 ^ lo + v.toNat % 2 ^ lo < 2 ^ (lo + w) := by
    calc x % 2 ^ w * 2 ^ lo + v.toNat % 2 ^ lo < x % 2 ^ w * 2 ^ lo + 2 ^ lo := by omega
      _ = (x % 2 ^ w + 1) * 2 ^ lo := by ring
      _ ≤ 2 ^ w * 2 ^ lo := Nat.mul_le_mul_right _ hx
      _ = 2 ^ (lo + w) := by rw [Nat.pow_add]; ring
  calc _ < v.toNat / 2 ^ (lo + w) * 2 ^ (lo + w) + 2 ^ (lo + w) := by omega
    _ = (v.toNat / 2 ^ (lo + w) + 1) * 2 ^ (lo + w) := by ring
    _ ≤ 2 ^ (32 - (lo + w)) * 2 ^ (lo + w) := Nat.mul_le_mul_right _ hq
    _ = 2 ^ 32 := by rw [← Nat.pow_add]; congr 1; omega

/-- A replaced field reads as what it was given. -/
@[simp] theorem fld_setFld_self (v : BitVec 32) (lo w x : Nat) (h : lo + w ≤ 32) : fld (setFld v lo w x) lo w = x % 2 ^ w := by
  unfold fld
  rw [setFld_toNat v lo w x h]
  have hl : v.toNat % 2 ^ lo < 2 ^ lo := Nat.mod_lt _ (Nat.two_pow_pos lo)
  have : v.toNat / 2 ^ (lo + w) * 2 ^ (lo + w) + x % 2 ^ w * 2 ^ lo + v.toNat % 2 ^ lo =
      2 ^ lo * (2 ^ w * (v.toNat / 2 ^ (lo + w)) + x % 2 ^ w) + v.toNat % 2 ^ lo := by rw [Nat.pow_add]; ring
  rw [this, Nat.mul_add_div (Nat.two_pow_pos _), Nat.div_eq_of_lt hl, Nat.add_zero, Nat.mul_add_mod, Nat.mod_mod]

/-- A field below the replaced one is left alone. -/
theorem fld_setFld_below (v : BitVec 32) (lo w x a b : Nat) (h : lo + w ≤ 32) (hb : a + b ≤ lo) :
    fld (setFld v lo w x) a b = fld v a b := by
  unfold fld
  rw [setFld_toNat v lo w x h]
  have e : lo = a + b + (lo - a - b) := by omega
  have key : ∀ y z : Nat, (y * 2 ^ lo + z) / 2 ^ a % 2 ^ b = z / 2 ^ a % 2 ^ b := by
    intro y z
    have h1 : y * 2 ^ lo = 2 ^ a * (2 ^ b * (y * 2 ^ (lo - a - b))) := by
      conv => lhs; rw [e, Nat.pow_add, Nat.pow_add]
      ring
    rw [h1, Nat.mul_add_div (Nat.two_pow_pos _), Nat.mul_add_mod]
  have hs : v.toNat / 2 ^ (lo + w) * 2 ^ (lo + w) + x % 2 ^ w * 2 ^ lo + v.toNat % 2 ^ lo =
      (v.toNat / 2 ^ (lo + w) * 2 ^ w + x % 2 ^ w) * 2 ^ lo + v.toNat % 2 ^ lo := by rw [Nat.pow_add]; ring
  have hv : v.toNat = v.toNat / 2 ^ lo * 2 ^ lo + v.toNat % 2 ^ lo := (Nat.div_add_mod' _ _).symm
  rw [hs, key]
  conv => rhs; rw [hv]
  rw [key]

/-- A field above the replaced one is left alone. -/
theorem fld_setFld_above (v : BitVec 32) (lo w x a b : Nat) (h : lo + w ≤ 32) (hb : lo + w ≤ a) :
    fld (setFld v lo w x) a b = fld v a b := by
  unfold fld
  rw [setFld_toNat v lo w x h]
  have hx : x % 2 ^ w < 2 ^ w := Nat.mod_lt _ (Nat.two_pow_pos w)
  have hl : v.toNat % 2 ^ lo < 2 ^ lo := Nat.mod_lt _ (Nat.two_pow_pos lo)
  have h1 : x % 2 ^ w * 2 ^ lo + v.toNat % 2 ^ lo < 2 ^ (lo + w) := by
    calc x % 2 ^ w * 2 ^ lo + v.toNat % 2 ^ lo < x % 2 ^ w * 2 ^ lo + 2 ^ lo := by omega
      _ = (x % 2 ^ w + 1) * 2 ^ lo := by ring
      _ ≤ 2 ^ w * 2 ^ lo := Nat.mul_le_mul_right _ hx
      _ = 2 ^ (lo + w) := by rw [Nat.pow_add]; ring
  have e : a = lo + w + (a - lo - w) := by omega
  have key : ∀ y z : Nat, z < 2 ^ (lo + w) → (y * 2 ^ (lo + w) + z) / 2 ^ a = y / 2 ^ (a - lo - w) := by
    intro y z hz
    conv => lhs; rw [e, Nat.pow_add _ (lo + w), ← Nat.div_div_eq_div_mul]
    rw [Nat.mul_comm y, Nat.mul_add_div (Nat.two_pow_pos _), Nat.div_eq_of_lt hz, Nat.add_zero]
  rw [Nat.add_assoc, key _ _ h1]
  congr 1
  conv => rhs; rw [e, Nat.pow_add _ (lo + w), ← Nat.div_div_eq_div_mul]

theorem bit_eq_fld (v : BitVec 32) (i : Nat) : bit v i = decide (fld v i 1 = 1) := by
  unfold bit fld
  rw [Nat.testBit_eq_decide_div_mod_eq, Nat.pow_one]

@[simp] theorem b2n_mod (b : Bool) : b2n b % 2 = b2n b := by cases b <;> rfl
@[simp] theorem b2n_eq_one (b : Bool) : (b2n b = 1) = (b = true) := by cases b <;> simp [b2n]

end Sys2Proof.Machine
end

