-- ==== Sys2Proof/Laws/State.lean ====
section
/-! SUPPORT. What the plainest updates of State leave alone, field by field: a write of a register word changes the register
file, a unit header the headers, a flume the host's state. -/

namespace Sys2Proof.Machine

variable (s : State)

@[simp] theorem wr_keeps (r : Reg) (i j : Nat) (v : BitVec 32) :
    (wr r i j v s).pending = s.pending ∧ (wr r i j v s).free = s.free ∧ (wr r i j v s).fuse = s.fuse ∧
    (wr r i j v s).latch = s.latch ∧ (wr r i j v s).units = s.units ∧ (wr r i j v s).nextEvent = s.nextEvent ∧
    (wr r i j v s).events = s.events ∧ (wr r i j v s).rates = s.rates ∧ (wr r i j v s).faultTimes = s.faultTimes ∧
    (wr r i j v s).suppressed = s.suppressed ∧ (wr r i j v s).fabricFails = s.fabricFails ∧
    (wr r i j v s).skew = s.skew ∧ (wr r i j v s).plan = s.plan ∧ (wr r i j v s).time = s.time ∧
    (wr r i j v s).host = s.host ∧ (wr r i j v s).mgt = s.mgt ∧ (wr r i j v s).pwr = s.pwr ∧
    (wr r i j v s).boot = s.boot ∧ (wr r i j v s).ing = s.ing ∧ (wr r i j v s).tun = s.tun ∧
    (wr r i j v s).chz = s.chz ∧ (wr r i j v s).chzCoef = s.chzCoef ∧ (wr r i j v s).spec = s.spec ∧
    (wr r i j v s).winBank = s.winBank ∧ (wr r i j v s).trig = s.trig ∧ (wr r i j v s).tree = s.tree ∧
    (wr r i j v s).maskBank = s.maskBank ∧ (wr r i j v s).hbm = s.hbm ∧ (wr r i j v s).acq = s.acq ∧
    (wr r i j v s).dens = s.dens ∧ (wr r i j v s).disp = s.disp ∧ (wr r i j v s).tdc = s.tdc ∧
    (wr r i j v s).dsp = s.dsp ∧ (wr r i j v s).dspP = s.dspP ∧ (wr r i j v s).dspX = s.dspX ∧
    (wr r i j v s).dspY = s.dspY ∧ (wr r i j v s).cmp = s.cmp ∧ (wr r i j v s).calRec = s.calRec ∧
    (wr r i j v s).calJob = s.calJob ∧ (wr r i j v s).aux = s.aux ∧ (wr r i j v s).rdata = s.rdata ∧
    (wr r i j v s).ipend = s.ipend :=
  ⟨rfl, rfl, rfl, rfl, rfl, rfl, rfl, rfl, rfl, rfl, rfl, rfl, rfl, rfl, rfl, rfl, rfl, rfl, rfl, rfl, rfl, rfl, rfl,
   rfl, rfl, rfl, rfl, rfl, rfl, rfl, rfl, rfl, rfl, rfl, rfl, rfl, rfl, rfl, rfl, rfl, rfl, rfl⟩

@[simp] theorem setF_keeps (r : Reg) (i j lo w x : Nat) :
    (setF r i j lo w x s).pending = s.pending ∧ (setF r i j lo w x s).free = s.free ∧
    (setF r i j lo w x s).fuse = s.fuse ∧ (setF r i j lo w x s).latch = s.latch ∧
    (setF r i j lo w x s).units = s.units ∧ (setF r i j lo w x s).nextEvent = s.nextEvent ∧
    (setF r i j lo w x s).events = s.events ∧ (setF r i j lo w x s).rates = s.rates ∧
    (setF r i j lo w x s).faultTimes = s.faultTimes ∧ (setF r i j lo w x s).suppressed = s.suppressed ∧
    (setF r i j lo w x s).fabricFails = s.fabricFails ∧ (setF r i j lo w x s).skew = s.skew ∧
    (setF r i j lo w x s).plan = s.plan ∧ (setF r i j lo w x s).time = s.time ∧ (setF r i j lo w x s).host = s.host ∧
    (setF r i j lo w x s).mgt = s.mgt ∧ (setF r i j lo w x s).pwr = s.pwr ∧ (setF r i j lo w x s).boot = s.boot ∧
    (setF r i j lo w x s).ing = s.ing ∧ (setF r i j lo w x s).tun = s.tun ∧ (setF r i j lo w x s).chz = s.chz ∧
    (setF r i j lo w x s).chzCoef = s.chzCoef ∧ (setF r i j lo w x s).spec = s.spec ∧
    (setF r i j lo w x s).winBank = s.winBank ∧ (setF r i j lo w x s).trig = s.trig ∧
    (setF r i j lo w x s).tree = s.tree ∧ (setF r i j lo w x s).maskBank = s.maskBank ∧
    (setF r i j lo w x s).hbm = s.hbm ∧ (setF r i j lo w x s).acq = s.acq ∧ (setF r i j lo w x s).dens = s.dens ∧
    (setF r i j lo w x s).disp = s.disp ∧ (setF r i j lo w x s).tdc = s.tdc ∧ (setF r i j lo w x s).dsp = s.dsp ∧
    (setF r i j lo w x s).dspP = s.dspP ∧ (setF r i j lo w x s).dspX = s.dspX ∧ (setF r i j lo w x s).dspY = s.dspY ∧
    (setF r i j lo w x s).cmp = s.cmp ∧ (setF r i j lo w x s).calRec = s.calRec ∧
    (setF r i j lo w x s).calJob = s.calJob ∧ (setF r i j lo w x s).aux = s.aux ∧
    (setF r i j lo w x s).rdata = s.rdata ∧ (setF r i j lo w x s).ipend = s.ipend :=
  ⟨rfl, rfl, rfl, rfl, rfl, rfl, rfl, rfl, rfl, rfl, rfl, rfl, rfl, rfl, rfl, rfl, rfl, rfl, rfl, rfl, rfl, rfl, rfl,
   rfl, rfl, rfl, rfl, rfl, rfl, rfl, rfl, rfl, rfl, rfl, rfl, rfl, rfl, rfl, rfl, rfl, rfl, rfl⟩

@[simp] theorem setB_keeps (r : Reg) (i j k : Nat) (b : Bool) :
    (setB r i j k b s).pending = s.pending ∧ (setB r i j k b s).free = s.free ∧ (setB r i j k b s).fuse = s.fuse ∧
    (setB r i j k b s).latch = s.latch ∧ (setB r i j k b s).units = s.units ∧
    (setB r i j k b s).nextEvent = s.nextEvent ∧ (setB r i j k b s).events = s.events ∧
    (setB r i j k b s).rates = s.rates ∧ (setB r i j k b s).faultTimes = s.faultTimes ∧
    (setB r i j k b s).suppressed = s.suppressed ∧ (setB r i j k b s).fabricFails = s.fabricFails ∧
    (setB r i j k b s).skew = s.skew ∧ (setB r i j k b s).plan = s.plan ∧ (setB r i j k b s).time = s.time ∧
    (setB r i j k b s).host = s.host ∧ (setB r i j k b s).mgt = s.mgt ∧ (setB r i j k b s).pwr = s.pwr ∧
    (setB r i j k b s).boot = s.boot ∧ (setB r i j k b s).ing = s.ing ∧ (setB r i j k b s).tun = s.tun ∧
    (setB r i j k b s).chz = s.chz ∧ (setB r i j k b s).chzCoef = s.chzCoef ∧ (setB r i j k b s).spec = s.spec ∧
    (setB r i j k b s).winBank = s.winBank ∧ (setB r i j k b s).trig = s.trig ∧ (setB r i j k b s).tree = s.tree ∧
    (setB r i j k b s).maskBank = s.maskBank ∧ (setB r i j k b s).hbm = s.hbm ∧ (setB r i j k b s).acq = s.acq ∧
    (setB r i j k b s).dens = s.dens ∧ (setB r i j k b s).disp = s.disp ∧ (setB r i j k b s).tdc = s.tdc ∧
    (setB r i j k b s).dsp = s.dsp ∧ (setB r i j k b s).dspP = s.dspP ∧ (setB r i j k b s).dspX = s.dspX ∧
    (setB r i j k b s).dspY = s.dspY ∧ (setB r i j k b s).cmp = s.cmp ∧ (setB r i j k b s).calRec = s.calRec ∧
    (setB r i j k b s).calJob = s.calJob ∧ (setB r i j k b s).aux = s.aux ∧ (setB r i j k b s).rdata = s.rdata ∧
    (setB r i j k b s).ipend = s.ipend :=
  ⟨rfl, rfl, rfl, rfl, rfl, rfl, rfl, rfl, rfl, rfl, rfl, rfl, rfl, rfl, rfl, rfl, rfl, rfl, rfl, rfl, rfl, rfl, rfl,
   rfl, rfl, rfl, rfl, rfl, rfl, rfl, rfl, rfl, rfl, rfl, rfl, rfl, rfl, rfl, rfl, rfl, rfl, rfl⟩

@[simp] theorem bump_keeps (r : Reg) (i j n : Nat) :
    (bump r i j n s).pending = s.pending ∧ (bump r i j n s).free = s.free ∧ (bump r i j n s).fuse = s.fuse ∧
    (bump r i j n s).latch = s.latch ∧ (bump r i j n s).units = s.units ∧ (bump r i j n s).nextEvent = s.nextEvent ∧
    (bump r i j n s).events = s.events ∧ (bump r i j n s).rates = s.rates ∧ (bump r i j n s).faultTimes = s.faultTimes ∧
    (bump r i j n s).suppressed = s.suppressed ∧ (bump r i j n s).fabricFails = s.fabricFails ∧
    (bump r i j n s).skew = s.skew ∧ (bump r i j n s).plan = s.plan ∧ (bump r i j n s).time = s.time ∧
    (bump r i j n s).host = s.host ∧ (bump r i j n s).mgt = s.mgt ∧ (bump r i j n s).pwr = s.pwr ∧
    (bump r i j n s).boot = s.boot ∧ (bump r i j n s).ing = s.ing ∧ (bump r i j n s).tun = s.tun ∧
    (bump r i j n s).chz = s.chz ∧ (bump r i j n s).chzCoef = s.chzCoef ∧ (bump r i j n s).spec = s.spec ∧
    (bump r i j n s).winBank = s.winBank ∧ (bump r i j n s).trig = s.trig ∧ (bump r i j n s).tree = s.tree ∧
    (bump r i j n s).maskBank = s.maskBank ∧ (bump r i j n s).hbm = s.hbm ∧ (bump r i j n s).acq = s.acq ∧
    (bump r i j n s).dens = s.dens ∧ (bump r i j n s).disp = s.disp ∧ (bump r i j n s).tdc = s.tdc ∧
    (bump r i j n s).dsp = s.dsp ∧ (bump r i j n s).dspP = s.dspP ∧ (bump r i j n s).dspX = s.dspX ∧
    (bump r i j n s).dspY = s.dspY ∧ (bump r i j n s).cmp = s.cmp ∧ (bump r i j n s).calRec = s.calRec ∧
    (bump r i j n s).calJob = s.calJob ∧ (bump r i j n s).aux = s.aux ∧ (bump r i j n s).rdata = s.rdata ∧
    (bump r i j n s).ipend = s.ipend :=
  ⟨rfl, rfl, rfl, rfl, rfl, rfl, rfl, rfl, rfl, rfl, rfl, rfl, rfl, rfl, rfl, rfl, rfl, rfl, rfl, rfl, rfl, rfl, rfl,
   rfl, rfl, rfl, rfl, rfl, rfl, rfl, rfl, rfl, rfl, rfl, rfl, rfl, rfl, rfl, rfl, rfl, rfl, rfl⟩

@[simp] theorem wrMask_keeps (r : Reg) (i j : Nat) (m v : BitVec 32) :
    (wrMask r i j m v s).pending = s.pending ∧ (wrMask r i j m v s).free = s.free ∧ (wrMask r i j m v s).fuse = s.fuse ∧
    (wrMask r i j m v s).latch = s.latch ∧ (wrMask r i j m v s).units = s.units ∧
    (wrMask r i j m v s).nextEvent = s.nextEvent ∧ (wrMask r i j m v s).events = s.events ∧
    (wrMask r i j m v s).rates = s.rates ∧ (wrMask r i j m v s).faultTimes = s.faultTimes ∧
    (wrMask r i j m v s).suppressed = s.suppressed ∧ (wrMask r i j m v s).fabricFails = s.fabricFails ∧
    (wrMask r i j m v s).skew = s.skew ∧ (wrMask r i j m v s).plan = s.plan ∧ (wrMask r i j m v s).time = s.time ∧
    (wrMask r i j m v s).host = s.host ∧ (wrMask r i j m v s).mgt = s.mgt ∧ (wrMask r i j m v s).pwr = s.pwr ∧
    (wrMask r i j m v s).boot = s.boot ∧ (wrMask r i j m v s).ing = s.ing ∧ (wrMask r i j m v s).tun = s.tun ∧
    (wrMask r i j m v s).chz = s.chz ∧ (wrMask r i j m v s).chzCoef = s.chzCoef ∧ (wrMask r i j m v s).spec = s.spec ∧
    (wrMask r i j m v s).winBank = s.winBank ∧ (wrMask r i j m v s).trig = s.trig ∧ (wrMask r i j m v s).tree = s.tree ∧
    (wrMask r i j m v s).maskBank = s.maskBank ∧ (wrMask r i j m v s).hbm = s.hbm ∧ (wrMask r i j m v s).acq = s.acq ∧
    (wrMask r i j m v s).dens = s.dens ∧ (wrMask r i j m v s).disp = s.disp ∧ (wrMask r i j m v s).tdc = s.tdc ∧
    (wrMask r i j m v s).dsp = s.dsp ∧ (wrMask r i j m v s).dspP = s.dspP ∧ (wrMask r i j m v s).dspX = s.dspX ∧
    (wrMask r i j m v s).dspY = s.dspY ∧ (wrMask r i j m v s).cmp = s.cmp ∧ (wrMask r i j m v s).calRec = s.calRec ∧
    (wrMask r i j m v s).calJob = s.calJob ∧ (wrMask r i j m v s).aux = s.aux ∧ (wrMask r i j m v s).rdata = s.rdata ∧
    (wrMask r i j m v s).ipend = s.ipend :=
  ⟨rfl, rfl, rfl, rfl, rfl, rfl, rfl, rfl, rfl, rfl, rfl, rfl, rfl, rfl, rfl, rfl, rfl, rfl, rfl, rfl, rfl, rfl, rfl,
   rfl, rfl, rfl, rfl, rfl, rfl, rfl, rfl, rfl, rfl, rfl, rfl, rfl, rfl, rfl, rfl, rfl, rfl, rfl⟩

@[simp] theorem wr64_keeps (r : Reg) (i x : Nat) :
    (wr64 r i x s).pending = s.pending ∧ (wr64 r i x s).free = s.free ∧ (wr64 r i x s).fuse = s.fuse ∧
    (wr64 r i x s).latch = s.latch ∧ (wr64 r i x s).units = s.units ∧ (wr64 r i x s).nextEvent = s.nextEvent ∧
    (wr64 r i x s).events = s.events ∧ (wr64 r i x s).rates = s.rates ∧ (wr64 r i x s).faultTimes = s.faultTimes ∧
    (wr64 r i x s).suppressed = s.suppressed ∧ (wr64 r i x s).fabricFails = s.fabricFails ∧
    (wr64 r i x s).skew = s.skew ∧ (wr64 r i x s).plan = s.plan ∧ (wr64 r i x s).time = s.time ∧
    (wr64 r i x s).host = s.host ∧ (wr64 r i x s).mgt = s.mgt ∧ (wr64 r i x s).pwr = s.pwr ∧
    (wr64 r i x s).boot = s.boot ∧ (wr64 r i x s).ing = s.ing ∧ (wr64 r i x s).tun = s.tun ∧
    (wr64 r i x s).chz = s.chz ∧ (wr64 r i x s).chzCoef = s.chzCoef ∧ (wr64 r i x s).spec = s.spec ∧
    (wr64 r i x s).winBank = s.winBank ∧ (wr64 r i x s).trig = s.trig ∧ (wr64 r i x s).tree = s.tree ∧
    (wr64 r i x s).maskBank = s.maskBank ∧ (wr64 r i x s).hbm = s.hbm ∧ (wr64 r i x s).acq = s.acq ∧
    (wr64 r i x s).dens = s.dens ∧ (wr64 r i x s).disp = s.disp ∧ (wr64 r i x s).tdc = s.tdc ∧
    (wr64 r i x s).dsp = s.dsp ∧ (wr64 r i x s).dspP = s.dspP ∧ (wr64 r i x s).dspX = s.dspX ∧
    (wr64 r i x s).dspY = s.dspY ∧ (wr64 r i x s).cmp = s.cmp ∧ (wr64 r i x s).calRec = s.calRec ∧
    (wr64 r i x s).calJob = s.calJob ∧ (wr64 r i x s).aux = s.aux ∧ (wr64 r i x s).rdata = s.rdata ∧
    (wr64 r i x s).ipend = s.ipend :=
  ⟨rfl, rfl, rfl, rfl, rfl, rfl, rfl, rfl, rfl, rfl, rfl, rfl, rfl, rfl, rfl, rfl, rfl, rfl, rfl, rfl, rfl, rfl, rfl,
   rfl, rfl, rfl, rfl, rfl, rfl, rfl, rfl, rfl, rfl, rfl, rfl, rfl, rfl, rfl, rfl, rfl, rfl, rfl⟩

@[simp] theorem setUnit_keeps (u : Nat) (h : UnitRec) :
    (setUnit u h s).pending = s.pending ∧ (setUnit u h s).free = s.free ∧ (setUnit u h s).fuse = s.fuse ∧
    (setUnit u h s).regs = s.regs ∧ (setUnit u h s).latch = s.latch ∧ (setUnit u h s).nextEvent = s.nextEvent ∧
    (setUnit u h s).events = s.events ∧ (setUnit u h s).rates = s.rates ∧ (setUnit u h s).faultTimes = s.faultTimes ∧
    (setUnit u h s).suppressed = s.suppressed ∧ (setUnit u h s).fabricFails = s.fabricFails ∧
    (setUnit u h s).skew = s.skew ∧ (setUnit u h s).plan = s.plan ∧ (setUnit u h s).time = s.time ∧
    (setUnit u h s).host = s.host ∧ (setUnit u h s).mgt = s.mgt ∧ (setUnit u h s).pwr = s.pwr ∧
    (setUnit u h s).boot = s.boot ∧ (setUnit u h s).ing = s.ing ∧ (setUnit u h s).tun = s.tun ∧
    (setUnit u h s).chz = s.chz ∧ (setUnit u h s).chzCoef = s.chzCoef ∧ (setUnit u h s).spec = s.spec ∧
    (setUnit u h s).winBank = s.winBank ∧ (setUnit u h s).trig = s.trig ∧ (setUnit u h s).tree = s.tree ∧
    (setUnit u h s).maskBank = s.maskBank ∧ (setUnit u h s).hbm = s.hbm ∧ (setUnit u h s).acq = s.acq ∧
    (setUnit u h s).dens = s.dens ∧ (setUnit u h s).disp = s.disp ∧ (setUnit u h s).tdc = s.tdc ∧
    (setUnit u h s).dsp = s.dsp ∧ (setUnit u h s).dspP = s.dspP ∧ (setUnit u h s).dspX = s.dspX ∧
    (setUnit u h s).dspY = s.dspY ∧ (setUnit u h s).cmp = s.cmp ∧ (setUnit u h s).calRec = s.calRec ∧
    (setUnit u h s).calJob = s.calJob ∧ (setUnit u h s).aux = s.aux ∧ (setUnit u h s).rdata = s.rdata ∧
    (setUnit u h s).ipend = s.ipend :=
  ⟨rfl, rfl, rfl, rfl, rfl, rfl, rfl, rfl, rfl, rfl, rfl, rfl, rfl, rfl, rfl, rfl, rfl, rfl, rfl, rfl, rfl, rfl, rfl,
   rfl, rfl, rfl, rfl, rfl, rfl, rfl, rfl, rfl, rfl, rfl, rfl, rfl, rfl, rfl, rfl, rfl, rfl, rfl⟩

@[simp] theorem changeState_keeps (u : Nat) (st : UState) :
    (changeState u st s).pending = s.pending ∧ (changeState u st s).free = s.free ∧ (changeState u st s).fuse = s.fuse ∧
    (changeState u st s).regs = s.regs ∧ (changeState u st s).latch = s.latch ∧
    (changeState u st s).nextEvent = s.nextEvent ∧ (changeState u st s).events = s.events ∧
    (changeState u st s).rates = s.rates ∧ (changeState u st s).faultTimes = s.faultTimes ∧
    (changeState u st s).suppressed = s.suppressed ∧ (changeState u st s).fabricFails = s.fabricFails ∧
    (changeState u st s).skew = s.skew ∧ (changeState u st s).plan = s.plan ∧ (changeState u st s).time = s.time ∧
    (changeState u st s).host = s.host ∧ (changeState u st s).mgt = s.mgt ∧ (changeState u st s).pwr = s.pwr ∧
    (changeState u st s).boot = s.boot ∧ (changeState u st s).ing = s.ing ∧ (changeState u st s).tun = s.tun ∧
    (changeState u st s).chz = s.chz ∧ (changeState u st s).chzCoef = s.chzCoef ∧ (changeState u st s).spec = s.spec ∧
    (changeState u st s).winBank = s.winBank ∧ (changeState u st s).trig = s.trig ∧ (changeState u st s).tree = s.tree ∧
    (changeState u st s).maskBank = s.maskBank ∧ (changeState u st s).hbm = s.hbm ∧ (changeState u st s).acq = s.acq ∧
    (changeState u st s).dens = s.dens ∧ (changeState u st s).disp = s.disp ∧ (changeState u st s).tdc = s.tdc ∧
    (changeState u st s).dsp = s.dsp ∧ (changeState u st s).dspP = s.dspP ∧ (changeState u st s).dspX = s.dspX ∧
    (changeState u st s).dspY = s.dspY ∧ (changeState u st s).cmp = s.cmp ∧ (changeState u st s).calRec = s.calRec ∧
    (changeState u st s).calJob = s.calJob ∧ (changeState u st s).aux = s.aux ∧ (changeState u st s).rdata = s.rdata ∧
    (changeState u st s).ipend = s.ipend :=
  ⟨rfl, rfl, rfl, rfl, rfl, rfl, rfl, rfl, rfl, rfl, rfl, rfl, rfl, rfl, rfl, rfl, rfl, rfl, rfl, rfl, rfl, rfl, rfl,
   rfl, rfl, rfl, rfl, rfl, rfl, rfl, rfl, rfl, rfl, rfl, rfl, rfl, rfl, rfl, rfl, rfl, rfl, rfl⟩

@[simp] theorem bumpEpoch_keeps (u : Nat) :
    (bumpEpoch u s).pending = s.pending ∧ (bumpEpoch u s).free = s.free ∧ (bumpEpoch u s).fuse = s.fuse ∧
    (bumpEpoch u s).regs = s.regs ∧ (bumpEpoch u s).latch = s.latch ∧ (bumpEpoch u s).nextEvent = s.nextEvent ∧
    (bumpEpoch u s).events = s.events ∧ (bumpEpoch u s).rates = s.rates ∧ (bumpEpoch u s).faultTimes = s.faultTimes ∧
    (bumpEpoch u s).suppressed = s.suppressed ∧ (bumpEpoch u s).fabricFails = s.fabricFails ∧
    (bumpEpoch u s).skew = s.skew ∧ (bumpEpoch u s).plan = s.plan ∧ (bumpEpoch u s).time = s.time ∧
    (bumpEpoch u s).host = s.host ∧ (bumpEpoch u s).mgt = s.mgt ∧ (bumpEpoch u s).pwr = s.pwr ∧
    (bumpEpoch u s).boot = s.boot ∧ (bumpEpoch u s).ing = s.ing ∧ (bumpEpoch u s).tun = s.tun ∧
    (bumpEpoch u s).chz = s.chz ∧ (bumpEpoch u s).chzCoef = s.chzCoef ∧ (bumpEpoch u s).spec = s.spec ∧
    (bumpEpoch u s).winBank = s.winBank ∧ (bumpEpoch u s).trig = s.trig ∧ (bumpEpoch u s).tree = s.tree ∧
    (bumpEpoch u s).maskBank = s.maskBank ∧ (bumpEpoch u s).hbm = s.hbm ∧ (bumpEpoch u s).acq = s.acq ∧
    (bumpEpoch u s).dens = s.dens ∧ (bumpEpoch u s).disp = s.disp ∧ (bumpEpoch u s).tdc = s.tdc ∧
    (bumpEpoch u s).dsp = s.dsp ∧ (bumpEpoch u s).dspP = s.dspP ∧ (bumpEpoch u s).dspX = s.dspX ∧
    (bumpEpoch u s).dspY = s.dspY ∧ (bumpEpoch u s).cmp = s.cmp ∧ (bumpEpoch u s).calRec = s.calRec ∧
    (bumpEpoch u s).calJob = s.calJob ∧ (bumpEpoch u s).aux = s.aux ∧ (bumpEpoch u s).rdata = s.rdata ∧
    (bumpEpoch u s).ipend = s.ipend :=
  ⟨rfl, rfl, rfl, rfl, rfl, rfl, rfl, rfl, rfl, rfl, rfl, rfl, rfl, rfl, rfl, rfl, rfl, rfl, rfl, rfl, rfl, rfl, rfl,
   rfl, rfl, rfl, rfl, rfl, rfl, rfl, rfl, rfl, rfl, rfl, rfl, rfl, rfl, rfl, rfl, rfl, rfl, rfl⟩

@[simp] theorem setFlume_keeps (f : Nat) (x : Flume) :
    (setFlume f x s).pending = s.pending ∧ (setFlume f x s).free = s.free ∧ (setFlume f x s).fuse = s.fuse ∧
    (setFlume f x s).regs = s.regs ∧ (setFlume f x s).latch = s.latch ∧ (setFlume f x s).units = s.units ∧
    (setFlume f x s).nextEvent = s.nextEvent ∧ (setFlume f x s).events = s.events ∧ (setFlume f x s).rates = s.rates ∧
    (setFlume f x s).faultTimes = s.faultTimes ∧ (setFlume f x s).suppressed = s.suppressed ∧
    (setFlume f x s).fabricFails = s.fabricFails ∧ (setFlume f x s).skew = s.skew ∧ (setFlume f x s).plan = s.plan ∧
    (setFlume f x s).time = s.time ∧ (setFlume f x s).mgt = s.mgt ∧ (setFlume f x s).pwr = s.pwr ∧
    (setFlume f x s).boot = s.boot ∧ (setFlume f x s).ing = s.ing ∧ (setFlume f x s).tun = s.tun ∧
    (setFlume f x s).chz = s.chz ∧ (setFlume f x s).chzCoef = s.chzCoef ∧ (setFlume f x s).spec = s.spec ∧
    (setFlume f x s).winBank = s.winBank ∧ (setFlume f x s).trig = s.trig ∧ (setFlume f x s).tree = s.tree ∧
    (setFlume f x s).maskBank = s.maskBank ∧ (setFlume f x s).hbm = s.hbm ∧ (setFlume f x s).acq = s.acq ∧
    (setFlume f x s).dens = s.dens ∧ (setFlume f x s).disp = s.disp ∧ (setFlume f x s).tdc = s.tdc ∧
    (setFlume f x s).dsp = s.dsp ∧ (setFlume f x s).dspP = s.dspP ∧ (setFlume f x s).dspX = s.dspX ∧
    (setFlume f x s).dspY = s.dspY ∧ (setFlume f x s).cmp = s.cmp ∧ (setFlume f x s).calRec = s.calRec ∧
    (setFlume f x s).calJob = s.calJob ∧ (setFlume f x s).aux = s.aux ∧ (setFlume f x s).rdata = s.rdata ∧
    (setFlume f x s).ipend = s.ipend :=
  ⟨rfl, rfl, rfl, rfl, rfl, rfl, rfl, rfl, rfl, rfl, rfl, rfl, rfl, rfl, rfl, rfl, rfl, rfl, rfl, rfl, rfl, rfl, rfl,
   rfl, rfl, rfl, rfl, rfl, rfl, rfl, rfl, rfl, rfl, rfl, rfl, rfl, rfl, rfl, rfl, rfl, rfl, rfl⟩

/-! Observers of other fields. -/

@[simp] theorem rd_setUnit (u : Nat) (h : UnitRec) (q : Reg) (m n : Nat) : rd (setUnit u h s) q m n = rd s q m n := rfl
@[simp] theorem getF_setUnit (u : Nat) (h : UnitRec) (q : Reg) (m n l z : Nat) : getF (setUnit u h s) q m n l z = getF s q m n l z := rfl
@[simp] theorem getB_setUnit (u : Nat) (h : UnitRec) (q : Reg) (m n l : Nat) : getB (setUnit u h s) q m n l = getB s q m n l := rfl
@[simp] theorem rd_changeState (u : Nat) (st : UState) (q : Reg) (m n : Nat) : rd (changeState u st s) q m n = rd s q m n := rfl
@[simp] theorem getF_changeState (u : Nat) (st : UState) (q : Reg) (m n l z : Nat) : getF (changeState u st s) q m n l z = getF s q m n l z := rfl
@[simp] theorem getB_changeState (u : Nat) (st : UState) (q : Reg) (m n l : Nat) : getB (changeState u st s) q m n l = getB s q m n l := rfl
@[simp] theorem rd_bumpEpoch (u : Nat) (q : Reg) (m n : Nat) : rd (bumpEpoch u s) q m n = rd s q m n := rfl
@[simp] theorem getF_bumpEpoch (u : Nat) (q : Reg) (m n l z : Nat) : getF (bumpEpoch u s) q m n l z = getF s q m n l z := rfl
@[simp] theorem getB_bumpEpoch (u : Nat) (q : Reg) (m n l : Nat) : getB (bumpEpoch u s) q m n l = getB s q m n l := rfl
@[simp] theorem rd_setFlume (f : Nat) (x : Flume) (q : Reg) (m n : Nat) : rd (setFlume f x s) q m n = rd s q m n := rfl
@[simp] theorem getF_setFlume (f : Nat) (x : Flume) (q : Reg) (m n l z : Nat) : getF (setFlume f x s) q m n l z = getF s q m n l z := rfl
@[simp] theorem getB_setFlume (f : Nat) (x : Flume) (q : Reg) (m n l : Nat) : getB (setFlume f x s) q m n l = getB s q m n l := rfl
@[simp] theorem unit_wr (r : Reg) (i j : Nat) (v : BitVec 32) (u0 : Nat) : unit (wr r i j v s) u0 = unit s u0 := rfl
@[simp] theorem ustate_wr (r : Reg) (i j : Nat) (v : BitVec 32) (u0 : Nat) : ustate (wr r i j v s) u0 = ustate s u0 := rfl
@[simp] theorem epochOf_wr (r : Reg) (i j : Nat) (v : BitVec 32) (u0 : Nat) : epochOf (wr r i j v s) u0 = epochOf s u0 := rfl
@[simp] theorem unit_setF (r : Reg) (i j lo w x : Nat) (u0 : Nat) : unit (setF r i j lo w x s) u0 = unit s u0 := rfl
@[simp] theorem ustate_setF (r : Reg) (i j lo w x : Nat) (u0 : Nat) : ustate (setF r i j lo w x s) u0 = ustate s u0 := rfl
@[simp] theorem epochOf_setF (r : Reg) (i j lo w x : Nat) (u0 : Nat) : epochOf (setF r i j lo w x s) u0 = epochOf s u0 := rfl
@[simp] theorem unit_setB (r : Reg) (i j k : Nat) (b : Bool) (u0 : Nat) : unit (setB r i j k b s) u0 = unit s u0 := rfl
@[simp] theorem ustate_setB (r : Reg) (i j k : Nat) (b : Bool) (u0 : Nat) : ustate (setB r i j k b s) u0 = ustate s u0 := rfl
@[simp] theorem epochOf_setB (r : Reg) (i j k : Nat) (b : Bool) (u0 : Nat) : epochOf (setB r i j k b s) u0 = epochOf s u0 := rfl
@[simp] theorem unit_bump (r : Reg) (i j n : Nat) (u0 : Nat) : unit (bump r i j n s) u0 = unit s u0 := rfl
@[simp] theorem ustate_bump (r : Reg) (i j n : Nat) (u0 : Nat) : ustate (bump r i j n s) u0 = ustate s u0 := rfl
@[simp] theorem epochOf_bump (r : Reg) (i j n : Nat) (u0 : Nat) : epochOf (bump r i j n s) u0 = epochOf s u0 := rfl
@[simp] theorem unit_wrMask (r : Reg) (i j : Nat) (m v : BitVec 32) (u0 : Nat) : unit (wrMask r i j m v s) u0 = unit s u0 := rfl
@[simp] theorem ustate_wrMask (r : Reg) (i j : Nat) (m v : BitVec 32) (u0 : Nat) : ustate (wrMask r i j m v s) u0 = ustate s u0 := rfl
@[simp] theorem epochOf_wrMask (r : Reg) (i j : Nat) (m v : BitVec 32) (u0 : Nat) : epochOf (wrMask r i j m v s) u0 = epochOf s u0 := rfl
@[simp] theorem unit_wr64 (r : Reg) (i x : Nat) (u0 : Nat) : unit (wr64 r i x s) u0 = unit s u0 := rfl
@[simp] theorem ustate_wr64 (r : Reg) (i x : Nat) (u0 : Nat) : ustate (wr64 r i x s) u0 = ustate s u0 := rfl
@[simp] theorem epochOf_wr64 (r : Reg) (i x : Nat) (u0 : Nat) : epochOf (wr64 r i x s) u0 = epochOf s u0 := rfl
@[simp] theorem unit_setFlume (f : Nat) (x : Flume) (u0 : Nat) : unit (setFlume f x s) u0 = unit s u0 := rfl
@[simp] theorem ustate_setFlume (f : Nat) (x : Flume) (u0 : Nat) : ustate (setFlume f x s) u0 = ustate s u0 := rfl
@[simp] theorem epochOf_setFlume (f : Nat) (x : Flume) (u0 : Nat) : epochOf (setFlume f x s) u0 = epochOf s u0 := rfl

end Sys2Proof.Machine
end

