-- ==== Sys2Proof/Laws/Regs.lean ====
section
/-! SUPPORT. Laws of the register file and of the unit headers: a read after a write gives the value written, and every
other register, field and header is left alone. -/

namespace Sys2Proof.Machine

/-- The bits that the register file lists for an offset after a write. -/
theorem spGet_wr (s : State) (r : Reg) (i j o : Nat) (v : BitVec 32) :
    spGet (wr r i j v s).regs o 0 = if o = r.off i j then v ^^^ r.resetVal i j else spGet s.regs o 0 :=
  spGet_spPut _ _ _ _ _

theorem spGet_wr_ne (s : State) (r : Reg) (i j : Nat) {o : Nat} (v : BitVec 32) (h : o ≠ r.off i j) :
    spGet (wr r i j v s).regs o 0 = spGet s.regs o 0 := by rw [spGet_wr, if_neg h]

@[simp] theorem rd_wr (s : State) (r : Reg) (i j : Nat) (v : BitVec 32) : rd (wr r i j v s) r i j = v := by
  simp [rd, wr]

/-- A register elsewhere reads as before. -/
theorem rd_of_off {s t : State} {q : Reg} {m n : Nat} (h : spGet t.regs (q.off m n) 0 = spGet s.regs (q.off m n) 0) :
    rd t q m n = rd s q m n := by unfold rd; rw [h]

theorem rd_wr_ne (s : State) {r q : Reg} {i j m n : Nat} (v : BitVec 32) (h : q.off m n ≠ r.off i j) :
    rd (wr r i j v s) q m n = rd s q m n := rd_of_off (spGet_wr_ne s r i j v h)

@[simp] theorem rd_setF (s : State) (r : Reg) (i j lo w x : Nat) :
    rd (setF r i j lo w x s) r i j = setFld (rd s r i j) lo w x := rd_wr _ _ _ _ _

theorem rd_setF_ne (s : State) {r q : Reg} {i j m n : Nat} (lo w x : Nat) (h : q.off m n ≠ r.off i j) :
    rd (setF r i j lo w x s) q m n = rd s q m n := rd_wr_ne _ _ h

@[simp] theorem rd_setB (s : State) (r : Reg) (i j k : Nat) (b : Bool) :
    rd (setB r i j k b s) r i j = setFld (rd s r i j) k 1 (b2n b) := rd_wr _ _ _ _ _

theorem rd_setB_ne (s : State) {r q : Reg} {i j m n : Nat} (k : Nat) (b : Bool) (h : q.off m n ≠ r.off i j) :
    rd (setB r i j k b s) q m n = rd s q m n := rd_wr_ne _ _ h

theorem satU_lt (w x : Nat) : satU w x < 2 ^ w := by
  unfold satU
  split
  · assumption
  · exact Nat.sub_lt (Nat.two_pow_pos w) Nat.one_pos

@[simp] theorem rd_bump (s : State) (r : Reg) (i j n : Nat) :
    rd (bump r i j n s) r i j = BitVec.ofNat 32 (satU 32 ((rd s r i j).toNat + n)) := rd_wr _ _ _ _ _

/-- A bumped counter holds the saturated sum. -/
theorem rd_bump_toNat (s : State) (r : Reg) (i j n : Nat) :
    (rd (bump r i j n s) r i j).toNat = satU 32 ((rd s r i j).toNat + n) := by
  rw [rd_bump, BitVec.toNat_ofNat, Nat.mod_eq_of_lt (satU_lt 32 _)]

theorem rd_bump_ne (s : State) {r q : Reg} {i j m n : Nat} (k : Nat) (h : q.off m n ≠ r.off i j) :
    rd (bump r i j k s) q m n = rd s q m n := rd_wr_ne _ _ h

@[simp] theorem rd_wrMask (s : State) (r : Reg) (i j : Nat) (m v : BitVec 32) :
    rd (wrMask r i j m v s) r i j = (rd s r i j &&& ~~~m) ||| (v &&& m) := rd_wr _ _ _ _ _

theorem rd_wrMask_ne (s : State) {r q : Reg} {i j a b : Nat} (m v : BitVec 32) (h : q.off a b ≠ r.off i j) :
    rd (wrMask r i j m v s) q a b = rd s q a b := rd_wr_ne _ _ h

/-! Fields. -/

theorem getF_setF (s : State) (r : Reg) (i j lo w x : Nat) (h : lo + w ≤ 32) :
    getF (setF r i j lo w x s) r i j lo w = x % 2 ^ w := by simp [getF, fld_setFld_self _ _ _ _ h]

theorem getF_setF_below (s : State) (r : Reg) (i j lo w x a b : Nat) (h : lo + w ≤ 32) (hb : a + b ≤ lo) :
    getF (setF r i j lo w x s) r i j a b = getF s r i j a b := by simp [getF, fld_setFld_below _ _ _ _ _ _ h hb]

theorem getF_setF_above (s : State) (r : Reg) (i j lo w x a b : Nat) (h : lo + w ≤ 32) (hb : lo + w ≤ a) :
    getF (setF r i j lo w x s) r i j a b = getF s r i j a b := by simp [getF, fld_setFld_above _ _ _ _ _ _ h hb]

theorem getB_setB (s : State) (r : Reg) (i j k : Nat) (b : Bool) (h : k < 32) : getB (setB r i j k b s) r i j k = b := by
  simp [getB, bit_eq_fld, fld_setFld_self _ k 1 _ (by omega : k + 1 ≤ 32)]

theorem getB_setB_ne (s : State) (r : Reg) (i j k m : Nat) (b : Bool) (h : k < 32) (hm : m ≠ k) :
    getB (setB r i j k b s) r i j m = getB s r i j m := by
  simp only [getB, bit_eq_fld, rd_setB]
  rcases Nat.lt_or_gt_of_ne hm with h1 | h1
  · rw [fld_setFld_below _ _ _ _ _ _ (by omega) (by omega)]
  · rw [fld_setFld_above _ _ _ _ _ _ (by omega) (by omega)]

theorem getF_of_rd {s t : State} {q : Reg} {m n : Nat} (h : rd t q m n = rd s q m n) (lo w : Nat) :
    getF t q m n lo w = getF s q m n lo w := by simp [getF, h]

theorem getB_of_rd {s t : State} {q : Reg} {m n : Nat} (h : rd t q m n = rd s q m n) (k : Nat) :
    getB t q m n k = getB s q m n k := by simp [getB, h]

/-! Unit headers. -/

@[simp] theorem unit_setUnit (s : State) (u : Nat) (h : UnitRec) : unit (setUnit u h s) u = h := by
  simp [unit, setUnit]

theorem unit_setUnit_ne (s : State) {u w : Nat} (h : UnitRec) (hw : w ≠ u) : unit (setUnit u h s) w = unit s w :=
  spGet_spPut_ne _ _ _ _ hw

@[simp] theorem ustate_changeState (s : State) (u : Nat) (st : UState) : ustate (changeState u st s) u = st := by
  simp [ustate, changeState]

theorem ustate_changeState_ne (s : State) {u w : Nat} (st : UState) (hw : w ≠ u) :
    ustate (changeState u st s) w = ustate s w := by simp [ustate, changeState, unit_setUnit_ne _ _ hw]

@[simp] theorem epochOf_changeState (s : State) (u : Nat) (st : UState) :
    epochOf (changeState u st s) u = epochOf s u + 1 := by simp [epochOf, changeState]

@[simp] theorem epochOf_bumpEpoch (s : State) (u : Nat) : epochOf (bumpEpoch u s) u = epochOf s u + 1 := by
  simp [epochOf, bumpEpoch]

@[simp] theorem ustate_bumpEpoch (s : State) (u w : Nat) : ustate (bumpEpoch u s) w = ustate s w := by
  by_cases h : w = u
  · subst h; simp [ustate, bumpEpoch]
  · simp [ustate, bumpEpoch, unit_setUnit_ne _ _ h]

/-! The flumes' own table. -/

@[simp] theorem flume_setFlume (s : State) (f : Nat) (x : Flume) : flume (setFlume f x s) f = x := by
  simp [flume, setFlume]

theorem flume_setFlume_ne (s : State) {f g : Nat} (x : Flume) (h : g ≠ f) : flume (setFlume f x s) g = flume s g :=
  spGet_spPut_ne _ _ _ _ h

/-! The canonical forms. -/

theorem regsWf_wr {s : State} (r : Reg) (i j : Nat) (v : BitVec 32) (h : spWf 0 s.regs = true) :
    spWf 0 (wr r i j v s).regs = true := spWf_spPut _ _ h

end Sys2Proof.Machine
end

