-- ==== Sys2Proof/Laws/Report.lean ====
section
/-! SUPPORT. What reporting can do: the events, the audit log, FAULT_N, interrupts and fault records change the state only as
Reported says. One lemma for each shared operation of Ops that reports. -/

namespace Sys2Proof.Machine

/-- The register words that events, audit entries and interrupts touch. -/
def eventOffs : List Nat :=
  [Reg.off .hostFlumeSeq 0 0, Reg.off .hostFlumeSeq 1 0, Reg.off .hostFlumeCount 0 1, Reg.off .hostCount 0 1,
   Reg.off .auditSeq 0 0, Reg.off .auditCopy 0 0, Reg.off .auditOldest 0 0, Reg.off .auditLost 0 0]

/-- Those that fault records touch as well. -/
def faultOffs : List Nat :=
  eventOffs ++ (List.range 16).map (Reg.off .globalFaultLast 0) ++ (List.range 7).map (Reg.off .globalFaultCount 0)
    ++ [Reg.off .globalFaultStatus 0 0]

/-- t is s after reports that touch registers of ro alone. -/
structure Reported (ro : List Nat) (s t : State) : Prop where
  pending : t.pending = s.pending
  free : t.free = s.free
  fuse : t.fuse = s.fuse
  latch : t.latch = s.latch
  units : t.units = s.units
  fabricFails : t.fabricFails = s.fabricFails
  skew : t.skew = s.skew
  plan : t.plan = s.plan
  time : t.time = s.time
  pwr : t.pwr = s.pwr
  ing : t.ing = s.ing
  tun : t.tun = s.tun
  chz : t.chz = s.chz
  chzCoef : t.chzCoef = s.chzCoef
  spec : t.spec = s.spec
  winBank : t.winBank = s.winBank
  trig : t.trig = s.trig
  tree : t.tree = s.tree
  maskBank : t.maskBank = s.maskBank
  hbm : t.hbm = s.hbm
  acq : t.acq = s.acq
  dens : t.dens = s.dens
  disp : t.disp = s.disp
  tdc : t.tdc = s.tdc
  dsp : t.dsp = s.dsp
  dspP : t.dspP = s.dspP
  dspX : t.dspX = s.dspX
  dspY : t.dspY = s.dspY
  cmp : t.cmp = s.cmp
  calRec : t.calRec = s.calRec
  calJob : t.calJob = s.calJob
  aux : t.aux = s.aux
  rdata : t.rdata = s.rdata
  ipend : t.ipend = s.ipend
  boot : t.boot = { s.boot with faultN := t.boot.faultN }
  mgt : t.mgt = { s.mgt with log := t.mgt.log }
  host : t.host = { s.host with flumes := t.host.flumes, out := t.host.out, msixPending := t.host.msixPending }
  flumes : ∀ f, 2 ≤ f → flume t f = flume s f
  events : ∃ new, t.events = new ++ s.events
  regs : ∀ o, o ∉ ro → spGet t.regs o 0 = spGet s.regs o 0
  regsWf : spWf 0 s.regs = true → spWf 0 t.regs = true

namespace Reported

variable {ro : List Nat} {s t u : State}

theorem refl (ro : List Nat) (s : State) : Reported ro s s := by
  constructor <;> first | rfl | exact ⟨[], rfl⟩ | (intros; first | rfl | assumption)

theorem trans (h : Reported ro s t) (k : Reported ro t u) : Reported ro s u := by
  constructor
  case boot => rw [k.boot, h.boot]
  case mgt => rw [k.mgt, h.mgt]
  case host => rw [k.host, h.host]
  case flumes => intro f hf; rw [k.flumes f hf, h.flumes f hf]
  case events =>
    obtain ⟨a, ha⟩ := h.events
    obtain ⟨b, hb⟩ := k.events
    exact ⟨b ++ a, by rw [hb, ha, List.append_assoc]⟩
  case regs => intro o ho; rw [k.regs o ho, h.regs o ho]
  case regsWf => exact fun hw => k.regsWf (h.regsWf hw)
  case pending => rw [k.pending, h.pending]
  case free => rw [k.free, h.free]
  case fuse => rw [k.fuse, h.fuse]
  case latch => rw [k.latch, h.latch]
  case units => rw [k.units, h.units]
  case fabricFails => rw [k.fabricFails, h.fabricFails]
  case skew => rw [k.skew, h.skew]
  case plan => rw [k.plan, h.plan]
  case time => rw [k.time, h.time]
  case pwr => rw [k.pwr, h.pwr]
  case ing => rw [k.ing, h.ing]
  case tun => rw [k.tun, h.tun]
  case chz => rw [k.chz, h.chz]
  case chzCoef => rw [k.chzCoef, h.chzCoef]
  case spec => rw [k.spec, h.spec]
  case winBank => rw [k.winBank, h.winBank]
  case trig => rw [k.trig, h.trig]
  case tree => rw [k.tree, h.tree]
  case maskBank => rw [k.maskBank, h.maskBank]
  case hbm => rw [k.hbm, h.hbm]
  case acq => rw [k.acq, h.acq]
  case dens => rw [k.dens, h.dens]
  case disp => rw [k.disp, h.disp]
  case tdc => rw [k.tdc, h.tdc]
  case dsp => rw [k.dsp, h.dsp]
  case dspP => rw [k.dspP, h.dspP]
  case dspX => rw [k.dspX, h.dspX]
  case dspY => rw [k.dspY, h.dspY]
  case cmp => rw [k.cmp, h.cmp]
  case calRec => rw [k.calRec, h.calRec]
  case calJob => rw [k.calJob, h.calJob]
  case aux => rw [k.aux, h.aux]
  case rdata => rw [k.rdata, h.rdata]
  case ipend => rw [k.ipend, h.ipend]

theorem mono {ro' : List Nat} (h : Reported ro s t) (hs : ∀ o ∈ ro, o ∈ ro') : Reported ro' s t :=
  { h with regs := fun o ho => h.regs o fun hh => ho (hs o hh) }

/-- A register outside those reads as before. -/
theorem rd_eq (h : Reported ro s t) (r : Reg) (i j : Nat) (ho : r.off i j ∉ ro) : rd t r i j = rd s r i j :=
  rd_of_off (h.regs _ ho)

theorem unit_eq (h : Reported ro s t) (w : Nat) : unit t w = unit s w := by unfold unit; rw [h.units]
theorem ustate_eq (h : Reported ro s t) (w : Nat) : ustate t w = ustate s w := by unfold ustate; rw [h.unit_eq]
theorem epochOf_eq (h : Reported ro s t) (w : Nat) : epochOf t w = epochOf s w := by unfold epochOf; rw [h.unit_eq]

end Reported

/-! The operations. -/

theorem Reported.wr {ro : List Nat} {s : State} {r : Reg} {i j : Nat} (v : BitVec 32) (h : r.off i j ∈ ro) :
    Reported ro s (wr r i j v s) := by
  have he : ∀ o, o ∉ ro → spGet (Machine.wr r i j v s).regs o 0 = spGet s.regs o 0 :=
    fun o ho => spGet_wr_ne s r i j v fun hh => ho (hh ▸ h)
  have hw : spWf 0 s.regs = true → spWf 0 (Machine.wr r i j v s).regs = true := regsWf_wr r i j v
  exact { Reported.refl ro s with regs := he, regsWf := hw }

theorem bump_reported {ro : List Nat} {s : State} {r : Reg} {i j : Nat} (n : Nat) (h : r.off i j ∈ ro) :
    Reported ro s (bump r i j n s) := Reported.wr _ h

theorem setB_reported {ro : List Nat} {s : State} {r : Reg} {i j : Nat} (k : Nat) (b : Bool) (h : r.off i j ∈ ro) :
    Reported ro s (setB r i j k b s) := Reported.wr _ h

theorem setFlume_reported {ro : List Nat} {s : State} {f : Nat} (x : Flume) (h : f < 2) :
    Reported ro s (setFlume f x s) :=
  { Reported.refl ro s with
    host := rfl, flumes := fun g hg => flume_setFlume_ne s x (by omega) }

theorem stageRec_reported (s : State) (f : Nat) (r : StagedRec) (h : f < 2) : Reported eventOffs s (stageRec f r s) := by
  unfold stageRec takeSeq
  refine Reported.trans (Reported.wr _ ?_) (setFlume_reported _ h)
  have : f = 0 ∨ f = 1 := by omega
  rcases this with rfl | rfl <;> decide

theorem dropRec0_reported (s : State) : Reported eventOffs s (dropRec 0 s) := by
  unfold dropRec takeSeq
  refine Reported.trans (Reported.trans (Reported.wr _ (by decide)) (bump_reported 1 (by decide))) (setFlume_reported _ (by decide))

theorem commitEvent_reported (ro : List Nat) (t : Stamp) (c u : Nat) (f d : Bool) (data : List EvField) (s : State) :
    Reported ro s (commitEvent t c u f d data s).2 :=
  { Reported.refl ro s with events := ⟨[_], rfl⟩ }

theorem rateAdd_reported (ro : List Nat) (c u : Nat) (q : List EvField) (n : Nat) (tl : List EvField) (s : State) :
    Reported ro s (rateAdd c u q n tl s) := { Reported.refl ro s with }

theorem rateOpen_reported (ro : List Nat) (c u : Nat) (q : List EvField) (s : State) :
    Reported ro s (rateOpen c u q s) := { Reported.refl ro s with }

theorem deliver0_reported (e : EventRec) (s : State) : Reported eventOffs s (deliver0 e s).1 := by
  unfold deliver0
  split
  · exact bump_reported 1 (by decide)
  · split
    · exact stageRec_reported s 0 _ (by decide)
    · exact dropRec0_reported s

/-- The report of a drop at flume 0. -/
theorem dropReport0_reported (s : State) : Reported eventOffs s (dropReport0 s) := by
  unfold dropReport0
  split
  · exact rateAdd_reported _ _ _ _ _ _ _
  · have h := Reported.trans (commitEvent_reported eventOffs (eventTime s) 0x0D02 0x200 false true [.u16 0, .u32 1] s)
      (Reported.trans (rateOpen_reported _ 0x0D02 0x200 [.u16 0] _)
        (deliver0_reported (commitEvent (eventTime s) 0x0D02 0x200 false true [.u16 0, .u32 1] s).1 _))
    dsimp only
    split
    · exact h.trans (rateAdd_reported _ _ _ _ _ _ _)
    · exact h

theorem raiseFull_reported (t : Stamp) (c u : Nat) (f d : Bool) (data : List EvField) (s : State) :
    Reported eventOffs s (raiseFull t c u f d data s) := by
  unfold raiseFull
  have h := (commitEvent_reported eventOffs t c u f d data s).trans
    (deliver0_reported (commitEvent t c u f d data s).1 (commitEvent t c u f d data s).2)
  dsimp only
  split
  · exact h.trans (dropReport0_reported _)
  · exact h

theorem raiseAt_reported (t : Stamp) (c u : Nat) (f : Bool) (data : List EvField) (s : State) :
    Reported eventOffs s (raiseAt t c u f data s) := raiseFull_reported _ _ _ _ _ _ _

/-- An event report. -/
theorem raise_reported (c u : Nat) (data : List EvField) (s : State) : Reported eventOffs s (raise c u data s) :=
  raiseFull_reported _ _ _ _ _ _ _

theorem raiseWithSeq_reported (n c u : Nat) (failed : Bool) (data : List EvField) (s : State) :
    Reported eventOffs s (raiseWithSeq n c u failed data s) := by
  unfold raiseWithSeq
  refine Reported.trans ?_ (deliver0_reported _ _)
  exact { Reported.refl eventOffs s with events := ⟨[_], rfl⟩ }

theorem raiseRatedT_reported (c u : Nat) (q : List EvField) (n : Nat) (tl : List EvField) (s : State) :
    Reported eventOffs s (raiseRatedT c u q n tl s) := by
  unfold raiseRatedT
  split
  · exact Reported.refl _ _
  · split
    · exact rateAdd_reported _ _ _ _ _ _ _
    · exact Reported.trans (raise_reported _ _ _ _) (rateOpen_reported _ _ _ _ _)

/-- An event report of at most one a millisecond. -/
theorem raiseRated_reported (c u : Nat) (q : List EvField) (n : Nat) (s : State) :
    Reported eventOffs s (raiseRated c u q n s) := raiseRatedT_reported _ _ _ _ _ _

theorem auditRecord_reported (s : State) : Reported eventOffs s (auditRecord s) := by
  unfold auditRecord
  dsimp only
  split
  · exact Reported.refl _ _
  · split
    · exact Reported.trans (Reported.wr _ (by decide)) (stageRec_reported _ 1 _ (by decide))
    · exact Reported.refl _ _

theorem withLog_reported (ro : List Nat) (s : State) (l : List AuditEntry) :
    Reported ro s { s with mgt := { s.mgt with log := l } } := { Reported.refl ro s with mgt := rfl }

theorem auditPush_reported (e : AuditEntry) (s : State) : Reported eventOffs s (auditPush e s) := by
  unfold auditPush
  split
  · exact withLog_reported _ _ _
  · have h : Reported eventOffs s
        (Machine.wr .auditOldest 0 0 (rd s .auditOldest 0 0 + 1) { s with mgt := { s.mgt with log := s.mgt.log.drop 1 ++ [e] } }) :=
      Reported.trans (withLog_reported _ _ _) (Reported.wr _ (by decide))
    dsimp only
    split
    · exact h.trans (Reported.trans (Reported.wr _ (by decide))
        (Reported.trans (bump_reported 1 (by decide)) (raiseRated_reported _ _ _ _ _)))
    · exact h

/-- An audit entry. -/
theorem audit_reported (k : Nat) (ag : AgentId) (c tg v : Nat) (s : State) : Reported eventOffs s (audit k ag c tg v s) := by
  unfold audit
  have h := fun e : AuditEntry =>
    Reported.trans (Reported.wr (ro := eventOffs) (s := s) (r := .auditSeq) (i := 0) (j := 0) (rd s .auditSeq 0 0 + 1) (by decide))
      (auditPush_reported e _)
  dsimp only
  split
  · exact (h _).trans (auditRecord_reported _)
  · exact h _

theorem refuse_reported (ag : AgentId) (o : Nat) (v : BitVec 32) (c : Nat) (s : State) :
    Reported eventOffs s (refuse ag o v c s) := audit_reported _ _ _ _ _ _

theorem ignored_reported (ag : AgentId) (o c : Nat) (s : State) : Reported eventOffs s (ignored ag o c s) :=
  audit_reported _ _ _ _ _ _

theorem msixDeliver_reported (ro : List Nat) (fn v : Nat) (s : State) : Reported ro s (msixDeliver fn v s) := by
  unfold msixDeliver
  dsimp only
  split
  · exact { Reported.refl ro s with host := rfl }
  · exact { Reported.refl ro s with host := rfl }

theorem foldl_reported {ro : List Nat} {β : Type} (f : State → β → State) (hf : ∀ s b, Reported ro s (f s b)) (l : List β) :
    ∀ s, Reported ro s (l.foldl f s) := by
  induction l with
  | nil => exact fun s => Reported.refl ro s
  | cons b r ih => exact fun s => (hf s b).trans (ih _)

theorem msixSignal_reported (ro : List Nat) (fn v : Nat) (s : State) : Reported ro s (msixSignal fn v s) := by
  unfold msixSignal
  dsimp only
  split
  · exact Reported.refl ro s
  · refine foldl_reported _ (fun s h => ?_) _ s
    split
    · exact msixDeliver_reported _ _ _ _
    · exact Reported.refl ro s

theorem irqSource_reported (ro : List Nat) (k : Nat) (s : State) : Reported ro s (irqSource k s) := by
  unfold irqSource
  dsimp only
  split
  · exact msixSignal_reported _ _ _ _
  · exact Reported.refl ro s

/-- FAULT_N follows its bits. -/
theorem updFaultN_reported (ro : List Nat) (s : State) : Reported ro s (updFaultN s) := by
  unfold updFaultN
  have h : Reported ro s { s with boot := { s.boot with faultN := faultLevel s } } :=
    { Reported.refl ro s with boot := rfl }
  dsimp only
  split
  · exact h.trans (irqSource_reported _ _ _)
  · exact h

theorem eventOffs_sub : ∀ o ∈ eventOffs, o ∈ faultOffs := fun o ho => by simp [faultOffs, ho]

/-- A fault record. -/
theorem faultRecord_reported (kind op u cause : Nat) (ag : AgentId) (t : Stamp) (t2 : Option Stamp) (ref ev : Nat) (origin : BitVec 64)
    (detail : List Word) (s : State) :
    Reported faultOffs s (faultRecord kind op u cause ag t t2 ref ev origin detail s) := by
  unfold faultRecord
  dsimp only
  have h1 : ∀ x : State, Reported faultOffs s x → ∀ p : List Word, Reported faultOffs s
      ((List.range 16).foldl (fun s i => Machine.wr .globalFaultLast 0 i (p.getD i 0) s) x) := by
    intro x hx p
    refine hx.trans ?_
    have : ∀ n ≤ 16, ∀ y : State, Reported faultOffs y
        ((List.range n).foldl (fun s i => Machine.wr .globalFaultLast 0 i (p.getD i 0) s) y) := by
      intro n
      induction n with
      | zero => exact fun _ y => Reported.refl _ y
      | succ n ih =>
        intro hn y
        rw [List.range_succ, List.foldl_append]
        refine (ih (by omega) y).trans (Reported.wr _ ?_)
        simp only [faultOffs, List.mem_append, List.mem_map, List.mem_range]
        exact .inl (.inl (.inr ⟨n, by omega, rfl⟩))
    exact this 16 (Nat.le_refl _) x
  split
  · have h2 : ∀ l : List Nat, Reported faultOffs s { s with faultTimes := l, suppressed := 0 } :=
      fun l => { Reported.refl faultOffs s with }
    split
    · exact (h1 _ (h2 _) _).trans ((stageRec_reported _ 0 _ (by decide)).mono eventOffs_sub)
    · have h3 : ∀ x : State, Reported faultOffs x (if fstate x 0 = 1 then dropReport0 (dropRec 0 x) else x) := by
        intro x
        split
        · exact ((dropRec0_reported x).trans (dropReport0_reported _)).mono eventOffs_sub
        · exact Reported.refl _ x
      exact (h1 _ (h2 _) _).trans ((h3 _).trans ((bump_reported (ro := faultOffs) 1 (by decide)).trans
        ((setB_reported (ro := faultOffs) 11 true (by decide)).trans (updFaultN_reported _ _))))
  · exact Reported.trans (bump_reported 1 (by decide)) { Reported.refl faultOffs _ with }

/-- A lasting fault. -/
theorem faultLasting_reported (op u : Nat) (ag : AgentId) (ref : Nat) (origin : BitVec 64) (detail : List Word) (s : State) :
    Reported faultOffs s (faultLasting op u ag ref origin detail s) := by
  unfold faultLasting faultLastingAt
  refine Reported.trans ?_ (updFaultN_reported _ _)
  refine Reported.trans ?_ (faultRecord_reported _ _ _ _ _ _ _ _ _ _ _ _)
  exact Reported.trans (Reported.trans (bump_reported 1 (by decide)) (setB_reported _ _ (by decide)))
    ((raise_reported _ _ _ _).mono eventOffs_sub)

theorem faultTransient_reported (s : State) : Reported faultOffs s (faultTransient s) := bump_reported 1 (by decide)

/-- The report of an entry to FAULT (kind 1) or FROZEN (kind 2). -/
theorem reportFault_reported (kind u cause : Nat) (prev : UState) (detail : List Word) (s : State) (hk : kind < 3) :
    Reported faultOffs s (reportFault kind u cause prev detail s) := by
  unfold reportFault
  refine Reported.trans ?_ (updFaultN_reported _ _)
  refine Reported.trans ?_ (faultRecord_reported _ _ _ _ _ _ _ _ _ _ _ _)
  refine Reported.trans (bump_reported 1 ?_) ((raise_reported _ _ _ _).mono eventOffs_sub)
  have : kind = 0 ∨ kind = 1 ∨ kind = 2 := by omega
  rcases this with rfl | rfl | rfl <;> decide

/-- UNIT_RECOVERED. -/
theorem recovered_reported (u : Nat) (s : State) : Reported eventOffs s (recovered u s) :=
  (raise_reported _ _ _ _).trans (updFaultN_reported _ _)

/-! Entries to FAULT and FROZEN: the unit's header changes, the rest is a report. -/

/-- A live unit that faults is in FAULT with its cause and a new epoch. -/
theorem enterFaultW_unit (u cause detail : Nat) (ws : List Word) (s : State) (h : (ustate s u).live = true) :
    unit (enterFaultW u cause detail ws s) u =
      { unit s u with state := .fault, epoch := (unit s u).epoch + 1, cause := cause, detail := detail,
                      faultCount := satU 8 ((unit s u).faultCount + 1) } := by
  unfold enterFaultW
  dsimp only
  have hl : (unit s u).state.live = true := h
  rw [if_pos hl, (reportFault_reported 1 u cause _ ws _ (by decide)).unit_eq]
  simp

theorem enterFaultW_dead (u cause detail : Nat) (ws : List Word) (s : State) (h : (ustate s u).live = false) :
    enterFaultW u cause detail ws s = s := by
  unfold enterFaultW
  have hl : (unit s u).state.live = false := h
  simp [hl]

theorem enterFaultW_other (u cause detail : Nat) (ws : List Word) (s : State) {w : Nat} (hw : w ≠ u) :
    unit (enterFaultW u cause detail ws s) w = unit s w := by
  unfold enterFaultW
  dsimp only
  split
  · rw [(reportFault_reported 1 u cause _ ws _ (by decide)).unit_eq, unit_setUnit_ne _ _ hw]
  · rfl

/-- The newest event of a report is the one raised. -/
theorem commitEvent_events (t : Stamp) (c u : Nat) (f d : Bool) (data : List EvField) (s : State) :
    (commitEvent t c u f d data s).2.events = (commitEvent t c u f d data s).1 :: s.events := rfl

end Sys2Proof.Machine
end

