-- ==== Sys2Proof/Laws/Access.lean ====
section
/-! SUPPORT. What a write through the access rules does, and what events a report leaves: the laws of guardRes, guardW and
Raised. -/

namespace Sys2Proof.Machine

/-- An accepted write: the effect, with its audit entry where the block is logged. -/
theorem guardW_ok {s : State} {ag : AgentId} {off : Nat} (v : BitVec 32) {eff : State → WRes}
    (h : WriteOpen s ag off) (he : (eff s).2 = 0) :
    guardW ag off v eff s = if writeLogged s off then audit 0x01 ag 0 off v.toNat (eff s).1 else (eff s).1 := by
  simp [guardW, guardRes, h.1, h.2, he]

/-- A write whose effect has dealt with its own audit entry. -/
theorem guardW_done {s : State} {ag : AgentId} {off : Nat} (v : BitVec 32) {eff : State → WRes}
    (h : WriteOpen s ag off) (he : (eff s).2 = 99) : guardW ag off v eff s = (eff s).1 := by
  simp [guardW, guardRes, h.1, h.2, he]

/-- A write that its effect refuses. -/
theorem guardW_refused {s : State} {ag : AgentId} {off : Nat} (v : BitVec 32) {eff : State → WRes}
    (h : WriteOpen s ag off) (he : (eff s).2 ≠ 0) (h7 : (eff s).2 ≠ 97) (h9 : (eff s).2 ≠ 99) :
    guardW ag off v eff s = refuse ag off v (eff s).2 (eff s).1 := by
  simp [guardW, guardRes, h.1, h.2, he, h7, h9]

/-- The audit entry of an accepted write, where its block is logged. -/
theorem logged_reported (ag : AgentId) (off : Nat) (v : BitVec 32) (b : Bool) (s : State) :
    Reported eventOffs s (if b then audit 0x01 ag 0 off v.toNat s else s) := by
  split
  · exact audit_reported _ _ _ _ _ _
  · exact Reported.refl _ _

/-- Whatever the effect answers, an open write reports after it. -/
theorem guardW_open {s : State} {ag : AgentId} {off : Nat} (v : BitVec 32) {eff : State → WRes} (h : WriteOpen s ag off) :
    Reported eventOffs (eff s).1 (guardW ag off v eff s) := by
  have hl := logged_reported ag off v (writeLogged s off) (eff s).1
  by_cases h0 : (eff s).2 = 0
  · rw [guardW_ok v h h0]; exact hl
  · by_cases h7 : (eff s).2 = 97
    · have : guardW ag off v eff s =
          refuse ag off v 3 (if writeLogged s off then audit 0x01 ag 0 off v.toNat (eff s).1 else (eff s).1) := by
        simp [guardW, guardRes, h.1, h.2, h7]
      rw [this]
      exact hl.trans (refuse_reported _ _ _ _ _)
    · by_cases h9 : (eff s).2 = 99
      · rw [guardW_done v h h9]; exact Reported.refl _ _
      · rw [guardW_refused v h h0 h7 h9]; exact refuse_reported _ _ _ _ _

/-- A write that the rules of access refuse reports, and does nothing else. -/
theorem guardW_shut {s : State} {ag : AgentId} {off c : Nat} (v : BitVec 32) (eff : State → WRes)
    (h : accessRefusal s ag off = some c) : Reported eventOffs s (guardW ag off v eff s) := by
  unfold guardW guardRes
  split
  · exact Reported.refl _ _
  · rw [h]
    exact refuse_reported _ _ _ _ _

/-! Events. -/

theorem Raised.of_new {s t : State} {code u : Nat} {new : List EventRec} (h : t.events = new ++ s.events)
    (he : ∃ e ∈ new, e.code = code ∧ e.unit = u) : Raised s t code u := ⟨new, h, he⟩

/-- An event raised between s and t has been raised by u as well. -/
theorem Raised.later {ro : List Nat} {s t u : State} {code n : Nat} (h : Raised s t code n) (k : Reported ro t u) :
    Raised s u code n := by
  obtain ⟨a, ha, e, he, h1⟩ := h
  obtain ⟨b, hb⟩ := k.events
  exact ⟨b ++ a, by rw [hb, ha, List.append_assoc], e, by simp [he], h1⟩

/-- What was raised after an older state with the same history has been raised since. -/
theorem Raised.since {ro : List Nat} {s t u : State} {code n : Nat} (h : Reported ro s t) (k : Raised t u code n) :
    Raised s u code n := by
  obtain ⟨a, ha, e, he, h1⟩ := k
  obtain ⟨b, hb⟩ := h.events
  exact ⟨a ++ b, by rw [ha, hb, List.append_assoc], e, by simp [he], h1⟩

theorem Raised.of_events {s s' t t' : State} {code n : Nat} (h : Raised s t code n) (hs : s'.events = s.events)
    (ht : t'.events = t.events) : Raised s' t' code n := by
  obtain ⟨a, ha, e, he, h1⟩ := h
  exact ⟨a, by rw [ht, hs, ha], e, he, h1⟩

theorem raiseFull_raised (t : Stamp) (c u : Nat) (f d : Bool) (data : List EvField) (s : State) :
    Raised s (raiseFull t c u f d data s) c u := by
  have h0 : Raised s (commitEvent t c u f d data s).2 c u :=
    ⟨[(commitEvent t c u f d data s).1], rfl, _, List.mem_singleton.mpr rfl, rfl, rfl⟩
  have h1 := h0.later (deliver0_reported (commitEvent t c u f d data s).1 (commitEvent t c u f d data s).2)
  unfold raiseFull
  dsimp only
  split
  · exact h1.later (dropReport0_reported _)
  · exact h1

/-- A report raises its event. -/
theorem raise_raised (c u : Nat) (data : List EvField) (s : State) : Raised s (raise c u data s) c u :=
  raiseFull_raised _ _ _ _ _ _ _

/-- A rated report raises its event where its window does not run. -/
theorem raiseRatedT_raised (c u : Nat) (q : List EvField) (n : Nat) (tl : List EvField) (s : State) (hn : n ≠ 0)
    (h : rateFind s c u q = none) : Raised s (raiseRatedT c u q n tl s) c u := by
  unfold raiseRatedT
  rw [if_neg hn, h]
  exact (raise_raised _ _ _ _).later (rateOpen_reported eventOffs _ _ _ _)

end Sys2Proof.Machine
end

