-- ==== Sys2Proof/Laws/Memory.lean ====
section
/-! SUPPORT. Laws of the HBM memory: a byte read after a store, what a store leaves alone, and that every memory operation
keeps the canonical form, which the reset state has. -/

namespace Sys2Proof.Machine

variable {d : Nat → Byte}

theorem memGet_memDel_self (m : List Host.Cell) (a : Nat) : memGet d (memDel m a) a = d a := by
  induction m with
  | nil => rfl
  | cons c r ih =>
    obtain ⟨k, b⟩ := c
    by_cases h : k = a <;> simp [memDel, memGet, h, ih]

theorem memGet_memDel_ne (m : List Host.Cell) {a o : Nat} (h : o ≠ a) : memGet d (memDel m a) o = memGet d m o := by
  induction m with
  | nil => rfl
  | cons c r ih =>
    obtain ⟨k, b⟩ := c
    by_cases h1 : k = a
    · have h2 : ¬ k = o := fun hh => h (hh.symm.trans h1)
      simp only [memDel, h1, if_true, memGet]
      rw [if_neg (h1 ▸ h2), ih]
    · simp only [memDel, h1, if_false, memGet, ih]

theorem memGet_memIns_ne (m : List Host.Cell) {a o : Nat} (v : Byte) (h : o ≠ a) :
    memGet d (memIns m a v) o = memGet d m o := by
  induction m with
  | nil => simp [memIns, memGet, h.symm]
  | cons c r ih =>
    obtain ⟨k, b⟩ := c
    by_cases h1 : a < k
    · simp [memIns, memGet, h1, h.symm]
    · simp [memIns, memGet, h1, ih]

theorem memGet_memIns_self (m : List Host.Cell) (a : Nat) (v : Byte) : memGet d (memIns (memDel m a) a v) a = v := by
  induction m with
  | nil => simp [memDel, memIns, memGet]
  | cons c r ih =>
    obtain ⟨k, b⟩ := c
    by_cases h : k = a
    · simpa [memDel, h] using ih
    · by_cases h1 : a < k
      · simp [memDel, memIns, memGet, h, h1]
      · simp [memDel, memIns, memGet, h, h1, ih]

/-- A byte reads as stored. -/
@[simp] theorem memGet_memSet_self (m : List Host.Cell) (a : Nat) (v : Byte) : memGet d (memSet d m a v) a = v := by
  unfold memSet
  split
  · rename_i h
    rw [memGet_memDel_self, h]
  · exact memGet_memIns_self m a v

/-- A store leaves every other byte alone. -/
theorem memGet_memSet_ne (m : List Host.Cell) {a o : Nat} (v : Byte) (h : o ≠ a) :
    memGet d (memSet d m a v) o = memGet d m o := by
  unfold memSet
  split
  · exact memGet_memDel_ne m h
  · rw [memGet_memIns_ne _ _ h, memGet_memDel_ne m h]

theorem memWfFrom_mono {lo hi : Nat} {m : List Host.Cell} (h : lo ≤ hi) (hw : memWfFrom d hi m = true) :
    memWfFrom d lo m = true := by
  cases m with
  | nil => rfl
  | cons c r =>
    obtain ⟨k, b⟩ := c
    simp [memWfFrom] at hw ⊢
    exact ⟨⟨by omega, hw.1.2⟩, hw.2⟩

theorem memWfFrom_filter (p : Host.Cell → Bool) {m : List Host.Cell} :
    ∀ {lo : Nat}, memWfFrom d lo m = true → memWfFrom d lo (m.filter p) = true := by
  induction m with
  | nil => intro lo h; exact h
  | cons c r ih =>
    intro lo h
    obtain ⟨k, b⟩ := c
    simp [memWfFrom] at h
    by_cases hp : p (k, b) = true
    · rw [List.filter_cons_of_pos hp]
      simp [memWfFrom, h.1, ih h.2]
    · rw [List.filter_cons_of_neg hp]
      exact memWfFrom_mono (by omega) (ih h.2)

theorem memWfFrom_congr {e : Nat → Byte} {m : List Host.Cell} (h : ∀ c ∈ m, e c.1 = d c.1) :
    ∀ {lo : Nat}, memWfFrom d lo m = true → memWfFrom e lo m = true := by
  induction m with
  | nil => intro lo hw; exact hw
  | cons c r ih =>
    intro lo hw
    obtain ⟨k, b⟩ := c
    have hk : e k = d k := h (k, b) (by simp)
    simp [memWfFrom] at hw ⊢
    exact ⟨⟨hw.1.1, hk ▸ hw.1.2⟩, ih (fun x hx => h x (by simp [hx])) hw.2⟩

theorem memDel_eq_filter (m : List Host.Cell) (a : Nat) : memDel m a = m.filter fun c => c.1 != a := by
  induction m with
  | nil => rfl
  | cons c r ih =>
    obtain ⟨k, b⟩ := c
    by_cases h : k = a <;> simp [memDel, h, ih]

theorem memWfFrom_memIns {a : Nat} {v : Byte} (hv : v ≠ d a) {m : List Host.Cell} (hk : ∀ c ∈ m, c.1 ≠ a) :
    ∀ {lo : Nat}, lo ≤ a → memWfFrom d lo m = true → memWfFrom d lo (memIns m a v) = true := by
  induction m with
  | nil => intro lo h _; simp [memIns, memWfFrom, h, hv]
  | cons c r ih =>
    intro lo h hw
    obtain ⟨k, b⟩ := c
    have hj : k ≠ a := hk (k, b) (by simp)
    simp [memWfFrom] at hw
    by_cases h1 : a < k
    · have h2 : a + 1 ≤ k := by omega
      simp [memIns, h1, memWfFrom, h, hv, hw.1.2, hw.2, h2]
    · simp [memIns, h1, memWfFrom, hw.1]
      exact ih (fun x hx => hk x (by simp [hx])) (by omega) hw.2

/-- A store keeps the canonical form. -/
theorem memWf_memSet {m : List Host.Cell} (a : Nat) (v : Byte) (h : memWf d m = true) : memWf d (memSet d m a v) = true := by
  have h1 : memWf d (memDel m a) = true := by
    rw [memDel_eq_filter]
    exact memWfFrom_filter _ h
  unfold memSet
  split
  · exact h1
  · refine memWfFrom_memIns ‹_› ?_ (Nat.zero_le _) h1
    intro c hc
    rw [memDel_eq_filter] at hc
    simp at hc
    exact hc.2

/-! The operations over the state's memory. -/

/-- Reports leave HBM alone. -/
theorem Reported.memWf {ro : List Nat} {s t : State} (h : Reported ro s t) : Memory.wf t = Memory.wf s := by
  unfold Memory.wf hbmDefault
  rw [h.hbm]

theorem memSet_wf (k : Nat) (b : Byte) {s : State} (h : Memory.wf s = true) :
    Memory.wf { s with hbm := { s.hbm with mem := memSet (hbmDefault s) s.hbm.mem k b } } = true := by
  have h1 : memWf (hbmDefault s) s.hbm.mem = true := h
  have h2 := memWf_memSet k b h1
  unfold Memory.wf
  have h3 : hbmDefault { s with hbm := { s.hbm with mem := memSet (hbmDefault s) s.hbm.mem k b } } = hbmDefault s := rfl
  rw [h3]
  exact h2

theorem hbmPoke_wf (a : Nat) (b : Byte) {s : State} (h : Memory.wf s = true) : Memory.wf (hbmPoke a b s) = true := by
  unfold hbmPoke
  dsimp only
  by_cases hf : dropsWrites s (placeNow s a).1 = true
  · rw [if_pos hf]
    exact h
  · rw [if_neg hf]
    exact memSet_wf _ b h

theorem hbmPokes_wf (bs : List Byte) : ∀ (a : Nat) {s : State}, Memory.wf s = true → Memory.wf (hbmPokes a bs s) = true := by
  induction bs with
  | nil => exact fun _ _ h => h
  | cons b r ih => exact fun a s h => ih (a + 1) (hbmPoke_wf a b h)

/-- Waking PCs, a request's first effect, touches registers alone. -/
theorem wakePcs_hbm (ps : List Nat) : ∀ s : State, (wakePcs ps s).hbm = s.hbm := by
  induction ps with
  | nil => exact fun _ => rfl
  | cons p r ih => exact fun s => (ih _).trans rfl

theorem foldl_hbm {β : Type} (f : State → β → State) (hf : ∀ s b, (f s b).hbm = s.hbm) (l : List β) :
    ∀ s : State, (l.foldl f s).hbm = s.hbm := by
  induction l with
  | nil => exact fun _ => rfl
  | cons b r ih => exact fun s => (ih _).trans (hf s b)

theorem wf_of_hbm {s t : State} (h : t.hbm = s.hbm) : Memory.wf t = Memory.wf s := by
  unfold Memory.wf hbmDefault
  rw [h]

/-- A write of a mapped range keeps the canonical form. -/
theorem hbmWrite_wf (a : Nat) (bs : List Byte) {s : State} (h : Memory.wf s = true) : Memory.wf (hbmWrite a bs s) = true := by
  have hw : Memory.wf (wakePcs (pcsTouched s a bs.length) s) = true := by rw [wf_of_hbm (wakePcs_hbm _ _)]; exact h
  unfold hbmWrite
  dsimp only
  refine hbmPokes_wf _ _ ?_
  rw [wf_of_hbm (foldl_hbm _ ?_ _ _)]
  · exact hw
  · intro s p
    split
    · rfl
    · split
      · exact (raiseRated_reported _ _ _ _ _).hbm
      · rfl

/-- A read leaves HBM alone. -/
theorem hbmRead_hbm (a n : Nat) (s : State) : (hbmRead a n s).2.2.hbm = s.hbm := by
  unfold hbmRead
  dsimp only
  split
  · refine (foldl_hbm _ ?_ _ _).trans (wakePcs_hbm _ _)
    intro s p
    split <;> rfl
  · exact (foldl_hbm (fun s p => bump .hbmPcCount p 4 1 s) (fun _ _ => rfl) _ _).trans (wakePcs_hbm _ _)

/-- A stack that loses its contents keeps the canonical form: the other stack's bytes and defaults are as before. -/
theorem loseStack_wf (k : Nat) {s : State} (h : Memory.wf s = true) : Memory.wf (loseStack k s) = true := by
  unfold loseStack
  split
  · refine memWfFrom_congr ?_ (memWfFrom_filter _ h)
    intro c hc
    simp at hc
    have : ¬ c.1 < 32 * pcBytes := by omega
    simp [hbmDefault, hbmDflt, this]
  · refine memWfFrom_congr ?_ (memWfFrom_filter _ h)
    intro c hc
    simp at hc
    simp [hbmDefault, hbmDflt, hc.2]

/-- The reset state's memory has the canonical form. -/
theorem reset_memory_wf : Memory.wf State.reset = true := rfl

end Sys2Proof.Machine
end

