-- ==== Sys2Proof/WellFormed.lean ====
section
/-! DEFINITION. Which commands are well formed: every operand in the range the specification gives it. A meaning is total;
an operand outside its range names nothing, or is read through its field's width. -/

namespace Sys2Proof
open Sys2Proof.Machine

/-- The agents that may send commands: host functions, management controllers, DSP cores, SMBus and JTAG, the plan loader
and the AON scheduler (00 R16). -/
def agentOk (ag : AgentId) : Bool :=
  let n := ag.toNat
  decide ((0x01 ≤ n ∧ n ≤ 0x10) ∨ n = 0x20 ∨ n = 0x21 ∨ (0x30 ≤ n ∧ n ≤ 0x47) ∨ n = 0x50 ∨ n = 0x51 ∨ n = 0x58 ∨ n = 0x59)

/-- The unit codes in use (00 R18). -/
def unitCodeOk (u : Nat) : Bool :=
  decide (u = 0x000 ∨ u = 0x010 ∨ (0x020 ≤ u ∧ u ≤ 0x023) ∨ (0x040 ≤ u ∧ u ≤ 0x04F) ∨ (0x060 ≤ u ∧ u ≤ 0x063)
    ∨ (0x080 ≤ u ∧ u ≤ 0x08F) ∨ (0x0A0 ≤ u ∧ u ≤ 0x0A3) ∨ (0x0C0 ≤ u ∧ u ≤ 0x0C3) ∨ (0x0E0 ≤ u ∧ u ≤ 0x0E3)
    ∨ (0x100 ≤ u ∧ u ≤ 0x103) ∨ u = 0x120 ∨ (0x140 ≤ u ∧ u ≤ 0x147) ∨ (0x160 ≤ u ∧ u ≤ 0x177)
    ∨ (0x180 ≤ u ∧ u ≤ 0x187) ∨ (0x1C0 ≤ u ∧ u ≤ 0x1FF) ∨ u = 0x200 ∨ u = 0x210 ∨ u = 0x220 ∨ u = 0x230 ∨ u = 0x240
    ∨ u = 0x250)

/-- The core and the ECC outcome of an instruction issue (12 R429, 13 R458). -/
def issueOk (c ecc : Nat) : Bool := decide (c < 24 ∧ ecc < 4)

/-- The operands of a command lie in their ranges. -/
def Instr.wf : Instr → Bool
  | .registerWrite ag off _ ecc _ => decide (agentOk ag = true ∧ off % 4 = 0 ∧ off < 0x4000000 ∧ ecc < 4)
  | .rcRegisterRead ag off => decide (agentOk ag = true ∧ off % 4 = 0 ∧ off < 0x4000000)
  | .latchedRegisterRead ag off => decide (agentOk ag = true ∧ off % 4 = 0 ∧ off < 0x4000000)
  | .resetNAssert => true
  | .resetNRelease engineId smbStrap => decide (engineId < 64 ∧ smbStrap < 8)
  | .aonResetNAssert => true
  | .perstNAssert => true
  | .pcieHotReset => true
  | .functionLevelReset fn => decide (fn < 16)
  | .trstNAssert => true
  | .smbusClockTimeout => true
  | .fusePhaseDone => true
  | .bootStalled => true
  | .mcFirmwareLoaded m _ _ => decide (m < 2)
  | .warmRestart ag _ => decide (agentOk ag = true)
  | .unitStart ag u => decide (agentOk ag = true ∧ unitCodeOk u = true)
  | .unitDrain ag u => decide (agentOk ag = true ∧ unitCodeOk u = true)
  | .unitStop ag u => decide (agentOk ag = true ∧ unitCodeOk u = true)
  | .unitAbort ag u => decide (agentOk ag = true ∧ unitCodeOk u = true)
  | .unitRestart ag u _ => decide (agentOk ag = true ∧ unitCodeOk u = true)
  | .unitThaw ag u => decide (agentOk ag = true ∧ unitCodeOk u = true)
  | .drainComplete u => decide (unitCodeOk u = true)
  | .drainTimeout u => decide (unitCodeOk u = true)
  | .gateDelayExpiry u => decide (unitCodeOk u = true)
  | .stateSkew u _ k => decide (unitCodeOk u = true ∧ k < 16)
  | .rateLimitExpiry _ => true
  | .fabricItem _ _ ecc => decide (ecc < 3)
  | .loadHost ag => decide (agentOk ag = true)
  | .loadFlash ag slot => decide (agentOk ag = true ∧ slot < 2)
  | .planAbort ag => decide (agentOk ag = true)
  | .planFetchDone _ _ => true
  | .planSwap _ => true
  | .planConfigureDone _ _ => true
  | .ocxoLost => true
  | .ocxoReturned => true
  | .ocxoReadyChange _ => true
  | .warmTimerExpiry => true
  | .driftGateEnd _ => true
  | .refInEdge late _ => decide (late < 14757395259)
  | .refLost => true
  | .refQualified => true
  | .step ag => decide (agentOk ag = true)
  | .slew ag => decide (agentOk ag = true)
  | .set ag => decide (agentOk ag = true)
  | .setApplied => true
  | .syncLoad ag => decide (agentOk ag = true)
  | .syncCheck ag => decide (agentOk ag = true)
  | .syncFrame _ => true
  | .syncLoadPoint => true
  | .synLockAcquired n _ => decide (n < 6)
  | .synLockLost n => decide (n < 6)
  | .synRelocked n => decide (n < 6)
  | .synPhaseWrite ag n _ => decide (agentOk ag = true ∧ n < 6)
  | .synPhaseStep n => decide (n < 6)
  | .sysrefFire ag n _ => decide (agentOk ag = true ∧ n < 4)
  | .laneCdrLocked n lane => decide (n < 4 ∧ lane < 8)
  | .laneCodeSync n lane => decide (n < 4 ∧ lane < 8)
  | .ilasMultiframe n lane fields chk _ => decide (n < 4 ∧ lane < 8 ∧ fields.length = 13 ∧ chk < 256)
  | .sysrefEdge n arrivals skews => decide (n < 4 ∧ arrivals.length ≤ 8 ∧ skews.length ≤ 8)
  | .alignSysrefTimeout n => decide (n < 4)
  | .groupAlignTimeout g => decide (g < 4)
  | .errorAutoRestart n => decide (n < 4)
  | .realign ag n => decide (agentOk ag = true ∧ n < 4)
  | .ingClearCounts ag n => decide (agentOk ag = true ∧ n < 4)
  | .laneCdrUnlock n lane => decide (n < 4 ∧ lane < 8)
  | .syncHeaderInvalid n lane _ octet => decide (n < 4 ∧ lane < 8 ∧ octet.length ≤ 2)
  | .codeGroupSyncLost n lane => decide (n < 4 ∧ lane < 8)
  | .linkCrcMismatch n => decide (n < 4)
  | .alignLost n => decide (n < 4)
  | .parcelFormed n _ _ => decide (n < 4)
  | .adcDelayWrite ag n _ => decide (agentOk ag = true ∧ n < 4)
  | .tunerInputParcel n => decide (n < 16)
  | .tunCommitNextBlock ag n _ => decide (agentOk ag = true ∧ n < 16)
  | .tunCommitAtTime ag n _ => decide (agentOk ag = true ∧ n < 16)
  | .tunCommitCancel ag n => decide (agentOk ag = true ∧ n < 16)
  | .tunCommitApply n time => decide (n < 16 ∧ time < 309485009821345068724781056)
  | .chzInput c => decide (c < 4)
  | .chzCoefDataWrite ag c _ => decide (agentOk ag = true ∧ c < 4)
  | .firCoefWrite ag n k _ => decide (agentOk ag = true ∧ n < 16 ∧ k < 1024)
  | .specInput e stream => decide (e < 4 ∧ stream < 2)
  | .spectrumComputed e _ _ _ => decide (e < 4)
  | .specCommitNextFrame ag e => decide (agentOk ag = true ∧ e < 4)
  | .specCommitAtTime ag e => decide (agentOk ag = true ∧ e < 4)
  | .specCommitCancel ag e => decide (agentOk ag = true ∧ e < 4)
  | .traceRestart ag e => decide (agentOk ag = true ∧ e < 4)
  | .specCommitApply e time => decide (e < 4 ∧ time < 309485009821345068724781056)
  | .windowGenerationDone e => decide (e < 4)
  | .winDataWrite ag e _ => decide (agentOk ag = true ∧ e < 4)
  | .tdSample t d => decide (t < 4 ∧ d < 4)
  | .fmSpectrum t => decide (t < 4)
  | .densityRows t => decide (t < 4)
  | .evtInEdge i _ t _ _ => decide (i < 8 ∧ t < 5192296858534827628530496329220096)
  | .trigSwPulse ag _ => decide (agentOk ag = true)
  | .trigSwLevelWrite ag _ => decide (agentOk ag = true)
  | .weirOccurrence w => decide (w < 16)
  | .delayLineOutput w => decide (w < 16)
  | .seqWindowExpiry w => decide (w < 16)
  | .holdoffExpiry w => decide (w < 16)
  | .weirArm ag w => decide (agentOk ag = true ∧ w < 16)
  | .weirDisarm ag w => decide (agentOk ag = true ∧ w < 16)
  | .weirReset ag w => decide (agentOk ag = true ∧ w < 16)
  | .trigCommitNext ag t => decide (agentOk ag = true ∧ t < 4)
  | .trigCommitCancel ag t => decide (agentOk ag = true ∧ t < 4)
  | .maskSwap ag t => decide (agentOk ag = true ∧ t < 4)
  | .clearHistory ag t => decide (agentOk ag = true ∧ t < 4)
  | .trigCommitApply t => decide (t < 4)
  | .maskDataWrite ag t _ => decide (agentOk ag = true ∧ t < 4)
  | .trigOutPulseEnd n => decide (n < 8)
  | .trigOutClr ag _ => decide (agentOk ag = true)
  | .acqStart ag a => decide (agentOk ag = true ∧ a < 4)
  | .acqStop ag a => decide (agentOk ag = true ∧ a < 4)
  | .acqAbort ag a => decide (agentOk ag = true ∧ a < 4)
  | .acqRead ag a => decide (agentOk ag = true ∧ a < 4)
  | .acqReadAbort ag a => decide (agentOk ag = true ∧ a < 4)
  | .flushList ag a => decide (agentOk ag = true ∧ a < 4)
  | .acqFire a _ => decide (a < 4)
  | .acqChunk a k _ _ _ _ => decide (a < 4 ∧ k < 5)
  | .acqSegmentComplete a => decide (a < 4)
  | .acqListTimeout a => decide (a < 4)
  | .acqReadoutRecord a _ _ _ => decide (a < 4)
  | .maskTestDone a _ => decide (a < 4)
  | .acqMtDataWrite ag a _ => decide (agentOk ag = true ∧ a < 4)
  | .densSpectrum d => decide (d < 4)
  | .densHistogramDone d => decide (d < 4)
  | .densSweepDone d => decide (d < 4)
  | .densCommitNextFrame ag d _ => decide (agentOk ag = true ∧ d < 4)
  | .densCommitCancel ag d => decide (agentOk ag = true ∧ d < 4)
  | .densClear ag d _ => decide (agentOk ag = true ∧ d < 4)
  | .densSnapshot ag d _ => decide (agentOk ag = true ∧ d < 4)
  | .cmapSwap ag d _ => decide (agentOk ag = true ∧ d < 4)
  | .dispVblankStart => true
  | .dispFrameEnd => true
  | .dispFrameDone => true
  | .dispUnderrun x => decide (x < 65536)
  | .fbCommit ag => decide (agentOk ag = true)
  | .fbCancel ag => decide (agentOk ag = true)
  | .modeCommit ag => decide (agentOk ag = true)
  | .modeCancel ag => decide (agentOk ag = true)
  | .dispTrain ag => decide (agentOk ag = true)
  | .hpdRise => true
  | .hpdLow => true
  | .sinkInterrupt => true
  | .trainingDone _ phase lane => decide (phase < 2 ∧ lane < 4)
  | .auxRequest ag _ => decide (agentOk ag = true)
  | .auxDone reply data => decide (reply < 4 ∧ data.length ≤ 4)
  | .tdcMeasEnable ag c => decide (agentOk ag = true ∧ c < 16)
  | .tdcMeasDisable ag c => decide (agentOk ag = true ∧ c < 16)
  | .tdcChannelStamp c _ => decide (c < 16)
  | .tdcTimeout c _ => decide (c < 16)
  | .tdcWMissing c _ => decide (c < 16)
  | .tdcGateEnd c _ => decide (c < 16)
  | .tdcBlockFlush i => decide (i ≤ 8)
  | .dspInputItem c n => decide (c < 24 ∧ n < 2)
  | .dspInterruptEntry c => decide (c < 24)
  | .dspTimerExpiry c => decide (c < 24)
  | .dspCoreHostMsg ag c _ => decide (agentOk ag = true ∧ c < 24)
  | .dspClStart ag _ => decide (agentOk ag = true)
  | .breakpointReached c => decide (c < 24)
  | .breakStep ag c ecc => decide (agentOk ag = true ∧ c < 24 ∧ ecc < 4)
  | .breakResume ag c => decide (agentOk ag = true ∧ c < 24)
  | .dmaStart c ch ecc => decide (c < 24 ∧ ch < 2 ∧ ecc < 4)
  | .dmaAbort c ch n ecc => decide (c < 24 ∧ ch < 2 ∧ n < 65536 ∧ ecc < 4)
  | .dmaDone c ch _ _ _ => decide (c < 24 ∧ ch < 2)
  | .busRead c => decide (c < 24)
  | .busWrite c ecc _ => decide (c < 24 ∧ ecc < 4)
  | .busAccessDone c => decide (c < 24)
  | .reservedEncoding c => decide (c < 24)
  | .dspNop c ecc => issueOk c ecc && DspOp.nop.fits
  | .dspHalt c ecc => issueOk c ecc && DspOp.halt.fits
  | .dspRet c ecc => issueOk c ecc && DspOp.ret.fits
  | .dspReti c ecc => issueOk c ecc && DspOp.reti.fits
  | .dspLeave c ecc => issueOk c ecc && DspOp.leave.fits
  | .dspWait c ecc => issueOk c ecc && DspOp.wait.fits
  | .dspTflg c f o ecc => issueOk c ecc && (DspOp.tflg f o).fits
  | .dspBri c cc p ecc => issueOk c ecc && (DspOp.bri cc p).fits
  | .dspBr c cc t ecc => issueOk c ecc && (DspOp.br cc t).fits
  | .dspCall c cc t ecc => issueOk c ecc && (DspOp.call cc t).fits
  | .dspLoop c reg k len ecc => issueOk c ecc && (DspOp.loop reg k len).fits
  | .dspRep c reg k ecc => issueOk c ecc && (DspOp.rept reg k).fits
  | .dspLdi c file h r imm ecc => issueOk c ecc && (DspOp.ldi file h r imm).fits
  | .dspAdd c d a b ecc => issueOk c ecc && (DspOp.alu .add d a b 0 0).fits
  | .dspSub c d a b ecc => issueOk c ecc && (DspOp.alu .sub d a b 0 0).fits
  | .dspAdds c d a b ecc => issueOk c ecc && (DspOp.alu .adds d a b 0 0).fits
  | .dspSubs c d a b ecc => issueOk c ecc && (DspOp.alu .subs d a b 0 0).fits
  | .dspAnd c d a b ecc => issueOk c ecc && (DspOp.alu .and d a b 0 0).fits
  | .dspOr c d a b ecc => issueOk c ecc && (DspOp.alu .or d a b 0 0).fits
  | .dspXor c d a b ecc => issueOk c ecc && (DspOp.alu .xor d a b 0 0).fits
  | .dspNot c d a ecc => issueOk c ecc && (DspOp.alu .not d a 0 0 0).fits
  | .dspNeg c d a ecc => issueOk c ecc && (DspOp.alu .neg d a 0 0 0).fits
  | .dspAbs c d a ecc => issueOk c ecc && (DspOp.alu .abs d a 0 0 0).fits
  | .dspCmp c a b ecc => issueOk c ecc && (DspOp.alu .cmp 0 a b 0 0).fits
  | .dspAsl c d a sh ecc => issueOk c ecc && (DspOp.alu .asl d a 0 sh 0).fits
  | .dspAsr c d a sh ecc => issueOk c ecc && (DspOp.alu .asr d a 0 sh 0).fits
  | .dspLsr c d a sh ecc => issueOk c ecc && (DspOp.alu .lsr d a 0 sh 0).fits
  | .dspMin c d a b ecc => issueOk c ecc && (DspOp.alu .min d a b 0 0).fits
  | .dspMax c d a b ecc => issueOk c ecc && (DspOp.alu .max d a b 0 0).fits
  | .dspAdd2 c d a b ecc => issueOk c ecc && (DspOp.alu .add2 d a b 0 0).fits
  | .dspSub2 c d a b ecc => issueOk c ecc && (DspOp.alu .sub2 d a b 0 0).fits
  | .dspAdd2h c d a b ecc => issueOk c ecc && (DspOp.alu .add2h d a b 0 0).fits
  | .dspSub2h c d a b ecc => issueOk c ecc && (DspOp.alu .sub2h d a b 0 0).fits
  | .dspAddi c d a imm ecc => issueOk c ecc && (DspOp.alu .addi d a 0 imm 0).fits
  | .dspCmpi c a imm ecc => issueOk c ecc && (DspOp.alu .cmpi 0 a 0 imm 0).fits
  | .dspBfly c d e a b ecc => issueOk c ecc && (DspOp.alu .bfly d a b 0 e).fits
  | .dspBflyh c d e a b ecc => issueOk c ecc && (DspOp.alu .bflyh d a b 0 e).fits
  | .dspClr c k j a b sh ecc => issueOk c ecc && (DspOp.acc .clr k j a b sh).fits
  | .dspAdda c k j a b sh ecc => issueOk c ecc && (DspOp.acc .adda k j a b sh).fits
  | .dspSuba c k j a b sh ecc => issueOk c ecc && (DspOp.acc .suba k j a b sh).fits
  | .dspTfra c k j a b sh ecc => issueOk c ecc && (DspOp.acc .tfra k j a b sh).fits
  | .dspNega c k j a b sh ecc => issueOk c ecc && (DspOp.acc .nega k j a b sh).fits
  | .dspAbsa c k j a b sh ecc => issueOk c ecc && (DspOp.acc .absa k j a b sh).fits
  | .dspAsla c k j a b sh ecc => issueOk c ecc && (DspOp.acc .asla k j a b sh).fits
  | .dspAsra c k j a b sh ecc => issueOk c ecc && (DspOp.acc .asra k j a b sh).fits
  | .dspAddd c k j a b sh ecc => issueOk c ecc && (DspOp.acc .addd k j a b sh).fits
  | .dspSubd c k j a b sh ecc => issueOk c ecc && (DspOp.acc .subd k j a b sh).fits
  | .dspSata c k j a b sh ecc => issueOk c ecc && (DspOp.acc .sata k j a b sh).fits
  | .dspCmpa c k j a b sh ecc => issueOk c ecc && (DspOp.acc .cmpa k j a b sh).fits
  | .dspMpyi c k j a b sh ecc => issueOk c ecc && (DspOp.acc .mpyi k j a b sh).fits
  | .dspMaci c k j a b sh ecc => issueOk c ecc && (DspOp.acc .maci k j a b sh).fits
  | .dspMac c k a b mx my ecc => issueOk c ecc && (DspOp.frac .mac k a b mx my).fits
  | .dspMsu c k a b mx my ecc => issueOk c ecc && (DspOp.frac .msu k a b mx my).fits
  | .dspMpy c k a b mx my ecc => issueOk c ecc && (DspOp.frac .mpy k a b mx my).fits
  | .dspMove c mx my ecc => issueOk c ecc && (DspOp.frac .move 0 0 0 mx my).fits
  | .dspQmac c q a b u sp mv ecc => issueOk c ecc && (DspOp.quad .qmac q a b u sp mv).fits
  | .dspQmsu c q a b u sp mv ecc => issueOk c ecc && (DspOp.quad .qmsu q a b u sp mv).fits
  | .dspQmpy c q a b u sp mv ecc => issueOk c ecc && (DspOp.quad .qmpy q a b u sp mv).fits
  | .dspCmac c q a b mx my ecc => issueOk c ecc && (DspOp.cplx .cmac q a b mx my).fits
  | .dspCmsu c q a b mx my ecc => issueOk c ecc && (DspOp.cplx .cmsu q a b mx my).fits
  | .dspCmpy c q a b mx my ecc => issueOk c ecc && (DspOp.cplx .cmpy q a b mx my).fits
  | .dspCmacj c q a b mx my ecc => issueOk c ecc && (DspOp.cplx .cmacj q a b mx my).fits
  | .dspCmpyj c q a b mx my ecc => issueOk c ecc && (DspOp.cplx .cmpyj q a b mx my).fits
  | .dspTap c dir sub k pc cm pr rm pw wm ecc => issueOk c ecc && (DspOp.tap dir sub k pc cm pr rm pw wm).fits
  | .dspLd c sp r p md imm ecc => issueOk c ecc && (DspOp.ld sp r p md imm).fits
  | .dspSt c sp r p md imm ecc => issueOk c ecc && (DspOp.st sp r p md imm).fits
  | .dspMov c dst src ecc => issueOk c ecc && (DspOp.mov dst src).fits
  | .dspWrs c sys d ecc => issueOk c ecc && (DspOp.wrs sys d).fits
  | .dspRds c d sys ecc => issueOk c ecc && (DspOp.rds d sys).fits
  | .dspPack c d q ecc => issueOk c ecc && (DspOp.pack d q).fits
  | .dspMov16 c d k ecc => issueOk c ecc && (DspOp.mov16 d k).fits
  | .dspIn c dst k ecc => issueOk c ecc && (DspOp.strIn dst k).fits
  | .dspOut c src k ecc => issueOk c ecc && (DspOp.strOut src k).fits
  | .dspClose c k ecc => issueOk c ecc && (DspOp.close k).fits
  | .dspSkipi c k ecc => issueOk c ecc && (DspOp.skipi k).fits
  | .cmpItem n _ => decide (n < 8)
  | .cmpFlushTimer n => decide (n < 8)
  | .cmpStreamCfgWrite ag n _ => decide (agentOk ag = true ∧ n < 8)
  | .submit ag n => decide (agentOk ag = true ∧ n < 8)
  | .cmpJobAbort ag n => decide (agentOk ag = true ∧ n < 8)
  | .cmpJobFlush ag n => decide (agentOk ag = true ∧ n < 8)
  | .cmpJobStart n => decide (n < 8)
  | .cmpJobDone n _ _ _ => decide (n < 8)
  | .cmpJobResultRead n => decide (n < 8)
  | .hbmTrained k _ _ _ => decide (k < 2)
  | .hbmFreqReq ag _ => decide (agentOk ag = true)
  | .hbmFreqDone => true
  | .hbmMemoryItem slice stream _ _ => decide (slice < 16 ∧ stream < 4)
  | .hbmStackThaw ag k => decide (agentOk ag = true ∧ k < 2)
  | .hbmTempRead k t => decide (k < 2 ∧ -128 ≤ t ∧ t ≤ 127)
  | .hbmRefreshDue p placed => decide (p < 64 ∧ placed.all (· < 48) = true)
  | .refreshWindowEnd => true
  | .pcIdleTimeout p => decide (p < 64)
  | .rdCfgWrite ag _ => decide (agentOk ag = true)
  | .hostLinkChange _ rate width _ mps masters vfs =>
    decide (rate < 8 ∧ width ≤ 16 ∧ mps < 8 ∧ masters.all (· < 16) = true ∧
      vfs.all (fun x => decide (1 ≤ x ∧ x < 16)) = true)
  | .windowAccess fn _ _ n data _ => decide (fn < 16 ∧ n ≤ 4096 ∧ data.length ≤ 4096)
  | .hostItem h k => decide (h < 8 ∧ k < 256)
  | .freeTailWrite ag f tail => decide (agentOk ag = true ∧ f < 4096 ∧ tail < 65536)
  | .freeEntryFetched f addr len _ => decide (f < 4096 ∧ addr < 18446744073709551616 ∧ len < 4294967296)
  | .recordWrite f _ _ _ => decide (f < 4096)
  | .hostWriteRetry f _ => decide (f < 4096)
  | .bufferFlushTimer f => decide (f < 4096)
  | .irqTimer f => decide (f < 4096)
  | .cplHeadWrite ag f head => decide (agentOk ag = true ∧ f < 4096 ∧ head < 65536)
  | .flumeOpen ag f => decide (agentOk ag = true ∧ f < 4096)
  | .flumeClose ag f => decide (agentOk ag = true ∧ f < 4096)
  | .flumeReset ag f => decide (agentOk ag = true ∧ f < 4096)
  | .flumeFlush ag f => decide (agentOk ag = true ∧ f < 4096)
  | .closeTimeout f => decide (f < 4096)
  | .cvSend ag _ ecc => decide (agentOk ag = true ∧ ecc < 3)
  | .cvRxpop ag c ecc => decide (agentOk ag = true ∧ c < 64 ∧ ecc < 3)
  | .cvTxstatRead ag => decide (agentOk ag = true)
  | .cvReceiverWrite ag c _ => decide (agentOk ag = true ∧ c < 64)
  | .dbRing ag j _ => decide (agentOk ag = true ∧ j < 8)
  | .dbClear ag j _ => decide (agentOk ag = true ∧ j < 8)
  | .headgateRead ag h others => decide (agentOk ag = true ∧ h < 32 ∧ others.all agentOk = true)
  | .headgateRelease ag h _ => decide (agentOk ag = true ∧ h < 32)
  | .headgateForce ag h => decide (agentOk ag = true ∧ h < 32)
  | .mcWatchdog m => decide (m < 2)
  | .mcRestart ag m => decide (agentOk ag = true ∧ m < 2)
  | .mcRequest m => decide (m < 2)
  | .smbSetAddr addr _ => decide (addr % 4 = 0 ∧ addr < 0x4000000)
  | .smbRead => true
  | .smbWrite _ _ ecc _ => decide (ecc < 4)
  | .smbStatus => true
  | .auditRecordTimer => true
  | .auditQueueRoom => true
  | .calRetrim ag b => decide (agentOk ag = true ∧ b < 128)
  | .calApply ag b => decide (agentOk ag = true ∧ b < 128)
  | .calReload ag b => decide (agentOk ag = true ∧ b < 128)
  | .calAbort ag => decide (agentOk ag = true)
  | .calRetrimDone _ => true
  | .calRetrimTimeout => true
  | .auxConvert ag => decide (agentOk ag = true)
  | .auxBlockFlush ag => decide (agentOk ag = true)
  | .auxClearCounts ag => decide (agentOk ag = true)
  | .auxConvWrite ag _ _ => decide (agentOk ag = true)
  | .auxConversionDone _ => true
  | .refSettleExpiry => true
  | .refxRangeChange _ => true
  | .auxBlockTimer => true
  | .auxRdWrite ag _ => decide (agentOk ag = true)
  | .pwrWake e => decide (e < 64)
  | .runDurationEnd e => decide (e < 64)
  | .sleep ag => decide (agentOk ag = true)
  | .aonWake => true
  | .autoSleepAttempt => true
  | .thermalSample dies => decide (dies.length = 8)
  | .aonResetNRelease => true
  | .perstNRelease => true
  | .virtualFunctionDisable fn => decide (1 ≤ fn ∧ fn < 16)
  | .dispLineStart level _ => decide (level < 128)
  | .routeCreditRecovered id _ ecc => decide (id ≤ 1023 ∧ ecc < 3)

end Sys2Proof
end

