-- ==== Sys2Proof/Tests/Slice0.lean ====
section
/-! SUPPORT. The author's tests: for every statement with hypotheses a state and operands that meet them (witness_…),
single steps and worked examples of the spec, the well-formedness checks. -/

open Sys2Proof Sys2Proof.Machine

namespace Sys2Proof.Tests

set_option maxRecDepth 100000
set_option Elab.async false

/-! States for the tests. -/

/-- A chip whose fuses have been read, every unit of the plan off. -/
def up : State := { State.reset with boot := { State.reset.boot with fused := true } }

/-- Unit u in a state. -/
def on (u : Nat) (st : UState) (s : State) : State := setUnit u { unit s u with state := st } s

/-- An ING_0 item. -/
def itm (seq : Nat) : Item := ⟨0x10, 0x020, 0, 0, seq, 0, ⟨0, 0, 0⟩, 0, 0, 0, 0, false, 0, [], 0⟩

/-- Items delivered to a stream of a fabric port. -/
def dlv (p q : Nat) (l : List Item) (s : State) : State :=
  { s with plan := { s.plan with delivered := l.map fun i => (p, q, i) } }

/-- What a port that takes its first delivered item leaves. -/
def taken (p q : Nat) (s : State) : State := ((takeDelivered p q s).map (·.2)).getD s

/-- A parcel of ING_0 with flags. -/
def itf (seq fl : Nat) : Item := { itm seq with payload := [0, 0, 0, 0, 0, BitVec.ofNat 32 (fl * 65536 + 1024)] }

/-- A 64-point frame of zeros. -/
def frm : SpecFrame :=
  { run := { set := { lg := 6, win := 0, param := 0, hop := 64, mask := 0, fixedShift := 0, bfix := true, inter := 0, fmt := 0, outEn := false,
                      stride := 1, spr := 1, outFirst := 0, outCount := 64, det := 0, points := 64, detFirst := 0, detSpan := 64, tmode := 0,
                      trEn := false, tcount := 1 },
             bank := List.replicate 64 65536, enbw := 65536, ref := 0, q0 := 0, next := 0, begun := 1, done := 0, id := 0 },
    start := 0, index := 0, flags := 0, fresh := false, time := 0, qual := 0, origin := 0, epoch := 0, planEp := 0, arrived := 0, phase := 0,
    clamps := 0, samples := List.replicate 64 (0, 0) }

/-- SPEC_3 ready with a 64-point set. -/
def spOk : State := up |> on 0x0A3 .ready |> wr .ingPeriodLo 3 0 0xFFFFFFFF |> wr .ingPeriodHi 3 0 0xFFFF
  |> wr .specFft 3 0 6 |> wr .specHop 3 0 64 |> wr .specOutCount 3 0 64 |> wr .specDet 3 0 0x3F0
  |> wr .specDetSpan 3 0 64

/-- A running trigger unit with an enabled weir, armed. -/
def weirUp : State := up |> on 0x0C0 .running |> wr .trigWeirCfg 15 0 1 |> wr .trigWeirIn 15 0 0x78FFFFFF
  |> withWeir 15 (fun x => { x with armFrom := some 0 })

/-- Change an output pin. -/
def withPin (n : Nat) (p : OutPin) (s : State) : State := { s with tree := { s.tree with pins := vset s.tree.pins n p } }

/-- A running acquisition instance whose source 4 has a region and a weir. -/
def acqUp : State := up |> on 0x0E3 .running |> on 0x04F .running |> wr .acqSrcCfg 3 4 0x00050001
  |> wr .acqSrcPre 3 4 256 |> wr .acqSrcPost 3 4 256 |> wr .acqSrcSlot 3 4 2 |> wr .acqWeir 3 0 0x8000
  |> wr .tunCfg 15 0 1 |> wr .ingPeriodHi 3 0 1
  |> withPlan (fun p => { p with regions := [⟨5, 0x0E3, 1, 0, 16777216, 4294967295⟩] })

/-- ACQ_STATUS of instance 3. -/
def acqSt (n : Nat) (s : State) : State := setF .acqStatus 3 0 0 3 n s

/-- A stored segment. -/
def seg0 : AcqSeg :=
  ⟨0, 1, ⟨15, 0, ⟨0, 0, 0⟩, 0, 0⟩, 0, 0, 0, [⟨4, 1, 8, 0, 0, 0, 1, 0, ⟨0, 0, 0⟩, [⟨0, 0, 0, 1024, 0, 0, 0, false, false, 0, 0⟩]⟩]⟩

/-- A running display with its clock locked. -/
def dispUp : State := up |> on 0x120 .running |> withSyn 3 (fun y => { y with lock := 2 })

/-- Change the power unit. -/
def withPwr (f : PwrState → PwrState) (s : State) : State := { s with pwr := f s.pwr }

/-- A running class I measurement. -/
def tdcUp : State := up |> on 0x147 .running |> on 0x140 .running |> setF .tdcMeasCfg 15 0 2 3 7
  |> setF .tdcMeasCfg 15 0 6 3 0 |> setB .tdcMeasStatus 15 0 0 true |> wr .tdcMeasP0Lo 15 0 1000

/-- A running compression engine. -/
def cmpUp : State := up |> on 0x187 .running

/-- A JOBS engine with a region. -/
def jobUp : State := cmpUp |> setB .cmpCfg 7 0 0 true
  |> withPlan (fun p => { p with regions := [⟨5, 0x187, 0, 0, 4096, 1⟩] })

/-- A descriptor of a job. -/
def job0 : List Word := [0x2000, 0xFFFF, 0x50005, 0, 0, 0, 8, 0, 8, 0, 4088, 0, 0, 0, 0, 0]

/-- A running converter. -/
def auxUp : State := up |> on 0x230 .running |> setF .auxConv 0 0 0 2 1

/-- A list entry. -/
def aen : AuxEntry := ⟨⟨0, 0, 0⟩, 5, 0, (0, 0)⟩

/-- A scheduled survey. -/
def sch (id : Nat) : PlanSched := ⟨id, true, 1, 0, 5, 1, [0x040]⟩

/-- A power unit with a schedule entry. -/
def slUp : State := up |> on 0x240 .running |> withPwr (fun p => { p with sched := [sch 255] })
  |> setB .pwrSchedEn 0 7 31 true

/-- Trained stacks and a region. -/
def hbUp : State := up |> on 0x1C0 .running |> on 0x1FF .running |> setF .hbmStackStatus 0 0 0 3 3
  |> setF .hbmStackStatus 1 0 0 3 3 |> withSyn 2 (fun y => { y with lock := 2 })
  |> withPlan (fun p => { p with regions := [⟨5, 0x040, 0, 64, 4096, 1⟩] })

/-- A route. -/
def rt (mode : Nat) (credit : Int) (held : List Item) : Route := ⟨⟨1023, mode, 1, unitPort 0x020, 0, 1000, [(5, 0)]⟩, credit, 0, 0, [0, 0, 0, 0, 0, 0, 0, 0], held, [0]⟩

/-- Routes and offered items. -/
def faUp (rs : List Route) (l : List Item) : State := up |> withPlan (fun p => { p with routes := rs, offered := l })

/-- HOST_WIN of function 0. -/
def winSet (s : State) : State := wr .hostWin 0 0 0x80000005 s

/-- A link at L0. -/
def hoUp : State := up |> on 0x200 .running |> on 0x210 .running |> wr .hostLink 0 0 0x241
  |> (fun s => { s with host := { s.host with busMaster := [0, 15], vfEnabled := [15] } })
  |> wr .hostFlumeCfg 4095 0 0x3FC0000F

/-- The state of flume 4095. -/
def flSt (n : Nat) (s : State) : State := setF .hostFlumeStatus 4095 0 0 2 n s

/-- Change flume 4095. -/
def withFl (f : Flume → Flume) (s : State) : State := setFlume 4095 (f (flume s 4095)) s

/-- A staged record. -/
def rec0 : StagedRec := { itemRec { itm 5 with payload := List.replicate 16 0 } with crc := crcWords (coveredPayload 0x10 (List.replicate 16 0)) }

/-- A posted buffer. -/
def buf0 : FlumeBuf := ⟨64, 4096, 7, 3968, 1, 0, false⟩

/-- A culvert message. -/
def cv0 : CvMsg := ⟨0x30, 65535, List.replicate 8 0, List.replicate 16 0, 255, true, true⟩

/-- A culvert with messages. -/
def withChan0 (c : Nat) (q : List CvMsg) (s : State) : State := setChan c { queue := q, nextSeq := 5 } s

/-- An audit entry. -/
def ent0 : AuditEntry := ⟨0, 1, 1, 0, ⟨0, 0, 0⟩, 0, 0, 0⟩

/-- Headgate 31 held by an agent. -/
def gUp (a : AgentId) : State := { hoUp with mgt := { hoUp.mgt with gates := vset hoUp.mgt.gates 31 { holder := a, ptr := 0x48 } } }

/-- The header of a plan image of 1,024 bytes, from 02 R62. -/
def imgHead : List Byte :=
  leBytes 4 0x55504C4E ++ [0, 1] ++ leBytes 2 256 ++ leBytes 4 1024 ++ leBytes 4 0 ++ leBytes 4 7 ++ leBytes 4 768 ++
    leBytes 4 6 ++ List.replicate 228 0

/-- Its sections ROUTES, UNITS, OWNERS, SRAM, HBMMAP and REGINIT, from 02 R68 to R101. -/
def imgSections : List Byte :=
  leBytes 8 0x00010001 ++ leBytes 8 0x00010002 ++ leBytes 8 0x1000010003 ++ leBytes 16 0x0100010000 ++
    leBytes 8 0x0C00010004 ++ leBytes 16 0x0706050403020100_00080200 ++ leBytes 8 0x3000010005 ++
    leBytes 16 (1 * 2 ^ 64 + 0x00010000) ++ leBytes 32 (0x02000000 + 2 ^ 149) ++ leBytes 8 0x18000010007 ++ List.replicate 384 0

/-- Its signature by the private key 1 with the nonce 1, over the SHA-384 hash h of what comes before: the public key is the
base point of P-384. -/
def imgSig : List Byte :=
  let h := 26790214877062685710806796152866793906909452236048621466122026011536767737053678560049276456110773303906942257843144
  leBytes 4 1 ++ leBytes 4 256 ++ (leBytes 48 g384.1).reverse ++ (leBytes 48 g384.2).reverse ++
    (leBytes 48 (g384.1 % n384)).reverse ++ (leBytes 48 ((h + g384.1) % n384)).reverse ++ List.replicate 56 0

/-- The image. -/
def imgAll : List Byte := imgHead ++ imgSections ++ imgSig

/-- The key hash of its public key. -/
def imgKey : Nat :=
  24874743048588822248251430709664024874255461671413543316941396567809466703024066344078347446547694428161691369950053

/-- A chip that trusts the key. -/
def imgUp : State := { State.reset with boot := { State.reset.boot with fused := true }, fuse := { State.reset.fuse with vendorHash := imgKey } } |> (fun s => setF .hbmStackStatus 0 0 0 3 3 (setF .hbmStackStatus 1 0 0 3 3 s))

/-- Core 23 about to issue op at PC 0. -/
def dk (op : DspOp) : State :=
  up |> on 0x177 .running |> withDsp 23 (fun x => { x with exec := .executing }) |> dspWrite 23 2 0 (dspEncode op)

/-! Witnesses: a state and operands that meet the hypotheses of each statement together, clause by clause. -/

def st0 : State :=
  up |> withTime (fun t =>
    { t with mode := .full, rate := 5, up := 7, acc := 0xFFFFFFFFFFFFFFFF, sec := 0xFFFFFFFFFFFF })
def st1 : State :=
  up |> withTime (fun t =>
    { t with mode := .coarse, rate := 5, up := 7, acc := 0xFFFFFFFFFFFFFFFF, sec := 0xFFFFFFFFFFFF })
def st2 : State :=
  up |> withTime (fun t =>
    { t with mode := .rc, rate := 5, up := 7, acc := 0xFFFFFFFFFFFFFFFF, sec := 0xFFFFFFFFFFFF })
def st3 : State :=
  up |> withTime (fun t =>
    { t with mode := .stopped, rate := 5, up := 7, acc := 0xFFFFFFFFFFFFFFFF, sec := 0xFFFFFFFFFFFF })
theorem witness_StepIdles :
    (∃ (s : State), s.pending = [] ∧ s.time.phaseAdj = 0 ∧ s.time.mode = .full) ∧
    (∃ (s : State), s.pending = [] ∧ s.time.mode = .coarse) ∧
    (∃ (s : State), s.pending = [] ∧ s.time.mode = .rc) ∧
    (∃ (s : State), s.pending = [] ∧ s.time.mode = .stopped) :=
  ⟨⟨st0, by decide +kernel⟩,
    ⟨st1, by decide +kernel⟩,
    ⟨st2, by decide +kernel⟩,
    ⟨st3, by decide +kernel⟩⟩

def st4 : State :=
  up |> withSyn 5 (fun y => { y with lossCount := 255, lock := 2, target := 3 })
def st5 : State :=
  setUnit 0x177 { unit up 0x177 with state := .fault, cause := 3, faultCount := 255, detail := 9 } up
def st6 : State :=
  up |> withTime (fun t => { t with sec := 7, started := true })
theorem witness_RegisterReadsComplete :
    (∃ (s : State) (off i j : Nat) (r : Reg) (o : _), mainUp s = true ∧ off % 4 = 0 ∧ (blockAt off).isSome = true ∧
      absentAt s off = false ∧ regAt off = some (r, i, j) ∧ r.info.rc ≠ 0 ∧ latches r = false ∧ ownRead r = false ∧
      inHeader off = false ∧ (unitAt off).all (fun u => ustate s u != .off) = true ∧ o ≠ r.off i j) ∧
    (∃ (s : State) (n : Nat) (m : _), mainUp s = true ∧ n < 6 ∧ ustate s 0x010 ≠ .off ∧ m ≠ n) ∧
    (∃ (s : State) (u : Nat), mainUp s = true ∧ unitPresent s u = true) ∧
    (∃ (s : State) (i : Nat) (r : Reg) (k : _), mainUp s = true ∧ (blockAt (r.off i 0)).isSome = true ∧ absentAt s
      (r.off i 0) = false ∧ regAt (r.off i 0) = some (r, i, 0) ∧ latches r = true ∧ inHeader (r.off i 0) = false ∧
      (unitAt (r.off i 0)).all (fun u => ustate s u != .off) = true ∧ 0 < k ∧ k < r.info.n2) ∧
    (∃ (s : State) (i k : Nat) (r : Reg), mainUp s = true ∧ 0 < k ∧ (blockAt (r.off i k)).isSome = true ∧ absentAt s
      (r.off i k) = false ∧ regAt (r.off i k) = some (r, i, k) ∧ latches r = true ∧ inHeader (r.off i k) = false ∧
      (unitAt (r.off i k)).all (fun u => ustate s u != .off) = true) ∧
    (∃ (s : State) (off : Nat), off % 4 = 0 ∧ (((blockAt off).isNone = true ∨ absentAt s off = true ∨ (inHeader off =
      false ∧ (unitAt off).any (fun u => ustate s u == .off) = true)))) :=
  ⟨⟨(up |> on 0x0E3 .running |> wr .acqCount 3 7 5), (Reg.off .acqCount 3 7), 3, 7, .acqCount, 0x40,
      by decide +kernel⟩,
    ⟨st4, 5, 0, by decide +kernel⟩,
    ⟨st5, 0x177, by decide +kernel⟩,
    ⟨st6, 0, .timeNow, 2, by decide +kernel⟩,
    ⟨({ up with latch := [(Reg.off .timeNow 0 2, 9)] }), 0, 2, .timeNow, by decide +kernel⟩,
    ⟨up, (Reg.off .acqCount 3 7), by decide +kernel⟩⟩

theorem witness_RegisterWritesComplete :
    (∃ (s : State) (ag : AgentId) (off i j : Nat) (r : Reg) (o : _), WriteOpen s ag off ∧ off % 4 = 0 ∧ regAt off =
      some (r, i, j) ∧ ownEffect r = false ∧ writeLogged s off = false ∧ r.info.pl = 0 ∧ o ≠ r.off i j) ∧
    (∃ (s : State) (ag : AgentId) (off i j : Nat) (r : Reg) (o : _), WriteOpen s ag off ∧ off % 4 = 0 ∧ regAt off =
      some (r, i, j) ∧ ownEffect r = false ∧ writeLogged s off = true ∧ writable r = true ∧ r.info.pl = 0 ∧
      s.mgt.log.length < auditSize ∧ o ≠ r.off i j ∧ o ∉ auditOffs) ∧
    (∃ (s : State) (ag : AgentId) (off i j : Nat) (r : Reg) (o : _), WriteOpen s ag off ∧ off % 4 = 0 ∧ regAt off =
      some (r, i, j) ∧ ownEffect r = false ∧ writable r = false ∧ r.info.pl ≠ 0 ∧ s.mgt.log.length < auditSize ∧ o ∉
      auditOffs) ∧
    (∃ (s : State) (ag : AgentId) (a j : Nat) (v : BitVec 32) (o : _), a < 4 ∧ j < 5 ∧ WriteOpen s ag (Reg.off
      .acqSrcCfg a j) ∧ writeLogged s (Reg.off .acqSrcCfg a j) = false ∧ acqRuns s a = false ∧ mixedRes .acqSrcCfg a
      j v s ≠ 0 ∧ s.mgt.log.length < auditSize ∧ o ≠ Reg.off .acqSrcCfg a j ∧ o ∉ auditOffs) ∧
    (∃ (s : State) (ag : AgentId) (off c : Nat) (o : _), mainUp s = true ∧ off % 4 = 0 ∧ accessRefusal s ag off =
      some c ∧ s.mgt.log.length < auditSize ∧ o ∉ auditOffs) ∧
    (∃ (s : State), mainUp s = false) :=
  ⟨⟨(up |> on 0x120 .ready |> wr .dispIntStatus 0 0 0xFF), 0x51, (Reg.off .dispIntStatus 0 0), 0, 0, .dispIntStatus,
      0x40, by decide +kernel⟩,
    ⟨(up |> on 0x04F .ready |> wr .auditCfg 0 0 0xFFFFFFFF), 0x51, (Reg.off .tunNcoFreqLo 15 0), 15, 0,
      .tunNcoFreqLo, 0x40, by decide +kernel⟩,
    ⟨(up |> on 0x04F .ready), 0x51, (Reg.off .tunCfg 15 0), 15, 0, .tunCfg, 0x40, by decide +kernel⟩,
    ⟨(up |> on 0x0E3 .ready), 0x51, 3, 4, 0xFFFFFFFF, 0x40, by decide +kernel⟩,
    ⟨up, 0x01, 0x3FFFFFC, 5, 0x40, by decide +kernel⟩,
    ⟨State.reset, by decide +kernel⟩⟩

def st7 : State :=
  up |> withDsp 23 (fun y => { y with bus := .asked false 0x300050 0 }) |> wr .timeSet 0 0 9
def st8 : State :=
  up |> withDsp 0 (fun y => { y with bus := .asked true 0x300050 5 })
theorem witness_BusAndSmbusComplete :
    (∃ (s : State) (c : Nat) (a d : Word) (k : _), c < 24 ∧ (dspOf s c).bus = .asked false a d ∧ k ≠ c) ∧
    (∃ (s : State) (c : Nat) (a d : Word) (k : _), c < 24 ∧ (dspOf s c).bus = .asked true a d ∧ k ≠ c) ∧
    (∃ (s : State) (o : _), mainUp s = true ∧ o ≠ Reg.off .mgtSmbStatus 0 0) :=
  ⟨⟨st7, 23, 0x300050, 0, 5, by decide +kernel⟩,
    ⟨st8, 0, 0x300050, 5, 23, by decide +kernel⟩,
    ⟨(up |> wr .mgtSmbStatus 0 0 0x0000FF00), 0x40, by decide +kernel⟩⟩

theorem witness_ResetPinsComplete :
    (∃ (s : State) (r : Reg) (i j : Nat), s.boot.resetN = true ∧ regAt (r.off i j) = some (r, i, j) ∧ r ≠ .pwrStatus
      ∧ r ≠ .pwrSleepCfg ∧ r ≠ .globalBootStatus) ∧
    (∃ (s : State) (e st : Nat), s.boot.resetN = false ∧ e < 64 ∧ st < 8) ∧
    (∃ (s : State), s.boot.aonResetN = true) :=
  ⟨⟨(up |> on 0x40 .running |> wr .pwrCount 0 7 7), .pwrCount, 0, 7, by decide +kernel⟩,
    ⟨({ up with boot := { up.boot with resetN := false } }), 63, 7, by decide +kernel⟩,
    ⟨(up |> wr .pwrStatus 0 0 8), by decide +kernel⟩⟩

def st9 : State :=
  { up with boot := { up.boot with perstN := true } } |> wr .hostWin 0 15 0x80000001
def st10 : State :=
  up |> wr .hostWin 0 15 0x80000001 |> wr .hostWin 0 14 0x80000001
def st11 : State :=
  { up with host := { up.host with busMaster := [15, 2], vfEnabled := [2, 15] } }
theorem witness_PcieResetsComplete :
    (∃ (s : State) (f : _), mainUp s = true ∧ s.boot.perstN = true ∧ f < 16) ∧
    (∃ (s : State) (fn : Nat) (f : _), mainUp s = true ∧ 0 < fn ∧ fn < 16 ∧ f < 16 ∧ f ≠ fn) ∧
    (∃ (s : State) (fn : Nat) (f : _), fn ∈ s.host.vfEnabled ∧ f ≠ fn) :=
  ⟨⟨st9, 15, by decide +kernel⟩,
    ⟨st10, 15, 14, by decide +kernel⟩,
    ⟨st11, 15, 2, by decide +kernel⟩⟩

def st12 : State :=
  up |> on 0x040 .running |> on 0x177 .fault |> on 0x1C0 .running
theorem witness_StartUpCommandsComplete :
    (∃ (s : State), s.boot.fused = false ∧ s.boot.resetN = true ∧ s.boot.aonResetN = true ∧ s.pwr.asleep = false ∧
      s.pwr.shutdown = false) ∧
    (∃ (s : State), bootPhase s = 1 ∧ (synOf s 0).lock ≠ 2) ∧
    (∃ (s : State) (m : Nat), m < 2 ∧ ((getF s .mgtMcStatus 0 m 0 3 = 0 ∨ getF s .mgtMcStatus 0 m 0 3 = 1))) ∧
    (∃ (s : State) (ag : AgentId) (v : BitVec 32), WriteOpen s ag (Reg.off .globalResetCmd 0 0) ∧ ((ag = 0x01 ∨ ag =
      0x20)) ∧ fld v 0 16 = 0x5752 ∧ bit v 16 = true ∧ s.boot.warm = none) :=
  ⟨⟨State.reset, by decide +kernel⟩,
    ⟨(up |> setBootPhase 1), by decide +kernel⟩,
    ⟨up, 1, by decide +kernel⟩,
    ⟨st12, 0x20, 0x00015752, by decide +kernel⟩⟩

def st13 : State :=
  up |> on 0x080 .fault |> withSyn 0 (fun y => { y with lock := 2 })
theorem witness_UnitCommandsComplete :
    (∃ (s : State) (ag : AgentId) (u : Nat), WriteOpen s ag (hdrOff u + 0x0C) ∧ s.pwr.runs = [] ∧ 0x080 ≤ u ∧ u <
      0x090 ∧ (unit s u).policy ≠ 2 ∧ ustate s u = .ready) ∧
    (∃ (s : State) (ag : AgentId) (u : Nat), WriteOpen s ag (hdrOff u + 0x0C) ∧ s.pwr.runs = [] ∧ alwaysOn u = false
      ∧ ustate s u = .running) ∧
    (∃ (s : State) (ag : AgentId) (u : Nat), WriteOpen s ag (hdrOff u + 0x0C) ∧ s.pwr.runs = [] ∧ alwaysOn u = false
      ∧ ((ustate s u = .running ∨ ustate s u = .draining))) ∧
    (∃ (s : State) (ag : AgentId) (u : Nat), WriteOpen s ag (hdrOff u + 0x0C) ∧ s.pwr.runs = [] ∧ 0x080 ≤ u ∧ u <
      0x090 ∧ ustate s u = .fault ∧ clocked s u = true) ∧
    (∃ (s : State) (ag : AgentId) (u : Nat), WriteOpen s ag (hdrOff u + 0x0C) ∧ s.pwr.runs = [] ∧ alwaysOn u = false
      ∧ unitKind u ≠ .pc ∧ ustate s u = .frozen) ∧
    (∃ (s : State) (ag : AgentId) (u : Nat), WriteOpen s ag (hdrOff u + 0x0C) ∧ alwaysOn u = false ∧ (unit s
      u).policy ≠ 2 ∧ ((ustate s u = .running ∨ ustate s u = .draining))) :=
  ⟨⟨(up |> on 0x08F .ready), 0x01, 0x08F, by decide +kernel⟩,
    ⟨(up |> on 0x177 .running), 0x51, 0x177, by decide +kernel⟩,
    ⟨(up |> on 0x1FF .draining), 0x51, 0x1FF, by decide +kernel⟩,
    ⟨st13, 0x51, 0x080, by decide +kernel⟩,
    ⟨(up |> on 0x04F .frozen), 0x20, 0x04F, by decide +kernel⟩,
    ⟨(up |> on 0x04F .draining), 0x20, 0x04F, by decide +kernel⟩⟩

def st14 : State :=
  up |> on 0x08F .draining |> withPlan (fun p => { p with rearm := [0x08F] })
def st15 : State :=
  up |> on 0x08F .draining |> withPwr (fun p => { p with runs := [⟨5, 0, [0x08F], true, true⟩] })
def st16 : State :=
  { up with plan := { up.plan with load := some (⟨0x01, 0, 1024, none, [], [0x04F], [], false⟩) } } |> setPhase 4 |>
    on 0x04F .draining
def st17 : State :=
  setUnit 0x1FF { unit up 0x1FF with state := .ready, policy := 1 } up
def st18 : State :=
  { up with rates := [⟨1, 2, [], 3, []⟩, ⟨0x0604, 0x0E0, [], 0, []⟩] }
theorem witness_UnitEventsComplete :
    (∃ (s : State) (u : Nat), ustate s u = .draining ∧ unitIdle s u = true ∧ u ∉ s.plan.rearm ∧ (∀ r ∈ s.pwr.runs, u
      ∉ r.units)) ∧
    (∃ (s : State) (u : Nat), ustate s u = .draining ∧ unitIdle s u = true ∧ u ∈ s.plan.rearm ∧ 0x080 ≤ u ∧ u < 0x090
      ∧ (∀ r ∈ s.pwr.runs, u ∉ r.units)) ∧
    (∃ (s : State) (u : Nat) (r : SurveyRun), ustate s u = .draining ∧ unitIdle s u = true ∧ u ∉ s.plan.rearm ∧
      s.pwr.runs = [r] ∧ r.draining = true ∧ r.units = [u]) ∧
    (∃ (s : State) (u : Nat), ((ustate s u ≠ .draining ∨ unitIdle s u = false))) ∧
    (∃ (s : State) (u : Nat), ustate s u = .draining ∧ ((∀ j, s.plan.load = some j → planPhase s ≠ 4 ∨ u ∉
      j.changed))) ∧
    (∃ (s : State) (u : Nat) (j : LoadJob), ustate s u = .draining ∧ s.plan.load = some j ∧ planPhase s = 4 ∧ u ∈
      j.changed ∧ j.boot = false ∧ j.before = [] ∧ s.plan.deferred = []) :=
  ⟨⟨(up |> on 0x04F .draining), 0x04F, by decide +kernel⟩,
    ⟨st14, 0x08F, by decide +kernel⟩,
    ⟨st15, 0x08F, (⟨5, 0, [0x08F], true, true⟩), by decide +kernel⟩,
    ⟨(up |> on 0x08F .running), 0x08F, by decide +kernel⟩,
    ⟨(up |> on 0x177 .draining), 0x177, by decide +kernel⟩,
    ⟨st16, 0x04F, (⟨0x01, 0, 1024, none, [], [0x04F], [], false⟩), by decide +kernel⟩⟩

theorem witness_UnitEventsComplete_2 :
    (∃ (s : State) (u : Nat), ustate s u ≠ .draining) ∧
    (∃ (s : State) (u : Nat), ustate s u = .ready ∧ (unit s u).policy = 1) ∧
    (∃ (s : State) (u : Nat) (d : BitVec 32), d ≠ epochOf s u ∧ u ∉ s.skew) ∧
    (∃ (s : State) (u : Nat) (d : BitVec 32), d ≠ epochOf s u ∧ u ∈ s.skew) ∧
    (∃ (s : State) (k : Nat) (r : RateRec), s.rates[k]? = some r ∧ r.count = 0) ∧
    (∃ (s : State) (k : Nat) (r : RateRec), s.rates[k]? = some r ∧ r.count ≠ 0) :=
  ⟨⟨up, 0x177, by decide +kernel⟩,
    ⟨st17, 0x1FF, by decide +kernel⟩,
    ⟨up, 0x1FF, 5, by decide +kernel⟩,
    ⟨({ up with skew := [0x1FF, 4] }), 0x1FF, 5, by decide +kernel⟩,
    ⟨st18, 1, (⟨0x0604, 0x0E0, [], 0, []⟩), by decide +kernel⟩,
    ⟨({ up with rates := [⟨0x0605, 0x0E3, [], 3, []⟩] }), 0, (⟨0x0605, 0x0E3, [], 3, []⟩), by decide +kernel⟩⟩

def st19 : State :=
  { up with plan := { up.plan with load := some ⟨0x01, 0, 1024, none, [], [], [], false⟩ } } |> setPhase 1
def st20 : State :=
  { up with plan := { up.plan with load := some (⟨0x01, 0, 1024, none, [], [], [], false⟩) } } |> setPhase 4
def st21 : State :=
  { up with plan := { up.plan with load := some ⟨0x01, 0, 1024, none, [], [], [], false⟩ } } |> setPhase 6
def st22 : State :=
  { up with plan := { up.plan with load := some (⟨0x01, 0, 1024, none, [], [], [], false⟩) } } |> setPhase 1
def st23 : State :=
  { up with plan := { up.plan with load := some (⟨0x01, 0, 1024, some (⟨List.replicate 16 0, false, 1024, [], [], [], [], 0, 1, [], [], [], 0, 0, [], [], 0, 5⟩), [7], [0x040], [], false⟩) } }
    |> setPhase 4
def st24 : State :=
  { up with plan := { up.plan with load := some (⟨0x01, 0, 1024, some (⟨List.replicate 16 0, false, 1024, [], [], [], [], 0, 1, [], [], [], 0, 0, [], [], 0, 5⟩), [7], [0x040], [], false⟩) } }
    |> setPhase 4 |> setB .hbmFence 0 0 0 true
def st25 : State :=
  { up with plan := { up.plan with load := some (⟨0x01, 0, 1024, some (⟨List.replicate 16 0, false, 1024, [], [], [], [], 0, 1, [], [], [], 0, 0, [], [], 0, 5⟩), [7], [0x040], [], false⟩) } }
    |> setPhase 6 |> setB .globalFaultStatus 0 0 6 true
theorem witness_PlanCommandsComplete :
    (∃ (s : State) (ag : AgentId), WriteOpen s ag (Reg.off .globalPlanCmd 0 0) ∧ planPhase s = 0 ∧ 1024 ≤ planLen s ∧
      planLen s ≤ 33554432 ∧ planLen s % 8 = 0) ∧
    (∃ (s : State) (ag : AgentId), WriteOpen s ag (Reg.off .globalPlanCmd 0 0) ∧ planPhase s = 0 ∧ s.plan.deferred =
      [] ∧ ((planLen s < 1024 ∨ 33554432 < planLen s ∨ planLen s % 8 ≠ 0))) ∧
    (∃ (s : State) (ag : AgentId), WriteOpen s ag (Reg.off .globalPlanCmd 0 0) ∧ planPhase s ≠ 0) ∧
    (∃ (s : State) (ag : AgentId) (slot : Nat), WriteOpen s ag (Reg.off .globalPlanCmd 0 0) ∧ planPhase s = 0 ∧ slot
      < 2) ∧
    (∃ (s : State) (ag : AgentId) (j : LoadJob), WriteOpen s ag (Reg.off .globalPlanCmd 0 0) ∧ s.plan.load = some j ∧
      0 < planPhase s ∧ planPhase s < 5 ∧ j.boot = false ∧ s.plan.deferred = [] ∧ j.before = []) ∧
    (∃ (s : State) (ag : AgentId), WriteOpen s ag (Reg.off .globalPlanCmd 0 0) ∧ ((s.plan.load = none ∨ 5 ≤ planPhase
      s))) :=
  ⟨⟨(up |> wr .globalPlanLen 0 0 1024), 0x01, by decide +kernel⟩,
    ⟨(up |> wr .globalPlanLen 0 0 33554440), 0x51, by decide +kernel⟩,
    ⟨st19, 0x51, by decide +kernel⟩,
    ⟨up, 0x51, 1, by decide +kernel⟩,
    ⟨st20, 0x51, (⟨0x01, 0, 1024, none, [], [], [], false⟩), by decide +kernel⟩,
    ⟨st21, 0x51, by decide +kernel⟩⟩

theorem witness_PlanCommandsComplete_2 :
    (∃ (s : State) (j : LoadJob) (bytes : List Byte) (good : Bool) (c : Nat), s.plan.load = some j ∧ planPhase s = 1
      ∧ j.boot = false ∧ s.plan.deferred = [] ∧ j.before = [] ∧ c < 65536 ∧ ((loadFetched s j bytes good = .error c ∨
      (loadFetched s j bytes good).toOption.any (fun x => decide (checkImage (hbmWrite (loaderAddr s) x.1 s) x.2 x.1
      = .error c)) = true))) ∧
    (∃ (s : State) (j : LoadJob), s.plan.load = some j ∧ planPhase s = 1 ∧ j.source = 0 ∧ j.boot = false ∧
      s.plan.deferred = [] ∧ j.before = [] ∧ (pcsNow s).isEmpty = false) ∧
    (∃ (s : State) (j : LoadJob) (p : PlanImg), s.plan.load = some j ∧ j.img = some p ∧ planPhase s = 4 ∧
      j.changed.any (fun u => !alwaysOn u && (ustate s u).busy) = false ∧ Nat.land p.pcMask (pcsFenced s) = 0) ∧
    (∃ (s : State) (j : LoadJob) (p : PlanImg), s.plan.load = some j ∧ j.img = some p ∧ planPhase s = 4 ∧
      j.changed.any (fun u => !alwaysOn u && (ustate s u).busy) = false ∧ Nat.land p.pcMask (pcsFenced s) ≠ 0 ∧
      j.boot = false ∧ s.plan.deferred = [] ∧ j.before = []) ∧
    (∃ (s : State) (j : LoadJob) (p : PlanImg), s.plan.load = some j ∧ j.img = some p ∧ planPhase s = 6 ∧
      configClocked s j p = true ∧ s.plan.deferred = []) :=
  ⟨⟨st22, (⟨0x01, 0, 1024, none, [], [], [], false⟩), [], true, 0x12F1, by decide +kernel⟩,
    ⟨st22, (⟨0x01, 0, 1024, none, [], [], [], false⟩), by decide +kernel⟩,
    ⟨st23, (⟨0x01, 0, 1024, some (⟨List.replicate 16 0, false, 1024, [], [], [], [], 0, 1, [], [], [], 0, 0, [], [],
      0, 5⟩), [7], [0x040], [], false⟩), (⟨List.replicate 16 0, false, 1024, [], [], [], [], 0, 1, [], [], [], 0, 0,
      [], [], 0, 5⟩), by decide +kernel⟩,
    ⟨st24, (⟨0x01, 0, 1024, some (⟨List.replicate 16 0, false, 1024, [], [], [], [], 0, 1, [], [], [], 0, 0, [], [],
      0, 5⟩), [7], [0x040], [], false⟩), (⟨List.replicate 16 0, false, 1024, [], [], [], [], 0, 1, [], [], [], 0, 0,
      [], [], 0, 5⟩), by decide +kernel⟩,
    ⟨st25, (⟨0x01, 0, 1024, some (⟨List.replicate 16 0, false, 1024, [], [], [], [], 0, 1, [], [], [], 0, 0, [], [],
      0, 5⟩), [7], [0x040], [], false⟩), (⟨List.replicate 16 0, false, 1024, [], [], [], [], 0, 1, [], [], [], 0, 0,
      [], [], 0, 5⟩), by decide +kernel⟩⟩

def st26 : State :=
  up |> withTime (fun t => { t with started := true, mode := .full, sec := 5 })
def st27 : State :=
  up |> withTime (fun t => { t with started := true, mode := .full, sec := 5 }) |> withSyn 0 (fun y =>
    { y with lock := 2, everLocked := true })
def st28 : State :=
  up |> withTime (fun t => { t with started := true, mode := .rc, ocxo := false })
def st29 : State :=
  up |> withTime (fun t => { t with ocxoReady := true, warmExpired := true, up := 9 }) |> wr .timeCfg 0 0 4
def st30 : State :=
  up |> withTime (fun t => { t with qualified := true, servo := .holdover })
def st31 : State :=
  up |> withTime (fun t => { t with qualified := true, servo := .acquire })
def st32 : State :=
  up |> withTime (fun t => { t with qualified := true, servo := .acquire, everLocked := true })
theorem witness_ReferenceClockCommandsComplete :
    (∃ (s : State), s.time.ocxo = true ∧ s.time.started = true) ∧
    (∃ (s : State), s.time.ocxo = true ∧ mainUp s = true ∧ (synOf s 0).everLocked = true ∧ ustate s 0x010 = .running) ∧
    (∃ (s : State), s.time.mode = .rc) ∧
    (∃ (s : State) (level : Bool), s.time.ocxoReady = true ∧ level = false ∧ getB s .timeCfg 0 0 2 = true) ∧
    (∃ (s : State), s.time.qualified = true) ∧
    (∃ (s : State), s.time.qualified = false) :=
  ⟨⟨st26, by decide +kernel⟩,
    ⟨st27, by decide +kernel⟩,
    ⟨st28, by decide +kernel⟩,
    ⟨st29, false, by decide +kernel⟩,
    ⟨(up |> withTime (fun t => { t with qualified := true })), by decide +kernel⟩,
    ⟨up, by decide +kernel⟩⟩

theorem witness_ReferenceClockCommandsComplete_2 :
    (∃ (s : State), (s.time.servo = .free ∨ s.time.servo = .holdover)) ∧
    (∃ (s : State), s.time.servo = .acquire ∧ s.time.everLocked = false) ∧
    (∃ (s : State), (s.time.servo = .locked ∨ s.time.servo = .slew ∨ s.time.servo = .jumpWait ∨ (s.time.servo =
      .acquire ∧ s.time.everLocked = true))) :=
  ⟨⟨st30, by decide +kernel⟩,
    ⟨st31, by decide +kernel⟩,
    ⟨st32, by decide +kernel⟩⟩

def st33 : State :=
  up |> wr .timeCfg 0 0 1 |> withTime (fun t => { t with started := true, sec := 9, servo := .locked })
def st34 : State :=
  up |> wr .timeCfg 0 0 3 |> withTime (fun t => { t with started := true })
def st35 : State :=
  up |> wr .timeCfg 0 0 2 |> withTime (fun t => { t with errors := [-5000, 3] })
def st36 : State :=
  up |> wr .timeCfg 0 0 2 |> withTime (fun t => { t with errors := [10, 3] })
def st37 : State :=
  up |> wr .timeCfg 0 0 2 |> withTime (fun t => { t with errors := [10, 3], servo := .slew })
def st38 : State :=
  up |> wr .timeCfg 0 0 1 |> withTime (fun t => { t with servo := .holdover, errors := [101, 102] }) |> wr
    .timeJumpLimit 0 0 100
def st39 : State :=
  up |> withTime (fun t => { t with servo := .jumpWait, sec := 5, jump := -1000 })
def st40 : State :=
  up |> withTime (fun t => { t with servo := .slew, sec := 5, jump := -1000 })
def st41 : State :=
  up |> withTime (fun t => { t with setHeld := some 281474976710655, started := true, qualified := true }) |> wr
    .timeRefOffset 0 0 0xFFFFFFFF
def st42 : State :=
  up |> withTime (fun t => { t with setHeld := some 281474976710655, started := false })
theorem witness_ServoCommandsComplete :
    (∃ (s : State), refSel s ≠ 0 ∧ ustate s 0x010 ≠ .fault ∧ s.time.started = true) ∧
    (∃ (s : State), ((refSel s = 0 ∨ ustate s 0x010 = .fault ∨ s.time.started = false))) ∧
    (∃ (s : State) (e : Int) (l : List Int), refSel s ≠ 0 ∧ ustate s 0x010 ≠ .fault ∧ s.time.servo = .free ∧
      s.time.errors = e :: l ∧ s.time.setHeld = none ∧ lockWindow s < e.natAbs) ∧
    (∃ (s : State) (e : Int) (l : List Int), refSel s ≠ 0 ∧ ustate s 0x010 ≠ .fault ∧ s.time.servo = .free ∧
      s.time.errors = e :: l ∧ s.time.setHeld = none ∧ e.natAbs ≤ lockWindow s) ∧
    (∃ (s : State), refSel s ≠ 0 ∧ ustate s 0x010 ≠ .fault ∧ s.time.servo ≠ .holdover ∧ ((s.time.servo = .free →
      s.time.errors = [] ∨ s.time.setHeld ≠ none))) ∧
    (∃ (s : State), refSel s ≠ 0 ∧ ustate s 0x010 ≠ .fault ∧ s.time.servo = .holdover) :=
  ⟨⟨st33, by decide +kernel⟩,
    ⟨st34, by decide +kernel⟩,
    ⟨st35, (-5000), [3], by decide +kernel⟩,
    ⟨st36, 10, [3], by decide +kernel⟩,
    ⟨st37, by decide +kernel⟩,
    ⟨st38, by decide +kernel⟩⟩

theorem witness_ServoCommandsComplete_2 :
    (∃ (s : State) (ag : AgentId), WriteOpen s ag (Reg.off .timeCmd 0 0) ∧ s.time.servo = .jumpWait) ∧
    (∃ (s : State) (ag : AgentId), WriteOpen s ag (Reg.off .timeCmd 0 0) ∧ s.time.servo ≠ .jumpWait) ∧
    (∃ (s : State) (sec : Nat), s.time.setHeld = some sec ∧ s.time.started = true ∧ sec < 2 ^ 48) ∧
    (∃ (s : State), ((s.time.setHeld = none ∨ s.time.started = false))) :=
  ⟨⟨st39, 0x51, by decide +kernel⟩,
    ⟨st40, 0x51, by decide +kernel⟩,
    ⟨st41, 281474976710655, by decide +kernel⟩,
    ⟨st42, by decide +kernel⟩⟩

def st43 : State :=
  up |> wr .timeCfg 0 0 0x10 |> wr .timeSyncCfg 0 0 640 |> withTime (fun t => { t with servo := .locked })
def st44 : State :=
  up |> wr .timeCfg 0 0 0x10 |> wr .timeSyncCfg 0 0 639 |> withTime (fun t => { t with servo := .locked })
def st45 : State :=
  up |> wr .timeCfg 0 0 0x20 |> withTime (fun t => { t with servo := .locked })
def st46 : State :=
  up |> withTime (fun t => { t with sync := some ⟨true, 281474976710655, 3⟩ })
def st47 : State :=
  up |> withTime (fun t => { t with sync := some ⟨false, 5, 3⟩, sec := 5 })
theorem witness_SynchronisationCommandsComplete :
    (∃ (s : State) (ag : AgentId), WriteOpen s ag (Reg.off .timeCmd 0 0) ∧ syncRole s = 1 ∧ 640 ≤ getF s .timeSyncCfg
      0 0 0 16 ∧ s.time.servo ≠ .free ∧ s.time.sync = none) ∧
    (∃ (s : State) (ag : AgentId), WriteOpen s ag (Reg.off .timeCmd 0 0) ∧ ((syncRole s ≠ 1 ∨ getF s .timeSyncCfg 0 0
      0 16 < 640 ∨ s.time.servo = .free ∨ s.time.sync ≠ none))) ∧
    (∃ (s : State) (f : BitVec 96) (typ hop l sec : Nat), syncRole s ≠ 0 ∧ syncFields f = (typ, hop, l, sec, 0) ∧
      s.time.servo ≠ .free ∧ s.time.sync = none ∧ ((typ = 1 ∨ typ = 2)) ∧ hop ≤ 63 ∧ 640 ≤ l) ∧
    (∃ (s : State) (f : BitVec 96) (typ hop l sec bad : Nat), syncRole s ≠ 0 ∧ syncFields f = (typ, hop, l, sec, bad)
      ∧ s.time.servo ≠ .free ∧ s.time.sync = none ∧ ((bad ≠ 0 ∨ (typ ≠ 1 ∧ typ ≠ 2) ∨ 63 < hop ∨ l < 640))) ∧
    (∃ (s : State) (f : BitVec 96) (typ hop l sec bad : Nat), syncRole s ≠ 0 ∧ syncFields f = (typ, hop, l, sec, bad)
      ∧ ((s.time.servo = .free ∨ s.time.sync ≠ none))) ∧
    (∃ (s : State), syncRole s = 0) :=
  ⟨⟨st43, 0x51, by decide +kernel⟩,
    ⟨st44, 0x51, by decide +kernel⟩,
    ⟨st45, (syncFrame 2 63 640 281474976710655 0), 2, 63, 640, 281474976710655, by decide +kernel⟩,
    ⟨st45, (syncFrame 2 64 640 281474976710655 0), 2, 64, 640, 281474976710655, 0, by decide +kernel⟩,
    ⟨(up |> wr .timeCfg 0 0 0x20), (syncFrame 2 255 640 281474976710655 9), 2, 255, 640, 281474976710655, 9,
      by decide +kernel⟩,
    ⟨up, by decide +kernel⟩⟩

theorem witness_SynchronisationCommandsComplete_2 :
    (∃ (s : State) (j : SyncJob), s.time.sync = some j ∧ j.load = true) ∧
    (∃ (s : State) (j : SyncJob), s.time.sync = some j ∧ j.load = false) :=
  ⟨⟨st46, ⟨true, 281474976710655, 3⟩, by decide +kernel⟩,
    ⟨st47, ⟨false, 5, 3⟩, by decide +kernel⟩⟩

def st48 : State :=
  up |> on 0x160 .ready |> withSyn 1 (fun y => { y with lock := 1 })
def st49 : State :=
  up |> on 0x1FF .ready |> withSyn 2 (fun y => { y with lock := 1, everLocked := true })
def st50 : State :=
  up |> withSyn 0 (fun y => { y with lock := 2, moving := true, target := -1 })
def st51 : State :=
  up |> withSyn 0 (fun y => { y with lock := 2, moving := true, target := -1 }) |> withTime (fun t =>
    { t with phaseAdj := 5 })
def st52 : State :=
  up |> wr .synSysrefCfg 3 0 0x00080102 |> withTime (fun t => { t with sysrefLeft := vset t.sysrefLeft 3 5 })
theorem witness_SynthesiserCommandsComplete :
    (∃ (s : State), (synOf s 0).lock = 1 ∧ (synOf s 0).everLocked = false ∧ s.time.ocxo = true ∧ s.time.started =
      false) ∧
    (∃ (s : State) (n : Nat), n < 6 ∧ (synOf s n).lock = 1 ∧ (synOf s n).everLocked = false ∧ s.time.ocxo = true ∧
      s.pwr.waiting = [] ∧ s.pwr.runs = [] ∧ synWanted s n = true) ∧
    (∃ (s : State) (n : Nat), n < 6 ∧ (synOf s n).lock = 1 ∧ (synOf s n).everLocked = true ∧ s.time.ocxo = true ∧
      s.pwr.waiting = [] ∧ s.pwr.runs = [] ∧ synWanted s n = true ∧ ¬(n = 2 ∧ s.hbm.change ≠ none) ∧ ¬(n = 3 ∧
      s.disp.planned = true)) ∧
    (∃ (s : State) (ag : AgentId) (n : Nat) (k : _), WriteOpen s ag (Reg.off .synPhase n 0) ∧ ((n = 0 ∨ n = 4 ∨ n =
      5)) ∧ k ≠ n) ∧
    (∃ (s : State) (ag : AgentId) (n : Nat), WriteOpen s ag (Reg.off .synPhase n 0) ∧ ((n = 1 ∨ n = 2 ∨ n = 3))) ∧
    (∃ (s : State) (n : Nat), n < 6 ∧ (synOf s n).moving = true ∧ (synOf s n).lock = 2 ∧ ((n = 0 → s.time.phaseAdj =
      0))) :=
  ⟨⟨(up |> withSyn 0 (fun y => { y with lock := 1 })), by decide +kernel⟩,
    ⟨st48, 1, by decide +kernel⟩,
    ⟨st49, 2, by decide +kernel⟩,
    ⟨up, 0x51, 5, 2, by decide +kernel⟩,
    ⟨up, 0x51, 3, by decide +kernel⟩,
    ⟨st50, 0, by decide +kernel⟩⟩

theorem witness_SynthesiserCommandsComplete_2 :
    (∃ (s : State) (n : Nat), (((synOf s n).moving = false ∨ (synOf s n).lock ≠ 2 ∨ (n = 0 ∧ s.time.phaseAdj ≠ 0)))) ∧
    (∃ (s : State) (ag : AgentId) (n : Nat) (v : BitVec 32), n < 4 ∧ WriteOpen s ag (Reg.off .synSysrefCfg n 0) ∧ fld
      v 0 2 = 2 ∧ fld v 16 16 % 2 = 0 ∧ 8 ≤ fld v 16 16 ∧ sysrefBusy (wr .synSysrefCfg n 0 (v &&& 0xFFFFFF03) s) n =
      false) ∧
    (∃ (s : State) (ag : AgentId) (n : Nat) (v : BitVec 32), n < 4 ∧ WriteOpen s ag (Reg.off .synSysrefCfg n 0) ∧ fld
      v 0 2 = 2 ∧ fld v 16 16 % 2 = 0 ∧ 8 ≤ fld v 16 16 ∧ sysrefBusy (wr .synSysrefCfg n 0 (v &&& 0xFFFFFF03) s) n =
      true) :=
  ⟨⟨st51, 0, by decide +kernel⟩,
    ⟨up, 0x51, 3, 0x0008FF02, by decide +kernel⟩,
    ⟨st52, 0x51, 3, 0x0008FF02, by decide +kernel⟩⟩

def st53 : State :=
  up |> on 0x023 .running |> wr .ingLinkCfg 3 0 0 |> setF .ingLinkStatus 3 0 0 3 1
def st54 : State :=
  up |> on 0x023 .running |> wr .ingLinkCfg 3 0 0 |> setF .ingLinkStatus 3 0 0 3 2
def st55 : State :=
  up |> on 0x023 .running |> wr .ingLinkCfg 3 0 0 |> setF .ingLinkStatus 3 0 0 3 3 |> withLink 3 (fun l =>
    { l with aligned := true })
def st56 : State :=
  up |> on 0x023 .running |> on 0x021 .running |> wr .ingLinkCfg 3 0 0x03800000 |> wr .ingLinkCfg 1 0 0x03800000 |>
    setF .ingLinkStatus 3 0 0 3 3 |> withLink 3 (fun l => { l with aligned := true })
def st57 : State :=
  up |> on 0x023 .running |> setF .ingLinkStatus 3 0 0 3 3 |> setB .ingLinkTiming 3 0 23 true
def st58 : State :=
  up |> on 0x023 .running |> setF .ingLinkStatus 3 0 0 3 3 |> setB .ingLinkTiming 3 0 23 true |> setF .ingLinkTiming
    3 0 16 7 5
def st59 : State :=
  up |> on 0x023 .running |> setF .ingLinkStatus 3 0 0 3 3 |> setB .ingLinkTiming 3 0 23 true |> setF .ingLinkTiming
    3 0 16 7 5 |> setB .ingLinkCfg 3 0 0 true
def st60 : State :=
  up |> on 0x023 .running |> setF .ingLinkStatus 3 0 0 3 4 |> setB .ingLinkTiming 3 0 23 true |> wr .ingPeriodLo 3 0
    0xFFFFFFFF |> wr .ingPeriodHi 3 0 0xF |> withTime (fun t => { t with cycles := 7, mode := .full })
def st61 : State :=
  up |> on 0x023 .running |> setF .ingLinkStatus 3 0 0 3 4 |> setB .ingLinkTiming 3 0 23 true |> withTime (fun t =>
    { t with sec := 5, up := 7 })
def st62 : State :=
  up |> on 0x023 .running |> setF .ingLinkStatus 3 0 0 3 2 |> setB .ingLinkTiming 3 0 23 true
def st63 : State :=
  up |> on 0x023 .running |> on 0x021 .running |> wr .ingLinkCfg 3 0 0x03800000 |> wr .ingLinkCfg 1 0 0x03800000 |>
    setF .ingLinkStatus 3 0 0 3 3 |> setF .ingLinkStatus 1 0 0 3 3 |> withLink 3 (fun l => { l with passed := true })
def st64 : State :=
  up |> on 0x023 .running |> setF .ingLinkStatus 3 0 0 3 5 |> setB .ingLinkTiming 3 0 26 true
def st65 : State :=
  up |> on 0x023 .running |> setF .ingLinkStatus 3 0 0 3 4 |> withLink 3 (fun l => { l with locked := [0] })
theorem witness_LinkBringUpCommandsComplete :
    (∃ (s : State) (n lane : Nat), n < 4 ∧ 1 ≤ lstate s n ∧ lane < lkLanes s n) ∧
    (∃ (s : State) (n lane : Nat), n < 4 ∧ 2 ≤ lstate s n ∧ lstate s n ≤ 4 ∧ lane < lkLanes s n) ∧
    (∃ (s : State) (n lane : Nat) (fields : List Nat), n < 4 ∧ lstate s n = 3 ∧ (link s n).aligned = true ∧ lkEnc66 s
      n = false ∧ lane < lkLanes s n ∧ (∀ k < 13, fields.getD k 0 = (ilasExpected s n lane).getD k 0) ∧ ((∀ k <
      lkLanes s n, k = lane ∨ k ∈ (link s n).ilas)) ∧ getB s .ingLinkCfg n 0 25 = false) ∧
    (∃ (s : State) (n lane : Nat) (fields : List Nat), n < 4 ∧ lstate s n = 3 ∧ (link s n).aligned = true ∧ lkEnc66 s
      n = false ∧ lane < lkLanes s n ∧ (∀ k < 13, fields.getD k 0 = (ilasExpected s n lane).getD k 0) ∧ ((∀ k <
      lkLanes s n, k = lane ∨ k ∈ (link s n).ilas)) ∧ getB s .ingLinkCfg n 0 25 = true ∧ (∀ m ∈ groupMembers s (getF
      s .ingLinkCfg n 0 23 2), lstate s m ≠ 4) ∧ (∃ m ∈ groupMembers s (getF s .ingLinkCfg n 0 23 2), m ≠ n ∧ (link s
      m).passed = false)) ∧
    (∃ (s : State) (n lane k : Nat) (fields : List Nat), n < 4 ∧ lstate s n = 3 ∧ (link s n).aligned = true ∧ lkEnc66
      s n = false ∧ lane < lkLanes s n ∧ k < 13 ∧ fields.getD k 0 ≠ (ilasExpected s n lane).getD k 0 ∧ (∀ j < k,
      fields.getD j 0 = (ilasExpected s n lane).getD j 0)) ∧
    (∃ (s : State) (n : Nat) (e : SysEdge) (skews : List Nat), n < 4 ∧ sysrefEdge s n = some e ∧ lstate s n = 3 ∧
      (link s n).aligned = false ∧ 1024 < maxList skews) :=
  ⟨⟨st53, 3, 0, by decide +kernel⟩,
    ⟨st54, 3, 0, by decide +kernel⟩,
    ⟨st55, 3, 0, (ilasExpected st55 3 0), by decide +kernel⟩,
    ⟨st56, 3, 0, (ilasExpected st56 3 0), by decide +kernel⟩,
    ⟨st55, 3, 0, 12, ((ilasExpected st55 3 0).take 12 ++ [9]), by decide +kernel⟩,
    ⟨st57, 3, (edgeAt st57 (nowTotal st57)), [5, 1025], by decide +kernel⟩⟩

theorem witness_LinkBringUpCommandsComplete_2 :
    (∃ (s : State) (n : Nat) (e : SysEdge) (arr skews : List Nat), n < 4 ∧ sysrefEdge s n = some e ∧ lstate s n = 3 ∧
      (link s n).aligned = false ∧ maxList skews ≤ 1024 ∧ getF s .ingLinkTiming n 0 16 7 < maxList arr + 2) ∧
    (∃ (s : State) (n : Nat) (e : SysEdge) (arr skews : List Nat), n < 4 ∧ sysrefEdge s n = some e ∧ lstate s n = 3 ∧
      (link s n).aligned = false ∧ maxList skews ≤ 1024 ∧ maxList arr + 2 ≤ getF s .ingLinkTiming n 0 16 7 ∧ lkEnc66
      s n = true ∧ getB s .ingLinkCfg n 0 25 = false) ∧
    (∃ (s : State) (n : Nat) (e : SysEdge), n < 4 ∧ sysrefEdge s n = some e ∧ ((lstate s n = 4 ∨ (lstate s n = 3 ∧
      (link s n).aligned = true))) ∧ edgeDev s n e ≠ 0) ∧
    (∃ (s : State) (n : Nat) (e : SysEdge), n < 4 ∧ sysrefEdge s n = some e ∧ ((lstate s n = 4 ∨ (lstate s n = 3 ∧
      (link s n).aligned = true))) ∧ edgeDev s n e = 0) ∧
    (∃ (s : State) (n : Nat), ((sysrefEdge s n = none ∨ (lstate s n ≠ 3 ∧ lstate s n ≠ 4)))) ∧
    (∃ (s : State) (g m : Nat), m ∈ groupMembers s g ∧ (link s m).passed = true) :=
  ⟨⟨st58, 3, (edgeAt st58 (nowTotal st58)), [4], [5, 1024], by decide +kernel⟩,
    ⟨st59, 3, (edgeAt st59 (nowTotal st59)), [3], [5, 1024], by decide +kernel⟩,
    ⟨st60, 3, (edgeAt st60 (nowTotal st60)), by decide +kernel⟩,
    ⟨st61, 3, (edgeAt st61 (nowTotal st61)), by decide +kernel⟩,
    ⟨st62, 3, by decide +kernel⟩,
    ⟨st63, 3, 3, by decide +kernel⟩⟩

theorem witness_LinkBringUpCommandsComplete_3 :
    (∃ (s : State) (n : Nat), n < 4 ∧ lstate s n = 5 ∧ getB s .ingLinkTiming n 0 26 = true) ∧
    (∃ (s : State) (ag : AgentId) (n : Nat), n < 4 ∧ WriteOpen s ag (Reg.off .ingLinkCmd n 0) ∧ ustate s (ingUnit n)
      = .running) :=
  ⟨⟨st64, 3, by decide +kernel⟩,
    ⟨st65, 0x51, 3, by decide +kernel⟩⟩

def st66 : State :=
  up |> on 0x023 .running |> setF .ingLinkStatus 3 0 0 3 4 |> setF .ingLinkCfg 3 0 1 2 3
def st67 : State :=
  up |> on 0x023 .running |> setF .ingLinkStatus 3 0 0 3 4 |> setF .ingLinkCfg 3 0 1 2 3 |> setB .ingLinkCfg 3 0 0
    true |> withLink 3 (fun l => { l with badBlocks := List.replicate 14 (7, 5) }) |> wr .ingCount 3 3 0xFFFFFFFF
def st68 : State :=
  up |> on 0x023 .running |> setF .ingLinkStatus 3 0 0 3 2 |> setF .ingLinkCfg 3 0 1 2 3 |> setB .ingLinkCfg 3 0 0
    true |> withLink 3 (fun l => { l with badBlocks := List.replicate 15 (7, 5) })
def st69 : State :=
  up |> on 0x023 .running |> setF .ingLinkStatus 3 0 0 3 4 |> setF .ingLinkCfg 3 0 3 2 2 |> withLink 3 (fun l =>
    { l with items := List.replicate 1023 0 })
def st70 : State :=
  up |> on 0x023 .running |> setF .ingLinkStatus 3 0 0 3 4 |> setF .ingLinkCfg 3 0 3 2 2 |> withLink 3 (fun l =>
    { l with items := List.replicate 1022 0 })
def st71 : State :=
  up |> on 0x023 .running |> setF .ingLinkStatus 3 0 0 3 4 |> setF .ingLinkCfg 3 0 3 2 0 |> withLink 3 (fun l =>
    { l with items := List.replicate 1022 0, crcLeft := 3, flags := 1 })
def st72 : State :=
  up |> on 0x023 .running |> setF .ingLinkStatus 3 0 0 3 4 |> setF .ingLinkCfg 3 0 3 2 1 |> withLink 3 (fun l =>
    { l with items := List.replicate 1022 0 })
def st73 : State :=
  up |> on 0x023 .running |> setF .ingLinkStatus 3 0 0 3 4 |> setF .ingLinkCfg 3 0 3 2 1
theorem witness_LinkDataCommandsComplete :
    (∃ (s : State) (n lane : Nat), n < 4 ∧ 1 ≤ lstate s n ∧ lstate s n ≤ 4 ∧ lane < lkLanes s n ∧ lkEnc66 s n = false
      ∧ lstate s n = 4) ∧
    (∃ (s : State) (n lane block : Nat), n < 4 ∧ lstate s n = 4 ∧ lane < lkLanes s n ∧ ((lkEnc66 s n = false ∨ ((link
      s n).badBlocks.filter fun p => p.1 == lane && decide (block < p.2 + 64)).length < 15))) ∧
    (∃ (s : State) (n lane block : Nat), n < 4 ∧ 2 ≤ lstate s n ∧ lstate s n ≤ 4 ∧ lane < lkLanes s n ∧ lkEnc66 s n =
      true ∧ 15 ≤ ((link s n).badBlocks.filter fun p => p.1 == lane && decide (block < p.2 + 64)).length) ∧
    (∃ (s : State) (ag : AgentId) (n k : Nat), n < 4 ∧ k < 8 ∧ WriteOpen s ag (Reg.off .ingLinkCmd n 0)) ∧
    (∃ (s : State) (n : Nat) (took : Bool), n < 4 ∧ lstate s n = 4 ∧ ustate s (ingUnit n) = .running ∧ lkTransport s
      n = 2 ∧ (link s n).items.length = 1023 ∧ (link s n).bad = [] ∧ took = true) ∧
    (∃ (s : State) (n : Nat) (took : Bool), n < 4 ∧ lstate s n = 4 ∧ ustate s (ingUnit n) = .running ∧ lkTransport s
      n = 2 ∧ (link s n).items.length = 1023 ∧ (link s n).bad = [] ∧ took = false) :=
  ⟨⟨st66, 3, 7, by decide +kernel⟩,
    ⟨st67, 3, 7, 5, by decide +kernel⟩,
    ⟨st68, 3, 7, 68, by decide +kernel⟩,
    ⟨(up |> on 0x023 .running |> wr .ingCount 3 7 9), 0x51, 3, 7, by decide +kernel⟩,
    ⟨st69, 3, true, by decide +kernel⟩,
    ⟨st69, 3, false, by decide +kernel⟩⟩

theorem witness_LinkDataCommandsComplete_2 :
    (∃ (s : State) (n : Nat), n < 4 ∧ lstate s n = 4 ∧ ustate s (ingUnit n) = .running ∧ lkTransport s n = 2 ∧ (link
      s n).items.length < 1023 ∧ (link s n).bad = []) ∧
    (∃ (s : State) (n : Nat), n < 4 ∧ lstate s n = 4 ∧ ustate s (ingUnit n) = .running ∧ lkTransport s n = 0 ∧ (link
      s n).items.length < 1023 ∧ (link s n).bad = [] ∧ 0 < (link s n).crcLeft) ∧
    (∃ (s : State) (n : Nat), n < 4 ∧ lstate s n = 4 ∧ ustate s (ingUnit n) = .running ∧ ((lkTransport s n = 1 ∨
      lkTransport s n = 3)) ∧ (link s n).items.length < 1023) ∧
    (∃ (s : State) (ag : AgentId) (n : Nat) (v : BitVec 32), n < 4 ∧ WriteOpen s ag (Reg.off .ingAdcDelay n 0) ∧
      -1000000 ≤ sgn 32 v.toNat ∧ sgn 32 v.toNat ≤ 1000000 ∧ lstate s n = 4 ∧ (link s n).items ≠ []) ∧
    (∃ (s : State) (ag : AgentId) (n : Nat) (v : BitVec 32), n < 4 ∧ WriteOpen s ag (Reg.off .ingAdcDelay n 0) ∧
      -1000000 ≤ sgn 32 v.toNat ∧ sgn 32 v.toNat ≤ 1000000 ∧ (lstate s n ≠ 4 ∨ (link s n).items = [])) :=
  ⟨⟨st70, 3, by decide +kernel⟩,
    ⟨st71, 3, by decide +kernel⟩,
    ⟨st72, 3, by decide +kernel⟩,
    ⟨st72, 0x51, 3, 0xFFF0BDC0, by decide +kernel⟩,
    ⟨st73, 0x51, 3, 0xFFF0BDC0, by decide +kernel⟩⟩

def st74 : State :=
  up |> on 0x04F .running |> wr .tunCfg 15 0 1 |> withTuner 15 (fun t => { t with lastSeq := some 281474976710655 })
    |> dlv 19 0 [itf 0 64]
def st75 : State :=
  up |> on 0x04F .running |> wr .tunCfg 15 0 1 |> withTuner 15 (fun t => { t with lastSeq := some 281474976710655 })
    |> dlv 19 0 [itf 1 0]
def st76 : State :=
  up |> on 0x04F .running |> wr .tunCfg 15 0 1 |> withTuner 15 (fun t => { t with lastSeq := some 281474976710655 })
    |> dlv 19 0 [itf 0 0]
def st77 : State :=
  up |> on 0x04F .ready |> withPlan (fun p =>
    { p with routes := [⟨⟨1023, 0, 1, unitPort 0x020, 0, 1000, [(19, 0)]⟩, 0, 0, 0, [0, 0, 0, 0, 0, 0, 0, 0], [], [0]⟩] })
    |> dlv 19 0 [itf 1 0]
def st78 : State :=
  up |> on 0x04F .running |> wr .tunCfg 15 0 1 |> dlv 18 0 [itf 1 0]
def st79 : State :=
  up |> on 0x04F .ready |> withTime (fun t => { t with sec := 5 })
def st80 : State :=
  up |> on 0x04F .running |> wr .tunCfg 15 0 1 |> withTuner 15 (fun t =>
    { t with commit := some ⟨1, 2, 3, 1, true, some 5⟩ })
theorem witness_TunerCommandsComplete :
    (∃ (s u : State) (n : Nat) (i : Item) (m : _), n < 16 ∧ takeDelivered (4 + n) 0 s = some (i, u) ∧ ustate s
      (tunUnit n) = .running ∧ (hdrFlags i).testBit 6 = true ∧ m ≠ n) ∧
    (∃ (s u : State) (n : Nat) (i : Item), n < 16 ∧ takeDelivered (4 + n) 0 s = some (i, u) ∧ ustate s (tunUnit n) =
      .running ∧ (hdrFlags i).testBit 6 = false ∧ missingItems (tuner s n).lastSeq i.seq ≠ 0) ∧
    (∃ (s u : State) (n : Nat) (i : Item) (m : _), n < 16 ∧ takeDelivered (4 + n) 0 s = some (i, u) ∧ ustate s
      (tunUnit n) = .running ∧ (hdrFlags i).testBit 6 = false ∧ m ≠ n) ∧
    (∃ (s u : State) (n : Nat) (i : Item), n < 16 ∧ takeDelivered (4 + n) 0 s = some (i, u) ∧ ustate s (tunUnit n) ≠
      .running) ∧
    (∃ (s : State) (n : Nat), takeDelivered (4 + n) 0 s = none) ∧
    (∃ (s : State) (ag : AgentId) (n : Nat), n < 16 ∧ WriteOpen s ag (Reg.off .tunCommit n 0) ∧ nowTotal s ≤ timeReg
      s .tunCommitTime n * 2 ^ 24) :=
  ⟨⟨st74, ((dlv 19 0 [] st74)), 15, (itf 0 64), 14, by decide +kernel⟩,
    ⟨st75, ((dlv 19 0 [] st75)), 15, (itf 1 0), by decide +kernel⟩,
    ⟨st76, ((dlv 19 0 [] st76)), 15, (itf 0 0), 0, by decide +kernel⟩,
    ⟨st77, ((dlv 19 0 [] st77)), 15, (itf 1 0), by decide +kernel⟩,
    ⟨st78, 15, by decide +kernel⟩,
    ⟨(up |> on 0x04F .ready |> wr .tunCommitTime 15 2 5), 0x51, 15, by decide +kernel⟩⟩

theorem witness_TunerCommandsComplete_2 :
    (∃ (s : State) (ag : AgentId) (n : Nat), n < 16 ∧ WriteOpen s ag (Reg.off .tunCommit n 0) ∧ timeReg s
      .tunCommitTime n * 2 ^ 24 < nowTotal s) ∧
    (∃ (s : State) (n time : Nat) (c : TunCommit), n < 16 ∧ ustate s (tunUnit n) = .running ∧ ((((tuner s n).starts =
      some c ∧ (tuner s n).commit = none) ∨ ((tuner s n).starts = none ∧ (tuner s n).commit = some c ∧ (tuner s
      n).judged ≠ some (tuner s n).n ∧ tunBoundary s n ((time * 2 ^ 24 : Nat) : Int) c = true)))) ∧
    (∃ (s : State) (n time : Nat), n < 16 ∧ ustate s (tunUnit n) = .running ∧ (tuner s n).starts = none ∧ (((tuner s
      n).judged = some (tuner s n).n ∨ (tuner s n).commit = none ∨ ∃ c, (tuner s n).commit = some c ∧ tunBoundary s n
      ((time * 2 ^ 24 : Nat) : Int) c = false))) ∧
    (∃ (s : State) (ag : AgentId) (n k : Nat), n < 16 ∧ k < 1024 ∧ WriteOpen s ag (Reg.off .tunFirCoef n k) ∧
      ((ustate s (tunUnit n)).busy = false ∨ k / 512 ≠ (tuner s n).bank)) ∧
    (∃ (s : State) (ag : AgentId) (n k : Nat), n < 16 ∧ k < 1024 ∧ WriteOpen s ag (Reg.off .tunFirCoef n k) ∧ (ustate
      s (tunUnit n)).busy = true ∧ k / 512 = (tuner s n).bank ∧ s.mgt.log.length < auditSize) :=
  ⟨⟨st79, 0x51, 15, by decide +kernel⟩,
    ⟨st80, 15, 5, ⟨1, 2, 3, 1, true, some 5⟩, by decide +kernel⟩,
    ⟨st80, 15, 4, by decide +kernel⟩,
    ⟨(up |> on 0x04F .running |> wr .tunCfg 15 0 1), 0x51, 15, 1023, by decide +kernel⟩,
    ⟨(up |> on 0x04F .running |> wr .tunCfg 15 0 1), 0x51, 15, 511, by decide +kernel⟩⟩

def st81 : State :=
  (dlv 23 0 [] (up |> on 0x063 .running |> dlv 23 0 [itf 7 64]))
def st82 : State :=
  up |> on 0x063 .running |> withChz 3 (fun z => { z with lastSeq := some 281474976710655 }) |> dlv 23 0 [itf 1 0]
def st83 : State :=
  (dlv 23 0 [] (up |> on 0x063 .running |> dlv 23 0 [itf 7 0]))
def st84 : State :=
  up |> on 0x063 .ready |> withPlan (fun p =>
    { p with routes := [⟨⟨1023, 1, 1, unitPort 0x020, 0, 1000, [(23, 0)]⟩, 0, 0, 0, [0, 0, 0, 0, 0, 0, 0, 0], [], [0]⟩] })
    |> dlv 23 0 [itf 1 0]
theorem witness_ChannelizerCommandsComplete :
    (∃ (s u : State) (c : Nat) (i : Item) (m : _), c < 4 ∧ takeDelivered (20 + c) 0 s = some (i, u) ∧ ustate s
      (chzUnit c) = .running ∧ (itemGeneration i (chzOf s c).ended).1 = true ∧ m ≠ c) ∧
    (∃ (s u : State) (c : Nat) (i : Item), c < 4 ∧ takeDelivered (20 + c) 0 s = some (i, u) ∧ ustate s (chzUnit c) =
      .running ∧ (itemGeneration i (chzOf s c).ended).1 = false ∧ missingItems (chzOf s c).lastSeq i.seq ≠ 0) ∧
    (∃ (s u : State) (c : Nat) (i : Item) (m : _), c < 4 ∧ takeDelivered (20 + c) 0 s = some (i, u) ∧ ustate s
      (chzUnit c) = .running ∧ (itemGeneration i (chzOf s c).ended).1 = false ∧ m ≠ c) ∧
    (∃ (s u : State) (c : Nat) (i : Item), c < 4 ∧ takeDelivered (20 + c) 0 s = some (i, u) ∧ ustate s (chzUnit c) ≠
      .running) ∧
    (∃ (s : State) (c : Nat), takeDelivered (20 + c) 0 s = none) ∧
    (∃ (s : State) (ag : AgentId) (c : Nat), c < 4 ∧ WriteOpen s ag (Reg.off .tunChzCoefData c 0) ∧ ((ustate s
      (chzUnit c) = .gated ∨ ustate s (chzUnit c) = .ready))) :=
  ⟨⟨(up |> on 0x063 .running |> dlv 23 0 [itf 7 64]), st81, 3, (itf 7 64), 2, by decide +kernel⟩,
    ⟨st82, ((dlv 23 0 [] st82)), 3, (itf 1 0), by decide +kernel⟩,
    ⟨(up |> on 0x063 .running |> dlv 23 0 [itf 7 0]), st83, 3, (itf 7 0), 2, by decide +kernel⟩,
    ⟨st84, ((dlv 23 0 [] st84)), 3, (itf 1 0), by decide +kernel⟩,
    ⟨(up |> on 0x063 .running), 3, by decide +kernel⟩,
    ⟨(up |> on 0x063 .ready |> wr .tunChzCoefAddr 3 0 0xFFFF), 0x51, 3, by decide +kernel⟩⟩

theorem witness_ChannelizerCommandsComplete_2 :
    (∃ (s : State) (ag : AgentId) (c : Nat), c < 4 ∧ WriteOpen s ag (Reg.off .tunChzCoefData c 0) ∧ ustate s (chzUnit
      c) ≠ .gated ∧ ustate s (chzUnit c) ≠ .ready ∧ s.mgt.log.length < auditSize) :=
  ⟨(up |> on 0x063 .running), 0x51, 3, by decide +kernel⟩

def st85 : State :=
  (dlv 27 0 [] (up |> on 0x0A3 .running |> dlv 27 0 [itf 7 64]))
def st86 : State :=
  up |> on 0x0A3 .running |> withSpec 3 (fun x => { x with lastSeq := some 281474976710655 }) |> dlv 27 0 [itf 1 0]
def st87 : State :=
  up |> on 0x0A3 .ready |> withPlan (fun p =>
    { p with routes := [⟨⟨1023, 0, 1, unitPort 0x020, 0, 1000, [(27, 0)]⟩, 0, 0, 0, [0, 0, 0, 0, 0, 0, 0, 0], [], [0]⟩] })
    |> dlv 27 0 [itf 1 0]
def st88 : State :=
  up |> on 0x0A3 .running |> withSpec 3 (fun x => { x with want := 2, tag := 9, got := [1] }) |> dlv 27 1
    [{ itm 0 with payload := [0, 5, 0, 0, 9, 0, 0, 0, 0x04030201, 0x08070605] }]
def st89 : State :=
  up |> on 0x0A3 .running |> withSpec 3 (fun x => { x with want := 0, tag := 9, got := [1] }) |> dlv 27 1
    [{ itm 0 with payload := [0, 5, 0, 0, 9, 0, 0, 0, 0x04030201, 0x08070605] }]
def st90 : State :=
  up |> on 0x0A3 .running |> dlv 27 1 [{ itm 0 with payload := [0, 5, 0, 0, 9, 0, 0, 0, 0x04030201, 0x08070605] }]
def st91 : State :=
  up |> on 0x0A3 .running |> on 0x0C3 .running |> withSpec 3 (fun x => { x with ready := frm :: [frm] })
def st92 : State :=
  up |> on 0x0A3 .draining |> on 0x103 .running |> withSpec 3 (fun x => { x with ready := frm :: [] })
def st93 : State :=
  up |> on 0x0A3 .draining |> on 0x08C .running |> withSpec 3 (fun x => { x with ready := frm :: [] })
def st94 : State :=
  up |> on 0x0A3 .running |> withSpec 3 (fun x =>
    { x with commit := some ⟨frm.run.set, some 5, false, true⟩, run := some frm.run })
def st95 : State :=
  up |> on 0x0A3 .running |> withSpec 3 (fun x => { x with run := some { frm.run with next := 7 } })
def st96 : State :=
  up |> setB .specStatus 3 0 1 true |> withSpec 3 (fun x =>
    { x with gen := some ({ frm.run.set with win := 1 }), commit := some ⟨({ frm.run.set with win := 1 }), none, true, true⟩ })
def st97 : State :=
  up |> on 0x0A3 .ready |> withSpec 3 (fun x => { x with commit := some ⟨frm.run.set, some 5, false, true⟩ })
theorem witness_SpectralCommandsComplete :
    (∃ (s u : State) (e : Nat) (i : Item), e < 4 ∧ takeDelivered (24 + e) 0 s = some (i, u) ∧ ustate s (specUnit e) =
      .running ∧ (itemGeneration i (specOf s e).ended).1 = true) ∧
    (∃ (s u : State) (e : Nat) (i : Item), e < 4 ∧ takeDelivered (24 + e) 0 s = some (i, u) ∧ ustate s (specUnit e) =
      .running ∧ (itemGeneration i (specOf s e).ended).1 = false ∧ missingItems (specOf s e).lastSeq i.seq ≠ 0) ∧
    (∃ (s u : State) (e : Nat) (i : Item) (m : _), e < 4 ∧ takeDelivered (24 + e) 0 s = some (i, u) ∧ ustate s
      (specUnit e) = .running ∧ m ≠ e) ∧
    (∃ (s u : State) (e : Nat) (i : Item), e < 4 ∧ takeDelivered (24 + e) 0 s = some (i, u) ∧ ustate s (specUnit e) ≠
      .running) ∧
    (∃ (s u : State) (e w : Nat) (i : Item), e < 4 ∧ takeDelivered (24 + e) 1 s = some (i, u) ∧ (ustate s (specUnit
      e)).busy = true ∧ (specOf s e).want = w + 2 ∧ leNat (((wordsBytes (i.payload.take 8)).drop 16).take 4) =
      (specOf s e).tag ∧ leNat (((wordsBytes (i.payload.take 8)).drop 1).take 1) = 0) ∧
    (∃ (s u : State) (e : Nat) (i : Item), e < 4 ∧ takeDelivered (24 + e) 1 s = some (i, u) ∧ ((ustate s (specUnit
      e)).busy = false ∨ (specOf s e).want = 0 ∨ leNat (((wordsBytes (i.payload.take 8)).drop 16).take 4) ≠ (specOf s
      e).tag)) :=
  ⟨⟨(up |> on 0x0A3 .running |> dlv 27 0 [itf 7 64]), st85, 3, (itf 7 64), by decide +kernel⟩,
    ⟨st86, ((dlv 27 0 [] st86)), 3, (itf 1 0), by decide +kernel⟩,
    ⟨(up |> on 0x0A3 .running |> dlv 27 0 [itf 7 64]), st85, 3, (itf 7 64), 0, by decide +kernel⟩,
    ⟨st87, ((dlv 27 0 [] st87)), 3, (itf 1 0), by decide +kernel⟩,
    ⟨st88, ((dlv 27 1 [] st88)), 3, 0, ({ itm 0 with payload := [0, 5, 0, 0, 9, 0, 0, 0, 0x04030201, 0x08070605] }),
      by decide +kernel⟩,
    ⟨st89, ((dlv 27 1 [] st89)), 3, ({ itm 0 with payload := [0, 5, 0, 0, 9, 0, 0, 0, 0x04030201, 0x08070605] }),
      by decide +kernel⟩⟩

theorem witness_SpectralCommandsComplete_2 :
    (∃ (s : State) (e stream : Nat), takeDelivered (24 + e) stream s = none) ∧
    (∃ (s : State) (e : Nat) (fr : SpecFrame) (rest : List SpecFrame), e < 4 ∧ (specOf s e).ready = fr :: rest ∧
      (ustate s (specUnit e)).busy = true ∧ ((fr.run.set.big = true → fr.phase = 3)) ∧ ustate s (trigUnit e) =
      .running) ∧
    (∃ (s : State) (e : Nat) (fr : SpecFrame) (rest : List SpecFrame), e < 4 ∧ (specOf s e).ready = fr :: rest ∧
      (ustate s (specUnit e)).busy = true ∧ ((fr.run.set.big = true → fr.phase = 3)) ∧ ustate s (0x100 + e) =
      .running) ∧
    (∃ (s : State) (e : Nat) (fr : SpecFrame) (rest : List SpecFrame), e < 4 ∧ (specOf s e).ready = fr :: rest ∧
      (ustate s (specUnit e)).busy = true ∧ ((fr.run.set.big = true → fr.phase = 3)) ∧ (ustate s (fftUnit (4 * e +
      fr.index % 4))).live = true) ∧
    (∃ (s : State) (e : Nat), (((specOf s e).ready = [] ∨ (ustate s (specUnit e)).busy = false ∨ ∃ fr ∈ (specOf s
      e).ready.head?, fr.run.set.big = true ∧ fr.phase ≠ 3))) ∧
    (∃ (s : State) (ag : AgentId) (e : Nat), e < 4 ∧ WriteOpen s ag (Reg.off .specCommit e 0) ∧ specCheck s e
      (specStaged s e) false = none ∧ nowTotal s ≤ timeReg s .specCommitTime e * 2 ^ 24) :=
  ⟨⟨st90, 3, 0, by decide +kernel⟩,
    ⟨st91, 3, frm, [frm], by decide +kernel⟩,
    ⟨st92, 3, frm, [], by decide +kernel⟩,
    ⟨st93, 3, frm, [], by decide +kernel⟩,
    ⟨(up |> on 0x0A3 .running), 3, by decide +kernel⟩,
    ⟨(spOk |> wr .specCommitTime 3 2 1), 0x51, 3, by decide +kernel⟩⟩

theorem witness_SpectralCommandsComplete_3 :
    (∃ (s : State) (ag : AgentId) (e : Nat), e < 4 ∧ WriteOpen s ag (Reg.off .specCommit e 0) ∧ specCheck s e
      (specStaged s e) false = none ∧ timeReg s .specCommitTime e * 2 ^ 24 < nowTotal s) ∧
    (∃ (s : State) (ag : AgentId) (e : Nat) (off : _), e < 4 ∧ WriteOpen s ag (Reg.off .specCommit e 0) ∧ specCheck s
      e (specStaged s e) false = some off) ∧
    (∃ (s : State) (e time : Nat) (c : SpecCommit) (r : SpecRun), e < 4 ∧ ustate s (specUnit e) = .running ∧ (specOf
      s e).commit = some c ∧ (specOf s e).run = some r ∧ (specOf s e).judged ≠ some r.next ∧ r.next = (specOf s
      e).base + (specOf s e).samples.length ∧ specDue ((time * 2 ^ 24 : Nat) : Int) c = true) ∧
    (∃ (s : State) (e time : Nat) (r : SpecRun), e < 4 ∧ ustate s (specUnit e) = .running ∧ (specOf s e).run = some r
      ∧ r.next = (specOf s e).base + (specOf s e).samples.length ∧ (((specOf s e).judged = some r.next ∨ (specOf s
      e).commit.any (specDue ((time * 2 ^ 24 : Nat) : Int)) = false))) ∧
    (∃ (s : State) (e : Nat), ((ustate s (specUnit e) ≠ .running ∨ (specOf s e).run = none))) ∧
    (∃ (s : State) (e : Nat) (r : SpecRun), (specOf s e).run = some r ∧ r.next ≠ (specOf s e).base + (specOf s
      e).samples.length) :=
  ⟨⟨(spOk |> withTime (fun t => { t with sec := 5 })), 0x51, 3, by decide +kernel⟩,
    ⟨(spOk |> wr .specHop 3 0 0), 0x51, 3, ((specCheck (spOk |> wr .specHop 3 0 0) 3 (specStaged (spOk |> wr .specHop
      3 0 0) 3) false).getD 0), by decide +kernel⟩,
    ⟨st94, 3, 5, ⟨frm.run.set, some 5, false, true⟩, frm.run, by decide +kernel⟩,
    ⟨st94, 3, 4, frm.run, by decide +kernel⟩,
    ⟨(up |> on 0x0A3 .running), 3, by decide +kernel⟩,
    ⟨st95, 3, ({ frm.run with next := 7 }), by decide +kernel⟩⟩

theorem witness_SpectralCommandsComplete_4 :
    (∃ (s : State) (e : Nat) (c : SpecSet) (k v : _), e < 4 ∧ (specOf s e).gen = some c ∧ k < 65536 ∧ (windowGen
      c.win c.param c.n)[k]? = some v) ∧
    (∃ (s : State) (e : Nat), (specOf s e).gen = none) ∧
    (∃ (s : State) (ag : AgentId) (e : Nat), e < 4 ∧ WriteOpen s ag (Reg.off .specWinData e 0) ∧ (specOf s
      e).commit.any (fun c => c.waits || c.swap) = false) ∧
    (∃ (s : State) (ag : AgentId) (e : Nat), e < 4 ∧ WriteOpen s ag (Reg.off .specWinData e 0) ∧ (specOf s
      e).commit.any (fun c => c.waits || c.swap) = true ∧ s.mgt.log.length < auditSize) :=
  ⟨⟨st96, 3, ({ frm.run.set with win := 1 }), 20, ((windowGen 1 ({ frm.run.set with win := 1 }).param
      ({ frm.run.set with win := 1 }).n).getD 20 0), by decide +kernel⟩,
    ⟨up, 3, by decide +kernel⟩,
    ⟨(up |> on 0x0A3 .ready |> wr .specWinAddr 3 0 0xFFFF), 0x51, 3, by decide +kernel⟩,
    ⟨st97, 0x51, 3, by decide +kernel⟩⟩

def st98 : State :=
  up |> on 0x0C3 .running |> withTrig 3 (fun e =>
    { e with run := { e.run with td := List.replicate 4 ⟨0x8000, 0x00FFFFFF, 1, 0, 0, 0, 0⟩ }, td := vset e.td 3 { TdState.reset with started := true }, values := vset e.values 3 [(⟨-2, 0, 0, 0, true, false, 0, 0, 0⟩ : TdSample), (⟨-2, 0, 0, 0, true, false, 0, 0, 0⟩ : TdSample)] })
def st99 : State :=
  up |> on 0x0C3 .running |> setB .trigStatus 3 0 19 true |> withTrig 3 (fun e =>
    { e with run := { e.run with td := List.replicate 4 ⟨0x8000, 0x00FFFFFF, 1, 0, 0, 0, 0⟩ }, td := vset e.td 3 { TdState.reset with started := true }, values := vset e.values 3 [(⟨-2, 0, 0, 0, true, true, 0, 0, 0⟩ : TdSample), (⟨-2, 0, 0, 0, true, true, 0, 0, 0⟩ : TdSample)] })
def st100 : State :=
  up |> on 0x0C3 .running |> wr .trigCount 3 1 0xFFFFFFFF |> withTrig 3 (fun e =>
    { e with run := { e.run with td := List.replicate 4 ⟨0x8000, 0x00FFFFFF, 1, 0, 0, 0, 0⟩ }, td := vset e.td 3 { TdState.reset with started := true }, values := vset e.values 3 [(⟨-2, 0, 0, 0, false, false, 0, 0, 0⟩ : TdSample), (⟨-2, 0, 0, 0, false, false, 0, 0, 0⟩ : TdSample)] })
def st101 : State :=
  up |> on 0x0C3 .ready |> withTrig 3 (fun e =>
    { e with run := { e.run with td := List.replicate 4 ⟨0x8000, 0x00FFFFFF, 1, 0, 0, 0, 0⟩ }, td := vset e.td 3 { TdState.reset with started := true }, values := vset e.values 3 [(⟨-2, 0, 0, 0, true, false, 0, 0, 0⟩ : TdSample), (⟨-2, 0, 0, 0, true, false, 0, 0, 0⟩ : TdSample)] })
def st102 : State :=
  up |> on 0x0C3 .running |> wr .trigCount 3 2 0xFFFFFFFF |> withTrig 3 (fun e =>
    { e with spectra := [(⟨3, 7, ⟨0, 0, 0⟩, 0, 64, [5], [5], 0, 9⟩ : SpecOut)], run := { e.run with fm := List.replicate 4 (0x20, 1) } })
def st103 : State :=
  up |> on 0x0C3 .running |> withTrig 3 (fun e =>
    { e with spectra := [(⟨3, 7, ⟨0, 0, 0⟩, 0, 64, [5], [5], 0, 9⟩ : SpecOut)], run := { e.run with fm := List.replicate 4 (0x20, 1) }, pendFm := some (TrigSet.reset, true, 8) })
def st104 : State :=
  up |> on 0x0C3 .ready |> withTrig 3 (fun e =>
    { e with spectra := [(⟨3, 7, ⟨0, 0, 0⟩, 0, 64, [5], [5], 0, 9⟩ : SpecOut)], run := { e.run with fm := List.replicate 4 (0x20, 1) } })
def st105 : State :=
  up |> on 0x0C3 .running |> withTrig 3 (fun e =>
    { e with rows := [(⟨7, ⟨0, 0, 0⟩, 0, [5], 9⟩ : DensRows)], run := { e.run with dens := 0x04000000, densY := 0x03FF0000 } })
def st106 : State :=
  up |> on 0x0C3 .running |> withTrig 3 (fun e =>
    { e with rows := [(⟨7, ⟨0, 0, 0⟩, 0, [5], 9⟩ : DensRows)], pendDens := some (TrigSet.reset, 8), run := { e.run with dens := 0x04000000, densY := 0x03FF0000 } })
def st107 : State :=
  up |> on 0x0C3 .ready |> withTrig 3 (fun e =>
    { e with rows := [(⟨7, ⟨0, 0, 0⟩, 0, [5], 9⟩ : DensRows)], run := { e.run with dens := 0x04000000, densY := 0x03FF0000 } })
def st108 : State :=
  up |> on 0x0C3 .ready |> wr .trigFmCfg 3 3 0x20 |> (fun s =>
    { s with maskBank := spPut (spPut s.maskBank (maskKey 3 1 (8192 * 3)) 5 0) (maskKey 3 1 (8192 * 3 + 2)) 5 0 })
def st109 : State :=
  up |> on 0x0C3 .ready |> withTrig 3 (fun e => { e with hist := vset e.hist 3 [(true, 0)] })
def st110 : State :=
  up |> withTrig 3 (fun e => { e with pendTd := some TrigSet.reset, pendFm := some (TrigSet.reset, true, 0) })
def st111 : State :=
  up |> on 0x0C3 .ready |> withTrig 3 (fun e => { e with pendFm := some (TrigSet.reset, true, 0) })
theorem witness_DetectorCommandsComplete :
    (∃ (s : State) (t d : Nat) (x : TdSample) (rest : List TdSample) (c : TdCfg) (v : _), t < 4 ∧ d < 4 ∧ vget
      (trigOf s t).values d [] = x :: rest ∧ ustate s (trigUnit t) = .running ∧ (trigOf s t).run.td[d]? = some c ∧
      bit c.cfg 15 = true ∧ x.valid = true ∧ x.restart = false ∧ (vget (trigOf s t).td d TdState.reset).gap = false ∧
      (vget (trigOf s t).td d TdState.reset).started = true ∧ (tdValue c (vget (trigOf s t).td d TdState.reset).win
      x).1 = some v) ∧
    (∃ (s : State) (t d : Nat) (x : TdSample) (rest : List TdSample) (c : TdCfg), t < 4 ∧ d < 4 ∧ vget (trigOf s
      t).values d [] = x :: rest ∧ ustate s (trigUnit t) = .running ∧ (trigOf s t).run.td[d]? = some c ∧ bit c.cfg 15
      = true ∧ x.valid = true ∧ ((x.restart = true ∨ (vget (trigOf s t).td d TdState.reset).gap = true))) ∧
    (∃ (s : State) (t d : Nat) (x : TdSample) (rest : List TdSample) (c : TdCfg), t < 4 ∧ d < 4 ∧ vget (trigOf s
      t).values d [] = x :: rest ∧ ustate s (trigUnit t) = .running ∧ (trigOf s t).run.td[d]? = some c ∧ bit c.cfg 15
      = true ∧ x.valid = false) ∧
    (∃ (s : State) (t d : Nat) (x : TdSample) (rest : List TdSample), t < 4 ∧ d < 4 ∧ vget (trigOf s t).values d [] =
      x :: rest ∧ ustate s (trigUnit t) ≠ .running) ∧
    (∃ (s : State) (t d : Nat), vget (trigOf s t).values d [] = []) ∧
    (∃ (s : State) (t k : Nat) (o : SpecOut) (rest : List SpecOut) (cfg mb : Word), t < 4 ∧ k < 4 ∧ (trigOf s
      t).spectra = o :: rest ∧ ustate s (trigUnit t) = .running ∧ (∀ p ∈ (trigOf s t).pendFm, o.arrived ≤ p.2.2) ∧
      (trigOf s t).run.fm[k]? = some (cfg, mb) ∧ bit cfg 5 = true) :=
  ⟨⟨st98, 3, 3, ((⟨-2, 0, 0, 0, true, false, 0, 0, 0⟩ : TdSample)), ([(⟨-2, 0, 0, 0, true, false, 0, 0, 0⟩ :
      TdSample)]), ⟨0x8000, 0x00FFFFFF, 1, 0, 0, 0, 0⟩, (-2), by decide +kernel⟩,
    ⟨st99, 3, 3, ((⟨-2, 0, 0, 0, true, true, 0, 0, 0⟩ : TdSample)), ([(⟨-2, 0, 0, 0, true, true, 0, 0, 0⟩ :
      TdSample)]), ⟨0x8000, 0x00FFFFFF, 1, 0, 0, 0, 0⟩, by decide +kernel⟩,
    ⟨st100, 3, 3, ((⟨-2, 0, 0, 0, false, false, 0, 0, 0⟩ : TdSample)), ([(⟨-2, 0, 0, 0, false, false, 0, 0, 0⟩ :
      TdSample)]), ⟨0x8000, 0x00FFFFFF, 1, 0, 0, 0, 0⟩, by decide +kernel⟩,
    ⟨st101, 3, 3, ((⟨-2, 0, 0, 0, true, false, 0, 0, 0⟩ : TdSample)), ([(⟨-2, 0, 0, 0, true, false, 0, 0, 0⟩ :
      TdSample)]), by decide +kernel⟩,
    ⟨(up |> on 0x0C3 .running), 3, 3, by decide +kernel⟩,
    ⟨st102, 3, 3, ((⟨3, 7, ⟨0, 0, 0⟩, 0, 64, [5], [5], 0, 9⟩ : SpecOut)), [], 0x20, 1, by decide +kernel⟩⟩

theorem witness_DetectorCommandsComplete_2 :
    (∃ (s : State) (t k : Nat) (o : SpecOut) (rest : List SpecOut) (c swap at_ : _), t < 4 ∧ k < 4 ∧ (trigOf s
      t).spectra = o :: rest ∧ ustate s (trigUnit t) = .running ∧ (trigOf s t).pendFm = some (c, swap, at_) ∧ at_ <
      o.arrived) ∧
    (∃ (s : State) (t k : Nat) (o : SpecOut) (rest : List SpecOut), t < 4 ∧ k < 4 ∧ (trigOf s t).spectra = o :: rest
      ∧ ustate s (trigUnit t) ≠ .running) ∧
    (∃ (s : State) (t : Nat), (trigOf s t).spectra = []) ∧
    (∃ (s : State) (t : Nat) (o : DensRows) (rest : List DensRows), t < 4 ∧ (trigOf s t).rows = o :: rest ∧ ustate s
      (trigUnit t) = .running ∧ (∀ p ∈ (trigOf s t).pendDens, o.arrived ≤ p.2) ∧ bit (trigOf s t).run.dens 26 = true) ∧
    (∃ (s : State) (t : Nat) (o : DensRows) (rest : List DensRows) (c at_ : _), t < 4 ∧ (trigOf s t).rows = o :: rest
      ∧ ustate s (trigUnit t) = .running ∧ (trigOf s t).pendDens = some (c, at_) ∧ at_ < o.arrived) ∧
    (∃ (s : State) (t : Nat) (o : DensRows) (rest : List DensRows), t < 4 ∧ (trigOf s t).rows = o :: rest ∧ ustate s
      (trigUnit t) ≠ .running) :=
  ⟨⟨st103, 3, 3, ((⟨3, 7, ⟨0, 0, 0⟩, 0, 64, [5], [5], 0, 9⟩ : SpecOut)), [], TrigSet.reset, true, 8,
      by decide +kernel⟩,
    ⟨st104, 3, 3, ((⟨3, 7, ⟨0, 0, 0⟩, 0, 64, [5], [5], 0, 9⟩ : SpecOut)), [], by decide +kernel⟩,
    ⟨(up |> on 0x0C3 .running), 3, by decide +kernel⟩,
    ⟨st105, 3, ((⟨7, ⟨0, 0, 0⟩, 0, [5], 9⟩ : DensRows)), [], by decide +kernel⟩,
    ⟨st106, 3, ((⟨7, ⟨0, 0, 0⟩, 0, [5], 9⟩ : DensRows)), [], TrigSet.reset, 8, by decide +kernel⟩,
    ⟨st107, 3, ((⟨7, ⟨0, 0, 0⟩, 0, [5], 9⟩ : DensRows)), [], by decide +kernel⟩⟩

theorem witness_DetectorCommandsComplete_3 :
    (∃ (s : State) (t : Nat), (trigOf s t).rows = []) ∧
    (∃ (s : State) (ag : AgentId) (t : Nat), t < 4 ∧ WriteOpen s ag (Reg.off .trigCommit t 0) ∧ trigCheck s t
      (trigStaged s t) = none ∧ trigMaskCheck s t (trigStaged s t) = none) ∧
    (∃ (s : State) (ag : AgentId) (t : Nat) (off : _), t < 4 ∧ WriteOpen s ag (Reg.off .trigCommit t 0) ∧ trigCheck s
      t (trigStaged s t) = some off) ∧
    (∃ (s : State) (ag : AgentId) (t : Nat) (k j : _), t < 4 ∧ WriteOpen s ag (Reg.off .trigCommit t 0) ∧ trigCheck s
      t (trigStaged s t) = none ∧ trigMaskCheck s t (trigStaged s t) = some (k, j)) ∧
    (∃ (s : State) (ag : AgentId) (t : Nat) (k : _), t < 4 ∧ WriteOpen s ag (Reg.off .trigCommit t 0) ∧ k < 4) ∧
    (∃ (s : State) (t : Nat) (c : TrigSet), t < 4 ∧ (trigOf s t).pendTd = some c) :=
  ⟨⟨(up |> on 0x0C3 .running), 3, by decide +kernel⟩,
    ⟨(up |> on 0x0C3 .ready), 0x51, 3, by decide +kernel⟩,
    ⟨(up |> on 0x0C3 .ready |> wr .trigTdCfg 3 2 0x30), 0x51, 3, (Reg.off .trigTdCfg 3 2), by decide +kernel⟩,
    ⟨st108, 0x51, 3, 3, 1, by decide +kernel⟩,
    ⟨st109, 0x51, 3, 3, by decide +kernel⟩,
    ⟨st110, 3, TrigSet.reset, by decide +kernel⟩⟩

theorem witness_DetectorCommandsComplete_4 :
    (∃ (s : State) (t : Nat), (trigOf s t).pendTd = none) ∧
    (∃ (s : State) (ag : AgentId) (t : Nat), t < 4 ∧ WriteOpen s ag (Reg.off .trigMaskData t 0) ∧ (trigOf s
      t).pendFm.any (fun p => p.2.1) = false) ∧
    (∃ (s : State) (ag : AgentId) (t : Nat), t < 4 ∧ WriteOpen s ag (Reg.off .trigMaskData t 0) ∧ (trigOf s
      t).pendFm.any (fun p => p.2.1) = true ∧ s.mgt.log.length < auditSize) :=
  ⟨⟨up, 3, by decide +kernel⟩,
    ⟨(up |> on 0x0C3 .ready |> wr .trigMaskAddr 3 0 0x7FFF), 0x51, 3, by decide +kernel⟩,
    ⟨st111, 0x51, 3, by decide +kernel⟩⟩

def st112 : State :=
  up |> on 0x0C0 .ready |> wr .trigWeirCfg 15 0 1 |> wr .trigWeirIn 15 0 0xFFFFFF8E
def st113 : State :=
  up |> on 0x0C0 .ready |> wr .trigWeirCfg 15 0 1 |> wr .trigWeirIn 15 0 0xFF8FFFFF
def st114 : State :=
  up |> on 0x0C0 .running |> wr .trigWeirIn 15 0 0x78787878 |> withWeir 15 (fun x => { x with armFrom := some 0 }) |>
    on 0x0E3 .running |> wr .trigWeirCfg 15 0 1 |> (fun s =>
    { s with tree := { s.tree with net := [(⟨15, 3, 9, 9, false, true, some (⟨0x78, 5, 0, 31, 0, 0⟩ : Occ), (⟨0x78, 5, 0, 31, 0, 0⟩ : Occ)⟩ : Arrival)] }, time := { s.time with cycles := 9 } })
def st115 : State :=
  up |> on 0x0C0 .running |> wr .trigWeirIn 15 0 0x78787878 |> withWeir 15 (fun x => { x with armFrom := some 0 }) |>
    wr .trigWeirCfg 15 0 3 |> (fun s =>
    { s with tree := { s.tree with net := [(⟨15, 0, 9, 9, false, true, some (⟨0x78, 5, 0, 31, 0, 0⟩ : Occ), (⟨0x78, 5, 0, 31, 0, 0⟩ : Occ)⟩ : Arrival)] }, time := { s.time with cycles := 9 } })
def st116 : State :=
  up |> on 0x0C0 .running |> wr .trigWeirIn 15 0 0x78787878 |> withWeir 15 (fun x => { x with armFrom := some 0 }) |>
    wr .trigWeirCfg 15 0 4 |> wr .trigWeirCountN 15 0 2 |> (fun s =>
    { s with tree := { s.tree with net := [(⟨15, 0, 9, 9, false, true, some (⟨0x78, 5, 0, 31, 0, 0⟩ : Occ), (⟨0x78, 5, 0, 31, 0, 0⟩ : Occ)⟩ : Arrival)] }, time := { s.time with cycles := 9 } })
def st117 : State :=
  up |> on 0x0C0 .running |> wr .trigWeirIn 15 0 0x78787878 |> (fun s =>
    { s with tree := { s.tree with net := [(⟨15, 0, 9, 9, false, true, some (⟨0x78, 5, 0, 31, 0, 0⟩ : Occ), (⟨0x78, 5, 0, 31, 0, 0⟩ : Occ)⟩ : Arrival)] }, time := { s.time with cycles := 9 } })
def st118 : State :=
  up |> on 0x0C0 .running |> wr .trigWeirIn 15 0 0x78787878 |> withWeir 15 (fun x => { x with armFrom := some 0 }) |>
    (fun s =>
    { s with tree := { s.tree with net := [(⟨15, 0, 10, 9, false, true, some (⟨0x78, 5, 0, 31, 0, 0⟩ : Occ), (⟨0x78, 5, 0, 31, 0, 0⟩ : Occ)⟩ : Arrival), (⟨14, 0, 9, 9, false, true, some (⟨0x78, 5, 0, 31, 0, 0⟩ : Occ), (⟨0x78, 5, 0, 31, 0, 0⟩ : Occ)⟩ : Arrival)] }, time := { s.time with cycles := 9 } })
def st119 : State :=
  up |> (fun s => { s with tree := { s.tree with net := [] }, time := { s.time with cycles := 9 } }) |> wr
    .trigWeirStatus 15 0 0xFFFFFF06
def st120 : State :=
  up |> withPin 7 ⟨true, 0, false, 0, true⟩ |> withPin 6 ⟨true, 0, false, 0, true⟩
theorem witness_WeirCommandsComplete :
    (∃ (s : State) (ag : AgentId) (w : Nat), w < 16 ∧ WriteOpen s ag (Reg.off .trigWeirCmd w 0) ∧ armFail s w = none) ∧
    (∃ (s : State) (ag : AgentId) (w : Nat) (x : _), w < 16 ∧ WriteOpen s ag (Reg.off .trigWeirCmd w 0) ∧ armFail s w
      = some x) ∧
    (∃ (s : State) (w : Nat) (a : Arrival) (o : Occ) (k : _), w < 16 ∧ evtFollow s = s ∧ (∀ v < 16, ∀ b ∈ (weir s
      v).line, s.time.cycles < b.cycle) ∧ s.tree.net = [a] ∧ a.weir = w ∧ a.cycle ≤ s.time.cycles ∧ a.input < 4 ∧
      a.occ = some o ∧ weirSrc s w a.input ≠ 0xFF ∧ treeOn s = true ∧ getF s .trigWeirCfg w 0 0 3 = 1 ∧ weirBlocked s
      w a.cycle = none ∧ k ∈ List.range (4)) ∧
    (∃ (s : State) (w : Nat) (a : Arrival) (o : Occ), w < 16 ∧ evtFollow s = s ∧ (∀ v < 16, ∀ b ∈ (weir s v).line,
      s.time.cycles < b.cycle) ∧ s.tree.net = [a] ∧ a.weir = w ∧ a.cycle ≤ s.time.cycles ∧ a.input < 4 ∧ a.occ = some
      o ∧ weirSrc s w a.input ≠ 0xFF ∧ treeOn s = true ∧ getF s .trigWeirCfg w 0 0 3 = 3 ∧ a.input = 0 ∧ weirBlocked
      s w a.cycle = none) ∧
    (∃ (s : State) (w : Nat) (a : Arrival) (o : Occ), w < 16 ∧ evtFollow s = s ∧ (∀ v < 16, ∀ b ∈ (weir s v).line,
      s.time.cycles < b.cycle) ∧ s.tree.net = [a] ∧ a.weir = w ∧ a.cycle ≤ s.time.cycles ∧ a.input < 4 ∧ a.occ = some
      o ∧ weirSrc s w a.input ≠ 0xFF ∧ treeOn s = true ∧ getF s .trigWeirCfg w 0 0 3 = 4 ∧ a.input = 0 ∧ weirBlocked
      s w a.cycle = none ∧ getF s .trigWeirStatus w 0 8 24 + 1 < getF s .trigWeirCountN w 0 0 24) ∧
    (∃ (s : State) (w : Nat) (a : Arrival) (o : Occ) (c : _), w < 16 ∧ evtFollow s = s ∧ (∀ v < 16, ∀ b ∈ (weir s
      v).line, s.time.cycles < b.cycle) ∧ s.tree.net = [a] ∧ a.weir = w ∧ a.cycle ≤ s.time.cycles ∧ a.input < 4 ∧
      a.occ = some o ∧ weirSrc s w a.input ≠ 0xFF ∧ treeOn s = true ∧ weirBlocked s w a.cycle = some c) :=
  ⟨⟨st112, 0x51, 15, by decide +kernel⟩,
    ⟨st113, 0x51, 15, 2, by decide +kernel⟩,
    ⟨st114, 15, ((⟨15, 3, 9, 9, false, true, some (⟨0x78, 5, 0, 31, 0, 0⟩ : Occ), (⟨0x78, 5, 0, 31, 0, 0⟩ : Occ)⟩ :
      Arrival)), ((⟨0x78, 5, 0, 31, 0, 0⟩ : Occ)), 3, by decide +kernel⟩,
    ⟨st115, 15, ((⟨15, 0, 9, 9, false, true, some (⟨0x78, 5, 0, 31, 0, 0⟩ : Occ), (⟨0x78, 5, 0, 31, 0, 0⟩ : Occ)⟩ :
      Arrival)), ((⟨0x78, 5, 0, 31, 0, 0⟩ : Occ)), by decide +kernel⟩,
    ⟨st116, 15, ((⟨15, 0, 9, 9, false, true, some (⟨0x78, 5, 0, 31, 0, 0⟩ : Occ), (⟨0x78, 5, 0, 31, 0, 0⟩ : Occ)⟩ :
      Arrival)), ((⟨0x78, 5, 0, 31, 0, 0⟩ : Occ)), by decide +kernel⟩,
    ⟨st117, 15, ((⟨15, 0, 9, 9, false, true, some (⟨0x78, 5, 0, 31, 0, 0⟩ : Occ), (⟨0x78, 5, 0, 31, 0, 0⟩ : Occ)⟩ :
      Arrival)), ((⟨0x78, 5, 0, 31, 0, 0⟩ : Occ)), 0, by decide +kernel⟩⟩

theorem witness_WeirCommandsComplete_2 :
    (∃ (s : State) (w : Nat), w < 16 ∧ evtFollow s = s ∧ (∀ v < 16, ∀ b ∈ (weir s v).line, s.time.cycles < b.cycle) ∧
      ((∀ a ∈ s.tree.net, a.weir = w → s.time.cycles < a.cycle))) ∧
    (∃ (s : State) (w : Nat), (weir s w).seqTo < s.time.cycles) ∧
    (∃ (s : State) (w : Nat), s.time.cycles ≤ (weir s w).seqTo) ∧
    (∃ (s : State) (w : Nat), (weir s w).holdTo < s.time.cycles) ∧
    (∃ (s : State) (w : Nat), s.time.cycles ≤ (weir s w).holdTo) ∧
    (∃ (s : State) (ag : AgentId) (k : Nat), k < 4 ∧ WriteOpen s ag (Reg.off .trigSwPulse 0 0)) :=
  ⟨⟨st118, 15, by decide +kernel⟩,
    ⟨st119, 15, by decide +kernel⟩,
    ⟨(up |> wr .trigWeirStatus 15 0 0xFFFFFF06), 15, by decide +kernel⟩,
    ⟨st119, 15, by decide +kernel⟩,
    ⟨(up |> wr .trigWeirStatus 15 0 0xFFFFFF06), 15, by decide +kernel⟩,
    ⟨(up |> on 0x0C0 .running), 0x51, 3, by decide +kernel⟩⟩

theorem witness_WeirCommandsComplete_3 :
    (∃ (s : State) (ag : AgentId) (k : Nat), k < 4 ∧ WriteOpen s ag (Reg.off .trigSwLevel 0 0)) ∧
    (∃ (s : State) (n : Nat) (m : _), n < 8 ∧ (vget s.tree.pins n OutPin.reset).mode = 0 ∧ (vget s.tree.pins n
      OutPin.reset).stop ≤ s.time.cycles ∧ m ≠ n) ∧
    (∃ (s : State) (n : Nat), (((vget s.tree.pins n OutPin.reset).mode ≠ 0 ∨ s.time.cycles < (vget s.tree.pins n
      OutPin.reset).stop))) ∧
    (∃ (s : State) (ag : AgentId) (n : Nat), n < 8 ∧ WriteOpen s ag (Reg.off .trigOutClr 0 0)) :=
  ⟨⟨(up |> on 0x0C0 .running), 0x51, 3, by decide +kernel⟩,
    ⟨st120, 7, 6, by decide +kernel⟩,
    ⟨(up |> withPin 7 ⟨true, 0, false, 1, true⟩), 7, by decide +kernel⟩,
    ⟨(up |> on 0x0C0 .ready |> withPin 7 ⟨true, 1, false, 0, true⟩), 0x51, 7, by decide +kernel⟩⟩

def st121 : State :=
  acqUp |> acqSt 3 |> withSrc 3 4 (fun x =>
    { x with arm := some (0, 0), next := 1024, chunks := [⟨0, 0, 0, 1024, 0, 0, 0, false, false, 0, 0⟩] }) |> (fun s
    =>
    { s with tree := { s.tree with fires := vset s.tree.fires 3 [(⟨15, 9, ⟨0, 0, 0⟩, 0, 0⟩ : Fire), (⟨15, 10, ⟨0, 0, 0⟩, 0, 0⟩ : Fire)] } })
def st122 : State :=
  acqUp |> acqSt 2 |> (fun s =>
    { s with tree := { s.tree with fires := vset s.tree.fires 3 [(⟨15, 9, ⟨0, 0, 0⟩, 0, 0⟩ : Fire), (⟨15, 10, ⟨0, 0, 0⟩, 0, 0⟩ : Fire)] } })
def st123 : State :=
  acqUp |> acqSt 4 |> withAcq 3 (fun u => { u with fire := some ((⟨15, 9, ⟨0, 0, 0⟩, 0, 0⟩ : Fire), 3, 4) }) |> (fun
    s =>
    { s with tree := { s.tree with fires := vset s.tree.fires 3 [(⟨15, 9, ⟨0, 0, 0⟩, 0, 0⟩ : Fire), (⟨15, 10, ⟨0, 0, 0⟩, 0, 0⟩ : Fire)] } })
def st124 : State :=
  acqUp |> wr .acqCfg 3 0 32 |> wr .acqWeir 3 0 0xF08000 |> acqSt 3 |> (fun s =>
    { s with tree := { s.tree with fires := vset s.tree.fires 3 [(⟨15, 9, ⟨0, 0, 0⟩, 0, 0⟩ : Fire), (⟨15, 10, ⟨0, 0, 0⟩, 0, 0⟩ : Fire)] } })
def st125 : State :=
  acqUp |> wr .acqCfg 3 0 8 |> wr .acqWeir 3 0 0x0F0000 |> acqSt 1 |> (fun s =>
    { s with tree := { s.tree with fires := vset s.tree.fires 3 [(⟨15, 9, ⟨0, 0, 0⟩, 0, 0⟩ : Fire), (⟨15, 10, ⟨0, 0, 0⟩, 0, 0⟩ : Fire)] } })
def st126 : State :=
  acqUp |> on 0x0E3 .ready |> (fun s =>
    { s with tree := { s.tree with fires := vset s.tree.fires 3 [(⟨15, 9, ⟨0, 0, 0⟩, 0, 0⟩ : Fire), (⟨15, 10, ⟨0, 0, 0⟩, 0, 0⟩ : Fire)] } })
def st127 : State :=
  acqUp |> acqSt 2 |> withAcq 3 (fun u => { u with blocks := vset u.blocks 3 [itf 5 0] })
def st128 : State :=
  withAcq 3 (fun u => { u with blocks := vset u.blocks 3 [] }) st127
def st129 : State :=
  acqUp |> acqSt 4 |> withSrc 3 4 (fun x => { x with done := true }) |> withAcq 3 (fun u =>
    { u with blocks := vset u.blocks 3 [itf 5 0] })
def st130 : State :=
  withAcq 3 (fun u => { u with blocks := vset u.blocks 3 [] }) st129
def st131 : State :=
  acqUp |> acqSt 5 |> withAcq 3 (fun u => { u with blocks := vset u.blocks 3 [itf 5 0] })
def st132 : State :=
  withAcq 3 (fun u => { u with blocks := vset u.blocks 3 [] }) st131
def st133 : State :=
  acqUp |> on 0x0E3 .ready |> withAcq 3 (fun u => { u with blocks := vset u.blocks 3 [itf 5 0] })
def st134 : State :=
  withAcq 3 (fun u => { u with blocks := vset u.blocks 3 [] }) st133
def st135 : State :=
  acqUp |> acqSt 5 |> withAcq 3 (fun u =>
    { u with fire := some ((⟨15, 9, ⟨0, 0, 0⟩, 0, 0⟩ : Fire), 3, 4), stopping := some 3 })
def st136 : State :=
  acqUp |> acqSt 5 |> withAcq 3 (fun u =>
    { u with fire := some ((⟨15, 9, ⟨0, 0, 0⟩, 0, 0⟩ : Fire), 3, 4), slots := 1 })
def st137 : State :=
  acqUp |> wr .acqCfg 3 0 16 |> acqSt 5 |> withAcq 3 (fun u =>
    { u with fire := some ((⟨15, 9, ⟨0, 0, 0⟩, 0, 0⟩ : Fire), 3, 4), slots := 2 })
theorem witness_AcquisitionRunCommandsComplete :
    (∃ (s : State) (ag : AgentId) (a : Nat), a < 4 ∧ WriteOpen s ag (Reg.off .acqCmd a 0) ∧ startFail s a = none) ∧
    (∃ (s : State) (ag : AgentId) (a : Nat) (off : _), a < 4 ∧ WriteOpen s ag (Reg.off .acqCmd a 0) ∧ startFail s a =
      some off) ∧
    (∃ (s : State) (ag : AgentId) (a : Nat), a < 4 ∧ WriteOpen s ag (Reg.off .acqCmd a 0) ∧ acqRuns s a = true ∧
      astate s a ≠ 4) ∧
    (∃ (s : State) (ag : AgentId) (a : Nat), a < 4 ∧ WriteOpen s ag (Reg.off .acqCmd a 0) ∧ astate s a = 4) ∧
    (∃ (s : State) (ag : AgentId) (a : Nat), a < 4 ∧ WriteOpen s ag (Reg.off .acqCmd a 0) ∧ acqRuns s a = false) ∧
    (∃ (s : State) (a : Nat) (f : Fire) (r : List Fire) (armT : _), a < 4 ∧ vget s.tree.fires a [] = f :: r ∧ (∀ g ∈
      r.head?, g.cycle ≠ f.cycle) ∧ ustate s (acqUnit a) = .running ∧ (acqCfgB s a 5 && fld (rd s .acqWeir a 0) 20 4
      == f.weir) = false ∧ bit (rd s .acqWeir a 0) f.weir = true ∧ ((astate s a = 2 ∨ astate s a = 3)) ∧ armTime s a
      = some armT ∧ armT ≤ stampTicks f.stamp ∧ anyLate s a (stampTicks f.stamp) = false ∧ (acqCfgB s a 0 && anyShort
      s a (stampTicks f.stamp)) = false) :=
  ⟨⟨acqUp, 0x51, 3, by decide +kernel⟩,
    ⟨(acqUp |> wr .acqSrcPost 3 4 0), 0x51, 3, ((startFail (acqUp |> wr .acqSrcPost 3 4 0) 3).getD 0),
      by decide +kernel⟩,
    ⟨(acqUp |> acqSt 5), 0x51, 3, by decide +kernel⟩,
    ⟨(acqUp |> acqSt 4), 0x51, 3, by decide +kernel⟩,
    ⟨(acqUp |> acqSt 6), 0x51, 3, by decide +kernel⟩,
    ⟨st121, 3, ((⟨15, 9, ⟨0, 0, 0⟩, 0, 0⟩ : Fire)), ([(⟨15, 10, ⟨0, 0, 0⟩, 0, 0⟩ : Fire)]), 0, by decide +kernel⟩⟩

theorem witness_AcquisitionRunCommandsComplete_2 :
    (∃ (s : State) (a : Nat) (f : Fire) (r : List Fire), a < 4 ∧ vget s.tree.fires a [] = f :: r ∧ (∀ g ∈ r.head?,
      g.cycle ≠ f.cycle) ∧ ustate s (acqUnit a) = .running ∧ (acqCfgB s a 5 && fld (rd s .acqWeir a 0) 20 4 ==
      f.weir) = false ∧ bit (rd s .acqWeir a 0) f.weir = true ∧ ((astate s a = 5 ∨ ((astate s a = 2 ∨ astate s a = 3)
      ∧ armTime s a = none)))) ∧
    (∃ (s : State) (a : Nat) (f : Fire) (r : List Fire) (c : _), a < 4 ∧ vget s.tree.fires a [] = f :: r ∧ (∀ g ∈
      r.head?, g.cycle ≠ f.cycle) ∧ ustate s (acqUnit a) = .running ∧ (acqCfgB s a 5 && fld (rd s .acqWeir a 0) 20 4
      == f.weir) = false ∧ bit (rd s .acqWeir a 0) f.weir = true ∧ (acqOf s a).missed.length < 127 ∧ (((astate s a =
      4 ∧ (∃ g ∈ (acqOf s a).fire, c = if stampTicks f.stamp < stampTicks g.1.stamp then 3 else 0)) ∨ ((astate s a =
      2 ∨ astate s a = 3) ∧ (∃ armT ∈ armTime s a, (stampTicks f.stamp < armT ∧ c = 1) ∨ (armT ≤ stampTicks f.stamp ∧
      anyLate s a (stampTicks f.stamp) = true ∧ c = 4) ∨ (armT ≤ stampTicks f.stamp ∧ anyLate s a (stampTicks
      f.stamp) = false ∧ (acqCfgB s a 0 && anyShort s a (stampTicks f.stamp)) = true ∧ c = 2)))))) ∧
    (∃ (s : State) (a : Nat) (f : Fire) (r : List Fire), a < 4 ∧ vget s.tree.fires a [] = f :: r ∧ (∀ g ∈ r.head?,
      g.cycle ≠ f.cycle) ∧ ustate s (acqUnit a) = .running ∧ acqCfgB s a 5 = true ∧ fld (rd s .acqWeir a 0) 20 4 =
      f.weir ∧ acqRuns s a = true ∧ astate s a ≠ 4) ∧
    (∃ (s : State) (a : Nat) (f : Fire) (r : List Fire), a < 4 ∧ vget s.tree.fires a [] = f :: r ∧ (∀ g ∈ r.head?,
      g.cycle ≠ f.cycle) ∧ ustate s (acqUnit a) = .running ∧ acqCfgB s a 5 = false ∧ acqCfgB s a 3 = true ∧ fld (rd s
      .acqWeir a 0) 16 4 = f.weir ∧ bit (rd s .acqWeir a 0) f.weir = false ∧ astate s a = 1) ∧
    (∃ (s : State) (a : Nat) (f : Fire) (r : List Fire), a < 4 ∧ vget s.tree.fires a [] = f :: r ∧ (∀ g ∈ r.head?,
      g.cycle ≠ f.cycle) ∧ ustate s (acqUnit a) ≠ .running) ∧
    (∃ (s : State) (a : Nat), vget s.tree.fires a [] = []) :=
  ⟨⟨st122, 3, ((⟨15, 9, ⟨0, 0, 0⟩, 0, 0⟩ : Fire)), ([(⟨15, 10, ⟨0, 0, 0⟩, 0, 0⟩ : Fire)]), by decide +kernel⟩,
    ⟨st123, 3, ((⟨15, 9, ⟨0, 0, 0⟩, 0, 0⟩ : Fire)), ([(⟨15, 10, ⟨0, 0, 0⟩, 0, 0⟩ : Fire)]), 0, by decide +kernel⟩,
    ⟨st124, 3, ((⟨15, 9, ⟨0, 0, 0⟩, 0, 0⟩ : Fire)), ([(⟨15, 10, ⟨0, 0, 0⟩, 0, 0⟩ : Fire)]), by decide +kernel⟩,
    ⟨st125, 3, ((⟨15, 9, ⟨0, 0, 0⟩, 0, 0⟩ : Fire)), ([(⟨15, 10, ⟨0, 0, 0⟩, 0, 0⟩ : Fire)]), by decide +kernel⟩,
    ⟨st126, 3, ((⟨15, 9, ⟨0, 0, 0⟩, 0, 0⟩ : Fire)), ([(⟨15, 10, ⟨0, 0, 0⟩, 0, 0⟩ : Fire)]), by decide +kernel⟩,
    ⟨acqUp, 3, by decide +kernel⟩⟩

theorem witness_AcquisitionRunCommandsComplete_3 :
    (∃ (s u : State) (a k : Nat) (it : Item), a < 4 ∧ k < 5 ∧ acqItem a k s = some (it, u) ∧ ustate s (acqUnit a) =
      .running ∧ srcEn s a k = true ∧ 2 ≤ astate s a ∧ astate s a ≤ 4 ∧ (itemGeneration it (acqSrc s a k).ended).1 =
      false ∧ (acqSrc s a k).done = false) ∧
    (∃ (s u : State) (a k : Nat) (it : Item), a < 4 ∧ k < 5 ∧ acqItem a k s = some (it, u) ∧ ustate s (acqUnit a) =
      .running ∧ srcEn s a k = true ∧ 2 ≤ astate s a ∧ astate s a ≤ 4 ∧ (itemGeneration it (acqSrc s a k).ended).1 =
      false ∧ (acqSrc s a k).done = true) ∧
    (∃ (s u : State) (a k : Nat) (it : Item), a < 4 ∧ k < 5 ∧ acqItem a k s = some (it, u) ∧ ustate s (acqUnit a) =
      .running ∧ srcEn s a k = true ∧ ((astate s a < 2 ∨ 4 < astate s a))) ∧
    (∃ (s u : State) (a k : Nat) (it : Item), a < 4 ∧ k < 5 ∧ acqItem a k s = some (it, u) ∧ ((ustate s (acqUnit a) ≠
      .running ∨ srcEn s a k = false))) ∧
    (∃ (s : State) (a k : Nat), acqItem a k s = none) ∧
    (∃ (s : State) (a : Nat) (f : Fire) (ep pe : BitVec 32) (c : _), a < 4 ∧ astate s a = 5 ∧ (acqOf s a).fire = some
      (f, ep, pe) ∧ (acqOf s a).stopping = some c) :=
  ⟨⟨st127, st128, 3, 4, (itf 5 0), by decide +kernel⟩,
    ⟨st129, st130, 3, 4, (itf 5 0), by decide +kernel⟩,
    ⟨st131, st132, 3, 4, (itf 5 0), by decide +kernel⟩,
    ⟨st133, st134, 3, 4, (itf 5 0), by decide +kernel⟩,
    ⟨acqUp, 3, 4, by decide +kernel⟩,
    ⟨st135, 3, ((⟨15, 9, ⟨0, 0, 0⟩, 0, 0⟩ : Fire)), 3, 4, 3, by decide +kernel⟩⟩

theorem witness_AcquisitionRunCommandsComplete_4 :
    (∃ (s : State) (a : Nat) (f : Fire) (ep pe : BitVec 32), a < 4 ∧ astate s a = 5 ∧ (acqOf s a).fire = some (f, ep,
      pe) ∧ (acqOf s a).stopping = none ∧ (acqOf s a).slots ≤ acqCompleted s a + 1 ∧ acqCfgB s a 1 = false) ∧
    (∃ (s : State) (a : Nat) (f : Fire) (ep pe : BitVec 32), a < 4 ∧ astate s a = 5 ∧ (acqOf s a).fire = some (f, ep,
      pe) ∧ (acqOf s a).stopping = none ∧ ((acqCompleted s a + 1 < (acqOf s a).slots ∨ acqCfgB s a 1 = true))) ∧
    (∃ (s : State) (a : Nat), ((astate s a ≠ 5 ∨ (acqOf s a).fire = none))) :=
  ⟨⟨st136, 3, ((⟨15, 9, ⟨0, 0, 0⟩, 0, 0⟩ : Fire)), 3, 4, by decide +kernel⟩,
    ⟨st137, 3, ((⟨15, 9, ⟨0, 0, 0⟩, 0, 0⟩ : Fire)), 3, 4, by decide +kernel⟩,
    ⟨(acqUp |> acqSt 4), 3, by decide +kernel⟩⟩

def st138 : State :=
  acqUp |> wr .acqProgress 3 0 1 |> withAcq 3 (fun u => { u with slots := 1 })
def st139 : State :=
  acqUp |> withAcq 3 (fun u => { u with slots := 1, job := some ⟨0, 0, 0, 0, 0, 31, 6, none⟩ })
def st140 : State :=
  acqUp |> withAcq 3 (fun u => { u with missed := List.replicate 129 ⟨⟨15, 0, ⟨0, 0, 0⟩, 0, 0⟩, 4, 0, 0, 0⟩ })
def st141 : State :=
  acqUp |> wr .acqProgress 3 0 1 |> withAcq 3 (fun u =>
    { u with slots := 1, job := some ⟨0, 0, 0, 0, 0, 31, 6, none⟩, segs := [seg0] })
def st142 : State :=
  acqUp |> withAcq 3 (fun u => { u with slots := 1, job := some ⟨0, 1, 0, 0, 0, 31, 6, none⟩ })
def st143 : State :=
  acqUp |> withAcq 3 (fun u => { u with tests := (seg0, true) :: [(seg0, false)] })
theorem witness_AcquisitionReadCommandsComplete :
    (∃ (s : State) (ag : AgentId) (a : Nat), a < 4 ∧ WriteOpen s ag (Reg.off .acqCmd a 0) ∧ (acqOf s a).job = none ∧
      (acqCfgB s a 2 && acqRuns s a) = false ∧ segKept s a (rd s .acqReadFirst a 0).toNat = true ∧ (rd s
      .acqReadFirst a 0).toNat + max 1 (rd s .acqReadCount a 0).toNat ≤ acqCompleted s a) ∧
    (∃ (s : State) (ag : AgentId) (a : Nat), a < 4 ∧ WriteOpen s ag (Reg.off .acqCmd a 0) ∧ (((acqOf s a).job.isSome
      = true ∨ (acqCfgB s a 2 && acqRuns s a) = true ∨ segKept s a (rd s .acqReadFirst a 0).toNat = false ∨
      acqCompleted s a < (rd s .acqReadFirst a 0).toNat + max 1 (rd s .acqReadCount a 0).toNat))) ∧
    (∃ (s : State) (ag : AgentId) (a : Nat), a < 4 ∧ WriteOpen s ag (Reg.off .acqCmd a 0) ∧ (acqOf s a).job.isSome =
      true) ∧
    (∃ (s : State) (a : Nat), a < 4 ∧ (acqOf s a).missed ≠ []) ∧
    (∃ (s : State) (a : Nat), a < 4 ∧ (acqOf s a).missed = []) ∧
    (∃ (s : State) (a : Nat) (j : AcqJob) (g : AcqSeg) (p : AcqPart) (ps : List AcqPart), a < 4 ∧ (acqOf s a).job =
      some j ∧ segKept s a j.ord = true ∧ (acqOf s a).segs.find? (fun g => g.ordinal == j.ord) = some g ∧
      g.parts.filter (fun p => j.srcMask.testBit p.src && decide (j.src ≤ p.src)) = p :: ps) :=
  ⟨⟨st138, 0x51, 3, by decide +kernel⟩,
    ⟨acqUp, 0x51, 3, by decide +kernel⟩,
    ⟨st139, 0x51, 3, by decide +kernel⟩,
    ⟨st140, 3, by decide +kernel⟩,
    ⟨acqUp, 3, by decide +kernel⟩,
    ⟨st141, 3, ⟨0, 0, 0, 0, 0, 31, 6, none⟩, seg0, (⟨4, 1, 8, 0, 0, 0, 1, 0, ⟨0, 0, 0⟩, [⟨0, 0, 0, 1024, 0, 0, 0,
      false, false, 0, 0⟩]⟩), [], by decide +kernel⟩⟩

theorem witness_AcquisitionReadCommandsComplete_2 :
    (∃ (s : State) (a : Nat) (j : AcqJob), a < 4 ∧ (acqOf s a).job = some j ∧ segKept s a j.ord = false ∧ j.ord <
      j.last) ∧
    (∃ (s : State) (a : Nat) (j : AcqJob), a < 4 ∧ (acqOf s a).job = some j ∧ segKept s a j.ord = false ∧ j.last ≤
      j.ord) ∧
    (∃ (s : State) (a : Nat) (g : AcqSeg) (tested : Bool) (r : List (AcqSeg × Bool)), a < 4 ∧ (acqOf s a).tests = (g,
      tested) :: r) ∧
    (∃ (s : State) (a : Nat), (acqOf s a).tests = []) ∧
    (∃ (s : State) (ag : AgentId) (a : Nat), a < 4 ∧ WriteOpen s ag (Reg.off .acqMtData a 0) ∧ acqRuns s a = false) ∧
    (∃ (s : State) (ag : AgentId) (a : Nat), a < 4 ∧ WriteOpen s ag (Reg.off .acqMtData a 0) ∧ acqRuns s a = true ∧
      s.mgt.log.length < auditSize) :=
  ⟨⟨st142, 3, ⟨0, 1, 0, 0, 0, 31, 6, none⟩, by decide +kernel⟩,
    ⟨st139, 3, ⟨0, 0, 0, 0, 0, 31, 6, none⟩, by decide +kernel⟩,
    ⟨st143, 3, seg0, true, [(seg0, false)], by decide +kernel⟩,
    ⟨acqUp, 3, by decide +kernel⟩,
    ⟨(acqUp |> wr .acqMtAddr 3 0 4095), 0x51, 3, by decide +kernel⟩,
    ⟨(acqUp |> acqSt 4), 0x51, 3, by decide +kernel⟩⟩

def st144 : State :=
  up |> on 0x103 .running |> on 0x0C3 .running |> withDens 3 (fun x =>
    { x with spectra := [(⟨3, 5, ⟨1, 2, 3⟩, 0, 64, [5], [-32768, 32767, 0], 0, 9⟩ : SpecOut), (⟨3, 5, ⟨1, 2, 3⟩, 0, 64, [5], [-32768, 32767, 0], 0, 9⟩ : SpecOut)] })
def st145 : State :=
  up |> on 0x103 .running |> withDens 3 (fun x =>
    { x with spectra := [(⟨3, 5, ⟨1, 2, 3⟩, 0, 64, [5], [-32768, 32767, 0], 0, 9⟩ : SpecOut), (⟨3, 5, ⟨1, 2, 3⟩, 0, 64, [5], [-32768, 32767, 0], 0, 9⟩ : SpecOut)] })
def st146 : State :=
  up |> on 0x103 .running |> wr .densCount 3 1 0xFFFFFFFF |> withDens 3 (fun x =>
    { x with zeroing := true, spectra := [(⟨3, 5, ⟨1, 2, 3⟩, 0, 64, [5], [-32768, 32767, 0], 0, 9⟩ : SpecOut), (⟨3, 5, ⟨1, 2, 3⟩, 0, 64, [5], [-32768, 32767, 0], 0, 9⟩ : SpecOut)] })
def st147 : State :=
  up |> on 0x103 .running |> withDens 3 (fun x =>
    { x with frame := { DensFrame.start 4294967295 0 with received := 1 }, spectra := [(⟨3, 5, ⟨1, 2, 3⟩, 2, 64, [5], [-32768, 32767, 0], 0, 9⟩ : SpecOut), (⟨3, 5, ⟨1, 2, 3⟩, 2, 64, [5], [-32768, 32767, 0], 0, 9⟩ : SpecOut)] })
def st148 : State :=
  up |> on 0x103 .ready |> withDens 3 (fun x =>
    { x with spectra := [(⟨3, 5, ⟨1, 2, 3⟩, 0, 64, [5], [-32768, 32767, 0], 0, 9⟩ : SpecOut), (⟨3, 5, ⟨1, 2, 3⟩, 0, 64, [5], [-32768, 32767, 0], 0, 9⟩ : SpecOut)] })
def st149 : State :=
  up |> on 0x103 .running |> withDens 3 (fun x =>
    { x with queue := [(⟨0, [1023, 0], true⟩ : DensEntry), (⟨0, [1023, 0], true⟩ : DensEntry)] }) |> wr .densCount 3
    0 0xFFFFFFFF
def st150 : State :=
  up |> on 0x103 .running |> withDens 3 (fun x => { x with zeroing := true })
def st151 : State :=
  up |> on 0x103 .running |> withDens 3 (fun x =>
    { x with sweep := some ⟨DensFrame.start 0 0, { DensSet.reset with out := 0x200000 }, 0, false, false, false, 0, 0, some [(0, 1)]⟩ })
def st152 : State :=
  up |> on 0x103 .running |> withDens 3 (fun x =>
    { x with sweep := some ⟨DensFrame.start 0 0, { DensSet.reset with out := 0x200000 }, 0, false, false, false, 0, 0, some [(0, 1)]⟩, ending := some (true, false), frame := DensFrame.start 4294967295 0 })
def st153 : State :=
  up |> on 0x103 .running |> withDens 3 (fun x =>
    { x with sweep := some { (⟨DensFrame.start 0 0, { DensSet.reset with out := 0x200000 }, 0, false, false, false, 0, 0, some [(0, 1)]⟩ : DensSweep) with export_ := true } })
    |> withPlan (fun p => { p with offered := [{ itm 0 with src := 0x103 }] })
theorem witness_DensityCommandsComplete :
    (∃ (s : State) (d : Nat) (o : SpecOut) (r : List SpecOut), d < 4 ∧ (densOf s d).spectra = o :: r ∧ ustate s
      (densUnit d) = .running ∧ (((o.flags.testBit 3 || o.flags.testBit 1) = false ∨ (densOf s d).frame.received =
      0)) ∧ ustate s (trigUnit d) = .running) ∧
    (∃ (s : State) (d : Nat) (o : SpecOut) (r : List SpecOut), d < 4 ∧ (densOf s d).spectra = o :: r ∧ ustate s
      (densUnit d) = .running ∧ (((o.flags.testBit 3 || o.flags.testBit 1) = false ∨ (densOf s d).frame.received =
      0)) ∧ (densOf s d).zeroing = false ∧ ((densOf s d).queue.map fun e => e.rows.length).sum + o.points.length ≤
      65536) ∧
    (∃ (s : State) (d : Nat) (o : SpecOut) (r : List SpecOut), d < 4 ∧ (densOf s d).spectra = o :: r ∧ ustate s
      (densUnit d) = .running ∧ (((o.flags.testBit 3 || o.flags.testBit 1) = false ∨ (densOf s d).frame.received =
      0)) ∧ (((densOf s d).zeroing = true ∨ 65536 < ((densOf s d).queue.map fun e => e.rows.length).sum +
      o.points.length))) ∧
    (∃ (s : State) (d : Nat) (o : SpecOut) (r : List SpecOut), d < 4 ∧ (densOf s d).spectra = o :: r ∧ ustate s
      (densUnit d) = .running ∧ (o.flags.testBit 3 || o.flags.testBit 1) = true ∧ (densOf s d).frame.received ≠ 0 ∧
      (densOf s d).sweep = none ∧ (densOf s d).zeroing = false ∧ (densOf s d).commit = none ∧ 1 < fld (densOf s
      d).set.frame 0 24) ∧
    (∃ (s : State) (d : Nat) (o : SpecOut) (r : List SpecOut), d < 4 ∧ (densOf s d).spectra = o :: r ∧ ustate s
      (densUnit d) ≠ .running) ∧
    (∃ (s : State) (d : Nat), (densOf s d).spectra = []) :=
  ⟨⟨st144, 3, ((⟨3, 5, ⟨1, 2, 3⟩, 0, 64, [5], [-32768, 32767, 0], 0, 9⟩ : SpecOut)), ([(⟨3, 5, ⟨1, 2, 3⟩, 0, 64,
      [5], [-32768, 32767, 0], 0, 9⟩ : SpecOut)]), by decide +kernel⟩,
    ⟨st145, 3, ((⟨3, 5, ⟨1, 2, 3⟩, 0, 64, [5], [-32768, 32767, 0], 0, 9⟩ : SpecOut)), ([(⟨3, 5, ⟨1, 2, 3⟩, 0, 64,
      [5], [-32768, 32767, 0], 0, 9⟩ : SpecOut)]), by decide +kernel⟩,
    ⟨st146, 3, ((⟨3, 5, ⟨1, 2, 3⟩, 0, 64, [5], [-32768, 32767, 0], 0, 9⟩ : SpecOut)), ([(⟨3, 5, ⟨1, 2, 3⟩, 0, 64,
      [5], [-32768, 32767, 0], 0, 9⟩ : SpecOut)]), by decide +kernel⟩,
    ⟨st147, 3, ((⟨3, 5, ⟨1, 2, 3⟩, 2, 64, [5], [-32768, 32767, 0], 0, 9⟩ : SpecOut)), ([(⟨3, 5, ⟨1, 2, 3⟩, 2, 64,
      [5], [-32768, 32767, 0], 0, 9⟩ : SpecOut)]), by decide +kernel⟩,
    ⟨st148, 3, ((⟨3, 5, ⟨1, 2, 3⟩, 0, 64, [5], [-32768, 32767, 0], 0, 9⟩ : SpecOut)), ([(⟨3, 5, ⟨1, 2, 3⟩, 0, 64,
      [5], [-32768, 32767, 0], 0, 9⟩ : SpecOut)]), by decide +kernel⟩,
    ⟨(up |> on 0x103 .running), 3, by decide +kernel⟩⟩

theorem witness_DensityCommandsComplete_2 :
    (∃ (s : State) (d : Nat) (e : DensEntry) (r : List DensEntry), d < 4 ∧ (densOf s d).queue = e :: r) ∧
    (∃ (s : State) (d : Nat), (densOf s d).queue = []) ∧
    (∃ (s : State) (d : Nat), d < 4 ∧ (densOf s d).zeroing = true ∧ (densOf s d).ending = none) ∧
    (∃ (s : State) (d : Nat) (w m : _), d < 4 ∧ (densOf s d).zeroing = false ∧ (densOf s d).sweep = some w ∧ w.swept
      = some m ∧ sweepWaits s d w = false ∧ (densOf s d).ending = none ∧ bit w.set.out 21 = true) ∧
    (∃ (s : State) (d : Nat) (cut clear : _), d < 4 ∧ (((densOf s d).zeroing = true ∨ ((densOf s d).zeroing = false ∧
      ∃ w ∈ (densOf s d).sweep, w.swept.isSome = true ∧ sweepWaits s d w = false))) ∧ (densOf s d).ending = some
      (cut, clear)) ∧
    (∃ (s : State) (d : Nat) (w : _), d < 4 ∧ (densOf s d).zeroing = false ∧ (densOf s d).sweep = some w ∧ ((w.swept
      = none ∨ sweepWaits s d w = true))) :=
  ⟨⟨st149, 3, ((⟨0, [1023, 0], true⟩ : DensEntry)), ([((⟨0, [1023, 0], true⟩ : DensEntry))]), by decide +kernel⟩,
    ⟨(up |> on 0x103 .running), 3, by decide +kernel⟩,
    ⟨st150, 3, by decide +kernel⟩,
    ⟨st151, 3, (⟨DensFrame.start 0 0, { DensSet.reset with out := 0x200000 }, 0, false, false, false, 0, 0, some [(0,
      1)]⟩), [(0, 1)], by decide +kernel⟩,
    ⟨st152, 3, true, false, by decide +kernel⟩,
    ⟨st153, 3,
      ({ (⟨DensFrame.start 0 0, { DensSet.reset with out := 0x200000 }, 0, false, false, false, 0, 0, some [(0, 1)]⟩ : DensSweep) with export_ := true }),
      by decide +kernel⟩⟩

theorem witness_DensityCommandsComplete_3 :
    (∃ (s : State) (ag : AgentId) (d : Nat), d < 4 ∧ WriteOpen s ag (Reg.off .densCommit d 0) ∧ densFail s d
      (densStaged s d) = none) ∧
    (∃ (s : State) (ag : AgentId) (d : Nat) (off : _), d < 4 ∧ WriteOpen s ag (Reg.off .densCommit d 0) ∧ densFail s
      d (densStaged s d) = some off) ∧
    (∃ (s : State) (ag : AgentId) (d : Nat) (v : BitVec 32), d < 4 ∧ WriteOpen s ag (Reg.off .densCommit d 0) ∧ ((fld
      v 0 2 = 0 ∨ (fld v 0 2 = 1 ∧ densFail s d (densStaged s d) = none)))) ∧
    (∃ (s : State) (ag : AgentId) (d : Nat) (v : BitVec 32), d < 4 ∧ WriteOpen s ag (Reg.off .densCommit d 0) ∧ ((fld
      v 0 2 = 2 ∨ (fld v 0 2 = 1 ∧ densFail s d (densStaged s d) ≠ none)))) ∧
    (∃ (s : State) (ag : AgentId) (d : Nat) (v : BitVec 32), d < 4 ∧ WriteOpen s ag (Reg.off .densCommit d 0) ∧ fld v
      0 2 = 3) :=
  ⟨⟨(up |> on 0x103 .running), 0x51, 3, by decide +kernel⟩,
    ⟨(up |> on 0x103 .running |> wr .densPersist 3 0 3), 0x51, 3, (Reg.off .densPersist 3 0), by decide +kernel⟩,
    ⟨(up |> on 0x103 .running), 0x51, 3, 0xFFFFFFFC, by decide +kernel⟩,
    ⟨(up |> on 0x103 .running), 0x51, 3, 0xFFFFFFFE, by decide +kernel⟩,
    ⟨(up |> on 0x103 .running), 0x51, 3, 0xFFFFFFFF, by decide +kernel⟩⟩

def st154 : State :=
  dispUp |> withDisp (fun d => { d with next := 2221 }) |> wr .dispLineMatch 0 0 2221
def st155 : State :=
  dispUp |> setF .dispStatus 0 0 0 16 2160 |> wr .dispCfg 0 0 5 |> withPlan (fun q =>
    { q with regions := [⟨5, 0x120, 1, 0, 268435456, 1⟩] }) |> withDisp (fun d =>
    { d with cap := some ⟨0, 0x00403C00, 0, 0x08700F00⟩ })
def st156 : State :=
  dispUp |> setF .dispStatus 0 0 0 16 2160 |> withDisp (fun d =>
    { d with cap := some ⟨0, 0x00403C00, 0, 0x08700F00⟩ })
def st157 : State :=
  dispUp |> on 0x120 .draining |> setF .dispStatus 0 0 0 16 2221
def st158 : State :=
  dispUp |> setF .dispStatus 0 0 0 16 2221 |> withDisp (fun d =>
    { d with mode := some { DispTiming.reset with frac := 5 } })
def st159 : State :=
  dispUp |> setF .dispStatus 0 0 0 16 2159 |> withDisp (fun d => { d with lim := fld d.plane.size 0 16 }) |> wr
    .dispCount 0 0 0xFFFFFFFF
def st160 : State :=
  dispUp |> setF .dispStatus 0 0 0 16 2159 |> withDisp (fun d => { d with lim := 5 })
def st161 : State :=
  dispUp |> wr .dispFbAddr 0 0 0xFFFFFFFF |> setF .dispStatus 0 0 0 16 2160
theorem witness_DisplayFrameCommandsComplete :
    (∃ (s : State), dispRuns s = true ∧ s.disp.hold = false ∧ (synOf s 3).lock = 2 ∧ s.disp.next < s.disp.timing.vTot
      ∧ getF s .dispLineMatch 0 0 0 16 = s.disp.next) ∧
    (∃ (s : State), ((dispRuns s = false ∨ s.disp.hold = true ∨ (synOf s 3).lock ≠ 2 ∨ s.disp.timing.vTot ≤
      s.disp.next))) ∧
    (∃ (s : State), dispRuns s = true ∧ s.disp.hold = false ∧ dispLine s = s.disp.timing.vAct ∧ ((s.disp.cap = none ∨
      capWaits s = true))) ∧
    (∃ (s : State) (p : _), dispRuns s = true ∧ s.disp.hold = false ∧ dispLine s = s.disp.timing.vAct ∧ s.disp.cap =
      some p ∧ capWaits s = false ∧ planeFail s (s.disp.mode.getD s.disp.timing) p = none) ∧
    (∃ (s : State) (p off : _), dispRuns s = true ∧ s.disp.hold = false ∧ dispLine s = s.disp.timing.vAct ∧
      s.disp.cap = some p ∧ capWaits s = false ∧ planeFail s (s.disp.mode.getD s.disp.timing) p = some off) ∧
    (∃ (s : State), ((dispRuns s = false ∨ s.disp.hold = true ∨ dispLine s ≠ s.disp.timing.vAct))) :=
  ⟨⟨st154, by decide +kernel⟩,
    ⟨(dispUp |> withDisp (fun d => { d with next := 2222 })), by decide +kernel⟩,
    ⟨(dispUp |> setF .dispStatus 0 0 0 16 2160), by decide +kernel⟩,
    ⟨st155, ⟨0, 0x00403C00, 0, 0x08700F00⟩, by decide +kernel⟩,
    ⟨st156, ⟨0, 0x00403C00, 0, 0x08700F00⟩, (Reg.off .dispFbCfg 0 0), by decide +kernel⟩,
    ⟨(dispUp |> setF .dispStatus 0 0 0 16 2159), by decide +kernel⟩⟩

theorem witness_DisplayFrameCommandsComplete_2 :
    (∃ (s : State), dispRuns s = true ∧ s.disp.hold = false ∧ dispLine s + 1 = s.disp.timing.vTot ∧ ustate s dispUnit
      = .draining) ∧
    (∃ (s : State) (m : _), dispRuns s = true ∧ s.disp.hold = false ∧ dispLine s + 1 = s.disp.timing.vTot ∧ ustate s
      dispUnit = .running ∧ s.disp.mode = some m) ∧
    (∃ (s : State), dispRuns s = true ∧ s.disp.hold = false ∧ dispLine s + 1 = s.disp.timing.vTot ∧ ustate s dispUnit
      = .running ∧ s.disp.mode = none) ∧
    (∃ (s : State), ((dispRuns s = false ∨ s.disp.hold = true ∨ dispLine s + 1 ≠ s.disp.timing.vTot))) ∧
    (∃ (s : State) (x : Nat), dispRuns s = true ∧ getB s .dispStatus 0 0 22 = false ∧ s.disp.hold = false ∧ planeLine
      s.disp (dispLine s) = true ∧ x < s.disp.lim ∧ s.disp.lim = fld s.disp.plane.size 0 16) ∧
    (∃ (s : State), ((dispRuns s = false ∨ getB s .dispStatus 0 0 22 = true))) :=
  ⟨⟨st157, by decide +kernel⟩,
    ⟨st158, ({ DispTiming.reset with frac := 5 }), by decide +kernel⟩,
    ⟨(dispUp |> setF .dispStatus 0 0 0 16 2221), by decide +kernel⟩,
    ⟨(dispUp |> setF .dispStatus 0 0 0 16 2220), by decide +kernel⟩,
    ⟨st159, 3839, by decide +kernel⟩,
    ⟨up, by decide +kernel⟩⟩

theorem witness_DisplayFrameCommandsComplete_3 :
    (∃ (s : State) (x : Nat), ((dispRuns s = false ∨ getB s .dispStatus 0 0 22 = true ∨ s.disp.hold = true ∨
      planeLine s.disp (dispLine s) = false ∨ s.disp.lim ≤ x))) ∧
    (∃ (s : State) (ag : AgentId), WriteOpen s ag (Reg.off .dispFbCommit 0 0)) :=
  ⟨⟨st160, 5, by decide +kernel⟩,
    ⟨st161, 0x51, by decide +kernel⟩⟩

def st162 : State :=
  dispUp |> setF .dispStatus 0 0 16 3 1 |> setB .dispLink 0 0 5 true
def st163 : State :=
  dispUp |> setF .dispStatus 0 0 16 3 3 |> setB .dispStatus 0 0 19 true
def st164 : State :=
  dispUp |> setF .dispStatus 0 0 16 3 1 |> setB .dispStatus 0 0 19 true
def st165 : State :=
  dispUp |> setF .dispStatus 0 0 16 3 2 |> withDisp (fun d => { d with hold := true })
theorem witness_DisplayLinkCommandsComplete :
    (∃ (s : State) (ag : AgentId), WriteOpen s ag (Reg.off .dispModeCommit 0 0) ∧ timingFail (dispStaged s) = none) ∧
    (∃ (s : State) (ag : AgentId) (off : _), WriteOpen s ag (Reg.off .dispModeCommit 0 0) ∧ timingFail (dispStaged s)
      = some off) ∧
    (∃ (s : State) (ag : AgentId), WriteOpen s ag (Reg.off .dispModeCommit 0 0) ∧ dispRuns s = true) ∧
    (∃ (s : State) (ag : AgentId), WriteOpen s ag (Reg.off .dispModeCommit 0 0) ∧ dispRuns s = false) ∧
    (∃ (s : State), dispRuns s = true ∧ lstateD s = 1 ∧ hpd s = false) ∧
    (∃ (s : State), dispRuns s = true ∧ lstateD s ≠ 1) :=
  ⟨⟨dispUp, 0x51, by decide +kernel⟩,
    ⟨(dispUp |> wr .dispLink 0 0 3), 0x51, (Reg.off .dispLink 0 0), by decide +kernel⟩,
    ⟨(dispUp |> setB .dispStatus 0 0 19 true), 0x51, by decide +kernel⟩,
    ⟨(up |> on 0x120 .ready), 0x51, by decide +kernel⟩,
    ⟨st162, by decide +kernel⟩,
    ⟨st163, by decide +kernel⟩⟩

theorem witness_DisplayLinkCommandsComplete_2 :
    (∃ (s : State), ((dispRuns s = false ∨ lstateD s = 1))) ∧
    (∃ (s : State), lstateD s = 2 ∧ (synOf s 3).lock = 2 ∧ dispRuns s = true) ∧
    (∃ (s : State), ((lstateD s ≠ 2 ∨ (synOf s 3).lock ≠ 2 ∨ dispRuns s = false))) ∧
    (∃ (s : State) (ag : AgentId), WriteOpen s ag (Reg.off .dispAuxCmd 0 0) ∧ getB s .dispAuxCmd 0 0 28 = false) ∧
    (∃ (s : State) (ag : AgentId), WriteOpen s ag (Reg.off .dispAuxCmd 0 0) ∧ getB s .dispAuxCmd 0 0 28 = true ∧
      s.mgt.log.length < auditSize) ∧
    (∃ (s : State) (data : List Word) (k w : _), getB s .dispAuxCmd 0 0 28 = true ∧ k < 4 ∧ data[k]? = some w) :=
  ⟨⟨st164, by decide +kernel⟩,
    ⟨st165, by decide +kernel⟩,
    ⟨(dispUp |> setF .dispStatus 0 0 16 3 3), by decide +kernel⟩,
    ⟨dispUp, 0x51, by decide +kernel⟩,
    ⟨(dispUp |> setB .dispAuxCmd 0 0 28 true), 0x51, by decide +kernel⟩,
    ⟨(dispUp |> setB .dispAuxCmd 0 0 28 true), [1, 2, 3, 0xFFFFFFFF, 5], 3, ((0xFFFFFFFF : Word)), by decide +kernel⟩⟩

def st166 : State :=
  tdcUp |> setF .tdcInCfg 7 0 0 2 2 |> withIn 7 (fun x => { x with lastEdge := some 5 })
def st167 : State :=
  tdcUp |> setB .tdcMeasStatus 15 0 0 false |> setF .tdcMeasCfg 15 0 0 2 3
def st168 : State :=
  tdcUp  |> withChan 15 (fun y =>
    { y with queue := [(⟨0, false, 1099516, 0, 1, true, 0⟩ : TdcStamp)], pending := [⟨(⟨7, false, 5, 0, 1, false, 0⟩ : TdcStamp), false⟩, ⟨(⟨7, false, 9, 0, 1, false, 0⟩ : TdcStamp), false⟩] })
def st169 : State :=
  tdcUp  |> withChan 15 (fun y =>
    { y with queue := [(⟨7, false, 9, 0, 1, false, 0⟩ : TdcStamp)], pending := List.replicate 16 ⟨(⟨7, false, 5, 0, 1, false, 0⟩ : TdcStamp), false⟩ })
def st170 : State :=
  tdcUp |> wr .tdcMeasCount 15 1 0xFFFFFFFF |> withChan 15 (fun y =>
    { y with queue := [(⟨0, false, 3, 0, 1, false, 0⟩ : TdcStamp)], pending := [⟨(⟨7, false, 5, 0, 1, false, 0⟩ : TdcStamp), false⟩] })
def st171 : State :=
  tdcUp |> setF .tdcMeasCfg 15 0 0 2 1 |> wr .tdcMeasP0Lo 15 0 100 |> wr .tdcMeasP1Lo 15 0 1000 |> withChan 15 (fun y
    =>
    { y with queue := [(⟨7, false, 1099516, 0, 1, false, 0⟩ : TdcStamp)], ref := some ⟨(⟨7, false, 5, 0, 1, false, 0⟩ : TdcStamp), false⟩ })
def st172 : State :=
  tdcUp |> setF .tdcMeasCfg 15 0 0 2 1 |> wr .tdcMeasP0Lo 15 0 100 |> wr .tdcMeasP1Lo 15 0 1000 |> withChan 15 (fun y
    =>
    { y with queue := [(⟨7, false, 10, 0, 1, true, 0⟩ : TdcStamp)], ref := some ⟨(⟨7, false, 5, 0, 1, false, 0⟩ : TdcStamp), false⟩ })
def st173 : State :=
  tdcUp |> setF .tdcMeasCfg 15 0 0 2 2 |> withChan 15 (fun y =>
    { y with queue := [(⟨7, false, 5, 0, 1, false, 0⟩ : TdcStamp)], gate := some (⟨2, 0, none, none, 0, false, false⟩ : TdcGate) })
def st174 : State :=
  tdcUp |> setF .tdcMeasCfg 15 0 0 2 2 |> withChan 15 (fun y =>
    { y with queue := [(⟨7, false, 5497560, 0, 1, false, 0⟩ : TdcStamp)], gate := some (⟨2, 0, none, none, 0, false, false⟩ : TdcGate) })
def st175 : State :=
  tdcUp |> setB .tdcMeasStatus 15 0 0 false |> withChan 15 (fun y =>
    { y with queue := [(⟨7, false, 5, 0, 1, false, 0⟩ : TdcStamp)] })
def st176 : State :=
  tdcUp |> setF .tdcMeasCfg 15 0 0 2 1 |> wr .tdcMeasP0Lo 15 0 100 |> wr .tdcMeasP1Lo 15 0 1000
def st177 : State :=
  tdcUp |> setF .tdcMeasCfg 15 0 0 2 1 |> wr .tdcMeasP0Lo 15 0 100 |> wr .tdcMeasP1Lo 15 0 1000 |> withTime (fun t =>
    { t with sec := 5 }) |> withChan 15 (fun y =>
    { y with ref := some ⟨(⟨7, false, 5, 0, 1, false, 0⟩ : TdcStamp), false⟩ })
def st178 : State :=
  tdcUp |> setF .tdcMeasCfg 15 0 0 2 1 |> wr .tdcMeasP0Lo 15 0 100 |> wr .tdcMeasP1Lo 15 0 1000 |> withChan 15 (fun y
    => { y with ref := some ⟨(⟨7, false, 5, 0, 1, false, 0⟩ : TdcStamp), false⟩ })
def st179 : State :=
  tdcUp |> setF .tdcMeasCfg 15 0 0 2 2 |> withTime (fun t => { t with sec := 5 }) |> withChan 15 (fun y =>
    { y with gate := some (⟨2, 0, none, none, 0, false, false⟩ : TdcGate) })
def st180 : State :=
  tdcUp |> setF .tdcMeasCfg 15 0 0 2 2 |> withChan 15 (fun y =>
    { y with gate := some (⟨2, 0, none, none, 0, false, false⟩ : TdcGate) })
def st181 : State :=
  tdcUp |> withIn 7 (fun x => { x with blk := [⟨⟨0, 0, 0⟩, 0, 1, (0, 0)⟩] })
def st182 : State :=
  tdcUp |> (fun s => { s with tdc := { s.tdc with blk := [⟨none, none, 15, 0, 0, 1⟩] } })
theorem witness_TimeIntervalCommandsComplete :
    (∃ (s : State) (i t : Nat) (rising : Bool) (c : _), i < 8 ∧ ustate s (tdcUnit i) = .running ∧ edgeSel (getF s
      .tdcInCfg i 0 0 2) rising = true ∧ loopSilent s i = false ∧ ((∀ p, (tdcIn s i).lastEdge = some p → t < p ∨ p +
      deadTime ≤ t)) ∧ c < 16 ∧ getB s .tdcMeasStatus c 0 0 = true ∧ ((i = (startSrc s c).1 ∨ (measClass s c = 0 ∧ i
      = (stopSrc s c).1)))) ∧
    (∃ (s : State) (i t p : Nat) (rising : Bool), i < 8 ∧ ustate s (tdcUnit i) ≠ .off ∧ loopSilent s i = false ∧
      (((edgeSel (getF s .tdcInCfg i 0 0 2) rising = true ∧ ustate s (tdcUnit i) = .running) ∨ (getB s .trigEvtCfg 0
      i 2 = true ∧ edgeSel (getF s .trigEvtCfg 0 i 0 2) rising = true ∧ srcLive s (tdcUnit i) = true))) ∧ (tdcIn s
      i).lastEdge = some p ∧ p ≤ t ∧ t < p + deadTime) ∧
    (∃ (s : State) (i : Nat) (rising : Bool), i < 8 ∧ ustate s (tdcUnit i) ≠ .off ∧ loopSilent s i = false ∧
      ((edgeSel (getF s .tdcInCfg i 0 0 2) rising = false ∨ ustate s (tdcUnit i) ≠ .running)) ∧ ((getB s .trigEvtCfg
      0 i 2 = false ∨ edgeSel (getF s .trigEvtCfg 0 i 0 2) rising = false ∨ srcLive s (tdcUnit i) = false))) ∧
    (∃ (s : State) (i : Nat), ((ustate s (tdcUnit i) = .off ∨ 8 ≤ i ∨ loopSilent s i = true))) ∧
    (∃ (s : State) (ag : AgentId) (c : Nat), c < 16 ∧ WriteOpen s ag (Reg.off .tdcMeasCmd c 0) ∧ measFail s c = none) ∧
    (∃ (s : State) (ag : AgentId) (c : Nat) (off : _), c < 16 ∧ WriteOpen s ag (Reg.off .tdcMeasCmd c 0) ∧ measFail s
      c = some off) :=
  ⟨⟨(tdcUp |> setF .tdcInCfg 7 0 0 2 2), 7, 9, false, 15, by decide +kernel⟩,
    ⟨st166, 7, (5 + deadTime - 1), 5, false, by decide +kernel⟩,
    ⟨tdcUp, 7, false, by decide +kernel⟩,
    ⟨tdcUp, 8, by decide +kernel⟩,
    ⟨(tdcUp |> setB .tdcMeasStatus 15 0 0 false), 0x51, 15, by decide +kernel⟩,
    ⟨st167, 0x51, 15, (Reg.off .tdcMeasCfg 15 0), by decide +kernel⟩⟩

theorem witness_TimeIntervalCommandsComplete_2 :
    (∃ (s : State) (c : Nat) (x : TdcStamp) (p l : List TdcMark), c < 16 ∧ getB s .tdcMeasStatus c 0 0 = true ∧
      measClass s c = 0 ∧ firstStamp (tdcChan s c).queue = some x ∧ p = ((if x.dead = true then (tdcChan s
      c).pending.map fun m => { m with dead := true } else (tdcChan s c).pending).filter fun m => !spanGt ((x.time :
      Int) - m.x.time) (measP0 s c)) ∧ l = (if (x.input, x.falling) = stopSrc s c then p.eraseP fun m => decide
      (m.x.time ≤ x.time + 1) else p) ∧ (x.input, x.falling) ≠ startSrc s c) ∧
    (∃ (s : State) (c : Nat) (x : TdcStamp) (p l : List TdcMark), c < 16 ∧ getB s .tdcMeasStatus c 0 0 = true ∧
      measClass s c = 0 ∧ firstStamp (tdcChan s c).queue = some x ∧ p = ((if x.dead = true then (tdcChan s
      c).pending.map fun m => { m with dead := true } else (tdcChan s c).pending).filter fun m => !spanGt ((x.time :
      Int) - m.x.time) (measP0 s c)) ∧ l = (if (x.input, x.falling) = stopSrc s c then p.eraseP fun m => decide
      (m.x.time ≤ x.time + 1) else p) ∧ (x.input, x.falling) = startSrc s c) ∧
    (∃ (s : State) (c : Nat) (x : TdcStamp) (p l : List TdcMark), c < 16 ∧ getB s .tdcMeasStatus c 0 0 = true ∧
      measClass s c = 0 ∧ firstStamp (tdcChan s c).queue = some x ∧ p = ((if x.dead = true then (tdcChan s
      c).pending.map fun m => { m with dead := true } else (tdcChan s c).pending).filter fun m => !spanGt ((x.time :
      Int) - m.x.time) (measP0 s c)) ∧ l = (if (x.input, x.falling) = stopSrc s c then p.eraseP fun m => decide
      (m.x.time ≤ x.time + 1) else p) ∧ (x.input, x.falling) = stopSrc s c ∧ (∀ m ∈ p, ¬ m.x.time ≤ x.time + 1)) ∧
    (∃ (s : State) (c : Nat) (x : TdcStamp), c < 16 ∧ getB s .tdcMeasStatus c 0 0 = true ∧ measClass s c = 1 ∧
      firstStamp (tdcChan s c).queue = some x ∧ (x.input, x.falling) = startSrc s c ∧ ((∀ m, (tdcChan s c).ref = some
      m → spanGt ((x.time : Int) - m.x.time) (measP1 s c) = true ∨ spanLt ((x.time : Int) - m.x.time) (measP0 s c) =
      false))) ∧
    (∃ (s : State) (c : Nat) (x : TdcStamp) (m : _), c < 16 ∧ getB s .tdcMeasStatus c 0 0 = true ∧ measClass s c = 1
      ∧ firstStamp (tdcChan s c).queue = some x ∧ (x.input, x.falling) = startSrc s c ∧ (tdcChan s c).ref = some m ∧
      spanGt ((x.time : Int) - m.x.time) (measP1 s c) = false ∧ spanLt ((x.time : Int) - m.x.time) (measP0 s c) =
      true) ∧
    (∃ (s : State) (c : Nat) (x : TdcStamp) (g : TdcGate), c < 16 ∧ getB s .tdcMeasStatus c 0 0 = true ∧ measClass s
      c = 2 ∧ firstStamp (tdcChan s c).queue = some x ∧ (x.input, x.falling) = startSrc s c ∧ (tdcChan s c).gate =
      some g ∧ g.steps = x.steps ∧ gateOf s c x.time < g.k) :=
  ⟨⟨st168, 15, ((⟨0, false, 1099516, 0, 1, true, 0⟩ : TdcStamp)), (((if ((⟨0, false, 1099516, 0, 1, true, 0⟩ :
      TdcStamp)).dead = true then (tdcChan st168 15).pending.map fun m => { m with dead := true } else (tdcChan st168
      15).pending).filter fun m => !spanGt ((((⟨0, false, 1099516, 0, 1, true, 0⟩ : TdcStamp)).time : Int) -
      m.x.time) (measP0 st168 15))), ((if (((⟨0, false, 1099516, 0, 1, true, 0⟩ : TdcStamp)).input, ((⟨0, false,
      1099516, 0, 1, true, 0⟩ : TdcStamp)).falling) = stopSrc st168 15 then (((if ((⟨0, false, 1099516, 0, 1, true,
      0⟩ : TdcStamp)).dead = true then (tdcChan st168 15).pending.map fun m => { m with dead := true } else (tdcChan
      st168 15).pending).filter fun m => !spanGt ((((⟨0, false, 1099516, 0, 1, true, 0⟩ : TdcStamp)).time : Int) -
      m.x.time) (measP0 st168 15))).eraseP fun m => decide (m.x.time ≤ ((⟨0, false, 1099516, 0, 1, true, 0⟩ :
      TdcStamp)).time + 1) else (((if ((⟨0, false, 1099516, 0, 1, true, 0⟩ : TdcStamp)).dead = true then (tdcChan
      st168 15).pending.map fun m => { m with dead := true } else (tdcChan st168 15).pending).filter fun m => !spanGt
      ((((⟨0, false, 1099516, 0, 1, true, 0⟩ : TdcStamp)).time : Int) - m.x.time) (measP0 st168 15))))),
      by decide +kernel⟩,
    ⟨st169, 15, ((⟨7, false, 9, 0, 1, false, 0⟩ : TdcStamp)), (((if ((⟨7, false, 9, 0, 1, false, 0⟩ : TdcStamp)).dead
      = true then (tdcChan st169 15).pending.map fun m => { m with dead := true } else (tdcChan st169
      15).pending).filter fun m => !spanGt ((((⟨7, false, 9, 0, 1, false, 0⟩ : TdcStamp)).time : Int) - m.x.time)
      (measP0 st169 15))), ((if (((⟨7, false, 9, 0, 1, false, 0⟩ : TdcStamp)).input, ((⟨7, false, 9, 0, 1, false, 0⟩
      : TdcStamp)).falling) = stopSrc st169 15 then (((if ((⟨7, false, 9, 0, 1, false, 0⟩ : TdcStamp)).dead = true
      then (tdcChan st169 15).pending.map fun m => { m with dead := true } else (tdcChan st169 15).pending).filter
      fun m => !spanGt ((((⟨7, false, 9, 0, 1, false, 0⟩ : TdcStamp)).time : Int) - m.x.time) (measP0 st169
      15))).eraseP fun m => decide (m.x.time ≤ ((⟨7, false, 9, 0, 1, false, 0⟩ : TdcStamp)).time + 1) else (((if
      ((⟨7, false, 9, 0, 1, false, 0⟩ : TdcStamp)).dead = true then (tdcChan st169 15).pending.map fun m =>
      { m with dead := true } else (tdcChan st169 15).pending).filter fun m => !spanGt ((((⟨7, false, 9, 0, 1, false,
      0⟩ : TdcStamp)).time : Int) - m.x.time) (measP0 st169 15))))), by decide +kernel⟩,
    ⟨st170, 15, ((⟨0, false, 3, 0, 1, false, 0⟩ : TdcStamp)), (((if ((⟨0, false, 3, 0, 1, false, 0⟩ : TdcStamp)).dead
      = true then (tdcChan st170 15).pending.map fun m => { m with dead := true } else (tdcChan st170
      15).pending).filter fun m => !spanGt ((((⟨0, false, 3, 0, 1, false, 0⟩ : TdcStamp)).time : Int) - m.x.time)
      (measP0 st170 15))), ((if (((⟨0, false, 3, 0, 1, false, 0⟩ : TdcStamp)).input, ((⟨0, false, 3, 0, 1, false, 0⟩
      : TdcStamp)).falling) = stopSrc st170 15 then (((if ((⟨0, false, 3, 0, 1, false, 0⟩ : TdcStamp)).dead = true
      then (tdcChan st170 15).pending.map fun m => { m with dead := true } else (tdcChan st170 15).pending).filter
      fun m => !spanGt ((((⟨0, false, 3, 0, 1, false, 0⟩ : TdcStamp)).time : Int) - m.x.time) (measP0 st170
      15))).eraseP fun m => decide (m.x.time ≤ ((⟨0, false, 3, 0, 1, false, 0⟩ : TdcStamp)).time + 1) else (((if
      ((⟨0, false, 3, 0, 1, false, 0⟩ : TdcStamp)).dead = true then (tdcChan st170 15).pending.map fun m =>
      { m with dead := true } else (tdcChan st170 15).pending).filter fun m => !spanGt ((((⟨0, false, 3, 0, 1, false,
      0⟩ : TdcStamp)).time : Int) - m.x.time) (measP0 st170 15))))), by decide +kernel⟩,
    ⟨st171, 15, ((⟨7, false, 1099516, 0, 1, false, 0⟩ : TdcStamp)), by decide +kernel⟩,
    ⟨st172, 15, ((⟨7, false, 10, 0, 1, true, 0⟩ : TdcStamp)), (⟨(⟨7, false, 5, 0, 1, false, 0⟩ : TdcStamp), false⟩),
      by decide +kernel⟩,
    ⟨st173, 15, ((⟨7, false, 5, 0, 1, false, 0⟩ : TdcStamp)), ((⟨2, 0, none, none, 0, false, false⟩ : TdcGate)),
      by decide +kernel⟩⟩

theorem witness_TimeIntervalCommandsComplete_3 :
    (∃ (s : State) (c : Nat) (x : TdcStamp) (g : TdcGate), c < 16 ∧ getB s .tdcMeasStatus c 0 0 = true ∧ measClass s
      c = 2 ∧ firstStamp (tdcChan s c).queue = some x ∧ (x.input, x.falling) = startSrc s c ∧ (tdcChan s c).gate =
      some g ∧ ((g.steps ≠ x.steps ∨ g.k ≤ gateOf s c x.time))) ∧
    (∃ (s : State) (c : Nat), c < 16 ∧ firstStamp (tdcChan s c).queue = none) ∧
    (∃ (s : State) (c : Nat) (x : _), c < 16 ∧ firstStamp (tdcChan s c).queue = some x ∧ getB s .tdcMeasStatus c 0 0
      = false) ∧
    (∃ (s : State) (c : Nat), c < 16 ∧ ((getB s .tdcMeasStatus c 0 0 = false ∨ measClass s c ≠ 0))) ∧
    (∃ (s : State) (c : Nat) (m : _), c < 16 ∧ getB s .tdcMeasStatus c 0 0 = true ∧ measClass s c = 1 ∧ (tdcChan s
      c).ref = some m ∧ spanGt ((judged s c : Int) - m.x.time) (measP1 s c) = true) ∧
    (∃ (s : State) (c : Nat), c < 16 ∧ ((getB s .tdcMeasStatus c 0 0 = false ∨ measClass s c ≠ 1 ∨ (∀ m, (tdcChan s
      c).ref = some m → spanGt ((judged s c : Int) - m.x.time) (measP1 s c) = false)))) :=
  ⟨⟨st174, 15, ((⟨7, false, 5497560, 0, 1, false, 0⟩ : TdcStamp)), ((⟨2, 0, none, none, 0, false, false⟩ :
      TdcGate)), by decide +kernel⟩,
    ⟨tdcUp, 15, by decide +kernel⟩,
    ⟨st175, 15, ((⟨7, false, 5, 0, 1, false, 0⟩ : TdcStamp)), by decide +kernel⟩,
    ⟨st176, 15, by decide +kernel⟩,
    ⟨st177, 15, (⟨(⟨7, false, 5, 0, 1, false, 0⟩ : TdcStamp), false⟩), by decide +kernel⟩,
    ⟨st178, 15, by decide +kernel⟩⟩

theorem witness_TimeIntervalCommandsComplete_4 :
    (∃ (s : State) (c : Nat) (g : _), c < 16 ∧ (tdcChan s c).gate = some g ∧ getB s .tdcMeasStatus c 0 0 = true ∧
      ((g.k < gateOf s c (judged s c) ∨ g.steps ≠ s.time.steps))) ∧
    (∃ (s : State) (c : Nat), c < 16 ∧ (((tdcChan s c).gate = none ∨ getB s .tdcMeasStatus c 0 0 = false ∨ (∀ g,
      (tdcChan s c).gate = some g → gateOf s c (judged s c) ≤ g.k ∧ g.steps = s.time.steps)))) ∧
    (∃ (s : State) (i : Nat) (e r : _), i < 8 ∧ (tdcIn s i).queue = [] ∧ (tdcIn s i).blk = e :: r) ∧
    (∃ (s : State) (i : Nat), 8 ≤ i ∧ s.tdc.blk = []) ∧
    (∃ (s : State) (i : Nat) (e r : _), 8 ≤ i ∧ s.tdc.blk = e :: r) :=
  ⟨⟨st179, 15, ((⟨2, 0, none, none, 0, false, false⟩ : TdcGate)), by decide +kernel⟩,
    ⟨st180, 15, by decide +kernel⟩,
    ⟨st181, 7, (⟨⟨0, 0, 0⟩, 0, 1, (0, 0)⟩), [], by decide +kernel⟩,
    ⟨tdcUp, 8, by decide +kernel⟩,
    ⟨st182, 8, ⟨none, none, 15, 0, 0, 1⟩, [], by decide +kernel⟩⟩

def st183 : State :=
  cmpUp |> wr .cmpStreamCfg 7 0 0x800 |> dlv 73 0
    [({ itm 5 with payload := List.replicate 16 0, src := 0x051, stream := 1, check := true } : Item)]
def st184 : State :=
  cmpUp |> wr .cmpStreamCfg 7 0 0x800 |> withCmp 7 (fun x =>
    { x with blk := some (⟨List.replicate 16 0, ⟨0, 0, 0⟩, 0, 0, 0, 0x20000, false, false, none⟩ : CmpBlk) }) |> dlv
    73 0 [({ itm 5 with payload := List.replicate 16 0, src := 0x051, stream := 1, check := true } : Item)]
def st185 : State :=
  cmpUp |> withCmp 7 (fun x =>
    { x with blk := some (⟨List.replicate 16 0, ⟨0, 0, 0⟩, 0, 0, 0, 0x20000, false, false, none⟩ : CmpBlk) }) |> (fun
    s => { s with time := { s.time with up := 2 ^ 70 } })
def st186 : State :=
  jobUp |> withCmp 7 (fun x => { x with queue := List.replicate 15 job0 })
def st187 : State :=
  jobUp |> withCmp 7 (fun x => { x with queue := List.replicate 16 job0 })
def st188 : State :=
  jobUp |> withCmp 7 (fun x => { x with running := some job0 })
def st189 : State :=
  jobUp |> withCmp 7 (fun x => { x with queue := [job0, job0], results := List.replicate 15 [0] })
def st190 : State :=
  jobUp |> withCmp 7 (fun x => { x with queue := [[3], job0], results := List.replicate 15 [0] })
def st191 : State :=
  jobUp |> withCmp 7 (fun x => { x with queue := [[3], job0], results := List.replicate 16 [0] })
def st192 : State :=
  jobUp |> withCmp 7 (fun x => { x with running := some job0 }) |> setF .hbmStackStatus 0 0 0 3 2
def st193 : State :=
  jobUp |> withCmp 7 (fun x => { x with results := [[1, 2, 3, 4], [5]] })
theorem witness_CompressionCommandsComplete :
    (∃ (s u : State) (n : Nat) (i : Item) (room : Bool), n < 8 ∧ cmpJobs s n = false ∧ takeDelivered (66 + n) 0 s =
      some (i, u) ∧ ((ustate s (cmpUnit n) ≠ .running ∨ room = false))) ∧
    (∃ (s u : State) (n : Nat) (i : Item) (room : Bool), n < 8 ∧ cmpJobs s n = false ∧ takeDelivered (66 + n) 0 s =
      some (i, u) ∧ ustate s (cmpUnit n) = .running ∧ room = true ∧ (cmpOf s n).blk = none ∧ 8 + 4 * i.payload.length
      ≤ cmpLimit (rd s .cmpStreamCfg n 0)) ∧
    (∃ (s u : State) (n : Nat) (i : Item) (room : Bool) (a : _), n < 8 ∧ cmpJobs s n = false ∧ takeDelivered (66 + n)
      0 s = some (i, u) ∧ ustate s (cmpUnit n) = .running ∧ room = true ∧ (cmpOf s n).blk = some a ∧ a.bytes.length +
      8 + 4 * i.payload.length ≤ cmpLimit a.cfg) ∧
    (∃ (s : State) (n : Nat), n < 8 ∧ ((cmpJobs s n = true ∨ takeDelivered (66 + n) 0 s = none))) ∧
    (∃ (s : State) (n : Nat) (b : _), n < 8 ∧ ustate s (cmpUnit n) = .running ∧ flushDue s n = true ∧ (cmpOf s n).blk
      = some b) ∧
    (∃ (s : State) (n : Nat), n < 8 ∧ ((ustate s (cmpUnit n) ≠ .running ∨ flushDue s n = false))) :=
  ⟨⟨st183, (taken 73 0 st183), 7,
      (({ itm 5 with payload := List.replicate 16 0, src := 0x051, stream := 1, check := true } : Item)), false,
      by decide +kernel⟩,
    ⟨st183, (taken 73 0 st183), 7,
      (({ itm 5 with payload := List.replicate 16 0, src := 0x051, stream := 1, check := true } : Item)), true,
      by decide +kernel⟩,
    ⟨st184, (taken 73 0 st184), 7,
      (({ itm 5 with payload := List.replicate 16 0, src := 0x051, stream := 1, check := true } : Item)), true,
      ((⟨List.replicate 16 0, ⟨0, 0, 0⟩, 0, 0, 0, 0x20000, false, false, none⟩ : CmpBlk)), by decide +kernel⟩,
    ⟨jobUp, 7, by decide +kernel⟩,
    ⟨st185, 7, ((⟨List.replicate 16 0, ⟨0, 0, 0⟩, 0, 0, 0, 0x20000, false, false, none⟩ : CmpBlk)),
      by decide +kernel⟩,
    ⟨cmpUp, 7, by decide +kernel⟩⟩

theorem witness_CompressionCommandsComplete_2 :
    (∃ (s : State) (ag : AgentId) (n : Nat) (v : BitVec 32), n < 8 ∧ WriteOpen s ag (Reg.off .cmpStreamCfg n 0) ∧
      cmpCfgOk (v &&& 0x3FFFF) = true ∧ (ustate s (cmpUnit n)).busy = true ∧ cmpJobs s n = false) ∧
    (∃ (s : State) (ag : AgentId) (n : Nat) (v : BitVec 32), n < 8 ∧ WriteOpen s ag (Reg.off .cmpStreamCfg n 0) ∧
      cmpCfgOk (v &&& 0x3FFFF) = false) ∧
    (∃ (s : State) (ag : AgentId) (n : Nat), n < 8 ∧ WriteOpen s ag (Reg.off .cmpJobCmd n 0) ∧ cmpJobs s n = true ∧
      (cmpOf s n).queue.length < 16) ∧
    (∃ (s : State) (ag : AgentId) (n : Nat), n < 8 ∧ WriteOpen s ag (Reg.off .cmpJobCmd n 0) ∧ cmpJobs s n = false) ∧
    (∃ (s : State) (ag : AgentId) (n : Nat), n < 8 ∧ WriteOpen s ag (Reg.off .cmpJobCmd n 0) ∧ cmpJobs s n = true ∧
      16 ≤ (cmpOf s n).queue.length) ∧
    (∃ (s : State) (ag : AgentId) (n : Nat) (d : _), n < 8 ∧ WriteOpen s ag (Reg.off .cmpJobCmd n 0) ∧ (cmpOf s
      n).running = some d) :=
  ⟨⟨cmpUp, 0x51, 7, 0xFFFC0800, by decide +kernel⟩,
    ⟨cmpUp, 0x51, 7, 0xFFFFFFFF, by decide +kernel⟩,
    ⟨st186, 0x51, 7, by decide +kernel⟩,
    ⟨cmpUp, 0x51, 7, by decide +kernel⟩,
    ⟨st187, 0x51, 7, by decide +kernel⟩,
    ⟨st188, 0x51, 7, job0, by decide +kernel⟩⟩

theorem witness_CompressionCommandsComplete_3 :
    (∃ (s : State) (ag : AgentId) (n : Nat), n < 8 ∧ WriteOpen s ag (Reg.off .cmpJobCmd n 0) ∧ (cmpOf s n).running =
      none) ∧
    (∃ (s : State) (n : Nat) (d rest : _), n < 8 ∧ (cmpOf s n).queue = d :: rest ∧ (cmpOf s n).running = none ∧
      (cmpOf s n).results.length < 16 ∧ ustate s (cmpUnit n) = .running ∧ cmpJobs s n = true ∧ jobCheck s n d ≠ none) ∧
    (∃ (s : State) (n : Nat) (d rest : _), n < 8 ∧ (cmpOf s n).queue = d :: rest ∧ (cmpOf s n).running = none ∧
      (cmpOf s n).results.length < 16 ∧ ustate s (cmpUnit n) = .running ∧ cmpJobs s n = true ∧ jobCheck s n d = none) ∧
    (∃ (s : State) (n : Nat), n < 8 ∧ (((cmpOf s n).queue = [] ∨ (cmpOf s n).running ≠ none ∨ 16 ≤ (cmpOf s
      n).results.length ∨ ustate s (cmpUnit n) ≠ .running ∨ cmpJobs s n = false))) ∧
    (∃ (s : State) (n : Nat) (d src dst : _), n < 8 ∧ (cmpOf s n).running = some d ∧ jobCheck s n d = some (src, dst)
      ∧ rangeWaits s src (jobN d 6) = false ∧ ((jobOp d = 2 ∨ rangeWaits s dst (jobN d 10) = false))) ∧
    (∃ (s : State) (n : Nat) (d src dst : _), n < 8 ∧ (cmpOf s n).running = some d ∧ jobCheck s n d = some (src, dst)
      ∧ ((rangeWaits s src (jobN d 6) = true ∨ (jobOp d ≠ 2 ∧ rangeWaits s dst (jobN d 10) = true)))) :=
  ⟨⟨jobUp, 0x51, 7, by decide +kernel⟩,
    ⟨st189, 7, job0, [job0], by decide +kernel⟩,
    ⟨st190, 7, [3], [job0], by decide +kernel⟩,
    ⟨st191, 7, by decide +kernel⟩,
    ⟨st188, 7, job0, 0, 8, by decide +kernel⟩,
    ⟨st192, 7, job0, 0, 8, by decide +kernel⟩⟩

theorem witness_CompressionCommandsComplete_4 :
    (∃ (s : State) (n : Nat), n < 8 ∧ ustate s (cmpUnit n) ≠ .off ∧ (cmpOf s n).results = []) ∧
    (∃ (s : State) (n : Nat) (r rest k : _), n < 8 ∧ ustate s (cmpUnit n) ≠ .off ∧ (cmpOf s n).results = r :: rest ∧
      k < 4) ∧
    (∃ (s : State) (n : Nat), ((8 ≤ n ∨ ustate s (cmpUnit n) = .off))) :=
  ⟨⟨jobUp, 7, by decide +kernel⟩,
    ⟨st193, 7, [1, 2, 3, 4], ([[5]]), 3, by decide +kernel⟩,
    ⟨jobUp, 8, by decide +kernel⟩⟩

def st194 : State :=
  auxUp |> withAux (fun x => { x with cur := some (⟨31, 14, 1, false, [(0, 0, 0)]⟩ : AuxConv) })
def st195 : State :=
  auxUp |> setB .auxStatus 0 0 2 true |> withAux (fun x =>
    { x with cur := some (⟨31, 14, 1, false, [(0, 0, 0)]⟩ : AuxConv) })
def st196 : State :=
  auxUp |> withAux (fun x => { x with blk := [aen, aen] }) |> (fun s =>
    { s with time := { s.time with up := 2 ^ 70 } })
def st197 : State :=
  auxUp |> setB .auxStatus 0 0 2 true |> withAux (fun x => { x with ref := 1 })
def st198 : State :=
  auxUp |> withAux (fun x => { x with ref := 1 }) |> setB .auxStatus 0 0 1 true
theorem witness_ConverterCommandsComplete :
    (∃ (s : State) (ag : AgentId), WriteOpen s ag (Reg.off .auxCmd 0 0) ∧ ustate s 0x230 = .running ∧ getF s .auxConv
      0 0 0 2 = 1 ∧ s.aux.cur = none) ∧
    (∃ (s : State) (ag : AgentId), WriteOpen s ag (Reg.off .auxCmd 0 0) ∧ ((ustate s 0x230 ≠ .running ∨ getF s
      .auxConv 0 0 0 2 ≠ 1 ∨ s.aux.cur ≠ none)) ∧ s.mgt.log.length < auditSize) ∧
    (∃ (s : State) (k : _), s.aux.cur = some k ∧ k.channel < 32) ∧
    (∃ (s : State) (ag : AgentId), WriteOpen s ag (Reg.off .auxScan 0 0)) ∧
    (∃ (s : State) (ag : AgentId) (v : BitVec 32), WriteOpen s ag (Reg.off .auxConv 0 0) ∧ ustate s 0x230 = .running
      ∧ ((fld (v &&& 0x3F7F) 12 2 = 3 ∨ fld (v &&& 0x3F7F) 8 4 = 15))) ∧
    (∃ (s : State) (ag : AgentId) (v : BitVec 32), WriteOpen s ag (Reg.off .auxConv 0 0) ∧ ((ustate s 0x230 ≠
      .running ∨ (fld (v &&& 0x3F7F) 12 2 ≠ 3 ∧ fld (v &&& 0x3F7F) 8 4 ≠ 15))) ∧ s.aux.cur = none) :=
  ⟨⟨(auxUp |> setF .auxConv 0 0 2 5 31), 0x51, by decide +kernel⟩,
    ⟨st194, 0x51, by decide +kernel⟩,
    ⟨st195, ((⟨31, 14, 1, false, [(0, 0, 0)]⟩ : AuxConv)), by decide +kernel⟩,
    ⟨auxUp, 0x51, by decide +kernel⟩,
    ⟨auxUp, 0x51, 0xFFFFFFFF, by decide +kernel⟩,
    ⟨auxUp, 0x51, 0xFFFFEE7F, by decide +kernel⟩⟩

theorem witness_ConverterCommandsComplete_2 :
    (∃ (s : State) (ag : AgentId) (e r : _), WriteOpen s ag (Reg.off .auxCmd 0 0) ∧ s.aux.blk = e :: r) ∧
    (∃ (s : State) (ag : AgentId), WriteOpen s ag (Reg.off .auxCmd 0 0) ∧ s.aux.blk = []) ∧
    (∃ (s : State) (e r : _), auxFlushDue s = true ∧ s.aux.blk = e :: r) ∧
    (∃ (s : State), ((auxFlushDue s = false ∨ s.aux.blk = []))) ∧
    (∃ (s : State) (ag : AgentId) (k : _), WriteOpen s ag (Reg.off .auxCmd 0 0) ∧ k < 4) ∧
    (∃ (s : State), ustate s 0x230 ≠ .off ∧ ustate s 0x230 ≠ .gated ∧ ((s.aux.ref ≠ 1 ∨ getB s .auxStatus 0 0 2 =
      false))) :=
  ⟨⟨(auxUp |> withAux (fun x => { x with blk := [aen, aen] })), 0x51, aen, [aen], by decide +kernel⟩,
    ⟨auxUp, 0x51, by decide +kernel⟩,
    ⟨st196, aen, [aen], by decide +kernel⟩,
    ⟨auxUp, by decide +kernel⟩,
    ⟨(auxUp |> wr .auxCount 0 3 7), 0x51, 3, by decide +kernel⟩,
    ⟨auxUp, by decide +kernel⟩⟩

theorem witness_ConverterCommandsComplete_3 :
    (∃ (s : State), ((ustate s 0x230 = .off ∨ ustate s 0x230 = .gated ∨ (s.aux.ref = 1 ∧ getB s .auxStatus 0 0 2 =
      true)))) ∧
    (∃ (s : State) (out : Bool), ustate s 0x230 ≠ .off ∧ getB s .auxStatus 0 0 2 ≠ out ∧ s.aux.ref = 1) ∧
    (∃ (s : State) (out : Bool), ((ustate s 0x230 = .off ∨ getB s .auxStatus 0 0 2 = out))) ∧
    (∃ (s : State) (ag : AgentId) (v : BitVec 32), WriteOpen s ag (Reg.off .auxBufIdx 0 0) ∧ (getF s .auxBufIdx 0 0
      16 16 + 65536 - fld v 0 16) % 65536 ≤ 4096) ∧
    (∃ (s : State) (ag : AgentId) (v : BitVec 32), WriteOpen s ag (Reg.off .auxBufIdx 0 0) ∧ 4096 < (getF s
      .auxBufIdx 0 0 16 16 + 65536 - fld v 0 16) % 65536) :=
  ⟨⟨st197, by decide +kernel⟩,
    ⟨st198, true, by decide +kernel⟩,
    ⟨auxUp, false, by decide +kernel⟩,
    ⟨(auxUp |> wr .auxBufIdx 0 0 0x00050000), 0x51, 0xF005, by decide +kernel⟩,
    ⟨(auxUp |> wr .auxBufIdx 0 0 0x00050000), 0x51, 0xF004, by decide +kernel⟩⟩

def st199 : State :=
  up |> (fun s => { s with fuse := { s.fuse with trim := [(62, [48], true)] } })
def st200 : State :=
  up |> (fun s => { s with fuse := { s.fuse with trim := [(62, [48], false)] } })
theorem witness_CalibrationCommandsComplete :
    (∃ (s : State) (ag : AgentId) (b : Nat), WriteOpen s ag (Reg.off .calCmd 0 0) ∧ b < 128 ∧ s.calJob = none ∧
      calPresent s b = true ∧ b < 63 ∧ b ≠ 14 ∧ calStateOk s b = true) ∧
    (∃ (s : State) (ag : AgentId) (b : Nat), WriteOpen s ag (Reg.off .calCmd 0 0) ∧ b < 128 ∧ s.calJob ≠ none) ∧
    (∃ (s : State) (ag : AgentId) (b : Nat), WriteOpen s ag (Reg.off .calCmd 0 0) ∧ b < 128 ∧ s.calJob = none ∧
      calPresent s b = false) ∧
    (∃ (s : State) (ag : AgentId) (b : Nat), WriteOpen s ag (Reg.off .calCmd 0 0) ∧ b < 128 ∧ s.calJob = none ∧
      calPresent s b = true ∧ ((b = 14 ∨ 63 ≤ b))) ∧
    (∃ (s : State) (ag : AgentId) (b : Nat), WriteOpen s ag (Reg.off .calCmd 0 0) ∧ b < 128 ∧ s.calJob = none ∧
      calPresent s b = true ∧ b ≠ 14 ∧ b < 63 ∧ calStateOk s b = false) ∧
    (∃ (s : State) (ag : AgentId) (b : Nat) (r : List Word), WriteOpen s ag (Reg.off .calCmd 0 0) ∧ s.calJob = none ∧
      calPresent s b = true ∧ calStateOk s b = true ∧ r = (List.range 32).map (fun i => rd s .calStage 0 i) ∧
      calPlausible s b r = true) :=
  ⟨⟨up, 0x51, 62, by decide +kernel⟩,
    ⟨({ up with calJob := some ⟨62, 0x51⟩ }), 0x51, 127, by decide +kernel⟩,
    ⟨up, 0x51, 65, by decide +kernel⟩,
    ⟨up, 0x51, 14, by decide +kernel⟩,
    ⟨(up |> setB .hostLink 0 0 0 true), 0x51, 62, by decide +kernel⟩,
    ⟨(up |> wr .calStage 0 0 48), 0x51, 62, ((List.range 32).map (fun i => rd (up |> wr .calStage 0 0 48) .calStage 0
      i)), by decide +kernel⟩⟩

theorem witness_CalibrationCommandsComplete_2 :
    (∃ (s : State) (ag : AgentId) (b : Nat) (r : List Word), WriteOpen s ag (Reg.off .calCmd 0 0) ∧ s.calJob = none ∧
      calPresent s b = true ∧ calStateOk s b = true ∧ r = (List.range 32).map (fun i => rd s .calStage 0 i) ∧
      calPlausible s b r = false) ∧
    (∃ (s : State) (ag : AgentId) (b : Nat) (r : List Word), WriteOpen s ag (Reg.off .calCmd 0 0) ∧ s.calJob = none ∧
      calPresent s b = true ∧ calStateOk s b = true ∧ r = (calFuse s b).1 ∧ (calFuse s b).2 = true ∧ calPlausible s b
      r = true) ∧
    (∃ (s : State) (ag : AgentId) (b : Nat) (r : List Word), WriteOpen s ag (Reg.off .calCmd 0 0) ∧ s.calJob = none ∧
      calPresent s b = true ∧ calStateOk s b = true ∧ r = (calFuse s b).1 ∧ (((calFuse s b).2 = false ∨ calPlausible
      s b r = false))) ∧
    (∃ (s : State) (ag : AgentId) (j : _), WriteOpen s ag (Reg.off .calCmd 0 0) ∧ s.calJob = some j) ∧
    (∃ (s : State) (words : List Word) (j r : _), s.calJob = some j ∧ r = (if j.block = 12 then ((padTo 32 0
      words).set 0 ((calRecOf s 12).getD 0 0)).set 1 ((calRecOf s 12).getD 1 0) else padTo 32 0 words) ∧ calPlausible
      s j.block r = true) ∧
    (∃ (s : State) (words : List Word) (j r : _), s.calJob = some j ∧ r = (if j.block = 12 then ((padTo 32 0
      words).set 0 ((calRecOf s 12).getD 0 0)).set 1 ((calRecOf s 12).getD 1 0) else padTo 32 0 words) ∧ calPlausible
      s j.block r = false) :=
  ⟨⟨(up |> wr .calStage 0 0 49), 0x51, 62, ((List.range 32).map (fun i => rd (up |> wr .calStage 0 0 49) .calStage 0
      i)), by decide +kernel⟩,
    ⟨st199, 0x51, 62, ((calFuse st199 62).1), by decide +kernel⟩,
    ⟨st200, 0x51, 62, ((calFuse st200 62).1), by decide +kernel⟩,
    ⟨({ up with calJob := some ⟨62, 0x51⟩ }), 0x51, ⟨62, 0x51⟩, by decide +kernel⟩,
    ⟨({ up with calJob := some ⟨62, 0x51⟩ }), [16], ⟨62, 0x51⟩, (padTo 32 0 [16]), by decide +kernel⟩,
    ⟨({ up with calJob := some ⟨62, 0x51⟩ }), [15], ⟨62, 0x51⟩, (padTo 32 0 [15]), by decide +kernel⟩⟩

def st201 : State :=
  slUp |> withTime (fun t => { t with sec := 5, mode := .coarse })
def st202 : State :=
  slUp |> withTime (fun t => { t with sec := 5, mode := .coarse }) |> withPwr (fun z =>
    { z with runs := [⟨255, 1, [0x040], true, false⟩] })
def st203 : State :=
  slUp |> withTime (fun t => { t with sec := 5, mode := .coarse }) |> setF .globalPlanStatus 0 0 0 3 6
def st204 : State :=
  slUp |> withTime (fun t => { t with sec := 5, mode := .coarse }) |> setF .globalPlanStatus 0 0 0 3 4 |> withPlan
    (fun z => { z with deferred := [(255, 1)] })
def st205 : State :=
  slUp |> withTime (fun t => { t with sec := 5, mode := .coarse }) |> setB .pwrSchedEn 0 7 31 false
def st206 : State :=
  slUp |> withTime (fun t => { t with sec := 5, mode := .coarse }) |> withPwr (fun p =>
    { p with runs := [⟨255, 1, [0x040], true, false⟩] }) |> on 0x040 .running
def st207 : State :=
  slUp |> withPwr (fun p => { p with runs := [⟨255, 1, [0x040], true, false⟩] })
def st208 : State :=
  slUp |> withPwr (fun p => { p with asleep := true, aonSched := [sch 255] , aonEn := List.replicate 8 0xFFFFFFFF })
    |> withTime (fun t => { t with sec := 4 })
def st209 : State :=
  slUp |> withPwr (fun p => { p with runEnd := some 0, fromSleep := true }) |> setB .pwrSleepCfg 0 0 0 true
def st210 : State :=
  slUp |> withPwr (fun p => { p with runEnd := some 0, fromSleep := true }) |> setB .pwrSleepCfg 0 0 0 true |> (fun s
    => { s with time := { s.time with up := 2 ^ 80 } }) |> on 0x040 .running
def st211 : State :=
  slUp |> withPwr (fun p => { p with runEnd := some 0, fromSleep := true }) |> setB .pwrSleepCfg 0 0 0 true |> setF
    .hostFlumeCfg 4095 0 0 1 1 |> setF .hostFlumeStatus 4095 0 0 2 1
def st212 : State :=
  slUp |> withPwr (fun p => { p with runEnd := some 0, fromSleep := true }) |> setB .pwrSleepCfg 0 0 0 true |> on
    0x040 .running
theorem witness_PowerCommandsComplete :
    (∃ (s : State) (e d : Nat) (p : PlanSched), (s.pwr.sched.find? fun p => p.id == e) = some p ∧ dueCount s p ≠ 0 ∧
      ((s.time.mode = .full ∨ s.time.mode = .coarse)) ∧ d = dueTime p (schedServed s e + dueCount s p - 1) ∧ loadLate
      s = false ∧ schedOn s e = true ∧ (s.pwr.runs.any fun r => r.entry == e) = false) ∧
    (∃ (s : State) (e d : Nat) (p : PlanSched), (s.pwr.sched.find? fun p => p.id == e) = some p ∧ dueCount s p ≠ 0 ∧
      ((s.time.mode = .full ∨ s.time.mode = .coarse)) ∧ d = dueTime p (schedServed s e + dueCount s p - 1) ∧ loadLate
      s = false ∧ schedOn s e = true ∧ (s.pwr.runs.any fun r => r.entry == e) = true) ∧
    (∃ (s : State) (e d : Nat) (p : PlanSched), (s.pwr.sched.find? fun p => p.id == e) = some p ∧ dueCount s p ≠ 0 ∧
      ((s.time.mode = .full ∨ s.time.mode = .coarse)) ∧ d = dueTime p (schedServed s e + dueCount s p - 1) ∧ loadLate
      s = true ∧ schedOn s e = true ∧ (s.plan.deferred.any fun x => x.1 == e) = false) ∧
    (∃ (s : State) (e d : Nat) (p : PlanSched), (s.pwr.sched.find? fun p => p.id == e) = some p ∧ dueCount s p ≠ 0 ∧
      ((s.time.mode = .full ∨ s.time.mode = .coarse)) ∧ d = dueTime p (schedServed s e + dueCount s p - 1) ∧ loadLate
      s = true ∧ schedOn s e = true ∧ (s.plan.deferred.any fun x => x.1 == e) = true) ∧
    (∃ (s : State) (e d : Nat) (p : PlanSched), (s.pwr.sched.find? fun p => p.id == e) = some p ∧ dueCount s p ≠ 0 ∧
      ((s.time.mode = .full ∨ s.time.mode = .coarse)) ∧ d = dueTime p (schedServed s e + dueCount s p - 1) ∧ schedOn
      s e = false) ∧
    (∃ (s : State) (e : Nat), (((s.pwr.sched.find? fun p => p.id == e) = none ∨ (s.time.mode ≠ .full ∧ s.time.mode ≠
      .coarse) ∨ (∀ p, (s.pwr.sched.find? fun p => p.id == e) = some p → dueCount s p = 0)))) :=
  ⟨⟨st201, 255, (dueTime (sch 255) (schedServed st201 255 + dueCount st201 (sch 255) - 1)), (sch 255),
      by decide +kernel⟩,
    ⟨st202, 255, (dueTime (sch 255) (schedServed st202 255 + dueCount st202 (sch 255) - 1)), (sch 255),
      by decide +kernel⟩,
    ⟨st203, 255, (dueTime (sch 255) (schedServed st203 255 + dueCount st203 (sch 255) - 1)), (sch 255),
      by decide +kernel⟩,
    ⟨st204, 255, (dueTime (sch 255) (schedServed st204 255 + dueCount st204 (sch 255) - 1)), (sch 255),
      by decide +kernel⟩,
    ⟨st205, 255, (dueTime (sch 255) (schedServed st205 255 + dueCount st205 (sch 255) - 1)), (sch 255),
      by decide +kernel⟩,
    ⟨(slUp |> withTime (fun t => { t with sec := 5, mode := .rc })), 255, by decide +kernel⟩⟩

theorem witness_PowerCommandsComplete_2 :
    (∃ (s : State) (e : Nat) (r : _), (s.pwr.runs.find? fun r => r.entry == e) = some r ∧ r.draining = false ∧ r.stop
      ≤ nowTotal s) ∧
    (∃ (s : State) (e : Nat) (r : _), (s.pwr.runs.find? fun r => r.entry == e) = some r ∧ ((r.draining = true ∨
      nowTotal s < r.stop))) ∧
    (∃ (s : State) (e : Nat), (s.pwr.runs.find? fun r => r.entry == e) = none) ∧
    (∃ (s : State) (ag : AgentId), WriteOpen s ag (Reg.off .pwrCmd 0 0) ∧ sleepCond s = none) ∧
    (∃ (s : State) (ag : AgentId) (c : _), WriteOpen s ag (Reg.off .pwrCmd 0 0) ∧ sleepCond s = some c) ∧
    (∃ (s : State), s.pwr.asleep = true ∧ wakeDue s = true) :=
  ⟨⟨st206, 255, (⟨255, 1, [0x040], true, false⟩), by decide +kernel⟩,
    ⟨st207, 255, (⟨255, 1, [0x040], true, false⟩), by decide +kernel⟩,
    ⟨slUp, 255, by decide +kernel⟩,
    ⟨slUp, 0x51, by decide +kernel⟩,
    ⟨(slUp |> on 0x040 .running), 0x51, 0, by decide +kernel⟩,
    ⟨st208, by decide +kernel⟩⟩

theorem witness_PowerCommandsComplete_3 :
    (∃ (s : State), ((s.pwr.asleep = false ∨ wakeDue s = false))) ∧
    (∃ (s : State) (e h : Nat), s.pwr.runEnd = some e ∧ getB s .pwrSleepCfg 0 0 0 = true ∧ s.pwr.fromSleep = true ∧
      s.pwr.asleep = false ∧ h = e + max 1 (getF s .pwrSleepCfg 0 0 16 16) * 2 ^ 64 ∧ sleepCond s = none ∧
      ((flumesClosed s = true ∨ h ≤ upTotal s))) ∧
    (∃ (s : State) (e h : Nat) (c : _), s.pwr.runEnd = some e ∧ getB s .pwrSleepCfg 0 0 0 = true ∧ s.pwr.fromSleep =
      true ∧ s.pwr.asleep = false ∧ h = e + max 1 (getF s .pwrSleepCfg 0 0 16 16) * 2 ^ 64 ∧ sleepCond s = some c ∧ h
      ≤ upTotal s) ∧
    (∃ (s : State) (e h : Nat), s.pwr.runEnd = some e ∧ getB s .pwrSleepCfg 0 0 0 = true ∧ s.pwr.fromSleep = true ∧
      s.pwr.asleep = false ∧ h = e + max 1 (getF s .pwrSleepCfg 0 0 16 16) * 2 ^ 64 ∧ sleepCond s = none ∧
      flumesClosed s = false ∧ upTotal s < h) ∧
    (∃ (s : State) (e h : Nat), s.pwr.runEnd = some e ∧ getB s .pwrSleepCfg 0 0 0 = true ∧ s.pwr.fromSleep = true ∧
      s.pwr.asleep = false ∧ h = e + max 1 (getF s .pwrSleepCfg 0 0 16 16) * 2 ^ 64 ∧ sleepCond s ≠ none ∧ upTotal s
      < h) ∧
    (∃ (s : State), ((s.pwr.runEnd = none ∨ getB s .pwrSleepCfg 0 0 0 = false ∨ s.pwr.fromSleep = false ∨
      s.pwr.asleep = true))) :=
  ⟨⟨slUp, by decide +kernel⟩,
    ⟨st209, 0, (0 + max 1 (getF st209 .pwrSleepCfg 0 0 16 16) * 2 ^ 64), by decide +kernel⟩,
    ⟨st210, 0, (0 + max 1 (getF st210 .pwrSleepCfg 0 0 16 16) * 2 ^ 64), 0, by decide +kernel⟩,
    ⟨st211, 0, (0 + max 1 (getF st211 .pwrSleepCfg 0 0 16 16) * 2 ^ 64), by decide +kernel⟩,
    ⟨st212, 0, (0 + max 1 (getF st212 .pwrSleepCfg 0 0 16 16) * 2 ^ 64), by decide +kernel⟩,
    ⟨slUp, by decide +kernel⟩⟩

theorem witness_PowerCommandsComplete_4 :
    (∃ (s : State) (dies : List Int), mainUp s = true ∧ (∀ x ∈ thermals dies s, x ≤ 115) ∧ (∃ x ∈ thermals dies s,
      105 < x) ∧ getF s .pwrStatus 0 0 0 2 ≠ 1) ∧
    (∃ (s : State) (dies : List Int), mainUp s = true ∧ (∀ x ∈ thermals dies s, x ≤ 115) ∧ (∀ x ∈ thermals dies s, x
      ≤ 100) ∧ getF s .pwrStatus 0 0 0 2 = 1) ∧
    (∃ (s : State) (dies : List Int), mainUp s = true ∧ (∀ x ∈ thermals dies s, x ≤ 115) ∧ (∀ x ∈ thermals dies s, x
      ≤ 105) ∧ (((∃ x ∈ thermals dies s, 100 < x) ∨ getF s .pwrStatus 0 0 0 2 ≠ 1))) ∧
    (∃ (s : State) (dies : List Int), mainUp s = true ∧ (∃ x ∈ thermals dies s, 115 < x)) ∧
    (∃ (s : State), mainUp s = false) :=
  ⟨⟨slUp, [106, 115], by decide +kernel⟩,
    ⟨(slUp |> setF .pwrStatus 0 0 0 2 1), [100], by decide +kernel⟩,
    ⟨(slUp |> setF .pwrStatus 0 0 0 2 1), [101], by decide +kernel⟩,
    ⟨slUp, [0, 0, 0, 0, 0, 0, 0, 116], by decide +kernel⟩,
    ⟨(State.reset |> withPwr (fun p => { p with asleep := true })), by decide +kernel⟩⟩

def st213 : State :=
  hbUp |> setF .hbmStackStatus 1 0 0 3 2 |> (fun s => { s with hbm := { s.hbm with held := some (0, false) } })
def st214 : State :=
  hbUp |> setF .hbmStackStatus 0 0 0 3 4 |> (fun s => { s with hbm := { s.hbm with change := some 3 } })
def st215 : State :=
  hbUp |> withPlan (fun p => { p with regions := [⟨5, 0x103, 0, 64, 4096, 1⟩] })  |> dlv 95 1
    [({ itm 1023 with src := 0x103, stream := 2, payload := [0x00050001, 32, 4064, 0, 7, 0, 0, 0] ++ List.replicate 9 0xFFFFFFFF })]
def st216 : State :=
  hbUp |> withPlan (fun p => { p with regions := [⟨5, 0x103, 0, 64, 4096, 1⟩] }) |> setF .hbmStackStatus 0 0 0 3 5 |>
    dlv 95 1
    [({ itm 1023 with src := 0x103, stream := 2, payload := [0x00050001, 32, 4064, 0, 7, 0, 0, 0] ++ List.replicate 8 0xFFFFFFFF })]
def st217 : State :=
  hbUp |> withPlan (fun p => { p with regions := [⟨5, 0x040, 0, 64, 4096, 1⟩] })  |> dlv 95 1
    [({ itm 1023 with src := 0x040, stream := 2, payload := [0x00050001, 32, 4096, 0, 7, 0, 0, 0] ++ List.replicate 8 0xFFFFFFFF })]
def st218 : State :=
  hbUp |> withPlan (fun p => { p with regions := [⟨5, 0x040, 0, 64, 4096, 1⟩] })  |> dlv 95 1
    [({ itm 1023 with src := 0x040, stream := 2, payload := [0x00050002, 64, 32, 0, 7, 0, 0, 0] ++ List.replicate 0 0xFFFFFFFF })]
def st219 : State :=
  hbUp |> withPlan (fun p => { p with regions := [⟨5, 0x040, 0, 64, 4096, 1⟩] })  |> dlv 95 1
    [({ itm 1023 with src := 0x040, stream := 2, payload := [0x00040002, 64, 32, 0, 7, 0, 0, 0] ++ List.replicate 0 0xFFFFFFFF })]
def st220 : State :=
  hbUp |> withPlan (fun p => { p with regions := [⟨5, 0x040, 0, 64, 4096, 1⟩] })  |> dlv 95 1
    [({ itm 1023 with src := 0x040, stream := 2, payload := [0x00050001, 33, 32, 0, 7, 0, 0, 0] ++ List.replicate 8 0xFFFFFFFF })]
def st221 : State :=
  hbUp |> withPlan (fun p => { p with regions := [⟨5, 0x040, 0, 64, 4096, 1⟩] })  |> dlv 95 1
    [({ itm 1023 with src := 0x040, stream := 2, payload := [0x00050102, 64, 32, 0, 7, 0, 0, 0] ++ List.replicate 8 0xFFFFFFFF })]
def st222 : State :=
  hbUp |> setF .hbmStackStatus 0 0 0 3 4 |> setF .hbmStackStatus 1 0 0 3 4 |> dlv 95 1
    [({ itm 5 with payload := [0x00050001, 32, 0] } : Item)]
def st223 : State :=
  hbUp |> setF .hbmStackStatus 1 0 0 3 5 |> setF .hbmStackStatus 1 0 14 4 4 |> on 0x1E0 .frozen
def st224 : State :=
  hbUp |> setF .hbmStackStatus 1 0 0 3 5 |> withSyn 2 (fun y => { y with lock := 1 })
def st225 : State :=
  hbUp |> withPlan (fun p =>
    { p with running := some (⟨List.replicate 16 0, false, 1024, [], [], [], [], 0, 1, [], [], [], 2, 0, [], [], 0, 5⟩ : PlanImg) })
def st226 : State :=
  hbUp |> withPlan (fun p =>
    { p with running := some (⟨List.replicate 16 0, false, 1024, [], [], [], [], 0, 1, [], [], [], 2, 0, [], [], 0, 5⟩ : PlanImg) })
    |> setB .hbmPcStatus 63 0 2 true
def st227 : State :=
  hbUp |> withPlan (fun p =>
    { p with running := some (⟨List.replicate 16 0, false, 1024, [], [], [], [], 0, 1, [], [], [], 1, 0, [], [], 0, 5⟩ : PlanImg) })
def st228 : State :=
  hbUp |> winSet |> setF .hbmStackStatus 0 0 0 3 4 |> setF .hbmStackStatus 1 0 0 3 4
theorem witness_MemoryCommandsComplete :
    (∃ (s : State) (k : Nat), k < 2 ∧ sstate s k = 2 ∧ s.hbm.held = none) ∧
    (∃ (s : State) (k : Nat), k < 2 ∧ sstate s k = 4 ∧ s.hbm.held = none) ∧
    (∃ (s : State) (k : Nat), k < 2 ∧ ((sstate s k = 2 ∨ sstate s k = 4))) ∧
    (∃ (s : State) (k : Nat), k < 2 ∧ sstate s k ≠ 2 ∧ sstate s k ≠ 4 ∧ bootPhase s ≠ 2) ∧
    (∃ (s : State) (ag : AgentId) (v : BitVec 32), WriteOpen s ag (Reg.off .hbmFreq 0 0) ∧ freqBusy s = false ∧
      freqRefusal s (fld v 0 2) (bit v 2) = none ∧ fld v 0 2 ≠ getF s .hbmFreq 0 0 4 2) ∧
    (∃ (s : State) (ag : AgentId) (v : BitVec 32), WriteOpen s ag (Reg.off .hbmFreq 0 0) ∧ freqBusy s = false ∧
      freqRefusal s (fld v 0 2) (bit v 2) = none ∧ fld v 0 2 = getF s .hbmFreq 0 0 4 2) :=
  ⟨⟨(hbUp |> setF .hbmStackStatus 1 0 0 3 2), 1, by decide +kernel⟩,
    ⟨(hbUp |> setF .hbmStackStatus 1 0 0 3 4), 1, by decide +kernel⟩,
    ⟨st213, 1, by decide +kernel⟩,
    ⟨hbUp, 1, by decide +kernel⟩,
    ⟨hbUp, 0x51, 0xFFFFFFF3, by decide +kernel⟩,
    ⟨hbUp, 0x51, 0, by decide +kernel⟩⟩

theorem witness_MemoryCommandsComplete_2 :
    (∃ (s : State) (ag : AgentId) (v : BitVec 32) (c : _), WriteOpen s ag (Reg.off .hbmFreq 0 0) ∧ freqBusy s = false
      ∧ freqRefusal s (fld v 0 2) (bit v 2) = some c) ∧
    (∃ (s : State) (ag : AgentId), WriteOpen s ag (Reg.off .hbmFreq 0 0) ∧ freqBusy s = true) ∧
    (∃ (s : State) (rate : _), s.hbm.change = some rate ∧ rate < 4 ∧ s.hbm.held = none) ∧
    (∃ (s : State), s.hbm.change = none) ∧
    (∃ (s u : State) (slice stream off : Nat) (it : Item) (w0 w1 w2 w3 w4 : Word) (data : List Word) (r : _),
      takeDelivered (80 + slice) stream s = some (it, u) ∧ itemWaits u slice stream it = false ∧ it.payload = w0 ::
      w1 :: w2 :: w3 :: w4 :: 0 :: 0 :: 0 :: data ∧ off = w2.toNat + 2 ^ 32 * w3.toNat ∧ fld w0 0 16 = 1 ∧ 32 ≤
      w1.toNat ∧ w1.toNat ≤ 65536 ∧ w1.toNat % 32 = 0 ∧ off % 32 = 0 ∧ w1.toNat ≤ 4 * data.length ∧ regionById s (fld
      w0 16 16) = some r ∧ mayAccess s it.src r = true ∧ off + w1.toNat ≤ r.size ∧ rangeFrozen s (r.base + off)
      w1.toNat = false) ∧
    (∃ (s u : State) (slice stream off : Nat) (it : Item) (w0 w1 w2 w3 w4 : Word) (data : List Word) (r : _),
      takeDelivered (80 + slice) stream s = some (it, u) ∧ itemWaits u slice stream it = false ∧ it.payload = w0 ::
      w1 :: w2 :: w3 :: w4 :: 0 :: 0 :: 0 :: data ∧ off = w2.toNat + 2 ^ 32 * w3.toNat ∧ fld w0 0 16 = 1 ∧ 32 ≤
      w1.toNat ∧ w1.toNat ≤ 65536 ∧ w1.toNat % 32 = 0 ∧ off % 32 = 0 ∧ w1.toNat ≤ 4 * data.length ∧ regionById s (fld
      w0 16 16) = some r ∧ mayAccess s it.src r = true ∧ off + w1.toNat ≤ r.size ∧ rangeFrozen s (r.base + off)
      w1.toNat = true) :=
  ⟨⟨(hbUp |> setF .hbmStackStatus 0 0 0 3 5), 0x51, 3, 4, by decide +kernel⟩,
    ⟨(hbUp |> setF .hbmStackStatus 0 0 0 3 2), 0x51, by decide +kernel⟩,
    ⟨st214, 3, by decide +kernel⟩,
    ⟨hbUp, by decide +kernel⟩,
    ⟨st215, (taken 95 1 st215), 15, 1, 4064,
      ({ itm 1023 with src := 0x103, stream := 2, payload := [0x00050001, 32, 4064, 0, 7, 0, 0, 0] ++ List.replicate 9 0xFFFFFFFF }),
      0x00050001, 32, 4064, 0, 7, (List.replicate 9 0xFFFFFFFF), ⟨5, 0x103, 0, 64, 4096, 1⟩, by decide +kernel⟩,
    ⟨st216, (taken 95 1 st216), 15, 1, 4064,
      ({ itm 1023 with src := 0x103, stream := 2, payload := [0x00050001, 32, 4064, 0, 7, 0, 0, 0] ++ List.replicate 8 0xFFFFFFFF }),
      0x00050001, 32, 4064, 0, 7, (List.replicate 8 0xFFFFFFFF), ⟨5, 0x103, 0, 64, 4096, 1⟩, by decide +kernel⟩⟩

theorem witness_MemoryCommandsComplete_3 :
    (∃ (s u : State) (slice stream off : Nat) (it : Item) (w0 w1 w2 w3 w4 : Word) (data : List Word), takeDelivered
      (80 + slice) stream s = some (it, u) ∧ itemWaits u slice stream it = false ∧ it.payload = w0 :: w1 :: w2 :: w3
      :: w4 :: 0 :: 0 :: 0 :: data ∧ off = w2.toNat + 2 ^ 32 * w3.toNat ∧ fld w0 0 16 = 1 ∧ 32 ≤ w1.toNat ∧ w1.toNat
      ≤ 65536 ∧ w1.toNat % 32 = 0 ∧ off % 32 = 0 ∧ w1.toNat ≤ 4 * data.length ∧ ((∀ r, regionById s (fld w0 16 16) =
      some r → mayAccess s it.src r = false ∨ r.size < off + w1.toNat))) ∧
    (∃ (s u : State) (slice stream off : Nat) (it : Item) (w0 w1 w2 w3 w4 : Word) (data : List Word) (r x : _),
      takeDelivered (80 + slice) stream s = some (it, u) ∧ itemWaits u slice stream it = false ∧ it.payload = w0 ::
      w1 :: w2 :: w3 :: w4 :: 0 :: 0 :: 0 :: data ∧ off = w2.toNat + 2 ^ 32 * w3.toNat ∧ fld w0 0 16 = 2 ∧ 32 ≤
      w1.toNat ∧ w1.toNat ≤ 65536 ∧ w1.toNat % 32 = 0 ∧ off % 32 = 0 ∧ regionById s (fld w0 16 16) = some r ∧
      mayAccess s it.src r = true ∧ off + w1.toNat ≤ r.size ∧ x = hbmRead (r.base + off) w1.toNat u) ∧
    (∃ (s u : State) (slice stream off : Nat) (it : Item) (w0 w1 w2 w3 w4 : Word) (data : List Word), takeDelivered
      (80 + slice) stream s = some (it, u) ∧ itemWaits u slice stream it = false ∧ it.payload = w0 :: w1 :: w2 :: w3
      :: w4 :: 0 :: 0 :: 0 :: data ∧ off = w2.toNat + 2 ^ 32 * w3.toNat ∧ fld w0 0 16 = 2 ∧ 32 ≤ w1.toNat ∧ w1.toNat
      ≤ 65536 ∧ w1.toNat % 32 = 0 ∧ off % 32 = 0 ∧ ((∀ r, regionById s (fld w0 16 16) = some r → mayAccess s it.src r
      = false ∨ r.size < off + w1.toNat))) ∧
    (∃ (s u : State) (slice stream off : Nat) (it : Item) (w0 w1 w2 w3 w4 : Word) (data : List Word), takeDelivered
      (80 + slice) stream s = some (it, u) ∧ itemWaits u slice stream it = false ∧ it.payload = w0 :: w1 :: w2 :: w3
      :: w4 :: 0 :: 0 :: 0 :: data ∧ off = w2.toNat + 2 ^ 32 * w3.toNat ∧ (((fld w0 0 16 ≠ 1 ∧ fld w0 0 16 ≠ 2) ∨
      w1.toNat < 32 ∨ 65536 < w1.toNat ∨ w1.toNat % 32 ≠ 0 ∨ off % 32 ≠ 0)) ∧ fld w0 0 8 = 1) ∧
    (∃ (s u : State) (slice stream off : Nat) (it : Item) (w0 w1 w2 w3 w4 : Word) (data : List Word), takeDelivered
      (80 + slice) stream s = some (it, u) ∧ itemWaits u slice stream it = false ∧ it.payload = w0 :: w1 :: w2 :: w3
      :: w4 :: 0 :: 0 :: 0 :: data ∧ off = w2.toNat + 2 ^ 32 * w3.toNat ∧ (((fld w0 0 16 ≠ 1 ∧ fld w0 0 16 ≠ 2) ∨
      w1.toNat < 32 ∨ 65536 < w1.toNat ∨ w1.toNat % 32 ≠ 0 ∨ off % 32 ≠ 0)) ∧ fld w0 0 8 ≠ 1) ∧
    (∃ (s : State) (slice stream : Nat) (it u : _), takeDelivered (80 + slice) stream s = some (it, u) ∧ itemWaits u
      slice stream it = true) :=
  ⟨⟨st217, (taken 95 1 st217), 15, 1, 4096,
      ({ itm 1023 with src := 0x040, stream := 2, payload := [0x00050001, 32, 4096, 0, 7, 0, 0, 0] ++ List.replicate 8 0xFFFFFFFF }),
      0x00050001, 32, 4096, 0, 7, (List.replicate 8 0xFFFFFFFF), by decide +kernel⟩,
    ⟨st218, (taken 95 1 st218), 15, 1, 32,
      ({ itm 1023 with src := 0x040, stream := 2, payload := [0x00050002, 64, 32, 0, 7, 0, 0, 0] ++ List.replicate 0 0xFFFFFFFF }),
      0x00050002, 64, 32, 0, 7, (List.replicate 0 0xFFFFFFFF), ⟨5, 0x040, 0, 64, 4096, 1⟩, (hbmRead ((⟨5, 0x040, 0,
      64, 4096, 1⟩ : PlanRegion).base + 32) (64 : Word).toNat (taken 95 1 st218)), by decide +kernel⟩,
    ⟨st219, (taken 95 1 st219), 15, 1, 32,
      ({ itm 1023 with src := 0x040, stream := 2, payload := [0x00040002, 64, 32, 0, 7, 0, 0, 0] ++ List.replicate 0 0xFFFFFFFF }),
      0x00040002, 64, 32, 0, 7, (List.replicate 0 0xFFFFFFFF), by decide +kernel⟩,
    ⟨st220, (taken 95 1 st220), 15, 1, 32,
      ({ itm 1023 with src := 0x040, stream := 2, payload := [0x00050001, 33, 32, 0, 7, 0, 0, 0] ++ List.replicate 8 0xFFFFFFFF }),
      0x00050001, 33, 32, 0, 7, (List.replicate 8 0xFFFFFFFF), by decide +kernel⟩,
    ⟨st221, (taken 95 1 st221), 15, 1, 32,
      ({ itm 1023 with src := 0x040, stream := 2, payload := [0x00050102, 64, 32, 0, 7, 0, 0, 0] ++ List.replicate 8 0xFFFFFFFF }),
      0x00050102, 64, 32, 0, 7, (List.replicate 8 0xFFFFFFFF), by decide +kernel⟩,
    ⟨st222, 15, 1, (({ itm 5 with payload := [0x00050001, 32, 0] } : Item)), (taken 95 1 st222), by decide +kernel⟩⟩

theorem witness_MemoryCommandsComplete_4 :
    (∃ (s : State) (slice stream : Nat), takeDelivered (80 + slice) stream s = none) ∧
    (∃ (s : State) (ag : AgentId) (k : Nat), k < 2 ∧ WriteOpen s ag (Reg.off .hbmStackCmd k 0) ∧ sstate s k = 5 ∧
      (synOf s 2).lock = 2) ∧
    (∃ (s : State) (ag : AgentId) (k : Nat), k < 2 ∧ WriteOpen s ag (Reg.off .hbmStackCmd k 0) ∧ sstate s k = 5 ∧
      (synOf s 2).lock ≠ 2) ∧
    (∃ (s : State) (ag : AgentId) (k : Nat), k < 2 ∧ WriteOpen s ag (Reg.off .hbmStackCmd k 0) ∧ sstate s k ≠ 5) ∧
    (∃ (s : State) (k m : Nat) (x : Int), stackPresent s k = true ∧ m = refMult (getF s .hbmStackStatus k 0 12 2) x ∧
      m ≠ getF s .hbmStackStatus k 0 12 2) ∧
    (∃ (s : State) (k : Nat), stackPresent s k = false) :=
  ⟨⟨hbUp, 15, 1, by decide +kernel⟩,
    ⟨st223, 0x20, 1, by decide +kernel⟩,
    ⟨st224, 0x20, 1, by decide +kernel⟩,
    ⟨hbUp, 0x20, 1, by decide +kernel⟩,
    ⟨hbUp, 1, 2, 96, by decide +kernel⟩,
    ⟨hbUp, 2, by decide +kernel⟩⟩

theorem witness_MemoryCommandsComplete_5 :
    (∃ (s : State) (p : Nat) (placed : List Nat) (b : _), p < 64 ∧ sstate s (p / 32) = 3 ∧ ((∀ b, b < 48 → bankDebt s
      (p * 48 + b) + 1 - (placed.filter fun x => x == b).length < 8)) ∧ b < 48) ∧
    (∃ (s : State) (p : Nat) (placed : List Nat) (b k : _), p < 64 ∧ sstate s (p / 32) = 3 ∧ b < 48 ∧ 8 ≤ bankDebt s
      (p * 48 + b) + 1 - (placed.filter fun x => x == b).length ∧ k < 48) ∧
    (∃ (s : State) (p : Nat), p < 64 ∧ sstate s (p / 32) ≠ 3) ∧
    (∃ (s : State) (ag : AgentId), WriteOpen s ag (Reg.off .hbmRdCfg 0 0)) ∧
    (∃ (s : State) (p : Nat) (i : _), p < 64 ∧ s.plan.running = some i ∧ i.powerFlags.testBit 1 = true ∧ getB s
      .hbmPcStatus p 0 2 = false ∧ sstate s (p / 32) = 3 ∧ ustate s (pcUnit p) = .running) ∧
    (∃ (s : State) (p : Nat), p < 64 ∧ ((s.plan.running = none ∨ getB s .hbmPcStatus p 0 2 = true ∨ sstate s (p / 32)
      ≠ 3 ∨ ustate s (pcUnit p) ≠ .running))) :=
  ⟨⟨(hbUp |> setDebt (63 * 48 + 47) 8), 63, [1, 1, 47, 47], 47, by decide +kernel⟩,
    ⟨(hbUp |> setDebt (63 * 48 + 47) 7), 63, [1], 47, 0, by decide +kernel⟩,
    ⟨(hbUp |> setF .hbmStackStatus 1 0 0 3 2), 63, by decide +kernel⟩,
    ⟨hbUp, 0x51, by decide +kernel⟩,
    ⟨st225, 63, ((⟨List.replicate 16 0, false, 1024, [], [], [], [], 0, 1, [], [], [], 2, 0, [], [], 0, 5⟩ :
      PlanImg)), by decide +kernel⟩,
    ⟨st226, 63, by decide +kernel⟩⟩

theorem witness_MemoryCommandsComplete_6 :
    (∃ (s : State) (p : Nat) (i : _), p < 64 ∧ s.plan.running = some i ∧ i.powerFlags.testBit 1 = false) ∧
    (∃ (s : State) (fn b a n : Nat) (data : List Byte), mainUp s = true ∧ n = data.length ∧ windowAddr s fn b n =
      some a ∧ rangeWaits s a n = false) ∧
    (∃ (s : State) (fn b n : Nat) (data : List Byte), mainUp s = true ∧ n = data.length ∧ windowAddr s fn b n = none) ∧
    (∃ (s : State) (fn b a n : Nat), mainUp s = true ∧ windowAddr s fn b n = some a ∧ rangeWaits s a n = false ∧
      rangeFrozen s a n = false) ∧
    (∃ (s : State) (fn b a n : Nat), mainUp s = true ∧ windowAddr s fn b n = some a ∧ rangeWaits s a n = false ∧
      rangeFrozen s a n = true) ∧
    (∃ (s : State), mainUp s = false) :=
  ⟨⟨st227, 63, ((⟨List.replicate 16 0, false, 1024, [], [], [], [], 0, 1, [], [], [], 1, 0, [], [], 0, 5⟩ :
      PlanImg)), by decide +kernel⟩,
    ⟨(hbUp |> winSet), 0, 4092, 4156, 4, [1, 2, 3, 4], by decide +kernel⟩,
    ⟨(hbUp |> winSet), 0, 4093, 4, [1, 2, 3, 4], by decide +kernel⟩,
    ⟨(hbUp |> winSet), 0, 4092, 4156, 4, by decide +kernel⟩,
    ⟨(hbUp |> winSet |> setF .hbmStackStatus 0 0 0 3 5), 0, 4092, 4156, 4, by decide +kernel⟩,
    ⟨(State.reset |> withPwr (fun p => { p with asleep := true })), by decide +kernel⟩⟩

theorem witness_MemoryCommandsComplete_7 :
    (∃ (s : State) (fn b a n : Nat) (write : Bool) (data : List Byte), windowAddr s fn b (if write = true then
      data.length else n) = some a ∧ rangeWaits s a (if write = true then data.length else n) = true) :=
  ⟨st228, 0, 4092, 4156, 4, false, [], by decide +kernel⟩

def st229 : State :=
  faUp [] [{ itm 5 with src := 0x021 }, itm 5] |> withSyn 0 (fun y => { y with lock := 2 })
def st230 : State :=
  faUp [(rt 0 0 [])] [itm 5, itm 5] |> withSyn 0 (fun y => { y with lock := 2 })
def st231 : State :=
  faUp [(rt 1 0 [])] [itm 5, itm 5] |> withSyn 0 (fun y => { y with lock := 2 })
def st232 : State :=
  faUp [(rt 1 (-1) [itm 5])] [itm 5, itm 5] |> withSyn 0 (fun y => { y with lock := 2 })
def st233 : State :=
  faUp [(rt 2 (-1) [])] [itm 5, itm 5] |> withSyn 0 (fun y => { y with lock := 2 })
def st234 : State :=
  faUp [rt 1 0 [itm 5, itm 6]] [] |> withSyn 0 (fun y => { y with lock := 2 })
def st235 : State :=
  faUp [rt 1 (-1) [itm 5, itm 6]] [] |> withSyn 0 (fun y => { y with lock := 2 })
theorem witness_FabricCommandsComplete :
    (∃ (s : State) (k : Nat) (it : Item), s.plan.offered[k]? = some it ∧ (synOf s 0).lock = 2 ∧ ((s.plan.offered.take
      k).any fun x => unitPort x.src == unitPort it.src && x.stream == it.stream) = false ∧ routeOf s it = none) ∧
    (∃ (s : State) (k ecc : Nat) (room : List Bool) (it : Item) (r : _), s.plan.offered[k]? = some it ∧ (synOf s
      0).lock = 2 ∧ ((s.plan.offered.take k).any fun x => unitPort x.src == unitPort it.src && x.stream == it.stream)
      = false ∧ routeOf s it = some r ∧ 0 ≤ creditNow s r ∧ r.held = [] ∧ fabricStalled r room = false ∧ longHeld s r
      = false ∧ ecc < 2) ∧
    (∃ (s : State) (k ecc : Nat) (room : List Bool) (it : Item) (r : _), s.plan.offered[k]? = some it ∧ (synOf s
      0).lock = 2 ∧ ((s.plan.offered.take k).any fun x => unitPort x.src == unitPort it.src && x.stream == it.stream)
      = false ∧ routeOf s it = some r ∧ 0 ≤ creditNow s r ∧ r.held = [] ∧ fabricStalled r room = false ∧ longHeld s r
      = false ∧ 2 ≤ ecc) ∧
    (∃ (s : State) (k : Nat) (room : List Bool) (it : Item) (r : _), s.plan.offered[k]? = some it ∧ (synOf s 0).lock
      = 2 ∧ ((s.plan.offered.take k).any fun x => unitPort x.src == unitPort it.src && x.stream == it.stream) = false
      ∧ routeOf s it = some r ∧ 0 ≤ creditNow s r ∧ r.held = [] ∧ ((fabricStalled r room = true ∨ longHeld s r =
      true))) ∧
    (∃ (s : State) (k : Nat) (it : Item) (r : _), s.plan.offered[k]? = some it ∧ (synOf s 0).lock = 2 ∧
      ((s.plan.offered.take k).any fun x => unitPort x.src == unitPort it.src && x.stream == it.stream) = false ∧
      routeOf s it = some r ∧ ((creditNow s r < 0 ∨ r.held ≠ [])) ∧ r.plan.mode = 1) ∧
    (∃ (s : State) (k : Nat) (it : Item) (r : _), s.plan.offered[k]? = some it ∧ (synOf s 0).lock = 2 ∧
      ((s.plan.offered.take k).any fun x => unitPort x.src == unitPort it.src && x.stream == it.stream) = false ∧
      routeOf s it = some r ∧ ((creditNow s r < 0 ∨ r.held ≠ [])) ∧ r.plan.mode ≠ 1) :=
  ⟨⟨st229, 1, (itm 5), by decide +kernel⟩,
    ⟨st230, 0, 1, [false], (itm 5), ((rt 0 0 [])), by decide +kernel⟩,
    ⟨st230, 0, 2, [], (itm 5), ((rt 0 0 [])), by decide +kernel⟩,
    ⟨st231, 0, [false], (itm 5), ((rt 1 0 [])), by decide +kernel⟩,
    ⟨st232, 0, (itm 5), ((rt 1 (-1) [itm 5])), by decide +kernel⟩,
    ⟨st233, 0, (itm 5), ((rt 2 (-1) [])), by decide +kernel⟩⟩

theorem witness_FabricCommandsComplete_2 :
    (∃ (s : State) (k : Nat), (((synOf s 0).lock ≠ 2 ∨ s.plan.offered[k]? = none))) ∧
    (∃ (s : State) (k : Nat) (it : Item), s.plan.offered[k]? = some it ∧ ((s.plan.offered.take k).any fun x =>
      unitPort x.src == unitPort it.src && x.stream == it.stream) = true) ∧
    (∃ (s : State) (id ecc : Nat) (room : List Bool) (r : Route) (it rest : _), (s.plan.routes.find? fun r =>
      r.plan.id == id) = some r ∧ r.held = it :: rest ∧ 0 ≤ creditNow s r ∧ fabricStalled r room = false ∧ longHeld s
      r = false ∧ (synOf s 0).lock = 2 ∧ ecc < 2) ∧
    (∃ (s : State) (id ecc : Nat) (room : List Bool) (r : Route) (it rest : _), (s.plan.routes.find? fun r =>
      r.plan.id == id) = some r ∧ r.held = it :: rest ∧ 0 ≤ creditNow s r ∧ fabricStalled r room = false ∧ longHeld s
      r = false ∧ (synOf s 0).lock = 2 ∧ 2 ≤ ecc) ∧
    (∃ (s : State) (id : Nat) (room : List Bool) (r : Route), (s.plan.routes.find? fun r => r.plan.id == id) = some r
      ∧ ((r.held = [] ∨ creditNow s r < 0 ∨ fabricStalled r room = true ∨ longHeld s r = true ∨ (synOf s 0).lock ≠
      2))) ∧
    (∃ (s : State) (id : Nat), (s.plan.routes.find? fun r => r.plan.id == id) = none) :=
  ⟨⟨st230, 2, by decide +kernel⟩,
    ⟨st230, 1, (itm 5), by decide +kernel⟩,
    ⟨st234, 1023, 1, [true], (rt 1 0 [itm 5, itm 6]), (itm 5), [itm 6], by decide +kernel⟩,
    ⟨st234, 1023, 2, [true], (rt 1 0 [itm 5, itm 6]), (itm 5), [itm 6], by decide +kernel⟩,
    ⟨st235, 1023, [true], (rt 1 (-1) [itm 5, itm 6]), by decide +kernel⟩,
    ⟨up, 1023, by decide +kernel⟩⟩

def st236 : State :=
  hoUp |> (fun s =>
    { s with host := { s.host with waiting := [(511, { itm 4 with payload := List.replicate 4096 0 })] } }) |> dlv 75
    255 [({ itm 5 with payload := List.replicate 16 0 } : Item)]
def st237 : State :=
  taken 75 255 (hoUp |> wr .hostCount 0 0 0xFFFFFFFF |> dlv 75 255 [itm 5])
def st238 : State :=
  hoUp |> flSt 1 |> wr .hostBind 0 511 0x2FFF |> (fun s =>
    { s with host := { s.host with waiting := [(511, itm 4)] } }) |> dlv 75 255
    [({ itm 5 with payload := List.replicate 16 0 } : Item)]
def st239 : State :=
  hoUp |> flSt 1 |> wr .hostBind 0 511 0x2FFF |> withPlan (fun p => { p with sram := [(0x200, [0])] }) |> withFl (fun
    x => { x with lostBefore := true }) |> dlv 75 255 [({ itm 5 with payload := List.replicate 16 0 } : Item)]
def st240 : State :=
  hoUp |> flSt 1 |> wr .hostBind 0 511 0x2FFF |> setF .hostFlumeCfg 4095 0 4 2 1 |> withPlan (fun p =>
    { p with sram := [(0x200, [0])] }) |> withFl (fun x =>
    { x with staged := List.replicate 131 { rec0 with payload := List.replicate 2000 0 } }) |> dlv 75 255
    [({ itm 5 with payload := List.replicate 16 0 } : Item)]
def st241 : State :=
  hoUp |> flSt 1 |> wr .hostBind 0 511 0x2FFF |> dlv 75 255 [({ itm 5 with payload := List.replicate 16 0 } : Item)]
def st242 : State :=
  hoUp |> flSt 1 |> withFl (fun x => { x with spill := [rec0], buf := some buf0 })
def st243 : State :=
  hoUp |> flSt 1 |> withFl (fun x => { x with staged := [rec0], buf := some buf0 })
def st244 : State :=
  hoUp |> flSt 1 |> withFl (fun x =>
    { x with staged := [rec0], buf := some { buf0 with length := 4095, used := 4000 } })
def st245 : State :=
  hoUp |> flSt 2 |> withFl (fun x =>
    { x with staged := [rec0], buf := some { buf0 with length := 64, used := 0, records := 0 } })
def st246 : State :=
  hoUp |> flSt 1 |> withFl (fun x => { x with staged := [rec0, rec0], buf := some buf0, retry := true })
def st247 : State :=
  hoUp |> flSt 1 |> withFl (fun x => { x with staged := [rec0, rec0], buf := some buf0 })
theorem witness_FlumeRecordCommandsComplete :
    (∃ (s : State) (up flit : Bool) (rate width mps : Nat) (v : BitVec 32), rate < 8 ∧ width < 32 ∧ mps < 8 ∧ v =
      BitVec.ofNat 32 (b2n up + rate * 2 + width * 16 + b2n flit * 512 + mps * 1024) ∧ fld v 1 9 ≠ fld (rd s
      .hostLink 0 0) 1 9) ∧
    (∃ (s : State) (up flit : Bool) (rate width mps : Nat) (v : BitVec 32) (f : _), rate < 8 ∧ width < 32 ∧ mps < 8 ∧
      v = BitVec.ofNat 32 (b2n up + rate * 2 + width * 16 + b2n flit * 512 + mps * 1024) ∧ f < 4096 ∧ up = true ∧
      width < 4 ∧ ((fstate s f = 1 ∨ fstate s f = 2))) ∧
    (∃ (s u : State) (h k b : Nat) (i : Item), takeDelivered (74 + h) k s = some (i, u) ∧ b = 256 * h + k ∧ fifoTakes
      s b i = false) ∧
    (∃ (s u : State) (h k b : Nat) (i : Item), takeDelivered (74 + h) k s = some (i, u) ∧ b = 256 * h + k ∧ fifoTakes
      s b i = true ∧ steerTo s b i = none) ∧
    (∃ (s u : State) (h k b : Nat) (i : Item), takeDelivered (74 + h) k s = some (i, u) ∧ b = 256 * h + k ∧ fifoTakes
      s b i = true ∧ steerTo s b i ≠ none ∧ (s.host.waiting.any fun w => w.1 == b) = true) ∧
    (∃ (s u : State) (h k b : Nat) (i : Item) (f : _), takeDelivered (74 + h) k s = some (i, u) ∧ b = 256 * h + k ∧
      fifoTakes s b i = true ∧ steerTo s b i = some f ∧ (s.host.waiting.any fun w => w.1 == b) = false ∧ (flume s
      f).spill = [] ∧ poolUsed s + stagedSize i.payload ≤ poolSize s ∧ stagedBytes (flume s f) + stagedSize i.payload
      ≤ getF s .hostFlumeCfg f 0 22 8 * 65536) :=
  ⟨⟨hoUp, true, true, 7, 31, 7, (BitVec.ofNat 32 (b2n true + 7 * 2 + 31 * 16 + b2n true * 512 + 7 * 1024)),
      by decide +kernel⟩,
    ⟨(hoUp |> flSt 2), true, true, 7, 3, 7, (BitVec.ofNat 32 (b2n true + 7 * 2 + 3 * 16 + b2n true * 512 + 7 *
      1024)), 4095, by decide +kernel⟩,
    ⟨st236, (taken 75 255 st236), 1, 255, 511, (({ itm 5 with payload := List.replicate 16 0 } : Item)),
      by decide +kernel⟩,
    ⟨(hoUp |> wr .hostCount 0 0 0xFFFFFFFF |> dlv 75 255 [itm 5]), st237, 1, 255, 511, (itm 5), by decide +kernel⟩,
    ⟨st238, (taken 75 255 st238), 1, 255, 511, (({ itm 5 with payload := List.replicate 16 0 } : Item)),
      by decide +kernel⟩,
    ⟨st239, (taken 75 255 st239), 1, 255, 511, (({ itm 5 with payload := List.replicate 16 0 } : Item)), 4095,
      by decide +kernel⟩⟩

theorem witness_FlumeRecordCommandsComplete_2 :
    (∃ (s u : State) (h k b : Nat) (i : Item) (f : _), takeDelivered (74 + h) k s = some (i, u) ∧ b = 256 * h + k ∧
      fifoTakes s b i = true ∧ steerTo s b i = some f ∧ (s.host.waiting.any fun w => w.1 == b) = false ∧ (flume s
      f).spill = [] ∧ getB s .hostFlumeSpill f 0 16 = false ∧ poolSize s < poolUsed s + stagedSize i.payload ∧ getF s
      .hostFlumeCfg f 0 4 2 = 1 ∧ stagedSize i.payload ≤ poolSize s) ∧
    (∃ (s u : State) (h k b : Nat) (i : Item) (f : _), takeDelivered (74 + h) k s = some (i, u) ∧ b = 256 * h + k ∧
      fifoTakes s b i = true ∧ steerTo s b i = some f ∧ (s.host.waiting.any fun w => w.1 == b) = false ∧ (flume s
      f).spill = [] ∧ getB s .hostFlumeSpill f 0 16 = false ∧ poolSize s < poolUsed s + stagedSize i.payload ∧ ((getF
      s .hostFlumeCfg f 0 4 2 ≠ 1 ∨ poolSize s < stagedSize i.payload))) ∧
    (∃ (s : State) (h k : Nat), takeDelivered (74 + h) k s = none) ∧
    (∃ (s : State) (f : Nat) (good1 good2 wrote : Bool) (r : StagedRec) (b : FlumeBuf), f < 4096 ∧ ((2 ≤ f ∨ (flume s
      f).spill = [])) ∧ ((fstate s f = 1 ∨ fstate s f = 2)) ∧ headRec (flume s f) = some r ∧ (flume s f).buf = some b
      ∧ (flume s f).retry = false ∧ b.used + 64 + payBytes r.payload ≤ b.length ∧ wrote = true ∧ canIssue s f = true
      ∧ crcWords (coveredPayload r.kind r.payload) = r.crc ∧ ((good1 = true ∨ good2 = true)) ∧ fstate s f = 1) ∧
    (∃ (s : State) (f : Nat) (good1 good2 wrote : Bool) (r : StagedRec) (b : FlumeBuf), f < 4096 ∧ ((2 ≤ f ∨ (flume s
      f).spill = [])) ∧ ((fstate s f = 1 ∨ fstate s f = 2)) ∧ headRec (flume s f) = some r ∧ (flume s f).buf = some b
      ∧ (flume s f).retry = false ∧ b.used + 64 + payBytes r.payload ≤ b.length ∧ wrote = true ∧ canIssue s f = true
      ∧ ((crcWords (coveredPayload r.kind r.payload) ≠ r.crc ∨ (good1 = false ∧ good2 = false)))) ∧
    (∃ (s : State) (f : Nat) (wrote : Bool) (r : StagedRec) (b : FlumeBuf), f < 4096 ∧ ((2 ≤ f ∨ (flume s f).spill =
      [])) ∧ ((fstate s f = 1 ∨ fstate s f = 2)) ∧ headRec (flume s f) = some r ∧ (flume s f).buf = some b ∧ (flume s
      f).retry = false ∧ b.used + 64 + payBytes r.payload ≤ b.length ∧ ((wrote = false ∨ canIssue s f = false))) :=
  ⟨⟨st240, (taken 75 255 st240), 1, 255, 511, (({ itm 5 with payload := List.replicate 16 0 } : Item)), 4095,
      by decide +kernel⟩,
    ⟨st241, (taken 75 255 st241), 1, 255, 511, (({ itm 5 with payload := List.replicate 16 0 } : Item)), 4095,
      by decide +kernel⟩,
    ⟨hoUp, 1, 255, by decide +kernel⟩,
    ⟨st242, 4095, true, false, true, rec0, buf0, by decide +kernel⟩,
    ⟨st243, 4095, false, false, true, rec0, buf0, by decide +kernel⟩,
    ⟨st243, 4095, false, rec0, buf0, by decide +kernel⟩⟩

theorem witness_FlumeRecordCommandsComplete_3 :
    (∃ (s : State) (f : Nat) (r : StagedRec) (b : FlumeBuf), f < 4096 ∧ ((2 ≤ f ∨ (flume s f).spill = [])) ∧ ((fstate
      s f = 1 ∨ fstate s f = 2)) ∧ headRec (flume s f) = some r ∧ (flume s f).buf = some b ∧ (flume s f).retry =
      false ∧ b.length < b.used + 64 + payBytes r.payload ∧ b.records ≠ 0) ∧
    (∃ (s : State) (f : Nat) (r : StagedRec) (b : FlumeBuf), f < 4096 ∧ ((2 ≤ f ∨ (flume s f).spill = [])) ∧ ((fstate
      s f = 1 ∨ fstate s f = 2)) ∧ headRec (flume s f) = some r ∧ (flume s f).buf = some b ∧ (flume s f).retry =
      false ∧ b.length < b.used + 64 + payBytes r.payload ∧ b.records = 0 ∧ 2 ≤ f) ∧
    (∃ (s : State) (f : Nat), (((fstate s f ≠ 1 ∧ fstate s f ≠ 2) ∨ headRec (flume s f) = none ∨ (flume s f).buf =
      none ∨ (flume s f).retry = true))) ∧
    (∃ (s : State) (f : Nat) (r : StagedRec) (b : FlumeBuf) (wrote : Bool), f < 4096 ∧ ((2 ≤ f ∨ (flume s f).spill =
      [])) ∧ ((fstate s f = 1 ∨ fstate s f = 2)) ∧ headRec (flume s f) = some r ∧ (flume s f).buf = some b ∧ (flume s
      f).retry = true ∧ wrote = true ∧ canIssue s f = true ∧ fstate s f = 1) ∧
    (∃ (s : State) (f : Nat) (r : StagedRec) (b : FlumeBuf) (wrote : Bool), f < 4096 ∧ ((2 ≤ f ∨ (flume s f).spill =
      [])) ∧ ((fstate s f = 1 ∨ fstate s f = 2)) ∧ headRec (flume s f) = some r ∧ (flume s f).buf = some b ∧ (flume s
      f).retry = true ∧ ((wrote = false ∨ canIssue s f = false)) ∧ 2 ≤ f) ∧
    (∃ (s : State) (f : Nat), (((fstate s f ≠ 1 ∧ fstate s f ≠ 2) ∨ headRec (flume s f) = none ∨ (flume s f).buf =
      none ∨ (flume s f).retry = false))) :=
  ⟨⟨st244, 4095, rec0, ({ buf0 with length := 4095, used := 4000 }), by decide +kernel⟩,
    ⟨st245, 4095, rec0, ({ buf0 with length := 64, used := 0, records := 0 }), by decide +kernel⟩,
    ⟨(hoUp |> flSt 1), 4095, by decide +kernel⟩,
    ⟨st246, 4095, rec0, buf0, true, by decide +kernel⟩,
    ⟨st246, 4095, rec0, buf0, false, by decide +kernel⟩,
    ⟨st247, 4095, by decide +kernel⟩⟩

def st248 : State :=
  hoUp |> flSt 1 |> wr .hostFlumeFreeIdx 4095 0 0xFFFF0000 |> wr .hostFlumeCount 4095 3 0xFFFFFFFF
def st249 : State :=
  hoUp |> flSt 1 |> withFl (fun x => { x with buf := some { buf0 with records := 0 } })
def st250 : State :=
  hoUp |> flSt 1 |> wr .hostFlumeIrq 4095 0 0x101 |> withFl (fun x => { x with unsignalled := 3 })
def st251 : State :=
  hoUp |> flSt 1 |> wr .hostFlumeIrq 4095 0 0x1 |> withFl (fun x => { x with unsignalled := 3 })
def st252 : State :=
  hoUp |> flSt 2 |> withFl (fun x => { x with staged := [rec0], spill := [rec0], buf := some buf0 })
def st253 : State :=
  hoUp |> wr .hostFlumeCfg 4095 0 0x3FC00000 |> withFl (fun x => { x with lastSeq := 9 })
def st254 : State :=
  hoUp |> flSt 1 |> withFl (fun x => { x with spill := [rec0] })
def st255 : State :=
  hoUp |> flSt 1 |> withFl (fun x => { x with buf := some buf0 })
theorem witness_FlumeCommandsComplete :
    (∃ (s : State) (ag : AgentId) (f tail : Nat), f < 4096 ∧ tail < 65536 ∧ WriteOpen s ag (Reg.off .hostFlumeFreeIdx
      f 0) ∧ flumeAgent s f ag = true ∧ (tail + 65536 - getF s .hostFlumeFreeIdx f 0 16 16) % 65536 ≤ ringSize s f) ∧
    (∃ (s : State) (ag : AgentId) (f tail : Nat), f < 4096 ∧ tail < 65536 ∧ WriteOpen s ag (Reg.off .hostFlumeFreeIdx
      f 0) ∧ flumeAgent s f ag = true ∧ ringSize s f < (tail + 65536 - getF s .hostFlumeFreeIdx f 0 16 16) % 65536) ∧
    (∃ (s : State) (f addr len : Nat), f < 4096 ∧ ((fstate s f = 1 ∨ fstate s f = 2)) ∧ (flume s f).buf = none ∧
      (flume s f).held = [] ∧ getF s .hostFlumeFreeIdx f 0 0 16 ≠ getF s .hostFlumeFreeIdx f 0 16 16 ∧ addr % 64 = 0
      ∧ len % 4096 = 0 ∧ 4096 ≤ len ∧ len ≤ 67108864) ∧
    (∃ (s : State) (f addr len : Nat), f < 4096 ∧ ((fstate s f = 1 ∨ fstate s f = 2)) ∧ (flume s f).buf = none ∧
      (flume s f).held = [] ∧ getF s .hostFlumeFreeIdx f 0 0 16 ≠ getF s .hostFlumeFreeIdx f 0 16 16 ∧ ((addr % 64 ≠
      0 ∨ len % 4096 ≠ 0 ∨ len < 4096 ∨ 67108864 < len))) ∧
    (∃ (s : State) (f : Nat), f < 4096 ∧ (((fstate s f ≠ 1 ∧ fstate s f ≠ 2) ∨ (flume s f).buf ≠ none ∨ (flume s
      f).held ≠ [] ∨ getF s .hostFlumeFreeIdx f 0 0 16 = getF s .hostFlumeFreeIdx f 0 16 16))) ∧
    (∃ (s : State) (f : Nat) (b : _), f < 4096 ∧ (flume s f).buf = some b ∧ b.records = 0) :=
  ⟨⟨(hoUp |> wr .hostFlumeFreeIdx 4095 0 0xFFFF0000), 0x01, 4095, 15, by decide +kernel⟩,
    ⟨(hoUp |> wr .hostFlumeFreeIdx 4095 0 0xFFFF0000), 0x01, 4095, 16, by decide +kernel⟩,
    ⟨(hoUp |> flSt 2 |> wr .hostFlumeFreeIdx 4095 0 0xFFFF0000), 4095, 64, 67108864, by decide +kernel⟩,
    ⟨st248, 4095, 64, 67112960, by decide +kernel⟩,
    ⟨(hoUp |> wr .hostFlumeFreeIdx 4095 0 0xFFFF0000), 4095, by decide +kernel⟩,
    ⟨st249, 4095, ({ buf0 with records := 0 }), by decide +kernel⟩⟩

theorem witness_FlumeCommandsComplete_2 :
    (∃ (s : State) (f : Nat), f < 4096 ∧ (flume s f).unsignalled ≠ 0 ∧ getF s .hostFlumeIrq f 0 0 8 ≠ 0 ∧ getF s
      .hostFlumeIrq f 0 8 8 ≠ 0) ∧
    (∃ (s : State) (f : Nat), f < 4096 ∧ (((flume s f).unsignalled = 0 ∨ getF s .hostFlumeIrq f 0 0 8 = 0 ∨ getF s
      .hostFlumeIrq f 0 8 8 = 0))) ∧
    (∃ (s : State) (f : Nat), f < 4096 ∧ fstate s f = 2) ∧
    (∃ (s : State) (f : Nat), f < 4096 ∧ fstate s f ≠ 2) ∧
    (∃ (s : State) (ag : AgentId) (f head : Nat), f < 4096 ∧ head < 65536 ∧ WriteOpen s ag (Reg.off .hostFlumeCplIdx
      f 0) ∧ flumeAgent s f ag = true) ∧
    (∃ (s : State) (ag : AgentId) (f : Nat), 2 ≤ f ∧ f < 4096 ∧ WriteOpen s ag (Reg.off .hostFlumeCmd f 0) ∧
      flumeAgent s f ag = true ∧ fstate s f = 0 ∧ openCause s f = none) :=
  ⟨⟨st250, 4095, by decide +kernel⟩,
    ⟨st251, 4095, by decide +kernel⟩,
    ⟨st252, 4095, by decide +kernel⟩,
    ⟨(hoUp |> flSt 1), 4095, by decide +kernel⟩,
    ⟨(hoUp |> flSt 1), 0x01, 4095, 65535, by decide +kernel⟩,
    ⟨st253, 0x01, 4095, by decide +kernel⟩⟩

theorem witness_FlumeCommandsComplete_3 :
    (∃ (s : State) (ag : AgentId) (f : Nat), 2 ≤ f ∧ f < 4096 ∧ WriteOpen s ag (Reg.off .hostFlumeCmd f 0) ∧
      flumeAgent s f ag = true ∧ fstate s f = 1 ∧ (flume s f).staged = [] ∧ (flume s f).spill = [] ∧ (flume s f).buf
      = none ∧ (flume s f).held = []) ∧
    (∃ (s : State) (ag : AgentId) (f : Nat), 2 ≤ f ∧ f < 4096 ∧ WriteOpen s ag (Reg.off .hostFlumeCmd f 0) ∧
      flumeAgent s f ag = true ∧ fstate s f = 1 ∧ (((flume s f).staged ≠ [] ∨ (flume s f).spill ≠ []))) ∧
    (∃ (s : State) (ag : AgentId) (f : Nat) (c : _), f < 4096 ∧ WriteOpen s ag (Reg.off .hostFlumeCmd f 0) ∧
      flumeAgent s f ag = true ∧ fstate s f = 0 ∧ openCause s f = some c) ∧
    (∃ (s : State) (ag : AgentId) (f : Nat), f < 4096 ∧ WriteOpen s ag (Reg.off .hostFlumeCmd f 0) ∧ flumeAgent s f
      ag = true ∧ fstate s f ≠ 0) ∧
    (∃ (s : State) (ag : AgentId) (f : Nat), f < 4096 ∧ WriteOpen s ag (Reg.off .hostFlumeCmd f 0) ∧ flumeAgent s f
      ag = true ∧ fstate s f ≠ 1) ∧
    (∃ (s : State) (ag : AgentId) (f : Nat) (b : _), f < 4096 ∧ WriteOpen s ag (Reg.off .hostFlumeCmd f 0) ∧
      flumeAgent s f ag = true ∧ (flume s f).buf = some b ∧ b.records ≠ 0) :=
  ⟨⟨(hoUp |> flSt 1 |> withFl (fun x => { x with lastSeq := 9 })), 0x01, 4095, by decide +kernel⟩,
    ⟨st254, 0x01, 4095, by decide +kernel⟩,
    ⟨(hoUp |> wr .hostFlumeFreeBaseLo 4095 0 32), 0x01, 4095, 1, by decide +kernel⟩,
    ⟨(hoUp |> flSt 3), 0x01, 4095, by decide +kernel⟩,
    ⟨(hoUp |> flSt 2), 0x01, 4095, by decide +kernel⟩,
    ⟨st255, 0x01, 4095, buf0, by decide +kernel⟩⟩

theorem witness_FlumeCommandsComplete_4 :
    (∃ (s : State) (ag : AgentId) (f : Nat), f < 4096 ∧ WriteOpen s ag (Reg.off .hostFlumeCmd f 0) ∧ flumeAgent s f
      ag = true ∧ (((flume s f).buf = none ∨ (∀ b, (flume s f).buf = some b → b.records = 0)))) ∧
    (∃ (s : State) (ag : AgentId) (f n : Nat), f < 4096 ∧ n < 65536 ∧ flumeAgent s f ag = false ∧ s.mgt.log.length <
      auditSize ∧ WriteOpen s ag (Reg.off .hostFlumeFreeIdx f 0)) ∧
    (∃ (s : State) (ag : AgentId) (f n : Nat), f < 4096 ∧ n < 65536 ∧ flumeAgent s f ag = false ∧ s.mgt.log.length <
      auditSize ∧ WriteOpen s ag (Reg.off .hostFlumeCplIdx f 0)) ∧
    (∃ (s : State) (ag : AgentId) (f n : Nat), f < 4096 ∧ n < 65536 ∧ flumeAgent s f ag = false ∧ s.mgt.log.length <
      auditSize ∧ WriteOpen s ag (Reg.off .hostFlumeCmd f 0)) :=
  ⟨⟨(hoUp |> flSt 1), 0x01, 4095, by decide +kernel⟩,
    ⟨(hoUp |> flSt 1), 0x21, 4095, 65535, by decide +kernel⟩,
    ⟨(hoUp |> flSt 1), 0x21, 4095, 65535, by decide +kernel⟩,
    ⟨(hoUp |> flSt 1), 0x21, 4095, 65535, by decide +kernel⟩⟩

def st256 : State :=
  hoUp |> setBank 0x50 { CvBank.reset with cpl := (6, 63, 65535) :: [(0, 0, 0)] }
def st257 : State :=
  hoUp |> setF .mgtMcStatus 0 1 0 3 3 |> setF .mgtMcStatus 0 1 3 5 1
def st258 : State :=
  hoUp |> setF .mgtMcStatus 0 1 0 3 2 |> wr .mgtCvCfg 1 0 0x21 |> withChan0 1
    [{ cv0 with body := 2 :: 63 :: List.replicate 14 0 }, cv0]
def st259 : State :=
  hoUp |> setF .mgtMcStatus 0 1 0 3 2 |> wr .mgtCvCfg 1 0 0x21 |> withChan0 1
    [{ cv0 with body := 0x8002 :: 63 :: List.replicate 14 0 }, cv0]
def st260 : State :=
  hoUp |> setF .mgtMcStatus 0 1 0 3 2 |> wr .mgtCvCfg 1 0 0x20 |> withChan0 1 [cv0]
def st261 : State :=
  hoUp |> setF .hostFlumeStatus 1 0 0 2 1 |> (fun s =>
    { s with time := { s.time with up := 2 ^ 70 }, mgt := { s.mgt with log := [ent0] } })
def st262 : State :=
  hoUp |> setF .hostFlumeStatus 1 0 0 2 1 |> (fun s =>
    { s with time := { s.time with up := 2 ^ 70 }, mgt := { s.mgt with log := List.replicate 64 ent0 } })
theorem witness_ManagementCommandsComplete :
    (∃ (s : State) (ag : AgentId) (v : BitVec 32) (ecc : Nat), WriteOpen s ag (Reg.off .mgtCvSend 0 0) ∧ sendRefusal
      s ag (fld v 0 6) = none ∧ ecc < 2) ∧
    (∃ (s : State) (ag : AgentId) (v : BitVec 32) (ecc : Nat), WriteOpen s ag (Reg.off .mgtCvSend 0 0) ∧ sendRefusal
      s ag (fld v 0 6) = none ∧ 2 ≤ ecc) ∧
    (∃ (s : State) (ag : AgentId) (v : BitVec 32) (st : _), WriteOpen s ag (Reg.off .mgtCvSend 0 0) ∧ sendRefusal s
      ag (fld v 0 6) = some st) ∧
    (∃ (s : State) (ag : AgentId) (c ecc : Nat) (m rest : _), c < 64 ∧ WriteOpen s ag (Reg.off .mgtCvRxpop c 0) ∧
      receiverOf s c = ag ∧ (chan s c).queue = m :: rest ∧ ecc ≠ 2) ∧
    (∃ (s : State) (ag : AgentId) (c ecc : Nat) (m rest : _), c < 64 ∧ WriteOpen s ag (Reg.off .mgtCvRxpop c 0) ∧
      receiverOf s c = ag ∧ (chan s c).queue = m :: rest ∧ ecc = 2) ∧
    (∃ (s : State) (ag : AgentId) (c : Nat), c < 64 ∧ WriteOpen s ag (Reg.off .mgtCvRxpop c 0) ∧ receiverOf s c = ag
      ∧ (chan s c).queue = []) :=
  ⟨⟨(hoUp |> wr .mgtCvCfg 63 0 1), 0x30, 0x3FFFF, 1, by decide +kernel⟩,
    ⟨(hoUp |> wr .mgtCvCfg 63 0 1), 0x30, 0x3FFFF, 2, by decide +kernel⟩,
    ⟨(hoUp |> wr .mgtCvCfg 63 0 0), 0x30, 0x3FFFF, 2, by decide +kernel⟩,
    ⟨(hoUp |> wr .mgtCvCfg 63 0 0x47 |> withChan0 63 [cv0, cv0]), 0x47, 63, 1, cv0, [cv0], by decide +kernel⟩,
    ⟨(hoUp |> wr .mgtCvCfg 63 0 0x47 |> withChan0 63 [cv0, cv0]), 0x47, 63, 2, cv0, [cv0], by decide +kernel⟩,
    ⟨(hoUp |> wr .mgtCvCfg 63 0 0x47), 0x47, 63, by decide +kernel⟩⟩

theorem witness_ManagementCommandsComplete_2 :
    (∃ (s : State) (ag : AgentId) (c : Nat), c < 64 ∧ WriteOpen s ag (Reg.off .mgtCvRxpop c 0) ∧ receiverOf s c ≠ ag
      ∧ s.mgt.log.length < auditSize) ∧
    (∃ (s : State) (ag : AgentId) (st c q rest : _), (bank s ag).cpl = (st, c, q) :: rest) ∧
    (∃ (s : State) (ag : AgentId), (bank s ag).cpl = []) ∧
    (∃ (s : State) (ag : AgentId) (c : Nat) (v : BitVec 32), c < 64 ∧ WriteOpen s ag (Reg.off .mgtCvCfg c 0) ∧
      receiverOk (fld v 0 8) = true ∧ fld v 0 8 = getF s .mgtCvCfg c 0 0 8) ∧
    (∃ (s : State) (ag : AgentId) (c : Nat) (v : BitVec 32), c < 64 ∧ WriteOpen s ag (Reg.off .mgtCvCfg c 0) ∧
      receiverOk (fld v 0 8) = true ∧ fld v 0 8 ≠ getF s .mgtCvCfg c 0 0 8 ∧ (chan s c).queue ≠ []) ∧
    (∃ (s : State) (ag : AgentId) (c : Nat) (v : BitVec 32), c < 64 ∧ WriteOpen s ag (Reg.off .mgtCvCfg c 0) ∧
      receiverOk (fld v 0 8) = false ∧ s.mgt.log.length < auditSize) :=
  ⟨⟨(hoUp |> wr .mgtCvCfg 63 0 0x47 |> withChan0 63 [cv0]), 0x30, 63, by decide +kernel⟩,
    ⟨st256, 0x50, 6, 63, 65535, [(0, 0, 0)], by decide +kernel⟩,
    ⟨hoUp, 0x50, by decide +kernel⟩,
    ⟨(hoUp |> wr .mgtCvCfg 63 0 0x50 |> withChan0 63 [cv0]), 0x51, 63, 0xFFFF0150, by decide +kernel⟩,
    ⟨(hoUp |> wr .mgtCvCfg 63 0 0x47 |> withChan0 63 [cv0]), 0x51, 63, 0, by decide +kernel⟩,
    ⟨(hoUp |> wr .mgtCvCfg 63 0 0x47 |> withChan0 63 [cv0]), 0x51, 63, 0x48, by decide +kernel⟩⟩

theorem witness_ManagementCommandsComplete_3 :
    (∃ (s : State) (ag : AgentId) (j : Nat) (k : _), j < 8 ∧ WriteOpen s ag (Reg.off .mgtDbRing 0 j) ∧ k < 8 ∧ k ≠ j) ∧
    (∃ (s : State) (ag : AgentId) (j : Nat) (k : _), j < 8 ∧ WriteOpen s ag (Reg.off .mgtDbClear 0 j) ∧ k < 8 ∧ k ≠
      j) ∧
    (∃ (s : State) (ag : AgentId) (h : Nat) (v : BitVec 32), h < 32 ∧ WriteOpen s ag (Reg.off .mgtHeadgate 0 h) ∧ v =
      0 ∧ ag ≠ 0 ∧ gateHolder s h = ag) ∧
    (∃ (s : State) (ag : AgentId) (h : Nat) (v : BitVec 32), h < 32 ∧ WriteOpen s ag (Reg.off .mgtHeadgate 0 h) ∧ ((v
      ≠ 0 ∨ gateHolder s h ≠ ag)) ∧ s.mgt.log.length < auditSize) ∧
    (∃ (s : State) (ag : AgentId) (h : Nat), h < 32 ∧ WriteOpen s ag (Reg.off .mgtHeadgateForce 0 0) ∧ ((ag = 0x01 ∨
      ag = 0x20)) ∧ gateHolder s h ≠ 0) ∧
    (∃ (s : State) (ag : AgentId) (h : Nat), h < 32 ∧ WriteOpen s ag (Reg.off .mgtHeadgateForce 0 0) ∧ ((ag = 0x01 ∨
      ag = 0x20)) ∧ gateHolder s h = 0) :=
  ⟨⟨hoUp, 0x51, 7, 0, by decide +kernel⟩,
    ⟨hoUp, 0x51, 7, 0, by decide +kernel⟩,
    ⟨(gUp 0x47), 0x47, 31, 0, by decide +kernel⟩,
    ⟨(gUp 0x47), 0x47, 31, 1, by decide +kernel⟩,
    ⟨(gUp 0x47), 0x20, 31, by decide +kernel⟩,
    ⟨(gUp 0), 0x20, 31, by decide +kernel⟩⟩

theorem witness_ManagementCommandsComplete_4 :
    (∃ (s : State) (ag : AgentId) (h : Nat), h < 32 ∧ WriteOpen s ag (Reg.off .mgtHeadgateForce 0 0) ∧ ag ≠ 0x01 ∧ ag
      ≠ 0x20 ∧ s.mgt.log.length < auditSize) ∧
    (∃ (s : State) (m : Nat), m < 2 ∧ getF s .mgtMcStatus 0 m 0 3 ≠ 2) ∧
    (∃ (s : State) (ag : AgentId) (m : Nat), m < 2 ∧ WriteOpen s ag (Reg.off .mgtMcCmd 0 m)) ∧
    (∃ (s : State) (m : Nat) (q rest : _), m < 2 ∧ getF s .mgtMcStatus 0 m 0 3 = 2 ∧ (chan s m).queue = q :: rest ∧
      receiverOf s m = BitVec.ofNat 8 (0x20 + m) ∧ bit (q.body.getD 0 0) 15 = false) ∧
    (∃ (s : State) (m : Nat) (q rest : _), m < 2 ∧ getF s .mgtMcStatus 0 m 0 3 = 2 ∧ (chan s m).queue = q :: rest ∧
      receiverOf s m = BitVec.ofNat 8 (0x20 + m) ∧ bit (q.body.getD 0 0) 15 = true) ∧
    (∃ (s : State) (m : Nat), m < 2 ∧ ((getF s .mgtMcStatus 0 m 0 3 ≠ 2 ∨ (chan s m).queue = [] ∨ receiverOf s m ≠
      BitVec.ofNat 8 (0x20 + m)))) :=
  ⟨⟨(gUp 0x47), 0x21, 31, by decide +kernel⟩,
    ⟨(hoUp |> setF .mgtMcStatus 0 1 0 3 3), 1, by decide +kernel⟩,
    ⟨st257, 0x20, 1, by decide +kernel⟩,
    ⟨st258, 1, ({ cv0 with body := 2 :: 63 :: List.replicate 14 0 }), [cv0], by decide +kernel⟩,
    ⟨st259, 1, ({ cv0 with body := 0x8002 :: 63 :: List.replicate 14 0 }), [cv0], by decide +kernel⟩,
    ⟨st260, 1, by decide +kernel⟩⟩

theorem witness_ManagementCommandsComplete_5 :
    (∃ (s : State), auditDue s = true ∧ fstate s 1 = 1 ∧ queueRoom s 1 = true) ∧
    (∃ (s : State), ((32 ≤ (auditWaiting s).length ∨ auditDue s = true)) ∧ fstate s 1 = 1 ∧ queueRoom s 1 = true) ∧
    (∃ (s : State), ((auditDue s = false ∨ fstate s 1 ≠ 1 ∨ queueRoom s 1 = false))) ∧
    (∃ (s : State), (((auditDue s = false ∧ (auditWaiting s).length < 32) ∨ fstate s 1 ≠ 1 ∨ queueRoom s 1 = false))) :=
  ⟨⟨st261, by decide +kernel⟩,
    ⟨st262, by decide +kernel⟩,
    ⟨(hoUp |> setF .hostFlumeStatus 1 0 0 2 1), by decide +kernel⟩,
    ⟨(hoUp |> setF .hostFlumeStatus 1 0 0 2 1), by decide +kernel⟩⟩

theorem witness_HeadgateContest :
    (∃ (s : State) (ag : AgentId) (h : Nat) (others : List AgentId) (x : _), h < 32 ∧ gateHolder s h = 0 ∧ (∀ x ∈ ag
      :: others, opAgent x = true) ∧ (ag :: others).Nodup ∧ x ∈ ag :: others) ∧
    (∃ (s : State) (ag : AgentId) (h : Nat) (others : List AgentId), h < 32 ∧ gateHolder s h = 0 ∧ (∀ x ∈ ag ::
      others, opAgent x = true) ∧ (ag :: others).Nodup ∧ others ≠ []) ∧
    (∃ (s : State) (ag : AgentId) (h : Nat) (others : List AgentId) (k : _), h < 32 ∧ gateHolder s h = 0 ∧ (∀ x ∈ ag
      :: others, opAgent x = true) ∧ (ag :: others).Nodup ∧ k ≠ h) ∧
    (∃ (s : State) (h : Nat), gateHolder s h ≠ 0) :=
  ⟨⟨(gUp 0), 0x51, 31, [0x47, 0x01], 0x01, by decide +kernel⟩,
    ⟨(gUp 0), 0x51, 31, [0x47, 0x01], by decide +kernel⟩,
    ⟨(gUp 0), 0x51, 31, [0x47, 0x01], 0, by decide +kernel⟩,
    ⟨(gUp 0x47), 31, by decide +kernel⟩⟩

def st263 : State :=
  dk .nop |> dlv 65 0 [({ itm 0 with payload := List.replicate (9 + 5) 7 } : Item)]
def st264 : State :=
  dk .nop |> on 0x177 .draining |> dlv 65 0 [({ itm 0 with payload := List.replicate (9 + 5) 7 } : Item)]
def st265 : State :=
  dk .nop |> withDsp 23 (fun x => { x with stat := 0x1003, imr := 0x0FFF, ipr := BitVec.ofNat 32 (2 * 4 ^ 9 + 1) })
    |> dspPend 23 9 |> dspPend 23 0
def st266 : State :=
  dk .nop |> withDsp 23 (fun x => { x with stat := 0x1003, imr := 0x0FFF, ipr := BitVec.ofNat 32 (2 * 4 ^ 9 + 1) })
    |> dspPend 23 9 |> dspPend 23 0 |> on 0x177 .ready
def st267 : State :=
  dk .nop |> withDsp 23 (fun x => { x with timer := 3, reload := 9, timerAt := 0 }) |> (fun s =>
    { s with time := { s.time with up := 2 ^ 66 } })
def st268 : State :=
  dk .nop |> withDsp 23 (fun x => { x with timer := 3, reload := 9, timerAt := upTotal (dk .nop) })
def st269 : State :=
  dk .nop |> (fun s => wr .dspCoreBreak 23 0 (BitVec.ofNat 32 (0x8000 + (dspOf s 23).pc.toNat)) s)
def st270 : State :=
  dk .nop |> withDsp 23 (fun x => { x with exec := .stopped }) |> (fun s => wr .dspCoreBreak 23 0 (BitVec.ofNat 32
    (0x8000 + (dspOf s 23).pc.toNat)) s)
def st271 : State :=
  dk (.wrs (0x25 + 8 * 0) 3) |> withPlan (fun p => { p with regions := [⟨5, 0x177, 1, 0, 16384, 4294967295⟩] }) |>
    withDsp 23 (fun x =>
    { x with d := vset x.d 3 1, sys := [(0x21 + 8 * 0, 5), (0x22 + 8 * 0, 16), (0x24 + 8 * 0, 4092)] })
def st272 : State :=
  dk (.wrs (0x25 + 8 * 0) 3) |> withPlan (fun p => { p with regions := [⟨5, 0x177, 1, 0, 16384, 4294967295⟩] }) |>
    withDsp 23 (fun x =>
    { x with d := vset x.d 3 1, sys := [(0x21 + 8 * 0, 5), (0x22 + 8 * 0, 17), (0x24 + 8 * 0, 4)] })
def st273 : State :=
  dk (.wrs (0x25 + 8 * 0) 3) |> withDma 23 0 (fun q => { q with busy := true, len := 7 }) |> withDsp 23 (fun x =>
    { x with d := vset x.d 3 2 })
def st274 : State :=
  dk .nop |> withPlan (fun p => { p with regions := [⟨5, 0x177, 1, 0, 16384, 4294967295⟩] }) |> setF .hbmStackStatus
    0 0 0 3 3 |> setF .hbmStackStatus 1 0 0 3 3 |> on 0x1C0 .running |> withDma 23 0 (fun q =>
    { q with busy := true, loc := BitVec.ofNat 32 7, region := BitVec.ofNat 32 (5 + 65536 * 0), offset := 64, len := 8 })
def st275 : State :=
  dk .nop |> withDsp 23 (fun x => { x with bus := .answered true true (BitVec.ofNat 32 7) })
def st276 : State :=
  dk .nop |> (fun s => dspWrite 23 2 (dspOf s 23).pc.toNat 0xD0000000 s)
theorem witness_CoreEventCommandsComplete :
    (∃ (s u : State) (c n : Nat) (i : Item), c < 24 ∧ n < 2 ∧ takeDelivered (42 + c) n s = some (i, u) ∧ i.payload ≠
      [] ∧ dspAccepts s c n i = true ∧ itemCrcBad i = true) ∧
    (∃ (s u : State) (c n : Nat) (i : Item), c < 24 ∧ n < 2 ∧ takeDelivered (42 + c) n s = some (i, u) ∧ i.payload ≠
      [] ∧ dspAccepts s c n i = false) ∧
    (∃ (s : State) (c n : Nat), takeDelivered (42 + c) n s = none) ∧
    (∃ (s : State) (c k p : Nat), c < 24 ∧ (ustate s (dspUnit c)).busy = true ∧ (dspOf s c).exec = .executing ∧
      (dspOf s c).rept = none ∧ dspTaken s c = some (k, p)) ∧
    (∃ (s : State) (c : Nat), (((ustate s (dspUnit c)).busy = false ∨ (dspOf s c).exec ≠ .executing ∨ (dspOf s
      c).rept ≠ none ∨ dspTaken s c = none))) ∧
    (∃ (s : State) (c : Nat), c < 24 ∧ (dspOf s c).timer ≠ 0 ∧ dspTimer s c = 0) :=
  ⟨⟨st263, (taken 65 0 st263), 23, 0, (({ itm 0 with payload := List.replicate (9 + 5) 7 } : Item)),
      by decide +kernel⟩,
    ⟨st264, (taken 65 0 st264), 23, 0, (({ itm 0 with payload := List.replicate (9 + 5) 7 } : Item)),
      by decide +kernel⟩,
    ⟨(dk .nop), 23, 1, by decide +kernel⟩,
    ⟨st265, 23, 9, 2, by decide +kernel⟩,
    ⟨st266, 23, by decide +kernel⟩,
    ⟨st267, 23, by decide +kernel⟩⟩

theorem witness_CoreEventCommandsComplete_2 :
    (∃ (s : State) (c : Nat), (((dspOf s c).timer = 0 ∨ dspTimer s c ≠ 0))) ∧
    (∃ (s : State) (ag : AgentId) (c : Nat), c < 24 ∧ WriteOpen s ag (Reg.off .dspCoreHostMsg c 0)) ∧
    (∃ (s : State) (c : Nat), c < 24 ∧ (ustate s (dspUnit c)).busy = true ∧ (dspOf s c).exec = .executing ∧ atBreak s
      c = true) ∧
    (∃ (s : State) (c : Nat), c < 24 ∧ (((ustate s (dspUnit c)).busy = false ∨ (dspOf s c).exec ≠ .executing ∨
      atBreak s c = false))) ∧
    (∃ (s : State) (ag : AgentId) (c ecc : Nat), c < 24 ∧ WriteOpen s ag (Reg.off .dspCoreBreak c 0) ∧ ecc < 3 ∧ rd s
      .dspCoreBreak c 0 < 0x10000 ∧ (ustate s (dspUnit c)).busy = true ∧ (dspOf s c).exec = .stopped ∧ dspDecode
      (pcWord s c) = some .nop ∧ (dspOf s c).rept = none ∧ (dspOf s c).loops = []) ∧
    (∃ (s : State) (ag : AgentId) (c : Nat), c < 24 ∧ WriteOpen s ag (Reg.off .dspCoreBreak c 0) ∧ (((ustate s
      (dspUnit c)).busy = false ∨ (dspOf s c).exec ≠ .stopped))) :=
  ⟨⟨st268, 23, by decide +kernel⟩,
    ⟨(dk .nop), 0x01, 23, by decide +kernel⟩,
    ⟨st269, 23, by decide +kernel⟩,
    ⟨(dk .nop), 23, by decide +kernel⟩,
    ⟨st270, 0x01, 23, 0, by decide +kernel⟩,
    ⟨(dk .nop), 0x01, 23, by decide +kernel⟩⟩

theorem witness_CoreEventCommandsComplete_3 :
    (∃ (s : State) (c ch d ecc : Nat) (g : PlanRegion), ch < 2 ∧ ecc < 3 ∧ DspAt s c (.wrs (0x25 + 8 * ch) d) ∧
      (dspOf s c).dw d = 1 ∧ (dspDma s c ch).busy = false ∧ ownedRegion s (dspUnit c) (fld (sysWord s c (0x21 + 8 *
      ch)) 0 16) = some g ∧ dmaOffset s c ch % 4 = 0 ∧ dmaOffset s c ch + 4 * dmaLen s c ch ≤ g.size ∧ dmaLen s c ch
      ≤ 65536) ∧
    (∃ (s : State) (c ch d ecc : Nat), ch < 2 ∧ ecc < 3 ∧ DspAt s c (.wrs (0x25 + 8 * ch) d) ∧ (dspOf s c).dw d = 1 ∧
      (((dspDma s c ch).busy = true ∨ dmaOffset s c ch % 4 ≠ 0 ∨ 65536 < dmaLen s c ch ∨ ownedRegion s (dspUnit c)
      (fld (sysWord s c (0x21 + 8 * ch)) 0 16) = none))) ∧
    (∃ (s : State) (c ch d ecc : Nat), ch < 2 ∧ ecc < 3 ∧ DspAt s c (.wrs (0x25 + 8 * ch) d) ∧ (dspOf s c).dw d = 2 ∧
      (dspDma s c ch).busy = true) ∧
    (∃ (s : State) (c ch : Nat), nextWrites s c (0x25 + 8 * ch) 1 = none ∧ nextWrites s c (0x25 + 8 * ch) 2 = none) ∧
    (∃ (s : State) (c ch : Nat) (g : PlanRegion), c < 24 ∧ ch < 2 ∧ (dspDma s c ch).busy = true ∧ dmaWaits s c ch =
      false ∧ ownedRegion s (dspUnit c) (fld (dspDma s c ch).region 0 16) = some g ∧ rangeFrozen s (g.base + (dspDma
      s c ch).offset) (4 * (dspDma s c ch).len) = false) ∧
    (∃ (s : State) (c ch : Nat), (((dspDma s c ch).busy = false ∨ dmaWaits s c ch = true))) :=
  ⟨⟨st271, 23, 0, 3, 0, ⟨5, 0x177, 1, 0, 16384, 4294967295⟩, by decide +kernel⟩,
    ⟨st272, 23, 0, 3, 0, by decide +kernel⟩,
    ⟨st273, 23, 0, 3, 0, by decide +kernel⟩,
    ⟨(dk .nop), 23, 0, by decide +kernel⟩,
    ⟨st274, 23, 0, ⟨5, 0x177, 1, 0, 16384, 4294967295⟩, by decide +kernel⟩,
    ⟨(dk .nop), 23, 0, by decide +kernel⟩⟩

theorem witness_CoreEventCommandsComplete_4 :
    (∃ (s : State) (c : Nat) (w refused : Bool) (data : Word), c < 24 ∧ (dspOf s c).bus = .answered w refused data) ∧
    (∃ (s : State) (c : Nat), (dspOf s c).bus = .idle) ∧
    (∃ (s : State) (c : Nat), canGo s c = true ∧ dspDecode (pcWord s c) = none) ∧
    (∃ (s : State) (c : Nat), ((canGo s c = false ∨ dspDecode (pcWord s c) ≠ none))) :=
  ⟨⟨st275, 23, true, true, (BitVec.ofNat 32 7), by decide +kernel⟩,
    ⟨(dk .nop), 23, by decide +kernel⟩,
    ⟨st276, 23, by decide +kernel⟩,
    ⟨(dk .nop), 23, by decide +kernel⟩⟩

theorem witness_ClusterStart :
    (∃ (s : State) (ag : AgentId) (v : BitVec 32) (c : _), WriteOpen s ag (Reg.off .dspClStart 0 0) ∧ c < 24 ∧ bit v
      c = true ∧ ustate s (dspUnit c) = .ready) ∧
    (∃ (s : State) (ag : AgentId) (v : BitVec 32) (c : _), WriteOpen s ag (Reg.off .dspClStart 0 0) ∧ c < 24 ∧ bit v
      c = true ∧ ustate s (dspUnit c) ≠ .ready) ∧
    (∃ (s : State) (ag : AgentId) (v : BitVec 32) (c : _), WriteOpen s ag (Reg.off .dspClStart 0 0) ∧ c < 24 ∧ bit v
      c = false) :=
  ⟨⟨(up |> on 0x178 .ready |> on 0x177 .ready), 0x01, 0xFFFFFF, 23, by decide +kernel⟩,
    ⟨(up |> on 0x178 .ready |> on 0x177 .ready), 0x01, 0xFFFFFF, 22, by decide +kernel⟩,
    ⟨(up |> on 0x178 .ready |> on 0x177 .ready), 0x01, 0x800000, 22, by decide +kernel⟩⟩

def st277 : State :=
  dk (.call 0 9) |> withDsp 23 (fun x => { x with rets := List.replicate 16 3 })
theorem witness_StackFaults :
    (∃ (s : State) (c cc a ecc : Nat), ecc < 3 ∧ DspAt s c (.call cc a) ∧ condHolds (dspOf s c) cc = true ∧ 16 ≤
      (dspOf s c).rets.length) ∧
    (∃ (s : State) (c ecc : Nat), ecc < 3 ∧ DspAt s c .ret ∧ (dspOf s c).rets = []) ∧
    (∃ (s : State) (c ecc : Nat), ecc < 3 ∧ DspAt s c .reti ∧ (dspOf s c).ipl = 0) :=
  ⟨⟨st277, 23, 0, 9, 0, by decide +kernel⟩,
    ⟨(dk .ret), 23, 0, by decide +kernel⟩,
    ⟨(dk .reti |> withDsp 23 (fun x => { x with stat := 3 })), 23, 0, by decide +kernel⟩⟩

def st278 : State :=
  dk (.loop true 0 7) |> withDsp 23 (fun x => { x with loops := List.replicate 4 ⟨1, x.pc + 1, 5⟩ })
def st279 : State :=
  dk (.rept true 0) |> (fun s => dspWrite 23 2 ((dspOf s 23).pc.toNat + 1) (dspEncode .ret) s)
def st280 : State :=
  dk (.br 0 9) |> withDsp 23 (fun x => { x with loops := [⟨1, x.pc, 5⟩] })
theorem witness_CoreIssueAndFaults :
    (∃ (s : State) (c : Nat), ((canGo s c = false ∨ dspDecode (pcWord s c) ≠ some .nop))) ∧
    (∃ (s : State) (c d a b : Nat), ((canGo s c = false ∨ dspDecode (pcWord s c) ≠ some (.alu .add d a b 0 0)))) ∧
    (∃ (s : State) (c : Nat), DspAt s c .nop) ∧
    (∃ (s : State) (c d a b ecc : Nat), 3 ≤ ecc ∧ DspAt s c (.alu .add d a b 0 0)) ∧
    (∃ (s : State) (c k len ecc : Nat) (reg : Bool), ecc < 3 ∧ DspAt s c (.loop reg k len) ∧ 4 ≤ (dspOf s
      c).loops.length) ∧
    (∃ (s : State) (c ecc : Nat), ecc < 3 ∧ DspAt s c .leave ∧ (dspOf s c).loops = []) :=
  ⟨⟨(dk .halt), 23, by decide +kernel⟩,
    ⟨(dk .halt), 23, 1, 2, 3, by decide +kernel⟩,
    ⟨(dk .nop), 23, by decide +kernel⟩,
    ⟨(dk (.alu .add 1 2 3 0 0)), 23, 1, 2, 3, (3 + 0), by decide +kernel⟩,
    ⟨st278, 23, 0, 7, 0, true, by decide +kernel⟩,
    ⟨(dk .leave), 23, 0, by decide +kernel⟩⟩

theorem witness_CoreIssueAndFaults_2 :
    (∃ (s : State) (c k ecc : Nat) (reg : Bool), ecc < 3 ∧ DspAt s c (.rept reg k) ∧ (dspDecode (dspP s c ((dspOf s
      c).pc.toNat + 1))).any (fun op => op.isFlow) = true) ∧
    (∃ (s : State) (c cc a ecc : Nat) (e : LoopEnt) (r : List LoopEnt), ecc < 3 ∧ canGo s c = true ∧ dspDecode
      (pcWord s c) = some (.br cc a) ∧ (dspOf s c).loops = e :: r ∧ e.last = (dspOf s c).pc) :=
  ⟨⟨st279, 23, 0, 0, true, by decide +kernel⟩,
    ⟨st280, 23, 0, 9, 0, ⟨1, (dspOf st280 23).pc, 5⟩, [], by decide +kernel⟩⟩

def st281 : State :=
  dk .reti |> withDsp 23 (fun x =>
    { x with stat := 0x803, savePc := Vector.ofFn (fun n => BitVec.ofNat 15 (n.val + 5)), saveStat := Vector.ofFn (fun n => BitVec.ofNat 32 (5000 + 77 * n.val)) })
def st282 : State :=
  dk .leave |> withDsp 23 (fun x => { x with loops := [⟨4, 9, 3⟩, ⟨2, 11, 3⟩] })
theorem witness_CoreControlCommandsComplete :
    (∃ (s : State) (c ecc : Nat) (a : BitVec 15) (r : List (BitVec 15)), ecc < 3 ∧ DspAt s c .ret ∧ (dspOf s c).rets
      = a :: r) ∧
    (∃ (s : State) (c ecc : Nat) (i : _), ecc < 3 ∧ DspAt s c .reti ∧ (dspOf s c).ipl ≠ 0 ∧ i < 32 ∧ i ≠ 5 ∧ i ≠ 6) ∧
    (∃ (s : State) (c ecc : Nat) (i : _), ecc < 3 ∧ DspAt s c .reti ∧ (dspOf s c).ipl ≠ 0 ∧ (i = 5 ∨ i = 6)) ∧
    (∃ (s : State) (c ecc : Nat) (e : LoopEnt) (r : List LoopEnt), ecc < 3 ∧ DspAt s c .leave ∧ (dspOf s c).loops = e
      :: r) ∧
    (∃ (s : State) (c cc a ecc : Nat), ecc < 3 ∧ DspAt s c (.call cc a) ∧ (dspOf s c).rets.length < 16 ∧ condHolds
      (dspOf s c) cc = true) ∧
    (∃ (s : State) (c cc a ecc : Nat), ecc < 3 ∧ DspAt s c (.call cc a) ∧ (dspOf s c).rets.length < 16 ∧ condHolds
      (dspOf s c) cc = false) :=
  ⟨⟨(dk .ret |> withDsp 23 (fun x => { x with rets := [5, 7] })), 23, 0, 5#15, [7#15], by decide +kernel⟩,
    ⟨st281, 23, 0, 3, by decide +kernel⟩,
    ⟨st281, 23, 0, 5, by decide +kernel⟩,
    ⟨st282, 23, 0, ⟨4, 9, 3⟩, ([⟨2, 11, 3⟩]), by decide +kernel⟩,
    ⟨(dk (.call 0 9)), 23, 0, 9, 0, by decide +kernel⟩,
    ⟨(dk (.call 15 9)), 23, 15, 9, 0, by decide +kernel⟩⟩

theorem witness_CoreControlCommandsComplete_2 :
    (∃ (s : State) (c k len ecc : Nat) (reg : Bool), ecc < 3 ∧ DspAt s c (.loop reg k len) ∧ (dspOf s c).loops.length
      < 4 ∧ loopCount (dspOf s c) reg k = 0) ∧
    (∃ (s : State) (c k len ecc : Nat) (reg : Bool), ecc < 3 ∧ DspAt s c (.loop reg k len) ∧ (dspOf s c).loops.length
      < 4 ∧ loopCount (dspOf s c) reg k ≠ 0) ∧
    (∃ (s : State) (c k ecc : Nat) (reg : Bool), ecc < 3 ∧ DspAt s c (.rept reg k) ∧ (dspDecode (dspP s c ((dspOf s
      c).pc.toNat + 1))).any (fun op => op.isFlow) = false ∧ loopCount (dspOf s c) reg k = 0) ∧
    (∃ (s : State) (c k ecc : Nat) (reg : Bool), ecc < 3 ∧ DspAt s c (.rept reg k) ∧ (dspDecode (dspP s c ((dspOf s
      c).pc.toNat + 1))).any (fun op => op.isFlow) = false ∧ loopCount (dspOf s c) reg k ≠ 0) :=
  ⟨⟨(dk (.loop false 0 (1 + 13))), 23, 0, (1 + 13), 0, false, by decide +kernel⟩,
    ⟨(dk (.loop false 5 (1 + 13))), 23, 5, (1 + 13), 0, false, by decide +kernel⟩,
    ⟨(dk (.rept false 0)), 23, 0, 0, false, by decide +kernel⟩,
    ⟨(dk (.rept false 5)), 23, 5, 0, false, by decide +kernel⟩⟩

def st283 : State :=
  dk .nop |> withDsp 23 (fun x => { x with rept := some (2 + 0, true), loops := [⟨1, x.pc, 5⟩] })
def st284 : State :=
  dk .nop |> withDsp 23 (fun x => { x with rept := some (1, true), loops := [⟨1, x.pc + 1, 5⟩] })
def st285 : State :=
  dk .nop |> withDsp 23 (fun x => { x with loops := [⟨1, x.pc, 5⟩, ⟨1, x.pc, 1⟩] })
def st286 : State :=
  dk .nop |> withDsp 23 (fun x => { x with loops := [⟨1, x.pc, 1⟩, ⟨2, x.pc, 4⟩, ⟨3, x.pc, 5⟩] })
def st287 : State :=
  dk .nop |> withDsp 23 (fun x => { x with loops := [⟨1, x.pc, 1⟩] })
theorem witness_CoreLoopsAndRepeats :
    (∃ (s : State) (c ecc k : Nat) (b : Bool), ecc < 3 ∧ canGo s c = true ∧ dspDecode (pcWord s c) = some .nop ∧
      (dspOf s c).rept = some (k, b) ∧ 1 < k) ∧
    (∃ (s : State) (c ecc : Nat) (b : Bool), ecc < 3 ∧ canGo s c = true ∧ dspDecode (pcWord s c) = some .nop ∧ (dspOf
      s c).rept = some (1, b) ∧ (∀ e ∈ (dspOf s c).loops, e.last ≠ (dspOf s c).pc)) ∧
    (∃ (s : State) (c ecc : Nat) (e : LoopEnt) (r : List LoopEnt), ecc < 3 ∧ canGo s c = true ∧ dspDecode (pcWord s
      c) = some .nop ∧ (dspOf s c).rept = none ∧ (dspOf s c).loops = e :: r ∧ e.last = (dspOf s c).pc ∧ 1 < e.count) ∧
    (∃ (s : State) (c ecc : Nat) (e f : LoopEnt) (r : List LoopEnt), ecc < 3 ∧ canGo s c = true ∧ dspDecode (pcWord s
      c) = some .nop ∧ (dspOf s c).rept = none ∧ (dspOf s c).loops = e :: f :: r ∧ e.last = (dspOf s c).pc ∧ e.count
      = 1 ∧ f.last = (dspOf s c).pc ∧ 1 < f.count) ∧
    (∃ (s : State) (c ecc : Nat) (e : LoopEnt), ecc < 3 ∧ canGo s c = true ∧ dspDecode (pcWord s c) = some .nop ∧
      (dspOf s c).rept = none ∧ (dspOf s c).loops = [e] ∧ e.last = (dspOf s c).pc ∧ e.count = 1) :=
  ⟨⟨st283, 23, 0, (2 + 0), true, by decide +kernel⟩,
    ⟨st284, 23, 0, true, by decide +kernel⟩,
    ⟨st285, 23, 0, ⟨1, (dspOf st285 23).pc, 5⟩, ([⟨1, (dspOf st285 23).pc, 1⟩]), by decide +kernel⟩,
    ⟨st286, 23, 0, ⟨1, (dspOf st286 23).pc, 1⟩, ⟨2, (dspOf st286 23).pc, 4⟩, ([⟨3, (dspOf st286 23).pc, 5⟩]),
      by decide +kernel⟩,
    ⟨st287, 23, 0, ⟨1, (dspOf st287 23).pc, 1⟩, by decide +kernel⟩⟩

theorem witness_CoreDataAluCommandsComplete :
    (∃ (s : State) (c r imm ecc : Nat) (h : Bool) (k : _), ecc < 3 ∧ DspAt s c (.ldi 0 h r imm) ∧ k ≠ r) ∧
    (∃ (s : State) (c file r imm ecc : Nat), ecc < 3 ∧ DspAt s c (.ldi file false r imm) ∧ 1 ≤ file ∧ file = 1) ∧
    (∃ (s : State) (c file r imm ecc : Nat), ecc < 3 ∧ DspAt s c (.ldi file false r imm) ∧ 1 ≤ file ∧ file = 2) ∧
    (∃ (s : State) (c file r imm ecc : Nat), ecc < 3 ∧ DspAt s c (.ldi file false r imm) ∧ 1 ≤ file ∧ file = 3) :=
  ⟨⟨(dk (.ldi 0 false 6 7)), 23, 6, 7, 0, false, (6 + 1), by decide +kernel⟩,
    ⟨(dk (.ldi 1 false 7 8)), 23, 1, 7, 8, 0, by decide +kernel⟩,
    ⟨(dk (.ldi 2 false 7 8)), 23, 2, 7, 8, 0, by decide +kernel⟩,
    ⟨(dk (.ldi 3 false 7 8)), 23, 3, 7, 8, 0, by decide +kernel⟩⟩

theorem witness_CoreLaneCommandsComplete :
    (∃ (s : State) (c d e a b ecc : Nat) (i : _), ecc < 3 ∧ DspAt s c (.alu .bfly d a b 0 e) ∧ i < 2) ∧
    (∃ (s : State) (c d e a b ecc : Nat) (k : _), ecc < 3 ∧ DspAt s c (.alu .bfly d a b 0 e) ∧ k ≠ d ∧ k ≠ e) ∧
    (∃ (s : State) (c d e a b ecc : Nat) (i : _), ecc < 3 ∧ DspAt s c (.alu .bflyh d a b 0 e) ∧ i < 2) ∧
    (∃ (s : State) (c d e a b ecc : Nat) (k : _), ecc < 3 ∧ DspAt s c (.alu .bflyh d a b 0 e) ∧ k ≠ d ∧ k ≠ e) :=
  ⟨⟨(dk (.alu .bfly 6 0 1 0 7)), 23, 6, 7, 0, 1, 0, 1, by decide +kernel⟩,
    ⟨(dk (.alu .bfly 6 0 1 0 7)), 23, 6, 7, 0, 1, 0, 9, by decide +kernel⟩,
    ⟨(dk (.alu .bflyh 6 0 1 0 7)), 23, 6, 7, 0, 1, 0, 1, by decide +kernel⟩,
    ⟨(dk (.alu .bflyh 6 0 1 0 7)), 23, 6, 7, 0, 1, 0, 9, by decide +kernel⟩⟩

theorem witness_CoreAccumulatorCommandsComplete :
    (∃ (s : State) (c k j a b sh ecc : Nat) (i : _), ecc < 3 ∧ DspAt s c (.acc .cmpa k j a b sh) ∧ i ≠ 2 ∧ i ≠ 3 ∧ i
      ≠ 4) :=
  ⟨(dk (.acc .cmpa 2 3 0 1 10)), 23, 2, 3, 0, 1, 10, 0, 12, by decide +kernel⟩

def st288 : State :=
  dk (.wrs 0x32 3) |> withDsp 23 (fun x =>
    { x with d := vset x.d 3 (BitVec.ofNat 32 (1 + 0)), sys := [(0x30, 77), (0x31, 99)] })
def st289 : State :=
  dk (.wrs 0x32 3) |> withDsp 23 (fun x => { x with bus := .asked true 4 5 })
def st290 : State :=
  dk (.rds 3 0x31) |> withDsp 23 (fun x => { x with bus := .asked true 4 5 })
def st291 : State :=
  dk (.rds 6 (([0,1,2,3,4,5,6,7,8,9,10,11,12,13,16,17,18,19,20,21,22,23,24,32,37,38,48,49,50,51].getD 0 0)))
theorem witness_CoreMoveCommandsComplete :
    (∃ (s : State) (c sp r p md imm ecc : Nat), ecc < 3 ∧ DspAt s c (.ld sp r p md imm) ∧ r ≠ 8 + p) ∧
    (∃ (s : State) (c sp r p md imm ecc : Nat) (k : _), ecc < 3 ∧ DspAt s c (.st sp r p md imm) ∧ k < 24 ∧ k ≠ c) ∧
    (∃ (s : State) (c dst src ecc : Nat) (i : _), ecc < 3 ∧ DspAt s c (.mov dst src) ∧ i ≠ 5) ∧
    (∃ (s : State) (c d q ecc : Nat) (i : _), ecc < 3 ∧ DspAt s c (.pack d q) ∧ i < 2) ∧
    (∃ (s : State) (c d q ecc : Nat) (k : _), ecc < 3 ∧ DspAt s c (.pack d q) ∧ k ≠ d) ∧
    (∃ (s : State) (c d k ecc : Nat) (j : _), ecc < 3 ∧ DspAt s c (.mov16 d k) ∧ j ≠ d) :=
  ⟨⟨(dk (.ld 0 5 0 1 (if 1 = 3 then 10 else 0))), 23, 0, 5, 0, 1, (if 1 = 3 then 10 else 0), 0, by decide +kernel⟩,
    ⟨(dk (.st 0 5 0 1 (if 1 = 3 then 10 else 0))), 23, 0, 5, 0, 1, (if 1 = 3 then 10 else 0), 0, 2,
      by decide +kernel⟩,
    ⟨(dk (.mov 6 7)), 23, 6, 7, 0, 3, by decide +kernel⟩,
    ⟨(dk (.pack 6 1)), 23, 6, 1, 0, 1, by decide +kernel⟩,
    ⟨(dk (.pack 6 1)), 23, 6, 1, 0, (6 + 1), by decide +kernel⟩,
    ⟨(dk (.mov16 6 3)), 23, 6, 3, 0, (6 + 1), by decide +kernel⟩⟩

theorem witness_CoreMoveCommandsComplete_2 :
    (∃ (s : State) (c sys d ecc : Nat), ecc < 3 ∧ DspAt s c (.wrs sys d) ∧ ((sys = 0 ∨ sys = 1 ∨ sys = 2 ∨ sys = 4 ∨
      sys = 6 ∨ sys = 7 ∨ sys = 0x16 ∨ sys = 0x18 ∨ sys = 0x30 ∨ sys = 0x31 ∨ (0x20 ≤ sys ∧ sys ≤ 0x24) ∨ (0x28 ≤ sys
      ∧ sys ≤ 0x2C))) ∧ sys = 0) ∧
    (∃ (s : State) (c sys d ecc : Nat), ecc < 3 ∧ DspAt s c (.wrs sys d) ∧ ((sys = 0 ∨ sys = 1 ∨ sys = 2 ∨ sys = 4 ∨
      sys = 6 ∨ sys = 7 ∨ sys = 0x16 ∨ sys = 0x18 ∨ sys = 0x30 ∨ sys = 0x31 ∨ (0x20 ≤ sys ∧ sys ≤ 0x24) ∨ (0x28 ≤ sys
      ∧ sys ≤ 0x2C))) ∧ sys = 1) ∧
    (∃ (s : State) (c sys d ecc : Nat), ecc < 3 ∧ DspAt s c (.wrs sys d) ∧ ((sys = 0 ∨ sys = 1 ∨ sys = 2 ∨ sys = 4 ∨
      sys = 6 ∨ sys = 7 ∨ sys = 0x16 ∨ sys = 0x18 ∨ sys = 0x30 ∨ sys = 0x31 ∨ (0x20 ≤ sys ∧ sys ≤ 0x24) ∨ (0x28 ≤ sys
      ∧ sys ≤ 0x2C))) ∧ sys = 2) ∧
    (∃ (s : State) (c sys d ecc : Nat), ecc < 3 ∧ DspAt s c (.wrs sys d) ∧ ((sys = 0 ∨ sys = 1 ∨ sys = 2 ∨ sys = 4 ∨
      sys = 6 ∨ sys = 7 ∨ sys = 0x16 ∨ sys = 0x18 ∨ sys = 0x30 ∨ sys = 0x31 ∨ (0x20 ≤ sys ∧ sys ≤ 0x24) ∨ (0x28 ≤ sys
      ∧ sys ≤ 0x2C))) ∧ sys = 4) ∧
    (∃ (s : State) (c sys d ecc : Nat), ecc < 3 ∧ DspAt s c (.wrs sys d) ∧ ((sys = 0 ∨ sys = 1 ∨ sys = 2 ∨ sys = 4 ∨
      sys = 6 ∨ sys = 7 ∨ sys = 0x16 ∨ sys = 0x18 ∨ sys = 0x30 ∨ sys = 0x31 ∨ (0x20 ≤ sys ∧ sys ≤ 0x24) ∨ (0x28 ≤ sys
      ∧ sys ≤ 0x2C))) ∧ sys = 6) ∧
    (∃ (s : State) (c sys d ecc : Nat), ecc < 3 ∧ DspAt s c (.wrs sys d) ∧ ((sys = 0 ∨ sys = 1 ∨ sys = 2 ∨ sys = 4 ∨
      sys = 6 ∨ sys = 7 ∨ sys = 0x16 ∨ sys = 0x18 ∨ sys = 0x30 ∨ sys = 0x31 ∨ (0x20 ≤ sys ∧ sys ≤ 0x24) ∨ (0x28 ≤ sys
      ∧ sys ≤ 0x2C))) ∧ sys = 7) :=
  ⟨⟨(dk (.wrs 0 7)), 23, 0, 7, 0, by decide +kernel⟩,
    ⟨(dk (.wrs 1 7)), 23, 1, 7, 0, by decide +kernel⟩,
    ⟨(dk (.wrs 2 7)), 23, 2, 7, 0, by decide +kernel⟩,
    ⟨(dk (.wrs 4 7)), 23, 4, 7, 0, by decide +kernel⟩,
    ⟨(dk (.wrs 6 7)), 23, 6, 7, 0, by decide +kernel⟩,
    ⟨(dk (.wrs 7 7)), 23, 7, 7, 0, by decide +kernel⟩⟩

theorem witness_CoreMoveCommandsComplete_3 :
    (∃ (s : State) (c sys d ecc : Nat), ecc < 3 ∧ DspAt s c (.wrs sys d) ∧ ((sys = 0 ∨ sys = 1 ∨ sys = 2 ∨ sys = 4 ∨
      sys = 6 ∨ sys = 7 ∨ sys = 0x16 ∨ sys = 0x18 ∨ sys = 0x30 ∨ sys = 0x31 ∨ (0x20 ≤ sys ∧ sys ≤ 0x24) ∨ (0x28 ≤ sys
      ∧ sys ≤ 0x2C))) ∧ 0x16 ≤ sys) ∧
    (∃ (s : State) (c sys d ecc : Nat), ecc < 3 ∧ DspAt s c (.wrs sys d) ∧ ((sys = 0x32 → (dspOf s c).bus = .idle)) ∧
      sys = 3) ∧
    (∃ (s : State) (c sys d ecc : Nat), ecc < 3 ∧ DspAt s c (.wrs sys d) ∧ ((sys = 0x32 → (dspOf s c).bus = .idle)) ∧
      sys = 5) ∧
    (∃ (s : State) (c sys d ecc : Nat), ecc < 3 ∧ DspAt s c (.wrs sys d) ∧ ((sys = 0x32 → (dspOf s c).bus = .idle)) ∧
      0x17 ≤ sys ∧ sys ≤ 0x1F) ∧
    (∃ (s : State) (c sys d ecc : Nat), ecc < 3 ∧ DspAt s c (.wrs sys d) ∧ ((sys = 0x32 → (dspOf s c).bus = .idle)) ∧
      sys = 0x32 ∧ ((dspOf s c).dw d = 1 ∨ (dspOf s c).dw d = 2)) ∧
    (∃ (s : State) (c sys d ecc : Nat), ecc < 3 ∧ DspAt s c (.wrs sys d) ∧ ((sys = 0x32 → (dspOf s c).bus = .idle)) ∧
      0x40 ≤ sys ∧ sys ≤ 0x4F ∧ (bank s (dspAgent c)).tx.length = 16) :=
  ⟨⟨(dk (.wrs 0x16 7)), 23, 0x16, 7, 0, by decide +kernel⟩,
    ⟨(dk (.wrs 3 7)), 23, 3, 7, 0, by decide +kernel⟩,
    ⟨(dk (.wrs 5 7)), 23, 5, 7, 0, by decide +kernel⟩,
    ⟨(dk (.wrs (0x17 + 0) 7)), 23, (0x17 + 0), 7, 0, by decide +kernel⟩,
    ⟨st288, 23, 0x32, 3, 0, by decide +kernel⟩,
    ⟨(dk (.wrs (0x40 + 0) 7)), 23, (0x40 + 0), 7, 0, by decide +kernel⟩⟩

theorem witness_CoreMoveCommandsComplete_4 :
    (∃ (s : State) (c d ecc : Nat), ecc < 3 ∧ DspAt s c (.wrs 0x32 d) ∧ (dspOf s c).bus ≠ .idle) ∧
    (∃ (s : State) (c d ecc : Nat), ecc < 3 ∧ DspAt s c (.rds d 0x31) ∧ (dspOf s c).bus ≠ .idle) ∧
    (∃ (s : State) (c d sys ecc : Nat) (k : _), ecc < 3 ∧ DspAt s c (.rds d sys) ∧ ((sys = 0x31 → (dspOf s c).bus =
      .idle)) ∧ k ≠ d) :=
  ⟨⟨st289, 23, 3, 0, by decide +kernel⟩,
    ⟨st290, 23, 3, 0, by decide +kernel⟩,
    ⟨st291, 23, 6, (([0,1,2,3,4,5,6,7,8,9,10,11,12,13,16,17,18,19,20,21,22,23,24,32,37,38,48,49,50,51].getD 0 0)), 0,
      (6 + 1), by decide +kernel⟩⟩

def st292 : State :=
  dk (.strIn (.reg 5) 0) |> withDspIn 23 0 (fun q =>
    { q with items := (⟨0xFFFFFFFE :: [], true, false, false, 3⟩) :: ([⟨[1], false, false, false, 3⟩]) })
def st293 : State :=
  dk (.strIn (.mem (0 / 0) 5 2) 0) |> withDspIn 23 0 (fun q =>
    { q with items := (⟨0xFFFFFFFE :: [], true, false, false, 3⟩) :: ([⟨[1], false, false, false, 3⟩]) })
def st294 : State :=
  dk (.strOut (.reg 5) 0) |> withDspOut 23 0 (fun q =>
    { q with cur := some (⟨[1, 2], ⟨0, 0, 0⟩, 0, 0, 7, false, false, none, false⟩) })
def st295 : State :=
  dk (.strOut (.mem (0 / 0) 5 2) 0) |> withDspOut 23 0 (fun q =>
    { q with cur := some (⟨List.replicate 4095 1, ⟨0, 0, 0⟩, 0, 0, 7, false, false, none, false⟩) })
def st296 : State :=
  dk (.strOut (.reg 3) 0) |> withDspOut 23 0 (fun q =>
    { q with cur := some (⟨List.replicate 4096 1, ⟨0, 0, 0⟩, 0, 0, 7, false, false, none, false⟩) })
def st297 : State :=
  dk (.strOut (.reg 3) 0) |> withPlan (fun p =>
    { p with offered := [{ itm 1 with src := 0x177, stream := 0, payload := List.replicate 8200 0 }] })
def st298 : State :=
  dk (.close 0) |> withDspOut 23 0 (fun q =>
    { q with cur := some (⟨[1, 2], ⟨0, 0, 0⟩, 0, 0, 7, false, true, none, false⟩), seq := 2 ^ 48 - 1 })
def st299 : State :=
  dk (.skipi 0) |> withDspIn 23 0 (fun q =>
    { q with items := (⟨[1, 2], true, false, false, 3⟩) :: ([⟨[1], false, false, false, 3⟩]) })
theorem witness_CoreStreamCommandsComplete :
    (∃ (s : State) (c n d ecc : Nat) (i : DspItem) (rest : List DspItem) (w : Word) (ws : List Word), ecc < 3 ∧ DspAt
      s c (.strIn (.reg d) n) ∧ (dspIn s c n).items = i :: rest ∧ i.words = w :: ws) ∧
    (∃ (s : State) (c n sp p md ecc : Nat) (i : DspItem) (rest : List DspItem) (w : Word) (ws : List Word), ecc < 3 ∧
      DspAt s c (.strIn (.mem sp p md) n) ∧ (dspIn s c n).items = i :: rest ∧ i.words = w :: ws) ∧
    (∃ (s : State) (c n ecc : Nat) (a : StrArg), ecc < 3 ∧ DspAt s c (.strIn a n) ∧ (dspIn s c n).items = [] ∧ ustate
      s (dspUnit c) = .running) ∧
    (∃ (s : State) (c n ecc : Nat) (a : StrArg), ecc < 3 ∧ DspAt s c (.strIn a n) ∧ (dspIn s c n).items = [] ∧ ustate
      s (dspUnit c) = .draining) ∧
    (∃ (s : State) (c n d ecc : Nat), ecc < 3 ∧ DspAt s c (.strOut (.reg d) n) ∧ (dspOut s c n).cur = none ∧ soutFree
      s c n ≠ 0) ∧
    (∃ (s : State) (c n d ecc : Nat) (o : DspOpen), ecc < 3 ∧ DspAt s c (.strOut (.reg d) n) ∧ (dspOut s c n).cur =
      some o ∧ o.words.length < 4096 ∧ soutFree s c n ≠ 0) :=
  ⟨⟨st292, 23, 0, 5, 0, (⟨0xFFFFFFFE :: [], true, false, false, 3⟩), ([⟨[1], false, false, false, 3⟩]), 0xFFFFFFFE,
      [], by decide +kernel⟩,
    ⟨st293, 23, 0, (0 / 0), 5, 2, 0, (⟨0xFFFFFFFE :: [], true, false, false, 3⟩), ([⟨[1], false, false, false, 3⟩]),
      0xFFFFFFFE, [], by decide +kernel⟩,
    ⟨(dk (.strIn (.reg 3) 0)), 23, 0, 0, (.reg 3), by decide +kernel⟩,
    ⟨(dk (.strIn (.reg 3) 0) |> on 0x177 .draining), 23, 0, 0, (.reg 3), by decide +kernel⟩,
    ⟨(dk (.strOut (.reg 5) 0)), 23, 0, 5, 0, by decide +kernel⟩,
    ⟨st294, 23, 0, 5, 0, (⟨[1, 2], ⟨0, 0, 0⟩, 0, 0, 7, false, false, none, false⟩), by decide +kernel⟩⟩

theorem witness_CoreStreamCommandsComplete_2 :
    (∃ (s : State) (c n sp p md ecc : Nat), ecc < 3 ∧ DspAt s c (.strOut (.mem sp p md) n) ∧ (dspOut s c n).cur =
      none ∧ soutFree s c n ≠ 0) ∧
    (∃ (s : State) (c n sp p md ecc : Nat) (o : DspOpen), ecc < 3 ∧ DspAt s c (.strOut (.mem sp p md) n) ∧ (dspOut s
      c n).cur = some o ∧ o.words.length < 4096 ∧ soutFree s c n ≠ 0) ∧
    (∃ (s : State) (c n ecc : Nat) (a : StrArg) (o : DspOpen), ecc < 3 ∧ DspAt s c (.strOut a n) ∧ (dspOut s c n).cur
      = some o ∧ 4096 ≤ o.words.length) ∧
    (∃ (s : State) (c n ecc : Nat) (a : StrArg), ecc < 3 ∧ DspAt s c (.strOut a n) ∧ (dspOut s c n).cur.all (fun o =>
      decide (o.words.length < 4096)) = true ∧ soutFree s c n = 0) ∧
    (∃ (s : State) (c n ecc : Nat) (o : DspOpen), ecc < 3 ∧ DspAt s c (.close n) ∧ (dspOut s c n).cur = some o) ∧
    (∃ (s : State) (c n ecc : Nat), ecc < 3 ∧ DspAt s c (.close n) ∧ (dspOut s c n).cur = none) :=
  ⟨⟨(dk (.strOut (.mem (0 / 0) 5 2) 0)), 23, 0, (0 / 0), 5, 2, 0, by decide +kernel⟩,
    ⟨st295, 23, 0, (0 / 0), 5, 2, 0, (⟨List.replicate 4095 1, ⟨0, 0, 0⟩, 0, 0, 7, false, false, none, false⟩),
      by decide +kernel⟩,
    ⟨st296, 23, 0, 0, (.reg 3), (⟨List.replicate 4096 1, ⟨0, 0, 0⟩, 0, 0, 7, false, false, none, false⟩),
      by decide +kernel⟩,
    ⟨st297, 23, 0, 0, (.reg 3), by decide +kernel⟩,
    ⟨st298, 23, 0, 0, (⟨[1, 2], ⟨0, 0, 0⟩, 0, 0, 7, false, true, none, false⟩), by decide +kernel⟩,
    ⟨(dk (.close 0)), 23, 0, 0, by decide +kernel⟩⟩

theorem witness_CoreStreamCommandsComplete_3 :
    (∃ (s : State) (c n ecc : Nat) (i : DspItem) (rest : List DspItem), ecc < 3 ∧ DspAt s c (.skipi n) ∧ (dspIn s c
      n).items = i :: rest) ∧
    (∃ (s : State) (c n ecc : Nat), ecc < 3 ∧ DspAt s c (.skipi n) ∧ (dspIn s c n).items = []) :=
  ⟨⟨st299, 23, 0, 0, (⟨[1, 2], true, false, false, 3⟩), ([⟨[1], false, false, false, 3⟩]), by decide +kernel⟩,
    ⟨(dk (.skipi 0)), 23, 0, 0, by decide +kernel⟩⟩


/-- Parallel moves for the tests: a load from P1 and a store through P2. -/
def mvIn : Option PMove := some ⟨false, 1, 2, 3⟩
def mvOut : Option PMove := some ⟨true, 2, 3, 1⟩

/-- One of each instruction whose statement asks no more than that the core is about to issue it. -/
def plainOps : List DspOp :=
  ([.nop, .halt, .wait, .tflg 1 2, .bri 6 7, .br 6 9, .ldi 0 true 6 7,
   .acc .clr 2 3 0 1 63, .acc .adda 2 3 0 1 0, .acc .suba 2 3 0 1 0, .acc .tfra 2 3 0 1 0, .acc .nega 2 3 0 1 0,
   .acc .absa 2 3 0 1 0, .acc .asla 2 3 0 1 63, .acc .asra 2 3 0 1 63, .acc .addd 2 3 0 1 0, .acc .subd 2 3 0 1 0,
   .acc .sata 2 3 0 1 0, .acc .cmpa 2 3 0 1 0, .acc .mpyi 2 3 0 1 0, .acc .maci 2 3 0 1 0,
   .frac .mac 2 7 0 mvIn mvOut, .frac .msu 2 7 0 mvIn mvOut, .frac .mpy 2 7 0 none mvIn, .frac .move 0 0 0 mvIn mvIn,
   .quad .qmac 1 7 0 1 0 mvIn, .quad .qmsu 1 7 0 1 1 mvOut, .quad .qmpy 1 7 0 1 0 none,
   .cplx .cmac 0 7 0 mvIn mvOut, .cplx .cmsu 0 7 0 mvIn mvOut, .cplx .cmpy 0 7 0 none mvIn,
   .cplx .cmacj 1 7 0 mvOut none, .cplx .cmpyj 1 7 0 none none,
   .ld 2 47 0 3 511, .st 0 5 7 1 0, .mov 6 47, .pack 6 1, .mov16 6 3, .tap true false 2 7 0 2 2 4 0] : List DspOp) ++
    ([.add, .sub, .adds, .subs, .and, .or, .xor, .min, .max, .add2, .sub2, .add2h, .sub2h] : List AluOp).map
      (fun o => .alu o 6 7 0 0 0) ++
    ([.not, .neg, .abs] : List AluOp).map (fun o => .alu o 6 7 0 0 0) ++
    ([.asl, .asr, .lsr] : List AluOp).map (fun o => .alu o 6 7 0 31 0) ++
    ([.alu .cmp 0 6 7 0 0, .alu .addi 6 7 0 511 0, .alu .cmpi 0 6 0 256 0, .alu .bfly 6 0 1 0 7, .alu .bflyh 6 0 1 0 7] : List DspOp)

theorem witness_DspAt : (plainOps.all fun op => decide (DspAt (dk op) 23 op)) = true := by decide +kernel

/-- A LOAD_HOST of the image in its fetch phase; the stacks are frozen, which drops the staged copy and keeps the test
short. -/
def imgLoad : State :=
  { imgUp with plan := { imgUp.plan with load := some ⟨0x01, 0, 1024, none, [], [], [], false⟩ } } |> setPhase 1 |>
    setF .hbmStackStatus 0 0 0 3 5 |> setF .hbmStackStatus 1 0 0 3 5

/-- imgLoad when the loader's write has woken the PCs that it touches; both stacks are frozen and drop it. -/
def imgKept : State :=
  let ps := pcsTouched imgLoad (loaderAddr imgLoad) 1024
  ps.foldl (fun s p => if sstate s (p / 32) = 5 then bump .hbmPcCount p 2 1 s
    else if fencedPc s p then raiseRated 0x0C0D (pcUnit p) [] 1 (bump .hbmPcCount p 3 1 s) else s) (wakePcs ps imgLoad)

theorem pokes_dropped {s : State} (h : ∀ a, dropsWrites s (placeNow s a).1 = true) :
    ∀ (bs : List Byte) (a : Nat), hbmPokes a bs s = s
  | [], _ => rfl
  | b :: r, a => by simp [hbmPokes, hbmPoke, h, pokes_dropped h r]

theorem imgKept_drops : ∀ p ∈ 0 :: pcsNow imgKept, dropsWrites imgKept p = true := by decide +kernel


theorem getD_mem (l : List Nat) (i : Nat) : l.getD i 0 ∈ 0 :: l := by
  rcases Nat.lt_or_ge i l.length with h | h
  · rw [List.getD_eq_getElem l 0 h]; exact List.mem_cons_of_mem _ (List.getElem_mem h)
  · rw [List.getD_eq_default l 0 h]; exact List.mem_cons_self

theorem place_mem (o : Nat) (l : List Nat) (a : Nat) : (hbmPlace o l a).1 ∈ 0 :: l := by
  unfold hbmPlace; split <;> exact getD_mem _ _

theorem imgLoad_write : hbmWrite (loaderAddr imgLoad) imgAll imgLoad = imgKept := by
  have hn : imgAll.length = 1024 := by decide +kernel
  unfold hbmWrite
  rw [hn]
  exact pokes_dropped (s := imgKept) (fun a => imgKept_drops _ (place_mem _ _ a)) _ _

theorem imgSig_good : signatureFail imgKept.fuse imgAll = none := by decide +kernel

theorem image_accepted : (checkImage (hbmWrite (loaderAddr imgLoad) imgAll imgLoad) 1024 imgAll).toBool = true := by
  rw [imgLoad_write]
  unfold checkImage
  rw [imgSig_good]
  decide +kernel

theorem ok_of_toBool {α β : Type} : ∀ {e : Except α β}, e.toBool = true → ∃ p, e = .ok p
  | .ok p, _ => ⟨p, rfl⟩

theorem witness_PlanFetchAccepted :
    ∃ (s : State) (j : LoadJob) (b bytes : List Byte) (n : Nat) (p : PlanImg), s.plan.load = some j ∧ planPhase s = 1 ∧
      loadFetched s j bytes true = .ok (b, n) ∧ checkImage (hbmWrite (loaderAddr s) b s) n b = .ok p := by
  obtain ⟨p, hp⟩ := ok_of_toBool image_accepted
  have h : loadFetched imgLoad ⟨0x01, 0, 1024, none, [], [], [], false⟩ imgAll true = .ok (imgAll, 1024) := by
    decide +kernel
  exact ⟨imgLoad, ⟨0x01, 0, 1024, none, [], [], [], false⟩, imgAll, imgAll, 1024, p, rfl, by decide +kernel, h, hp⟩

theorem witness_StepKeepsInvariant :
    ∃ (s t : State), MachineInv s ∧ Machine.step s = .next t :=
  ⟨{ State.reset with pending := [.fusePhaseDone] }, _, by decide +kernel, rfl⟩

theorem witness_QuietCommandsKeepMemory :
    ∃ (c : Instr) (s t : State), QuietHbm c = true ∧ exec c s = .next t :=
  ⟨.rcRegisterRead 0x01 (Reg.off .acqCount 3 7), up |> on 0x0E3 .running, _, rfl, rfl⟩

theorem witness_EventsOnlyGrow :
    ∃ (c : Instr) (s t : State), KeepsHistory c = true ∧ exec c s = .next t :=
  ⟨.unitStart 0x01 0x0E3, up |> on 0x0E3 .ready, _, rfl, rfl⟩

theorem witness_DspDecodeEncode : ∃ op : DspOp, op.fits = true := ⟨.nop, by decide⟩

theorem witness_DspEncodeDecode : ∃ (w : Word) (op : DspOp), dspDecode w = some op := ⟨0, .nop, by decide⟩

/-! Well-formedness: one ill-formed command for each check, which the check refuses, and well-formed ones it accepts. -/

theorem test_wf_refuses :
    (([.registerWrite 0x02F 0 0 0 true, .registerWrite 0x01 2 0 0 true, .registerWrite 0x01 0x4000000 0 0 true,
       .registerWrite 0x01 0 0 4 true, .rcRegisterRead 0x00 0, .resetNRelease 64 0, .resetNRelease 0 8,
       .functionLevelReset 16, .mcFirmwareLoaded 2 true true, .unitStart 0x01 0x024, .stateSkew 0x020 0 16,
       .fabricItem 0 [] 3, .loadFlash 0x01 2, .synLockAcquired 6 0, .sysrefFire 0x01 4 0, .laneCdrLocked 0 8,
       .ilasMultiframe 0 0 [] 0 true, .ilasMultiframe 0 0 (List.replicate 13 0) 256 true,
       .sysrefEdge 0 (List.replicate 9 0) [], .sysrefEdge 0 [] (List.replicate 9 0), .groupAlignTimeout 4,
       .tunerInputParcel 16, .tunCommitApply 0 (2 ^ 88), .chzInput 4, .firCoefWrite 0x01 0 1024 0,
       .specInput 4 0, .specInput 0 2, .evtInEdge 8 true 0 true true, .evtInEdge 0 true (2 ^ 112) true true, .weirOccurrence 16,
       .trigOutPulseEnd 8, .acqStart 0x01 4, .acqChunk 0 5 0 true false [], .dispUnderrun 65536, .trainingDone true 2 0] :
       List Instr).all fun i => !i.wf) = true := by decide

theorem test_wf_refuses_too :
    (([.trainingDone true 0 4, .auxDone 4 [], .auxDone 0 [0, 0, 0, 0, 0], .tdcMeasEnable 0x01 16, .tdcBlockFlush 9,
       .dspInputItem 24 0, .dspInputItem 0 2, .dmaStart 0 2 0, .dmaAbort 0 0 65536 0, .dspNop 24 0,
       .dspNop 0 4, .dspAdd 0 8 0 0 0, .dspLdi 0 1 true 0 0 0, .dspTap 0 true true 0 1 0 1 0 2 0 0, .hbmTrained 2 [] [] 0,
       .hbmMemoryItem 16 0 [] [], .hbmMemoryItem 0 4 [] [], .hbmTempRead 0 (-129), .hbmTempRead 0 128,
       .hbmRefreshDue 64 [], .hbmRefreshDue 0 [48], .hostLinkChange true 8 1 false 0 [] [], .hostLinkChange true 1 17 false 0 [] [],
       .hostLinkChange true 1 1 false 8 [] [], .hostLinkChange true 1 1 false 0 [16] [], .hostLinkChange true 1 1 false 0 [] [0],
       .windowAccess 0 false 0 4097 [] [], .windowAccess 0 true 0 1 (List.replicate 4097 0) [], .hostItem 8 0,
       .hostItem 0 256, .freeTailWrite 0x01 4096 0, .freeTailWrite 0x01 0 65536, .freeEntryFetched 0 (2 ^ 64) 0 0,
       .freeEntryFetched 0 0 (2 ^ 32) 0, .cplHeadWrite 0x01 0 65536, .cvRxpop 0x01 64 0, .dbRing 0x01 8 0,
       .headgateRead 0x01 32 [], .headgateRead 0x01 0 [0x00], .smbSetAddr 2 true, .smbSetAddr 0x4000000 true,
       .calRetrim 0x01 128, .pwrWake 64, .thermalSample [], .virtualFunctionDisable 0, .dispLineStart 128 [],
       .routeCreditRecovered 1024 [] 0] :
       List Instr).all fun i => !i.wf) = true := by decide

theorem test_wf_accepts :
    (([.registerWrite 0x47 0x3FFFFFC 0xFFFFFFFF 3 false, .unitStart 0x51 0x250, .thermalSample (List.replicate 8 0),
       .dspTap 23 true true 3 1 3 2 3 4 3 3, .hbmTempRead 1 (-128), .cplHeadWrite 0x10 4095 65535,
       .headgateRead 0x21 31 [0x59, 0x30]] : List Instr).all fun i => i.wf) = true := by decide

/-! Steps. -/

/-- The command at the front runs, the rest of the queue stays. -/
theorem test_step_front :
    Machine.step { (up |> on 0x0E3 .ready) with pending := [.unitStart 0x01 0x0E3, .refLost] } =
      exec (.unitStart 0x01 0x0E3) { (up |> on 0x0E3 .ready) with pending := [.refLost] } := rfl

/-- No row of the command table gives bits. -/
theorem test_no_table_word : decodeTableWord 32 0x40000000 = none ∧ State.reset.withFetchWord 32 0 = State.reset := ⟨rfl, rfl⟩

/-! Worked examples of the spec, and published check values. -/

/-- 09, the example after R361: FRAMES 4 gives DECAY 55,109, and 1,000 is swept to 840, 706, 593 and 498. -/
theorem test_decay :
    decayOf 4 = 55109 ∧ 1000 * 55109 / 65536 = 840 ∧ 840 * 55109 / 65536 = 706 ∧ 706 * 55109 / 65536 = 593 ∧
      593 * 55109 / 65536 = 498 := by decide +kernel

/-- 12, the example of R432: A0 = 0x00_4000_0000_8000_0000 at SCALE 1, 0 and -1, and -1 at SCALE 0. -/
theorem test_high_part :
    let x : Nat → Dsp := fun st => { Dsp.reset with a := vset Dsp.reset.a 0 0x004000000080000000, stat := BitVec.ofNat 32 (st * 128) }
    (regRead (x 1) 44 = (0x7FFFFFFF, true) ∧ regRead (x 0) 44 = (0x40000000, false) ∧ regRead (x 7) 44 = (0x20000000, false)) ∧
      regRead { Dsp.reset with a := vset Dsp.reset.a 0 (BitVec.ofInt 72 (-1)) } 44 = (0xFFFFFFFF, false) := by
  decide +kernel

/-- 12, the example of R433: bit-reversed addressing of 8 words, and circular addressing of 10. -/
theorem test_address_modes :
    let x : Dsp := { Dsp.reset with p := vset Dsp.reset.p 0 0x100, m := vset Dsp.reset.m 0 4, l := vset Dsp.reset.l 0 8, amr := 2 }
    let y : Dsp := { Dsp.reset with p := vset Dsp.reset.p 1 0x205, m := vset Dsp.reset.m 1 3, l := vset Dsp.reset.l 1 10, amr := 4 }
    let f := fun (n : Nat) (x : Dsp) => postMod n 2 (-1) false x
    (f 0 x).pn 0 = 0x104 ∧ (f 0 (f 0 x)).pn 0 = 0x102 ∧ (f 0 (f 0 (f 0 x))).pn 0 = 0x106 ∧
      (f 0 (f 0 (f 0 (f 0 x)))).pn 0 = 0x101 ∧ (f 1 y).pn 1 = 0x208 ∧ (f 1 (f 1 y)).pn 1 = 0x201 := by decide +kernel

/-- 13, the example encodings before R481. -/
theorem test_listing_words :
    dspDecode 0x28010000 = some (.rept false 64) ∧ dspDecode 0x20100000 = some (.loop false 1024 1) ∧
      dspDecode 0x90286200 = some (.tap false false 0 1 1 0 1 4 1) ∧
      dspDecode 0x982A5A00 = some (.tap true false 0 1 1 2 1 3 1) ∧ dspDecode 0x84280000 = some (.cplx .cmpy 0 1 2 none none) ∧
      dspDecode 0xB3000003 = some (.pack 3 0) ∧ dspDecode 0xC20000A0 = some (.strIn (.mem 0 2 2) 0) := by decide +kernel

/-- 14, the example of the predictor: residuals 100, -20, 3, -2 are stored as 200, 39, 6, 3. -/
theorem test_prediction :
    predict 5 (leBytes 2 100 ++ leBytes 2 (65536 - 20) ++ leBytes 2 103 ++ leBytes 2 (65536 - 22)) =
      leBytes 2 200 ++ leBytes 2 39 ++ leBytes 2 6 ++ leBytes 2 3 := by decide +kernel

/-- 15, the example of R512: PC, bank, row and column byte of 0x1_2345_6780 under orders 0 and 2. -/
theorem test_address_map :
    hbmPlace 0 (List.range 64) 0x123456780 = (39, 21, 1553, 384) ∧
      hbmPlace 2 (List.range 64) 0x123456780 = (6, 3, 4441, 896) := by decide +kernel

/-- The published CRC-32C of the nine digits "123456789". -/
theorem test_crc32c : crc32c [0x31, 0x32, 0x33, 0x34, 0x35, 0x36, 0x37, 0x38, 0x39] = 0xE3069283 := by decide +kernel

/-- The published SHA-384 of the three bytes "abc" (FIPS 180). -/
theorem test_sha384 :
    sha384 [0x61, 0x62, 0x63] =
      0xcb00753f45a35e8bb5a03d699ac65007272c32ab0eded1631a8b605a43ff5bed8086072ba1e7cc2358baeca134c825a7 := by
  decide +kernel

end Sys2Proof.Tests
end

section
/-! SUPPORT. Where registers and unit headers lie: a register word is found where it lies, and the header of a unit lies
in the unit's own register set, clear of every register word (24 R691, R692, R696). -/

namespace Sys2Proof.Machine

/-! Register words. -/

/-- A register is found at the offset of one of its words alone. -/
theorem hit?_eq_some {off i j : Nat} {q r : Reg} (h : Reg.hit? off q = some (r, i, j)) :
    r = q ∧ i < r.info.n1 ∧ j < r.info.n2 ∧ off = r.off i j := by
  simp only [Reg.hit?, Option.ite_none_left_eq_some, Option.ite_none_right_eq_some, Option.some.injEq,
    Prod.mk.injEq] at h
  obtain ⟨hb, ⟨hi, hj, he⟩, rfl, rfl, rfl⟩ := h
  refine ⟨rfl, hi, hj, ?_⟩
  have hle : (if q.info.s1 = 0 then 0 else (off - q.info.base) / q.info.s1) * q.info.s1 ≤ off - q.info.base := by
    split
    · simp
    · exact Nat.div_mul_le_self _ _
  unfold Reg.off
  omega

/-- What regAt finds at an offset lies there. -/
theorem regAt_off {off i j : Nat} {r : Reg} (h : regAt off = some (r, i, j)) : off = r.off i j := by
  obtain ⟨q, -, hq⟩ := List.exists_of_findSome?_eq_some h
  exact (hit?_eq_some hq).2.2.2

/-- A word of another register lies elsewhere. -/
theorem off_ne_of_regAt {i j m n : Nat} {r q : Reg} (h : regAt (r.off i j) = some (r, i, j))
    (hq : regAt (q.off m n) = some (q, m, n)) (hne : r ≠ q) : r.off i j ≠ q.off m n := by
  intro he
  rw [he, hq] at h
  cases h
  exact hne rfl

/-! Unit headers. -/

/-- Every word of a register of a key table lies below the headers of a kind of unit, or above them, or, where its copies
are as far apart as those headers, between each header and the next. -/
def clearOfHeaders (q : RegInfo) (k : UKind) : Bool :=
  let p := hdrPlace k
  decide (q.base + (q.n1 - 1) * q.s1 + (q.n2 - 1) * q.s2 < p.1) ||
    decide (p.1 + unitNum 0 k * p.2 ≤ q.base + (p.2 - 0x40)) ||
    (decide (q.s1 = p.2) && decide (p.1 + 0x40 ≤ q.base) && decide (q.base + (q.n2 - 1) * q.s2 < p.1 + p.2))

theorem allRegs_clearOfHeaders : ∀ r ∈ allRegs, ∀ k ∈ allKinds, clearOfHeaders r.info k = true := by decide +kernel

/-- A place in the header of the n-th unit of a kind is no word of a register that is clear of headers. -/
theorem off_ne_header {r : Reg} {k : UKind} {i j n a : Nat} (h : clearOfHeaders r.info k = true) (hi : i < r.info.n1)
    (hj : j < r.info.n2) (hn : n < unitNum 0 k) (ha : a < 0x40) (hp : 0x40 ≤ (hdrPlace k).2) :
    r.off i j ≠ (hdrPlace k).1 + n * (hdrPlace k).2 + a := by
  unfold clearOfHeaders at h
  unfold Reg.off
  generalize r.info = q at *
  generalize hdrPlace k = p at *
  have hw : j * q.s2 ≤ (q.n2 - 1) * q.s2 := Nat.mul_le_mul_right _ (by omega)
  simp only [Bool.or_eq_true, Bool.and_eq_true, decide_eq_true_eq] at h
  rcases h with (hbelow | habove) | ⟨⟨hs, hlo⟩, hhi⟩
  · have : i * q.s1 ≤ (q.n1 - 1) * q.s1 := Nat.mul_le_mul_right _ (by omega)
    omega
  · have : (n + 1) * p.2 ≤ unitNum 0 k * p.2 := Nat.mul_le_mul_right _ hn
    rw [Nat.add_mul, Nat.one_mul] at this
    omega
  · rw [hs]
    intro he
    have hmod : (i * p.2 + (q.base + j * q.s2 - p.1)) % p.2 = (n * p.2 + a) % p.2 := congrArg (· % p.2) (by omega)
    rw [Nat.mul_add_mod_self_right, Nat.mul_add_mod_self_right, Nat.mod_eq_of_lt (by omega), Nat.mod_eq_of_lt (by omega)] at hmod
    omega

/-- The register sets of a kind of unit: far enough apart for a header each, inside one block, outside the shared parts of the
TDC and of the weir tree, and clear of the sets of every other kind. -/
def placedWell (k : UKind) : Bool :=
  let p := hdrPlace k
  let e := p.1 + unitNum 0 k * p.2
  decide (0x40 ≤ p.2) && decide (p.1 % 4 = 0 ∧ p.2 % 4 = 0) &&
    (decide (0x2000000 ≤ p.1 ∧ e ≤ 0x3800000) || blockTable.any fun b => decide (b.1 ≤ p.1 ∧ e ≤ b.1 + b.2.1)) &&
    decide (e ≤ 0x508040 ∨ 0x509000 ≤ p.1) && decide (e ≤ 0xC08000 ∨ 0xC09000 ≤ p.1) &&
    allKinds.all fun m => m == k || decide (e ≤ (hdrPlace m).1 ∨ (hdrPlace m).1 + (hdrPlace m).2 * unitNum 0 m ≤ p.1)

theorem allKinds_placedWell : ∀ k ∈ allKinds, placedWell k = true := by decide +kernel

theorem unitKind_spec {u : Nat} (h : unitKind u ≠ .none) :
    unitKind u ∈ allKinds ∧ unitBase (unitKind u) ≤ u ∧ unitIdx u < unitNum 0 (unitKind u) := by
  unfold unitIdx
  unfold unitKind at h ⊢
  cases hk : allKinds.find? fun k => decide (unitBase k ≤ u ∧ u < unitBase k + unitNum 0 k) with
  | none => exact absurd (congrArg (Option.getD · UKind.none) hk) h
  | some k =>
    have hu := List.find?_some hk
    simp only [decide_eq_true_eq] at hu
    exact ⟨List.mem_of_find?_eq_some hk, hu.1, by simp only [Option.getD_some]; omega⟩

theorem unitKind_ne_none {s : State} {u : Nat} (h : unitPresent s u = true) : unitKind u ≠ .none := by
  intro hk
  simp [unitPresent, hk] at h

/-- A search that only one element answers finds that element's answer. -/
theorem findSome?_eq_of_unique {α β : Type} {f : α → Option β} {l : List α} {a : α} {b : β} (ha : a ∈ l)
    (hb : f a = some b) (h : ∀ c ∈ l, c ≠ a → f c = none) : l.findSome? f = some b := by
  cases hf : l.findSome? f with
  | none => rw [List.findSome?_eq_none_iff.mp hf a ha] at hb; cases hb
  | some w =>
    obtain ⟨c, hc, hw⟩ := List.exists_of_findSome?_eq_some hf
    by_cases he : c = a
    · rw [← hw, he, hb]
    · rw [h c hc he] at hw; cases hw

section
variable {u a : Nat} (h : unitKind u ≠ .none) (ha : a < 0x40)
include h

theorem hdrOff_aligned : hdrOff u % 4 = 0 := by
  obtain ⟨hk, -, -⟩ := unitKind_spec h
  have hp := allKinds_placedWell _ hk
  simp only [placedWell, Bool.and_eq_true, decide_eq_true_eq] at hp
  obtain ⟨⟨⟨⟨⟨-, h1, h2⟩, -⟩, -⟩, -⟩, -⟩ := hp
  unfold hdrOff
  rw [Nat.add_mod, h1, Nat.mul_mod, h2]
  rfl

include ha

/-- No register word lies in a unit header. -/
theorem regAt_header : regAt (hdrOff u + a) = none := by
  obtain ⟨hk, -, hn⟩ := unitKind_spec h
  have hp := allKinds_placedWell _ hk
  simp only [placedWell, Bool.and_eq_true, decide_eq_true_eq] at hp
  obtain ⟨⟨⟨⟨⟨h40, -⟩, -⟩, -⟩, -⟩, -⟩ := hp
  cases hr : regAt (hdrOff u + a) with
  | none => rfl
  | some x =>
    obtain ⟨r, i, j⟩ := x
    obtain ⟨q, hq, hit⟩ := List.exists_of_findSome?_eq_some hr
    obtain ⟨rfl, hi, hj, he⟩ := hit?_eq_some hit
    exact absurd he.symm (off_ne_header (allRegs_clearOfHeaders r hq _ hk) hi hj hn ha h40)

/-- A unit header lies in the register set of its unit, and in a block. -/
theorem header_place : unitAt (hdrOff u + a) = some u ∧ (blockAt (hdrOff u + a)).isSome = true := by
  have hr := regAt_header h ha
  obtain ⟨hk, hu, hn⟩ := unitKind_spec h
  have hp := allKinds_placedWell _ hk
  simp only [placedWell, Bool.and_eq_true, Bool.or_eq_true, List.all_eq_true, List.any_eq_true, beq_iff_eq,
    decide_eq_true_eq] at hp
  obtain ⟨⟨⟨⟨⟨h40, -⟩, hblk⟩, htdc⟩, hweir⟩, hkinds⟩ := hp
  have hidx : u = unitBase (unitKind u) + unitIdx u := by unfold unitIdx; omega
  have hoff : hdrOff u = (hdrPlace (unitKind u)).1 + unitIdx u * (hdrPlace (unitKind u)).2 := rfl
  have hend : (unitIdx u + 1) * (hdrPlace (unitKind u)).2 ≤ unitNum 0 (unitKind u) * (hdrPlace (unitKind u)).2 :=
    Nat.mul_le_mul_right _ hn
  rw [Nat.add_mul, Nat.one_mul] at hend
  constructor
  · unfold unitAt
    rw [if_neg (by omega), if_neg (by omega), hr]
    refine findSome?_eq_of_unique hk ?_ fun m hm hne => ?_
    · dsimp only
      rw [if_pos (by rw [Nat.mul_comm (hdrPlace _).2]; omega), hoff]
      have hdiv : ((hdrPlace (unitKind u)).1 + unitIdx u * (hdrPlace (unitKind u)).2 + a - (hdrPlace (unitKind u)).1) /
          (hdrPlace (unitKind u)).2 = unitIdx u := by
        rw [Nat.div_eq_iff (by omega)]
        omega
      rw [hdiv, ← hidx]
    · have := (hkinds m hm).resolve_left hne
      dsimp only
      rw [if_neg (by omega)]
  · unfold blockAt
    split
    · rfl
    · rcases hblk with hdsp | ⟨b, hb, hin⟩
      · omega
      · rw [Option.isSome_map, List.find?_isSome]
        exact ⟨b, hb, decide_eq_true (by omega)⟩

theorem inHeader_header : inHeader (hdrOff u + a) = true := by
  unfold inHeader
  rw [(header_place h ha).1]
  exact decide_eq_true (by omega)

theorem absentAt_header (s : State) : absentAt s (hdrOff u + a) = !unitPresent s u := by
  unfold absentAt
  rw [(header_place h ha).1]

end

end Sys2Proof.Machine
end

section
/-! SUPPORT. What a register read returns and changes: the rules of readReg and regFetch, case by case (00 R4, R12; 01 R37;
24 R691, R692), and the statement about reads. -/

namespace Sys2Proof.Machine

/-! The read commands. -/

section
variable (s : State) (ag : AgentId) {off : Nat} (h : off % 4 = 0)
include h

theorem exec_rcRegisterRead : exec (.rcRegisterRead ag off) s = .next (readOut ag off s) := by
  have ha : off / 4 * 4 = off := by omega
  change Host.Outcome.next (readOut ag (off / 4 * 4) s) = _
  rw [ha]

theorem exec_latchedRegisterRead : exec (.latchedRegisterRead ag off) s = .next (readOut ag off s) :=
  exec_rcRegisterRead s ag h

end

theorem readOut_of_readReg {s t : State} {ag : AgentId} {off : Nat} {v : Word} (h : readReg ag off s = (v, t)) :
    readOut ag off s = { t with rdata := [v] } := by
  unfold readOut
  rw [h]

/-! Which rule a read follows. -/

/-- A register word of no header, of a unit that is not OFF or of none, is fetched. -/
theorem readReg_register {s : State} {ag : AgentId} {off i j : Nat} {r : Reg} (hup : mainUp s = true)
    (hblk : (blockAt off).isSome = true) (habs : absentAt s off = false) (hr : regAt off = some (r, i, j))
    (hhdr : inHeader off = false) (hon : (unitAt off).all (fun u => ustate s u != .off) = true) :
    readReg ag off s = regFetch ag r i j s := by
  unfold readReg
  rw [if_neg (by simp [hup, habs, Option.isSome_iff_ne_none.mp hblk])]
  cases hu : unitAt off with
  | none => simp only [hr]
  | some u =>
    have hne : ustate s u ≠ .off := by simpa [hu] using hon
    simp only [hr, hhdr, Bool.false_eq_true, if_false, if_neg hne]

/-- The header of a present unit is read in every state of the unit. -/
theorem readReg_header {s : State} {ag : AgentId} {u a : Nat} (hup : mainUp s = true) (hp : unitPresent s u = true)
    (ha : a < 0x40) : readReg ag (hdrOff u + a) s = hdrRead u a s := by
  have hk := unitKind_ne_none hp
  obtain ⟨hu, hblk⟩ := header_place hk ha
  unfold readReg
  rw [if_neg (by simp [hup, absentAt_header hk ha, hp, Option.isSome_iff_ne_none.mp hblk])]
  simp [hu, inHeader_header hk ha]

/-- An absent unit, a unit that is OFF outside its header and a place outside every block read 0. -/
theorem readReg_nothing {s : State} {ag : AgentId} {off : Nat}
    (h : (blockAt off).isNone = true ∨ absentAt s off = true ∨
      (inHeader off = false ∧ (unitAt off).any (fun u => ustate s u == .off) = true)) : readReg ag off s = (0, s) := by
  unfold readReg
  split
  · rfl
  · rename_i hopen
    simp only [not_or, Bool.not_eq_true] at hopen
    obtain ⟨-, hblk, habs⟩ := hopen
    rcases h with hn | hn | ⟨hhdr, hoff⟩
    · simp [hn] at hblk
    · simp [hn] at habs
    · cases hu : unitAt off with
      | none => simp [hu] at hoff
      | some u =>
        have he : ustate s u = .off := by simpa [hu] using hoff
        simp [hhdr, he]

/-! What a fetch does. -/

/-- A register without a rule of its own for reads. -/
theorem regFetch_shared (ag : AgentId) {r : Reg} (i j : Nat) (s : State) (h : ownRead r = false) :
    regFetch ag r i j s =
      if latches r then
        (if j = 0 then (regShown ag s r i j, latchAll ag r i s) else (spGet s.latch (r.off i j) 0, s))
      else if r.info.rc = 0 then (regShown ag s r i j, s)
      else (regShown ag s r i j, wr r i j (rd s r i j &&& ~~~(BitVec.ofNat 32 r.info.rc)) s) := by
  unfold regFetch
  split
  case h_9 => rfl
  all_goals cases h

theorem ownRead_of_latches {r : Reg} (h : latches r = true) : ownRead r = false := by
  unfold latches at h
  split at h
  case h_11 => cases h
  all_goals rfl

/-- Bits that a read clears are cleared in the register file, and nothing else changes. -/
theorem regFetch_readToClear (ag : AgentId) {r : Reg} (i j : Nat) (s : State) (h : ownRead r = false)
    (hl : latches r = false) (hrc : r.info.rc ≠ 0) :
    regFetch ag r i j s = (regShown ag s r i j, wr r i j (rd s r i j &&& ~~~(BitVec.ofNat 32 r.info.rc)) s) := by
  rw [regFetch_shared ag i j s h, hl, if_neg Bool.false_ne_true, if_neg hrc]

/-- Word 0 of a latching register latches the others. -/
theorem regFetch_latching (ag : AgentId) {r : Reg} (i : Nat) (s : State) (h : latches r = true) :
    regFetch ag r i 0 s = (regShown ag s r i 0, latchAll ag r i s) := by
  rw [regFetch_shared ag i 0 s (ownRead_of_latches h), if_pos h, if_pos rfl]

/-- The other words return what was latched. -/
theorem regFetch_latched (ag : AgentId) {r : Reg} (i : Nat) {j : Nat} (s : State) (h : latches r = true) (hj : 0 < j) :
    regFetch ag r i j s = (spGet s.latch (r.off i j) 0, s) := by
  rw [regFetch_shared ag i j s (ownRead_of_latches h), if_pos h, if_neg (by omega)]

/-! Latching. -/

/-- The words of a latching register lie at different places, each a multiple of 4. -/
theorem latches_info {r : Reg} (h : latches r = true) : r.info.base % 4 = 0 ∧ r.info.s1 % 4 = 0 ∧ r.info.s2 = 4 := by
  unfold latches at h
  split at h
  case h_11 => cases h
  all_goals decide

theorem latches_off_aligned {r : Reg} (h : latches r = true) (i j : Nat) : r.off i j % 4 = 0 := by
  obtain ⟨hb, hs1, hs2⟩ := latches_info h
  unfold Reg.off
  rw [hs2, Nat.add_mul_mod_self_right, Nat.add_mod, hb, Nat.mul_mod, hs1]
  rfl

theorem latches_off_inj {r : Reg} (h : latches r = true) {i j k : Nat} (he : r.off i j = r.off i k) : j = k := by
  unfold Reg.off at he
  rw [(latches_info h).2.2] at he
  omega

/-- What a latching register shows does not depend on the words latched. -/
theorem regShown_withLatch (ag : AgentId) {r : Reg} (i j : Nat) (s : State) (l : List (Nat × BitVec 32)) (h : latches r = true) :
    regShown ag { s with latch := l } r i j = regShown ag s r i j := by
  unfold latches at h
  split at h
  case h_11 => cases h
  all_goals rfl

/-- s after n of the further words have been latched. -/
def latchFirst (ag : AgentId) (r : Reg) (i n : Nat) (s : State) : State :=
  (List.range n).foldl (fun s k => latchWord (r.off i (k + 1)) (regShown ag s r i (k + 1)) s) s

theorem latchAll_eq (ag : AgentId) (r : Reg) (i : Nat) (s : State) :
    latchAll ag r i s = latchFirst ag r i (r.info.n2 - 1) s := rfl

theorem latchFirst_succ (ag : AgentId) (r : Reg) (i n : Nat) (s : State) :
    latchFirst ag r i (n + 1) s =
      latchWord (r.off i (n + 1)) (regShown ag (latchFirst ag r i n s) r i (n + 1)) (latchFirst ag r i n s) := by
  simp [latchFirst, List.range_succ]

theorem latchFirst_rest (ag : AgentId) (r : Reg) (i n : Nat) (s : State) :
    latchFirst ag r i n s = { s with latch := (latchFirst ag r i n s).latch } := by
  induction n with
  | zero => rfl
  | succ n ih =>
    rw [latchFirst_succ]
    generalize latchFirst ag r i n s = t at ih ⊢
    unfold latchWord
    rw [ih]

/-- Each word latched is what it showed at the read. -/
theorem latchFirst_word (ag : AgentId) {r : Reg} (i n : Nat) (s : State) (h : latches r = true) {k : Nat} (h0 : 0 < k)
    (hk : k ≤ n) : spGet (latchFirst ag r i n s).latch (r.off i k) 0 = regShown ag s r i k := by
  induction n with
  | zero => omega
  | succ n ih =>
    rw [latchFirst_succ, latchFirst_rest, regShown_withLatch ag i _ s _ h]
    unfold latchWord
    by_cases he : k = n + 1
    · rw [he, spGet_spPut_self]
    · rw [spGet_spPut_ne _ _ _ _ fun hh => he (latches_off_inj h hh)]
      exact ih (by omega)

/-! Synthesisers. -/

/-- LOSS_COUNT of synthesiser n is cleared, as a read of SYN_STATUS does. -/
def clearLosses (n : Nat) (s : State) : State := withSyn n (fun y => { y with lossCount := 0 }) s

theorem synOf_clearLosses_self {n : Nat} (s : State) (h : n < 6) :
    synOf (clearLosses n s) n = { synOf s n with lossCount := 0 } := vget_vset_self _ _ _ _ h

theorem synOf_clearLosses_ne {n m : Nat} (s : State) (h : m ≠ n) : synOf (clearLosses n s) m = synOf s m :=
  vget_vset_ne _ _ _ h

/-- SYN_STATUS of synthesiser n is a register word of no unit. -/
theorem synStatus_place : ∀ n < 6, regAt (Reg.off .synStatus n 0) = some (.synStatus, n, 0) ∧
    blockAt (Reg.off .synStatus n 0) = some 4 ∧ unitAt (Reg.off .synStatus n 0) = none ∧
    Reg.off .synStatus n 0 % 4 = 0 := by decide +kernel

theorem readReg_synStatus {s : State} {n : Nat} (ag : AgentId) (hup : mainUp s = true) (hn : n < 6) :
    readReg ag (Reg.off .synStatus n 0) s =
      (BitVec.ofNat 32 ((synOf s n).lock + (synOf s n).lossCount * 2 ^ 8 +
        b2n ((synOf s n).current != (synOf s n).target) * 2 ^ 16),
       clearLosses n s) := by
  obtain ⟨hr, hb, hu, -⟩ := synStatus_place n hn
  have habs : absentAt s (Reg.off .synStatus n 0) = false := by
    have : ¬ 0x1941000 ≤ Reg.off .synStatus n 0 := by simp only [Reg.off, Reg.info]; omega
    simp [absentAt, hu, hb, this]
  rw [readReg_register hup (by simp [hb]) habs hr (by simp [inHeader, hu]) (by simp [hu])]
  exact congrArg (·, clearLosses n s) BitVec.and_allOnes

/-! Reads of unit headers. -/

theorem hdrRead_state (u : Nat) (s : State) :
    hdrRead u 4 s = (BitVec.ofNat 32 ((ustate s u).code + b2n (unit s u).cmdErr * 8 + (unit s u).abortResult * 16),
      latchWord (hdrOff u + 8) (epochOf s u) s) := rfl

theorem hdrRead_epoch (u : Nat) (s : State) : hdrRead u 8 s = (spGet s.latch (hdrOff u + 8) 0, s) := by
  simp [hdrRead, hdrView]

theorem hdrRead_fault (u : Nat) (s : State) :
    hdrRead u 0x14 s = (BitVec.ofNat 32 ((unit s u).cause + (unit s u).faultCount * 2 ^ 8 + (unit s u).detail * 2 ^ 16),
      setUnit u { unit s u with faultCount := 0 } s) := rfl

/-! The statement. -/

/-- Settles O11: each clause is the rule of readReg that applies, with what its fetch leaves. -/
theorem registerReadsComplete : Obligations.RegisterReadsComplete := by
  refine ⟨?readToClear, ?synStatus, ?unitFault, ?latching, ?latched, ?unitState, ?nothing⟩
  case readToClear =>
    intro s ag off i j r hup h4 hblk habs hr hrc hl hown hhdr hon
    have h := (readReg_register (ag := ag) hup hblk habs hr hhdr hon).trans (regFetch_readToClear ag i j s hown hl hrc)
    rw [exec_rcRegisterRead s ag h4, readOut_of_readReg h]
    exact ⟨_, rfl, rfl, rd_wr s r i j _, rfl, fun o ho => spGet_wr_ne s r i j _ ho⟩
  case synStatus =>
    intro s ag n hup hn _
    rw [exec_rcRegisterRead s ag (synStatus_place n hn).2.2.2, readOut_of_readReg (readReg_synStatus ag hup hn)]
    refine ⟨_, rfl, rfl, ?_, ?_, fun m hm => synOf_clearLosses_ne s hm, rfl⟩
    · change (synOf (clearLosses n s) n).lossCount = 0
      rw [synOf_clearLosses_self s hn]
    · change (synOf (clearLosses n s) n).lock = _
      rw [synOf_clearLosses_self s hn]
  case unitFault =>
    intro s ag u hup hp
    have h4 := hdrOff_aligned (unitKind_ne_none hp)
    have h := (readReg_header (ag := ag) hup hp (by decide : 0x14 < 0x40)).trans (hdrRead_fault u s)
    rw [exec_rcRegisterRead s ag (by omega), readOut_of_readReg h]
    exact ⟨_, rfl, rfl, unit_setUnit s u _, fun k hk => unit_setUnit_ne s _ hk, rfl⟩
  case latching =>
    intro s ag i r hup hblk habs hr hl hhdr hon
    have h := (readReg_register (ag := ag) hup hblk habs hr hhdr hon).trans (regFetch_latching ag i s hl)
    rw [exec_latchedRegisterRead s ag (latches_off_aligned hl i 0), readOut_of_readReg h, latchAll_eq]
    refine ⟨_, rfl, rfl, fun k h0 hk => latchFirst_word ag i _ s hl h0 (by omega), ?_⟩
    exact congrArg (fun t : State => { t with rdata := [regShown ag s r i 0] }) (latchFirst_rest ag r i _ s)
  case latched =>
    intro s ag i k r hup h0 hblk habs hr hl hhdr hon
    have h := (readReg_register (ag := ag) hup hblk habs hr hhdr hon).trans (regFetch_latched ag i s hl h0)
    rw [exec_latchedRegisterRead s ag (latches_off_aligned hl i k), readOut_of_readReg h]
  case unitState =>
    intro s ag u hup hp
    have h4 := hdrOff_aligned (unitKind_ne_none hp)
    have hstate := (readReg_header (ag := ag) hup hp (by decide : 4 < 0x40)).trans (hdrRead_state u s)
    have hepoch := (readReg_header (ag := ag) hup hp (by decide : 8 < 0x40)).trans (hdrRead_epoch u s)
    rw [exec_latchedRegisterRead s ag (by omega), exec_latchedRegisterRead s ag (by omega), readOut_of_readReg hstate,
      readOut_of_readReg hepoch]
    exact ⟨⟨_, rfl, rfl, spGet_spPut_self _ _ _ _, rfl⟩, rfl⟩
  case nothing =>
    intro s ag off h4 h
    rw [exec_rcRegisterRead s ag h4, exec_latchedRegisterRead s ag h4, readOut_of_readReg (readReg_nothing h)]
    exact ⟨rfl, rfl⟩

end Sys2Proof.Machine
end

section
/-! SUPPORT. What a register write does: the access codes of a register without an effect of its own, the audit entry that
follows, a refusal (00 R12, R13, R15; 17 R586, R587), and the statement about writes. -/

namespace Sys2Proof.Machine

/-! The audit log while it is not full. -/

/-- t is s but for the audit log, the flumes and the register words that an entry changes while the log is not full. -/
structure Noted (s t : State) : Prop where
  rest : t = { s with regs := t.regs, mgt := { s.mgt with log := t.mgt.log }, host := { s.host with flumes := t.host.flumes } }
  regs : ∀ o, o ∉ auditOffs → spGet t.regs o 0 = spGet s.regs o 0

theorem Noted.refl (s : State) : Noted s s := ⟨rfl, fun _ _ => rfl⟩

theorem Noted.trans {s t u : State} (h : Noted s t) (k : Noted t u) : Noted s u :=
  ⟨k.rest.trans (by rw [h.rest]), fun o ho => (k.regs o ho).trans (h.regs o ho)⟩

theorem Noted.wr {r : Reg} {i j : Nat} (v : BitVec 32) (s : State) (h : r.off i j ∈ auditOffs) :
    Noted s (Machine.wr r i j v s) :=
  ⟨rfl, fun _ ho => spGet_wr_ne s r i j v fun he => ho (he ▸ h)⟩

theorem Noted.setFlume (f : Nat) (x : Flume) (s : State) : Noted s (Machine.setFlume f x s) := ⟨rfl, fun _ _ => rfl⟩

theorem Noted.withLog (l : List AuditEntry) (s : State) : Noted s { s with mgt := { s.mgt with log := l } } :=
  ⟨rfl, fun _ _ => rfl⟩

/-- Forming an audit record leaves the log itself alone. -/
theorem auditRecord_noted (s : State) : Noted s (auditRecord s) ∧ (auditRecord s).mgt = s.mgt := by
  unfold auditRecord
  dsimp only
  split
  · exact ⟨Noted.refl s, rfl⟩
  · split
    · exact ⟨((Noted.wr _ s (by decide)).trans (Noted.wr _ _ (by decide))).trans (Noted.setFlume _ _ _), rfl⟩
    · exact ⟨Noted.refl s, rfl⟩

/-- An entry of a log that is not full is appended to it. -/
theorem auditPush_notFull (e : AuditEntry) {s : State} (h : s.mgt.log.length < auditSize) :
    Noted s (auditPush e s) ∧ (auditPush e s).mgt.log = s.mgt.log ++ [e] := by
  unfold auditPush
  rw [if_pos h]
  exact ⟨Noted.withLog _ s, rfl⟩

/-- The entry that audit makes. -/
def auditEntryOf (kind : Nat) (ag : AgentId) (code target value : Nat) (s : State) : AuditEntry :=
  { seq := rd s .auditSeq 0 0, kind := kind, agent := ag, code := code, time := eventTime s,
    target := BitVec.ofNat 32 target, value := BitVec.ofNat 32 value, born := upTotal s }

/-- An audit entry changes the log's own registers and the flumes, and is the last of the log. -/
theorem audit_notFull (kind : Nat) (ag : AgentId) (code target value : Nat) {s : State} (h : s.mgt.log.length < auditSize) :
    Noted s (audit kind ag code target value s) ∧
      (audit kind ag code target value s).mgt.log = s.mgt.log ++ [auditEntryOf kind ag code target value s] := by
  have hseq := Noted.wr (r := .auditSeq) (i := 0) (j := 0) (rd s .auditSeq 0 0 + 1) s (by decide)
  obtain ⟨hpush, hlog⟩ := auditPush_notFull (auditEntryOf kind ag code target value s)
    (s := Machine.wr .auditSeq 0 0 (rd s .auditSeq 0 0 + 1) s) h
  unfold audit
  dsimp only
  split
  · obtain ⟨hrec, hmgt⟩ := auditRecord_noted (auditPush (auditEntryOf kind ag code target value s)
      (Machine.wr .auditSeq 0 0 (rd s .auditSeq 0 0 + 1) s))
    exact ⟨(hseq.trans hpush).trans hrec, (congrArg MgtState.log hmgt).trans hlog⟩
  · exact ⟨hseq.trans hpush, hlog⟩

/-- An audit entry for a word v, made in a state that differs from s in register words alone. -/
theorem audit_audited (kind : Nat) (ag : AgentId) (code off : Nat) (v : BitVec 32) {s u : State}
    (hu : u = { s with regs := u.regs }) (h : s.mgt.log.length < auditSize) :
    Audited s (audit kind ag code off v.toNat u) kind ag code off v := by
  have hm : u.mgt = s.mgt := by rw [hu]
  obtain ⟨hn, hl⟩ := audit_notFull kind ag code off v.toNat (s := u) (hm ▸ h)
  refine ⟨⟨_, by rw [hl, hm], rfl, rfl, rfl, rfl, by simp [auditEntryOf]⟩, hn.rest.trans ?_⟩
  rw [hu]

/-! Access codes. -/

theorem writable_eq_false {r : Reg} (h : writable r = false) :
    r.info.rw = 0 ∧ r.info.w1c = 0 ∧ r.info.w1s = 0 ∧ r.info.wo = 0 := by
  simpa [writable, and_assoc] using h

/-- A register with no field to write: a write of PL fields is refused with code 3. -/
theorem plainEff_readOnly {r : Reg} (i j : Nat) (v : BitVec 32) (s : State) (h : writable r = false) :
    plainEff r i j v s = (s, if r.info.pl = 0 then 0 else 3) := by
  obtain ⟨h1, h2, h3, h4⟩ := writable_eq_false h
  unfold plainEff
  dsimp only
  rw [h1, h2, h3, h4]
  rfl

/-- A register with a field to write takes its access value. -/
theorem plainEff_writable {r : Reg} (i j : Nat) (v : BitVec 32) (s : State) (h : writable r = true) :
    plainEff r i j v s = (wr r i j (accessValue r.info (rd s r i j) v) s, mixedRes r i j v s) := by
  unfold plainEff
  rw [if_neg]
  change ¬ ((r.info.rw ||| r.info.w1c) ||| (r.info.w1s ||| r.info.wo) = 0)
  intro h0
  simp only [Nat.or_eq_zero_iff] at h0
  obtain ⟨⟨h1, h2⟩, h3, h4⟩ := h0
  simp [writable, h1, h2, h3, h4] at h

/-- A register without PL fields has none that a write could change. -/
theorem mixedRes_noPlan {r : Reg} (i j : Nat) (v : BitVec 32) (s : State) (h : r.info.pl = 0) : mixedRes r i j v s = 0 := by
  simp [mixedRes, h]

theorem mixedRes_ne_zero {r : Reg} {i j : Nat} {v : BitVec 32} {s : State} (h : mixedRes r i j v s ≠ 0) :
    mixedRes r i j v s = 97 := by
  unfold mixedRes at h ⊢
  split
  · rename_i h0
    exact absurd (if_pos h0) h
  · rfl

/-- The access value of a register word follows its access codes. -/
theorem codesFollowed_accessValue (r : Reg) (old v : BitVec 32) : CodesFollowed r old v (accessValue r.info old v) := by
  intro k hk
  simp only [accessValue, BitVec.getLsbD_or, BitVec.getLsbD_and, BitVec.getLsbD_not, BitVec.getLsbD_ofNat, hk, decide_true,
    Bool.true_and]
  cases v.getLsbD k with
  | false => cases r.info.rw.testBit k <;> simp
  | true =>
    cases r.info.w1s.testBit k with
    | true => simp
    | false => cases r.info.w1c.testBit k <;> cases r.info.rw.testBit k <;> simp

/-- A register with no field to write follows its access codes by staying. -/
theorem codesFollowed_readOnly {r : Reg} (v w : BitVec 32) (h : writable r = false) : CodesFollowed r v w v := by
  obtain ⟨h1, h2, h3, -⟩ := writable_eq_false h
  intro k _
  simp [h1, h2, h3]

/-! The effect of a write. -/

/-- A register without an effect of its own. -/
theorem regEff_plain (ag : AgentId) {r : Reg} (i j : Nat) (v : BitVec 32) (ecc : Nat) (s : State) (h : ownEffect r = false) :
    regEff ag r i j v ecc s = plainEff r i j v s := by
  unfold regEff
  split
  case h_91 => rfl
  all_goals cases h

theorem busEff_plain {off i j : Nat} {r : Reg} (ag : AgentId) (v : BitVec 32) (ecc : Nat) (good : Bool) (s : State)
    (hr : regAt off = some (r, i, j)) (h : ownEffect r = false) : busEff ag off v ecc good s = plainEff r i j v s := by
  have hw : writeEff ag off v ecc good s = plainEff r i j v s := by
    unfold writeEff
    rw [hr]
    exact regEff_plain ag i j v ecc s h
  unfold busEff
  rw [hr]
  split
  case h_5 => exact hw
  all_goals
    rename_i he
    cases he
    cases h

/-! The write command. -/

/-- A write goes through the access rules to the effect at its offset. -/
theorem exec_registerWrite {off : Nat} (s : State) (ag : AgentId) (v : BitVec 32) (ecc : Nat) (good : Bool) (h : off % 4 = 0) :
    exec (.registerWrite ag off v ecc good) s = .next (guardW ag off v (busEff ag off v ecc good) s) := by
  have ha : off / 4 * 4 = off := by omega
  change Host.Outcome.next (guardW ag (off / 4 * 4) v (busEff ag (off / 4 * 4) v ecc good) s) = _
  rw [ha]

/-- A write is dropped while MAIN is not up. -/
theorem guardW_dark {s : State} (ag : AgentId) (off : Nat) (v : BitVec 32) (eff : State → WRes) (h : mainUp s = false) :
    guardW ag off v eff s = s := by simp [guardW, guardRes, h]

/-- A write that the access rules refuse is logged with their code. -/
theorem guardW_refusal {s : State} {ag : AgentId} {off c : Nat} (v : BitVec 32) (eff : State → WRes) (hup : mainUp s = true)
    (h : accessRefusal s ag off = some c) : guardW ag off v eff s = refuse ag off v c s := by simp [guardW, guardRes, hup, h]

/-- A write accepted but for its PL fields is logged with code 3 as well. -/
theorem guardW_mixed {s : State} {ag : AgentId} {off : Nat} (v : BitVec 32) {eff : State → WRes} (h : WriteOpen s ag off)
    (he : (eff s).2 = 97) : guardW ag off v eff s =
      refuse ag off v 3 (if writeLogged s off then audit 0x01 ag 0 off v.toNat (eff s).1 else (eff s).1) := by
  simp [guardW, guardRes, h.1, h.2, he]

/-- Every open write is its effect, then its audit entries. -/
theorem guardW_eq {s : State} {ag : AgentId} {off : Nat} (v : BitVec 32) (eff : State → WRes) (h : WriteOpen s ag off) :
    guardW ag off v eff s =
      (let r := eff s
       let x := (if (r.2 = 0 ∨ r.2 = 97) ∧ writeLogged s off = true then audit 0x01 ag 0 off v.toNat r.1 else r.1)
       if r.2 = 0 ∨ r.2 = 99 then x else refuse ag off v (if r.2 = 97 then 3 else r.2) x) := by
  dsimp only
  by_cases h0 : (eff s).2 = 0
  · simp [guardW_ok v h h0, h0]
  · by_cases h7 : (eff s).2 = 97
    · simp [guardW_mixed v h h7, h7]
    · by_cases h9 : (eff s).2 = 99
      · simp [guardW_done v h h9, h9]
      · simp [guardW_refused v h h0 h7 h9, h0, h7, h9]

/-! The registers of the audit log among the others. -/

/-- The registers that an audit entry changes have no field to write. -/
theorem off_not_mem_auditOffs {off i j : Nat} {r : Reg} (hr : regAt off = some (r, i, j)) (hw : writable r = true) :
    r.off i j ∉ auditOffs := by
  rw [regAt_off hr] at hr
  have hseq : regAt (Reg.off .auditSeq 0 0) = some (.auditSeq, 0, 0) := by decide +kernel
  have hcopy : regAt (Reg.off .auditCopy 0 0) = some (.auditCopy, 0, 0) := by decide +kernel
  have hflume : regAt (Reg.off .hostFlumeSeq 1 0) = some (.hostFlumeSeq, 1, 0) := by decide +kernel
  intro hm
  simp only [auditOffs, List.mem_cons, List.not_mem_nil, or_false] at hm
  rcases hm with h | h | h
  · exact off_ne_of_regAt hr hseq (fun he => by subst he; cases hw) h
  · exact off_ne_of_regAt hr hcopy (fun he => by subst he; cases hw) h
  · exact off_ne_of_regAt hr hflume (fun he => by subst he; cases hw) h

/-- The source configuration words of the acquisition units lie where the register table places them. -/
theorem acqSrcCfg_place : ∀ a < 4, ∀ j < 5, regAt (Reg.off .acqSrcCfg a j) = some (.acqSrcCfg, a, j) ∧
    Reg.off .acqSrcCfg a j % 4 = 0 := by decide +kernel

/-- A write of ACQ_SRC_CFG while its unit does not run follows the access codes. -/
theorem busEff_acqSrcCfg {s : State} {a j : Nat} (ag : AgentId) (v : BitVec 32) (ecc : Nat) (good : Bool) (ha : a < 4)
    (hj : j < 5) (h : acqRuns s a = false) : busEff ag (Reg.off .acqSrcCfg a j) v ecc good s =
      (wr .acqSrcCfg a j (accessValue (Reg.info .acqSrcCfg) (rd s .acqSrcCfg a j) v) s, mixedRes .acqSrcCfg a j v s) := by
  have hr := (acqSrcCfg_place a ha j hj).1
  rw [← plainEff_writable a j v s (by decide)]
  unfold busEff
  rw [hr]
  change writeEff ag _ v ecc good s = _
  unfold writeEff
  rw [hr]
  change acqSetupEff a (plainEff .acqSrcCfg a j v) s = _
  unfold acqSetupEff
  rw [h, if_neg Bool.false_ne_true]

/-- A register word that is written and then logged: it holds its value, and of the other words only the log's own change. -/
theorem audit_wr {s : State} {r : Reg} {i j : Nat} (kind : Nat) (ag : AgentId) (code off : Nat) (v x : BitVec 32)
    (hl : s.mgt.log.length < auditSize) (ho : r.off i j ∉ auditOffs) :
    rd (audit kind ag code off v.toNat (wr r i j x s)) r i j = x ∧
      Audited s (audit kind ag code off v.toNat (wr r i j x s)) kind ag code off v ∧
      ∀ o, o ≠ r.off i j → o ∉ auditOffs →
        spGet (audit kind ag code off v.toNat (wr r i j x s)).regs o 0 = spGet s.regs o 0 := by
  have hn := (audit_notFull kind ag code off v.toNat (s := wr r i j x s) hl).1.regs
  refine ⟨(rd_of_off (hn _ ho)).trans (rd_wr s r i j x), audit_audited kind ag code off v rfl hl, fun o hne hno => ?_⟩
  rw [hn o hno, spGet_wr_ne s r i j x hne]

/-! The statement. -/

/-- Settles O12: an open write is its effect and then its audit entries; the effect of a register without a rule of its own is
plainEff, and an entry of a log that is not full touches the log's own registers and the flumes alone. -/
theorem registerWritesComplete : Obligations.RegisterWritesComplete := by
  refine ⟨?silent, ?logged, ?planOnly, ?mixed, ?shut, ?effect, ?dark⟩
  case silent =>
    intro s ag off i j ecc v good r hopen h4 hr hown hlog hpl
    rw [exec_registerWrite s ag v ecc good h4]
    have heff := busEff_plain ag v ecc good s hr hown
    cases hw : writable r with
    | false =>
      rw [plainEff_readOnly i j v s hw, hpl] at heff
      rw [guardW_ok v hopen (by rw [heff]; rfl), hlog, heff]
      exact ⟨_, rfl, codesFollowed_readOnly _ v hw, fun _ _ => rfl, rfl⟩
    | true =>
      rw [plainEff_writable i j v s hw, mixedRes_noPlan i j v s hpl] at heff
      rw [guardW_ok v hopen (by rw [heff]), hlog, heff]
      refine ⟨_, rfl, ?_, fun o ho => spGet_wr_ne s r i j _ ho, rfl⟩
      rw [if_neg Bool.false_ne_true, rd_wr]
      exact codesFollowed_accessValue r _ v
  case logged =>
    intro s ag off i j ecc v good r hopen h4 hr hown hlog hw hpl hfull
    have heff := busEff_plain ag v ecc good s hr hown
    rw [plainEff_writable i j v s hw, mixedRes_noPlan i j v s hpl] at heff
    rw [exec_registerWrite s ag v ecc good h4, guardW_ok v hopen (by rw [heff]), if_pos hlog, heff]
    obtain ⟨hrd, haud, hregs⟩ := audit_wr 0x01 ag 0 off v (accessValue r.info (rd s r i j) v) hfull
      (off_not_mem_auditOffs hr hw)
    exact ⟨_, rfl, (congrArg (CodesFollowed r (rd s r i j) v) hrd).mpr (codesFollowed_accessValue r _ v), haud, hregs⟩
  case planOnly =>
    intro s ag off i j ecc v good r hopen h4 hr hown hw hpl hfull
    have heff := busEff_plain ag v ecc good s hr hown
    rw [plainEff_readOnly i j v s hw, if_neg hpl] at heff
    rw [exec_registerWrite s ag v ecc good h4,
      guardW_refused v hopen (by simp [heff]) (by simp [heff]) (by simp [heff]), heff]
    exact ⟨_, rfl, audit_audited 0x02 ag 3 off v rfl hfull, (audit_notFull 0x02 ag 3 off v.toNat hfull).1.regs⟩
  case mixed =>
    intro s ag a j ecc v good ha hj hopen hlog hrun hmix hfull
    obtain ⟨hr, h4⟩ := acqSrcCfg_place a ha j hj
    have heff := busEff_acqSrcCfg ag v ecc good ha hj hrun
    rw [mixedRes_ne_zero hmix] at heff
    rw [exec_registerWrite s ag v ecc good h4, guardW_mixed v hopen (by rw [heff]), hlog, if_neg Bool.false_ne_true, heff]
    obtain ⟨hrd, haud, hregs⟩ := audit_wr 0x02 ag 3 (Reg.off .acqSrcCfg a j) v
      (accessValue (Reg.info .acqSrcCfg) (rd s .acqSrcCfg a j) v) hfull (off_not_mem_auditOffs hr (by decide))
    exact ⟨_, rfl, (congrArg (CodesFollowed .acqSrcCfg (rd s .acqSrcCfg a j) v) hrd).mpr (codesFollowed_accessValue _ _ v),
      haud, hregs⟩
  case shut =>
    intro s ag off ecc c v good hup h4 hc hfull
    rw [exec_registerWrite s ag v ecc good h4, guardW_refusal v _ hup hc]
    exact ⟨_, rfl, audit_audited 0x02 ag c off v rfl hfull, (audit_notFull 0x02 ag c off v.toNat hfull).1.regs⟩
  case effect =>
    intro s ag off ecc v good hopen h4
    rw [exec_registerWrite s ag v ecc good h4, guardW_eq v _ hopen]
  case dark =>
    intro s ag off ecc v good hdark
    exact congrArg Host.Outcome.next (guardW_dark ag (off / 4 * 4) v _ hdark)

end Sys2Proof.Machine
end

section
/-! SUPPORT. The counterexample to O18: a drain timeout that rejects a load and at the same time lets a survey run
end, whose units hold the plan loader itself. -/

namespace Sys2Proof.Machine

/-- A host load whose plan changes TUNER_0. -/
def tunerLoad : LoadJob :=
  { origin := 0x01, source := 0, length := 1024, img := none, bytes := [], changed := [0x040], before := [], boot := false }

/-- A draining survey run over one unit. -/
def drainingRun (u : Nat) : SurveyRun := { entry := 0, stop := 0, units := [u], started := true, draining := true }

/-- TUNER_0 drains under the load, which is in its quiesce phase; the plan loader, READY, is the unit of a survey run that drains. -/
def loaderInRun : State :=
  let s := setUnit 0x040 { UnitRec.reset 0x040 with state := .draining }
    (setUnit 0x250 { UnitRec.reset 0x250 with state := .ready } (setPhase 4 State.reset))
  { s with plan := { s.plan with load := some tunerLoad }, pwr := { s.pwr with runs := [drainingRun 0x250] } }

/-- The result code of the load after a drain timeout of TUNER_0. -/
def timeoutResult (s : State) : Option Nat :=
  match exec (.drainTimeout 0x040) s with
  | .next t => some (getF t .globalPlanStatus 0 0 4 2)
  | _ => none

theorem timeoutResult_loaderInRun : timeoutResult loaderInRun = some 0 := by decide +kernel

/-- Refutes O18: in the clause of the rejected load the end of the survey run powers the plan loader down, and with it
goes the result that the load has just been given. -/
theorem not_unitEventsComplete : ¬ Obligations.UnitEventsComplete := by
  rintro ⟨-, -, -, -, -, rejected, -⟩
  obtain ⟨t, hexec, -, -, -, -, hres, -⟩ := rejected loaderInRun 0x040 tunerLoad (by decide +kernel) rfl
    (by decide +kernel) (by decide) rfl rfl rfl
  have hnone : timeoutResult loaderInRun = some 2 := by simp only [timeoutResult, hexec, hres]
  rw [timeoutResult_loaderInRun] at hnone
  exact absurd hnone (by decide)

end Sys2Proof.Machine
end

section
/-! SUPPORT. What may come after a state: the history of committed events grows, the queue of waiting commands stays,
and all but the plan loader and the schedule leave the plan and the power state alone (01 R51, R52). One lemma for each
operation of the model, in the order of its files. -/

namespace Sys2Proof.Machine

/-- t comes after r: its history continues that of r and its queue is the same; where P holds the plan state is that of r
but for the items offered, and where Q holds so is the power state. -/
def Onward (P Q : Prop) (r t : State) : Prop :=
  r.events <:+ t.events ∧ t.pending = r.pending ∧ (P → t.plan = { r.plan with offered := t.plan.offered }) ∧
    (Q → t.pwr = r.pwr)

namespace Onward

variable {P Q : Prop} {s₀ s s' : State}

theorem refl (s : State) : Onward P Q s s := ⟨List.suffix_rfl, rfl, fun _ => rfl, fun _ => rfl⟩

theorem trans (h : Onward P Q s₀ s) (k : Onward P Q s s') : Onward P Q s₀ s' := by
  obtain ⟨he, hn, hp, hq⟩ := h
  obtain ⟨ke, kn, kp, kq⟩ := k
  exact ⟨he.trans ke, kn.trans hn, fun x => by rw [kp x, hp x], fun x => (kq x).trans (hq x)⟩

theorem ite {c : Prop} {_ : Decidable c} {a b : State} (ha : Onward P Q s₀ a) (hb : Onward P Q s₀ b) :
    Onward P Q s₀ (if c then a else b) := by
  split <;> assumption

theorem fst {α : Type} {b : α} (hs : Onward P Q s₀ s) : Onward P Q s₀ (s, b).1 := hs
theorem snd {α : Type} {b : α} (hs : Onward P Q s₀ s) : Onward P Q s₀ (b, s).2 := hs

theorem iteFst {α : Type} {c : Prop} {_ : Decidable c} {a b : State × α} (ha : Onward P Q s₀ a.1)
    (hb : Onward P Q s₀ b.1) : Onward P Q s₀ (if c then a else b).1 := by
  split <;> assumption

theorem iteSnd {α : Type} {c : Prop} {_ : Decidable c} {a b : α × State} (ha : Onward P Q s₀ a.2)
    (hb : Onward P Q s₀ b.2) : Onward P Q s₀ (if c then a else b).2 := by
  split <;> assumption

theorem foldl {β : Type} {f : State → β → State} {l : List β} (hs : Onward P Q s₀ s)
    (hf : ∀ s b, Onward P Q s₀ s → Onward P Q s₀ (f s b)) : Onward P Q s₀ (l.foldl f s) := by
  induction l generalizing s with
  | nil => exact hs
  | cons b r ih => exact ih (hf s b hs)

/-! Updates of one field. -/

section
variable (hs : Onward P Q s₀ s)
include hs

theorem free {x : Nat} : Onward P Q s₀ { s with free := x } := hs
theorem regs {x : List (Nat × BitVec 32)} : Onward P Q s₀ { s with regs := x } := hs
theorem latch {x : List (Nat × BitVec 32)} : Onward P Q s₀ { s with latch := x } := hs
theorem units {x : List (Nat × UnitRec)} : Onward P Q s₀ { s with units := x } := hs
theorem nextEvent {x : Nat} : Onward P Q s₀ { s with nextEvent := x } := hs
theorem rates {x : List RateRec} : Onward P Q s₀ { s with rates := x } := hs
theorem suppressed {x : Nat} : Onward P Q s₀ { s with suppressed := x } := hs
theorem fabricFails {x : List (Nat × List Nat)} : Onward P Q s₀ { s with fabricFails := x } := hs
theorem skew {x : List Nat} : Onward P Q s₀ { s with skew := x } := hs
theorem time {x : TimeState} : Onward P Q s₀ { s with time := x } := hs
theorem host {x : HostState} : Onward P Q s₀ { s with host := x } := hs
theorem mgt {x : MgtState} : Onward P Q s₀ { s with mgt := x } := hs
theorem boot {x : BootState} : Onward P Q s₀ { s with boot := x } := hs
theorem ing {x : Vector Link 4} : Onward P Q s₀ { s with ing := x } := hs
theorem tun {x : Vector Tuner 16} : Onward P Q s₀ { s with tun := x } := hs
theorem chz {x : Vector Chz 4} : Onward P Q s₀ { s with chz := x } := hs
theorem chzCoef {x : List (Nat × BitVec 18)} : Onward P Q s₀ { s with chzCoef := x } := hs
theorem spec {x : Vector Spec 4} : Onward P Q s₀ { s with spec := x } := hs
theorem winBank {x : List (Nat × Nat)} : Onward P Q s₀ { s with winBank := x } := hs
theorem trig {x : Vector TrigEng 4} : Onward P Q s₀ { s with trig := x } := hs
theorem tree {x : TreeState} : Onward P Q s₀ { s with tree := x } := hs
theorem maskBank {x : List (Nat × Word)} : Onward P Q s₀ { s with maskBank := x } := hs
theorem hbm {x : HbmState} : Onward P Q s₀ { s with hbm := x } := hs
theorem acq {x : Vector AcqUnit 4} : Onward P Q s₀ { s with acq := x } := hs
theorem dens {x : Vector Dens 4} : Onward P Q s₀ { s with dens := x } := hs
theorem disp {x : Disp} : Onward P Q s₀ { s with disp := x } := hs
theorem tdc {x : Tdc} : Onward P Q s₀ { s with tdc := x } := hs
theorem dsp {x : Vector Dsp 24} : Onward P Q s₀ { s with dsp := x } := hs
theorem dspP {x : List (Nat × Word)} : Onward P Q s₀ { s with dspP := x } := hs
theorem dspX {x : List (Nat × Word)} : Onward P Q s₀ { s with dspX := x } := hs
theorem dspY {x : List (Nat × Word)} : Onward P Q s₀ { s with dspY := x } := hs
theorem cmp {x : Vector Cmp 8} : Onward P Q s₀ { s with cmp := x } := hs
theorem calRec {x : List (Nat × List Word)} : Onward P Q s₀ { s with calRec := x } := hs
theorem calJob {x : Option CalJob} : Onward P Q s₀ { s with calJob := x } := hs
theorem aux {x : Aux} : Onward P Q s₀ { s with aux := x } := hs
theorem rdata {x : List Word} : Onward P Q s₀ { s with rdata := x } := hs
theorem ipend {x : List (Nat × BitVec 16)} : Onward P Q s₀ { s with ipend := x } := hs
end

theorem plan {x : PlanState} (hs : Onward False Q s₀ s) : Onward False Q s₀ { s with plan := x } :=
  ⟨hs.1, hs.2.1, False.elim, hs.2.2.2⟩
theorem pwr {x : PwrState} (hs : Onward P False s₀ s) : Onward P False s₀ { s with pwr := x } :=
  ⟨hs.1, hs.2.1, hs.2.2.1, False.elim⟩

/-- An event committed. -/
theorem event {e : EventRec} (hs : Onward P Q s₀ s) : Onward P Q s₀ { s with events := e :: s.events } :=
  ⟨hs.1.trans (List.suffix_cons e s.events), hs.2⟩

/-- Items offered are not part of the promise about the plan. -/
theorem offer {i : Item} (hs : Onward P Q s₀ s) : Onward P Q s₀ (offer i s) := by
  obtain ⟨he, hn, hp, hq⟩ := hs
  exact ⟨he, hn, fun x => by rw [Machine.offer, hp x], hq⟩


/-! State. -/


/-! Ops. -/

theorem wr {r : Reg} {i j : Nat} {v : BitVec 32} (hs : Onward P Q s₀ s) : Onward P Q s₀ (wr r i j v s) := .regs hs
theorem setF {r : Reg} {i j lo w x : Nat} (hs : Onward P Q s₀ s) : Onward P Q s₀ (setF r i j lo w x s) := .wr hs
theorem setB {r : Reg} {i j k : Nat} {b : Bool} (hs : Onward P Q s₀ s) : Onward P Q s₀ (setB r i j k b s) := .setF hs
theorem bump {r : Reg} {i j n : Nat} (hs : Onward P Q s₀ s) : Onward P Q s₀ (bump r i j n s) := .wr hs
theorem wrMask {r : Reg} {i j : Nat} {mask v : BitVec 32} (hs : Onward P Q s₀ s) :
    Onward P Q s₀ (wrMask r i j mask v s) := .wr hs
theorem wr64 {r : Reg} {i x : Nat} (hs : Onward P Q s₀ s) : Onward P Q s₀ (wr64 r i x s) := .wr <| .wr hs
theorem nextFree (hs : Onward P Q s₀ s) : Onward P Q s₀ (nextFree s) := .free hs
theorem portTook {src stream : Nat} (hs : Onward P Q s₀ s) : Onward P Q s₀ (portTook src stream s).2 :=
  .iteSnd (.snd <| .nextFree hs) hs

/-- An item taken out of what the fabric has delivered. -/
theorem takeDelivered {port stream : Nat} {i : Item} (hs : Onward False Q s₀ s)
    (h : Machine.takeDelivered port stream s = some (i, s')) : Onward False Q s₀ s' := by
  unfold Machine.takeDelivered at h
  obtain ⟨x, -, hx⟩ := Option.map_eq_some_iff.mp h
  cases hx
  exact .plan hs

theorem routeLoss {port stream : Nat} (hs : Onward False Q s₀ s) : Onward False Q s₀ (routeLoss port stream s) :=
  .plan hs
theorem refuseItem {port stream : Nat} (hs : Onward False Q s₀ s) (hs' : Onward False Q s₀ s') :
    Onward False Q s₀ (refuseItem port stream s s') := .ite hs (.routeLoss hs')
theorem setUnit {u : Nat} {h : UnitRec} (hs : Onward P Q s₀ s) : Onward P Q s₀ (setUnit u h s) := .units hs
theorem changeState {u : Nat} {st : UState} (hs : Onward P Q s₀ s) : Onward P Q s₀ (changeState u st s) := .setUnit hs
theorem bumpEpoch {u : Nat} (hs : Onward P Q s₀ s) : Onward P Q s₀ (bumpEpoch u s) := .setUnit hs
theorem setFlume {f : Nat} {x : Flume} (hs : Onward P Q s₀ s) : Onward P Q s₀ (setFlume f x s) := .host hs
theorem takeSeq {f : Nat} (hs : Onward P Q s₀ s) : Onward P Q s₀ (takeSeq f s).2 := .snd <| .wr hs
theorem dropRec {f : Nat} (hs : Onward P Q s₀ s) : Onward P Q s₀ (dropRec f s) := .setFlume <| .bump <| .takeSeq hs
theorem stageRec {f : Nat} {r : StagedRec} (hs : Onward P Q s₀ s) : Onward P Q s₀ (stageRec f r s) :=
  .setFlume <| .takeSeq hs

theorem commitEvent {t : Stamp} {code u : Nat} {failed deliver : Bool} {data : List EvField} (hs : Onward P Q s₀ s) :
    Onward P Q s₀ (commitEvent t code u failed deliver data s).2 :=
  .event (e := (Machine.commitEvent t code u failed deliver data s).1) <|
    .nextEvent (x := (s.nextEvent + 1) % 2 ^ 64) hs

theorem rateAdd {code u : Nat} {q : List EvField} {n : Nat} {tail : List EvField} (hs : Onward P Q s₀ s) :
    Onward P Q s₀ (rateAdd code u q n tail s) := .rates hs
theorem rateOpen {code u : Nat} {q : List EvField} (hs : Onward P Q s₀ s) : Onward P Q s₀ (rateOpen code u q s) :=
  .rates hs
theorem deliver0 {e : EventRec} (hs : Onward P Q s₀ s) : Onward P Q s₀ (deliver0 e s).1 :=
  .iteFst (.fst <| .bump hs) (.iteFst (.fst <| .stageRec hs) (.fst <| .dropRec hs))

theorem dropReport0 (hs : Onward P Q s₀ s) : Onward P Q s₀ (dropReport0 s) := by
  unfold Machine.dropReport0
  split
  · exact .rateAdd hs
  · exact .ite (.rateAdd <| .deliver0 <| .rateOpen <| .commitEvent hs) (.deliver0 <| .rateOpen <| .commitEvent hs)

theorem raiseFull {t : Stamp} {code u : Nat} {failed deliver : Bool} {data : List EvField} (hs : Onward P Q s₀ s) :
    Onward P Q s₀ (raiseFull t code u failed deliver data s) :=
  .ite (.dropReport0 <| .deliver0 <| .commitEvent hs) (.deliver0 <| .commitEvent hs)

theorem raiseAt {t : Stamp} {code u : Nat} {failed : Bool} {data : List EvField} (hs : Onward P Q s₀ s) :
    Onward P Q s₀ (raiseAt t code u failed data s) := .raiseFull hs
theorem raiseWithSeq {seq code u : Nat} {failed : Bool} {data : List EvField} (hs : Onward P Q s₀ s) :
    Onward P Q s₀ (raiseWithSeq seq code u failed data s) := .deliver0 <| .event hs
theorem raise {code u : Nat} {data : List EvField} (hs : Onward P Q s₀ s) : Onward P Q s₀ (raise code u data s) :=
  .raiseAt hs

theorem raiseRatedT {code u : Nat} {q : List EvField} {n : Nat} {tail : List EvField} (hs : Onward P Q s₀ s) :
    Onward P Q s₀ (raiseRatedT code u q n tail s) := by
  unfold Machine.raiseRatedT
  refine .ite hs ?_
  split
  exacts [.rateAdd hs, .rateOpen <| .raise hs]

theorem raiseRated {code u : Nat} {q : List EvField} {n : Nat} (hs : Onward P Q s₀ s) :
    Onward P Q s₀ (raiseRated code u q n s) := .raiseRatedT hs

theorem auditRecord (hs : Onward P Q s₀ s) : Onward P Q s₀ (auditRecord s) := by
  unfold Machine.auditRecord
  dsimp only
  split
  exacts [hs, .ite (.stageRec <| .wr hs) hs]

theorem auditCopyOut {n : Nat} (hs : Onward P Q s₀ s) : Onward P Q s₀ (auditCopyOut n s) := by
  induction n generalizing s with
  | zero => exact hs
  | succ n ih => exact .ite (ih (.auditRecord hs)) hs

theorem auditCatchUp (hs : Onward P Q s₀ s) : Onward P Q s₀ (auditCatchUp s) := by
  unfold Machine.auditCatchUp
  extract_lets +onlyGivenNames s₁
  have h₁ : Onward P Q s₀ s₁ := .auditCopyOut hs
  exact .ite (.auditRecord h₁) h₁

theorem auditPush {e : AuditEntry} (hs : Onward P Q s₀ s) : Onward P Q s₀ (auditPush e s) :=
  .ite (.mgt hs) (.ite (.raiseRated <| .bump <| .wr <| .wr <| .mgt hs) (.wr <| .mgt hs))

theorem audit {kind : Nat} {ag : AgentId} {code target value : Nat} (hs : Onward P Q s₀ s) :
    Onward P Q s₀ (audit kind ag code target value s) := by
  unfold Machine.audit
  extract_lets +onlyGivenNames _ _ s₁
  have h₁ : Onward P Q s₀ s₁ := .auditPush <| .wr hs
  exact .ite (.auditRecord h₁) h₁

theorem refuse {ag : AgentId} {off : Nat} {v : BitVec 32} {code : Nat} (hs : Onward P Q s₀ s) :
    Onward P Q s₀ (refuse ag off v code s) := .audit hs
theorem ignored {ag : AgentId} {off cmd : Nat} (hs : Onward P Q s₀ s) : Onward P Q s₀ (ignored ag off cmd s) :=
  .audit hs
theorem msixDeliver {fn vec : Nat} (hs : Onward P Q s₀ s) : Onward P Q s₀ (msixDeliver fn vec s) :=
  .ite (.host hs) (.host hs)
theorem msixSignal {fn vec : Nat} (hs : Onward P Q s₀ s) : Onward P Q s₀ (msixSignal fn vec s) :=
  .ite hs (.foldl hs fun _ _ h => .ite (.msixDeliver h) h)
theorem irqSource {k : Nat} (hs : Onward P Q s₀ s) : Onward P Q s₀ (irqSource k s) := .ite (.msixSignal hs) hs
theorem updFaultN (hs : Onward P Q s₀ s) : Onward P Q s₀ (updFaultN s) := .ite (.irqSource <| .boot hs) (.boot hs)
theorem dspPend {n k : Nat} (hs : Onward P Q s₀ s) : Onward P Q s₀ (dspPend n k s) := .ite (.ipend hs) hs

theorem faultRecord {kind op u cause : Nat} {ag : AgentId} {t : Stamp} {t2 : Option Stamp} {ref evSeq : Nat}
    {origin : BitVec 64} {detail : List Word} (hs : Onward P Q s₀ s) :
    Onward P Q s₀ (faultRecord kind op u cause ag t t2 ref evSeq origin detail s) := by
  unfold Machine.faultRecord
  have hw {x : List Nat} {p : List Word} : Onward P Q s₀ ((List.range 16).foldl
      (fun s i => Machine.wr .globalFaultLast 0 i (p.getD i 0) s) { s with faultTimes := x, suppressed := 0 }) :=
    .foldl hs fun _ _ h => .wr h
  exact .ite (.ite (.stageRec hw) (.updFaultN <| .setB <| .bump <| .ite (.dropReport0 <| .dropRec hw) hw))
    (.suppressed <| .bump hs)

theorem reportFault {kind u cause : Nat} {prev : UState} {detail : List Word} (hs : Onward P Q s₀ s) :
    Onward P Q s₀ (reportFault kind u cause prev detail s) := .updFaultN <| .faultRecord <| .raise <| .bump hs
theorem enterFaultW {u cause detail : Nat} {words : List Word} (hs : Onward P Q s₀ s) :
    Onward P Q s₀ (enterFaultW u cause detail words s) := .ite (.reportFault <| .setUnit hs) hs
theorem enterFault {u cause detail : Nat} (hs : Onward P Q s₀ s) : Onward P Q s₀ (enterFault u cause detail s) :=
  .enterFaultW hs
theorem furtherFault {u cause : Nat} (hs : Onward P Q s₀ s) : Onward P Q s₀ (furtherFault u cause s) :=
  .reportFault <| .setUnit hs
theorem enterFrozen {u : Nat} (hs : Onward P Q s₀ s) : Onward P Q s₀ (enterFrozen u s) :=
  .ite (.reportFault <| .setUnit hs) hs

theorem faultLastingAt {first : Stamp} {op u : Nat} {ag : AgentId} {ref : Nat} {origin : BitVec 64}
    {detail : List Word} (hs : Onward P Q s₀ s) : Onward P Q s₀ (faultLastingAt first op u ag ref origin detail s) :=
  .updFaultN <| .faultRecord <| .raise <| .setB <| .bump hs

theorem faultLasting {op u : Nat} {ag : AgentId} {ref : Nat} {origin : BitVec 64} {detail : List Word}
    (hs : Onward P Q s₀ s) : Onward P Q s₀ (faultLasting op u ag ref origin detail s) := .faultLastingAt hs
theorem faultTransient (hs : Onward P Q s₀ s) : Onward P Q s₀ (faultTransient s) := .bump hs
theorem recovered {u : Nat} (hs : Onward P Q s₀ s) : Onward P Q s₀ (recovered u s) := .updFaultN <| .raise hs

/-! Access. -/

theorem guardRes {ag : AgentId} {off : Nat} {v : BitVec 32} {eff : State → WRes} (hs : Onward P Q s₀ s)
    (he : ∀ s, Onward P Q s₀ s → Onward P Q s₀ (eff s).1) : Onward P Q s₀ (guardRes ag off v eff s).1 := by
  have hd := he s hs
  unfold Machine.guardRes
  split
  · exact hs
  · split
    · exact .refuse hs
    · dsimp only
      split
      · exact .ite (.refuse (.ite (.audit hd) hd)) (.ite (.audit hd) hd)
      · split
        · exact hd
        · exact .refuse hd

theorem guardW {ag : AgentId} {off : Nat} {v : BitVec 32} {eff : State → WRes} (hs : Onward P Q s₀ s)
    (he : ∀ s, Onward P Q s₀ s → Onward P Q s₀ (eff s).1) : Onward P Q s₀ (guardW ag off v eff s) := .guardRes hs he

/-! Calibration. -/

theorem setCalRec {b : Nat} {r : List Word} (hs : Onward P Q s₀ s) : Onward P Q s₀ (setCalRec b r s) := .calRec hs
theorem calShow {b : Nat} (hs : Onward P Q s₀ s) : Onward P Q s₀ (calShow b s) := .setB <| .setB hs
theorem setCalLane {p h lane : Nat} (hs : Onward P Q s₀ s) : Onward P Q s₀ (setCalLane p h lane s) :=
  .calShow <| .setCalRec hs
theorem calBump {b : Nat} {ok : Bool} (hs : Onward P Q s₀ s) : Onward P Q s₀ (calBump b ok s) := .setF hs
theorem calSwapAt {t : List Word} {b : Nat} {r : List Word} (hs : Onward P Q s₀ s) :
    Onward P Q s₀ (calSwapAt t b r s) := .calShow <| .foldl (.setCalRec hs) fun _ _ h => .wr h
theorem calSwap {b : Nat} {r : List Word} (hs : Onward P Q s₀ s) : Onward P Q s₀ (calSwap b r s) := .calSwapAt hs
theorem calEnd {ag : AgentId} {b op res : Nat} (hs : Onward P Q s₀ s) : Onward P Q s₀ (calEnd ag b op res s) :=
  .raise <| .audit <| .ite (.calBump <| .setF <| .setF hs) (.setF hs)
theorem calShowOp {b op : Nat} (hs : Onward P Q s₀ s) : Onward P Q s₀ (calShowOp b op s) := .setF <| .setF hs
theorem retrimEnd {j : CalJob} {res : Nat} (hs : Onward P Q s₀ s) : Onward P Q s₀ (retrimEnd j res s) :=
  .calEnd <| .setB <| .setB <| .calJob hs

theorem calWatch (hs : Onward P Q s₀ s) : Onward P Q s₀ (calWatch s) := by
  unfold Machine.calWatch
  split
  exacts [hs, .ite hs (.retrimEnd hs)]

theorem calSyn4Lost (hs : Onward P Q s₀ s) : Onward P Q s₀ (calSyn4Lost s) := by
  unfold Machine.calSyn4Lost
  split
  exacts [.ite (.retrimEnd hs) hs, hs]

theorem calUse {ag : AgentId} {b op : Nat} {r : List Word} {good : Bool} (hs : Onward P Q s₀ s) :
    Onward P Q s₀ (calUse ag b op r good s) := .ite (.calEnd <| .calSwap hs) (.calEnd hs)

theorem calOp {ag : AgentId} {b op : Nat} (hs : Onward P Q s₀ s) : Onward P Q s₀ (calOp ag b op s) := by
  unfold Machine.calOp
  refine .ite (.calEnd hs) ?_
  extract_lets +onlyGivenNames s₁
  have h₁ : Onward P Q s₀ s₁ := .calShowOp hs
  exact .ite (.calEnd h₁)
    (.ite (.calEnd h₁) (.ite (.calEnd h₁) (.ite (.setB <| .setB <| .calJob h₁) (.ite (.calUse h₁) (.calUse h₁)))))

theorem calAbort (hs : Onward P Q s₀ s) : Onward P Q s₀ (calAbort s) := by
  unfold Machine.calAbort
  split
  exacts [.setF <| .retrimEnd hs, .setF hs]

theorem calCmdEff {ag : AgentId} {v : BitVec 32} (hs : Onward P Q s₀ s) : Onward P Q s₀ (calCmdEff ag v s).1 :=
  .iteFst hs (.iteFst (.fst <| .calAbort hs) (.iteFst (.fst <| .ignored hs) (.fst <| .calOp hs)))
theorem calCmdWrite {ag : AgentId} {b op : Nat} (hs : Onward P Q s₀ s) : Onward P Q s₀ (calCmdWrite ag b op s) :=
  .guardW hs fun _ h => .calCmdEff h

theorem calBootLoad {b : Nat} (hs : Onward P Q s₀ s) : Onward P Q s₀ (calBootLoad b s) := by
  unfold Machine.calBootLoad
  refine .ite ?_ hs
  extract_lets +onlyGivenNames _ _ _ _ _ s₁
  have h₁ : Onward P Q s₀ s₁ := .audit <| .calBump <| .setF <| .calSwapAt <| .setB hs
  exact .ite h₁ (.raise h₁)

theorem calBoot (hs : Onward P Q s₀ s) : Onward P Q s₀ (calBoot s) := .foldl hs fun _ _ h => .calBootLoad h

/-! TimeUnit. -/

theorem withTime {f : TimeState → TimeState} (hs : Onward P Q s₀ s) : Onward P Q s₀ (withTime f s) := .time hs
theorem loadTime {total : Int} (hs : Onward P Q s₀ s) : Onward P Q s₀ (loadTime total s) := .withTime hs
theorem stepTime {total ps : Int} {cause : Nat} (hs : Onward P Q s₀ s) : Onward P Q s₀ (stepTime total ps cause s) :=
  .audit <| .raise <| .ing <| .withTime <| .loadTime hs
theorem timeCmdErr (hs : Onward P Q s₀ s) : Onward P Q s₀ (timeCmdErr s) := .setB hs
theorem setCode {c : Nat} (hs : Onward P Q s₀ s) : Onward P Q s₀ (setCode c s) := .setF <| .withTime hs
theorem efcToward {target : Nat} (hs : Onward P Q s₀ s) : Onward P Q s₀ (efcToward target s) := .setF <| .withTime hs
theorem setRate {corr : Int} (hs : Onward P Q s₀ s) : Onward P Q s₀ (setRate corr s) := .withTime hs
theorem setServo {v : Servo} (hs : Onward P Q s₀ s) : Onward P Q s₀ (setServo v s) := .setF <| .withTime hs
theorem enterFree (hs : Onward P Q s₀ s) : Onward P Q s₀ (enterFree s) :=
  .setCode <| .setRate <| .setServo <| .withTime hs
theorem enterHoldover (hs : Onward P Q s₀ s) : Onward P Q s₀ (enterHoldover s) :=
  .setCode <| .setRate <| .setServo <| .withTime hs
theorem warmChanged {before : Bool} (hs : Onward P Q s₀ s) : Onward P Q s₀ (warmChanged before s) :=
  .ite hs (.raise hs)

theorem steer {e : Int} (hs : Onward P Q s₀ s) : Onward P Q s₀ (steer e s) := by
  unfold Machine.steer
  extract_lets +onlyGivenNames _ s₁
  have h₁ : Onward P Q s₀ s₁ := .nextFree <| .ite (.setCode hs) (.efcToward hs)
  exact .ite (.setRate h₁) h₁

theorem lockNow (hs : Onward P Q s₀ s) : Onward P Q s₀ (lockNow s) := .raise <| .withTime <| .setServo hs
theorem windowTest {e : Int} {freqOk : Bool} (hs : Onward P Q s₀ s) : Onward P Q s₀ (windowTest e freqOk s) :=
  .ite (.ite (.lockNow hs) (.withTime hs)) (.withTime hs)
theorem slewDone (hs : Onward P Q s₀ s) : Onward P Q s₀ (slewDone s) := .raise <| .withTime hs

theorem acquireFirst {e : Int} (hs : Onward P Q s₀ s) : Onward P Q s₀ (acquireFirst e s) := by
  unfold Machine.acquireFirst
  extract_lets +onlyGivenNames s₁
  have h₁ : Onward P Q s₀ s₁ := .setServo hs
  exact .ite (.stepTime h₁) h₁

theorem servoEdge {e : Int} {freqOk : Bool} (hs : Onward P Q s₀ s) : Onward P Q s₀ (servoEdge e freqOk s) := by
  unfold Machine.servoEdge
  split
  · exact .ite (.acquireFirst hs) hs
  · exact hs
  · exact .windowTest <| .steer hs
  · exact .windowTest <| .ite (.slewDone <| .steer hs) (.steer hs)
  · extract_lets +onlyGivenNames _ _ s₁
    have h₁ : Onward P Q s₀ s₁ := .withTime <| .steer hs
    exact .ite (.setServo h₁) h₁
  · exact .ite (.wr <| .withTime <| .steer hs) (.steer hs)

theorem refLost (hs : Onward P Q s₀ s) : Onward P Q s₀ (refLost s) := by
  unfold Machine.refLost
  extract_lets +onlyGivenNames s₁ s₂
  have h₁ : Onward P Q s₀ s₁ := .setB <| .withTime hs
  have h₂ : Onward P Q s₀ s₂ := .ite (.slewDone h₁) h₁
  split
  · exact h₂
  · exact h₂
  · exact .ite (.raise <| .enterHoldover h₂) (.raise <| .enterFree h₂)
  · exact .raise <| .enterHoldover h₂
  · exact .raise <| .enterHoldover h₂
  · exact .raise <| .enterHoldover h₂

theorem leaveHoldover (hs : Onward P Q s₀ s) : Onward P Q s₀ (leaveHoldover s) := by
  unfold Machine.leaveHoldover
  extract_lets +onlyGivenNames _ s₁
  have h₁ : Onward P Q s₀ s₁ := .wr <| .withTime hs
  exact .ite (.setServo <| .withTime <| .raise h₁) (.raise <| .setServo <| .raise h₁)

theorem timeIgnored {ag : AgentId} {cmd : Nat} (hs : Onward P Q s₀ s) : Onward P Q s₀ (timeIgnored ag cmd s).1 :=
  .fst <| .ignored <| .timeCmdErr hs
theorem timeStepEff {ag : AgentId} (hs : Onward P Q s₀ s) : Onward P Q s₀ (timeStepEff ag s).1 :=
  .iteFst (.fst <| .setServo <| .stepTime hs) (.timeIgnored hs)
theorem timeSlewEff {ag : AgentId} (hs : Onward P Q s₀ s) : Onward P Q s₀ (timeSlewEff ag s).1 :=
  .iteFst (.fst <| .setServo <| .withTime hs) (.timeIgnored hs)
theorem timeSetEff (hs : Onward P Q s₀ s) : Onward P Q s₀ (timeSetEff s).1 := .fst <| .enterFree <| .withTime hs
theorem sysrefTick {n : Nat} (hs : Onward P Q s₀ s) : Onward P Q s₀ (sysrefTick n s) := .withTime hs
theorem loadEnds (_hs : Onward P Q s₀ s) (hs' : Onward P Q s₀ s') : Onward P Q s₀ (loadEnds s s') :=
  .foldl (.withTime hs') fun _ _ h => .ite (.withTime h) (.withTime h)
theorem loadStep {tgt : Int} {cause : Nat} (hs : Onward P Q s₀ s) : Onward P Q s₀ (loadStep tgt cause s) :=
  .loadEnds hs (.stepTime hs)

theorem setApplied (hs : Onward P Q s₀ s) : Onward P Q s₀ (setApplied s) := by
  unfold Machine.setApplied
  split
  · exact hs
  · refine .ite ?_ hs
    extract_lets +onlyGivenNames _ s₁
    have h₁ : Onward P Q s₀ s₁ := .withTime <| .loadStep hs
    exact .ite (.setServo h₁) h₁

theorem syncSend {ag : AgentId} {cmd : Nat} (hs : Onward P Q s₀ s) : Onward P Q s₀ (syncSend ag cmd s).1 :=
  .iteFst (.timeIgnored hs) (.fst <| .withTime hs)

theorem timeCmdEff {ag : AgentId} {v : BitVec 32} (hs : Onward P Q s₀ s) : Onward P Q s₀ (timeCmdEff ag v s).1 :=
  .iteFst hs
    (.iteFst (.timeStepEff hs)
      (.iteFst (.timeSlewEff hs) (.iteFst (.timeSetEff hs) (.iteFst (.syncSend hs) (.timeIgnored hs)))))

theorem timeCmdWrite {ag : AgentId} {c : Nat} (hs : Onward P Q s₀ s) : Onward P Q s₀ (timeCmdWrite ag c s) :=
  .guardW hs fun _ h => .timeCmdEff h
theorem syncError {cause : Nat} (hs : Onward P Q s₀ s) : Onward P Q s₀ (syncError cause s) := .raise <| .setF hs

theorem sysrefCfgEff {ag : AgentId} {n : Nat} {v : BitVec 32} (hs : Onward P Q s₀ s) :
    Onward P Q s₀ (sysrefCfgEff ag n v s).1 := by
  unfold Machine.sysrefCfgEff
  extract_lets +onlyGivenNames _ _
  refine .iteFst (.fst <| .timeCmdErr hs) ?_
  extract_lets +onlyGivenNames s₁
  have h₁ : Onward P Q s₀ s₁ := .calWatch <| .wr hs
  exact .iteFst (.iteFst (.fst <| .ignored h₁) (.fst <| .sysrefTick <| .withTime h₁)) (.fst <| .sysrefTick h₁)

theorem withSyn {n : Nat} {f : Syn → Syn} (hs : Onward P Q s₀ s) : Onward P Q s₀ (withSyn n f s) := .withTime hs
theorem phaseDone {n : Nat} (hs : Onward P Q s₀ s) : Onward P Q s₀ (phaseDone n s) := .raise <| .withSyn hs

theorem synPhaseEff {n : Nat} {v : BitVec 32} (hs : Onward P Q s₀ s) : Onward P Q s₀ (synPhaseEff n v s).1 := by
  unfold Machine.synPhaseEff
  refine .iteFst ?_ hs
  extract_lets +onlyGivenNames _ _ s₁
  have h₁ : Onward P Q s₀ s₁ := .withSyn hs
  exact .iteFst (.fst <| .phaseDone h₁) h₁

/-! Ingress. -/

theorem withLink {n : Nat} {f : Link → Link} (hs : Onward P Q s₀ s) : Onward P Q s₀ (withLink n f s) := .ing hs
theorem setLstate {n st : Nat} (hs : Onward P Q s₀ s) : Onward P Q s₀ (setLstate n st s) := .setF hs
theorem linkToCdr {n : Nat} (hs : Onward P Q s₀ s) : Onward P Q s₀ (linkToCdr n s) :=
  .setLstate <| .foldl (.withLink hs) fun _ _ h => .setF h

theorem applyDelay {n : Nat} (hs : Onward P Q s₀ s) : Onward P Q s₀ (applyDelay n s) := by
  unfold Machine.applyDelay
  split
  exacts [hs, .bumpEpoch <| .withLink hs]

theorem formParcel {n extra : Nat} {took : Bool} (hs : Onward P Q s₀ s) : Onward P Q s₀ (formParcel n extra took s) :=
  .applyDelay <| .ite (.offer <| .withLink <| .bump <| .time hs)
      (.raiseRated <| .bump <| .withLink <| .bump <| .time hs)

theorem padParcel {n extra : Nat} (hs : Onward P Q s₀ s) : Onward P Q s₀ (padParcel n extra s) :=
  .ite hs (.formParcel <| .portTook hs)
theorem linkDown {n cause : Nat} (hs : Onward P Q s₀ s) : Onward P Q s₀ (linkDown n cause s) := .raise hs
theorem linkError {n cause : Nat} (hs : Onward P Q s₀ s) : Onward P Q s₀ (linkError n cause s) :=
  .ite (.bump <| .setLstate <| .setF <| .withLink <| .ite (.linkDown <| .padParcel hs) hs) hs
theorem linkToData {n : Nat} (hs : Onward P Q s₀ s) : Onward P Q s₀ (linkToData n s) :=
  .raise <| .withLink <| .setF <| .setLstate <| .applyDelay hs

theorem linkPassed {n : Nat} (hs : Onward P Q s₀ s) : Onward P Q s₀ (linkPassed n s) := by
  unfold Machine.linkPassed
  refine .ite ?_ (.linkToData hs)
  extract_lets +onlyGivenNames _ s₁
  have h₁ : Onward P Q s₀ s₁ := .withLink hs
  exact .ite (.linkToData h₁) (.ite (.foldl h₁ fun _ _ h => .linkToData h) h₁)

theorem setBoundary {n : Nat} {e : SysEdge} (hs : Onward P Q s₀ s) : Onward P Q s₀ (setBoundary n e s) := .withLink hs

theorem alignEdge {n : Nat} {e : SysEdge} {arrivals skews : List Nat} (hs : Onward P Q s₀ s) :
    Onward P Q s₀ (alignEdge n e arrivals skews s) := by
  unfold Machine.alignEdge
  extract_lets +onlyGivenNames s₁ _ _ _ s₂
  have h₁ : Onward P Q s₀ s₁ := .setBoundary <| .applyDelay hs
  have h₂ : Onward P Q s₀ s₂ := .foldl (.setF <| .ite (.foldl h₁ fun _ _ h => .setBoundary h) h₁) fun _ _ h => .setF h
  exact .ite (.linkError h₂) (.ite (.linkError h₂) (.ite (.linkPassed h₂) h₂))

theorem checkedEdge {n : Nat} {e : SysEdge} (hs : Onward P Q s₀ s) : Onward P Q s₀ (checkedEdge n e s) :=
  .ite (.withLink hs) (.raiseRatedT <| .bump hs)
theorem realign {n : Nat} (hs : Onward P Q s₀ s) : Onward P Q s₀ (realign n s) :=
  .ite (.linkToCdr <| .ite (.linkDown <| .padParcel hs) hs) hs
theorem ingClear {n : Nat} (hs : Onward P Q s₀ s) : Onward P Q s₀ (ingClear n s) := .foldl hs fun _ _ h => .wr h

theorem linkCmdEff {n : Nat} {v : BitVec 32} (hs : Onward P Q s₀ s) : Onward P Q s₀ (linkCmdEff n v s).1 := by
  unfold Machine.linkCmdEff
  extract_lets +onlyGivenNames s₁
  have h₁ : Onward P Q s₀ s₁ := .ite (.realign hs) hs
  exact .ite (.ingClear h₁) h₁

theorem laneErr {n lane : Nat} (hs : Onward P Q s₀ s) : Onward P Q s₀ (laneErr n lane s) := .setF hs

theorem tagCheck {n : Nat} {w : Word} (hs : Onward P Q s₀ s) : Onward P Q s₀ (tagCheck n w s) := by
  unfold Machine.tagCheck
  extract_lets +onlyGivenNames _ _
  split
  · refine .ite (.withLink hs) ?_
    extract_lets +onlyGivenNames _ _ _ _ s₁
    have h₁ : Onward P Q s₀ s₁ := .withLink hs
    exact .ite (.raiseRated <| .withLink <| .bump h₁) h₁
  · extract_lets +onlyGivenNames s₂
    have h₂ : Onward P Q s₀ s₂ := .withLink hs
    exact .ite (.raiseRated <| .withLink <| .bump h₂) h₂

theorem pushItem {n : Nat} {w : Word} {time : Int} (hs : Onward P Q s₀ s) : Onward P Q s₀ (pushItem n w time s) :=
  .withLink hs

theorem linkInput {n : Nat} {took : Bool} {raw : Word} (hs : Onward P Q s₀ s) :
    Onward P Q s₀ (linkInput n took raw s) :=
  .ite
    (.formParcel <| .ite (.pushItem <| .tagCheck <| .withLink hs)
        (.ite (.pushItem <| .withLink hs) (.ite (.pushItem <| .withLink <| .withLink hs) (.withLink <| .withLink hs))))
    (.ite (.pushItem <| .tagCheck <| .withLink hs)
      (.ite (.pushItem <| .withLink hs) (.ite (.pushItem <| .withLink <| .withLink hs) (.withLink <| .withLink hs))))

theorem adcDelayEff {n : Nat} {v : BitVec 32} (hs : Onward P Q s₀ s) : Onward P Q s₀ (adcDelayEff n v s).1 := by
  unfold Machine.adcDelayEff
  extract_lets +onlyGivenNames _
  refine .iteFst hs ?_
  extract_lets +onlyGivenNames s₁
  have h₁ : Onward P Q s₀ s₁ := .withLink <| .wr hs
  exact .ite h₁ (.applyDelay h₁)

theorem ingStart {n : Nat} (hs : Onward P Q s₀ s) : Onward P Q s₀ (ingStart n s) := by
  unfold Machine.ingStart
  split
  exacts [.enterFault <| .setF <| .raise hs, .linkToCdr <| .changeState hs]

theorem groupGo {n : Nat} (hs : Onward P Q s₀ s) : Onward P Q s₀ (groupGo n s) :=
  .ite (.foldl hs fun _ _ h => .linkToData h) hs
theorem ingDrain {n : Nat} (hs : Onward P Q s₀ s) : Onward P Q s₀ (ingDrain n s) :=
  .groupGo <| .ite (.linkDown <| .padParcel hs) hs
theorem ingLeave {n : Nat} (hs : Onward P Q s₀ s) : Onward P Q s₀ (ingLeave n s) :=
  .groupGo <| .setLstate <| .foldl (.withLink <| .ite (.linkDown hs) hs) fun _ _ h => .setF h

/-! Tuner. -/

theorem withTuner {n : Nat} {f : Tuner → Tuner} (hs : Onward P Q s₀ s) : Onward P Q s₀ (withTuner n f s) := .tun hs
theorem withTrig {t : Nat} {f : TrigEng → TrigEng} (hs : Onward P Q s₀ s) : Onward P Q s₀ (withTrig t f s) := .trig hs
theorem tunCapture {n : Nat} {it : Item} (hs : Onward P Q s₀ s) : Onward P Q s₀ (tunCapture n it s) :=
  .ite (.acq hs) hs
theorem tunClose {n extra : Nat} (hs : Onward P Q s₀ s) : Onward P Q s₀ (tunClose n extra s) :=
  .ite hs (.offer <| .ite (.bump <| .tunCapture <| .withTuner <| .time hs) (.tunCapture <| .withTuner <| .time hs))
theorem tunSat {n k : Nat} (hs : Onward P Q s₀ s) : Onward P Q s₀ (tunSat n k s) := .ite hs (.raiseRated <| .bump hs)

theorem tunMarks {n : Nat} {m : Int} {k : Nat} (hs : Onward P Q s₀ s) : Onward P Q s₀ (tunMarks n m k s) := by
  induction k generalizing s with
  | zero => exact hs
  | succ k ih =>
    unfold Machine.tunMarks
    split
    · exact hs
    · exact .ite hs (ih <| .withTuner <| .ite (.tunClose hs) hs)

theorem tunSide {n : Nat} {m : Int} {g : Cx} (hs : Onward P Q s₀ s) : Onward P Q s₀ (tunSide n m g s) :=
  .ite hs (.withTuner <| .withTrig hs)

theorem tunOutput {n : Nat} {m : Int} (hs : Onward P Q s₀ s) : Onward P Q s₀ (tunOutput n m s) := by
  unfold Machine.tunOutput
  extract_lets +onlyGivenNames _ _ _ _ _ _ s₁
  have h₁ : Onward P Q s₀ s₁ := .tunSide <| .tunSat <| .withTuner <| .tunMarks hs
  exact .ite (.tunClose h₁) h₁

theorem tunTake {n : Nat} {time : Int} {c : TunCommit} (hs : Onward P Q s₀ s) : Onward P Q s₀ (tunTake n time c s) :=
  .raise <| .withTuner <| .bumpEpoch <| .setF hs

theorem tunJudge {n : Nat} {time : Int} (hs : Onward P Q s₀ s) : Onward P Q s₀ (tunJudge n time s) := by
  unfold Machine.tunJudge
  extract_lets +onlyGivenNames s₁ _
  have h₁ : Onward P Q s₀ s₁ := by
    unfold s₁
    split
    exacts [.tunTake <| .withTuner hs, hs]
  refine .ite h₁ ?_
  extract_lets +onlyGivenNames s₂
  have h₂ : Onward P Q s₀ s₂ := .withTuner h₁
  split
  exacts [h₂, .ite (.tunTake <| .setB <| .withTuner h₂) h₂]

theorem tunCommitEff {n : Nat} {v : BitVec 32} (hs : Onward P Q s₀ s) : Onward P Q s₀ (tunCommitEff n v s).1 := by
  unfold Machine.tunCommitEff
  extract_lets put
  have hp {c : Option TunCommit} : Onward P Q s₀ (put c s) := .withTuner <| .setB hs
  split
  · exact hp
  · split
    exacts [.raise <| .setB hp, hp]
  · exact hp
  · exact hs

theorem tunCommitW {ag : AgentId} {n : Nat} {v : BitVec 32} (hs : Onward P Q s₀ s) :
    Onward P Q s₀ (tunCommitW ag n v s) := .guardW hs fun _ h => .tunCommitEff h

theorem tunSample {n period : Nat} {x : Cx} (hs : Onward P Q s₀ s) : Onward P Q s₀ (tunSample n period x s) := by
  unfold Machine.tunSample
  dsimp only
  refine .ite (.withTuner <| .tunJudge hs) ?_
  split
  · exact .tunSat <| .withTuner <| .withTuner <| .tunJudge hs
  · exact .ite (.tunOutput <| .withTuner <| .tunSat <| .withTuner <| .withTuner <| .tunJudge hs)
      (.withTuner <| .tunSat <| .withTuner <| .withTuner <| .tunJudge hs)

theorem tunRestart {n : Nat} {i : Item} (hs : Onward P Q s₀ s) : Onward P Q s₀ (tunRestart n i s) :=
  .raise <| .bump <| .withTuner <| .tunClose hs
theorem tunGap {n miss : Nat} (hs : Onward P Q s₀ s) : Onward P Q s₀ (tunGap n miss s) :=
  .ite hs (.foldl (.raise <| .bump hs) fun _ _ h => .foldl (.withTuner h) fun _ _ h => .tunSample h)

theorem tunerInput {n : Nat} {i : Item} (hs : Onward P Q s₀ s) : Onward P Q s₀ (tunerInput n i s) := by
  unfold Machine.tunerInput
  extract_lets +onlyGivenNames _ _ _ _ _ _ _ _
  refine .foldl (.withTuner <| .ite (.tunRestart hs) (.tunGap hs)) fun _ _ h => ?_
  extract_lets +onlyGivenNames s₁
  have h₁ : Onward P Q s₀ s₁ := .tunSample h
  exact .ite (.withTuner h₁) h₁

theorem firCoefEff {n k : Nat} {v : BitVec 32} (hs : Onward P Q s₀ s) : Onward P Q s₀ (firCoefEff n k v s).1 :=
  .iteFst hs (.fst <| .wr hs)

theorem tunStart {n : Nat} (hs : Onward P Q s₀ s) : Onward P Q s₀ (tunStart n s) := by
  unfold Machine.tunStart
  split
  exacts [.enterFault <| .raise hs, .withTuner <| .changeState hs]

theorem tunDrain {n : Nat} (hs : Onward P Q s₀ s) : Onward P Q s₀ (tunDrain n s) := .tunClose hs
theorem tunDiscard {n : Nat} (hs : Onward P Q s₀ s) : Onward P Q s₀ (tunDiscard n s) := .withTuner hs

/-! Channelizer. -/

theorem withChz {c : Nat} {f : Chz → Chz} (hs : Onward P Q s₀ s) : Onward P Q s₀ (withChz c f s) := .chz hs
theorem withGroup {c g : Nat} {f : ChzGroup → ChzGroup} (hs : Onward P Q s₀ s) : Onward P Q s₀ (withGroup c g f s) :=
  .withChz hs
theorem chzClose {c g extra : Nat} (hs : Onward P Q s₀ s) : Onward P Q s₀ (chzClose c g extra s) :=
  .ite hs (.offer <| .ite (.bump <| .withGroup <| .time hs) (.withGroup <| .time hs))

theorem chzPush {c g : Nat} {m : ChzMeta} {j : Nat} {x : Cx} (hs : Onward P Q s₀ s) :
    Onward P Q s₀ (chzPush c g m j x s) := by
  unfold Machine.chzPush
  extract_lets +onlyGivenNames _ s₁
  have h₁ : Onward P Q s₀ s₁ := .withGroup hs
  exact .ite (.chzClose h₁) h₁

theorem chzRun {c : Nat} {n : Int} (hs : Onward P Q s₀ s) : Onward P Q s₀ (chzRun c n s) :=
  .foldl (.withChz <| .ite hs (.raiseRated <| .bump hs)) fun _ _ h => .ite (.foldl h fun _ _ h => .chzPush h) h

theorem chzSample {c : Nat} {x : Cx} (hs : Onward P Q s₀ s) : Onward P Q s₀ (chzSample c x s) := by
  unfold Machine.chzSample
  extract_lets +onlyGivenNames _ s₁
  have h₁ : Onward P Q s₀ s₁ := .withChz hs
  exact .ite (.chzRun h₁) h₁

theorem chzRestart {c gen : Nat} (hs : Onward P Q s₀ s) : Onward P Q s₀ (chzRestart c gen s) :=
  .raise <| .bump <| .foldl (.withChz <| .foldl hs fun _ _ h => .chzClose h) fun _ _ h => .withGroup h
theorem chzGap {c miss : Nat} (hs : Onward P Q s₀ s) : Onward P Q s₀ (chzGap c miss s) :=
  .ite hs (.foldl (.raise <| .bump hs) fun _ _ h => .foldl (.withChz h) fun _ _ h => .chzSample h)
theorem chzInput {c : Nat} {i : Item} (hs : Onward P Q s₀ s) : Onward P Q s₀ (chzInput c i s) :=
  .foldl (.withChz <| .ite (.chzRestart hs) (.chzGap hs)) fun _ _ h => .chzSample h
theorem coefStep {c : Nat} (hs : Onward P Q s₀ s) : Onward P Q s₀ (coefStep c s) := .wr hs

theorem chzCoefEff {c : Nat} {v : BitVec 32} (hs : Onward P Q s₀ s) : Onward P Q s₀ (chzCoefEff c v s).1 := by
  unfold Machine.chzCoefEff
  split
  exacts [.fst <| .coefStep <| .chzCoef hs, .fst <| .coefStep <| .chzCoef hs, hs]

theorem chzStart {c : Nat} (hs : Onward P Q s₀ s) : Onward P Q s₀ (chzStart c s) := by
  unfold Machine.chzStart
  split
  exacts [.enterFault <| .raise hs, .foldl (.withChz <| .changeState hs) fun _ _ h => .withGroup h]

theorem chzDrain {c : Nat} (hs : Onward P Q s₀ s) : Onward P Q s₀ (chzDrain c s) := .foldl hs fun _ _ h => .chzClose h
theorem chzDiscard {c : Nat} (hs : Onward P Q s₀ s) : Onward P Q s₀ (chzDiscard c s) :=
  .foldl hs fun _ _ h => .withGroup h

/-! HbmMem. -/

theorem loseStack {k : Nat} (hs : Onward P Q s₀ s) : Onward P Q s₀ (loseStack k s) := .ite (.hbm hs) (.hbm hs)
theorem hbmPoke {a : Nat} {b : Byte} (hs : Onward P Q s₀ s) : Onward P Q s₀ (hbmPoke a b s) := .ite hs (.hbm hs)

theorem hbmPokes {a : Nat} {bs : List Byte} (hs : Onward P Q s₀ s) : Onward P Q s₀ (hbmPokes a bs s) := by
  induction bs generalizing a s with
  | nil => exact hs
  | cons b r ih => exact ih (.hbmPoke hs)

theorem wakePcs {ps : List Nat} (hs : Onward P Q s₀ s) : Onward P Q s₀ (wakePcs ps s) :=
  .foldl hs fun _ _ h => .setB h
theorem hbmWrite {a : Nat} {bs : List Byte} (hs : Onward P Q s₀ s) : Onward P Q s₀ (hbmWrite a bs s) :=
  .hbmPokes <| .foldl (.wakePcs hs) fun _ _ h => .ite (.bump h) (.ite (.raiseRated <| .bump h) h)

theorem hbmRead {a n : Nat} (hs : Onward P Q s₀ s) : Onward P Q s₀ (hbmRead a n s).2.2 := by
  unfold Machine.hbmRead
  extract_lets +onlyGivenNames _ s₁
  have h₁ : Onward P Q s₀ s₁ := .wakePcs hs
  split
  exacts [.snd <| .foldl h₁ fun _ _ h => .ite (.bump h) h, .snd <| .foldl h₁ fun _ _ h => .bump h]

/-! Hbm. -/

theorem withHbm {f : HbmState → HbmState} (hs : Onward P Q s₀ s) : Onward P Q s₀ (withHbm f s) := .hbm hs
theorem setSstate {k st : Nat} (hs : Onward P Q s₀ s) : Onward P Q s₀ (setSstate k st s) := .calWatch <| .setF hs

theorem freezeStack {k cause pc : Nat} {snap : List Word} (hs : Onward P Q s₀ s) :
    Onward P Q s₀ (freezeStack k cause pc snap s) :=
  .foldl (.raise <| .foldl (.setF <| .setSstate hs) fun _ _ h => .wr h) fun _ _ h => .enterFrozen h

theorem hbmErr {port u a : Nat} {write : Bool} {e : HbmErr} (hs : Onward P Q s₀ s) :
    Onward P Q s₀ (hbmErr port u a write e s).1 :=
  .iteFst (.fst <| .raiseRated <| .bump hs)
    (.iteFst (.fst <| .raiseRated <| .faultTransient <| .bump hs) (.fst <| .faultLasting <| .freezeStack <| .bump hs))

theorem hbmErrs {port u a : Nat} {write : Bool} {errs : List HbmErr} (hs : Onward P Q s₀ s) :
    Onward P Q s₀ (hbmErrs port u a write errs s).1 := by
  induction errs generalizing s with
  | nil => exact hs
  | cons e r ih =>
    unfold Machine.hbmErrs
    dsimp only
    split
    · exact .hbmErr hs
    · exact ih (.hbmErr hs)

theorem hbmReadE {port u a n : Nat} {errs : List HbmErr} (hs : Onward P Q s₀ s) :
    Onward P Q s₀ (hbmReadE port u a n errs s).2.2 := by
  unfold Machine.hbmReadE
  split
  · exact .hbmRead hs
  · extract_lets +onlyGivenNames s₁
    have h₁ : Onward P Q s₀ s₁.1 := .hbmErrs hs
    split
    exacts [h₁, .hbmRead h₁]

theorem hbmWriteE {port u a : Nat} {bs : List Byte} {errs : List HbmErr} (hs : Onward P Q s₀ s) :
    Onward P Q s₀ (hbmWriteE port u a bs errs s).1 := by
  unfold Machine.hbmWriteE
  refine .iteFst (.fst <| .hbmWrite hs) ?_
  split
  · exact .fst <| .hbmWrite <| .hbmErrs hs
  · extract_lets +onlyGivenNames _ s₁
    have h₁ : Onward P Q s₀ s₁ := .hbmErr <| .hbmWrite <| .hbmErrs hs
    exact .ite (.hbmWrite h₁) h₁

theorem activate {x : Nat × Nat × Nat} (hs : Onward P Q s₀ s) : Onward P Q s₀ (activate x s) := by
  unfold Machine.activate
  extract_lets +onlyGivenNames _ _ _ _ s₁
  have h₁ : Onward P Q s₀ s₁ := .withHbm hs
  exact .ite (.bump h₁) h₁

theorem offerResponse {slice stream : Nat} {hdr : List Byte} {status : Nat} {data : List Byte} (hs : Onward P Q s₀ s)
    : Onward P Q s₀ (offerResponse slice stream hdr status data s) := .offer <| .time hs

theorem rangeFault {u port : Nat} (hs : Onward P Q s₀ s) : Onward P Q s₀ (rangeFault u port s) := by
  unfold Machine.rangeFault
  split
  exacts [.rateAdd hs, .rateOpen <| .raise hs]

theorem imageDone {it : Item} (hs : Onward P Q s₀ s) : Onward P Q s₀ (imageDone it s) := .ite (.raise <| .setF hs) hs

theorem memoryItem {slice stream : Nat} {it : Item} {errs : List HbmErr} (hs : Onward P Q s₀ s) :
    Onward P Q s₀ (memoryItem slice stream it errs s) := by
  unfold Machine.memoryItem
  dsimp only
  refine .ite (.ite (.rangeFault hs) (.offerResponse hs)) ?_
  split
  · exact .ite (.offerResponse <| .rangeFault hs) (.rangeFault hs)
  · exact .ite (.ite (.imageDone <| .hbmWriteE hs) (.hbmWriteE hs)) (.offerResponse <| .hbmReadE hs)

theorem releaseWaiting (hs : Onward P Q s₀ s) : Onward P Q s₀ (releaseWaiting s) :=
  .foldl (.withHbm hs) fun _ _ h => .ite (.withHbm h) (.memoryItem h)

theorem freqStart {rate : Nat} {force : Bool} (hs : Onward P Q s₀ s) : Onward P Q s₀ (freqStart rate force s) := by
  unfold Machine.freqStart
  split
  · exact .raise <| .setF hs
  · exact .ite (.raise <| .setF hs) (.withSyn <| .setB <| .withHbm <| .foldl hs fun _ _ h => .ite (.setSstate h) h)

theorem freqHeld (hs : Onward P Q s₀ s) : Onward P Q s₀ (freqHeld s) := by
  unfold Machine.freqHeld
  split
  exacts [.ite hs (.freqStart <| .setB <| .withHbm hs), hs]

theorem hbmFreqEff {v : BitVec 32} (hs : Onward P Q s₀ s) : Onward P Q s₀ (hbmFreqEff v s).1 := by
  unfold Machine.hbmFreqEff
  extract_lets +onlyGivenNames s₁
  have h₁ : Onward P Q s₀ s₁ := .wrMask hs
  exact .iteFst (.iteFst (.fst <| .setB <| .withHbm h₁) (.fst <| .freqStart h₁)) h₁

theorem pcReady {p : Nat} (hs : Onward P Q s₀ s) : Onward P Q s₀ (pcReady p s) := by
  unfold Machine.pcReady
  split
  exacts [.changeState hs, .changeState hs, hs]

theorem fencePc {p : Nat} (hs : Onward P Q s₀ s) : Onward P Q s₀ (fencePc p s) :=
  .ite hs (.raise <| .enterFault <| .pcReady <| .setB <| .setB hs)
theorem laneRepaired {x : Nat × Nat × Nat} (hs : Onward P Q s₀ s) : Onward P Q s₀ (laneRepaired x s) :=
  .ite (.fencePc hs) (.raise <| .setF <| .setCalLane hs)
theorem loadLanes {k : Nat} (hs : Onward P Q s₀ s) : Onward P Q s₀ (loadLanes k s) :=
  .foldl hs fun _ _ h => .foldl h fun _ _ h => .setF h

theorem runPc {p : Nat} (hs : Onward P Q s₀ s) : Onward P Q s₀ (runPc p s) := by
  unfold Machine.runPc
  extract_lets +onlyGivenNames s₁
  have h₁ : Onward P Q s₀ s₁ := .pcReady hs
  exact .ite (.changeState h₁) h₁

theorem hbmTrained {k : Nat} {repairs : List (Nat × Nat × Nat)} {fences : List Nat} (hs : Onward P Q s₀ s) :
    Onward P Q s₀ (hbmTrained k repairs fences s) := by
  unfold Machine.hbmTrained
  refine .ite ?_ hs
  extract_lets +onlyGivenNames _ _ _ _ _ _ s₁ s₂
  have h₁ : Onward P Q s₀ s₁ := .foldl
    (.foldl (.foldl (.loadLanes hs) fun _ _ h => .laneRepaired h) fun _ _ h => .fencePc h) fun _ _ h => .runPc h
  have h₂ : Onward P Q s₀ s₂ := .ite (.setSstate h₁) h₁
  exact .updFaultN <| .releaseWaiting <| .freqHeld <| .ite (.raise <| .withHbm <| .raise h₂) (.raise h₂)

theorem stackCmdEff {ag : AgentId} {k : Nat} {v : BitVec 32} (hs : Onward P Q s₀ s) :
    Onward P Q s₀ (stackCmdEff ag k v s).1 :=
  .iteFst hs
    (.iteFst (.fst <| .ignored <| .setB hs)
      (.fst <| .setF <| .setSstate <| .withHbm <| .foldl (.ite (.loseStack hs) hs)
          fun _ _ h => .ite (.recovered <| .changeState h) h))

theorem setDebt {key n : Nat} (hs : Onward P Q s₀ s) : Onward P Q s₀ (setDebt key n s) := .withHbm hs
theorem trainStack {k : Nat} (hs : Onward P Q s₀ s) : Onward P Q s₀ (trainStack k s) := .ite hs (.setSstate hs)
theorem freezeSynth (hs : Onward P Q s₀ s) : Onward P Q s₀ (freezeSynth s) :=
  .foldl hs fun _ _ h => .ite h (.ite (.loseStack h) (.freezeStack h))

/-! Acquisition. -/

theorem withAcq {a : Nat} {f : AcqUnit → AcqUnit} (hs : Onward P Q s₀ s) : Onward P Q s₀ (withAcq a f s) := .acq hs
theorem withSrc {a k : Nat} {f : AcqSrc → AcqSrc} (hs : Onward P Q s₀ s) : Onward P Q s₀ (withSrc a k f s) :=
  .withAcq hs
theorem setAstate {a st : Nat} (hs : Onward P Q s₀ s) : Onward P Q s₀ (setAstate a st s) := .setF hs

theorem acqWrite {a k off : Nat} {bytes : List Byte} {errs : List HbmErr} (hs : Onward P Q s₀ s) :
    Onward P Q s₀ (acqWrite a k off bytes errs s) := by
  unfold Machine.acqWrite
  split
  exacts [.ite (.hbmWriteE hs) (.rangeFault hs), .rangeFault hs]

theorem acqReadBytes {a port k off n : Nat} {errs : List HbmErr} (hs : Onward P Q s₀ s) :
    Onward P Q s₀ (acqReadBytes a port k off n errs s).2 := by
  unfold Machine.acqReadBytes
  split
  exacts [.iteSnd (.hbmReadE hs) (.snd <| .rangeFault hs), .snd <| .rangeFault hs]

theorem acqOffer {a kind stream seq : Nat} {t : Stamp} {evSeq : Nat} {ep planEp : BitVec 32} {origin : BitVec 64}
    {check : Bool} {p : List Word} (hs : Onward P Q s₀ s) :
    Onward P Q s₀ (acqOffer a kind stream seq t evSeq ep planEp origin check p s) := .offer hs

theorem listRecord {a : Nat} (hs : Onward P Q s₀ s) : Onward P Q s₀ (listRecord a s) := by
  unfold Machine.listRecord
  dsimp only
  split
  exacts [hs, .acqOffer <| .withAcq hs]

theorem listFlush {a : Nat} (hs : Onward P Q s₀ s) : Onward P Q s₀ (listFlush a s) :=
  .foldl hs fun _ _ h => .listRecord h

theorem missEvent {a : Nat} (_hs : Onward P Q s₀ s) (hs' : Onward P Q s₀ s') : Onward P Q s₀ (missEvent a s s') := by
  unfold Machine.missEvent
  extract_lets +onlyGivenNames _
  refine .ite hs' ?_
  split
  exacts [.rateAdd hs', .rateOpen <| .withAcq <| .raise hs']

theorem miss {a : Nat} {f : Fire} {cause : Nat} (hs : Onward P Q s₀ s) : Onward P Q s₀ (miss a f cause s) := by
  unfold Machine.miss
  extract_lets +onlyGivenNames _ _ _ s₁
  have h₁ : Onward P Q s₀ s₁ := .withAcq <| .bump hs
  exact .ite (.bump h₁) h₁

theorem acqDone {a cause : Nat} (hs : Onward P Q s₀ s) : Onward P Q s₀ (acqDone a cause s) :=
  .listFlush <| .raise <| .setF <| .setAstate <| .withAcq <| .bump hs
theorem openSlot {a : Nat} (hs : Onward P Q s₀ s) : Onward P Q s₀ (openSlot a s) := .setAstate <| .withAcq hs

theorem acqStop {a cause : Nat} (hs : Onward P Q s₀ s) : Onward P Q s₀ (acqStop a cause s) := by
  unfold Machine.acqStop
  split
  exacts [hs, hs, .withAcq hs, .acqDone hs]

theorem srcCheck {a k : Nat} (hs : Onward P Q s₀ s) : Onward P Q s₀ (srcCheck a k s) := by
  unfold Machine.srcCheck
  extract_lets +onlyGivenNames _
  split
  exacts [.ite (.withSrc hs) hs, hs]

theorem postCheck {a : Nat} (hs : Onward P Q s₀ s) : Onward P Q s₀ (postCheck a s) := by
  unfold Machine.postCheck
  extract_lets +onlyGivenNames s₁
  have h₁ : Onward P Q s₀ s₁ := .foldl hs fun _ _ h => .srcCheck h
  exact .ite (.setAstate h₁) h₁

theorem acceptFire {a : Nat} {f : Fire} (hs : Onward P Q s₀ s) : Onward P Q s₀ (acceptFire a f s) :=
  .postCheck <| .setAstate <| .withAcq <| .foldl hs fun _ _ h => .withSrc h

theorem judge {a : Nat} {f : Fire} (hs : Onward P Q s₀ s) : Onward P Q s₀ (judge a f s) := by
  unfold Machine.judge
  extract_lets +onlyGivenNames _ s₁
  have h₁ : Onward P Q s₀ s₁ := .withAcq hs
  split
  · exact h₁
  · split <;> exact .miss hs
  · split
    exacts [h₁, .ite (.miss hs) (.ite (.miss hs) (.ite (.miss hs) (.acceptFire hs)))]
  · split
    exacts [h₁, .ite (.miss hs) (.ite (.miss hs) (.ite (.miss hs) (.acceptFire hs)))]
  · exact .bump hs

theorem judgeHeld {a : Nat} (hs : Onward P Q s₀ s) : Onward P Q s₀ (judgeHeld a s) :=
  .ite (.foldl (.withAcq hs) fun _ _ h => .judge h) hs

theorem takeFire {a : Nat} {f : Fire} (hs : Onward P Q s₀ s) : Onward P Q s₀ (takeFire a f s) := by
  unfold Machine.takeFire
  extract_lets +onlyGivenNames _ s₁ s₂
  have h₁ : Onward P Q s₀ s₁ := .ite (.acqStop hs) hs
  have h₂ : Onward P Q s₀ s₂ := .ite (.openSlot h₁) h₁
  exact .ite (.judge h₂) h₂

theorem listDue {a : Nat} {stalled : Bool} (hs : Onward P Q s₀ s) : Onward P Q s₀ (listDue a stalled s) :=
  .ite (.listRecord hs) hs
theorem putChunk {a k : Nat} {c : AcqChunk} {bytes : List Byte} {errs : List HbmErr} (hs : Onward P Q s₀ s) :
    Onward P Q s₀ (putChunk a k c bytes errs s) := .withSrc <| .acqWrite hs
theorem putGap {a k : Nat} {c : AcqChunk} (hs : Onward P Q s₀ s) : Onward P Q s₀ (putGap a k c s) :=
  .putChunk <| .bump hs
theorem srcRestart {a k : Nat} (hs : Onward P Q s₀ s) : Onward P Q s₀ (srcRestart a k s) :=
  .ite (.withSrc hs) (.withSrc hs)

theorem acqProgress {a : Nat} {stalled : Bool} (hs : Onward P Q s₀ s) : Onward P Q s₀ (acqProgress a stalled s) := by
  unfold Machine.acqProgress
  extract_lets +onlyGivenNames s₁ s₂
  have h₁ : Onward P Q s₀ s₁ := .listDue <| .judgeHeld hs
  have h₂ : Onward P Q s₀ s₂ := by
    unfold s₂
    split
    exacts [.ite (.setAstate h₁) h₁, h₁]
  exact .ite (.postCheck h₂) h₂

theorem acqChunk {a k : Nat} {it : Item} {first : Nat} {stored stalled : Bool} {errs : List HbmErr}
    (hs : Onward P Q s₀ s) : Onward P Q s₀ (acqChunk a k it first stored stalled errs s) :=
  .ite (.acqProgress <| .withSrc <| .ite (.srcRestart hs) hs)
    (.acqProgress <| .withSrc <| .raiseRated <| .ite
        (.putChunk <| .ite (.withSrc <| .foldl (.ite (.srcRestart hs) hs) fun _ _ h => .putGap h)
            (.foldl (.ite (.srcRestart hs) hs) fun _ _ h => .putGap h))
        (.putGap <| .ite (.withSrc <| .foldl (.ite (.srcRestart hs) hs) fun _ _ h => .putGap h)
            (.foldl (.ite (.srcRestart hs) hs) fun _ _ h => .putGap h)))

theorem acqItem {a k : Nat} {i : Item} (hs : Onward False Q s₀ s) (h : Machine.acqItem a k s = some (i, s')) :
    Onward False Q s₀ s' := by
  unfold Machine.acqItem at h
  split at h
  · exact .takeDelivered hs h
  · split at h
    · cases h
    · cases h
      exact .withAcq hs

theorem makePart {a k : Nat} (hs : Onward P Q s₀ s) : Onward P Q s₀ (makePart a k s).2 := .time hs

theorem makeParts {a : Nat} (hs : Onward P Q s₀ s) : Onward P Q s₀ (makeParts a s).2 :=
  List.foldlRecOn (motive := fun p : List AcqPart × State => Onward P Q s₀ p.2) _ _ hs fun _ h k _ =>
    .makePart (k := k) h

theorem writeHeaders {a : Nat} {g : AcqSeg} (hs : Onward P Q s₀ s) : Onward P Q s₀ (writeHeaders a g s) :=
  .foldl hs fun _ _ h => .acqWrite h
theorem readBusy {a : Nat} (hs : Onward P Q s₀ s) : Onward P Q s₀ (readBusy a s) := .setB hs

theorem autoNext {a : Nat} (hs : Onward P Q s₀ s) : Onward P Q s₀ (autoNext a s) := by
  unfold Machine.autoNext
  split
  exacts [.readBusy <| .wr <| .withAcq hs, .readBusy hs]

theorem acqRefused {ag : AgentId} {a cmd : Nat} (hs : Onward P Q s₀ s) : Onward P Q s₀ (acqRefused ag a cmd s).1 :=
  .fst <| .ignored <| .setB hs

theorem acqStart {ag : AgentId} {a : Nat} (hs : Onward P Q s₀ s) : Onward P Q s₀ (acqStart ag a s).1 := by
  unfold Machine.acqStart
  split
  · exact .fst <| .raise <| .acqRefused hs
  · extract_lets +onlyGivenNames _ _ _ s₁
    have h₁ : Onward P Q s₀ s₁ := .foldl (.withAcq <| .wr <| .wr hs) fun _ _ h => .withSrc h
    exact .fst <| .raise <| .bumpEpoch <| .ite (.setAstate h₁) (.openSlot h₁)

theorem acqAbort {a : Nat} (hs : Onward P Q s₀ s) : Onward P Q s₀ (acqAbort a s) :=
  .ite (.acqDone <| .setF hs) (.setF hs)
theorem acqRead {ag : AgentId} {a : Nat} (hs : Onward P Q s₀ s) : Onward P Q s₀ (acqRead ag a s).1 :=
  .iteFst (.acqRefused hs) (.fst <| .readBusy <| .wr <| .withAcq hs)
theorem acqReadAbort {a : Nat} (hs : Onward P Q s₀ s) : Onward P Q s₀ (acqReadAbort a s) :=
  .ite (.readBusy <| .withAcq <| .setF hs) (.setF hs)

theorem acqCmdEff {ag : AgentId} {a : Nat} {v : BitVec 32} (hs : Onward P Q s₀ s) :
    Onward P Q s₀ (acqCmdEff ag a v s).1 := by
  unfold Machine.acqCmdEff
  split
  · exact hs
  · exact .acqStart hs
  · exact .fst <| .acqStop hs
  · exact .fst <| .acqAbort hs
  · exact .acqRead hs
  · exact .fst <| .acqReadAbort hs
  · exact .fst <| .listFlush hs
  · exact .acqRefused hs

theorem acqCmdW {ag : AgentId} {a c : Nat} (hs : Onward P Q s₀ s) : Onward P Q s₀ (acqCmdW ag a c s) :=
  .guardW hs fun _ h => .acqCmdEff h

theorem acqSetupEff {a : Nat} {eff : State → WRes} (hs : Onward P Q s₀ s)
    (he : ∀ s, Onward P Q s₀ s → Onward P Q s₀ (eff s).1) : Onward P Q s₀ (acqSetupEff a eff s).1 := by
  unfold Machine.acqSetupEff
  split
  · exact .setB hs
  · exact he s hs

theorem mtStep {a : Nat} (hs : Onward P Q s₀ s) : Onward P Q s₀ (mtStep a s) := .wr hs
theorem mtDataEff {a : Nat} {v : BitVec 32} (hs : Onward P Q s₀ s) : Onward P Q s₀ (mtDataEff a v s).1 :=
  .acqSetupEff hs fun _ h => .mtStep <| .withAcq h

theorem readChunk {a port : Nat} {p : AcqPart} {c : AcqChunk} {fails : Bool} {errs : List HbmErr}
    (hs : Onward P Q s₀ s) : Onward P Q s₀ (readChunk a port p c fails errs s).2 := by
  unfold Machine.readChunk
  dsimp only
  split
  exacts [.snd <| .acqReadBytes hs, .snd <| .nextFree <| .acqReadBytes hs]

theorem readSamples {a port : Nat} {p : AcqPart} {lo hi : Nat} {kept : Option AcqKept} {hard : List Nat}
    {errs : List HbmErr} (hs : Onward P Q s₀ s) : Onward P Q s₀ (readSamples a port p lo hi kept hard errs s).2 := by
  refine List.foldlRecOn (motive := fun x : AcqRead × State => Onward P Q s₀ x.2) _ _ hs fun x h c _ => ?_
  refine .iteSnd h ?_
  dsimp only
  split
  exacts [h, .readChunk h]

theorem nextSegment {a : Nat} {j : AcqJob} (hs : Onward P Q s₀ s) : Onward P Q s₀ (nextSegment a j s) :=
  .ite (.wr <| .withAcq hs) (.autoNext <| .raise <| .withAcq hs)

theorem fragment {a : Nat} {j : AcqJob} {g : AcqSeg} {p : AcqPart} {soft : Nat} {hard : List Nat} {errs : List HbmErr}
    (hs : Onward P Q s₀ s) : Onward P Q s₀ (fragment a j g p soft hard errs s) := by
  unfold Machine.fragment
  extract_lets +onlyGivenNames _ _ _ _ _ _ _ _ _ _ _ _ s₁
  have h₁ : Onward P Q s₀ s₁ := .acqOffer <| .updFaultN <| .foldl
      (.foldl (.readSamples hs) fun _ _ h => .faultTransient h) fun _ _ h => .setB <| .faultLasting h
  refine .ite ?_ (.withAcq h₁)
  split
  exacts [.withAcq h₁, .nextSegment h₁]

theorem mtRun {a : Nat} {p : AcqPart} {errs : List HbmErr} (hs : Onward P Q s₀ s) :
    Onward P Q s₀ (mtRun a p errs s).2.2 := by
  refine List.foldlRecOn (motive := fun x : (Nat × Int × Nat) × Bool × State => Onward P Q s₀ x.2.2) _ _ hs
    fun x h c _ => ?_
  split
  exacts [h, .readChunk h]

theorem acqLeave {a : Nat} (hs : Onward P Q s₀ s) : Onward P Q s₀ (acqLeave a s) :=
  .readBusy <| .withAcq <| .tree <| .ite (.acqDone hs) hs
theorem acqDiscard {a : Nat} (hs : Onward P Q s₀ s) : Onward P Q s₀ (acqDiscard a s) := .acqLeave <| .withAcq hs

/-! Auxiliary. -/

theorem withAux {f : Aux → Aux} (hs : Onward P Q s₀ s) : Onward P Q s₀ (withAux f s) := by
  unfold Machine.withAux
  extract_lets +onlyGivenNames _ s₁
  have h₁ : Onward P Q s₀ s₁ := .setB <| .aux hs
  split
  exacts [.setF h₁, h₁]

theorem auxErr (hs : Onward P Q s₀ s) : Onward P Q s₀ (auxErr s) := .setB hs
theorem auxUnsettle (hs : Onward P Q s₀ s) : Onward P Q s₀ (auxUnsettle s) := .setB <| .withAux hs
theorem auxTakeRef (hs : Onward P Q s₀ s) : Onward P Q s₀ (auxTakeRef s) := .ite hs (.auxUnsettle <| .withAux hs)
theorem auxBegin {c : Nat} (hs : Onward P Q s₀ s) : Onward P Q s₀ (auxBegin c s) := .withAux hs

theorem auxBoundary (hs : Onward P Q s₀ s) : Onward P Q s₀ (auxBoundary s) := by
  unfold Machine.auxBoundary
  extract_lets +onlyGivenNames s₁
  have h₁ : Onward P Q s₀ s₁ := .auxTakeRef hs
  refine .ite ?_ h₁
  split
  · exact .auxBegin h₁
  · split
    exacts [.auxBegin h₁, h₁]
  · exact h₁

theorem auxApply (hs : Onward P Q s₀ s) : Onward P Q s₀ (auxApply s) := .ite hs (.auxBoundary hs)
theorem auxConvEff {v : BitVec 32} (hs : Onward P Q s₀ s) : Onward P Q s₀ (auxConvEff v s).1 :=
  .iteFst (.fst <| .auxErr hs) (.fst <| .auxApply <| .wr hs)
theorem auxScanEff {v : BitVec 32} (hs : Onward P Q s₀ s) : Onward P Q s₀ (auxScanEff v s).1 :=
  .fst <| .auxApply <| .wr hs

theorem auxClose {stop : Bool} (hs : Onward P Q s₀ s) : Onward P Q s₀ (auxClose stop s) := by
  unfold Machine.auxClose
  extract_lets +onlyGivenNames _
  split
  exacts [hs, .offer <| .withAux hs]

theorem auxLoss {sram stream : Nat} (hs : Onward P Q s₀ s) : Onward P Q s₀ (auxLoss sram stream s) := by
  unfold Machine.auxLoss
  extract_lets +onlyGivenNames s₁
  have h₁ : Onward P Q s₀ s₁ := .withAux hs
  split
  exacts [.rateAdd h₁, .raise <| .rateOpen <| .withAux h₁]

theorem auxToSram {e : AuxEntry} (hs : Onward P Q s₀ s) : Onward P Q s₀ (auxToSram e s) :=
  .ite (.withAux <| .setF <| .foldl hs fun _ _ h => .wr h) (.auxLoss <| .bump <| .withAux hs)

theorem auxToStream {e : AuxEntry} (hs : Onward P Q s₀ s) : Onward P Q s₀ (auxToStream e s) := by
  unfold Machine.auxToStream
  refine .ite ?_ (.auxLoss <| .bump <| .withAux hs)
  extract_lets +onlyGivenNames _ s₁
  have h₁ : Onward P Q s₀ s₁ := .withAux hs
  exact .ite (.auxClose h₁) h₁

theorem auxCompare {c : Nat} {v : Int} {t : Stamp} (hs : Onward P Q s₀ s) : Onward P Q s₀ (auxCompare c v t s) :=
  .ite (.raise <| .bump <| .setB <| .setF hs) (.setF hs)

theorem auxWinEff {c : Nat} {v : BitVec 32} (hs : Onward P Q s₀ s) : Onward P Q s₀ (auxWinEff c v s).1 := by
  unfold Machine.auxWinEff
  extract_lets +onlyGivenNames s₁
  have h₁ : Onward P Q s₀ s₁ := .wrMask hs
  exact .ite h₁ (.setF h₁)

theorem auxConvert {ag : AgentId} (hs : Onward P Q s₀ s) : Onward P Q s₀ (auxConvert ag s).1 :=
  .iteFst (.fst <| .auxBegin hs) (.fst <| .ignored <| .auxErr hs)

theorem auxCmdEff {ag : AgentId} {v : BitVec 32} (hs : Onward P Q s₀ s) : Onward P Q s₀ (auxCmdEff ag v s).1 := by
  unfold Machine.auxCmdEff
  extract_lets +onlyGivenNames s₁ s₂
  have h₁ : Onward P Q s₀ s₁.1 := .iteFst (.auxConvert hs) hs
  have h₂ : Onward P Q s₀ s₂ := .ite (.auxClose h₁) h₁
  exact .ite (.foldl h₂ fun _ _ h => .wr h) h₂

theorem auxCmdWrite {ag : AgentId} {v : BitVec 32} (hs : Onward P Q s₀ s) : Onward P Q s₀ (auxCmdWrite ag v s) :=
  .guardW hs fun _ h => .auxCmdEff h
theorem auxRdEff {v : BitVec 32} (hs : Onward P Q s₀ s) : Onward P Q s₀ (auxRdEff v s).1 :=
  .iteFst (.fst <| .auxErr hs) (.fst <| .setF hs)

theorem auxStart (hs : Onward P Q s₀ s) : Onward P Q s₀ (auxStart s) := by
  unfold Machine.auxStart
  split
  exacts [.enterFault <| .raise hs, .auxBoundary <| .withAux <| .foldl (.wr hs) fun _ _ h => .setB h]

theorem auxDrain (hs : Onward P Q s₀ s) : Onward P Q s₀ (auxDrain s) := .ite hs (.auxClose hs)
theorem auxDiscard (hs : Onward P Q s₀ s) : Onward P Q s₀ (auxDiscard s) := .withAux hs
theorem auxUngate (hs : Onward P Q s₀ s) : Onward P Q s₀ (auxUngate s) := .auxTakeRef <| .setB hs

/-! Host. -/

theorem showFlume {f : Nat} (hs : Onward P Q s₀ s) : Onward P Q s₀ (showFlume f s) := .setF <| .setB hs
theorem dropReport {f n : Nat} (hs : Onward P Q s₀ s) : Onward P Q s₀ (dropReport f n s) := .raiseRated hs

theorem admitItem {b f : Nat} {i : Item} (hs : Onward P Q s₀ s) : Onward P Q s₀ (admitItem b f i s) :=
  .ite (.host hs)
    (.ite (.showFlume <| .setFlume <| .takeSeq hs)
      (.ite (.showFlume <| .stageRec hs) (.ite (.host hs) (.dropReport <| .dropRec hs))))

theorem steerItem {b : Nat} {i : Item} (hs : Onward P Q s₀ s) : Onward P Q s₀ (steerItem b i s) := by
  unfold Machine.steerItem
  split
  exacts [.admitItem hs, .raiseRated <| .bump hs]

theorem retryWaiting (hs : Onward P Q s₀ s) : Onward P Q s₀ (retryWaiting s) :=
  .foldl (.host hs) fun _ _ h => .steerItem h
theorem flumeIrq {f : Nat} (hs : Onward P Q s₀ s) : Onward P Q s₀ (flumeIrq f s) := .msixSignal <| .setFlume hs
theorem writeCpl {f : Nat} {c : FlumeCpl} (hs : Onward P Q s₀ s) : Onward P Q s₀ (writeCpl f c s) :=
  .ite (.flumeIrq <| .setFlume <| .setF <| .host hs) (.setFlume <| .setF <| .host hs)
theorem flushHeld {f : Nat} (hs : Onward P Q s₀ s) : Onward P Q s₀ (flushHeld f s) :=
  .foldl hs fun _ _ h => .ite (.writeCpl <| .setFlume h) h
theorem postCpl {f : Nat} {c : FlumeCpl} (hs : Onward P Q s₀ s) : Onward P Q s₀ (postCpl f c s) :=
  .flushHeld <| .setFlume hs

theorem closeBuf {f flags : Nat} (hs : Onward P Q s₀ s) : Onward P Q s₀ (closeBuf f flags s) := by
  unfold Machine.closeBuf
  extract_lets +onlyGivenNames _
  split
  exacts [hs, .postCpl <| .setFlume hs]

theorem setFstate {f st cause : Nat} (hs : Onward P Q s₀ s) : Onward P Q s₀ (setFstate f st cause s) :=
  .setF <| .setF hs

theorem closeIfDone {f : Nat} (hs : Onward P Q s₀ s) : Onward P Q s₀ (closeIfDone f s) := by
  unfold Machine.closeIfDone
  extract_lets +onlyGivenNames _
  refine .ite ?_ hs
  extract_lets +onlyGivenNames s₁
  have h₁ : Onward P Q s₀ s₁ := .closeBuf hs
  exact .ite (.raise <| .setFstate h₁) h₁

theorem flumeError {f cause : Nat} (hs : Onward P Q s₀ s) : Onward P Q s₀ (flumeError f cause s) :=
  .ite (.retryWaiting <| .raise <| .setFstate hs) hs

theorem exitCheck {f : Nat} {good1 good2 : Bool} (hs : Onward P Q s₀ s) : Onward P Q s₀ (exitCheck f good1 good2 s) := by
  unfold Machine.exitCheck
  split
  exacts [hs, .ite hs (.ite (.raiseRated <| .faultTransient hs) (.faultLasting <| .setB <| .bump <| .setFlume hs))]

theorem placeRec {f : Nat} {r : StagedRec} {b : FlumeBuf} (hs : Onward P Q s₀ s) : Onward P Q s₀ (placeRec f r b s) :=
  .retryWaiting <| .closeIfDone <| .showFlume <| .bump <| .wr <| .setFlume <| .host hs
theorem dropAdmitted {f : Nat} (hs : Onward P Q s₀ s) : Onward P Q s₀ (dropAdmitted f s) :=
  .dropReport <| .showFlume <| .bump <| .setFlume hs
theorem flumeCmdErr {f : Nat} (hs : Onward P Q s₀ s) : Onward P Q s₀ (flumeCmdErr f s) := .setB hs
theorem freeTailEff {ag : AgentId} {f : Nat} {v : BitVec 32} (hs : Onward P Q s₀ s) :
    Onward P Q s₀ (freeTailEff ag f v s).1 := .iteFst hs (.iteFst (.fst <| .flumeCmdErr hs) (.fst <| .setF hs))
theorem cplHeadEff {ag : AgentId} {f : Nat} {v : BitVec 32} (hs : Onward P Q s₀ s) :
    Onward P Q s₀ (cplHeadEff ag f v s).1 := .iteFst hs (.fst <| .closeIfDone <| .flushHeld <| .setF hs)

theorem flumeOpenEff {f : Nat} (hs : Onward P Q s₀ s) : Onward P Q s₀ (flumeOpenEff f s).1 := by
  unfold Machine.flumeOpenEff
  refine .iteFst (.flumeCmdErr hs) ?_
  split
  · exact .raise <| .setF <| .flumeCmdErr hs
  · dsimp only
    split
    · exact .auditCatchUp <| .setFstate <| .wr <| .wr <| .wr <| .setFlume hs
    · exact .setFstate <| .wr <| .wr <| .wr <| .setFlume hs

theorem flumeCloseEff {f : Nat} (hs : Onward P Q s₀ s) : Onward P Q s₀ (flumeCloseEff f s).1 :=
  .iteFst (.fst <| .retryWaiting <| .closeIfDone <| .setFstate hs) (.fst <| .flumeCmdErr hs)

theorem flumeReset {f : Nat} (hs : Onward P Q s₀ s) : Onward P Q s₀ (flumeReset f s) := by
  unfold Machine.flumeReset
  extract_lets +onlyGivenNames _ _ _ s₁ s₂
  have h₁ : Onward P Q s₀ s₁ := .setFlume <| .bump hs
  have h₂ : Onward P Q s₀ s₂ := by
    unfold s₂
    split
    exacts [.ite h₁ (.closeBuf h₁), h₁]
  exact .retryWaiting <| .showFlume <| .setFstate <| .setFlume h₂

theorem flumeFlushEff {f : Nat} (hs : Onward P Q s₀ s) : Onward P Q s₀ (flumeFlushEff f s).1 := by
  unfold Machine.flumeFlushEff
  split
  exacts [.iteFst hs (.fst <| .closeBuf hs), hs]

theorem flumeCmdEff {ag : AgentId} {f : Nat} {v : BitVec 32} (hs : Onward P Q s₀ s) :
    Onward P Q s₀ (flumeCmdEff ag f v s).1 := by
  unfold Machine.flumeCmdEff
  refine .iteFst hs ?_
  extract_lets +onlyGivenNames s₁
  have h₁ : Onward P Q s₀ s₁ := .ite (.flumeFlushEff hs) hs
  split
  exacts [.flumeOpenEff h₁, .flumeCloseEff h₁, .fst <| .flumeReset h₁, h₁]

theorem flumeCmdWrite {ag : AgentId} {f v : Nat} (hs : Onward P Q s₀ s) : Onward P Q s₀ (flumeCmdWrite ag f v s) :=
  .guardW hs fun _ h => .flumeCmdEff h
theorem flumeCfgEff {ag : AgentId} {r : Reg} {f : Nat} {v : BitVec 32} (hs : Onward P Q s₀ s) :
    Onward P Q s₀ (flumeCfgEff ag r f v s).1 := .iteFst hs (.iteFst hs (.iteFst hs (.fst <| .wrMask hs)))
theorem clearMsix {fn : Nat} (hs : Onward P Q s₀ s) : Onward P Q s₀ (clearMsix fn s) := .host hs
theorem resetFunction {fn : Nat} (hs : Onward P Q s₀ s) : Onward P Q s₀ (resetFunction fn s) :=
  .raise <| .bump <| .clearMsix <| .wr <| .foldl hs fun _ _ h => .flumeReset h

/-! Mgt. -/

theorem setBank {ag : AgentId} {b : CvBank} (hs : Onward P Q s₀ s) : Onward P Q s₀ (setBank ag b s) := .mgt hs
theorem setChan {c : Nat} {x : CvChan} (hs : Onward P Q s₀ s) : Onward P Q s₀ (setChan c x s) := .setF <| .mgt hs

theorem ringDoorbell {d : Nat} (hs : Onward P Q s₀ s) : Onward P Q s₀ (ringDoorbell d s) := by
  unfold Machine.ringDoorbell
  extract_lets +onlyGivenNames _ s₁
  have h₁ : Onward P Q s₀ s₁ := .wr hs
  exact .ite (.irqSource h₁) (.ite (.dspPend h₁) h₁)

theorem cvComplete {ag : AgentId} {status ch seq db : Nat} {dbEn dbAll : Bool} (hs : Onward P Q s₀ s) :
    Onward P Q s₀ (cvComplete ag status ch seq db dbEn dbAll s) := by
  unfold Machine.cvComplete
  extract_lets +onlyGivenNames _ s₁ s₂
  have h₁ : Onward P Q s₀ s₁ := .setBank hs
  have h₂ : Onward P Q s₀ s₂ := .ite (.dspPend h₁) h₁
  exact .ite (.ringDoorbell h₂) h₂

theorem cvTransient (hs : Onward P Q s₀ s) : Onward P Q s₀ (cvTransient s) :=
  .raiseRated <| .faultTransient <| .bump hs

theorem cvSend {ag : AgentId} {v : BitVec 32} {ecc : Nat} (hs : Onward P Q s₀ s) :
    Onward P Q s₀ (cvSend ag v ecc s) := by
  unfold Machine.cvSend
  extract_lets +onlyGivenNames _ _ _ _ s₁
  have h₁ : Onward P Q s₀ s₁ := .setBank hs
  split
  · exact .cvComplete <| .bump h₁
  · extract_lets +onlyGivenNames _ _ s₂
    have h₂ : Onward P Q s₀ s₂ := .setChan h₁
    exact .ite h₂ (.ite (.cvTransient h₂) (.faultLasting <| .cvComplete <| .bump <| .setChan h₁))

theorem cvPop {c ecc : Nat} (hs : Onward P Q s₀ s) : Onward P Q s₀ (cvPop c ecc s) := by
  unfold Machine.cvPop
  extract_lets +onlyGivenNames _
  split
  · exact hs
  · extract_lets +onlyGivenNames s₁
    have h₁ : Onward P Q s₀ s₁ := .setChan hs
    refine .ite (.faultLasting <| .cvComplete <| .bump h₁) ?_
    extract_lets +onlyGivenNames s₂
    have h₂ : Onward P Q s₀ s₂ := .cvComplete <| .bump h₁
    exact .ite (.cvTransient h₂) h₂

theorem cvDiscard {ag : AgentId} {c code : Nat} (hs : Onward P Q s₀ s) : Onward P Q s₀ (cvDiscard ag c code s) :=
  .ite hs (.audit <| .bump <| .foldl (.setChan hs) fun _ _ h => .cvComplete h)
theorem gateFree {h code : Nat} {ag : AgentId} (hs : Onward P Q s₀ s) : Onward P Q s₀ (gateFree h code ag s) :=
  .ite hs (.raise <| .audit <| .ite (.bump <| .wr <| .mgt hs) (.wr <| .mgt hs))
theorem gatesFree {ag : AgentId} (hs : Onward P Q s₀ s) : Onward P Q s₀ (gatesFree ag s) :=
  .foldl hs fun _ _ h => .ite (.gateFree h) h

theorem receiverReset {ag : AgentId} (hs : Onward P Q s₀ s) : Onward P Q s₀ (receiverReset ag s) := by
  unfold Machine.receiverReset
  extract_lets +onlyGivenNames _ s₁
  have h₁ : Onward P Q s₀ s₁ := .foldl hs fun _ _ h => .ite (.cvDiscard h) h
  exact .gatesFree <| .ite h₁ (.raise h₁)

theorem rxpopEff {ag : AgentId} {c ecc : Nat} (hs : Onward P Q s₀ s) : Onward P Q s₀ (rxpopEff ag c ecc s).1 :=
  .iteFst (.fst <| .cvPop hs) hs

theorem txstat {ag : AgentId} (hs : Onward P Q s₀ s) : Onward P Q s₀ (txstat ag s).2 := by
  unfold Machine.txstat
  extract_lets +onlyGivenNames _
  split
  exacts [hs, .snd <| .setBank hs]

theorem cvCfgEff {ag : AgentId} {c : Nat} {v : BitVec 32} (hs : Onward P Q s₀ s) :
    Onward P Q s₀ (cvCfgEff ag c v s).1 :=
  .iteFst hs (.fst <| .wr <| .ite hs (.ite (.cvDiscard hs) (.raise <| .cvDiscard hs)))

theorem dbRing {j : Nat} {v : BitVec 32} (hs : Onward P Q s₀ s) : Onward P Q s₀ (dbRing j v s) :=
  .foldl hs fun _ _ h => .ite (.ringDoorbell h) h
theorem dbClear {j : Nat} {v : BitVec 32} (hs : Onward P Q s₀ s) : Onward P Q s₀ (dbClear j v s) := .wr hs

theorem gateRead {h : Nat} {ags : List AgentId} (hs : Onward P Q s₀ s) : Onward P Q s₀ (gateRead h ags s).2 := by
  unfold Machine.gateRead
  dsimp only
  refine .iteSnd hs ?_
  split
  exacts [hs, .ite (.bump <| .wr <| .wr <| .wr <| .wr <| .wr <| .mgt hs) (.wr <| .mgt hs)]

theorem gateWriteEff {ag : AgentId} {h : Nat} {v : BitVec 32} (hs : Onward P Q s₀ s) :
    Onward P Q s₀ (gateWriteEff ag h v s).1 := .iteFst (.fst <| .wr <| .mgt hs) hs
theorem gateForceEff {ag : AgentId} {v : BitVec 32} (hs : Onward P Q s₀ s) : Onward P Q s₀ (gateForceEff ag v s).1 :=
  .iteFst hs (.iteFst (.fst <| .gateFree hs) hs)

theorem setMc {m st cause : Nat} (hs : Onward P Q s₀ s) : Onward P Q s₀ (setMc m st cause s) := by
  unfold Machine.setMc
  extract_lets +onlyGivenNames _ s₁
  have h₁ : Onward P Q s₀ s₁ := .setF <| .setF hs
  exact .ite h₁ (.updFaultN <| .raise h₁)

theorem mcRestart {m : Nat} (hs : Onward P Q s₀ s) : Onward P Q s₀ (mcRestart m s) := .receiverReset <| .setMc hs
theorem smbPecErr (hs : Onward P Q s₀ s) : Onward P Q s₀ (smbPecErr s) := .setF hs

/-! Spectral. -/

theorem withSpec {e : Nat} {f : Spec → Spec} (hs : Onward P Q s₀ s) : Onward P Q s₀ (withSpec e f s) := .spec hs
theorem winStore {e b : Nat} {l : List Nat} (hs : Onward P Q s₀ s) : Onward P Q s₀ (winStore e b l s) := .winBank hs
theorem winActive {e : Nat} {bank : List Nat} {n : Nat} (hs : Onward P Q s₀ s) :
    Onward P Q s₀ (winActive e bank n s) := .ite (.free <| .wr <| .wr hs) (.wr <| .wr hs)
theorem bankSwap {e : Nat} {c : SpecSet} (hs : Onward P Q s₀ s) : Onward P Q s₀ (bankSwap e c s) :=
  .winActive <| .withSpec hs
theorem winGenerate {e : Nat} {c : SpecSet} (hs : Onward P Q s₀ s) : Onward P Q s₀ (winGenerate e c s) := .winStore hs
theorem specOffer {e stream : Nat} {took : Bool} {i : Item} (hs : Onward P Q s₀ s) :
    Onward P Q s₀ (specOffer e stream took i s) := .ite (.offer hs) (.raiseRated <| .bump hs)

theorem specCloseRec {e : Nat} {took : Bool} (hs : Onward P Q s₀ s) : Onward P Q s₀ (specCloseRec e took s) := by
  unfold Machine.specCloseRec
  extract_lets +onlyGivenNames _
  split
  exacts [.specOffer <| .withSpec hs, hs]

theorem specSat {e k : Nat} (hs : Onward P Q s₀ s) : Onward P Q s₀ (specSat e k s) :=
  .ite hs (.raiseRated <| .bump hs)

theorem specEmitTrace {e extra : Nat} {took : Bool} (hs : Onward P Q s₀ s) :
    Onward P Q s₀ (specEmitTrace e extra took s) := by
  unfold Machine.specEmitTrace
  extract_lets +onlyGivenNames _
  split
  exacts [.specOffer <| .specSat <| .withSpec <| .ite hs (.bump hs), hs]

theorem specFinish {e : Nat} (hs : Onward P Q s₀ s) : Onward P Q s₀ (specFinish e s) :=
  .specEmitTrace <| .portTook <| .specCloseRec <| .portTook hs

theorem specSide {e : Nat} {out : SpecOut} (hs : Onward P Q s₀ s) : Onward P Q s₀ (specSide e out s) := by
  unfold Machine.specSide
  extract_lets +onlyGivenNames s₁
  have h₁ : Onward P Q s₀ s₁ := .ite (.withTrig hs) hs
  exact .ite (.dens h₁) h₁

theorem spectrumComputed {e : Nat} {took0 took1 : Bool} {fr : SpecFrame} (hs : Onward P Q s₀ s) :
    Onward P Q s₀ (spectrumComputed e took0 took1 fr s) :=
  .ite
    (.ite
      (.specEmitTrace <| .withSpec <| .ite
          (.specCloseRec <| .withSpec <| .specSide <| .time <| .ite
              (.bump <| .specSat <| .ite
                  (.wr <| .wr <| .wr <| .ite
                      (.nextFree <| .withSpec <| .ite (.specFinish hs) (.ite (.specEmitTrace hs) hs))
                      (.withSpec <| .ite (.specFinish hs) (.ite (.specEmitTrace hs) hs)))
                  (.bump <| .wr <| .wr <| .wr <| .ite
                      (.nextFree <| .withSpec <| .ite (.specFinish hs) (.ite (.specEmitTrace hs) hs))
                      (.withSpec <| .ite (.specFinish hs) (.ite (.specEmitTrace hs) hs))))
              (.specSat <| .ite
                  (.wr <| .wr <| .wr <| .ite
                      (.nextFree <| .withSpec <| .ite (.specFinish hs) (.ite (.specEmitTrace hs) hs))
                      (.withSpec <| .ite (.specFinish hs) (.ite (.specEmitTrace hs) hs)))
                  (.bump <| .wr <| .wr <| .wr <| .ite
                      (.nextFree <| .withSpec <| .ite (.specFinish hs) (.ite (.specEmitTrace hs) hs))
                      (.withSpec <| .ite (.specFinish hs) (.ite (.specEmitTrace hs) hs)))))
          (.withSpec <| .specSide <| .time <| .ite
              (.bump <| .specSat <| .ite
                  (.wr <| .wr <| .wr <| .ite
                      (.nextFree <| .withSpec <| .ite (.specFinish hs) (.ite (.specEmitTrace hs) hs))
                      (.withSpec <| .ite (.specFinish hs) (.ite (.specEmitTrace hs) hs)))
                  (.bump <| .wr <| .wr <| .wr <| .ite
                      (.nextFree <| .withSpec <| .ite (.specFinish hs) (.ite (.specEmitTrace hs) hs))
                      (.withSpec <| .ite (.specFinish hs) (.ite (.specEmitTrace hs) hs))))
              (.specSat <| .ite
                  (.wr <| .wr <| .wr <| .ite
                      (.nextFree <| .withSpec <| .ite (.specFinish hs) (.ite (.specEmitTrace hs) hs))
                      (.withSpec <| .ite (.specFinish hs) (.ite (.specEmitTrace hs) hs)))
                  (.bump <| .wr <| .wr <| .wr <| .ite
                      (.nextFree <| .withSpec <| .ite (.specFinish hs) (.ite (.specEmitTrace hs) hs))
                      (.withSpec <| .ite (.specFinish hs) (.ite (.specEmitTrace hs) hs))))))
      (.withSpec <| .ite
          (.specCloseRec <| .withSpec <| .specSide <| .time <| .ite
              (.bump <| .specSat <| .ite
                  (.wr <| .wr <| .wr <| .ite
                      (.nextFree <| .withSpec <| .ite (.specFinish hs) (.ite (.specEmitTrace hs) hs))
                      (.withSpec <| .ite (.specFinish hs) (.ite (.specEmitTrace hs) hs)))
                  (.bump <| .wr <| .wr <| .wr <| .ite
                      (.nextFree <| .withSpec <| .ite (.specFinish hs) (.ite (.specEmitTrace hs) hs))
                      (.withSpec <| .ite (.specFinish hs) (.ite (.specEmitTrace hs) hs))))
              (.specSat <| .ite
                  (.wr <| .wr <| .wr <| .ite
                      (.nextFree <| .withSpec <| .ite (.specFinish hs) (.ite (.specEmitTrace hs) hs))
                      (.withSpec <| .ite (.specFinish hs) (.ite (.specEmitTrace hs) hs)))
                  (.bump <| .wr <| .wr <| .wr <| .ite
                      (.nextFree <| .withSpec <| .ite (.specFinish hs) (.ite (.specEmitTrace hs) hs))
                      (.withSpec <| .ite (.specFinish hs) (.ite (.specEmitTrace hs) hs)))))
          (.withSpec <| .specSide <| .time <| .ite
              (.bump <| .specSat <| .ite
                  (.wr <| .wr <| .wr <| .ite
                      (.nextFree <| .withSpec <| .ite (.specFinish hs) (.ite (.specEmitTrace hs) hs))
                      (.withSpec <| .ite (.specFinish hs) (.ite (.specEmitTrace hs) hs)))
                  (.bump <| .wr <| .wr <| .wr <| .ite
                      (.nextFree <| .withSpec <| .ite (.specFinish hs) (.ite (.specEmitTrace hs) hs))
                      (.withSpec <| .ite (.specFinish hs) (.ite (.specEmitTrace hs) hs))))
              (.specSat <| .ite
                  (.wr <| .wr <| .wr <| .ite
                      (.nextFree <| .withSpec <| .ite (.specFinish hs) (.ite (.specEmitTrace hs) hs))
                      (.withSpec <| .ite (.specFinish hs) (.ite (.specEmitTrace hs) hs)))
                  (.bump <| .wr <| .wr <| .wr <| .ite
                      (.nextFree <| .withSpec <| .ite (.specFinish hs) (.ite (.specEmitTrace hs) hs))
                      (.withSpec <| .ite (.specFinish hs) (.ite (.specEmitTrace hs) hs)))))))
    (.ite
      (.specCloseRec <| .withSpec <| .specSide <| .time <| .ite
          (.bump <| .specSat <| .ite
              (.wr <| .wr <| .wr <| .ite
                  (.nextFree <| .withSpec <| .ite (.specFinish hs) (.ite (.specEmitTrace hs) hs))
                  (.withSpec <| .ite (.specFinish hs) (.ite (.specEmitTrace hs) hs)))
              (.bump <| .wr <| .wr <| .wr <| .ite
                  (.nextFree <| .withSpec <| .ite (.specFinish hs) (.ite (.specEmitTrace hs) hs))
                  (.withSpec <| .ite (.specFinish hs) (.ite (.specEmitTrace hs) hs))))
          (.specSat <| .ite
              (.wr <| .wr <| .wr <| .ite
                  (.nextFree <| .withSpec <| .ite (.specFinish hs) (.ite (.specEmitTrace hs) hs))
                  (.withSpec <| .ite (.specFinish hs) (.ite (.specEmitTrace hs) hs)))
              (.bump <| .wr <| .wr <| .wr <| .ite
                  (.nextFree <| .withSpec <| .ite (.specFinish hs) (.ite (.specEmitTrace hs) hs))
                  (.withSpec <| .ite (.specFinish hs) (.ite (.specEmitTrace hs) hs)))))
      (.withSpec <| .specSide <| .time <| .ite
          (.bump <| .specSat <| .ite
              (.wr <| .wr <| .wr <| .ite
                  (.nextFree <| .withSpec <| .ite (.specFinish hs) (.ite (.specEmitTrace hs) hs))
                  (.withSpec <| .ite (.specFinish hs) (.ite (.specEmitTrace hs) hs)))
              (.bump <| .wr <| .wr <| .wr <| .ite
                  (.nextFree <| .withSpec <| .ite (.specFinish hs) (.ite (.specEmitTrace hs) hs))
                  (.withSpec <| .ite (.specFinish hs) (.ite (.specEmitTrace hs) hs))))
          (.specSat <| .ite
              (.wr <| .wr <| .wr <| .ite
                  (.nextFree <| .withSpec <| .ite (.specFinish hs) (.ite (.specEmitTrace hs) hs))
                  (.withSpec <| .ite (.specFinish hs) (.ite (.specEmitTrace hs) hs)))
              (.bump <| .wr <| .wr <| .wr <| .ite
                  (.nextFree <| .withSpec <| .ite (.specFinish hs) (.ite (.specEmitTrace hs) hs))
                  (.withSpec <| .ite (.specFinish hs) (.ite (.specEmitTrace hs) hs))))))

theorem specMem {e op len off : Nat} {data : List Byte} (hs : Onward P Q s₀ s) :
    Onward P Q s₀ (specMem e op len off data s) := .offer hs
theorem specAsk {e : Nat} {ps : List (Nat × Nat)} (hs : Onward P Q s₀ s) : Onward P Q s₀ (specAsk e ps s) :=
  .foldl (.withSpec hs) fun _ _ h => .specMem h

theorem specPut {e : Nat} {l : List (Nat × Nat)} {b : List Byte} (hs : Onward P Q s₀ s) : Onward P Q s₀ (specPut e l b s) := by
  induction l generalizing b s with
  | nil => exact hs
  | cons p r ih => exact ih (.specMem hs)

theorem specPump {e : Nat} (hs : Onward P Q s₀ s) : Onward P Q s₀ (specPump e s) := by
  unfold Machine.specPump
  split
  exacts [.ite (.specAsk <| .withSpec hs) hs, hs]

theorem specRead {e : Nat} {b : List Byte} (hs : Onward P Q s₀ s) : Onward P Q s₀ (specRead e b s) := by
  unfold Machine.specRead
  split
  exacts [.ite (.specAsk <| .specPut <| .withSpec hs) (.ite (.withSpec hs) hs), hs]

theorem specResponse {e : Nat} {i : Item} (hs : Onward P Q s₀ s) : Onward P Q s₀ (specResponse e i s) :=
  .ite hs (.ite (.specRead <| .withSpec <| .iteSnd hs (.nextFree hs)) (.withSpec <| .iteSnd hs (.nextFree hs)))
theorem specDiscard {e : Nat} (hs : Onward P Q s₀ s) : Onward P Q s₀ (specDiscard e s) := .withSpec hs
theorem specCoreFault {e k : Nat} (hs : Onward P Q s₀ s) : Onward P Q s₀ (specCoreFault e k s) :=
  .faultLasting <| .enterFault <| .specDiscard <| .enterFault <| .raise hs

theorem specApply {e : Nat} {q0 : Int} {c : SpecCommit} (hs : Onward P Q s₀ s) : Onward P Q s₀ (specApply e q0 c s) := by
  unfold Machine.specApply
  extract_lets +onlyGivenNames _ _ s₁
  have h₁ : Onward P Q s₀ s₁ := .bumpEpoch <| .setB <| .setF <| .ite (.bankSwap hs) hs
  exact .raise <| .withSpec <| .ite (.specFinish h₁) h₁

theorem specJudge {e : Nat} {n time : Int} (hs : Onward P Q s₀ s) : Onward P Q s₀ (specJudge e n time s) := by
  unfold Machine.specJudge
  refine .ite hs ?_
  extract_lets +onlyGivenNames s₁
  have h₁ : Onward P Q s₀ s₁ := .withSpec hs
  split
  exacts [.ite (.specApply h₁) h₁, h₁]

theorem specBegin {e : Nat} {n : Int} {r : SpecRun} (hs : Onward P Q s₀ s) : Onward P Q s₀ (specBegin e n r s) :=
  .withSpec hs

theorem specStarts {e k : Nat} (hs : Onward P Q s₀ s) : Onward P Q s₀ (specStarts e k s) := by
  induction k generalizing s with
  | zero => exact hs
  | succ k ih =>
    unfold Machine.specStarts
    dsimp only
    split
    · exact hs
    · split
      · split
        exacts [ih (.specBegin (.specJudge hs)), .specJudge hs]
      · exact hs

theorem specReady {e : Nat} (hs : Onward P Q s₀ s) : Onward P Q s₀ (specReady e s) := .withSpec hs

theorem specStore {e : Nat} {n0 : Int} {xs : List Cx} (hs : Onward P Q s₀ s) : Onward P Q s₀ (specStore e n0 xs s) := by
  unfold Machine.specStore
  extract_lets +onlyGivenNames _
  refine .ite ?_ hs
  split
  exacts [.specPut hs, hs]

theorem specTake {e : Nat} {r : InRec} {xs : List Cx} (hs : Onward P Q s₀ s) : Onward P Q s₀ (specTake e r xs s) :=
  .specPump <| .specReady <| .specStore <| .specStarts <| .withSpec hs
theorem specAbandon {e : Nat} (hs : Onward P Q s₀ s) : Onward P Q s₀ (specAbandon e s).2 :=
  .snd <| .withSpec <| .bump hs
theorem specRestart {e : Nat} (hs : Onward P Q s₀ s) : Onward P Q s₀ (specRestart e s) :=
  .withSpec <| .raise <| .bump <| .specAbandon hs
theorem specGap {e miss : Nat} (hs : Onward P Q s₀ s) : Onward P Q s₀ (specGap e miss s) :=
  .ite hs (.foldl (.raise <| .bump hs) fun _ _ h => .specTake h)
theorem specInput {e : Nat} {i : Item} (hs : Onward P Q s₀ s) : Onward P Q s₀ (specInput e i s) :=
  .specTake <| .withSpec <| .ite (.specRestart hs) (.specGap hs)

theorem specCapture {e : Nat} {at_ : Option Nat} (hs : Onward P Q s₀ s) : Onward P Q s₀ (specCapture e at_ s) := by
  unfold Machine.specCapture
  extract_lets +onlyGivenNames _
  split
  exacts [.raise <| .bump <| .setB hs, .withSpec <| .setB <| .setB hs]

theorem specCommitEff {e : Nat} {v : BitVec 32} (hs : Onward P Q s₀ s) : Onward P Q s₀ (specCommitEff e v s).1 := by
  unfold Machine.specCommitEff
  extract_lets s₁
  have h₁ : Onward P Q s₀ s₁ := .ite (.withSpec hs) hs
  split
  · exact .specCapture h₁
  · split
    exacts [.raise <| .setB <| .specCapture h₁, .specCapture h₁]
  · exact .withSpec <| .setB h₁
  · exact h₁

theorem specCommitW {ag : AgentId} {e : Nat} {v : BitVec 32} (hs : Onward P Q s₀ s) :
    Onward P Q s₀ (specCommitW ag e v s) := .guardW hs fun _ h => .specCommitEff h
theorem winStep {e : Nat} (hs : Onward P Q s₀ s) : Onward P Q s₀ (winStep e s) := .wr hs
theorem winDataEff {e : Nat} {v : BitVec 32} (hs : Onward P Q s₀ s) : Onward P Q s₀ (winDataEff e v s).1 :=
  .iteFst hs (.fst <| .winStep <| .winBank hs)

theorem specStart {e : Nat} (hs : Onward P Q s₀ s) : Onward P Q s₀ (specStart e s) := by
  unfold Machine.specStart
  extract_lets +onlyGivenNames _
  split
  · exact .enterFault <| .raise hs
  · extract_lets +onlyGivenNames s₁
    have h₁ : Onward P Q s₀ s₁ := .changeState hs
    exact .specApply <| .withSpec <| .setB <| .ite (.bankSwap <| .winGenerate h₁) (.ite (.bankSwap h₁) h₁)

theorem specDrain {e : Nat} (hs : Onward P Q s₀ s) : Onward P Q s₀ (specDrain e s) := by
  unfold Machine.specDrain
  extract_lets +onlyGivenNames s₁
  have h₁ : Onward P Q s₀ s₁ := .withSpec <| .specAbandon hs
  exact .ite (.specFinish h₁) h₁

/-! Trigger. -/

theorem withWeir {w : Nat} {f : Weir → Weir} (hs : Onward P Q s₀ s) : Onward P Q s₀ (withWeir w f s) := .tree hs

theorem weirPush {a : Arrival} (hs : Onward P Q s₀ s) : Onward P Q s₀ (weirPush a s) := by
  unfold Machine.weirPush
  split
  exacts [.tree hs, .withWeir hs]

theorem fallOcc {info : Occ} (hs : Onward P Q s₀ s) : Onward P Q s₀ (fallOcc info s).2 := .time hs

theorem srcChange {src cycle : Nat} {old new : Bool} {occ : Option Occ} {info : Occ} (hs : Onward P Q s₀ s) :
    Onward P Q s₀ (srcChange src cycle old new occ info s) :=
  .ite hs (.foldl (.iteSnd (.fallOcc hs) hs) fun _ _ h => .ite (.ite h (.weirPush h)) (.ite h (.weirPush h)))

theorem mergeOcc {t : Nat} {o : Occ} {cycle : Nat} (hs : Onward P Q s₀ s) : Onward P Q s₀ (mergeOcc t o cycle s) :=
  .bump <| .tree hs

theorem srcOccur {t : Nat} {o : Occ} {old new : Bool} (hs : Onward P Q s₀ s) :
    Onward P Q s₀ (srcOccur t o old new s) :=
  .ite (.srcChange <| .mergeOcc hs) (.srcChange <| .ite (.bump <| .tree hs) (.tree hs))

theorem trigLevel {t j : Nat} {new : Bool} {info : Occ} (hs : Onward P Q s₀ s) :
    Onward P Q s₀ (trigLevel t j new info s) := .ite hs (.srcChange <| .setB hs)
theorem trigFall {t j : Nat} (hs : Onward P Q s₀ s) : Onward P Q s₀ (trigFall t j s) := .trigLevel hs
theorem trigOccur {t j : Nat} {new : Bool} {o : Occ} (hs : Onward P Q s₀ s) : Onward P Q s₀ (trigOccur t j new o s) :=
  .srcOccur <| .setB hs
theorem evtFollow (hs : Onward P Q s₀ s) : Onward P Q s₀ (evtFollow s) :=
  .foldl hs fun _ _ h => .ite h (.srcChange <| .tree h)
theorem tdClear {t d : Nat} (hs : Onward P Q s₀ s) : Onward P Q s₀ (tdClear t d s) := .withTrig hs

theorem tdTest {t d : Nat} {c : TdCfg} {x : TdSample} (hs : Onward P Q s₀ s) : Onward P Q s₀ (tdTest t d c x s) := by
  unfold Machine.tdTest
  dsimp only
  split
  · exact .trigLevel <| .withTrig hs
  · refine .ite (.trigLevel <| .withTrig hs) ?_
    split
    exacts [.trigLevel <| .withTrig hs, .trigOccur <| .time <| .withTrig hs]

theorem maskClear {t k : Nat} (hs : Onward P Q s₀ s) : Onward P Q s₀ (maskClear t k s) := .trigFall <| .withTrig hs
theorem densClear {t : Nat} (hs : Onward P Q s₀ s) : Onward P Q s₀ (densClear t s) := .trigFall <| .withTrig hs
theorem trigPendBit {t : Nat} (hs : Onward P Q s₀ s) : Onward P Q s₀ (trigPendBit t s) := .setB hs
theorem densApply {t : Nat} {c : TrigSet} (hs : Onward P Q s₀ s) : Onward P Q s₀ (densApply t c s) :=
  .trigPendBit <| .withTrig <| .ite (.densClear hs) hs

theorem trigDensPart {t arrived : Nat} (hs : Onward P Q s₀ s) : Onward P Q s₀ (trigDensPart t arrived s) := by
  unfold Machine.trigDensPart
  split
  exacts [.ite hs (.densApply hs), hs]

theorem trigSpecPart {t arrived : Nat} (hs : Onward P Q s₀ s) : Onward P Q s₀ (trigSpecPart t arrived s) := by
  unfold Machine.trigSpecPart
  split
  · exact hs
  · refine .ite hs ?_
    extract_lets +onlyGivenNames _ _ _ s₁
    have h₁ : Onward P Q s₀ s₁ := .trigPendBit <| .withTrig <| .foldl (.ite (.setB hs) hs)
        fun _ _ h => .ite (.maskClear h) h
    exact .ite h₁ (.trigDensPart h₁)

theorem maskTest {t k : Nat} {o : SpecOut} (hs : Onward P Q s₀ s) : Onward P Q s₀ (maskTest t k o s).1 := by
  unfold Machine.maskTest
  split
  · exact hs
  · refine .iteFst hs ?_
    extract_lets +onlyGivenNames _ _ _ s₁
    have h₁ : Onward P Q s₀ s₁ := .withTrig hs
    exact .iteFst (.fst <| .trigOccur h₁) (.fst <| .trigLevel h₁)

theorem densTest {t : Nat} {o : DensRows} (hs : Onward P Q s₀ s) : Onward P Q s₀ (densTest t o s) := by
  unfold Machine.densTest
  extract_lets +onlyGivenNames _
  refine .ite hs ?_
  extract_lets +onlyGivenNames _ _ _ _ _ s₁
  have h₁ : Onward P Q s₀ s₁ := .withTrig hs
  exact .ite (.trigOccur h₁) (.trigLevel h₁)

theorem trigRefuse {t : Nat} {data : List EvField} (hs : Onward P Q s₀ s) : Onward P Q s₀ (trigRefuse t data s) :=
  .raise <| .bump <| .setB hs

theorem trigCapture {t : Nat} {swap : Bool} (hs : Onward P Q s₀ s) : Onward P Q s₀ (trigCapture t swap s) := by
  unfold Machine.trigCapture
  extract_lets +onlyGivenNames _
  split
  · exact .trigRefuse hs
  · split
    exacts [.trigRefuse hs, .trigPendBit <| .withTrig hs]

theorem trigClearHistory {t : Nat} (hs : Onward P Q s₀ s) : Onward P Q s₀ (trigClearHistory t s) :=
  .densClear <| .foldl hs fun _ _ h => .maskClear h

theorem trigCommitEff {t : Nat} {v : BitVec 32} (hs : Onward P Q s₀ s) : Onward P Q s₀ (trigCommitEff t v s).1 := by
  unfold Machine.trigCommitEff
  extract_lets +onlyGivenNames s₁
  have h₁ : Onward P Q s₀ s₁ := .ite (.trigClearHistory hs) hs
  split
  exacts [.fst <| .trigCapture h₁, .fst <| .trigPendBit <| .withTrig h₁, h₁]

theorem trigCommitW {ag : AgentId} {t : Nat} {v : BitVec 32} (hs : Onward P Q s₀ s) :
    Onward P Q s₀ (trigCommitW ag t v s) := .guardW hs fun _ h => .trigCommitEff h
theorem maskStep {t : Nat} (hs : Onward P Q s₀ s) : Onward P Q s₀ (maskStep t s) := .wr hs
theorem maskDataEff {t : Nat} {v : BitVec 32} (hs : Onward P Q s₀ s) : Onward P Q s₀ (maskDataEff t v s).1 :=
  .iteFst (.bump hs) (.maskStep <| .maskBank hs)
theorem weirLevels {w : Nat} {f : Nat → Bool} (hs : Onward P Q s₀ s) : Onward P Q s₀ (weirLevels w f s) :=
  .foldl hs fun _ _ h => .ite (.withWeir h) h
theorem weirAll {w : Nat} (hs : Onward P Q s₀ s) : Onward P Q s₀ (weirAll w s) := .withWeir hs
theorem weirReconf {w : Nat} (_hs : Onward P Q s₀ s) (hs' : Onward P Q s₀ s') : Onward P Q s₀ (weirReconf w s s') :=
  .weirAll <| .weirLevels hs'
theorem weirClear {w : Nat} (hs : Onward P Q s₀ s) : Onward P Q s₀ (weirClear w s) := .setF <| .setB <| .setB hs

theorem weirIgnoredEvent {w : Nat} (hs : Onward P Q s₀ s) : Onward P Q s₀ (weirIgnoredEvent w s) := by
  unfold Machine.weirIgnoredEvent
  extract_lets +onlyGivenNames _ _
  split
  exacts [.rateAdd hs, .rateOpen <| .withWeir <| .raise hs]

theorem weirIgnore {w cause n : Nat} (hs : Onward P Q s₀ s) : Onward P Q s₀ (weirIgnore w cause n s) :=
  .ite hs (.weirIgnoredEvent <| .withWeir <| .bump hs)
theorem pinsFire {w : Nat} (hs : Onward P Q s₀ s) : Onward P Q s₀ (pinsFire w s) :=
  .foldl hs fun _ _ h => .ite (.tree h) h
theorem weirEvent {w x : Nat} {o : Occ} {ignored : Nat} (hs : Onward P Q s₀ s) :
    Onward P Q s₀ (weirEvent w x o ignored s) := .raiseFull hs

theorem weirFire {w x cycle : Nat} {o : Occ} (hs : Onward P Q s₀ s) : Onward P Q s₀ (weirFire w x cycle o s) :=
  .srcChange <| .srcChange <| .pinsFire <| .tree <| .setB <| .weirClear <| .withWeir <| .weirEvent <| .foldl
      (.wr hs) fun _ _ h => .wr h

theorem weirAccept {w cycle : Nat} {acc : List (Nat × Occ)} (hs : Onward P Q s₀ s) :
    Onward P Q s₀ (weirAccept w cycle acc s) := by
  unfold Machine.weirAccept
  extract_lets +onlyGivenNames _
  split
  · split
    exacts [hs, .weirFire hs]
  · extract_lets +onlyGivenNames s₁ s₂
    have h₁ : Onward P Q s₀ s₁ := .ite (.setB hs) hs
    have h₂ : Onward P Q s₀ s₂ := by
      unfold s₂
      split
      exacts [.ite (.weirFire h₁) h₁, h₁]
    exact .ite (.setB <| .withWeir h₂) h₂
  · extract_lets +onlyGivenNames s₃
    have h₃ : Onward P Q s₀ s₃ := .ite (.setF hs) hs
    split
    exacts [.ite (.weirFire h₃) (.setF h₃), h₃]
  · exact hs

theorem allOcc {x : Nat} {as : List Arrival} {occs : List (Nat × Occ)} (hs : Onward P Q s₀ s) :
    Onward P Q s₀ (allOcc x as occs s).2 := by
  unfold Machine.allOcc
  split
  exacts [hs, .time hs]

theorem weirCycle {w cycle : Nat} {as : List Arrival} (hs : Onward P Q s₀ s) :
    Onward P Q s₀ (weirCycle w cycle as s) := by
  unfold Machine.weirCycle
  extract_lets +onlyGivenNames _ s₁ _
  have h₁ : Onward P Q s₀ s₁ := .weirAll <| .withWeir hs
  refine .ite h₁ ?_
  extract_lets +onlyGivenNames _
  split
  exacts [.weirIgnore h₁, .ite (.ite (.weirFire <| .allOcc h₁) h₁) (.weirAccept h₁)]

theorem lineOut {w : Nat} (hs : Onward P Q s₀ s) : Onward P Q s₀ (lineOut w s) := .tree <| .withWeir hs

theorem treeRun {stop n : Nat} (hs : Onward P Q s₀ s) : Onward P Q s₀ (treeRun stop n s) := by
  induction n generalizing s with
  | zero => exact hs
  | succ n ih =>
    unfold Machine.treeRun
    split
    · exact hs
    · exact .ite hs (ih (.weirCycle (.tree hs)))

theorem weirArm {w : Nat} (hs : Onward P Q s₀ s) : Onward P Q s₀ (weirArm w s) := by
  unfold Machine.weirArm
  split
  exacts [.raise <| .setB <| .withWeir hs, .bumpEpoch <| .weirClear <| .withWeir hs]

theorem weirDisarm {w : Nat} (hs : Onward P Q s₀ s) : Onward P Q s₀ (weirDisarm w s) := .ite (.withWeir hs) hs

theorem weirCmdEff {w : Nat} {v : BitVec 32} (hs : Onward P Q s₀ s) : Onward P Q s₀ (weirCmdEff w v s).1 := by
  unfold Machine.weirCmdEff
  extract_lets +onlyGivenNames s₁ s₂
  have h₁ : Onward P Q s₀ s₁ := .ite (.weirArm hs) hs
  have h₂ : Onward P Q s₀ s₂ := .ite (.weirDisarm h₁) h₁
  exact .ite (.weirClear h₂) h₂

theorem weirCmdW {ag : AgentId} {w : Nat} {v : BitVec 32} (hs : Onward P Q s₀ s) :
    Onward P Q s₀ (weirCmdW ag w v s) := .guardW hs fun _ h => .weirCmdEff h
theorem weirCfgEff {r : Reg} {w j : Nat} {v : BitVec 32} (hs : Onward P Q s₀ s) :
    Onward P Q s₀ (weirCfgEff r w j v s).1 := .iteFst (.fst <| .setB hs) (.fst <| .weirReconf hs (.wrMask hs))
theorem swPulseEff {v : BitVec 32} (hs : Onward P Q s₀ s) : Onward P Q s₀ (swPulseEff v s).1 :=
  .foldl hs fun _ _ h => .ite (.ite (.srcOccur <| .tree <| .time h) (.srcChange <| .srcOccur <| .tree <| .time h)) h

theorem swLevelEff {v : BitVec 32} (hs : Onward P Q s₀ s) : Onward P Q s₀ (swLevelEff v s).1 := by
  refine .foldl hs fun s k h => ?_
  extract_lets old new pu s₁ s₂
  have h₁ : Onward P Q s₀ s₁ := .setB h
  have h₂ : Onward P Q s₀ s₂ := .ite (.srcOccur <| .time h₁) h₁
  exact .ite h₂ (.ite (.srcChange h₂) (.ite h₂ (.srcChange h₂)))

theorem trigOutClrEff {v : BitVec 32} (hs : Onward P Q s₀ s) : Onward P Q s₀ (trigOutClrEff v s).1 :=
  .fst <| .foldl hs fun _ _ h => .ite (.tree h) h
theorem pinsGate (hs : Onward P Q s₀ s) : Onward P Q s₀ (pinsGate s) := .foldl hs fun _ _ h => .ite h (.tree h)
theorem treeStart (hs : Onward P Q s₀ s) : Onward P Q s₀ (treeStart s) :=
  .foldl (.tree hs) fun _ _ h => .weirAll <| .weirLevels <| .weirClear <| .withWeir h

theorem trigStart {t : Nat} (hs : Onward P Q s₀ s) : Onward P Q s₀ (trigStart t s) := by
  unfold Machine.trigStart
  dsimp only
  split
  · exact .enterFault <| .raise hs
  · exact .ite (.treeStart <| .raise <| .bumpEpoch <| .withTrig <| .setF <| .setB <| .changeState hs)
      (.raise <| .bumpEpoch <| .withTrig <| .setF <| .setB <| .changeState hs)

theorem trigDiscard {t : Nat} (hs : Onward P Q s₀ s) : Onward P Q s₀ (trigDiscard t s) := by
  unfold Machine.trigDiscard
  extract_lets +onlyGivenNames _ s₁
  have h₁ : Onward P Q s₀ s₁ := .withTrig <| .foldl hs fun _ _ h => .trigFall h
  exact .ite (.foldl h₁ fun _ _ h => .setF <| .setB h) h₁

/-! DspCore. -/

theorem withDsp {c : Nat} {f : Dsp → Dsp} (hs : Onward P Q s₀ s) : Onward P Q s₀ (withDsp c f s) := .dsp hs
theorem dspWrite {c space a : Nat} {v : Word} (hs : Onward P Q s₀ s) : Onward P Q s₀ (dspWrite c space a v s) :=
  .ite (.dspX hs) (.ite (.dspY hs) (.dspP hs))
theorem dspMemEff {c space a : Nat} {v : Word} (hs : Onward P Q s₀ s) : Onward P Q s₀ (dspMemEff c space a v s).1 :=
  .iteFst (.fst <| .dspWrite hs) hs

theorem dspLoadMem {c space : Nat} {ws : List Word} (hs : Onward P Q s₀ s) :
    Onward P Q s₀ (dspLoadMem c space ws s) :=
  .foldl (.ite (.dspX hs) (.ite (.dspY hs) (.dspP hs))) fun _ _ h => .dspWrite h

theorem withDspIn {c n : Nat} {f : DspIn → DspIn} (hs : Onward P Q s₀ s) : Onward P Q s₀ (withDspIn c n f s) :=
  .withDsp hs

theorem dspEnter {c n : Nat} {i : Item} (hs : Onward P Q s₀ s) : Onward P Q s₀ (dspEnter c n i s) := by
  unfold Machine.dspEnter
  extract_lets +onlyGivenNames _ s₁
  have h₁ : Onward P Q s₀ s₁ := .withDspIn hs
  exact .ite (.raiseRated <| .bump h₁) h₁

theorem dspTake {c n : Nat} {w : Word} (hs : Onward P Q s₀ s) (h : Machine.dspTake c n s = some (w, s')) :
    Onward P Q s₀ s' := by
  unfold Machine.dspTake at h
  split at h
  · cases h
  · split at h
    · cases h
    · cases h
      exact .withDsp (.withDspIn hs)

theorem dspSkip {c n : Nat} (hs : Onward P Q s₀ s) : Onward P Q s₀ (dspSkip c n s) := .withDspIn hs
theorem withDspOut {c n : Nat} {f : DspOut → DspOut} (hs : Onward P Q s₀ s) : Onward P Q s₀ (withDspOut c n f s) :=
  .withDsp hs

theorem dspAppend {c n : Nat} {w : Word} (hs : Onward P Q s₀ s) (h : Machine.dspAppend c n w s = some s') :
    Onward P Q s₀ s' := by
  unfold Machine.dspAppend at h
  split at h
  · split at h
    · cases h
    · cases h
      exact .withDspOut hs
  · split at h
    · cases h
      exact .raiseRated (.bump (.withDspOut hs))
    · split at h
      · cases h
      · cases h
        exact .withDspOut hs

theorem dspClose {c n : Nat} (hs : Onward P Q s₀ s) : Onward P Q s₀ (dspClose c n s) := by
  unfold Machine.dspClose
  dsimp only
  split
  exacts [hs, .offer <| .bump <| .withDspOut <| .iteSnd hs (.time hs)]

theorem dspDropOpen {c n : Nat} (hs : Onward P Q s₀ s) : Onward P Q s₀ (dspDropOpen c n s) := by
  unfold Machine.dspDropOpen
  split
  exacts [hs, .raise <| .bump <| .withDspOut hs]

theorem withDma {c ch : Nat} {f : DspDma → DspDma} (hs : Onward P Q s₀ s) : Onward P Q s₀ (withDma c ch f s) :=
  .withDsp hs
theorem dmaEnd {c ch status : Nat} (hs : Onward P Q s₀ s) : Onward P Q s₀ (dmaEnd c ch status s) :=
  .dspPend <| .withDma hs
theorem dmaStart {c ch : Nat} (hs : Onward P Q s₀ s) : Onward P Q s₀ (dmaStart c ch s) :=
  .ite (.dspPend <| .withDma hs) (.ite (.withDma hs) (.dmaEnd <| .withDma hs))

theorem dmaMove {c ch n : Nat} {errs : List HbmErr} (hs : Onward P Q s₀ s) :
    Onward P Q s₀ (dmaMove c ch n errs s).1 := by
  unfold Machine.dmaMove
  extract_lets +onlyGivenNames _
  split
  · exact hs
  · extract_lets +onlyGivenNames _ _ _
    split
    · extract_lets +onlyGivenNames s₁
      have h₁ : Onward P Q s₀ s₁.2.2 := .hbmReadE hs
      exact .iteFst h₁ (.fst <| .withDma <| .foldl h₁ fun _ _ h => .dspWrite h)
    · extract_lets +onlyGivenNames _ s₂
      have h₂ : Onward P Q s₀ s₂.1 := .hbmWriteE hs
      exact .iteFst (.fst <| .withDma h₂) h₂

theorem dmaError {c ch : Nat} (hs : Onward P Q s₀ s) : Onward P Q s₀ (dmaError c ch s) :=
  .faultLasting <| .raise <| .bump <| .dmaEnd hs
theorem dmaAbort {c ch n : Nat} (hs : Onward P Q s₀ s) : Onward P Q s₀ (dmaAbort c ch n s) :=
  .ite (.dmaEnd <| .iteFst hs (.dmaMove hs)) hs
theorem hostMsgEff {c : Nat} {v : BitVec 32} (hs : Onward P Q s₀ s) : Onward P Q s₀ (hostMsgEff c v s).1 :=
  .fst <| .dspPend <| .wr hs
theorem setFlag {c f : Nat} {new : Bool} (hs : Onward P Q s₀ s) : Onward P Q s₀ (setFlag c f new s) :=
  .ite hs (.ite (.srcOccur <| .time <| .tree hs) (.srcChange <| .tree hs))
theorem tflg {c f op : Nat} (hs : Onward P Q s₀ s) : Onward P Q s₀ (tflg c f op s) :=
  .ite (.setFlag hs) (.ite (.setFlag hs) (.setFlag <| .setFlag hs))

theorem sysRead {c k : Nat} (hs : Onward P Q s₀ s) : Onward P Q s₀ (sysRead c k s).2 := by
  unfold Machine.sysRead
  extract_lets +onlyGivenNames _
  refine .iteSnd hs ?_
  refine .iteSnd hs ?_
  refine .iteSnd hs ?_
  refine .iteSnd hs ?_
  refine .iteSnd hs ?_
  refine .iteSnd hs ?_
  refine .iteSnd hs ?_
  refine .iteSnd hs ?_
  refine .iteSnd (.snd <| .withDsp hs) ?_
  refine .iteSnd hs ?_
  refine .iteSnd hs ?_
  refine .iteSnd hs ?_
  refine .iteSnd hs ?_
  refine .iteSnd hs ?_
  refine .iteSnd hs ?_
  refine .iteSnd hs ?_
  refine .iteSnd hs ?_
  refine .iteSnd hs ?_
  refine .iteSnd hs ?_
  refine .iteSnd hs ?_
  refine .iteSnd (.txstat hs) ?_
  split
  · split <;> exact hs
  · refine .iteSnd hs ?_
    split
    · split <;> exact hs
    · refine .iteSnd ?_ (.iteSnd hs hs)
      split <;> exact hs

theorem sysPut {c k : Nat} {v : Word} (hs : Onward P Q s₀ s) : Onward P Q s₀ (sysPut c k v s) := .withDsp hs

theorem sysWrite {c k : Nat} {v : Word} {n : Nat} (hs : Onward P Q s₀ s) : Onward P Q s₀ (sysWrite c k v n s) := by
  unfold Machine.sysWrite
  refine .ite (.withDsp hs) ?_
  refine .ite (.withDsp hs) ?_
  refine .ite (.withDsp hs) ?_
  refine .ite (.ipend hs) ?_
  refine .ite (.withDsp hs) ?_
  refine .ite (.setFlag <| .setFlag hs) ?_
  refine .ite (.withDsp hs) ?_
  refine .ite (.withDsp hs) ?_
  refine .ite (.sysPut hs) ?_
  refine .ite (.withDspOut <| .sysPut hs) ?_
  refine .ite (.sysPut hs) ?_
  refine .ite (.ite (.dmaStart hs) (.ite (.dmaAbort hs) hs)) ?_
  refine .ite (.sysPut hs) ?_
  refine .ite (.ite (.withDsp hs) hs) ?_
  refine .ite (.cvSend hs) ?_
  refine .ite ?_ (.ite (.setBank hs) (.ite (.withDsp hs) hs))
  split
  exacts [.cvPop hs, hs]

theorem dspStart {c : Nat} (hs : Onward P Q s₀ s) : Onward P Q s₀ (dspStart c s) :=
  .withDsp <| .setFlag <| .setFlag <| .setBank <| .ipend hs
theorem dspDrain {c : Nat} (hs : Onward P Q s₀ s) : Onward P Q s₀ (dspDrain c s) := .dspPend hs
theorem dspLevelsEnd {c : Nat} (hs : Onward P Q s₀ s) : Onward P Q s₀ (dspLevelsEnd c s) :=
  .foldl hs fun _ _ h => .ite (.srcChange h) h
theorem dspEnd {c : Nat} (hs : Onward P Q s₀ s) : Onward P Q s₀ (dspEnd c s) :=
  .dspLevelsEnd <| .withDsp <| .dspDropOpen <| .dspDropOpen hs
theorem dspDiscard {c : Nat} (hs : Onward P Q s₀ s) : Onward P Q s₀ (dspDiscard c s) :=
  .dspEnd <| .withDspIn <| .withDspIn <| .dmaAbort <| .dmaAbort hs
theorem dspReset {c : Nat} (hs : Onward P Q s₀ s) : Onward P Q s₀ (dspReset c s) := .receiverReset hs
theorem dspFault {c cause : Nat} (hs : Onward P Q s₀ s) : Onward P Q s₀ (dspFault c cause s) :=
  .ite (.enterFaultW <| .dspDiscard <| .raise hs) hs
theorem clStartEff {v : BitVec 32} (hs : Onward P Q s₀ s) : Onward P Q s₀ (clStartEff v s).1 :=
  .fst <| .calWatch <| .foldl (.wr hs) fun _ _ h => .dspStart <| .changeState h
theorem coreEntryEff {c : Nat} {v : BitVec 32} (hs : Onward P Q s₀ s) : Onward P Q s₀ (coreEntryEff c v s).1 :=
  .iteFst hs (.fst <| .wr hs)

/-! Compression. -/

theorem withCmp {n : Nat} {f : Cmp → Cmp} (hs : Onward P Q s₀ s) : Onward P Q s₀ (withCmp n f s) :=
  .setF <| .setB <| .setF <| .cmp hs
theorem cmpErr {n : Nat} (hs : Onward P Q s₀ s) : Onward P Q s₀ (cmpErr n s) := .setB hs
theorem addCount {r : Reg} {i j n : Nat} (hs : Onward P Q s₀ s) : Onward P Q s₀ (addCount r i j n s) := .wr hs
theorem cmpCounted {n raw out : Nat} {stored : Bool} (hs : Onward P Q s₀ s) :
    Onward P Q s₀ (cmpCounted n raw out stored s) := .bump <| .bump <| .addCount <| .addCount hs

theorem cmpClose {n : Nat} {stop cont : Bool} (hs : Onward P Q s₀ s) : Onward P Q s₀ (cmpClose n stop cont s) := by
  unfold Machine.cmpClose
  extract_lets +onlyGivenNames _
  split
  exacts [hs, .offer <| .cmpCounted <| .wr <| .wr <| .withCmp hs]

theorem cmpOpen {n : Nat} {cont : Bool} (hs : Onward P Q s₀ s) : Onward P Q s₀ (cmpOpen n cont s) := by
  unfold Machine.cmpOpen
  exact .withCmp <| .time <| .ite (.bumpEpoch <| .withCmp hs) hs

theorem cmpAdd {n : Nat} {piece : List Byte} {failed head : Bool} {origin : BitVec 64} (hs : Onward P Q s₀ s) :
    Onward P Q s₀ (cmpAdd n piece failed head origin s) := .withCmp hs

theorem cmpPut {n : Nat} {failed : Bool} {origin : BitVec 64} {fuel : Nat} {head : Bool} {bs : List Byte}
    (hs : Onward P Q s₀ s) : Onward P Q s₀ (cmpPut n failed origin fuel head bs s) := by
  induction fuel generalizing head bs s with
  | zero => exact hs
  | succ fuel ih =>
    unfold Machine.cmpPut
    extract_lets s₁ s₂
    have h₁ : Onward P Q s₀ s₁ := by
      unfold s₁
      split
      · exact .ite (.cmpClose hs) hs
      · exact hs
    have h₂ : Onward P Q s₀ s₂ := .ite (.cmpOpen h₁) h₁
    split
    · exact h₂
    · exact .ite (.cmpAdd h₂) (ih (.cmpClose (.cmpAdd h₂)))

theorem cmpTake {n : Nat} {i : Item} (hs : Onward P Q s₀ s) : Onward P Q s₀ (cmpTake n i s) :=
  .cmpPut <| .ite (.raiseRated <| .bump hs) hs
theorem streamCfgEff {n : Nat} {v : BitVec 32} (hs : Onward P Q s₀ s) : Onward P Q s₀ (streamCfgEff n v s).1 :=
  .iteFst (.ite (.withCmp <| .wr hs) (.wr hs)) (.fst <| .cmpErr hs)

theorem jobResult {n : Nat} {d : List Word} {status blocks good : Nat} (hs : Onward P Q s₀ s) :
    Onward P Q s₀ (jobResult n d status blocks good s) := by
  unfold Machine.jobResult
  extract_lets +onlyGivenNames _ _ s₁
  have h₁ : Onward P Q s₀ s₁ := .withCmp hs
  exact .raise <| .ite (.bump h₁) (.ite h₁ (.bump h₁))

theorem jobSubmit {ag : AgentId} {n : Nat} (hs : Onward P Q s₀ s) : Onward P Q s₀ (jobSubmit ag n s).1 := by
  unfold Machine.jobSubmit
  refine .iteFst (.ignored <| .raise <| .cmpErr hs) (.iteFst (.ignored <| .raise <| .cmpErr hs) ?_)
  dsimp only
  exact .withCmp hs

theorem jobScramble {n : Nat} {d : List Word} {good : Nat} (hs : Onward P Q s₀ s) :
    Onward P Q s₀ (jobScramble n d good s) := by
  unfold Machine.jobScramble
  split
  exacts [.ite hs (.hbmPokes <| .free hs), hs]

theorem jobAbort {n : Nat} (hs : Onward P Q s₀ s) : Onward P Q s₀ (jobAbort n s) := by
  unfold Machine.jobAbort
  split
  exacts [.setF <| .jobResult <| .jobScramble <| .withCmp hs, .setF hs]

theorem jobFlush {n : Nat} (hs : Onward P Q s₀ s) : Onward P Q s₀ (jobFlush n s) :=
  .foldl (.withCmp hs) fun _ _ h => .jobResult h

theorem jobCmdEff {ag : AgentId} {n : Nat} {v : BitVec 32} (hs : Onward P Q s₀ s) :
    Onward P Q s₀ (jobCmdEff ag n v s).1 :=
  .iteFst (.jobSubmit hs) (.iteFst (.fst <| .jobAbort hs) (.iteFst (.fst <| .jobFlush hs) hs))

theorem jobCmdWrite {ag : AgentId} {n c : Nat} (hs : Onward P Q s₀ s) : Onward P Q s₀ (jobCmdWrite ag n c s) :=
  .guardW hs fun _ h => .jobCmdEff h

theorem jobRead {u a n : Nat} {errs : List HbmErr} (hs : Onward P Q s₀ s) :
    Onward P Q s₀ (jobRead u a n errs s).2.2 := by
  unfold Machine.jobRead
  split
  exacts [.hbmReadE hs, .snd <| .hbmErr <| .hbmReadE hs]

theorem jobResultRead {n : Nat} (hs : Onward P Q s₀ s) : Onward P Q s₀ (jobResultRead n s).2 := by
  unfold Machine.jobResultRead
  split
  exacts [hs, .snd <| .foldl (.withCmp hs) fun _ _ h => .wr h]

theorem cmpStart {n : Nat} (hs : Onward P Q s₀ s) : Onward P Q s₀ (cmpStart n s) :=
  .ite (.enterFault <| .raise hs) (.wr <| .wr <| .withCmp hs)
theorem cmpDrain {n : Nat} (hs : Onward P Q s₀ s) : Onward P Q s₀ (cmpDrain n s) :=
  .ite (.jobFlush <| .jobAbort hs) (.cmpClose hs)

theorem cmpDiscard {n : Nat} (hs : Onward P Q s₀ s) : Onward P Q s₀ (cmpDiscard n s) := by
  unfold Machine.cmpDiscard
  refine .ite (.jobFlush <| .jobAbort hs) ?_
  split
  exacts [hs, .bump <| .withCmp hs]

/-! Density. -/

theorem withDens {d : Nat} {f : Dens → Dens} (hs : Onward P Q s₀ s) : Onward P Q s₀ (withDens d f s) := .dens hs
theorem densTake {d : Nat} {x : DensSet} (hs : Onward P Q s₀ s) : Onward P Q s₀ (densTake d x s) :=
  .setF <| .withDens hs

theorem sweepPass {d : Nat} (hs : Onward P Q s₀ s) : Onward P Q s₀ (sweepPass d s) := by
  unfold Machine.sweepPass
  extract_lets +onlyGivenNames _
  split
  exacts [hs, .ite hs (.withDens <| .ite (.foldl hs fun _ _ h => .wr h) hs)]

theorem endFrame {d : Nat} {cut clear : Bool} (hs : Onward P Q s₀ s) : Onward P Q s₀ (endFrame d cut clear s) := by
  unfold Machine.endFrame
  dsimp only
  refine .sweepPass ?_
  split
  · exact .setB <| .wr <| .withDens hs
  · refine .raise <| .bumpEpoch <| .setB ?_
    split
    exacts [.densTake <| .setB <| .wr <| .withDens hs, .setB <| .wr <| .withDens hs]

theorem frameDue {d : Nat} {cut clear : Bool} (hs : Onward P Q s₀ s) : Onward P Q s₀ (frameDue d cut clear s) :=
  .ite hs (.ite (.ite (.withDens hs) (.bump <| .withDens hs)) (.endFrame hs))
theorem frameTake {d : Nat} {o : SpecOut} {hist : Bool} (hs : Onward P Q s₀ s) :
    Onward P Q s₀ (frameTake d o hist s) := .withDens hs
theorem rowsSide {d : Nat} {o : SpecOut} {rows : List Nat} (hs : Onward P Q s₀ s) :
    Onward P Q s₀ (rowsSide d o rows s) := .ite (.withTrig hs) hs

theorem densSpectrum {d : Nat} {o : SpecOut} (hs : Onward P Q s₀ s) : Onward P Q s₀ (densSpectrum d o s) := by
  unfold Machine.densSpectrum
  extract_lets +onlyGivenNames _ _ _ _ _ _ _ _ _ _ _ _ s₁ s₂
  have h₁ : Onward P Q s₀ s₁ := .frameTake <| .rowsSide <| .bump <| .bump <| .ite (.frameDue hs) hs
  have h₂ : Onward P Q s₀ s₂ := .ite (.withDens h₁) (.raiseRated <| .bump h₁)
  exact .ite (.frameDue h₂) (.ite (.frameDue h₂) h₂)

theorem densRecord {d kind stream : Nat} {w : DensSweep} {k content : Nat} {body : List Byte} (hs : Onward P Q s₀ s) :
    Onward P Q s₀ (densRecord d kind stream w k content body s) := .offer hs

theorem imageWrite {d : Nat} {w : DensSweep} {m : List (Nat × Nat)} (hs : Onward P Q s₀ s) :
    Onward P Q s₀ (imageWrite d w m s) := by
  unfold Machine.imageWrite
  exact .withDens <| .foldl hs fun _ _ h => .offer h

theorem sweepOut {d : Nat} {w : DensSweep} {m : List (Nat × Nat)} (hs : Onward P Q s₀ s) :
    Onward P Q s₀ (sweepOut d w m s) := by
  unfold Machine.sweepOut
  extract_lets +onlyGivenNames _ s₁
  have h₁ : Onward P Q s₀ s₁ := .ite (.foldl hs fun _ _ h => .densRecord h) hs
  refine .ite ?_ h₁
  extract_lets +onlyGivenNames s₂
  have h₂ : Onward P Q s₀ s₂ := .ite (.imageWrite h₁) h₁
  exact .ite (.foldl h₂ fun _ _ h => .densRecord h) h₂

theorem densPend {d : Nat} {set : Option DensSet} {v : BitVec 32} (hs : Onward P Q s₀ s) :
    Onward P Q s₀ (densPend d set v s) := by
  unfold Machine.densPend
  extract_lets +onlyGivenNames _ _ s₁
  have h₁ : Onward P Q s₀ s₁ := .ite (.withDens hs) hs
  exact .ite (.setB <| .withDens h₁) h₁

theorem densCommitEff {d : Nat} {v : BitVec 32} (hs : Onward P Q s₀ s) : Onward P Q s₀ (densCommitEff d v s).1 := by
  unfold Machine.densCommitEff
  split
  · exact .fst <| .densPend hs
  · extract_lets +onlyGivenNames _
    split
    exacts [.fst <| .raise <| .bump <| .setB hs, .fst <| .densPend hs]
  · exact .fst <| .setB <| .withDens hs
  · exact hs

theorem densCommitW {ag : AgentId} {d : Nat} {v : BitVec 32} (hs : Onward P Q s₀ s) :
    Onward P Q s₀ (densCommitW ag d v s) := .guardW hs fun _ h => .densCommitEff h

theorem densStart {d : Nat} (hs : Onward P Q s₀ s) : Onward P Q s₀ (densStart d s) := by
  unfold Machine.densStart
  extract_lets +onlyGivenNames _
  split
  exacts [.enterFault <| .raise hs, .setB <| .wr <| .withDens <| .densTake <| .changeState hs]

theorem densDrain {d : Nat} (hs : Onward P Q s₀ s) : Onward P Q s₀ (densDrain d s) := .frameDue hs
theorem densDiscard {d : Nat} (hs : Onward P Q s₀ s) : Onward P Q s₀ (densDiscard d s) := .setB <| .withDens hs

/-! Display. -/

theorem withDisp {f : Disp → Disp} (hs : Onward P Q s₀ s) : Onward P Q s₀ (withDisp f s) := .disp hs
theorem setLink {k : Nat} (hs : Onward P Q s₀ s) : Onward P Q s₀ (setLink k s) := .setF hs
theorem dispInt {k : Nat} (hs : Onward P Q s₀ s) : Onward P Q s₀ (dispInt k s) :=
  .ite (.irqSource <| .setB hs) (.setB hs)
theorem blankNext (hs : Onward P Q s₀ s) : Onward P Q s₀ (blankNext s) := .setB <| .bump hs
theorem trainStart {cause : Nat} (hs : Onward P Q s₀ s) : Onward P Q s₀ (trainStart cause s) :=
  .withDisp <| .ite (.setLink hs) hs

theorem pclkSet {t : DispTiming} (hs : Onward P Q s₀ s) : Onward P Q s₀ (pclkSet t s) := by
  unfold Machine.pclkSet
  extract_lets +onlyGivenNames _ s₁
  have h₁ : Onward P Q s₀ s₁ := .withSyn hs
  exact .ite h₁ (.withDisp h₁)

theorem dispSynUp (hs : Onward P Q s₀ s) : Onward P Q s₀ (dispSynUp s) := by
  unfold Machine.dispSynUp
  extract_lets +onlyGivenNames s₁
  have h₁ : Onward P Q s₀ s₁ := .withDisp hs
  exact .ite (.withDisp h₁) h₁

theorem dispSynLost (hs : Onward P Q s₀ s) : Onward P Q s₀ (dispSynLost s) :=
  .ite (.blankNext <| .trainStart <| .withDisp hs) hs

theorem fbCommitEff {v : BitVec 32} (hs : Onward P Q s₀ s) : Onward P Q s₀ (fbCommitEff v s).1 := by
  unfold Machine.fbCommitEff
  split
  exacts [.fst <| .wr <| .withDisp hs, .fst <| .setF <| .withDisp hs, hs]

theorem modeCommitEff {v : BitVec 32} (hs : Onward P Q s₀ s) : Onward P Q s₀ (modeCommitEff v s).1 := by
  unfold Machine.modeCommitEff
  extract_lets t s₁
  have h₁ : Onward P Q s₀ s₁ := by
    unfold s₁
    split
    · split
      exacts [.raise <| .bump <| .setB hs, .setB <| .withDisp hs]
    · exact .setB <| .withDisp hs
    · exact hs
  exact .ite (.trainStart h₁) h₁

theorem modeCommitW {ag : AgentId} {v : BitVec 32} (hs : Onward P Q s₀ s) : Onward P Q s₀ (modeCommitW ag v s) :=
  .guardW hs fun _ h => .modeCommitEff h

theorem modeApply {t : DispTiming} (hs : Onward P Q s₀ s) : Onward P Q s₀ (modeApply t s) := by
  unfold Machine.modeApply
  extract_lets +onlyGivenNames _ _ _ _ _ _ s₁
  have h₁ : Onward P Q s₀ s₁ := .blankNext <| .raise <| .setB <| .bumpEpoch <| .withDisp <| .pclkSet hs
  exact .ite (.trainStart h₁) (.ite (.trainStart h₁) h₁)

theorem underrun {x : Nat} (hs : Onward P Q s₀ s) : Onward P Q s₀ (underrun x s) := by
  unfold Machine.underrun
  extract_lets +onlyGivenNames _ s₁
  have h₁ : Onward P Q s₀ s₁ := .withDisp <| .bump hs
  exact .ite (.raiseRated <| .dispInt <| .bump h₁) h₁

theorem fetchLine {n : Nat} {errs : List HbmErr} (hs : Onward P Q s₀ s) : Onward P Q s₀ (fetchLine n errs s).2.2 := by
  unfold Machine.fetchLine
  extract_lets +onlyGivenNames _
  split
  · exact .snd <| .rangeFault hs
  · extract_lets +onlyGivenNames _ _ _ _ _ _ _ _ s₁
    have h₁ : Onward P Q s₀ s₁.2.2 := .hbmRead <| .hbmErrs hs
    exact .ite (.rangeFault h₁) h₁

theorem auxCmdEffD {v : BitVec 32} (hs : Onward P Q s₀ s) : Onward P Q s₀ (auxCmdEffD v s).1 :=
  .iteFst (.fst <| .setB hs) (.fst <| .setB <| .wrMask hs)

theorem dispStart (hs : Onward P Q s₀ s) : Onward P Q s₀ (dispStart s) := by
  unfold Machine.dispStart
  extract_lets +onlyGivenNames _
  split
  · exact .enterFault <| .raise hs
  · exact .blankNext <| .trainStart <| .setLink <| .setF <| .wr <| .setF <| .setB <| .withDisp <| .pclkSet <|
      .changeState hs

theorem dispDiscard (hs : Onward P Q s₀ s) : Onward P Q s₀ (dispDiscard s) :=
  .setF <| .setF <| .setLink <| .withDisp hs

/-! DspRun. -/

theorem moveRun {c space : Nat} {x0 : Dsp} {mv : Option PMove} (hs : Onward P Q s₀ s) :
    Onward P Q s₀ (moveRun c space x0 mv s) := by
  unfold Machine.moveRun
  split
  exacts [hs, .withDsp <| .ite (.dspWrite hs) (.withDsp hs)]

theorem retRun {c : Nat} (hs : Onward P Q s₀ s) : Onward P Q s₀ (retRun c s).1 := by
  unfold Machine.retRun
  split
  exacts [hs, .fst <| .withDsp hs]

theorem retiRun {c : Nat} (hs : Onward P Q s₀ s) : Onward P Q s₀ (retiRun c s).1 := .iteFst hs (.fst <| .withDsp hs)

theorem leaveRun {c : Nat} (hs : Onward P Q s₀ s) : Onward P Q s₀ (leaveRun c s).1 := by
  unfold Machine.leaveRun
  split
  exacts [hs, .fst <| .withDsp hs]

theorem callRun {c cc t : Nat} (hs : Onward P Q s₀ s) : Onward P Q s₀ (callRun c cc t s).1 :=
  .iteFst (.iteFst hs (.fst <| .withDsp hs)) hs
theorem loopRun {c : Nat} {reg : Bool} {n len : Nat} (hs : Onward P Q s₀ s) :
    Onward P Q s₀ (loopRun c reg n len s).1 := .iteFst hs (.iteFst hs (.fst <| .withDsp hs))
theorem repRun {c : Nat} {reg : Bool} {n : Nat} (hs : Onward P Q s₀ s) : Onward P Q s₀ (repRun c reg n s).1 :=
  .iteFst hs (.iteFst hs (.fst <| .withDsp hs))
theorem tapRun {c : Nat} {dir sub : Bool} {k pc cm pr rm pw wm : Nat} (hs : Onward P Q s₀ s) :
    Onward P Q s₀ (tapRun c dir sub k pc cm pr rm pw wm s) := .withDsp <| .dspWrite hs
theorem ldRun {c sp r p md imm : Nat} (hs : Onward P Q s₀ s) : Onward P Q s₀ (ldRun c sp r p md imm s) := .withDsp hs
theorem stRun {c sp r p md imm : Nat} (hs : Onward P Q s₀ s) : Onward P Q s₀ (stRun c sp r p md imm s) :=
  .withDsp <| .dspWrite hs

theorem inRun {c n : Nat} {dst : StrArg} (hs : Onward P Q s₀ s) : Onward P Q s₀ (inRun c n dst s).1 := by
  unfold Machine.inRun
  split
  · exact hs
  · next h =>
    have hw := Onward.dspTake hs h
    split
    · exact .withDsp hw
    · exact .withDsp (.dspWrite hw)

theorem outRun {c n : Nat} {src : StrArg} (hs : Onward P Q s₀ s) : Onward P Q s₀ (outRun c n src s).1 := by
  unfold Machine.outRun
  split
  · split
    · exact hs
    · next h => exact .dspAppend hs h
  · split
    · exact hs
    · next h => exact .withDsp (.dspAppend hs h)

theorem wrsRun {c sys d n : Nat} (hs : Onward P Q s₀ s) : Onward P Q s₀ (wrsRun c sys d n s).1 :=
  .iteFst hs (.fst <| .sysWrite hs)
theorem rdsRun {c d sys : Nat} (hs : Onward P Q s₀ s) : Onward P Q s₀ (rdsRun c d sys s).1 :=
  .iteFst hs (.fst <| .withDsp <| .sysRead hs)

theorem dspEffect {c : Nat} {op : DspOp} {n : Nat} (hs : Onward P Q s₀ s) : Onward P Q s₀ (dspEffect c op n s).1 := by
  unfold Machine.dspEffect
  extract_lets +onlyGivenNames _
  split
  · exact hs
  · exact hs
  · exact .retRun hs
  · exact .retiRun hs
  · exact .leaveRun hs
  · exact .fst <| .withDsp hs
  · exact .fst <| .tflg hs
  · exact hs
  · exact hs
  · exact .callRun hs
  · exact .loopRun hs
  · exact .repRun hs
  · exact .fst <| .withDsp hs
  · exact .fst <| .withDsp hs
  · exact .fst <| .withDsp hs
  · exact .fst <| .moveRun <| .moveRun <| .withDsp hs
  · exact .fst <| .moveRun <| .withDsp hs
  · exact .fst <| .moveRun <| .moveRun <| .withDsp hs
  · exact .fst <| .tapRun hs
  · exact .fst <| .ldRun hs
  · exact .fst <| .stRun hs
  · exact .fst <| .withDsp hs
  · exact .wrsRun hs
  · exact .rdsRun hs
  · exact .fst <| .withDsp hs
  · exact .fst <| .withDsp hs
  · exact .inRun hs
  · exact .outRun hs
  · exact .fst <| .dspClose hs
  · exact .fst <| .dspSkip hs

theorem retire {c st : Nat} (hs : Onward P Q s₀ s) : Onward P Q s₀ (retire c st s) := .wr <| .wr hs
theorem dspHalt {c : Nat} (hs : Onward P Q s₀ s) : Onward P Q s₀ (dspHalt c s) := .raise <| .withDsp hs

theorem issueOne {c : Nat} {op : DspOp} {n ecc : Nat} {single : Bool} (hs : Onward P Q s₀ s) :
    Onward P Q s₀ (issueOne c op n ecc single s) := by
  unfold Machine.issueOne
  extract_lets x s₁ was s₂ r done
  have h₁ : Onward P Q s₀ s₁ := .ite (.bump hs) (.ite (.faultTransient hs) hs)
  have hr : Onward P Q s₀ r.1 := .dspEffect <| .withDsp h₁
  have hd (f : Dsp → Dsp) : Onward P Q s₀ (done f) := .retire <| .withDsp hr
  refine .ite (.faultLasting <| .dspFault h₁) (.ite (.dspFault h₁) ?_)
  split
  exacts [hd _, hd _, .ite hr (.withDsp hr), .dspHalt (hd _), .dspHalt <| .withDspIn hr, .dspFault hr]

theorem dspIssue {c : Nat} {op : DspOp} {n ecc : Nat} (hs : Onward P Q s₀ s) :
    Onward P Q s₀ (dspIssue c op n ecc s) := .ite (.issueOne hs) hs

theorem breakEff {c ecc : Nat} {v : BitVec 32} (hs : Onward P Q s₀ s) : Onward P Q s₀ (breakEff c ecc v s).1 := by
  unfold Machine.breakEff
  extract_lets +onlyGivenNames s₁ _ s₂
  have h₁ : Onward P Q s₀ s₁ := .wr hs
  have h₂ : Onward P Q s₀ s₂ := by
    unfold s₂
    refine .ite ?_ h₁
    split
    exacts [.issueOne h₁, .dspFault h₁]
  exact .ite (.withDsp h₂) h₂

/-! Tdc. -/

theorem withIn {i : Nat} {f : TdcIn → TdcIn} (hs : Onward P Q s₀ s) : Onward P Q s₀ (withIn i f s) := .tdc hs
theorem withChan {c : Nat} {f : TdcChan → TdcChan} (hs : Onward P Q s₀ s) : Onward P Q s₀ (withChan c f s) :=
  .setF <| .setB <| .tdc hs
theorem queueLevel {i : Nat} (hs : Onward P Q s₀ s) : Onward P Q s₀ (queueLevel i s) := .setF hs

theorem tdcClose {i : Nat} {stop : Bool} (hs : Onward P Q s₀ s) : Onward P Q s₀ (tdcClose i stop s) := by
  unfold Machine.tdcClose
  extract_lets +onlyGivenNames _
  split
  exacts [hs, .offer <| .withIn hs]

theorem tdcPump {i : Nat} (hs : Onward P Q s₀ s) : Onward P Q s₀ (tdcPump i s) := by
  unfold Machine.tdcPump
  extract_lets +onlyGivenNames _ s₁
  have h₁ : Onward P Q s₀ s₁ := by
    unfold s₁
    refine .foldl (.withIn hs) fun _ _ h => ?_
    extract_lets +onlyGivenNames s₂
    have h₂ : Onward P Q s₀ s₂ := .withIn h
    exact .ite (.tdcClose h₂) h₂
  exact .queueLevel h₁

theorem tdcQueue {i : Nat} {e : TdcEntry} {room : Bool} (hs : Onward P Q s₀ s) :
    Onward P Q s₀ (tdcQueue i e room s) := by
  unfold Machine.tdcQueue
  extract_lets +onlyGivenNames _ s₁
  have h₁ : Onward P Q s₀ s₁ := .ite (.withIn hs) (.raiseRated <| .bump <| .withIn hs)
  exact .ite (.tdcPump h₁) (.queueLevel h₁)

theorem chanStamp {x : TdcStamp} (hs : Onward P Q s₀ s) : Onward P Q s₀ (chanStamp x s) :=
  .foldl hs fun _ _ h => .ite (.withChan h) h
theorem evtOccur {i : Nat} {old : Bool} {o : Occ} (hs : Onward P Q s₀ s) : Onward P Q s₀ (evtOccur i old o s) :=
  .srcOccur <| .tree hs

theorem ivClose {stop : Bool} (hs : Onward P Q s₀ s) : Onward P Q s₀ (ivClose stop s) := by
  unfold Machine.ivClose
  split
  exacts [hs, .offer <| .tdc hs]

theorem ivPut {room : Bool} {e : IvEntry} (hs : Onward P Q s₀ s) : Onward P Q s₀ (ivPut room e s) := by
  unfold Machine.ivPut
  extract_lets +onlyGivenNames _
  refine .ite ?_ (.raiseRated <| .bump <| .withChan <| .bump hs)
  extract_lets +onlyGivenNames _ s₁
  have h₁ : Onward P Q s₀ s₁ := .withChan <| .bump hs
  exact .ite (.ivClose <| .tdc h₁) (.tdc h₁)

theorem expire {c t : Nat} {room : Bool} (hs : Onward P Q s₀ s) : Onward P Q s₀ (expire c t room s) :=
  .foldl (.withChan hs) fun _ _ h => .raiseRated <| .bump <| .ivPut h

theorem takeStop {c : Nat} {x : TdcStamp} {room : Bool} (hs : Onward P Q s₀ s) :
    Onward P Q s₀ (takeStop c x room s) := by
  unfold Machine.takeStop
  extract_lets +onlyGivenNames _
  split
  exacts [.ivPut <| .withChan hs, .raiseRated <| .bump <| .ivPut hs]

theorem takeStart {c : Nat} {x : TdcStamp} {room : Bool} (hs : Onward P Q s₀ s) :
    Onward P Q s₀ (takeStart c x room s) := by
  unfold Machine.takeStart
  extract_lets +onlyGivenNames _ s₁
  have h₁ : Onward P Q s₀ s₁ := by
    unfold s₁
    split
    exacts [.ite (.bump <| .ivPut <| .withChan hs) hs, hs]
  exact .withChan h₁

theorem missing {c t : Nat} {room : Bool} (hs : Onward P Q s₀ s) : Onward P Q s₀ (missing c t room s) := by
  unfold Machine.missing
  split
  exacts [.ite (.raise <| .bump <| .ivPut <| .withChan hs) hs, hs]

theorem takeWindow {c : Nat} {x : TdcStamp} {room : Bool} (hs : Onward P Q s₀ s) :
    Onward P Q s₀ (takeWindow c x room s) := by
  unfold Machine.takeWindow
  extract_lets +onlyGivenNames s₁
  have h₁ : Onward P Q s₀ s₁ := .missing hs
  split
  exacts [.ivPut <| .withChan h₁, .ite (.raiseRated <| .bump <| .ite (.ivPut h₁) h₁) (.ivPut <| .withChan h₁)]

theorem gateEnd {c next : Nat} {room : Bool} (hs : Onward P Q s₀ s) : Onward P Q s₀ (gateEnd c next room s) := by
  unfold Machine.gateEnd
  split
  exacts [hs, .ivPut <| .withChan hs]

theorem takeGate {c : Nat} {x : TdcStamp} {room : Bool} (hs : Onward P Q s₀ s) :
    Onward P Q s₀ (takeGate c x room s) := by
  unfold Machine.takeGate
  split
  · exact hs
  · extract_lets +onlyGivenNames _ _ s₁
    have h₁ : Onward P Q s₀ s₁ := .ite (.withChan hs) (.foldl hs fun _ _ h => .gateEnd h)
    exact .ite h₁ (.withChan h₁)

theorem markDead {c : Nat} (hs : Onward P Q s₀ s) : Onward P Q s₀ (markDead c s) := .withChan hs

theorem measDiscard {c : Nat} (hs : Onward P Q s₀ s) : Onward P Q s₀ (measDiscard c s) := by
  unfold Machine.measDiscard
  exact .withChan <| .bump hs

theorem gateStart {c : Nat} (hs : Onward P Q s₀ s) : Onward P Q s₀ (gateStart c s) := .ite (.withChan hs) hs

theorem measCmdEff {ag : AgentId} {c : Nat} {v : BitVec 32} (hs : Onward P Q s₀ s) :
    Onward P Q s₀ (measCmdEff ag c v s).1 := by
  unfold Machine.measCmdEff
  split
  · split
    exacts [.fst <| .raise <| .ignored <| .setB hs, .iteFst hs (.fst <| .gateStart <| .setB hs)]
  · exact .fst <| .setB <| .measDiscard hs
  · exact hs

theorem measCfgEff {c : Nat} {eff : State → WRes} (hs : Onward P Q s₀ s)
    (he : ∀ s, Onward P Q s₀ s → Onward P Q s₀ (eff s).1) : Onward P Q s₀ (measCfgEff c eff s).1 := by
  unfold Machine.measCfgEff
  split
  · exact .setB hs
  · exact he s hs

theorem tdcCfgEff {i : Nat} {v : BitVec 32} (hs : Onward P Q s₀ s) : Onward P Q s₀ (tdcCfgEff i v s).1 :=
  .iteFst (.fst <| .setB hs) (.fst <| .wrMask hs)
theorem tdcOffsetEff {i : Nat} {v : BitVec 32} (hs : Onward P Q s₀ s) : Onward P Q s₀ (tdcOffsetEff i v s).1 :=
  .iteFst (.fst <| .setB hs) (.fst <| .wr hs)

theorem tdcStart {i : Nat} (hs : Onward P Q s₀ s) : Onward P Q s₀ (tdcStart i s) := by
  unfold Machine.tdcStart
  dsimp only
  split
  · exact .enterFault <| .raise hs
  · exact .ite (.tdc <| .queueLevel <| .withIn <| .wr64 <| .changeState hs)
      (.queueLevel <| .withIn <| .wr64 <| .changeState hs)

theorem measDropAll (hs : Onward P Q s₀ s) : Onward P Q s₀ (measDropAll s) :=
  .foldl hs fun _ _ h => .gateStart <| .measDiscard h

theorem tdcDrain {i : Nat} (hs : Onward P Q s₀ s) : Onward P Q s₀ (tdcDrain i s) := by
  unfold Machine.tdcDrain
  extract_lets +onlyGivenNames s₁
  have h₁ : Onward P Q s₀ s₁ := .tdcClose <| .tdcPump hs
  exact .ite (.ivClose <| .measDropAll h₁) h₁

theorem tdcDiscard {i : Nat} {keep : Bool} (hs : Onward P Q s₀ s) : Onward P Q s₀ (tdcDiscard i keep s) := by
  unfold Machine.tdcDiscard
  extract_lets +onlyGivenNames _ s₁
  have h₁ : Onward P Q s₀ s₁ := .queueLevel <| .withIn hs
  exact .ite (.measDropAll <| .tdc h₁) h₁

/-! Units. -/

theorem synFollow (hs : Onward P Q s₀ s) : Onward P Q s₀ (synFollow s) :=
  .foldl hs fun _ _ h => .ite (.ite (.withSyn h) h) (.ite h (.withSyn h))
theorem settle (hs : Onward P Q s₀ s) : Onward P Q s₀ (settle s) :=
  .updFaultN <| .calWatch <| .pinsGate <| .evtFollow <| .synFollow hs
theorem sysrefWriteEff {ag : AgentId} {n : Nat} {v : BitVec 32} (hs : Onward P Q s₀ s) :
    Onward P Q s₀ (sysrefWriteEff ag n v s).1 := .fst <| .synFollow <| .sysrefCfgEff hs
theorem unitRegsReset {u : Nat} (hs : Onward P Q s₀ s) : Onward P Q s₀ (unitRegsReset u s) := .regs hs

theorem unitStateReset {u : Nat} (hs : Onward P Q s₀ s) : Onward P Q s₀ (unitStateReset u s) := by
  unfold Machine.unitStateReset
  dsimp only
  split
  · exact .withLink hs
  · exact .withTuner hs
  · exact .withChz hs
  · exact .withSpec hs
  · exact .ite (.tree <| .withTrig hs) (.withTrig hs)
  · exact .withAcq <| .tree hs
  · exact .withDens hs
  · exact .withDisp hs
  · exact .ite (.tdc <| .withIn hs) (.withIn hs)
  · exact .withDsp hs
  · exact .withCmp hs
  · exact .withAux hs
  · exact hs

theorem unitHdrReset {u : Nat} (hs : Onward P Q s₀ s) : Onward P Q s₀ (unitHdrReset u s) := .setUnit hs
theorem unitReset {u : Nat} (hs : Onward P Q s₀ s) : Onward P Q s₀ (unitReset u s) :=
  .unitStateReset <| .unitRegsReset <| .unitHdrReset hs

theorem unitForget {u : Nat} (hs : Onward P Q s₀ s) : Onward P Q s₀ (unitForget u s) := by
  unfold Machine.unitForget
  dsimp only
  split <;> exact hs

theorem toReady {u : Nat} (hs : Onward P Q s₀ s) : Onward P Q s₀ (toReady u s) := by
  unfold Machine.toReady
  extract_lets +onlyGivenNames s₁
  have h₁ : Onward P Q s₀ s₁ := .changeState hs
  exact .ite (.auxUngate h₁) h₁

theorem toGated {u : Nat} (hs : Onward P Q s₀ s) : Onward P Q s₀ (toGated u s) := .changeState hs

theorem toOff {u : Nat} (hs : Onward P Q s₀ s) : Onward P Q s₀ (toOff u s) := by
  unfold Machine.toOff
  extract_lets +onlyGivenNames s₁
  have h₁ : Onward P Q s₀ s₁ := .unitForget <| .unitReset <| .changeState hs
  exact .ite (.dspReset h₁) h₁

theorem downFromReady {u : Nat} (hs : Onward P Q s₀ s) : Onward P Q s₀ (downFromReady u s) := .toOff <| .toGated hs

theorem unitLeave {u : Nat} (hs : Onward P Q s₀ s) : Onward P Q s₀ (unitLeave u s) := by
  unfold Machine.unitLeave
  extract_lets +onlyGivenNames _
  split
  exacts [.ingLeave hs, .dispDiscard hs, .dspEnd hs, hs]

theorem unitDiscard {u : Nat} (hs : Onward P Q s₀ s) : Onward P Q s₀ (unitDiscard u s) := by
  unfold Machine.unitDiscard
  extract_lets +onlyGivenNames _
  split
  · exact .ingLeave hs
  · exact .tunDiscard hs
  · exact .chzDiscard hs
  · exact .specDiscard hs
  · exact .trigDiscard hs
  · exact .acqDiscard hs
  · exact .densDiscard hs
  · exact .dispDiscard hs
  · exact .tdcDiscard hs
  · exact .dspDiscard hs
  · exact .cmpDiscard hs
  · exact .auxDiscard hs
  · exact hs

theorem unitDrainHook {u : Nat} (hs : Onward P Q s₀ s) : Onward P Q s₀ (unitDrainHook u s) := by
  unfold Machine.unitDrainHook
  extract_lets +onlyGivenNames _
  split
  · exact .ingDrain hs
  · exact .tunDrain hs
  · exact .chzDrain hs
  · exact .specDrain hs
  · exact .trigDiscard hs
  · exact .acqLeave <| .listFlush hs
  · exact .densDrain hs
  · exact .tdcDrain hs
  · exact .dspDrain hs
  · exact .cmpDrain hs
  · exact .auxDrain hs
  · exact hs

theorem unitBegin {u : Nat} (hs : Onward P Q s₀ s) : Onward P Q s₀ (unitBegin u s) := by
  unfold Machine.unitBegin
  extract_lets +onlyGivenNames _
  split
  · exact .ingStart hs
  · exact .tunStart hs
  · exact .chzStart hs
  · exact .specStart hs
  · exact .trigStart hs
  · exact .densStart hs
  · exact .dispStart hs
  · exact .tdcStart hs
  · exact .dspStart <| .changeState hs
  · extract_lets +onlyGivenNames s₁
    have h₁ : Onward P Q s₀ s₁ := .cmpStart hs
    exact .ite (.changeState h₁) h₁
  · exact .ite (.auxStart hs) (.auxStart <| .changeState hs)
  · exact .changeState hs

theorem unitDrain {u : Nat} (hs : Onward P Q s₀ s) : Onward P Q s₀ (unitDrain u s) :=
  .changeState <| .unitDrainHook hs
theorem unitAbort {u : Nat} (hs : Onward P Q s₀ s) : Onward P Q s₀ (unitAbort u s) :=
  .ite (.dspReset <| .setUnit <| .changeState <| .unitDiscard hs) (.setUnit <| .changeState <| .unitDiscard hs)

theorem unitFault {u cause detail : Nat} (hs : Onward P Q s₀ s) : Onward P Q s₀ (unitFault u cause detail s) := by
  unfold Machine.unitFault
  refine .ite ?_ hs
  split
  exacts [.dspFault hs, .enterFault <| .tdcDiscard hs, .enterFault <| .unitDiscard hs]

theorem unfence {p : Nat} (hs : Onward P Q s₀ s) : Onward P Q s₀ (unfence p s) := .raise <| .setB <| .setB hs

theorem unitRestart {u : Nat} {good : Bool} (hs : Onward P Q s₀ s) : Onward P Q s₀ (unitRestart u good s) := by
  unfold Machine.unitRestart
  extract_lets +onlyGivenNames _ _
  split
  · exact .ite (.ite (.furtherFault hs) (.unfence <| .recovered <| .changeState hs))
      (.ite (.recovered <| .changeState hs) (.furtherFault hs))
  · exact .ite (.furtherFault hs)
      (.ite (.furtherFault hs)
        (.recovered <| .changeState <| .foldl hs fun _ _ h => .ite (.recovered <| .changeState h) h))
  · exact .ite (.furtherFault hs) (.ite (.dspReset <| .recovered <| .changeState hs) (.furtherFault hs))
  · exact .ite (.furtherFault hs) (.ite (.recovered <| .changeState hs) (.furtherFault hs))

theorem timeRestart (hs : Onward P Q s₀ s) : Onward P Q s₀ (timeRestart s) :=
  .ite (.enterFree <| .changeState <| .recovered <| .changeState hs) (.furtherFault hs)

theorem surveyEnd {r : SurveyRun} (hs : Onward P False s₀ s) : Onward P False s₀ (surveyEnd r s) := by
  unfold Machine.surveyEnd
  extract_lets +onlyGivenNames _
  refine .ite ?_ hs
  extract_lets +onlyGivenNames _ s₁
  have h₁ : Onward P False s₀ s₁ := .foldl hs fun _ _ h => .downFromReady h
  exact .pwr <| .raise <| .ite h₁ (.bump h₁)

theorem surveySettle (hs : Onward P False s₀ s) : Onward P False s₀ (surveySettle s) :=
  .settle <| .foldl hs fun _ _ h => .surveyEnd h
theorem cmdDone {ag : AgentId} {u cmd : Nat} (hs : Onward P False s₀ s) : Onward P False s₀ (cmdDone ag u cmd s).1 :=
  .fst <| .audit <| .surveySettle hs
theorem cmdRefused {u : Nat} (hs : Onward P Q s₀ s) : Onward P Q s₀ (cmdRefused u s).1 := .fst <| .setUnit hs

theorem unitCtrlEff {ag : AgentId} {u cmd : Nat} {good : Bool} (hs : Onward P False s₀ s) :
    Onward P False s₀ (unitCtrlEff ag u cmd good s).1 := by
  unfold Machine.unitCtrlEff
  extract_lets +onlyGivenNames _ _
  refine .iteFst hs ?_
  refine .iteFst (.iteFst (.cmdDone <| .timeRestart hs) (.fst <| .ignored hs)) ?_
  split
  · exact .iteFst hs
      (.iteFst (.cmdDone <| .unitBegin hs)
        (.iteFst (.iteFst (.cmdDone <| .unitBegin <| .toReady hs) (.cmdDone <| .pwr hs)) (.cmdRefused hs)))
  · exact .iteFst (.cmdDone <| .unitDrain hs) (.cmdRefused hs)
  · exact .iteFst (.cmdDone <| .unitDrain hs) (.cmdRefused hs)
  · exact .iteFst (.fst <| .ignored hs) (.iteFst (.cmdDone <| .unitAbort hs) (.cmdDone <| .setUnit hs))
  · exact .iteFst (.cmdDone <| .unitRestart hs) (.cmdRefused hs)
  · exact .iteFst hs (.iteFst (.cmdDone <| .recovered <| .changeState hs) (.cmdRefused hs))
  · exact .cmdRefused hs

theorem unitCmdW {ag : AgentId} {u cmd : Nat} {good : Bool} (hs : Onward P False s₀ s) :
    Onward P False s₀ (unitCmdW ag u cmd good s) := .guardW hs fun _ h => .unitCtrlEff h
theorem rateData {r : RateRec} (hs : Onward P Q s₀ s) : Onward P Q s₀ (rateData r s).2 :=
  .iteSnd (.snd <| .withWeir hs) (.iteSnd (.snd <| .withAcq hs) (.iteSnd (.snd <| .withAux hs) (.iteSnd hs hs)))

/-! RegEff. -/

theorem plainEff {r : Reg} {i j : Nat} {v : BitVec 32} (hs : Onward P Q s₀ s) :
    Onward P Q s₀ (plainEff r i j v s).1 := .iteFst hs (.fst <| .wr hs)
theorem timeRangeEff {r : Reg} {inRange : Bool} {v : BitVec 32} (hs : Onward P Q s₀ s) :
    Onward P Q s₀ (timeRangeEff r inRange v s).1 := .iteFst (.fst <| .wr hs) (.fst <| .timeCmdErr hs)
theorem efcFollow (hs : Onward P Q s₀ s) : Onward P Q s₀ (efcFollow s) := .ite (.setCode hs) hs

theorem timeCfgEff {v : BitVec 32} (hs : Onward P Q s₀ s) : Onward P Q s₀ (timeCfgEff v s).1 := by
  unfold Machine.timeCfgEff
  extract_lets +onlyGivenNames _ _ s₁
  have h₁ : Onward P Q s₀ s₁ := .efcFollow <| .warmChanged <| .wr hs
  exact .ite (.refLost h₁) h₁

theorem msixEff {ag : AgentId} {i : Nat} {v : BitVec 32} (hs : Onward P Q s₀ s) :
    Onward P Q s₀ (msixEff ag i v s).1 := .iteFst (.fst <| .msixDeliver <| .host <| .host hs) (.host hs)

theorem hdrEff {ag : AgentId} {u at_ : Nat} {v : BitVec 32} {good : Bool} (hs : Onward P False s₀ s) :
    Onward P False s₀ (hdrEff ag u at_ v good s).1 := by
  unfold Machine.hdrEff
  split
  exacts [.ite (.setUnit hs) hs, .unitCtrlEff hs, .fst <| .setUnit hs, hs, hs]

theorem cvTxEff {ag : AgentId} {j : Nat} {v : BitVec 32} (hs : Onward P Q s₀ s) :
    Onward P Q s₀ (cvTxEff ag j v s).1 := .fst <| .setBank hs
theorem hostWinEff {ag : AgentId} {fn : Nat} {v : BitVec 32} (hs : Onward P Q s₀ s) :
    Onward P Q s₀ (hostWinEff ag fn v s).1 := .iteFst (.fst <| .wr hs) hs
theorem flumeIrqEff {ag : AgentId} {f : Nat} {v : BitVec 32} (hs : Onward P Q s₀ s) :
    Onward P Q s₀ (flumeIrqEff ag f v s).1 := .iteFst (.fst <| .wr hs) hs
theorem calStageEff {j : Nat} {v : BitVec 32} (hs : Onward P Q s₀ s) : Onward P Q s₀ (calStageEff j v s).1 :=
  .iteFst hs (.fst <| .wr hs)

theorem regEff {ag : AgentId} {r : Reg} {i j : Nat} {v : BitVec 32} {ecc : Nat} (hs : Onward P Q s₀ s) :
    Onward P Q s₀ (regEff ag r i j v ecc s).1 := by
  unfold Machine.regEff
  split
  · exact .timeCmdEff hs
  · exact .fst <| .wr hs
  · exact .timeCfgEff hs
  · exact .fst <| .warmChanged <| .wr hs
  · exact .timeRangeEff hs
  · exact .timeRangeEff hs
  · exact .timeRangeEff hs
  · exact .fst <| .efcFollow <| .wrMask hs
  · exact .synPhaseEff hs
  · exact .sysrefWriteEff hs
  · exact .adcDelayEff hs
  · exact .linkCmdEff hs
  · exact .tunCommitEff hs
  · exact .firCoefEff hs
  · exact .chzCoefEff hs
  · exact .specCommitEff hs
  · exact .winDataEff hs
  · exact .trigCommitEff hs
  · exact .maskDataEff hs
  · exact .weirCmdEff hs
  · exact .weirCfgEff hs
  · exact .weirCfgEff hs
  · exact .weirCfgEff hs
  · exact .weirCfgEff hs
  · exact .weirCfgEff hs
  · exact .weirCfgEff hs
  · exact .weirCfgEff hs
  · exact .fst <| .pinsGate <| .plainEff hs
  · exact .trigOutClrEff hs
  · exact .swPulseEff hs
  · exact .swLevelEff hs
  · exact .acqCmdEff hs
  · exact .mtDataEff hs
  · exact .acqSetupEff hs fun _ h => .plainEff h
  · exact .acqSetupEff hs fun _ h => .plainEff h
  · exact .acqSetupEff hs fun _ h => .plainEff h
  · exact .acqSetupEff hs fun _ h => .plainEff h
  · exact .acqSetupEff hs fun _ h => .plainEff h
  · exact .acqSetupEff hs fun _ h => .plainEff h
  · exact .acqSetupEff hs fun _ h => .plainEff h
  · exact .acqSetupEff hs fun _ h => .plainEff h
  · exact .densCommitEff hs
  · exact .modeCommitEff hs
  · exact .fbCommitEff hs
  · exact .auxCmdEffD hs
  · exact .tdcCfgEff hs
  · exact .tdcOffsetEff hs
  · exact .measCmdEff hs
  · exact .measCfgEff hs fun _ h => .plainEff h
  · exact .measCfgEff hs fun _ h => .plainEff h
  · exact .measCfgEff hs fun _ h => .plainEff h
  · exact .measCfgEff hs fun _ h => .plainEff h
  · exact .measCfgEff hs fun _ h => .plainEff h
  · exact .coreEntryEff hs
  · exact .hostMsgEff hs
  · exact .breakEff hs
  · exact .clStartEff hs
  · exact .streamCfgEff hs
  · exact .jobCmdEff hs
  · exact .stackCmdEff hs
  · exact .hbmFreqEff hs
  · exact .hostWinEff hs
  · exact .flumeCfgEff hs
  · exact .flumeCfgEff hs
  · exact .flumeCfgEff hs
  · exact .flumeCfgEff hs
  · exact .flumeCfgEff hs
  · exact .freeTailEff hs
  · exact .cplHeadEff hs
  · exact .flumeIrqEff hs
  · exact .flumeCmdEff hs
  · exact .iteFst (.fst <| .mcRestart hs) hs
  · exact .cvTxEff hs
  · exact .fst <| .cvSend hs
  · exact .fst <| .dbRing hs
  · exact .fst <| .dbClear hs
  · exact .gateWriteEff hs
  · exact .gateForceEff hs
  · exact .cvCfgEff hs
  · exact .rxpopEff hs
  · exact .calCmdEff hs
  · exact .calStageEff hs
  · exact .auxConvEff hs
  · exact .auxScanEff hs
  · exact .auxCmdEff hs
  · exact .auxRdEff hs
  · exact .auxWinEff hs
  · exact .fst <| .updFaultN <| .plainEff hs
  · exact .fst <| .updFaultN <| .plainEff hs
  · exact .fst <| .updFaultN <| .plainEff hs
  · exact .plainEff hs

theorem writeEff {ag : AgentId} {off : Nat} {v : BitVec 32} {ecc : Nat} {good : Bool} (hs : Onward P False s₀ s) :
    Onward P False s₀ (writeEff ag off v ecc good s).1 := by
  unfold Machine.writeEff
  split
  · exact .regEff hs
  · split
    · split
      exacts [.dspMemEff hs, hs]
    · refine .iteFst (.msixEff hs) ?_
      split
      exacts [.iteFst (.hdrEff hs) hs, hs]

theorem keepEpoch {u : Option Nat} (_hs : Onward P Q s₀ s) (hs' : Onward P Q s₀ s') :
    Onward P Q s₀ (keepEpoch u s s') := by
  unfold Machine.keepEpoch
  split
  exacts [.setUnit hs', hs']

theorem initWriteE {e : PlanInit} {eff : BitVec 32 → State → WRes} (hs : Onward P Q s₀ s)
    (he : ∀ v s, Onward P Q s₀ s → Onward P Q s₀ (eff v s).1) : Onward P Q s₀ (initWriteE e eff s) := by
  have hj : ∀ v s, Onward P Q s₀ s → Onward P Q s₀
      (if (eff v s).2 = 0 ∨ (eff v s).2 = 97 ∨ (eff v s).2 = 99 then (eff v s).1
        else Machine.refuse 0x58 e.off e.value (eff v s).2 (eff v s).1) :=
    fun v s h => .ite (he v s h) (.refuse (he v s h))
  unfold Machine.initWriteE
  dsimp only
  split
  · exact hs
  · split
    · exact .ite (.wrMask hs) (hj _ _ (.wrMask hs))
    · split
      · split
        · exact hj _ _ hs
        · split
          · exact hj _ _ hs
          · exact hj _ _ hs
      · exact hs

theorem initWrite {e : PlanInit} {eff : BitVec 32 → State → WRes} (hs : Onward P Q s₀ s)
    (he : ∀ v s, Onward P Q s₀ s → Onward P Q s₀ (eff v s).1) : Onward P Q s₀ (initWrite e eff s) :=
  .ite (.initWriteE hs he) (.keepEpoch hs (.initWriteE hs he))

/-! Configure. -/

theorem stackRise {k : Nat} (hs : Onward P Q s₀ s) : Onward P Q s₀ (stackRise k s) :=
  .ite (.trainStack <| .foldl hs fun _ _ h => .ite h (.pcReady h)) hs

theorem pcDown {p : Nat} (hs : Onward P Q s₀ s) : Onward P Q s₀ (pcDown p s) := by
  unfold Machine.pcDown
  extract_lets +onlyGivenNames _ s₁ _
  have h₁ : Onward P Q s₀ s₁ := .setB hs
  split
  · exact .changeState <| .changeState <| .changeState <| .changeState h₁
  · exact .changeState <| .changeState <| .changeState h₁
  · exact .changeState <| .changeState h₁
  · exact .changeState h₁
  · exact h₁

theorem pcUp {p : Nat} (hs : Onward P Q s₀ s) : Onward P Q s₀ (pcUp p s) := by
  unfold Machine.pcUp
  refine .ite hs ?_
  extract_lets +onlyGivenNames s₁
  have h₁ : Onward P Q s₀ s₁ := .ite (.changeState hs) hs
  exact .ite (.runPc h₁) (.ite (.pcReady h₁) h₁)

theorem stackRest {selfRefresh : Bool} {k : Nat} (hs : Onward P Q s₀ s) : Onward P Q s₀ (stackRest selfRefresh k s) :=
  .ite (.ite (.setSstate hs) (.setSstate <| .loseStack hs)) hs

theorem hbmFollow (hs : Onward P Q s₀ s) : Onward P Q s₀ (hbmFollow s) :=
  .stackRise <| .stackRise <| .synFollow <| .stackRest <| .stackRest <| .foldl (.foldl hs fun _ _ h => .pcDown h)
      fun _ _ h => .pcUp h

theorem sleepRefused {cond : Nat} (hs : Onward P Q s₀ s) : Onward P Q s₀ (sleepRefused cond s) := .raise <| .bump hs

theorem initEff {off : Nat} {v : BitVec 32} (hs : Onward P False s₀ s) : Onward P False s₀ (initEff off v s).1 := by
  unfold Machine.initEff
  split
  · exact hs
  · exact .iteFst hs (.iteFst (.fst <| .setF hs) (.fst <| .raise hs))
  · exact .iteFst (.fst <| .ignored <| .sleepRefused <| .setB hs) hs
  · exact .writeEff hs

theorem applyInits {l : List PlanInit} (hs : Onward P False s₀ s) : Onward P False s₀ (applyInits l s) :=
  .foldl hs fun _ _ h => .initWrite h fun _ _ h => .initEff h
theorem hbFuse (hs : Onward P Q s₀ s) : Onward P Q s₀ (hbFuse s) := .foldl hs fun _ _ h => .wr <| .wr h
theorem plZero {u : Option Nat} (hs : Onward P Q s₀ s) : Onward P Q s₀ (plZero u s) := .regs hs
theorem resetPl {u : Option Nat} (hs : Onward P Q s₀ s) : Onward P Q s₀ (resetPl u s) :=
  .ite (.hbFuse <| .plZero hs) (.plZero hs)

theorem dspImage {p : PlanImg} {u : Nat} (hs : Onward P Q s₀ s) : Onward P Q s₀ (dspImage p u s) := by
  unfold Machine.dspImage
  extract_lets +onlyGivenNames _
  split
  exacts [.wr <| .dspLoadMem <| .dspLoadMem <| .dspLoadMem hs, .dspLoadMem <| .dspLoadMem <| .dspLoadMem hs]

theorem unitConfigure {p : PlanImg} {u : Nat} (hs : Onward P False s₀ s) : Onward P False s₀ (unitConfigure p u s) :=
  .applyInits <| .ite (.dspImage <| .setUnit <| .unitReset hs) (.setUnit <| .unitReset hs)
theorem startUnits {us : List Nat} (hs : Onward P Q s₀ s) : Onward P Q s₀ (startUnits us s) :=
  .foldl hs fun _ _ h => .ite (.unitBegin h) h
theorem schedPass {p : PlanSched} {n : Nat} (hs : Onward P False s₀ s) : Onward P False s₀ (schedPass p n s) :=
  .pwr hs

theorem schedLoad {l : List PlanSched} (hs : Onward P False s₀ s) : Onward P False s₀ (schedLoad l s) := by
  unfold Machine.schedLoad
  extract_lets +onlyGivenNames _ _ s₁
  have h₁ : Onward P False s₀ s₁ := .wr <| .wr hs
  exact .ite (.pwr h₁) (.foldl (.pwr h₁) fun _ _ h => .schedPass h)

theorem schedEnEff {j : Nat} {v : BitVec 32} (hs : Onward P False s₀ s) : Onward P False s₀ (schedEnEff j v s).1 :=
  .fst <| .wr <| .foldl hs fun _ _ h => .ite (.schedPass h) h
theorem schedSkip {e cause n : Nat} (hs : Onward P Q s₀ s) : Onward P Q s₀ (schedSkip e cause n s) :=
  .raise <| .setF <| .bump hs

theorem runBegin {e : Nat} (hs : Onward P False s₀ s) : Onward P False s₀ (runBegin e s) := by
  unfold Machine.runBegin
  split
  exacts [.ite hs (.settle <| .pwr <| .startUnits <| .foldl hs fun _ _ h => .unitConfigure <| .toReady h), hs]

theorem wakeNow {p : PlanSched} {due : Nat} (hs : Onward P False s₀ s) : Onward P False s₀ (wakeNow p due s) :=
  .ite (.schedSkip hs)
    (.runBegin <| .synFollow <| .pwr <| .foldl
        (.ite (.schedSkip <| .setF <| .bump <| .raise hs) (.setF <| .bump <| .raise hs))
        fun _ _ h => .ite (.changeState h) h)

theorem schedOnce {p : PlanSched} (hs : Onward P Q s₀ s) : Onward P Q s₀ (schedOnce p s) := .ite (.setB hs) hs

theorem wakeRun {p : PlanSched} (hs : Onward P False s₀ s) : Onward P False s₀ (wakeRun p s) := by
  unfold Machine.wakeRun
  extract_lets +onlyGivenNames _
  refine .ite hs ?_
  extract_lets +onlyGivenNames _ s₁
  have h₁ : Onward P False s₀ s₁ := .schedPass hs
  exact .ite h₁ (.schedOnce <| .wakeNow <| .ite (.schedSkip h₁) h₁)

theorem runDrain {r : SurveyRun} (hs : Onward P False s₀ s) : Onward P False s₀ (runDrain r s) :=
  .surveySettle <| .foldl (.foldl (.pwr hs) fun _ _ h => .ite (.unitDrain h) h) fun _ _ h => .ite (.toOff h) h

theorem deferredWakes (hs : Onward False False s₀ s) : Onward False False s₀ (deferredWakes s) := by
  unfold Machine.deferredWakes
  extract_lets +onlyGivenNames _
  refine .foldl (.plan hs) fun _ _ h => ?_
  extract_lets +onlyGivenNames _ s₁
  have h₁ : Onward False False s₀ s₁ := .audit h
  split
  exacts [.ite (.wakeRun h₁) (.ite (.schedOnce <| .wakeNow h₁) h₁), h₁]

/-! PlanLoad. -/

theorem withPlan {f : PlanState → PlanState} (hs : Onward False Q s₀ s) : Onward False Q s₀ (withPlan f s) := .plan hs
theorem setPhase {k : Nat} (hs : Onward P Q s₀ s) : Onward P Q s₀ (setPhase k s) := .setB <| .setF hs
theorem setBootPhase {k : Nat} (hs : Onward P Q s₀ s) : Onward P Q s₀ (setBootPhase k s) := .setF hs
theorem bootTime {k us : Nat} (hs : Onward P Q s₀ s) : Onward P Q s₀ (bootTime k us s) := .ite (.wr hs) hs
theorem auditPlan {ag : AgentId} {code len : Nat} {planId : List Byte} (hs : Onward P Q s₀ s) :
    Onward P Q s₀ (auditPlan ag code len planId s) := .audit <| .audit <| .audit hs
theorem loadBegin {ag : AgentId} {source len : Nat} {boot : Bool} (hs : Onward False Q s₀ s) :
    Onward False Q s₀ (loadBegin ag source len boot s) := .setPhase <| .withPlan hs
theorem loadRestart {j : LoadJob} (hs : Onward False Q s₀ s) : Onward False Q s₀ (loadRestart j s) :=
  .settle <| .startUnits <| .withPlan hs
theorem noPlan (hs : Onward P Q s₀ s) : Onward P Q s₀ (noPlan s) := .updFaultN <| .setB hs
theorem bootNext {j : LoadJob} {code : Nat} (hs : Onward False Q s₀ s) : Onward False Q s₀ (bootNext j code s) :=
  .ite hs (.ite (.loadBegin <| .setF hs) (.ite (.noPlan <| .boot hs) (.boot hs)))

theorem loadReject {j : LoadJob} {code : Nat} {goOn : Bool} (hs : Onward False False s₀ s) :
    Onward False False s₀ (loadReject j code goOn s) := by
  unfold Machine.loadReject
  extract_lets +onlyGivenNames _ _ _ _ _ s₁
  have h₁ : Onward False False s₀ s₁ := .deferredWakes <| .loadRestart <| .auditPlan <| .raise <| .withPlan <|
    .setF <| .setF <| .setPhase hs
  exact .ite (.bootNext h₁) h₁

theorem loadBusy {ag : AgentId} (hs : Onward P Q s₀ s) : Onward P Q s₀ (loadBusy ag s) := .auditPlan <| .raise hs

theorem loadHost {ag : AgentId} (hs : Onward False False s₀ s) : Onward False False s₀ (loadHost ag s) := by
  unfold Machine.loadHost
  refine .ite (.loadBusy hs) ?_
  extract_lets +onlyGivenNames _ s₁
  have h₁ : Onward False False s₀ s₁ := .loadBegin hs
  split
  exacts [.ite (.loadReject h₁) h₁, h₁]

theorem loadFlash {ag : AgentId} {slot : Nat} (hs : Onward False Q s₀ s) : Onward False Q s₀ (loadFlash ag slot s) :=
  .ite (.loadBusy hs) (.loadBegin hs)

theorem loadAbort {goOn : Bool} (hs : Onward False False s₀ s) : Onward False False s₀ (loadAbort goOn s) := by
  unfold Machine.loadAbort
  split
  exacts [.ite (.setF <| .loadReject hs) (.setF hs), .setF hs]

theorem planCmdEff {ag : AgentId} {v : BitVec 32} (hs : Onward False False s₀ s) :
    Onward False False s₀ (planCmdEff ag v s).1 := by
  unfold Machine.planCmdEff
  split
  exacts [.fst <| .loadHost hs, .fst <| .loadFlash hs, .fst <| .loadAbort hs, hs]

theorem planCmdW {ag : AgentId} {v : Nat} (hs : Onward False False s₀ s) : Onward False False s₀ (planCmdW ag v s) :=
  .guardW hs fun _ h => .planCmdEff h
theorem loadDrain {us : List Nat} (hs : Onward P Q s₀ s) : Onward P Q s₀ (loadDrain us s) :=
  .settle <| .foldl hs fun _ _ h => .ite (.unitDrain h) h
theorem loadAccept {j : LoadJob} {b : List Byte} {p : PlanImg} (hs : Onward False Q s₀ s) :
    Onward False Q s₀ (loadAccept j b p s) := .loadDrain <| .setPhase <| .withPlan hs
theorem closeRoute {r : Route} (hs : Onward False Q s₀ s) : Onward False Q s₀ (closeRoute r s) := .withPlan hs
theorem swapRoutes {e : BitVec 32} {new : List PlanRoute} (hs : Onward False Q s₀ s) :
    Onward False Q s₀ (swapRoutes e new s) := .withPlan <| .foldl hs fun _ _ h => .closeRoute h
theorem firstVectors (hs : Onward P Q s₀ s) : Onward P Q s₀ (firstVectors s) :=
  .host <| .foldl hs fun _ _ h => .ite (.wr h) h

theorem swapGranules {p : PlanImg} (hs : Onward P Q s₀ s) : Onward P Q s₀ (swapGranules p s) := by
  unfold Machine.swapGranules
  split
  exacts [hs, .foldl hs fun _ _ h => .unitForget h]

theorem swapPlan {j : LoadJob} {p : PlanImg} (hs : Onward False False s₀ s) :
    Onward False False s₀ (swapPlan j p s) :=
  .hbmFollow <| .schedLoad <| .raise <| .pwr <| .foldl
      (.setF <| .withPlan <| .swapGranules <| .swapRoutes <| .wr hs) fun _ _ h => .wr h

theorem configBegin {j : LoadJob} {p : PlanImg} (hs : Onward P Q s₀ s) : Onward P Q s₀ (configBegin j p s) :=
  .settle <| .foldl hs fun _ _ h => .changeState h
theorem configRecover {p : PlanImg} {bad : List Nat} {u : Nat} (hs : Onward P Q s₀ s) :
    Onward P Q s₀ (configRecover p bad u s) := .ite (.ite (.toOff hs) (.unitRestart hs)) hs

theorem configPower {p : PlanImg} {u : Nat} (hs : Onward P Q s₀ s) : Onward P Q s₀ (configPower p u s) := by
  unfold Machine.configPower
  split
  · split
    exacts [.downFromReady hs, .toOff hs, hs]
  · split
    exacts [.toReady <| .changeState hs, .toReady hs, hs]

theorem configReset {p : PlanImg} {u : Nat} (hs : Onward P Q s₀ s) : Onward P Q s₀ (configReset p u s) :=
  .ite (.resetPl hs) (.ite (.ite (.dspImage <| .unitReset <| .setUnit hs) (.unitReset <| .setUnit hs)) (.setUnit hs))
theorem readyRise {us : Nat} (hs : Onward P Q s₀ s) : Onward P Q s₀ (readyRise us s) :=
  .ite hs (.bootTime <| .setB hs)

/-! Power. -/

/-- What only the AON domain keeps includes the history and the queue. -/
theorem aonOnly (hs : Onward False False s₀ s) : Onward False False s₀ (aonOnly s) := by
  obtain ⟨he, hn, -, -⟩ := hs
  exact ⟨he, hn, False.elim, False.elim⟩

theorem sleepNow (hs : Onward False False s₀ s) : Onward False False s₀ (sleepNow s) :=
  .updFaultN <| .pwr <| .time <| .regs <| .aonOnly <| .ite (.raise <| .bump hs) (.bump hs)

theorem pwrCmdEff {ag : AgentId} {v : BitVec 32} (hs : Onward False False s₀ s) :
    Onward False False s₀ (pwrCmdEff ag v s).1 := by
  unfold Machine.pwrCmdEff
  refine .iteFst hs ?_
  split
  exacts [.fst <| .ignored <| .sleepRefused <| .setB hs, .fst <| .sleepNow hs]

theorem thermalOff {sensor : Nat} {t : Int} (hs : Onward False False s₀ s) :
    Onward False False s₀ (thermalOff sensor t s) := .updFaultN <| .pwr <| .time <| .aonOnly <| .setB <| .raise hs

/-! Synth. -/

theorem synGo {n : Nat} (hs : Onward P False s₀ s) : Onward P False s₀ (synGo n s) :=
  .settle <| .foldl (.foldl (.pwr hs) fun _ _ h => .ite (.unitBegin <| .toReady h) h) fun _ _ h => .runBegin h
theorem timeUp (hs : Onward P Q s₀ s) : Onward P Q s₀ (timeUp s) := .ite (.raise <| .withTime hs) (.withTime hs)
theorem phaseClockEnd {us : Nat} (hs : Onward P Q s₀ s) : Onward P Q s₀ (phaseClockEnd us s) :=
  .ite (.synFollow <| .foldl (.bootTime <| .setBootPhase hs) fun _ _ h => .ite (.changeState h) h) hs

theorem synUp {n : Nat} (hs : Onward P Q s₀ s) : Onward P Q s₀ (synUp n s) := by
  unfold Machine.synUp
  extract_lets +onlyGivenNames s₁
  have h₁ : Onward P Q s₀ s₁ := .withSyn hs
  split
  exacts [.timeUp h₁, .stackRise <| .stackRise h₁, .dispSynUp h₁, h₁]

theorem synFault {n : Nat} (hs : Onward P Q s₀ s) : Onward P Q s₀ (synFault n s) :=
  .foldl hs fun _ _ h => .unitFault h

theorem synLost {n : Nat} (hs : Onward P Q s₀ s) : Onward P Q s₀ (synLost n s) := by
  unfold Machine.synLost
  refine .ite ?_ hs
  extract_lets +onlyGivenNames _ s₁
  have h₁ : Onward P Q s₀ s₁ := .raise <| .withSyn hs
  split
  · extract_lets +onlyGivenNames s₂
    have h₂ : Onward P Q s₀ s₂ := .setRate h₁
    exact .synFault <| .ite (.raise <| .withTime h₂) (.withTime h₂)
  · exact .synFault h₁
  · exact .freezeSynth h₁
  · exact .dispSynLost h₁
  · exact .calSyn4Lost <| .synFault h₁
  · exact .foldl h₁ fun _ _ h => .sysrefTick h

/-! Boot. -/

theorem flrOne {fn : Nat} (hs : Onward P Q s₀ s) : Onward P Q s₀ (flrOne fn s) := .receiverReset <| .resetFunction hs
theorem vfDisable {fn : Nat} (hs : Onward P Q s₀ s) : Onward P Q s₀ (vfDisable fn s) :=
  .ite (.receiverReset <| .host hs) hs

theorem pcieReset (hs : Onward P Q s₀ s) : Onward P Q s₀ (pcieReset s) :=
  .calWatch <| .wr <| .host <| .foldl (.foldl (.foldl hs fun _ _ h => .flumeReset h) fun _ _ h => .vfDisable h)
      fun _ _ h => .wr h

theorem phaseMemoryEnd {us : Nat} (hs : Onward False Q s₀ s) : Onward False Q s₀ (phaseMemoryEnd us s) := by
  unfold Machine.phaseMemoryEnd
  refine .ite ?_ hs
  extract_lets +onlyGivenNames s₁
  have h₁ : Onward False Q s₀ s₁ := .bootTime <| .setBootPhase hs
  exact .ite (.loadBegin h₁) h₁

theorem warmAborts (hs : Onward False False s₀ s) : Onward False False s₀ (warmAborts s) := by
  unfold Machine.warmAborts
  extract_lets s₁ s₂ s₃ s₄
  have h₁ : Onward False False s₀ s₁ := .setB hs
  have h₃ : Onward False False s₀ s₃ := .withPlan <| .setF <| .setF <| .setPhase h₁
  have h₄ : Onward False False s₀ s₄ := by
    unfold s₄
    split
    · exact h₁
    · refine .ite (.loadAbort h₁) ?_
      split
      exacts [.auditPlan h₃, h₃]
  exact .ite (.calAbort h₄) h₄

theorem warmOff (hs : Onward False False s₀ s) : Onward False False s₀ (warmOff s) :=
  .foldl (.pwr <| .withPlan hs) fun _ _ h => .ite h (.toOff <| .ite (.unitDiscard h) h)
theorem warmMgt (hs : Onward P Q s₀ s) : Onward P Q s₀ (warmMgt s) :=
  .foldl (.foldl (.foldl hs fun _ _ h => .flumeReset h) fun _ _ h => .receiverReset h) fun _ _ h => .gateFree h

theorem warmStack {k : Nat} (hs : Onward P Q s₀ s) : Onward P Q s₀ (warmStack k s) := by
  unfold Machine.warmStack
  extract_lets +onlyGivenNames _ _ _ _ s₁
  have h₁ : Onward P Q s₀ s₁ := .withHbm <| .setF <| .foldl (.wr <| .ite (.loseStack hs) hs) fun _ _ h => .setF h
  exact .ite h₁ (.setSstate h₁)

theorem warmHbm (hs : Onward P Q s₀ s) : Onward P Q s₀ (warmHbm s) :=
  .stackRise <| .stackRise <| .synFollow <| .foldl (.warmStack <| .warmStack hs) fun _ _ h => .ite (.changeState h) h

theorem warmLoad {src : Nat} (hs : Onward False Q s₀ s) : Onward False Q s₀ (warmLoad src s) := by
  unfold Machine.warmLoad
  refine .ite hs ?_
  extract_lets +onlyGivenNames s₁
  have h₁ : Onward False Q s₀ s₁ := .setBootPhase hs
  exact .ite (.loadBegin <| .boot h₁) (.ite (.noPlan h₁) (.loadBegin <| .boot h₁))

theorem warmRestart {src : Nat} (hs : Onward False False s₀ s) : Onward False False s₀ (warmRestart src s) :=
  .settle <| .warmLoad <| .warmHbm <| .mcRestart <| .mcRestart <| .warmMgt <| .setF <| .warmOff <| .warmAborts hs

theorem resetCmdEff {ag : AgentId} {v : BitVec 32} (hs : Onward False False s₀ s) :
    Onward False False s₀ (resetCmdEff ag v s).1 := by
  unfold Machine.resetCmdEff
  refine .iteFst hs (.iteFst (.ignored hs) (.iteFst hs (.iteFst (.ignored hs) ?_)))
  dsimp only
  exact .warmRestart hs

/-! Fabric. -/

theorem setRoute {r : Route} (hs : Onward False Q s₀ s) : Onward False Q s₀ (setRoute r s) := .withPlan hs

theorem fabricFailure {u : Nat} (hs : Onward P Q s₀ s) : Onward P Q s₀ (fabricFailure u s) := by
  unfold Machine.fabricFailure
  refine .ite hs ?_
  extract_lets +onlyGivenNames _ _ s₁
  have h₁ : Onward P Q s₀ s₁ := .fabricFails hs
  exact .ite (.unitFault h₁) h₁

theorem fabricLost {r : Route} {it : Item} (hs : Onward P False s₀ s) : Onward P False s₀ (fabricLost r it s) :=
  .surveySettle <| .faultLasting <| .foldl (.bump hs) fun _ _ h => .fabricFailure h

theorem meterDrop {r : Route} {it : Item} (hs : Onward False Q s₀ s) : Onward False Q s₀ (meterDrop r it s) := by
  unfold Machine.meterDrop
  extract_lets +onlyGivenNames s₁
  have h₁ : Onward False Q s₀ s₁ := .setRoute hs
  exact .ite (.raiseRated <| .bump h₁) h₁

theorem fabricDeliver {r : Route} {it : Item} {room : List Bool} (hs : Onward False Q s₀ s) :
    Onward False Q s₀ (fabricDeliver r it room s) := .withPlan <| .setRoute hs

theorem fabricPass {r : Route} {it : Item} {room : List Bool} {ecc : Nat} (hs : Onward False False s₀ s) :
    Onward False False s₀ (fabricPass r it room ecc s) := by
  unfold Machine.fabricPass
  extract_lets +onlyGivenNames _ s₁
  have h₁ : Onward False False s₀ s₁ := .setRoute hs
  exact .ite (.fabricDeliver h₁) (.ite (.fabricDeliver <| .faultTransient h₁) (.fabricLost h₁))

/-! RegRead. -/

theorem latchWord {off : Nat} {v : BitVec 32} (hs : Onward P Q s₀ s) : Onward P Q s₀ (latchWord off v s) := .latch hs

theorem hdrRead {u at_ : Nat} (hs : Onward P Q s₀ s) : Onward P Q s₀ (hdrRead u at_ s).2 := by
  unfold Machine.hdrRead
  extract_lets +onlyGivenNames _
  split
  exacts [.snd <| .latchWord hs, .snd <| .setUnit hs, hs]

theorem latchAll {ag : AgentId} {r : Reg} {i : Nat} (hs : Onward P Q s₀ s) : Onward P Q s₀ (latchAll ag r i s) :=
  .foldl hs fun _ _ h => .latchWord h

theorem regFetch {ag : AgentId} {r : Reg} {i j : Nat} (hs : Onward P Q s₀ s) :
    Onward P Q s₀ (regFetch ag r i j s).2 := by
  unfold Machine.regFetch
  extract_lets +onlyGivenNames _
  split
  · exact .iteSnd (.jobResultRead hs) hs
  · exact .txstat hs
  · exact .iteSnd (.gateRead hs) hs
  · exact .snd <| .coefStep hs
  · exact .snd <| .winStep hs
  · exact .snd <| .maskStep hs
  · exact .snd <| .mtStep hs
  · exact .snd <| .withSyn hs
  · exact .iteSnd (.iteSnd (.snd <| .latchAll hs) hs) (.iteSnd hs (.snd <| .wr hs))

theorem readReg {ag : AgentId} {off : Nat} (hs : Onward P Q s₀ s) : Onward P Q s₀ (readReg ag off s).2 := by
  unfold Machine.readReg
  refine .iteSnd hs ?_
  extract_lets +onlyGivenNames s₁
  have h₁ : Onward P Q s₀ s₁.2 := by
    unfold s₁
    split
    exacts [.regFetch hs, hs]
  split
  exacts [h₁, .iteSnd (.hdrRead hs) (.iteSnd hs h₁)]

theorem readOut {ag : AgentId} {off : Nat} (hs : Onward P Q s₀ s) : Onward P Q s₀ (readOut ag off s) :=
  .rdata <| .readReg hs

/-! Control. -/

theorem busEff {ag : AgentId} {off : Nat} {v : BitVec 32} {ecc : Nat} {good : Bool} (hs : Onward False False s₀ s) :
    Onward False False s₀ (busEff ag off v ecc good s).1 := by
  unfold Machine.busEff
  split
  exacts [.planCmdEff hs, .pwrCmdEff hs, .schedEnEff hs, .resetCmdEff hs, .writeEff hs]

theorem busWrite {ag : AgentId} {off : Nat} {v : BitVec 32} {ecc : Nat} {good : Bool} (hs : Onward False False s₀ s) :
    Onward False False s₀ (busWrite ag off v ecc good s).1 := .guardRes hs fun _ h => .busEff h
theorem smbStep {refused : Bool} (hs : Onward P Q s₀ s) : Onward P Q s₀ (smbStep refused s) := .mgt hs
theorem windowFail {fn : Nat} (hs : Onward P Q s₀ s) : Onward P Q s₀ (windowFail fn s) := .raiseRated <| .bump hs

/-! DspExec. -/


end Onward

/-- What a command answers comes after r. -/
def OutOnward (r : State) (o : Out) : Prop := ∀ t, o = .next t → Onward False False r t

namespace OutOnward

variable {s₀ s : State}

theorem next (hs : Onward False False s₀ s) : OutOnward s₀ (.next s) := fun _ h => by cases h; exact hs
theorem ite {c : Prop} {_ : Decidable c} {a b : Out} (ha : OutOnward s₀ a) (hb : OutOnward s₀ b) :
    OutOnward s₀ (if c then a else b) := by
  split <;> assumption

theorem execFusePhaseDone (hs : Onward False False s₀ s) : OutOnward s₀ (execFusePhaseDone s) :=
  .ite (.next hs) (.next <| .settle <| .setMc <| .setMc <| .setBootPhase <| .boot <| .calBoot <| .hbFuse hs)

theorem execMcFirmwareLoaded {m : Nat} {okA okB : Bool} (hs : Onward False False s₀ s) :
    OutOnward s₀ (execMcFirmwareLoaded m okA okB s) :=
  .ite
    (.ite (.next <| .setMc <| .setF hs)
      (.ite (.next <| .setMc <| .setF hs) (.next <| .receiverReset <| .setMc <| .setF hs))) (.next hs)

theorem execDrainComplete {u : Nat} (hs : Onward False False s₀ s) : OutOnward s₀ (execDrainComplete u s) := by
  unfold Machine.execDrainComplete
  refine .ite ?_ (.next hs)
  extract_lets +onlyGivenNames s₁
  have h₁ : Onward False False s₀ s₁ := .changeState <| .unitLeave hs
  exact .ite (.next <| .surveySettle <| .unitBegin <| .plan h₁) (.next <| .surveySettle h₁)

theorem execDrainTimeout {u : Nat} (hs : Onward False False s₀ s) : OutOnward s₀ (execDrainTimeout u s) := by
  unfold Machine.execDrainTimeout
  refine .ite ?_ (.next hs)
  extract_lets +onlyGivenNames _ s₁ s₂
  have h₁ : Onward False False s₀ s₁ := .withPlan <| .unitFault hs
  have h₂ : Onward False False s₀ s₂ := by
    unfold s₂
    split
    exacts [.ite (.loadReject h₁) h₁, h₁]
  exact .next <| .surveySettle h₂

theorem execStateSkew {u : Nat} {data : BitVec 32} {k : Nat} (hs : Onward False False s₀ s) :
    OutOnward s₀ (execStateSkew u data k s) :=
  .ite (.next <| .skew hs) (.ite (.next hs) (.next <| .updFaultN <| .raise <| .setB <| .bump <| .skew hs))

theorem execRateLimitExpiry {k : Nat} (hs : Onward False False s₀ s) : OutOnward s₀ (execRateLimitExpiry k s) := by
  unfold Machine.execRateLimitExpiry
  split
  exacts [.next hs, .ite (.next <| .rates hs) (.next <| .raise <| .rateOpen <| .rateData <| .rates hs)]

theorem execFabricItem {k : Nat} {room : List Bool} {ecc : Nat} (hs : Onward False False s₀ s) :
    OutOnward s₀ (execFabricItem k room ecc s) := by
  unfold Machine.execFabricItem
  split
  · exact .next hs
  · extract_lets +onlyGivenNames _
    refine .ite (.next hs) ?_
    refine .ite (.next hs) ?_
    split
    · exact .next <| .withPlan hs
    · exact .ite (.ite (.next hs) (.next <| .fabricPass <| .withPlan hs))
        (.ite (.next <| .setRoute <| .withPlan hs) (.next <| .meterDrop <| .withPlan hs))

theorem execPlanFetchDone {bytes : List Byte} {good : Bool} (hs : Onward False False s₀ s) :
    OutOnward s₀ (execPlanFetchDone bytes good s) := by
  unfold Machine.execPlanFetchDone
  split
  · exact .next hs
  · refine .ite (.next hs) ?_
    split
    · exact .next <| .loadReject hs
    · extract_lets +onlyGivenNames s₁
      have h₁ : Onward False False s₀ s₁ := .hbmWrite hs
      split
      exacts [.next <| .loadReject h₁, .next <| .loadAccept h₁]

theorem execPlanSwap {us : Nat} (hs : Onward False False s₀ s) : OutOnward s₀ (execPlanSwap us s) := by
  unfold Machine.execPlanSwap
  split
  · exact .next hs
  · split
    · exact .next hs
    · exact .ite (.next hs)
        (.ite (.next <| .loadDrain hs)
          (.ite (.next <| .loadReject hs) (.next <| .configBegin <| .setPhase <| .swapPlan <| .ite (.bootTime hs) hs)))

theorem execPlanConfigureDone {us : Nat} {bad : List Nat} (hs : Onward False False s₀ s) :
    OutOnward s₀ (execPlanConfigureDone us bad s) := by
  unfold Machine.execPlanConfigureDone
  split
  · exact .next hs
  split
  · exact .next hs
  extract_lets s₁ s₂ s₃ s₄ mine s₅ s₆ s₇ s₈ s₉ s₁₀ s₁₁ s₁₂ boot s₁₃ s₁₄
  have h₂ : Onward False False s₀ s₂ := .foldl (.foldl hs fun _ _ h => .configRecover h) fun _ _ h => .configPower h
  have h₄ : Onward False False s₀ s₄ := .applyInits <| .resetPl <| .foldl h₂ fun _ _ h => .configReset h
  have h₆ : Onward False False s₀ s₆ := .startUnits <| .foldl h₄ fun _ _ h => .toGated h
  have h₇ : Onward False False s₀ s₇ := .ite (.firstVectors h₆) h₆
  have h₉ : Onward False False s₀ s₉ := .auditPlan <| .withPlan <| .setF <| .setPhase h₇
  have h₁₀ : Onward False False s₀ s₁₀ := .ite h₉ (.setF h₉)
  have h₁₁ : Onward False False s₀ s₁₁ := .ite (.setF h₁₀) h₁₀
  have h₁₃ : Onward False False s₀ s₁₃ := .readyRise <| .boot <| .setB h₁₁
  exact .ite (.next hs) (.next <| .deferredWakes <| .settle <| .ite (.setBootPhase h₁₃) h₁₃)

theorem execOcxoLost (hs : Onward False False s₀ s) : OutOnward s₀ (execOcxoLost s) := by
  unfold Machine.execOcxoLost
  refine .ite (.next hs) ?_
  extract_lets +onlyGivenNames _ _ s₁ s₂ _ s₃
  have h₁ : Onward False False s₀ s₁ := .withTime hs
  have h₂ : Onward False False s₀ s₂ := .ite (.raise h₁) h₁
  have h₃ : Onward False False s₀ s₃ := .withTime <| .ite (.foldl h₂ fun _ _ h => .synLost h) h₂
  exact .ite (.next <| .surveySettle <| .enterFault h₃) (.next h₃)

theorem execOcxoReturned (hs : Onward False False s₀ s) : OutOnward s₀ (execOcxoReturned s) := by
  unfold Machine.execOcxoReturned
  extract_lets +onlyGivenNames _ s₁ s₂
  have h₁ : Onward False False s₀ s₁ := .withTime hs
  have h₂ : Onward False False s₀ s₂ := .ite (.raise h₁) h₁
  exact .next <| .ite (.updFaultN <| .setBootPhase h₂) h₂

theorem execRefQualified (hs : Onward False False s₀ s) : OutOnward s₀ (execRefQualified s) := by
  unfold Machine.execRefQualified
  refine .ite (.next hs) ?_
  extract_lets +onlyGivenNames s₁
  have h₁ : Onward False False s₀ s₁ := .setB <| .withTime hs
  split
  · split
    exacts [.next h₁, .next <| .ite (.acquireFirst h₁) h₁]
  · exact .next <| .leaveHoldover h₁
  · exact .next h₁
  · exact .next h₁
  · exact .next h₁
  · exact .next h₁

theorem execSyncFrame {f : BitVec 96} (hs : Onward False False s₀ s) : OutOnward s₀ (execSyncFrame f s) :=
  .ite (.next hs)
    (.ite (.next <| .withTime hs)
      (.ite (.next <| .syncError <| .withTime hs)
        (.ite (.next <| .syncError <| .withTime hs)
          (.ite (.next <| .syncError <| .withTime hs)
            (.ite (.next <| .syncError <| .withTime hs) (.next <| .setF <| .withTime <| .withTime hs))))))

theorem execSyncLoadPoint (hs : Onward False False s₀ s) : OutOnward s₀ (execSyncLoadPoint s) := by
  unfold Machine.execSyncLoadPoint
  split
  · exact .next hs
  · extract_lets +onlyGivenNames s₁
    have h₁ : Onward False False s₀ s₁ := .withTime hs
    exact .ite (.next <| .raise <| .loadStep h₁) (.next <| .raise <| .wr h₁)

theorem execSynPhaseStep {n : Nat} (hs : Onward False False s₀ s) : OutOnward s₀ (execSynPhaseStep n s) := by
  unfold Machine.execSynPhaseStep
  extract_lets +onlyGivenNames _
  refine .ite ?_ (.next hs)
  extract_lets +onlyGivenNames _ s₁ _ s₂
  have h₁ : Onward False False s₀ s₁ := .withSyn hs
  have h₂ : Onward False False s₀ s₂ := .ite (.withTime h₁) h₁
  exact .ite (.next <| .phaseDone h₂) (.next h₂)

theorem execLaneCdrLocked {n lane : Nat} (hs : Onward False False s₀ s) : OutOnward s₀ (execLaneCdrLocked n lane s) := by
  unfold Machine.execLaneCdrLocked
  refine .ite ?_ (.next hs)
  extract_lets +onlyGivenNames _ s₁
  have h₁ : Onward False False s₀ s₁ := .withLink <| .setF hs
  exact .ite (.next <| .setLstate h₁) (.next h₁)

theorem execLaneCodeSync {n lane : Nat} (hs : Onward False False s₀ s) : OutOnward s₀ (execLaneCodeSync n lane s) := by
  unfold Machine.execLaneCodeSync
  refine .ite ?_ (.next hs)
  extract_lets +onlyGivenNames _ s₁
  have h₁ : Onward False False s₀ s₁ := .withLink <| .setB hs
  exact .ite (.next <| .setLstate h₁) (.next h₁)

theorem execIlasMultiframe {n lane : Nat} {fields : List Nat} {chk : Nat} {chkOk : Bool}
    (hs : Onward False False s₀ s) : OutOnward s₀ (execIlasMultiframe n lane fields chk chkOk s) := by
  unfold Machine.execIlasMultiframe
  refine .ite ?_ (.next hs)
  extract_lets +onlyGivenNames _
  split
  · exact .next <| .linkError <| .raise hs
  · refine .ite (.next <| .linkError <| .raise hs) ?_
    extract_lets +onlyGivenNames s₁
    have h₁ : Onward False False s₀ s₁ := .withLink hs
    exact .ite (.next <| .linkPassed h₁) (.next h₁)

theorem execSysrefEdge {n : Nat} {arrivals skews : List Nat} (hs : Onward False False s₀ s) :
    OutOnward s₀ (execSysrefEdge n arrivals skews s) := by
  unfold Machine.execSysrefEdge
  split
  · exact .next hs
  · exact .ite (.ite (.next <| .checkedEdge hs) (.next <| .alignEdge hs)) (.ite (.next <| .checkedEdge hs) (.next hs))

theorem execGroupAlignTimeout {g : Nat} (hs : Onward False False s₀ s) : OutOnward s₀ (execGroupAlignTimeout g s) := by
  unfold Machine.execGroupAlignTimeout
  extract_lets +onlyGivenNames _
  split
  exacts [.next hs, .next <| .raise <| .foldl hs fun _ _ h => .linkToData h]

theorem execSyncHeaderInvalid {n lane block : Nat} {octet : List Word} (hs : Onward False False s₀ s) :
    OutOnward s₀ (execSyncHeaderInvalid n lane block octet s) :=
  .ite
    (.ite
      (.next <| .linkError <| .setB <| .ite (.raiseRated <| .withLink <| .bump <| .withLink <| .laneErr hs)
          (.withLink <| .laneErr hs))
      (.next <| .ite (.raiseRated <| .withLink <| .bump <| .withLink <| .laneErr hs) (.withLink <| .laneErr hs)))
    (.next hs)

theorem execTunerInputParcel {n : Nat} (hs : Onward False False s₀ s) : OutOnward s₀ (execTunerInputParcel n s) := by
  unfold Machine.execTunerInputParcel
  split
  · exact .next hs
  next i t h =>
    have ht := hs.takeDelivered h
    exact .next <| .ite (.tunerInput ht) (.refuseItem hs ht)

theorem execChzInput {c : Nat} (hs : Onward False False s₀ s) : OutOnward s₀ (execChzInput c s) := by
  unfold Machine.execChzInput
  split
  · exact .next hs
  next i t h =>
    have ht := hs.takeDelivered h
    exact .next <| .ite (.chzInput ht) (.refuseItem hs ht)

theorem execSpecInput {e stream : Nat} (hs : Onward False False s₀ s) : OutOnward s₀ (execSpecInput e stream s) := by
  unfold Machine.execSpecInput
  split
  · exact .next hs
  next i t h =>
    have ht := hs.takeDelivered h
    exact .ite (.next <| .ite (.specResponse ht) ht) (.next <| .ite (.specInput ht) (.refuseItem hs ht))

theorem execSpectrumComputed {e : Nat} {took0 took1 coreFault : Bool} (hs : Onward False False s₀ s) :
    OutOnward s₀ (execSpectrumComputed e took0 took1 coreFault s) := by
  unfold Machine.execSpectrumComputed
  split
  · exact .next hs
  · refine .ite ?_ (.next hs)
    refine .ite (.next <| .specCoreFault hs) ?_
    extract_lets +onlyGivenNames s₁
    have h₁ : Onward False False s₀ s₁ := .specPump <| .spectrumComputed <| .withSpec hs
    exact .ite (.next <| .specFinish h₁) (.next h₁)

theorem execSpecCommitApply {e time : Nat} (hs : Onward False False s₀ s) :
    OutOnward s₀ (execSpecCommitApply e time s) := by
  unfold Machine.execSpecCommitApply
  extract_lets +onlyGivenNames _
  split
  exacts [.ite (.next <| .specJudge hs) (.next hs), .next hs]

theorem execWindowGenerationDone {e : Nat} (hs : Onward False False s₀ s) :
    OutOnward s₀ (execWindowGenerationDone e s) := by
  unfold Machine.execWindowGenerationDone
  split
  exacts [.next hs, .next <| .withSpec <| .winGenerate <| .setB hs]

theorem execTdSample {t d : Nat} (hs : Onward False False s₀ s) : OutOnward s₀ (execTdSample t d s) := by
  unfold Machine.execTdSample
  split
  · exact .next hs
  · extract_lets +onlyGivenNames s₁
    have h₁ : Onward False False s₀ s₁ := .withTrig hs
    refine .ite (.next h₁) ?_
    split
    · exact .next h₁
    · refine .ite (.next h₁) ?_
      extract_lets +onlyGivenNames s₂
      have h₂ : Onward False False s₀ s₂ := .ite (.tdClear h₁) h₁
      exact .ite (.next <| .bump <| .withTrig h₂) (.next <| .tdTest <| .ite (.tdClear h₂) h₂)

theorem execFmSpectrum {t : Nat} (hs : Onward False False s₀ s) : OutOnward s₀ (execFmSpectrum t s) := by
  unfold Machine.execFmSpectrum
  split
  · exact .next hs
  · extract_lets s₁ s₂ s₃ s₄ r
    have h₁ : Onward False False s₀ s₁ := .withTrig hs
    have h₂ : Onward False False s₀ s₂ := .trigSpecPart h₁
    have h₄ : Onward False False s₀ s₄ := .bump <| .ite (.foldl h₂ fun _ _ h => .maskClear h) h₂
    have hr : Onward False False s₀ r.1 :=
      List.foldlRecOn (motive := fun p : State × Bool => Onward False False s₀ p.1) _ _ h₄ fun _ h _ _ => .maskTest h
    exact .ite (.next h₁) (.next <| .ite (.bump hr) hr)

theorem execDensityRows {t : Nat} (hs : Onward False False s₀ s) : OutOnward s₀ (execDensityRows t s) := by
  unfold Machine.execDensityRows
  split
  · exact .next hs
  · extract_lets +onlyGivenNames s₁
    have h₁ : Onward False False s₀ s₁ := .withTrig hs
    refine .ite (.next h₁) ?_
    extract_lets +onlyGivenNames s₂
    have h₂ : Onward False False s₀ s₂ := .trigDensPart h₁
    exact .next <| .densTest <| .ite (.densClear h₂) h₂

theorem execEvtInEdge {i : Nat} {rising : Bool} {t : Nat} {clean room : Bool} (hs : Onward False False s₀ s) :
    OutOnward s₀ (execEvtInEdge i rising t clean room s) :=
  .ite (.next hs)
    (.ite (.next <| .evtFollow <| .ite (.wr64 <| .setB <| .tree hs) (.setB <| .tree hs))
      (.ite
        (.ite
          (.next <| .evtOccur <| .time <| .raiseRated <| .bump <| .withIn <| .ite (.wr64 <| .setB <| .tree hs)
              (.setB <| .tree hs))
          (.next <| .evtFollow <| .raiseRated <| .bump <| .withIn <| .ite (.wr64 <| .setB <| .tree hs)
              (.setB <| .tree hs)))
        (.ite
          (.next <| .ite
              (.tdcQueue <| .chanStamp <| .tdc <| .foldl
                  (.bump <| .bump <| .ite
                      (.evtOccur <| .withIn <| .time <| .ite (.wr64 <| .setB <| .tree hs) (.setB <| .tree hs))
                      (.evtFollow <| .withIn <| .time <| .ite (.wr64 <| .setB <| .tree hs) (.setB <| .tree hs)))
                  fun _ _ h => .wr h)
              (.chanStamp <| .tdc <| .foldl
                  (.bump <| .bump <| .ite
                      (.evtOccur <| .withIn <| .time <| .ite (.wr64 <| .setB <| .tree hs) (.setB <| .tree hs))
                      (.evtFollow <| .withIn <| .time <| .ite (.wr64 <| .setB <| .tree hs) (.setB <| .tree hs)))
                  fun _ _ h => .wr h))
          (.next <| .bump <| .ite
              (.evtOccur <| .withIn <| .time <| .ite (.wr64 <| .setB <| .tree hs) (.setB <| .tree hs))
              (.evtFollow <| .withIn <| .time <| .ite (.wr64 <| .setB <| .tree hs) (.setB <| .tree hs))))))

theorem execWeirOccurrence {w : Nat} (hs : Onward False False s₀ s) : OutOnward s₀ (execWeirOccurrence w s) := by
  unfold Machine.execWeirOccurrence
  extract_lets +onlyGivenNames s₁
  have h₁ : Onward False False s₀ s₁ := .foldl (.evtFollow hs) fun _ _ h => .lineOut h
  split
  exacts [.next <| .treeRun h₁, .next h₁]

theorem execTrigCommitApply {t : Nat} (hs : Onward False False s₀ s) : OutOnward s₀ (execTrigCommitApply t s) := by
  unfold Machine.execTrigCommitApply
  split
  · exact .next hs
  · exact .next <| .raise <| .bumpEpoch <| .trigPendBit <| .withTrig <| .foldl hs
        fun _ _ h => .ite (.trigFall <| .tdClear h) h

theorem execAcqFire {a : Nat} {stalled : Bool} (hs : Onward False False s₀ s) :
    OutOnward s₀ (execAcqFire a stalled s) := by
  unfold Machine.execAcqFire
  split
  · exact .next hs
  · exact .ite (.next <| .missEvent (.tree hs) (.foldl (.tree hs) fun _ _ h => .listDue <| .takeFire h))
      (.next <| .tree hs)

theorem execAcqChunk {a k first : Nat} {stored stalled : Bool} {errs : List HbmErr} (hs : Onward False False s₀ s) :
    OutOnward s₀ (execAcqChunk a k first stored stalled errs s) := by
  unfold Machine.execAcqChunk
  split
  · exact .next hs
  next i t h =>
    have ht := hs.acqItem h
    exact .ite (.ite (.next <| .missEvent ht (.acqChunk ht)) (.next <| .withSrc ht)) (.next ht)

theorem execAcqSegmentComplete {a : Nat} (hs : Onward False False s₀ s) : OutOnward s₀ (execAcqSegmentComplete a s) := by
  unfold Machine.execAcqSegmentComplete
  split
  · dsimp only
    refine .next ?_
    split
    · exact .acqDone <| .autoNext <| .ite
          (.raiseWithSeq <| .withAcq <| .ite (.bump <| .wr <| .bump <| .writeHeaders <| .makeParts hs)
              (.wr <| .bump <| .writeHeaders <| .makeParts hs))
          (.withAcq <| .ite (.bump <| .wr <| .bump <| .writeHeaders <| .makeParts hs)
              (.wr <| .bump <| .writeHeaders <| .makeParts hs))
    · exact .ite
        (.acqDone <| .autoNext <| .ite
            (.raiseWithSeq <| .withAcq <| .ite (.bump <| .wr <| .bump <| .writeHeaders <| .makeParts hs)
                (.wr <| .bump <| .writeHeaders <| .makeParts hs))
            (.withAcq <| .ite (.bump <| .wr <| .bump <| .writeHeaders <| .makeParts hs)
                (.wr <| .bump <| .writeHeaders <| .makeParts hs)))
        (.ite
          (.setAstate <| .autoNext <| .ite
              (.raiseWithSeq <| .withAcq <| .ite (.bump <| .wr <| .bump <| .writeHeaders <| .makeParts hs)
                  (.wr <| .bump <| .writeHeaders <| .makeParts hs))
              (.withAcq <| .ite (.bump <| .wr <| .bump <| .writeHeaders <| .makeParts hs)
                  (.wr <| .bump <| .writeHeaders <| .makeParts hs)))
          (.openSlot <| .autoNext <| .ite
              (.raiseWithSeq <| .withAcq <| .ite (.bump <| .wr <| .bump <| .writeHeaders <| .makeParts hs)
                  (.wr <| .bump <| .writeHeaders <| .makeParts hs))
              (.withAcq <| .ite (.bump <| .wr <| .bump <| .writeHeaders <| .makeParts hs)
                  (.wr <| .bump <| .writeHeaders <| .makeParts hs))))
  · exact .next hs

theorem execAcqReadoutRecord {a soft : Nat} {hard : List Nat} {errs : List HbmErr} (hs : Onward False False s₀ s) :
    OutOnward s₀ (execAcqReadoutRecord a soft hard errs s) := by
  unfold Machine.execAcqReadoutRecord
  split
  · exact .next hs
  · refine .ite (.next <| .nextSegment <| .bump hs) ?_
    split
    · exact .next <| .nextSegment hs
    · split
      exacts [.next <| .fragment hs, .next <| .nextSegment hs]

theorem execMaskTestDone {a : Nat} {errs : List HbmErr} (hs : Onward False False s₀ s) :
    OutOnward s₀ (execMaskTestDone a errs s) := by
  unfold Machine.execMaskTestDone
  split
  · exact .next hs
  next g tested r _ =>
    extract_lets s₁ k p
    have h₁ : Onward False False s₀ s₁ := .withAcq hs
    have hr : Onward False False s₀ (if tested then Machine.mtRun a p errs s₁ else ((0, 0, 0), false, s₁)).2.2 := by
      split
      exacts [.mtRun h₁, h₁]
    generalize (if tested then Machine.mtRun a p errs s₁ else ((0, 0, 0), false, s₁)) = run at hr ⊢
    obtain ⟨m, bad, s₂⟩ := run
    exact .ite (.next <| .ite (.acqStop <| .raiseAt <| .bump <| .acqOffer hr) (.raiseAt <| .bump <| .acqOffer hr))
      (.next <| .acqOffer hr)

theorem execDensSpectrum {d : Nat} (hs : Onward False False s₀ s) : OutOnward s₀ (execDensSpectrum d s) := by
  unfold Machine.execDensSpectrum
  split
  · exact .next hs
  · extract_lets +onlyGivenNames s₁
    have h₁ : Onward False False s₀ s₁ := .withDens hs
    exact .ite (.next <| .densSpectrum h₁) (.next h₁)

theorem execDensHistogramDone {d : Nat} (hs : Onward False False s₀ s) : OutOnward s₀ (execDensHistogramDone d s) := by
  unfold Machine.execDensHistogramDone
  split
  exacts [.next hs, .next <| .sweepPass <| .raiseRated <| .bump <| .bump <| .withDens hs]

theorem execDensSweepDone {d : Nat} (hs : Onward False False s₀ s) : OutOnward s₀ (execDensSweepDone d s) := by
  unfold Machine.execDensSweepDone
  extract_lets +onlyGivenNames _
  split
  · extract_lets +onlyGivenNames s₁
    have h₁ : Onward False False s₀ s₁ := .setB <| .withDens hs
    refine .next ?_
    split
    exacts [.endFrame h₁, h₁]
  · split
    · exact .next hs
    · split
      · exact .next hs
      · refine .ite (.next hs) ?_
        extract_lets +onlyGivenNames _ s₂ s₃
        have h₂ : Onward False False s₀ s₂ := .setB <| .withDens <| .sweepOut hs
        have h₃ : Onward False False s₀ s₃ := .ite (.raise h₂) h₂
        refine .next ?_
        split
        exacts [.endFrame h₃, h₃]

theorem execDispVblankStart (hs : Onward False False s₀ s) : OutOnward s₀ (execDispVblankStart s) := by
  unfold Machine.execDispVblankStart
  refine .ite ?_ (.next hs)
  extract_lets +onlyGivenNames s₁
  have h₁ : Onward False False s₀ s₁ := .dispInt hs
  split
  · exact .next h₁
  · refine .ite (.next h₁) ?_
    extract_lets +onlyGivenNames _ s₂
    have h₂ : Onward False False s₀ s₂ := .setF <| .withDisp h₁
    split
    exacts [.next <| .raise <| .bump <| .setB h₂, .next <| .withDisp h₂]

theorem execDispFrameEnd (hs : Onward False False s₀ s) : OutOnward s₀ (execDispFrameEnd s) := by
  unfold Machine.execDispFrameEnd
  refine .ite ?_ (.next hs)
  extract_lets +onlyGivenNames s₁
  have h₁ : Onward False False s₀ s₁ := .setB <| .withDisp hs
  refine .ite (.next <| .setLink <| .withDisp h₁) ?_
  split
  exacts [.next <| .modeApply h₁, .next h₁]

theorem execHpdRise (hs : Onward False False s₀ s) : OutOnward s₀ (execHpdRise s) := by
  unfold Machine.execHpdRise
  extract_lets +onlyGivenNames _ s₁
  have h₁ : Onward False False s₀ s₁ := .setB hs
  refine .ite ?_ (.next h₁)
  extract_lets +onlyGivenNames s₂
  have h₂ : Onward False False s₀ s₂ := .ite (.raise <| .dispInt h₁) h₁
  exact .next <| .ite (.trainStart h₂) h₂

theorem execHpdLow (hs : Onward False False s₀ s) : OutOnward s₀ (execHpdLow s) := by
  unfold Machine.execHpdLow
  extract_lets +onlyGivenNames _
  refine .ite ?_ (.next <| .setB hs)
  extract_lets +onlyGivenNames s₁
  have h₁ : Onward False False s₀ s₁ := .raise <| .dispInt <| .setLink <| .setB hs
  exact .next <| .ite (.withDisp h₁) h₁

theorem execTrainingDone {good : Bool} {phase lane : Nat} (hs : Onward False False s₀ s) :
    OutOnward s₀ (execTrainingDone good phase lane s) := by
  unfold Machine.execTrainingDone
  refine .ite ?_ (.next hs)
  extract_lets +onlyGivenNames s₁
  have h₁ : Onward False False s₀ s₁ := .withDisp <| .bump hs
  refine .ite ?_ (.next <| .raise <| .setLink h₁)
  extract_lets +onlyGivenNames _ s₂
  have h₂ : Onward False False s₀ s₂ := .raise <| .setLink h₁
  exact .next <| .ite (.dispInt h₂) h₂

theorem execTdcChannelStamp {c : Nat} {room : Bool} (hs : Onward False False s₀ s) :
    OutOnward s₀ (execTdcChannelStamp c room s) := by
  unfold Machine.execTdcChannelStamp
  split
  · exact .next hs
  · extract_lets +onlyGivenNames s₁
    have h₁ : Onward False False s₀ s₁ := .withChan hs
    refine .ite ?_ (.next h₁)
    extract_lets +onlyGivenNames _ _ s₂
    have h₂ : Onward False False s₀ s₂ := .ite (.markDead h₁) h₁
    split
    · extract_lets +onlyGivenNames s₃ s₄
      have h₃ : Onward False False s₀ s₃ := .expire h₂
      have h₄ : Onward False False s₀ s₄ := .ite (.takeStop h₃) h₃
      exact .next <| .ite (.takeStart h₄) h₄
    · exact .next <| .ite (.takeWindow h₂) h₂
    · exact .next <| .ite (.takeGate h₂) h₂

theorem execTdcGateEnd {c : Nat} {room : Bool} (hs : Onward False False s₀ s) :
    OutOnward s₀ (execTdcGateEnd c room s) := by
  unfold Machine.execTdcGateEnd
  split
  exacts [.ite (.next <| .gateEnd hs) (.next hs), .next hs]

theorem execDspInputItem {c n : Nat} (hs : Onward False False s₀ s) : OutOnward s₀ (execDspInputItem c n s) := by
  unfold Machine.execDspInputItem
  split
  · exact .next hs
  next i t h =>
    have ht := hs.takeDelivered h
    exact .ite (.next ht) (.ite (.next <| .dspEnter ht) (.next <| .ite hs (.refuseItem hs ht)))

theorem execDspInterruptEntry {c : Nat} (hs : Onward False False s₀ s) : OutOnward s₀ (execDspInterruptEntry c s) := by
  unfold Machine.execDspInterruptEntry
  extract_lets +onlyGivenNames _
  refine .ite ?_ (.next hs)
  split
  exacts [.next hs, .next <| .withDsp hs]

theorem execDmaStart {c ch ecc : Nat} (hs : Onward False False s₀ s) : OutOnward s₀ (execDmaStart c ch ecc s) := by
  unfold Machine.execDmaStart
  split
  exacts [.ite (.next <| .dspIssue hs) (.next hs), .next hs]

theorem execDmaAbort {c ch n ecc : Nat} (hs : Onward False False s₀ s) : OutOnward s₀ (execDmaAbort c ch n ecc s) := by
  unfold Machine.execDmaAbort
  split
  exacts [.ite (.next <| .dspIssue hs) (.next hs), .next hs]

theorem execDmaDone {c ch : Nat} {fail : Option Nat} {soft : Nat} {errs : List HbmErr} (hs : Onward False False s₀ s)
    : OutOnward s₀ (execDmaDone c ch fail soft errs s) := by
  unfold Machine.execDmaDone
  extract_lets +onlyGivenNames _
  refine .ite (.next hs) ?_
  extract_lets +onlyGivenNames s₁
  have h₁ : Onward False False s₀ s₁ := .foldl hs fun _ _ h => .faultTransient h
  split
  · exact .next <| .dmaError <| .iteFst h₁ (.dmaMove h₁)
  · split
    · exact .next <| .dmaError <| .hbmErr <| .dmaMove h₁
    · extract_lets +onlyGivenNames s₂
      have h₂ : Onward False False s₀ s₂.1 := .dmaMove h₁
      exact .next <| .ite (.dmaError h₂) (.dmaEnd h₂)

theorem execBusRead {c : Nat} (hs : Onward False False s₀ s) : OutOnward s₀ (execBusRead c s) := by
  unfold Machine.execBusRead
  split
  exacts [.next <| .withDsp <| .readReg hs, .next hs]

theorem execBusWrite {c ecc : Nat} {good : Bool} (hs : Onward False False s₀ s) :
    OutOnward s₀ (execBusWrite c ecc good s) := by
  unfold Machine.execBusWrite
  split
  exacts [.next <| .withDsp <| .busWrite hs, .next hs]

theorem execBusAccessDone {c : Nat} (hs : Onward False False s₀ s) : OutOnward s₀ (execBusAccessDone c s) := by
  unfold Machine.execBusAccessDone
  split
  exacts [.next <| .withDsp <| .sysPut <| .ite hs (.sysPut hs), .next hs]

theorem execCmpItem {n : Nat} {room : Bool} (hs : Onward False False s₀ s) : OutOnward s₀ (execCmpItem n room s) := by
  unfold Machine.execCmpItem
  refine .ite (.next hs) ?_
  split
  · exact .next hs
  next i t h =>
    have ht := hs.takeDelivered h
    exact .ite (.next <| .refuseItem hs ht) (.next <| .cmpTake ht)

theorem execCmpJobStart {n : Nat} (hs : Onward False False s₀ s) : OutOnward s₀ (execCmpJobStart n s) := by
  unfold Machine.execCmpJobStart
  extract_lets +onlyGivenNames _
  split
  · exact .next hs
  · refine .ite (.next hs) ?_
    extract_lets +onlyGivenNames s₁
    have h₁ : Onward False False s₀ s₁ := .withCmp hs
    split
    exacts [.next <| .jobResult h₁, .next <| .withCmp h₁]

theorem execCmpJobDone {n : Nat} {fail : Option Nat} {soft : Nat} {errs : List HbmErr} (hs : Onward False False s₀ s) :
    OutOnward s₀ (execCmpJobDone n fail soft errs s) := by
  unfold Machine.execCmpJobDone
  split
  · exact .next hs
  split
  · exact .next <| .jobResult <| .withCmp hs
  extract_lets s₁ x s₂ start fuel cap size dec r w run s₃ s₄ s₅
  have h₂ : Onward False False s₀ s₂ := .withCmp <| .jobRead <| .foldl hs fun _ _ h => .faultTransient h
  have h₃ : Onward False False s₀ s₃ := .foldl (.iteFst h₂ (.hbmWriteE h₂)) fun _ _ h => .cmpCounted h
  have h₄ : Onward False False s₀ s₄ := .ite (.faultLasting h₃) h₃
  exact .ite (.next hs) (.next <| .jobResult <| .ite h₄ (.jobScramble h₄))

theorem execHbmFreqDone (hs : Onward False False s₀ s) : OutOnward s₀ (execHbmFreqDone s) := by
  unfold Machine.execHbmFreqDone
  split
  · exact .next hs
  · exact .next <| .releaseWaiting <| .freqHeld <| .updFaultN <| .raise <| .setF <| .foldl
        (.setF <| .setB <| .withHbm <| .withSyn <| .foldl hs fun _ _ h => .ite (.setSstate h) h)
        fun _ _ h => .bumpEpoch h

theorem execHbmMemoryItem {slice stream : Nat} {errs : List HbmErr} {acts : List (Nat × Nat × Nat)}
    (hs : Onward False False s₀ s) : OutOnward s₀ (execHbmMemoryItem slice stream errs acts s) := by
  unfold Machine.execHbmMemoryItem
  split
  · exact .next hs
  next i t h =>
    have ht := hs.takeDelivered h
    exact .ite (.next <| .withHbm ht) (.next <| .memoryItem <| .foldl ht fun _ _ h => .activate h)

theorem execHbmTempRead {k : Nat} {t : Int} (hs : Onward False False s₀ s) : OutOnward s₀ (execHbmTempRead k t s) := by
  unfold Machine.execHbmTempRead
  refine .ite (.next hs) ?_
  extract_lets +onlyGivenNames _ _ _ s₁
  have h₁ : Onward False False s₀ s₁ := .withHbm <| .setF <| .setF hs
  exact .next <| .ite h₁ (.raise h₁)

theorem execHbmRefreshDue {p : Nat} {placed : List Nat} (hs : Onward False False s₀ s) :
    OutOnward s₀ (execHbmRefreshDue p placed s) := by
  unfold Machine.execHbmRefreshDue
  extract_lets +onlyGivenNames _
  refine .ite ?_ (.next hs)
  extract_lets +onlyGivenNames _ s₁
  have h₁ : Onward False False s₀ s₁ := .foldl (.wakePcs hs) fun _ _ h => .setDebt h
  exact .ite (.next <| .raiseRated <| .bump <| .foldl h₁ fun _ _ h => .setDebt h) (.next h₁)

theorem execHostLinkChange {up : Bool} {rate width : Nat} {flit : Bool} {mps : Nat} {masters vfs : List Nat}
    (hs : Onward False False s₀ s) : OutOnward s₀ (execHostLinkChange up rate width flit mps masters vfs s) := by
  unfold Machine.execHostLinkChange
  extract_lets host s₁ v old s₂ s₃
  have h₂ : Onward False False s₀ s₂ := .calWatch <| .wr <| .host hs
  have h₃ : Onward False False s₀ s₃ := .ite h₂ (.raise h₂)
  exact .ite (.next <| .foldl h₃ fun _ _ h => .flumeError h) (.next h₃)

theorem execWindowAccess {fn : Nat} {write : Bool} {b n : Nat} {data : List Byte} {errs : List HbmErr}
    (hs : Onward False False s₀ s) : OutOnward s₀ (execWindowAccess fn write b n data errs s) := by
  unfold Machine.execWindowAccess
  extract_lets +onlyGivenNames _
  refine .ite (.next hs) ?_
  split
  · extract_lets +onlyGivenNames s₁
    have h₁ : Onward False False s₀ s₁ := .windowFail hs
    exact .next <| .ite h₁ (.rdata h₁)
  · refine .ite (.next hs) ?_
    refine .ite (.next <| .hbmWriteE hs) ?_
    extract_lets +onlyGivenNames s₂
    have h₂ : Onward False False s₀ s₂.2.2 := .hbmReadE hs
    exact .ite (.next <| .windowFail <| .rdata h₂) (.next <| .rdata h₂)

theorem execHostItem {h k : Nat} (hs : Onward False False s₀ s) : OutOnward s₀ (execHostItem h k s) := by
  unfold Machine.execHostItem
  split
  · exact .next hs
  next i t h =>
    have ht := hs.takeDelivered h
    exact .next <| .ite (.steerItem ht) (.refuseItem hs ht)

theorem execFreeEntryFetched {f addr len : Nat} {cookie : BitVec 32} (hs : Onward False False s₀ s) :
    OutOnward s₀ (execFreeEntryFetched f addr len cookie s) :=
  .ite (.ite (.next <| .postCpl <| .bump <| .setF hs) (.next <| .setFlume <| .setF hs)) (.next hs)

theorem execRecordWrite {f : Nat} {good1 good2 wrote : Bool} (hs : Onward False False s₀ s) :
    OutOnward s₀ (execRecordWrite f good1 good2 wrote s) := by
  unfold Machine.execRecordWrite
  refine .ite ?_ (.next hs)
  split
  · refine .ite (.next hs) ?_
    refine .ite (.ite (.next <| .closeIfDone <| .dropAdmitted hs) (.next <| .closeBuf hs)) ?_
    extract_lets +onlyGivenNames s₁
    have h₁ : Onward False False s₀ s₁ := .exitCheck hs
    split
    exacts [.next h₁, .ite (.next <| .placeRec h₁) (.next <| .setFlume h₁)]
  · exact .next hs

theorem execHostWriteRetry {f : Nat} {wrote : Bool} (hs : Onward False False s₀ s) :
    OutOnward s₀ (execHostWriteRetry f wrote s) := by
  unfold Machine.execHostWriteRetry
  split
  · exact .ite (.next <| .raiseRated <| .bump <| .faultTransient <| .placeRec hs)
      (.next <| .faultLastingAt <| .flumeError <| .bump <| .dropAdmitted hs)
  · exact .next hs

theorem execBufferFlushTimer {f : Nat} (hs : Onward False False s₀ s) : OutOnward s₀ (execBufferFlushTimer f s) := by
  unfold Machine.execBufferFlushTimer
  split
  exacts [.ite (.next hs) (.next <| .closeBuf hs), .next hs]

theorem execCloseTimeout {f : Nat} (hs : Onward False False s₀ s) : OutOnward s₀ (execCloseTimeout f s) :=
  .ite (.next <| .retryWaiting <| .setFstate <| .showFlume <| .closeBuf <| .bump <| .setFlume hs) (.next hs)

theorem execMcRequest {m : Nat} (hs : Onward False False s₀ s) : OutOnward s₀ (execMcRequest m s) := by
  unfold Machine.execMcRequest
  refine .ite ?_ (.next hs)
  split
  exacts [.next hs, .ite (.ite (.next <| .cvPop hs) (.next <| .cvSend <| .setBank <| .free <| .cvPop hs)) (.next hs)]

theorem execCalRetrimDone {words : List Word} (hs : Onward False False s₀ s) :
    OutOnward s₀ (execCalRetrimDone words s) := by
  unfold Machine.execCalRetrimDone
  split
  exacts [.next hs, .ite (.next <| .retrimEnd <| .calSwap hs) (.next <| .retrimEnd hs)]

theorem execCalRetrimTimeout (hs : Onward False False s₀ s) : OutOnward s₀ (execCalRetrimTimeout s) := by
  unfold Machine.execCalRetrimTimeout
  split
  exacts [.next hs, .next <| .retrimEnd hs]

theorem execAuxConvWrite {ag : AgentId} {scan : Bool} {v : BitVec 32} (hs : Onward False False s₀ s) :
    OutOnward s₀ (execAuxConvWrite ag scan v s) :=
  .ite (.next <| .guardW hs fun _ h => .auxScanEff h) (.next <| .guardW hs fun _ h => .auxConvEff h)

theorem execAuxConversionDone {v : Int} (hs : Onward False False s₀ s) : OutOnward s₀ (execAuxConversionDone v s) := by
  unfold Machine.execAuxConversionDone
  split
  · exact .next hs
  next k _ =>
    extract_lets code clamped uns
    have hr : Onward False False s₀ (stampFrom 0x230 (auxCentre s k) (auxMarkAt s k).2.2 s).2 := .time hs
    generalize stampFrom 0x230 (auxCentre s k) (auxMarkAt s k).2.2 s = r at hr ⊢
    obtain ⟨t, s₁⟩ := r
    dsimp -zeta only at hr ⊢
    extract_lets s₂ s₃ s₄ e s₅ s₆ s₇ s₈
    have h₄ : Onward False False s₀ s₄ := .wr <| .withAux <| .wr hr
    have h₅ : Onward False False s₀ s₅ := .ite (.auxToSram h₄) h₄
    have h₆ : Onward False False s₀ s₆ := .ite (.auxToStream h₅) h₅
    have h₇ : Onward False False s₀ s₇ := .ite (.auxCompare h₆) h₆
    exact .next <| .auxBoundary <| .ite (.auxClose h₇) h₇

theorem execRefSettleExpiry (hs : Onward False False s₀ s) : OutOnward s₀ (execRefSettleExpiry s) := by
  unfold Machine.execRefSettleExpiry
  split
  exacts [.next hs, .next hs, .ite (.next hs) (.next <| .setB hs)]

theorem execRefxRangeChange {out : Bool} (hs : Onward False False s₀ s) : OutOnward s₀ (execRefxRangeChange out s) := by
  unfold Machine.execRefxRangeChange
  refine .ite (.next hs) ?_
  extract_lets +onlyGivenNames s₁
  have h₁ : Onward False False s₀ s₁ := .raise <| .setB hs
  exact .next <| .ite (.auxUnsettle h₁) h₁

theorem execPwrWake {e : Nat} (hs : Onward False False s₀ s) : OutOnward s₀ (execPwrWake e s) := by
  unfold Machine.execPwrWake
  split
  exacts [.next hs, .ite (.next hs) (.ite (.ite (.next hs) (.next <| .plan hs)) (.next <| .wakeRun hs))]

theorem execRunDurationEnd {e : Nat} (hs : Onward False False s₀ s) : OutOnward s₀ (execRunDurationEnd e s) := by
  unfold Machine.execRunDurationEnd
  split
  exacts [.next hs, .ite (.next hs) (.next <| .runDrain hs)]

theorem execAutoSleepAttempt (hs : Onward False False s₀ s) : OutOnward s₀ (execAutoSleepAttempt s) := by
  unfold Machine.execAutoSleepAttempt
  split
  · exact .next hs
  · refine .ite (.next hs) ?_
    extract_lets +onlyGivenNames _
    split
    exacts [.ite (.next <| .sleepRefused hs) (.next hs), .ite (.next <| .sleepNow hs) (.next hs)]

theorem execThermalSample {dies : List Int} (hs : Onward False False s₀ s) : OutOnward s₀ (execThermalSample dies s) := by
  unfold Machine.execThermalSample
  extract_lets t pwr s₁ s₂ hot us pwr' s₃ s₄
  have h₂ : Onward False False s₀ s₂ := .setF <| .pwr hs
  have h₄ : Onward False False s₀ s₄ := .ite (.bump <| .pwr h₂) (.pwr h₂)
  refine .ite (.next hs) ?_
  split
  · exact .next <| .thermalOff h₂
  split
  · exact .ite (.next h₄) (.next <| .updFaultN <| .raise <| .bump <| .setF h₄)
  · exact .ite (.next <| .updFaultN <| .raise <| .setF <| .free h₄) (.next h₄)

theorem execDispLineStart {level : Nat} {errs : List HbmErr} (hs : Onward False False s₀ s) :
    OutOnward s₀ (execDispLineStart level errs s) := by
  unfold Machine.execDispLineStart
  extract_lets +onlyGivenNames _
  refine .ite ?_ (.next hs)
  extract_lets +onlyGivenNames s₁ _ s₂ s₃
  have h₁ : Onward False False s₀ s₁ := .setF <| .setF hs
  have h₂ : Onward False False s₀ s₂ := .withDisp <| .ite (.ite (.withDisp h₁) (.wr h₁)) h₁
  have h₃ : Onward False False s₀ s₃ := .ite (.dispInt h₂) h₂
  refine .ite (.next <| .withDisp h₃) ?_
  extract_lets +onlyGivenNames _ s₄ _ _ _ s₅
  have h₄ : Onward False False s₀ s₄.2.2 := by
    unfold s₄
    split
    exacts [.fetchLine h₃, h₃]
  have h₅ : Onward False False s₀ s₅ := .withDisp h₄
  exact .next <| .ite (.underrun h₅) h₅

theorem execRouteCreditRecovered {id : Nat} {room : List Bool} {ecc : Nat} (hs : Onward False False s₀ s) :
    OutOnward s₀ (execRouteCreditRecovered id room ecc s) := by
  unfold Machine.execRouteCreditRecovered
  split
  · exact .next hs
  · split
    · exact .next hs
    · split
      exacts [.next hs, .next <| .fabricPass hs]

end OutOnward

/-- Every command but the three that KeepsHistory leaves out goes onward. -/
theorem exec_onward (c : Instr) (s : State) (h : KeepsHistory c = true) : OutOnward s (exec c s) := by
  have hs : Onward False False s s := .refl s
  cases c <;> dsimp only [exec]
  case registerWrite => exact .next <| .busWrite hs
  case rcRegisterRead => exact .next <| .readOut hs
  case latchedRegisterRead => exact .next <| .readOut hs
  case resetNRelease => exact .ite (.next hs) (.next <| .updFaultN <| .boot <| .setF hs)
  case perstNAssert => exact .ite (.next hs) (.next <| .ite (.pcieReset <| .boot hs) (.boot hs))
  case pcieHotReset => exact .ite (.next <| .pcieReset hs) (.next hs)
  case functionLevelReset => exact .ite (.next hs) (.ite (.next <| .foldl hs fun _ _ h => .flrOne h) (.next <| .flrOne hs))
  case trstNAssert => exact .next <| .boot hs
  case smbusClockTimeout => exact .next <| .mgt <| .setF hs
  case fusePhaseDone => exact .execFusePhaseDone hs
  case bootStalled => exact .ite (.next <| .updFaultN <| .setBootPhase hs) (.next hs)
  case mcFirmwareLoaded => exact .execMcFirmwareLoaded hs
  case warmRestart => exact .next <| .guardW hs fun _ h => .resetCmdEff h
  case unitStart => exact .next <| .unitCmdW hs
  case unitDrain => exact .next <| .unitCmdW hs
  case unitStop => exact .next <| .unitCmdW hs
  case unitAbort => exact .next <| .unitCmdW hs
  case unitRestart => exact .next <| .unitCmdW hs
  case unitThaw => exact .next <| .unitCmdW hs
  case drainComplete => exact .execDrainComplete hs
  case drainTimeout => exact .execDrainTimeout hs
  case gateDelayExpiry => exact .ite (.next <| .settle <| .bump <| .toGated hs) (.next hs)
  case stateSkew => exact .execStateSkew hs
  case rateLimitExpiry => exact .execRateLimitExpiry hs
  case fabricItem => exact .execFabricItem hs
  case loadHost => exact .next <| .planCmdW hs
  case loadFlash => exact .next <| .planCmdW hs
  case planAbort => exact .next <| .planCmdW hs
  case planFetchDone => exact .execPlanFetchDone hs
  case planSwap => exact .execPlanSwap hs
  case planConfigureDone => exact .execPlanConfigureDone hs
  case ocxoLost => exact .execOcxoLost hs
  case ocxoReturned => exact .execOcxoReturned hs
  case ocxoReadyChange => exact .next <| .warmChanged <| .withTime hs
  case warmTimerExpiry => exact .next <| .warmChanged <| .withTime hs
  case driftGateEnd => exact .ite (.next <| .warmChanged <| .wr <| .withTime hs) (.next hs)
  case refInEdge => exact .ite (.next hs) (.next <| .servoEdge <| .wr <| .withTime hs)
  case refLost => exact .next <| .refLost hs
  case refQualified => exact .execRefQualified hs
  case step => exact .next <| .timeCmdWrite hs
  case slew => exact .next <| .timeCmdWrite hs
  case set => exact .next <| .timeCmdWrite hs
  case setApplied => exact .next <| .setApplied hs
  case syncLoad => exact .next <| .timeCmdWrite hs
  case syncCheck => exact .next <| .timeCmdWrite hs
  case syncFrame => exact .execSyncFrame hs
  case syncLoadPoint => exact .execSyncLoadPoint hs
  case synLockAcquired => exact .ite (.next <| .synGo <| .ite (.phaseClockEnd <| .synUp hs) (.synUp hs)) (.next hs)
  case synLockLost => exact .next <| .surveySettle <| .synLost hs
  case synRelocked => exact .ite (.next <| .synGo <| .ite (.synUp hs) (.raise <| .synUp hs)) (.next hs)
  case synPhaseWrite => exact .next <| .guardW hs fun _ h => .synPhaseEff h
  case synPhaseStep => exact .execSynPhaseStep hs
  case sysrefFire => exact .next <| .guardW hs fun _ h => .sysrefWriteEff h
  case laneCdrLocked => exact .execLaneCdrLocked hs
  case laneCodeSync => exact .execLaneCodeSync hs
  case ilasMultiframe => exact .execIlasMultiframe hs
  case sysrefEdge => exact .execSysrefEdge hs
  case alignSysrefTimeout => exact .ite (.next <| .linkError hs) (.next hs)
  case groupAlignTimeout => exact .execGroupAlignTimeout hs
  case errorAutoRestart => exact .ite (.next <| .linkToCdr hs) (.next hs)
  case realign => exact .next <| .guardW hs fun _ h => .linkCmdEff h
  case ingClearCounts => exact .next <| .guardW hs fun _ h => .linkCmdEff h
  case laneCdrUnlock => exact .ite (.next <| .linkError <| .setF hs) (.next hs)
  case syncHeaderInvalid => exact .execSyncHeaderInvalid hs
  case codeGroupSyncLost => exact .ite (.next <| .linkError <| .setB hs) (.next hs)
  case linkCrcMismatch => exact .ite (.next <| .raiseRated <| .withLink <| .bump hs) (.next hs)
  case alignLost => exact .next <| .linkError hs
  case parcelFormed => exact .ite (.next <| .foldl hs fun _ _ h => .linkInput h) (.next hs)
  case adcDelayWrite => exact .next <| .guardW hs fun _ h => .adcDelayEff h
  case tunerInputParcel => exact .execTunerInputParcel hs
  case tunCommitNextBlock => exact .next <| .tunCommitW hs
  case tunCommitAtTime => exact .next <| .tunCommitW hs
  case tunCommitCancel => exact .next <| .tunCommitW hs
  case tunCommitApply => exact .ite (.next <| .tunJudge hs) (.next hs)
  case chzInput => exact .execChzInput hs
  case chzCoefDataWrite => exact .next <| .guardW hs fun _ h => .chzCoefEff h
  case firCoefWrite => exact .next <| .guardW hs fun _ h => .firCoefEff h
  case specInput => exact .execSpecInput hs
  case spectrumComputed => exact .execSpectrumComputed hs
  case specCommitNextFrame => exact .next <| .specCommitW hs
  case specCommitAtTime => exact .next <| .specCommitW hs
  case specCommitCancel => exact .next <| .specCommitW hs
  case traceRestart => exact .next <| .specCommitW hs
  case specCommitApply => exact .execSpecCommitApply hs
  case windowGenerationDone => exact .execWindowGenerationDone hs
  case winDataWrite => exact .next <| .guardW hs fun _ h => .winDataEff h
  case tdSample => exact .execTdSample hs
  case fmSpectrum => exact .execFmSpectrum hs
  case densityRows => exact .execDensityRows hs
  case evtInEdge => exact .execEvtInEdge hs
  case trigSwPulse => exact .next <| .guardW hs fun _ h => .swPulseEff h
  case trigSwLevelWrite => exact .next <| .guardW hs fun _ h => .swLevelEff h
  case weirOccurrence => exact .execWeirOccurrence hs
  case delayLineOutput => exact .next <| .lineOut hs
  case seqWindowExpiry => exact .next <| .ite (.setB hs) hs
  case holdoffExpiry => exact .next <| .ite (.setB hs) hs
  case weirArm => exact .next <| .weirCmdW hs
  case weirDisarm => exact .next <| .weirCmdW hs
  case weirReset => exact .next <| .weirCmdW hs
  case trigCommitNext => exact .next <| .trigCommitW hs
  case trigCommitCancel => exact .next <| .trigCommitW hs
  case maskSwap => exact .next <| .trigCommitW hs
  case clearHistory => exact .next <| .trigCommitW hs
  case trigCommitApply => exact .execTrigCommitApply hs
  case maskDataWrite => exact .next <| .guardW hs fun _ h => .maskDataEff h
  case trigOutPulseEnd => exact .ite (.next <| .tree hs) (.next hs)
  case trigOutClr => exact .next <| .guardW hs fun _ h => .trigOutClrEff h
  case acqStart => exact .next <| .acqCmdW hs
  case acqStop => exact .next <| .acqCmdW hs
  case acqAbort => exact .next <| .acqCmdW hs
  case acqRead => exact .next <| .acqCmdW hs
  case acqReadAbort => exact .next <| .acqCmdW hs
  case flushList => exact .next <| .acqCmdW hs
  case acqFire => exact .execAcqFire hs
  case acqChunk => exact .execAcqChunk hs
  case acqSegmentComplete => exact .execAcqSegmentComplete hs
  case acqListTimeout => exact .next <| .listRecord hs
  case acqReadoutRecord => exact .execAcqReadoutRecord hs
  case maskTestDone => exact .execMaskTestDone hs
  case acqMtDataWrite => exact .next <| .guardW hs fun _ h => .mtDataEff h
  case densSpectrum => exact .execDensSpectrum hs
  case densHistogramDone => exact .execDensHistogramDone hs
  case densSweepDone => exact .execDensSweepDone hs
  case densCommitNextFrame => exact .next <| .densCommitW hs
  case densCommitCancel => exact .next <| .densCommitW hs
  case densClear => exact .next <| .densCommitW hs
  case densSnapshot => exact .next <| .densCommitW hs
  case cmapSwap => exact .next <| .densCommitW hs
  case dispVblankStart => exact .execDispVblankStart hs
  case dispFrameEnd => exact .execDispFrameEnd hs
  case dispFrameDone => exact .ite (.next <| .dispInt hs) (.next hs)
  case dispUnderrun => exact .ite (.next <| .underrun <| .withDisp hs) (.next hs)
  case fbCommit => exact .next <| .guardW hs fun _ h => .fbCommitEff h
  case fbCancel => exact .next <| .guardW hs fun _ h => .fbCommitEff h
  case modeCommit => exact .next <| .modeCommitW hs
  case modeCancel => exact .next <| .modeCommitW hs
  case dispTrain => exact .next <| .modeCommitW hs
  case hpdRise => exact .execHpdRise hs
  case hpdLow => exact .execHpdLow hs
  case sinkInterrupt => exact .ite (.next <| .raise <| .bump <| .dispInt hs) (.next hs)
  case trainingDone => exact .execTrainingDone hs
  case auxRequest => exact .next <| .guardW hs fun _ h => .auxCmdEffD h
  case auxDone => exact .ite (.next <| .dispInt <| .foldl (.setB <| .setF hs) fun _ _ h => .wr h) (.next hs)
  case tdcMeasEnable => exact .next <| .guardW hs fun _ h => .measCmdEff h
  case tdcMeasDisable => exact .next <| .guardW hs fun _ h => .measCmdEff h
  case tdcChannelStamp => exact .execTdcChannelStamp hs
  case tdcTimeout => exact .ite (.next <| .expire hs) (.next hs)
  case tdcWMissing => exact .ite (.next <| .missing hs) (.next hs)
  case tdcGateEnd => exact .execTdcGateEnd hs
  case tdcBlockFlush => exact .ite (.next <| .tdcClose <| .tdcPump hs) (.next <| .ivClose hs)
  case dspInputItem => exact .execDspInputItem hs
  case dspInterruptEntry => exact .execDspInterruptEntry hs
  case dspTimerExpiry => exact .ite (.next hs) (.next <| .dspPend <| .withDsp hs)
  case dspCoreHostMsg => exact .next <| .guardW hs fun _ h => .hostMsgEff h
  case dspClStart => exact .next <| .guardW hs fun _ h => .clStartEff h
  case breakpointReached => exact .ite (.next <| .raise <| .withDsp hs) (.next hs)
  case breakStep => exact .next <| .guardW hs fun _ h => .breakEff h
  case breakResume => exact .next <| .guardW hs fun _ h => .breakEff h
  case dmaStart => exact .execDmaStart hs
  case dmaAbort => exact .execDmaAbort hs
  case dmaDone => exact .execDmaDone hs
  case busRead => exact .execBusRead hs
  case busWrite => exact .execBusWrite hs
  case busAccessDone => exact .execBusAccessDone hs
  case reservedEncoding => exact .ite (.next <| .dspFault hs) (.next hs)
  case dspNop => exact .next <| .dspIssue hs
  case dspHalt => exact .next <| .dspIssue hs
  case dspRet => exact .next <| .dspIssue hs
  case dspReti => exact .next <| .dspIssue hs
  case dspLeave => exact .next <| .dspIssue hs
  case dspWait => exact .next <| .dspIssue hs
  case dspTflg => exact .next <| .dspIssue hs
  case dspBri => exact .next <| .dspIssue hs
  case dspBr => exact .next <| .dspIssue hs
  case dspCall => exact .next <| .dspIssue hs
  case dspLoop => exact .next <| .dspIssue hs
  case dspRep => exact .next <| .dspIssue hs
  case dspLdi => exact .next <| .dspIssue hs
  case dspAdd => exact .next <| .dspIssue hs
  case dspSub => exact .next <| .dspIssue hs
  case dspAdds => exact .next <| .dspIssue hs
  case dspSubs => exact .next <| .dspIssue hs
  case dspAnd => exact .next <| .dspIssue hs
  case dspOr => exact .next <| .dspIssue hs
  case dspXor => exact .next <| .dspIssue hs
  case dspNot => exact .next <| .dspIssue hs
  case dspNeg => exact .next <| .dspIssue hs
  case dspAbs => exact .next <| .dspIssue hs
  case dspCmp => exact .next <| .dspIssue hs
  case dspAsl => exact .next <| .dspIssue hs
  case dspAsr => exact .next <| .dspIssue hs
  case dspLsr => exact .next <| .dspIssue hs
  case dspMin => exact .next <| .dspIssue hs
  case dspMax => exact .next <| .dspIssue hs
  case dspAdd2 => exact .next <| .dspIssue hs
  case dspSub2 => exact .next <| .dspIssue hs
  case dspAdd2h => exact .next <| .dspIssue hs
  case dspSub2h => exact .next <| .dspIssue hs
  case dspAddi => exact .next <| .dspIssue hs
  case dspCmpi => exact .next <| .dspIssue hs
  case dspBfly => exact .next <| .dspIssue hs
  case dspBflyh => exact .next <| .dspIssue hs
  case dspClr => exact .next <| .dspIssue hs
  case dspAdda => exact .next <| .dspIssue hs
  case dspSuba => exact .next <| .dspIssue hs
  case dspTfra => exact .next <| .dspIssue hs
  case dspNega => exact .next <| .dspIssue hs
  case dspAbsa => exact .next <| .dspIssue hs
  case dspAsla => exact .next <| .dspIssue hs
  case dspAsra => exact .next <| .dspIssue hs
  case dspAddd => exact .next <| .dspIssue hs
  case dspSubd => exact .next <| .dspIssue hs
  case dspSata => exact .next <| .dspIssue hs
  case dspCmpa => exact .next <| .dspIssue hs
  case dspMpyi => exact .next <| .dspIssue hs
  case dspMaci => exact .next <| .dspIssue hs
  case dspMac => exact .next <| .dspIssue hs
  case dspMsu => exact .next <| .dspIssue hs
  case dspMpy => exact .next <| .dspIssue hs
  case dspMove => exact .next <| .dspIssue hs
  case dspQmac => exact .next <| .dspIssue hs
  case dspQmsu => exact .next <| .dspIssue hs
  case dspQmpy => exact .next <| .dspIssue hs
  case dspCmac => exact .next <| .dspIssue hs
  case dspCmsu => exact .next <| .dspIssue hs
  case dspCmpy => exact .next <| .dspIssue hs
  case dspCmacj => exact .next <| .dspIssue hs
  case dspCmpyj => exact .next <| .dspIssue hs
  case dspTap => exact .next <| .dspIssue hs
  case dspLd => exact .next <| .dspIssue hs
  case dspSt => exact .next <| .dspIssue hs
  case dspMov => exact .next <| .dspIssue hs
  case dspWrs => exact .next <| .dspIssue hs
  case dspRds => exact .next <| .dspIssue hs
  case dspPack => exact .next <| .dspIssue hs
  case dspMov16 => exact .next <| .dspIssue hs
  case dspIn => exact .next <| .dspIssue hs
  case dspOut => exact .next <| .dspIssue hs
  case dspClose => exact .next <| .dspIssue hs
  case dspSkipi => exact .next <| .dspIssue hs
  case cmpItem => exact .execCmpItem hs
  case cmpFlushTimer => exact .ite (.next <| .cmpClose hs) (.next hs)
  case cmpStreamCfgWrite => exact .next <| .guardW hs fun _ h => .streamCfgEff h
  case submit => exact .next <| .jobCmdWrite hs
  case cmpJobAbort => exact .next <| .jobCmdWrite hs
  case cmpJobFlush => exact .next <| .jobCmdWrite hs
  case cmpJobStart => exact .execCmpJobStart hs
  case cmpJobDone => exact .execCmpJobDone hs
  case cmpJobResultRead => exact .ite (.next <| .rdata hs) (.next <| .rdata <| .jobResultRead hs)
  case hbmTrained => exact .next <| .phaseMemoryEnd <| .hbmTrained hs
  case hbmFreqReq => exact .next <| .guardW hs fun _ h => .hbmFreqEff h
  case hbmFreqDone => exact .execHbmFreqDone hs
  case hbmMemoryItem => exact .execHbmMemoryItem hs
  case hbmStackThaw => exact .next <| .guardW hs fun _ h => .stackCmdEff h
  case hbmTempRead => exact .execHbmTempRead hs
  case hbmRefreshDue => exact .execHbmRefreshDue hs
  case refreshWindowEnd => exact .next <| .withHbm hs
  case pcIdleTimeout => exact .ite (.next <| .setB <| .wr hs) (.next hs)
  case rdCfgWrite => exact .next <| .guardW hs fun _ h => .fst <| .wrMask h
  case hostLinkChange => exact .execHostLinkChange hs
  case windowAccess => exact .execWindowAccess hs
  case hostItem => exact .execHostItem hs
  case freeTailWrite => exact .next <| .guardW hs fun _ h => .freeTailEff h
  case freeEntryFetched => exact .execFreeEntryFetched hs
  case recordWrite => exact .execRecordWrite hs
  case hostWriteRetry => exact .execHostWriteRetry hs
  case bufferFlushTimer => exact .execBufferFlushTimer hs
  case irqTimer => exact .next <| .ite (.flumeIrq hs) hs
  case cplHeadWrite => exact .next <| .guardW hs fun _ h => .cplHeadEff h
  case flumeOpen => exact .next <| .flumeCmdWrite hs
  case flumeClose => exact .next <| .flumeCmdWrite hs
  case flumeReset => exact .next <| .flumeCmdWrite hs
  case flumeFlush => exact .next <| .flumeCmdWrite hs
  case closeTimeout => exact .execCloseTimeout hs
  case cvSend => exact .next <| .guardW hs fun _ h => .fst <| .cvSend h
  case cvRxpop => exact .next <| .guardW hs fun _ h => .rxpopEff h
  case cvTxstatRead => exact .next <| .rdata <| .txstat hs
  case cvReceiverWrite => exact .next <| .guardW hs fun _ h => .cvCfgEff h
  case dbRing => exact .next <| .guardW hs fun _ h => .fst <| .dbRing h
  case dbClear => exact .next <| .guardW hs fun _ h => .fst <| .dbClear h
  case headgateRead => exact .next <| .rdata <| .gateRead hs
  case headgateRelease => exact .next <| .guardW hs fun _ h => .gateWriteEff h
  case headgateForce => exact .next <| .guardW hs fun _ h => .gateForceEff h
  case mcWatchdog => exact .ite (.next <| .receiverReset <| .setMc hs) (.next hs)
  case mcRestart => exact .next <| .guardW hs fun _ h => .fst <| .mcRestart h
  case mcRequest => exact .execMcRequest hs
  case smbSetAddr => exact .ite (.next hs) (.ite (.next <| .mgt hs) (.next <| .smbPecErr hs))
  case smbRead => exact .ite (.next <| .smbStep <| .readOut hs) (.next hs)
  case smbWrite => exact .ite (.next hs) (.ite (.next <| .smbPecErr hs) (.next <| .smbStep <| .busWrite hs))
  case smbStatus => exact .next <| .rdata hs
  case auditRecordTimer => exact .next <| .ite (.auditRecord hs) hs
  case auditQueueRoom => exact .next <| .auditCatchUp hs
  case calRetrim => exact .next <| .calCmdWrite hs
  case calApply => exact .next <| .calCmdWrite hs
  case calReload => exact .next <| .calCmdWrite hs
  case calAbort => exact .next <| .calCmdWrite hs
  case calRetrimDone => exact .execCalRetrimDone hs
  case calRetrimTimeout => exact .execCalRetrimTimeout hs
  case auxConvert => exact .next <| .auxCmdWrite hs
  case auxBlockFlush => exact .next <| .auxCmdWrite hs
  case auxClearCounts => exact .next <| .auxCmdWrite hs
  case auxConvWrite => exact .execAuxConvWrite hs
  case auxConversionDone => exact .execAuxConversionDone hs
  case refSettleExpiry => exact .execRefSettleExpiry hs
  case refxRangeChange => exact .execRefxRangeChange hs
  case auxBlockTimer => exact .ite (.next <| .auxClose hs) (.next hs)
  case auxRdWrite => exact .next <| .guardW hs fun _ h => .auxRdEff h
  case pwrWake => exact .execPwrWake hs
  case runDurationEnd => exact .execRunDurationEnd hs
  case sleep => exact .next <| .guardW hs fun _ h => .pwrCmdEff h
  case autoSleepAttempt => exact .execAutoSleepAttempt hs
  case thermalSample => exact .execThermalSample hs
  case aonResetNRelease => exact .next <| .updFaultN <| .boot hs
  case perstNRelease => exact .next <| .boot hs
  case virtualFunctionDisable => exact .next <| .vfDisable hs
  case dispLineStart => exact .execDispLineStart hs
  case routeCreditRecovered => exact .execRouteCreditRecovered hs
  case resetNAssert => cases h
  case aonResetNAssert => cases h
  case aonWake => cases h

/-- Settles O10: every command but those that KeepsHistory leaves out goes onward, and the history is part of that. -/
theorem eventsOnlyGrow : Obligations.EventsOnlyGrow := by
  intro c s t hc hexec
  obtain ⟨⟨new, hnew⟩, -⟩ := exec_onward c s hc t hexec
  exact ⟨new, hnew.symm⟩

end Sys2Proof.Machine
end

section
/-! SUPPORT. The UNIT_CTRL commands: what follows an accepted command (the survey runs that settle, its audit entry) leaves the
unit headers alone, and what a unit discards or drains leaves the survey runs alone (01 R38, 20 R626). -/

namespace Sys2Proof.Machine

theorem foldl_keeps {α β : Type} (g : State → α) {f : State → β → State} (hf : ∀ s b, g (f s b) = g s) (l : List β)
    (s : State) : g (l.foldl f s) = g s := by
  induction l generalizing s with
  | nil => rfl
  | cons b r ih => rw [List.foldl_cons, ih, hf]

/-! Reports and what comes after them. -/

theorem Reported.onward {P Q : Prop} {ro : List Nat} {s t : State} (h : Reported ro s t) : Onward P Q s t := by
  obtain ⟨new, hnew⟩ := h.events
  exact ⟨⟨new, hnew.symm⟩, h.pending, fun _ => by rw [h.plan], fun _ => h.pwr⟩

theorem Raised.onward {P Q : Prop} {s t u : State} {code n : Nat} (h : Raised s t code n) (k : Onward P Q t u) :
    Raised s u code n := by
  obtain ⟨new, hnew, e, he, hc⟩ := h
  obtain ⟨more, hmore⟩ := k.1
  exact ⟨more ++ new, by rw [← hmore, hnew, List.append_assoc], e, List.mem_append_right _ he, hc⟩

/-! What leaves the unit headers alone. -/

theorem synFollow_units (s : State) : (synFollow s).units = s.units := by
  refine foldl_keeps State.units (fun s n => ?_) _ s
  dsimp only
  repeat' split
  all_goals rfl

theorem weirPush_units (a : Arrival) (s : State) : (weirPush a s).units = s.units := by
  unfold weirPush
  split <;> rfl

theorem srcChange_units (src cycle : Nat) (old new : Bool) (occ : Option Occ) (info : Occ) (s : State) :
    (srcChange src cycle old new occ info s).units = s.units := by
  unfold srcChange
  split
  · rfl
  · dsimp only
    rw [foldl_keeps State.units]
    · split <;> rfl
    · intro s p
      split
      · split
        · rfl
        · exact weirPush_units _ _
      · split
        · rfl
        · exact weirPush_units _ _

theorem evtFollow_units (s : State) : (evtFollow s).units = s.units := by
  refine foldl_keeps State.units (fun s i => ?_) _ s
  dsimp only
  split
  · rfl
  · exact srcChange_units _ _ _ _ _ _ _

theorem pinsGate_units (s : State) : (pinsGate s).units = s.units := by
  refine foldl_keeps State.units (fun s n => ?_) _ s
  dsimp only
  split <;> rfl

theorem calEnd_units (ag : AgentId) (b op res : Nat) (s : State) : (calEnd ag b op res s).units = s.units := by
  unfold calEnd
  rw [(raise_reported _ _ _ _).units, (audit_reported _ _ _ _ _ _).units]
  split <;> rfl

theorem calWatch_units (s : State) : (calWatch s).units = s.units := by
  unfold calWatch
  split
  · rfl
  · split
    · rfl
    · exact calEnd_units _ _ _ _ _

theorem settle_units (s : State) : (settle s).units = s.units := by
  unfold settle
  rw [(updFaultN_reported [] _).units, calWatch_units, pinsGate_units, evtFollow_units, synFollow_units]

theorem dspPend_units (n k : Nat) (s : State) : (dspPend n k s).units = s.units := by
  unfold dspPend
  split <;> rfl

theorem ringDoorbell_units (d : Nat) (s : State) : (ringDoorbell d s).units = s.units := by
  unfold ringDoorbell
  dsimp only
  split
  · rw [(irqSource_reported [] _ _).units]; rfl
  · split
    · rw [dspPend_units]; rfl
    · rfl

theorem cvComplete_units (ag : AgentId) (status ch seq db : Nat) (dbEn dbAll : Bool) (s : State) :
    (cvComplete ag status ch seq db dbEn dbAll s).units = s.units := by
  have hp : ∀ c : Prop, ∀ _ : Decidable c, ∀ n t, (if c then dspPend n 7 t else t).units = t.units := by
    intro c _ n t
    split
    exacts [dspPend_units _ _ _, rfl]
  unfold cvComplete
  dsimp only
  split
  · rw [ringDoorbell_units, hp]; rfl
  · rw [hp]; rfl

theorem cvDiscard_units (ag : AgentId) (c code : Nat) (s : State) : (cvDiscard ag c code s).units = s.units := by
  unfold cvDiscard
  dsimp only
  split
  · rfl
  · exact (audit_reported _ _ _ _ _ _).units.trans (foldl_keeps State.units (fun s m => cvComplete_units _ _ _ _ _ _ _ s) _ _)

theorem gateFree_units (h code : Nat) (ag : AgentId) (s : State) : (gateFree h code ag s).units = s.units := by
  unfold gateFree
  dsimp only
  split
  · rfl
  · rw [(raise_reported _ _ _ _).units, (audit_reported _ _ _ _ _ _).units]
    split <;> rfl

theorem gatesFree_units (ag : AgentId) (s : State) : (gatesFree ag s).units = s.units := by
  refine foldl_keeps State.units (fun s h => ?_) _ s
  split
  exacts [gateFree_units _ _ _ _, rfl]

theorem dspReset_units (c : Nat) (s : State) : (dspReset c s).units = s.units := by
  have hc : ((List.range 64).foldl (fun s k => if receiverOf s k = dspAgent c then cvDiscard 0 k 0 s else s) s).units
      = s.units := by
    refine foldl_keeps State.units (fun s k => ?_) _ s
    split
    exacts [cvDiscard_units _ _ _ _, rfl]
  unfold dspReset receiverReset
  dsimp only
  rw [gatesFree_units]
  split
  · exact hc
  · rw [(raise_reported _ _ _ _).units, hc]

/-! The commands. -/

theorem surveySettle_of_no_runs {s : State} (h : s.pwr.runs = []) : surveySettle s = settle s := by
  rw [surveySettle, h, List.foldl_nil]

/-- After an accepted command that leaves no survey run, the headers are those the command made, and what it raised stays
raised. -/
theorem unitCmdW_cmdDone {s x : State} {ag : AgentId} {u cmd : Nat} {good : Bool} (hopen : WriteOpen s ag (hdrOff u + 0x0C))
    (heff : unitCtrlEff ag u cmd good s = cmdDone ag u cmd x) (hruns : x.pwr.runs = []) :
    (unitCmdW ag u cmd good s).units = x.units ∧ Onward False False x (unitCmdW ag u cmd good s) := by
  have hw : Reported eventOffs (unitCtrlEff ag u cmd good s).1 (unitCmdW ag u cmd good s) := guardW_open _ hopen
  have ha : Reported eventOffs (settle x) (unitCtrlEff ag u cmd good s).1 := by
    rw [heff, cmdDone, surveySettle_of_no_runs hruns]
    exact audit_reported _ _ _ _ _ _
  have ht := ha.trans hw
  exact ⟨ht.units.trans (settle_units x), Onward.trans (.settle (.refl x)) ht.onward⟩

theorem unit_of_units {s t : State} (h : t.units = s.units) (u : Nat) : unit t u = unit s u := by rw [unit, h, unit]
theorem ustate_of_units {s t : State} (h : t.units = s.units) (u : Nat) : ustate t u = ustate s u := by
  rw [ustate, unit_of_units h, ustate]
theorem epochOf_of_units {s t : State} (h : t.units = s.units) (u : Nat) : epochOf t u = epochOf s u := by
  rw [epochOf, unit_of_units h, epochOf]

theorem unitKind_fft {u : Nat} (h : 0x080 ≤ u) (h' : u < 0x090) : unitKind u = .fft := by
  interval_cases u <;> rfl

theorem alwaysOn_fft {u : Nat} (h : 0x080 ≤ u) (h' : u < 0x090) : alwaysOn u = false := by
  rw [alwaysOn, unitKind_fft h h']

theorem unitBegin_fft {u : Nat} (h : 0x080 ≤ u) (h' : u < 0x090) (s : State) : unitBegin u s = changeState u .running s := by
  rw [unitBegin, unitKind_fft h h']

theorem unitRestart_fft {u : Nat} {s : State} (h : 0x080 ≤ u) (h' : u < 0x090) (hc : clocked s u = true) :
    unitRestart u true s = recovered u (changeState u .ready s) := by
  simp [unitRestart, unitKind_fft h h', hc]

/-- UNIT_RECOVERED leaves the headers, raises its event and keeps the runs. -/
theorem recovered_ready (u : Nat) (s : State) :
    (recovered u (changeState u .ready s)).units = (changeState u .ready s).units ∧
      Raised s (recovered u (changeState u .ready s)) 0x0E13 0x210 ∧
      (recovered u (changeState u .ready s)).pwr = s.pwr := by
  have hr := recovered_reported u (changeState u .ready s)
  refine ⟨hr.units, ?_, hr.pwr⟩
  have h := (raise_raised 0x0E13 0x210 [.u16 u, .u16 (ustate (changeState u .ready s) u).code,
    .u32 (epochOf (changeState u .ready s) u).toNat] (changeState u .ready s)).later (updFaultN_reported [] _)
  exact h.of_events rfl rfl

theorem unitDrain_pwr (u : Nat) (s : State) : (unitDrain u s).pwr = s.pwr :=
  (Onward.unitDrain (P := False) (Q := True) (Onward.refl s)).2.2.2 trivial

theorem unitAbort_pwr (u : Nat) (s : State) : (unitAbort u s).pwr = s.pwr :=
  (Onward.unitAbort (P := False) (Q := True) (Onward.refl s)).2.2.2 trivial

theorem ustate_unitDrain (u : Nat) (s : State) : ustate (unitDrain u s) u = .draining := ustate_changeState _ u _

/-- An aborted unit is READY and says whether it held a partial output. -/
theorem unit_unitAbort (u : Nat) (s : State) :
    ustate (unitAbort u s) u = .ready ∧ (unit (unitAbort u s) u).abortResult = if unitPartial s u then 1 else 2 := by
  have hu : unit (unitAbort u s) u =
      { unit (changeState u .ready (unitDiscard u s)) u with abortResult := if unitPartial s u then 1 else 2 } := by
    unfold unitAbort
    dsimp only
    split
    · rw [unit_of_units (dspReset_units _ _), unit_setUnit]
    · rw [unit_setUnit]
  exact ⟨by rw [ustate, hu]; exact ustate_changeState _ u _, by rw [hu]⟩

/-- Settles O17: each accepted command is its state change followed by cmdDone, which leaves the headers alone where no survey
run is there to end; a refused one sets CMD_ERR alone. -/
theorem unitCommandsComplete : Obligations.UnitCommandsComplete := by
  refine ⟨?start, ?drain, ?abort, ?restart, ?thaw, ?refused⟩
  case start =>
    intro s ag u hopen hruns hlo hhi hpol hst
    have heff : unitCtrlEff ag u 1 true s = cmdDone ag u 1 (changeState u .running s) := by
      simp [unitCtrlEff, alwaysOn_fft hlo hhi, hpol, hst, unitBegin_fft hlo hhi]
    obtain ⟨hu, -⟩ := unitCmdW_cmdDone hopen heff hruns
    exact ⟨_, rfl, (ustate_of_units hu u).trans (ustate_changeState s u _),
      (epochOf_of_units hu u).trans (epochOf_changeState s u _)⟩
  case drain =>
    intro s ag u hopen hruns hoff hst
    have hdrain (cmd : Nat) (h : cmd = 2 ∨ cmd = 3) : ustate (unitCmdW ag u cmd true s) u = .draining := by
      have heff : unitCtrlEff ag u cmd true s = cmdDone ag u cmd (unitDrain u s) := by
        rcases h with rfl | rfl <;> simp [unitCtrlEff, hoff, hst]
      obtain ⟨hu, -⟩ := unitCmdW_cmdDone hopen heff ((congrArg PwrState.runs (unitDrain_pwr u s)).trans hruns)
      exact (ustate_of_units hu u).trans (ustate_unitDrain u s)
    exact ⟨⟨_, rfl, hdrain 2 (.inl rfl)⟩, ⟨_, rfl, hdrain 3 (.inr rfl)⟩⟩
  case abort =>
    intro s ag u hopen hruns hoff hst
    have heff : unitCtrlEff ag u 4 true s = cmdDone ag u 4 (unitAbort u s) := by
      rcases hst with h | h <;> simp [unitCtrlEff, hoff, h, UState.busy]
    obtain ⟨hu, -⟩ := unitCmdW_cmdDone hopen heff ((congrArg PwrState.runs (unitAbort_pwr u s)).trans hruns)
    obtain ⟨hready, hres⟩ := unit_unitAbort u s
    exact ⟨_, rfl, (ustate_of_units hu u).trans hready, by rw [unit_of_units hu, hres]⟩
  case restart =>
    intro s ag u hopen hruns hlo hhi hst hclk
    have heff : unitCtrlEff ag u 5 true s = cmdDone ag u 5 (recovered u (changeState u .ready s)) := by
      simp [unitCtrlEff, alwaysOn_fft hlo hhi, hst, unitRestart_fft hlo hhi hclk]
    obtain ⟨hx, hraised, hpwr⟩ := recovered_ready u s
    obtain ⟨hu, hon⟩ := unitCmdW_cmdDone hopen heff ((congrArg PwrState.runs hpwr).trans hruns)
    exact ⟨_, rfl, (ustate_of_units (hu.trans hx) u).trans (ustate_changeState s u _), hraised.onward hon⟩
  case thaw =>
    intro s ag u hopen hruns hoff hpc hst
    have heff : unitCtrlEff ag u 6 true s = cmdDone ag u 6 (recovered u (changeState u .ready s)) := by
      simp [unitCtrlEff, hoff, hst, hpc]
    obtain ⟨hx, hraised, hpwr⟩ := recovered_ready u s
    obtain ⟨hu, hon⟩ := unitCmdW_cmdDone hopen heff ((congrArg PwrState.runs hpwr).trans hruns)
    exact ⟨_, rfl, (ustate_of_units (hu.trans hx) u).trans (ustate_changeState s u _), hraised.onward hon⟩
  case refused =>
    intro s ag u hopen hoff hpol hst
    have heff : unitCtrlEff ag u 1 true s = cmdRefused u s := by
      rcases hst with h | h <;> simp [unitCtrlEff, hoff, hpol, h]
    have ht : Reported eventOffs (cmdRefused u s).1 (unitCmdW ag u 1 true s) := by
      rw [← heff]
      exact guardW_open _ hopen
    have hu : unit (unitCmdW ag u 1 true s) u = { unit s u with cmdErr := true } :=
      (ht.unit_eq u).trans (unit_setUnit s u _)
    exact ⟨_, rfl, by rw [ustate, hu, ustate], by rw [hu], by rw [epochOf, hu, epochOf]⟩

end Sys2Proof.Machine
end

section
/-! SUPPORT. A channeliser's input position: what its work leaves alone and how far its input samples move it (05 R229, R231). -/

namespace Sys2Proof.Machine

/-! What the fabric brings. -/

/-- Taking an item changes what the fabric has delivered alone. -/
theorem takeDelivered_spec {port stream : Nat} {s u : State} {i : Item} (h : takeDelivered port stream s = some (i, u)) :
    u = { s with plan := u.plan } := by
  obtain ⟨x, -, hx⟩ := Option.map_eq_some_iff.mp h
  cases hx
  rfl

theorem raise_raisedData (code u : Nat) (data : List EvField) (s : State) : RaisedData s (raise code u data s) code u data := by
  obtain ⟨more, hmore⟩ : (commitEvent (eventTime s) code u false true data s).2.events <:+ (raise code u data s).events :=
    (Onward.ite (P := False) (Q := False) (.dropReport0 <| .deliver0 <| .refl _) (.deliver0 <| .refl _)).1
  exact ⟨more ++ [(commitEvent (eventTime s) code u false true data s).1], by rw [List.append_assoc]; exact hmore.symm, _,
    List.mem_append_right _ (List.mem_singleton.mpr rfl), rfl, rfl, rfl⟩

theorem RaisedData.onward {P Q : Prop} {s t u : State} {code n : Nat} {data : List EvField} (h : RaisedData s t code n data)
    (k : Onward P Q t u) : RaisedData s u code n data := by
  obtain ⟨new, hnew, e, he, hc⟩ := h
  obtain ⟨more, hmore⟩ := k.1
  exact ⟨more ++ new, by rw [← hmore, hnew, List.append_assoc], e, List.mem_append_right _ he, hc⟩

/-- What was raised after an older state is raised since. -/
theorem RaisedData.since {P Q : Prop} {s t u : State} {code n : Nat} {data : List EvField} (h : Onward P Q s t)
    (k : RaisedData t u code n data) : RaisedData s u code n data := by
  obtain ⟨new, hnew, e, he, hc⟩ := k
  obtain ⟨old, hold⟩ := h.1
  exact ⟨new ++ old, by rw [hnew, ← hold, List.append_assoc], e, List.mem_append_left _ he, hc⟩

/-! The channelisers. -/

theorem chzOf_of_chz {s t : State} (h : t.chz = s.chz) (m : Nat) : chzOf t m = chzOf s m := by rw [chzOf, h, chzOf]

theorem chzOf_withChz {c : Nat} (hc : c < 4) (f : Chz → Chz) (s : State) : chzOf (withChz c f s) c = f (chzOf s c) :=
  vget_vset_self _ _ _ _ hc

theorem chzOf_withChz_ne {c m : Nat} (hm : m ≠ c) (f : Chz → Chz) (s : State) : chzOf (withChz c f s) m = chzOf s m :=
  vget_vset_ne _ _ _ hm

/-- From s₀ to s channeliser c has taken k input samples and no item, and the other channelisers have done nothing. -/
structure ChzMoved (c : Nat) (k : Int) (s₀ s : State) : Prop where
  pos : (chzOf s c).n = (chzOf s₀ c).n + k
  lastSeq : (chzOf s c).lastSeq = (chzOf s₀ c).lastSeq
  other : ∀ m, m ≠ c → chzOf s m = chzOf s₀ m

namespace ChzMoved

variable {c : Nat} {k : Int} {s₀ s t : State}

theorem refl (c : Nat) (s : State) : ChzMoved c 0 s s := ⟨(add_zero _).symm, rfl, fun _ _ => rfl⟩

/-- An operation that leaves every channeliser alone. -/
theorem of_chz (hs : ChzMoved c k s₀ s) (h : t.chz = s.chz) : ChzMoved c k s₀ t :=
  ⟨by rw [chzOf_of_chz h, hs.pos], by rw [chzOf_of_chz h, hs.lastSeq], fun m hm => by rw [chzOf_of_chz h, hs.other m hm]⟩

theorem ite {p : Prop} {_ : Decidable p} (hs : ChzMoved c k s₀ s) (ht : ChzMoved c k s₀ t) :
    ChzMoved c k s₀ (if p then s else t) := by
  split <;> assumption

theorem foldl {β : Type} {f : State → β → State} {l : List β} (hs : ChzMoved c k s₀ s)
    (hf : ∀ s b, ChzMoved c k s₀ s → ChzMoved c k s₀ (f s b)) : ChzMoved c k s₀ (l.foldl f s) :=
  List.foldlRecOn l f hs fun s h b _ => hf s b h

/-- A fold whose every step takes j samples. -/
theorem foldl_add {β : Type} {f : State → β → State} {l : List β} {j : Int} (hs : ChzMoved c k s₀ s)
    (hf : ∀ k s b, ChzMoved c k s₀ s → ChzMoved c (k + j) s₀ (f s b)) : ChzMoved c (k + l.length * j) s₀ (l.foldl f s) := by
  induction l generalizing k s with
  | nil => simpa using hs
  | cons b r ih =>
    have h := ih (hf k s b hs)
    rwa [add_assoc, ← one_add_mul, add_comm 1, ← Nat.cast_add_one] at h

theorem bump {r : Reg} {i j n : Nat} (hs : ChzMoved c k s₀ s) : ChzMoved c k s₀ (bump r i j n s) := .of_chz hs rfl
theorem time {x : TimeState} (hs : ChzMoved c k s₀ s) : ChzMoved c k s₀ { s with time := x } := .of_chz hs rfl
theorem offer {i : Item} (hs : ChzMoved c k s₀ s) : ChzMoved c k s₀ (offer i s) := .of_chz hs rfl
theorem raise {code u : Nat} {data : List EvField} (hs : ChzMoved c k s₀ s) : ChzMoved c k s₀ (raise code u data s) :=
  .of_chz hs (raise_reported _ _ _ _).chz
theorem raiseRated {code u n : Nat} {q : List EvField} (hs : ChzMoved c k s₀ s) :
    ChzMoved c k s₀ (raiseRated code u q n s) := .of_chz hs (raiseRated_reported _ _ _ _ _).chz

variable (hc : c < 4)
include hc

theorem withChz {f : Chz → Chz} {j : Int} (hs : ChzMoved c k s₀ s) (hn : (f (chzOf s c)).n = (chzOf s c).n + j)
    (hl : (f (chzOf s c)).lastSeq = (chzOf s c).lastSeq) : ChzMoved c (k + j) s₀ (withChz c f s) :=
  ⟨by rw [chzOf_withChz hc, hn, hs.pos, add_assoc], by rw [chzOf_withChz hc, hl, hs.lastSeq],
    fun m hm => by rw [chzOf_withChz_ne hm, hs.other m hm]⟩

/-- A change of something else about the channeliser. -/
theorem withChz_still {f : Chz → Chz} (hs : ChzMoved c k s₀ s) (hn : (f (chzOf s c)).n = (chzOf s c).n)
    (hl : (f (chzOf s c)).lastSeq = (chzOf s c).lastSeq) : ChzMoved c k s₀ (Machine.withChz c f s) := by
  simpa using withChz hc hs (j := 0) (by rw [hn, add_zero]) hl

theorem withGroup {g : Nat} {f : ChzGroup → ChzGroup} (hs : ChzMoved c k s₀ s) : ChzMoved c k s₀ (withGroup c g f s) :=
  withChz_still hc hs rfl rfl

theorem chzClose {g extra : Nat} (hs : ChzMoved c k s₀ s) : ChzMoved c k s₀ (chzClose c g extra s) :=
  .ite hs (.offer <| .ite (.bump <| withGroup hc <| .time hs) (withGroup hc <| .time hs))

theorem chzPush {g : Nat} {m : ChzMeta} {j : Nat} {x : Cx} (hs : ChzMoved c k s₀ s) :
    ChzMoved c k s₀ (chzPush c g m j x s) :=
  .ite (chzClose hc (withGroup hc hs)) (withGroup hc hs)

theorem chzRun {n : Int} (hs : ChzMoved c k s₀ s) : ChzMoved c k s₀ (chzRun c n s) :=
  .foldl (withChz_still hc (.ite hs (.raiseRated <| .bump hs)) rfl rfl) fun _ _ h =>
    .ite (.foldl h fun _ _ h => chzPush hc h) h

theorem chzSample {x : Cx} (hs : ChzMoved c k s₀ s) : ChzMoved c (k + 1) s₀ (chzSample c x s) :=
  .ite (chzRun hc (withChz hc hs rfl rfl)) (withChz hc hs rfl rfl)

theorem chzSamples {β : Type} {f : β → Cx} {l : List β} (hs : ChzMoved c k s₀ s) :
    ChzMoved c (k + l.length) s₀ (l.foldl (fun s b => Machine.chzSample c (f b) s) s) := by
  simpa using foldl_add hs fun _ _ _ h => chzSample hc h

/-- The zero samples of the missing items. -/
theorem chzGap {miss : Nat} (hs : ChzMoved c k s₀ s) : ChzMoved c (k + miss * 1024) s₀ (chzGap c miss s) := by
  unfold Machine.chzGap
  split
  next h => simpa [h] using hs
  next h =>
    have hlen : (miss : Int) = (List.range miss).length := by rw [List.length_range]
    rw [hlen]
    refine foldl_add (.raise <| .bump hs) fun k s _ h => ?_
    have h' (r : InRec) := chzSamples hc (f := fun _ => (0, 0)) (l := List.range 1024)
      (withChz_still hc (f := fun z => { z with recs := r :: z.recs }) h rfl rfl)
    rw [List.length_range, Nat.cast_ofNat] at h'
    exact h' _

end ChzMoved

/-! An item. -/

/-- Missing items are reported. -/
theorem chzGap_raised {c miss : Nat} (h : miss ≠ 0) (s : State) :
    RaisedData s (chzGap c miss s) 0x0312 (chzUnit c) [.u32 (1024 * miss)] := by
  unfold chzGap
  rw [if_neg h]
  have hr : RaisedData s (raise 0x0312 (chzUnit c) [.u32 (1024 * miss)] (bump .tunChzCount c 1 (1024 * miss) s)) 0x0312
      (chzUnit c) [.u32 (1024 * miss)] :=
    (raise_raisedData _ _ _ _).since (Onward.bump (P := False) (Q := False) (.refl s))
  exact hr.onward (P := False) (Q := False)
    (.foldl (.refl _) fun _ _ h => .foldl (.withChz h) fun _ _ h => .chzSample h)

section
variable {c : Nat} (hc : c < 4)
include hc

/-- A restart puts the channeliser at input sample 0 and reports the generation. -/
theorem chzRestart_spec (gen : Nat) (s : State) :
    (chzOf (chzRestart c gen s) c).n = 0 ∧ (∀ m, m ≠ c → chzOf (chzRestart c gen s) m = chzOf s m) ∧
      RaisedData s (chzRestart c gen s) 0x0313 (chzUnit c) [.u16 gen] := by
  unfold chzRestart
  extract_lets s₁ s₂ s₃
  have h₁ : ChzMoved c 0 s s₁ := .foldl (.refl c s) fun _ _ h => .chzClose hc h
  have h₃ : ChzMoved c 0 s₂ (raise 0x0313 (chzUnit c) [.u16 gen] (bump .tunChzCount c 2 1 s₃)) :=
    .raise <| .bump <| .foldl (.refl c s₂) fun _ _ h => .withGroup hc h
  have hs₃ : Onward False False s (bump .tunChzCount c 2 1 s₃) :=
    .bump <| .foldl (.withChz <| .foldl (.refl s) fun _ _ h => .chzClose h) fun _ _ h => .withGroup h
  refine ⟨?_, fun m hm => ?_, (raise_raisedData _ _ _ _).since hs₃⟩
  · rw [h₃.pos, chzOf_withChz hc, add_zero]
  · rw [h₃.other m hm, chzOf_withChz_ne hm, h₁.other m hm]

/-- What an item leaves, s' being the state after its restart or its gap: the item's samples taken and its number kept. -/
theorem chzInput_spec (i : Item) (s : State) : ∃ s',
    s' = (if (itemGeneration i (chzOf s c).ended).1 then
        chzRestart c (if fromLink i then i.gen else getF s .ingLinkStatus c 0 16 16) s
      else chzGap c (missingItems (chzOf s c).lastSeq i.seq) s) ∧
    (chzOf (chzInput c i s) c).lastSeq = some i.seq ∧ (chzOf (chzInput c i s) c).n = (chzOf s' c).n + 1024 ∧
    (∀ m, m ≠ c → chzOf (chzInput c i s) m = chzOf s' m) ∧ Onward False False s' (chzInput c i s) := by
  refine ⟨_, rfl, ?_⟩
  generalize hs' : (if (itemGeneration i (chzOf s c).ended).1 then _ else _ : State) = s'
  obtain ⟨f, hf, hseq, hpos⟩ : ∃ f : Chz → Chz,
      chzInput c i s = (List.range 1024).foldl (fun s k => chzSample c (itemSample i k) s) (withChz c f s') ∧
        (∀ z, (f z).lastSeq = some i.seq) ∧ ∀ z, (f z).n = z.n := by
    unfold chzInput
    dsimp only
    rw [hs']
    exact ⟨_, rfl, fun _ => rfl, fun _ => rfl⟩
  have h := ChzMoved.chzSamples hc (f := fun k => itemSample i k) (l := List.range 1024) (.refl c (withChz c f s'))
  rw [List.length_range, Nat.cast_ofNat, zero_add] at h
  rw [hf]
  refine ⟨?_, ?_, fun m hm => ?_, .foldl (.withChz <| .refl _) fun _ _ h => .chzSample h⟩
  · rw [h.lastSeq, chzOf_withChz hc, hseq]
  · rw [h.pos, chzOf_withChz hc, hpos]
  · rw [h.other m hm, chzOf_withChz_ne hm]

end

/-- The low bits of a register word. -/
theorem fld_ofNat_low {w : Nat} (h : w ≤ 32) (x : Nat) : fld (BitVec.ofNat 32 x) 0 w = x % 2 ^ w := by
  rw [fld, BitVec.toNat_ofNat, pow_zero, Nat.div_one, Nat.mod_mod_of_dvd _ (pow_dvd_pow 2 h)]

theorem chzCoefAddr_quiet {c : Nat} (hc : c < 4) : Reg.off .tunChzCoefAddr c 0 ∉ eventOffs := by
  interval_cases c <;> decide

/-- Settles O27: an item restarts its channeliser or fills the gap before it, and then its 1,024 samples move the input index;
what follows an accepted write of a coefficient leaves the memory and its address alone. -/
theorem channelizerCommandsComplete : Obligations.ChannelizerCommandsComplete := by
  refine ⟨?item, ?none, ?coef⟩
  case item =>
    intro s u c i hc htake
    have hu := takeDelivered_spec htake
    have hz (m : Nat) : chzOf u m = chzOf s m := chzOf_of_chz (by rw [hu]) m
    have hs : Onward False False s u := .takeDelivered (.refl s) htake
    have hexec : exec (.chzInput c) s =
        .next (if ustate s (chzUnit c) = .running then chzInput c i u else refuseItem (20 + c) 0 s u) := by
      simp only [exec, execChzInput, htake]
    obtain ⟨s', hs', hlast, hn, hother, hon⟩ := chzInput_spec hc i u
    rw [hz] at hs'
    have hlink : getF u .ingLinkStatus c 0 16 16 = getF s .ingLinkStatus c 0 16 16 := by rw [hu]; rfl
    refine ⟨fun hrun hgen => ?_, fun hrun hgen => ?_, fun hrun => ?_⟩
    · rw [if_pos hgen, hlink] at hs'
      obtain ⟨h0, ho, hr⟩ := chzRestart_spec hc (if fromLink i then i.gen else getF s .ingLinkStatus c 0 16 16) u
      subst hs'
      exact ⟨_, hexec.trans (by rw [if_pos hrun]), hlast, by rw [hn, h0, zero_add], (hr.since hs).onward hon,
        fun m hm => by rw [hother m hm, ho m hm, hz]⟩
    · rw [if_neg (by simp [hgen])] at hs'
      have hgap := ChzMoved.chzGap hc (miss := missingItems (chzOf s c).lastSeq i.seq) (.refl c u)
      subst hs'
      refine ⟨_, hexec.trans (by rw [if_pos hrun]), hlast, ?_, fun hm => ?_, fun m hm => by rw [hother m hm, hgap.other m hm, hz]⟩
      · rw [hn, hgap.pos, hz]
        ring
      · exact ((chzGap_raised hm u).since hs).onward hon
    · rw [hexec, if_neg hrun]
  case none =>
    intro s c htake
    simp only [exec, execChzInput, htake]
  case coef =>
    intro s ag c v hc hopen
    refine ⟨fun hst => ?_, fun hg hr hfull => ?_⟩
    · have heff : (chzCoefEff c v s).1 = coefStep c
          { s with chzCoef := spPut s.chzCoef (c * 65536 + getF s .tunChzCoefAddr c 0 0 16) (BitVec.ofNat 18 v.toNat) 0 } := by
        rcases hst with h | h <;> simp [chzCoefEff, h]
      have ht : Reported eventOffs (chzCoefEff c v s).1 _ := guardW_open v hopen
      refine ⟨_, rfl, ?_, ?_⟩
      · rw [ht.chzCoef, heff]
        exact spGet_spPut_self _ _ _ _
      · rw [getF_of_rd (ht.rd_eq _ _ _ (chzCoefAddr_quiet hc)), heff]
        exact (congrArg (fld · 0 16) (rd_wr _ _ _ _ _)).trans ((fld_ofNat_low (by decide) _).trans (Nat.mod_mod _ _))
    · have heff : chzCoefEff c v s = (s, 4) := by
        unfold chzCoefEff
        split
        exacts [absurd ‹_› hg, absurd ‹_› hr, rfl]
      have hw : guardW ag (Reg.off .tunChzCoefData c 0) v (chzCoefEff c v) s = refuse ag (Reg.off .tunChzCoefData c 0) v 4 s := by
        rw [guardW_refused v hopen (by simp [heff]) (by simp [heff]) (by simp [heff]), heff]
      exact ⟨_, congrArg Host.Outcome.next hw, audit_audited 0x02 ag 4 _ v rfl hfull⟩

end Sys2Proof.Machine
end

section
/-! SUPPORT. A tuner's input position and the commits that wait for it: what its work leaves alone and how far its input
samples move it (05 R209, R217 to R223). -/

namespace Sys2Proof.Machine

theorem tuner_of_tun {s t : State} (h : t.tun = s.tun) (m : Nat) : tuner t m = tuner s m := by rw [tuner, h, tuner]

theorem tuner_withTuner {n : Nat} (hn : n < 16) (f : Tuner → Tuner) (s : State) : tuner (withTuner n f s) n = f (tuner s n) :=
  vget_vset_self _ _ _ _ hn

theorem tuner_withTuner_ne {n m : Nat} (hm : m ≠ n) (f : Tuner → Tuner) (s : State) :
    tuner (withTuner n f s) m = tuner s m :=
  vget_vset_ne _ _ _ hm

/-- From s₀ to s tuner n has taken k input samples and no parcel, and the other tuners have done nothing. -/
structure TunMoved (n : Nat) (k : Int) (s₀ s : State) : Prop where
  pos : (tuner s n).n = (tuner s₀ n).n + k
  lastSeq : (tuner s n).lastSeq = (tuner s₀ n).lastSeq
  other : ∀ m, m ≠ n → tuner s m = tuner s₀ m

namespace TunMoved

variable {n : Nat} {k : Int} {s₀ s t : State}

theorem refl (n : Nat) (s : State) : TunMoved n 0 s s := ⟨(add_zero _).symm, rfl, fun _ _ => rfl⟩

/-- An operation that leaves every tuner alone. -/
theorem of_tun (hs : TunMoved n k s₀ s) (h : t.tun = s.tun) : TunMoved n k s₀ t :=
  ⟨by rw [tuner_of_tun h, hs.pos], by rw [tuner_of_tun h, hs.lastSeq], fun m hm => by rw [tuner_of_tun h, hs.other m hm]⟩

theorem ite {p : Prop} {_ : Decidable p} (hs : TunMoved n k s₀ s) (ht : TunMoved n k s₀ t) :
    TunMoved n k s₀ (if p then s else t) := by
  split <;> assumption

/-- A fold whose every step takes j samples. -/
theorem foldl_add {β : Type} {f : State → β → State} {l : List β} {j : Int} (hs : TunMoved n k s₀ s)
    (hf : ∀ k s b, TunMoved n k s₀ s → TunMoved n (k + j) s₀ (f s b)) : TunMoved n (k + l.length * j) s₀ (l.foldl f s) := by
  induction l generalizing k s with
  | nil => simpa using hs
  | cons b r ih =>
    have h := ih (hf k s b hs)
    rwa [add_assoc, ← one_add_mul, add_comm 1, ← Nat.cast_add_one] at h

theorem bump {r : Reg} {i j x : Nat} (hs : TunMoved n k s₀ s) : TunMoved n k s₀ (bump r i j x s) := .of_tun hs rfl
theorem setB {r : Reg} {i j b : Nat} {x : Bool} (hs : TunMoved n k s₀ s) : TunMoved n k s₀ (setB r i j b x s) := .of_tun hs rfl
theorem setF {r : Reg} {i j lo w x : Nat} (hs : TunMoved n k s₀ s) : TunMoved n k s₀ (setF r i j lo w x s) := .of_tun hs rfl
theorem time {x : TimeState} (hs : TunMoved n k s₀ s) : TunMoved n k s₀ { s with time := x } := .of_tun hs rfl
theorem offer {i : Item} (hs : TunMoved n k s₀ s) : TunMoved n k s₀ (offer i s) := .of_tun hs rfl
theorem withTrig {e : Nat} {f : TrigEng → TrigEng} (hs : TunMoved n k s₀ s) : TunMoved n k s₀ (withTrig e f s) := .of_tun hs rfl
theorem bumpEpoch {u : Nat} (hs : TunMoved n k s₀ s) : TunMoved n k s₀ (bumpEpoch u s) := .of_tun hs rfl
theorem raise {code u : Nat} {data : List EvField} (hs : TunMoved n k s₀ s) : TunMoved n k s₀ (raise code u data s) :=
  .of_tun hs (raise_reported _ _ _ _).tun
theorem raiseRated {code u x : Nat} {q : List EvField} (hs : TunMoved n k s₀ s) :
    TunMoved n k s₀ (raiseRated code u q x s) := .of_tun hs (raiseRated_reported _ _ _ _ _).tun
theorem tunCapture {c : Nat} {it : Item} (hs : TunMoved n k s₀ s) : TunMoved n k s₀ (tunCapture c it s) :=
  .ite (.of_tun hs rfl) hs

variable (hn : n < 16)
include hn

theorem withTuner {f : Tuner → Tuner} {j : Int} (hs : TunMoved n k s₀ s) (hp : (f (tuner s n)).n = (tuner s n).n + j)
    (hl : (f (tuner s n)).lastSeq = (tuner s n).lastSeq) : TunMoved n (k + j) s₀ (withTuner n f s) :=
  ⟨by rw [tuner_withTuner hn, hp, hs.pos, add_assoc], by rw [tuner_withTuner hn, hl, hs.lastSeq],
    fun m hm => by rw [tuner_withTuner_ne hm, hs.other m hm]⟩

/-- A change of something else about the tuner. -/
theorem withTuner_still {f : Tuner → Tuner} (hs : TunMoved n k s₀ s) (hp : (f (tuner s n)).n = (tuner s n).n)
    (hl : (f (tuner s n)).lastSeq = (tuner s n).lastSeq) : TunMoved n k s₀ (Machine.withTuner n f s) := by
  simpa using withTuner hn hs (j := 0) (by rw [hp, add_zero]) hl

theorem tunClose {extra : Nat} (hs : TunMoved n k s₀ s) : TunMoved n k s₀ (tunClose n extra s) :=
  .ite hs (.offer <| .ite (.bump <| .tunCapture <| withTuner_still hn (.time hs) rfl rfl)
    (.tunCapture <| withTuner_still hn (.time hs) rfl rfl))

omit hn in
theorem tunSat {x : Nat} (hs : TunMoved n k s₀ s) : TunMoved n k s₀ (tunSat n x s) := .ite hs (.raiseRated <| .bump hs)

theorem tunMarks {m : Int} {fuel : Nat} (hs : TunMoved n k s₀ s) : TunMoved n k s₀ (tunMarks n m fuel s) := by
  induction fuel generalizing s with
  | zero => exact hs
  | succ fuel ih =>
    unfold Machine.tunMarks
    split
    · exact hs
    · exact .ite hs (ih (withTuner_still hn (.ite (tunClose hn hs) hs) rfl rfl))

theorem tunSide {m : Int} {g : Cx} (hs : TunMoved n k s₀ s) : TunMoved n k s₀ (tunSide n m g s) :=
  .ite hs (withTuner_still hn (.withTrig hs) rfl rfl)

theorem tunOutput {m : Int} (hs : TunMoved n k s₀ s) : TunMoved n k s₀ (tunOutput n m s) := by
  unfold Machine.tunOutput
  extract_lets s₁ t f o x s₂ s₃
  have h₃ : TunMoved n k s₀ s₃ := tunSide hn <| tunSat <| withTuner_still hn (tunMarks hn hs) rfl rfl
  exact .ite (tunClose hn h₃) h₃

theorem tunTake {time : Int} {c : TunCommit} (hs : TunMoved n k s₀ s) : TunMoved n k s₀ (tunTake n time c s) :=
  .raise <| withTuner_still hn (.bumpEpoch <| .setF hs) rfl rfl

theorem tunJudge {time : Int} (hs : TunMoved n k s₀ s) : TunMoved n k s₀ (tunJudge n time s) := by
  unfold Machine.tunJudge
  extract_lets s₁ t s₂
  have h₁ : TunMoved n k s₀ s₁ := by
    unfold s₁
    split
    · exact tunTake hn (withTuner_still hn hs rfl rfl)
    · exact hs
  refine .ite h₁ ?_
  have h₂ : TunMoved n k s₀ s₂ := withTuner_still hn h₁ rfl rfl
  split
  · exact h₂
  · exact .ite (tunTake hn <| .setB <| withTuner_still hn h₂ rfl rfl) h₂

theorem tunSample {period : Nat} {x : Cx} (hs : TunMoved n k s₀ s) : TunMoved n (k + 1) s₀ (tunSample n period x s) := by
  unfold Machine.tunSample
  extract_lets t s₁ t₁ rc d mx
  have h₁ : TunMoved n k s₀ s₁ := tunJudge hn hs
  dsimp only
  refine .ite (withTuner hn h₁ rfl rfl) ?_
  split
  · exact tunSat <| withTuner_still hn (withTuner hn h₁ rfl rfl) rfl rfl
  · have h₂ {f g h : Tuner → Tuner} {y : Nat} (hf : (f (tuner s₁ n)).n = (tuner s₁ n).n + 1)
        (hf' : (f (tuner s₁ n)).lastSeq = (tuner s₁ n).lastSeq) (hg : ∀ t, (g t).n = t.n ∧ (g t).lastSeq = t.lastSeq)
        (hh : ∀ t, (h t).n = t.n ∧ (h t).lastSeq = t.lastSeq) :
        TunMoved n (k + 1) s₀ (Machine.withTuner n h (Machine.tunSat n y (Machine.withTuner n g (Machine.withTuner n f s₁)))) :=
      withTuner_still hn (tunSat <| withTuner_still hn (withTuner hn h₁ hf hf') (hg _).1 (hg _).2) (hh _).1 (hh _).2
    exact .ite (tunOutput hn <| h₂ rfl rfl (fun _ => ⟨rfl, rfl⟩) fun _ => ⟨rfl, rfl⟩)
      (h₂ rfl rfl (fun _ => ⟨rfl, rfl⟩) fun _ => ⟨rfl, rfl⟩)

/-- The zero samples of the missing parcels. -/
theorem tunGap {miss : Nat} (hs : TunMoved n k s₀ s) : TunMoved n (k + miss * 1024) s₀ (tunGap n miss s) := by
  unfold Machine.tunGap
  split
  next h => simpa [h] using hs
  next h =>
    have hlen : (miss : Int) = (List.range miss).length := by rw [List.length_range]
    rw [hlen]
    refine foldl_add (.raise <| .bump hs) fun k s _ h => ?_
    have h' (p : Nat) (r : InRec) := foldl_add (l := List.range 1024) (j := 1)
      (f := fun s _ => Machine.tunSample n p (0, 0) s)
      (withTuner_still hn (f := fun z => { z with recs := r :: z.recs }) h rfl rfl) fun _ _ _ h => tunSample hn h
    rw [List.length_range, Nat.cast_ofNat, mul_one] at h'
    exact h' _ _

end TunMoved

/-! A parcel. -/

/-- Missing parcels are reported. -/
theorem tunGap_raised {n miss : Nat} (h : miss ≠ 0) (s : State) :
    RaisedData s (tunGap n miss s) 0x0305 (tunUnit n) [.u32 (1024 * miss)] := by
  unfold tunGap
  rw [if_neg h]
  have hr : RaisedData s (raise 0x0305 (tunUnit n) [.u32 (1024 * miss)] (bump .tunCount n 1 (1024 * miss) s)) 0x0305
      (tunUnit n) [.u32 (1024 * miss)] :=
    (raise_raisedData _ _ _ _).since (Onward.bump (P := False) (Q := False) (.refl s))
  exact hr.onward (P := False) (Q := False)
    (.foldl (.refl _) fun _ _ h => .foldl (.withTuner h) fun _ _ h => .tunSample h)

theorem RaisedData.raised {s t : State} {code u : Nat} {data : List EvField} (h : RaisedData s t code u data) :
    Raised s t code u := by
  obtain ⟨new, hnew, e, he, hcode, hunit, -⟩ := h
  exact ⟨new, hnew, e, he, hcode, hunit⟩

section
variable {n : Nat} (hn : n < 16)
include hn

/-- A restart puts the tuner at input sample 0 and reports the generation. -/
theorem tunRestart_spec (i : Item) (s : State) :
    (tuner (tunRestart n i s) n).n = 0 ∧ (∀ m, m ≠ n → tuner (tunRestart n i s) m = tuner s m) ∧
      Raised s (tunRestart n i s) 0x0306 (tunUnit n) := by
  unfold tunRestart
  extract_lets s₁ p t t₀ x s₂
  have h₁ : TunMoved n 0 s s₁ := .tunClose hn (.refl n s)
  have h₂ : TunMoved n 0 s₂ (raise 0x0306 (tunUnit n) [.u16 i.gen, .u32 x.toNat] (bump .tunCount n 2 1 s₂)) :=
    .raise <| .bump <| .refl n s₂
  have hs₂ : Onward False False s (bump .tunCount n 2 1 s₂) := .bump <| .withTuner <| .tunClose <| .refl s
  refine ⟨?_, fun m hm => ?_, ((raise_raisedData _ _ _ _).since hs₂).raised⟩
  · rw [h₂.pos, tuner_withTuner hn]
    rfl
  · rw [h₂.other m hm, tuner_withTuner_ne hm, h₁.other m hm]

/-- What a parcel leaves, s' being the state after its restart or its gap: the parcel's samples taken and its number kept. -/
theorem tunerInput_spec (i : Item) (s : State) : ∃ s',
    s' = (if (hdrFlags i).testBit 6 then tunRestart n i s else tunGap n (missingItems (tuner s n).lastSeq i.seq) s) ∧
    (tuner (tunerInput n i s) n).lastSeq = some i.seq ∧ (tuner (tunerInput n i s) n).n = (tuner s' n).n + 1024 ∧
    (∀ m, m ≠ n → tuner (tunerInput n i s) m = tuner s' m) ∧ Onward False False s' (tunerInput n i s) := by
  refine ⟨_, rfl, ?_⟩
  unfold tunerInput
  extract_lets period t first s' t' r keep s₁
  change _ ∧ _ = (tuner s' n).n + 1024 ∧ _
  generalize hv : hdrValid i = valid
  have h := TunMoved.foldl_add (l := List.range 1024) (j := 1) (f := fun s k =>
      let s := tunSample n period (itemSample i k) s
      if k + 1 = valid then
        withTuner n (fun t => { t with lastAcc := (t.acc + 2 ^ 48 - t.ftw) % 2 ^ 48, lastTime := r.time + k * period }) s
      else s) (.refl n s₁) fun _ _ _ h =>
    .ite (.withTuner_still hn (.tunSample hn h) rfl rfl) (.tunSample hn h)
  rw [List.length_range, Nat.cast_ofNat, zero_add, mul_one] at h
  refine ⟨?_, ?_, fun m hm => ?_, .foldl (.withTuner <| .refl _) fun _ _ h => .ite (.withTuner <| .tunSample h) (.tunSample h)⟩
  · rw [h.lastSeq, tuner_withTuner hn]
  · rw [h.pos, tuner_withTuner hn]
  · rw [h.other m hm, tuner_withTuner_ne hm]

end

/-! Commits. -/

/-- What a commit that takes effect leaves. -/
structure TunTaken (n : Nat) (c : TunCommit) (s t : State) : Prop where
  pos : (tuner t n).n = (tuner s n).n
  ftw : (tuner t n).ftw = c.ftw
  phase : (tuner t n).phase = c.phase
  acc : (tuner t n).acc = if c.reset then 0 else (tuner s n).acc
  commit : (tuner t n).commit = (tuner s n).commit
  starts : (tuner t n).starts = (tuner s n).starts
  epoch : epochOf t (tunUnit n) = epochOf s (tunUnit n) + 1
  raised : Raised s t 0x0302 (tunUnit n)
  gen : getF t .tunStatus n 0 16 16 = (getF s .tunStatus n 0 16 16 + 1) % 2 ^ 16

theorem tunStatus_quiet {n : Nat} (hn : n < 16) : Reg.off .tunStatus n 0 ∉ eventOffs := by
  interval_cases n <;> decide

theorem tunTake_spec {n : Nat} (hn : n < 16) (time : Int) (c : TunCommit) (s : State) :
    TunTaken n c s (tunTake n time c s) := by
  unfold tunTake
  extract_lets gen s₁ t m mark s₂
  generalize hdata : [EvField.u16 gen, .time (mkStamp (unsgn 112 time / 2 ^ 24) (qualNow s₂))] = data
  have h₁ : s₁.tun = s.tun := rfl
  have hr := raise_reported 0x0302 (tunUnit n) data s₂
  have ht : tuner (raise 0x0302 (tunUnit n) data s₂) n =
      { tuner s n with ftw := c.ftw, phase := c.phase, acc := if c.reset then 0 else (tuner s n).acc,
                       marks := (tuner s n).marks ++ [mark], blk0 := if c.at_.isSome then m else (tuner s n).blk0 } := by
    rw [tuner_of_tun hr.tun, tuner_withTuner hn, tuner_of_tun h₁]
  have hon : Onward False False s s₂ := .withTuner <| .bumpEpoch <| .setF <| .refl s
  refine { pos := ?_, ftw := ?_, phase := ?_, acc := ?_, commit := ?_, starts := ?_, epoch := ?_,
           raised := ((raise_raisedData _ _ _ _).since hon).raised, gen := ?_ }
  iterate 6 rw [ht]
  · exact (hr.epochOf_eq _).trans (epochOf_bumpEpoch _ _)
  · rw [getF_of_rd (hr.rd_eq _ _ _ (tunStatus_quiet hn))]
    exact (getF_setF s .tunStatus n 0 16 16 gen (by decide)).trans (Nat.mod_mod _ _)

/-- Show a pending commit, or that there is none, in the tuner and in its status. -/
def tunPend (n : Nat) (c : Option TunCommit) (s : State) : State :=
  withTuner n (fun t => { t with commit := c }) (setB .tunStatus n 0 0 c.isSome s)

theorem tunPend_spec {n : Nat} (hn : n < 16) (c : Option TunCommit) (s : State) :
    (tuner (tunPend n c s) n).commit = c ∧ getB (tunPend n c s) .tunStatus n 0 0 = c.isSome :=
  ⟨by rw [tunPend, tuner_withTuner hn], getB_setB s .tunStatus n 0 0 c.isSome (by decide)⟩

theorem tunCommitEff_nextBlock (n : Nat) (reset : Bool) (s : State) :
    tunCommitEff n (BitVec.ofNat 32 (1 + 4 * b2n reset)) s = (tunPend n (some (tunStaged s n reset none)) s, 0) := by
  cases reset <;> rfl

theorem tunCommit_fields (reset : Bool) : fld (BitVec.ofNat 32 (2 + 4 * b2n reset)) 0 2 = 2 ∧
    bit (BitVec.ofNat 32 (2 + 4 * b2n reset)) 2 = reset := by
  cases reset <;> decide

theorem tunCommitEff_atTime {n : Nat} (reset : Bool) {s : State} (h : nowTotal s ≤ timeReg s .tunCommitTime n * 2 ^ 24) :
    tunCommitEff n (BitVec.ofNat 32 (2 + 4 * b2n reset)) s =
      (tunPend n (some (tunStaged s n reset (some (timeReg s .tunCommitTime n)))) s, 0) := by
  obtain ⟨hop, hreset⟩ := tunCommit_fields reset
  simp only [tunCommitEff, hop, hreset, if_neg (Nat.not_lt.mpr h)]
  rfl

theorem tunCommitEff_late {n : Nat} (reset : Bool) {s : State} (h : timeReg s .tunCommitTime n * 2 ^ 24 < nowTotal s) :
    tunCommitEff n (BitVec.ofNat 32 (2 + 4 * b2n reset)) s =
      (raise 0x0303 (tunUnit n) [.time (mkStamp (timeReg s .tunCommitTime n) 0)]
        (setB .tunStatus n 0 1 true (tunPend n (some (tunStaged s n reset none)) s)), 0) := by
  obtain ⟨hop, hreset⟩ := tunCommit_fields reset
  simp only [tunCommitEff, hop, hreset, if_pos h]
  rfl

theorem tunCommitEff_cancel (n : Nat) (s : State) : tunCommitEff n 3 s = (tunPend n none s, 0) := rfl

/-- The cycle of the next input sample as a boundary has passed. -/
def tunPassed (n : Nat) (s : State) : State := withTuner n (fun t => { t with judged := some t.n }) s

theorem tunBoundary_tunPassed {n : Nat} (hn : n < 16) (s : State) (time : Int) (c : TunCommit) :
    tunBoundary (tunPassed n s) n time c = tunBoundary s n time c := by
  unfold tunBoundary
  rw [tunPassed, tuner_withTuner hn]
  rfl

theorem TunTaken.passed {n : Nat} (hn : n < 16) {c : TunCommit} {s t : State} (h : TunTaken n c s t) :
    TunTaken n c s (tunPassed n t) := by
  have ht : tuner (tunPassed n t) n = { tuner t n with judged := some (tuner t n).n } := tuner_withTuner hn _ _
  exact { pos := by rw [ht]; exact h.pos, ftw := by rw [ht]; exact h.ftw, phase := by rw [ht]; exact h.phase,
          acc := by rw [ht]; exact h.acc, commit := by rw [ht]; exact h.commit, starts := by rw [ht]; exact h.starts,
          epoch := h.epoch, raised := h.raised.of_events rfl rfl, gen := h.gen }

/-- START's commit at input sample 0, where no other one waits. -/
theorem tunJudge_starts {n : Nat} (hn : n < 16) (time : Int) {c : TunCommit} {s : State} (hs : (tuner s n).starts = some c)
    (hc : (tuner s n).commit = none) :
    tunJudge n time s = tunTake n time c (withTuner n (fun t => { t with starts := none }) s) ∨
      tunJudge n time s = tunPassed n (tunTake n time c (withTuner n (fun t => { t with starts := none }) s)) := by
  have hcommit : (tuner (tunTake n time c (withTuner n (fun t => { t with starts := none }) s)) n).commit = none := by
    rw [(tunTake_spec hn time c _).commit, tuner_withTuner hn, hc]
  simp only [tunJudge, hs, hcommit]
  exact ite_eq_or_eq _ _ _

/-- A pending commit whose boundary the next input sample is. -/
theorem tunJudge_commit {n : Nat} (hn : n < 16) {time : Int} {c : TunCommit} {s : State} (hs : (tuner s n).starts = none)
    (hc : (tuner s n).commit = some c) (hj : (tuner s n).judged ≠ some (tuner s n).n) (hb : tunBoundary s n time c = true) :
    tunJudge n time s = tunTake n time c (setB .tunStatus n 0 0 false
      (withTuner n (fun t => { t with commit := none }) (tunPassed n s))) := by
  rw [← tunBoundary_tunPassed hn, tunPassed] at hb
  simp only [tunJudge, hs, hc, if_neg hj, hb, if_true]
  rfl

/-- No commit takes effect: only the boundary's cycle has passed. -/
theorem tunJudge_still {n : Nat} (hn : n < 16) {time : Int} {s : State} (hs : (tuner s n).starts = none)
    (h : (tuner s n).judged = some (tuner s n).n ∨ (tuner s n).commit = none ∨
      ∃ c, (tuner s n).commit = some c ∧ tunBoundary s n time c = false) :
    tunJudge n time s = s ∧ (tuner s n).judged = some (tuner s n).n ∨ tunJudge n time s = tunPassed n s := by
  by_cases hj : (tuner s n).judged = some (tuner s n).n
  · exact .inl ⟨by simp only [tunJudge, hs, if_pos hj], hj⟩
  · rcases h with h | h | ⟨c, hc, hb⟩
    · exact absurd h hj
    · exact .inr (by simp only [tunJudge, hs, h, if_neg hj, tunPassed])
    · rw [← tunBoundary_tunPassed hn, tunPassed] at hb
      exact .inr (by simp only [tunJudge, hs, hc, if_neg hj, hb, if_neg Bool.false_ne_true, tunPassed])

theorem tunFirCoef_off (n k : Nat) : Reg.off .tunFirCoef n k = 0x840000 + n * 0x1000 + k * 4 := rfl

theorem tunFirCoef_quiet {n k : Nat} (hn : n < 16) (hk : k < 1024) : Reg.off .tunFirCoef n k ∉ eventOffs := by
  rw [tunFirCoef_off]
  intro h
  have hmax : ∀ x ∈ eventOffs, x < 0x840000 ∨ 0x851000 ≤ x := by decide
  rcases hmax _ h with h | h <;> omega

/-- Settles O26: a parcel restarts its tuner or fills the gap before it, and then its 1,024 samples move the input index; a
commit is captured, taken at its boundary with `tunTake`, or waits. -/
theorem tunerCommandsComplete : Obligations.TunerCommandsComplete := by
  refine ⟨?item, ?none, ?commit, ?take, ?still, ?idle, ?coef⟩
  case item =>
    intro s u n i hn htake
    have hu := takeDelivered_spec htake
    have hz (m : Nat) : tuner u m = tuner s m := tuner_of_tun (by rw [hu]) m
    have hs : Onward False False s u := .takeDelivered (.refl s) htake
    have hexec : exec (.tunerInputParcel n) s =
        .next (if ustate s (tunUnit n) = .running then tunerInput n i u else refuseItem (4 + n) 0 s u) := by
      simp only [exec, execTunerInputParcel, htake]
    obtain ⟨s', hs', hlast, hpos, hother, hon⟩ := tunerInput_spec hn i u
    rw [hz] at hs'
    refine ⟨fun hrun hfirst => ?_, fun hrun hfirst => ?_, fun hrun => ?_⟩
    · rw [if_pos hfirst] at hs'
      obtain ⟨h0, ho, hr⟩ := tunRestart_spec hn i u
      subst hs'
      exact ⟨_, hexec.trans (by rw [if_pos hrun]), hlast, by rw [hpos, h0, zero_add], (hr.onward hon).of_events (by rw [hu]) rfl,
        fun m hm => by rw [hother m hm, ho m hm, hz]⟩
    · rw [if_neg (by simp [hfirst])] at hs'
      have hgap := TunMoved.tunGap hn (miss := missingItems (tuner s n).lastSeq i.seq) (.refl n u)
      subst hs'
      refine ⟨_, hexec.trans (by rw [if_pos hrun]), hlast, ?_, fun hm => ?_, fun m hm => by rw [hother m hm, hgap.other m hm, hz]⟩
      · rw [hpos, hgap.pos, hz]
        push_cast
        ring
      · exact ((tunGap_raised hm u).since hs).onward hon
    · rw [hexec, if_neg hrun]
  case none =>
    intro s n htake
    simp only [exec, execTunerInputParcel, htake]
  case commit =>
    intro s ag n reset hn hopen
    have hq := tunStatus_quiet hn
    have done (v : BitVec 32) (c : Option TunCommit) (h : (tunCommitEff n v s).1 = tunPend n c s) :
        (tuner (tunCommitW ag n v s) n).commit = c ∧ getB (tunCommitW ag n v s) .tunStatus n 0 0 = c.isSome := by
      have ht : Reported eventOffs (tunCommitEff n v s).1 _ := guardW_open v hopen
      rw [h] at ht
      have hp := tunPend_spec hn c s
      exact ⟨by rw [tunCommitW, tuner_of_tun ht.tun, hp.1], by rw [getB, tunCommitW, ht.rd_eq _ _ _ hq]; exact hp.2⟩
    refine ⟨?_, fun hle => ?_, fun hlt => ?_, ?_⟩
    · have h := done _ _ (by rw [tunCommitEff_nextBlock n reset s])
      exact ⟨_, rfl, h.1, h.2⟩
    · have h := done _ _ (by rw [tunCommitEff_atTime reset hle])
      exact ⟨_, rfl, h.2, h.1⟩
    · have ht : Reported eventOffs (tunCommitEff n (BitVec.ofNat 32 (2 + 4 * b2n reset)) s).1 _ :=
        guardW_open (BitVec.ofNat 32 (2 + 4 * b2n reset)) hopen
      rw [tunCommitEff_late reset hlt] at ht
      set s₁ := setB .tunStatus n 0 1 true (tunPend n (some (tunStaged s n reset none)) s)
      set data : List EvField := [.time (mkStamp (timeReg s .tunCommitTime n) 0)]
      have ht' : Reported eventOffs s₁ (raise 0x0303 (tunUnit n) data s₁) := raise_reported _ _ _ _
      have hp := tunPend_spec hn (some (tunStaged s n reset none)) s
      have hbit (k : Nat) : getB (tunCommitW ag n (BitVec.ofNat 32 (2 + 4 * b2n reset)) s) .tunStatus n 0 k =
          getB s₁ .tunStatus n 0 k := by
        rw [getB, tunCommitW, ht.rd_eq _ _ _ hq, ht'.rd_eq _ _ _ hq, getB]
      have hr : RaisedData s (raise 0x0303 (tunUnit n) data s₁) 0x0303 (tunUnit n) data :=
        (raise_raisedData _ _ _ _).since (Onward.setB (P := False) (Q := False) <| .withTuner <| .setB <| .refl s)
      refine ⟨_, rfl, hr.onward (P := False) (Q := False) ht.onward, ?_, ?_, ?_⟩
      · rw [hbit]
        exact getB_setB _ _ _ _ _ _ (by decide)
      · rw [hbit]
        exact (getB_setB_ne _ _ _ _ _ _ _ (by decide) (by decide)).trans hp.2
      · rw [tunCommitW, tuner_of_tun ht.tun, tuner_of_tun ht'.tun]
        exact hp.1
    · have h := done 3 none rfl
      exact ⟨_, rfl, h.1, h.2⟩
  case take =>
    intro s n time c hn hrun h
    have hexec : exec (.tunCommitApply n time) s = .next (tunJudge n ((time * 2 ^ 24 : Nat) : Int) s) := if_pos hrun
    -- p is the state in which the commit is taken: the tuner holds no other, and nothing else has happened
    obtain ⟨p, htaken, hcommit, hstarts, hacc, hepoch, hevents, hgen⟩ : ∃ p,
        TunTaken n c p (tunJudge n ((time * 2 ^ 24 : Nat) : Int) s) ∧ (tuner p n).commit = none ∧
          (tuner p n).starts = none ∧ (tuner p n).acc = (tuner s n).acc ∧ epochOf p (tunUnit n) = epochOf s (tunUnit n) ∧
          p.events = s.events ∧ getF p .tunStatus n 0 16 16 = getF s .tunStatus n 0 16 16 := by
      rcases h with ⟨hs, hc⟩ | ⟨hs, hc, hj, hb⟩
      · have ht := tunTake_spec hn ((time * 2 ^ 24 : Nat) : Int) c (withTuner n (fun t => { t with starts := none }) s)
        refine ⟨withTuner n (fun t => { t with starts := none }) s, ?_, ?_, ?_, ?_, rfl, rfl, rfl⟩
        · rcases tunJudge_starts hn ((time * 2 ^ 24 : Nat) : Int) hs hc with h | h
          · rw [h]
            exact ht
          · rw [h]
            exact ht.passed hn
        all_goals rw [tuner_withTuner hn]
        exact hc
      · rw [tunJudge_commit hn hs hc hj hb]
        set p := setB .tunStatus n 0 0 false (withTuner n (fun t => { t with commit := none }) (tunPassed n s))
        have hpassed : tuner (tunPassed n s) n = { tuner s n with judged := some (tuner s n).n } := tuner_withTuner hn _ s
        have hp : tuner p n = { tuner (tunPassed n s) n with commit := none } :=
          tuner_withTuner hn (fun t => { t with commit := none }) (tunPassed n s)
        rw [hpassed] at hp
        refine ⟨p, tunTake_spec hn _ c p, by rw [hp], by rw [hp]; exact hs, by rw [hp], rfl, rfl, ?_⟩
        exact getF_setF_above _ _ _ _ _ _ _ _ _ (by decide) (by decide)
    exact ⟨_, hexec, htaken.commit.trans hcommit, htaken.starts.trans hstarts, htaken.ftw, htaken.phase,
      by rw [htaken.acc, hacc], by rw [htaken.epoch, hepoch], htaken.raised.of_events hevents.symm rfl,
      by rw [htaken.gen, hgen]⟩
  case still =>
    intro s n time hn hrun hs h
    have hexec : exec (.tunCommitApply n time) s = .next (tunJudge n ((time * 2 ^ 24 : Nat) : Int) s) := if_pos hrun
    rcases tunJudge_still hn hs h with ⟨h, hj⟩ | h
    · exact ⟨s, by rw [hexec, h], rfl, hj, rfl, rfl⟩
    · refine ⟨_, by rw [hexec, h], rfl, ?_⟩
      rw [tunPassed, tuner_withTuner hn]
      exact ⟨rfl, rfl, rfl⟩
  case idle => exact fun s n time hrun => if_neg hrun
  case coef =>
    intro s ag n k v hn hk hopen
    refine ⟨fun hfree => ?_, fun hbusy hbank hfull => ?_⟩
    · have heff : (firCoefEff n k v s).1 = wr .tunFirCoef n k (BitVec.ofNat 32 (fld v 0 18)) s := by
        rw [firCoefEff, if_neg (by rcases hfree with h | h <;> simp [h])]
      have ht : Reported eventOffs (firCoefEff n k v s).1 _ := guardW_open v hopen
      rw [heff] at ht
      exact ⟨_, rfl, by rw [ht.rd_eq _ _ _ (tunFirCoef_quiet hn hk), rd_wr], ht.tun⟩
    · have heff : firCoefEff n k v s = (s, 4) := if_pos ⟨hbusy, hbank⟩
      have hw : guardW ag (Reg.off .tunFirCoef n k) v (firCoefEff n k v) s = refuse ag (Reg.off .tunFirCoef n k) v 4 s := by
        rw [guardW_refused v hopen (by simp [heff]) (by simp [heff]) (by simp [heff]), heff]
      exact ⟨_, congrArg Host.Outcome.next hw, audit_audited 0x02 ag 4 _ v rfl hfull,
        (audit_reported _ _ _ _ _ _).rd_eq _ _ _ (tunFirCoef_quiet hn hk)⟩

end Sys2Proof.Machine
end

section
/-! SUPPORT. What the fabric does with an item that passes, and with one whose beats fail (01 R26; 02 R80; 21 R633). -/

namespace Sys2Proof.Machine

/-- Of the routes with an ID, only the replacement is left. -/
theorem mem_routes_setRoute {r q : Route} {s : State} (hq : q ∈ (setRoute r s).plan.routes) (hid : q.plan.id = r.plan.id) :
    q = r := by
  obtain ⟨x, -, rfl⟩ := List.mem_map.mp hq
  by_cases h : x.plan.id = r.plan.id
  · exact if_pos h
  · rw [if_neg h] at hid
    exact absurd hid h

/-- The replacement of a route that is there is there. -/
theorem setRoute_mem {r r' : Route} {s : State} (hr : r ∈ s.plan.routes) (hid : r.plan.id = r'.plan.id) :
    r' ∈ (setRoute r' s).plan.routes :=
  List.mem_map.mpr ⟨r, hr, if_pos hid⟩

/-- The k-th item is no longer offered. -/
def itemTaken (k : Nat) (s : State) : State := withPlan (fun p => { p with offered := p.offered.eraseIdx k }) s

/-- The consumer slots that take an item whole. -/
def takers (r : Route) (it : Item) (room : List Bool) : List (Nat × Nat × Item) :=
  ((routeSlots r.plan).zipIdx.filter fun x => takesFrom r it x.2 && room.getD x.2 true).map fun x => (x.1.1, x.1.2, it)

/-- The drops counted per consumer slot once an item has passed. -/
def slotDropsAfter (r : Route) (it : Item) (room : List Bool) : List Nat :=
  r.slotDrops.mapIdx fun i n => if i < r.plan.count ∧ takesFrom r it i = true ∧ room.getD i true = false then n + 1 else n

/-- What an item that passes leaves. -/
structure Passed (r : Route) (it : Item) (room : List Bool) (s t : State) : Prop where
  offered : t.plan.offered = s.plan.offered
  delivered : t.plan.delivered = s.plan.delivered ++ takers r it room
  route : ∀ q ∈ t.plan.routes, q.plan.id = r.plan.id → q =
    { r with credit := creditNow s r - ((4 * it.payload.length * 2 ^ 64 : Nat) : Int), since := upTotal s,
             slotDrops := slotDropsAfter r it room }
  hbm : t.hbm = s.hbm
  units : t.units = s.units

theorem fabricDeliver_route {r q : Route} {it : Item} {room : List Bool} {s : State}
    (hq : q ∈ (fabricDeliver r it room s).plan.routes) (hid : q.plan.id = r.plan.id) :
    q = { r with slotDrops := slotDropsAfter r it room } := by
  have h := mem_routes_setRoute (s := s) hq hid
  rw [h]
  simp [slotDropsAfter]

theorem fabricPass_passed {r : Route} {it : Item} {room : List Bool} {ecc : Nat} (h : ecc < 2) (s : State) :
    Passed r it room s (fabricPass r it room ecc s) := by
  unfold fabricPass
  extract_lets r₁ s₁
  split
  · exact ⟨rfl, rfl, fun q hq hid => fabricDeliver_route hq hid, rfl, rfl⟩
  · rw [if_pos (by omega)]
    exact ⟨rfl, rfl, fun q hq hid => fabricDeliver_route hq hid, rfl, rfl⟩

theorem faultLastingAt_raised (first : Stamp) (op u : Nat) (ag : AgentId) (ref : Nat) (origin : BitVec 64)
    (detail : List Word) (s : State) :
    RaisedData s (faultLastingAt first op u ag ref origin detail s) 0x0E12 0x210 [.u16 op, .u16 u, .u32 2] :=
  ((raise_raisedData _ _ _ _).since (Onward.setB (P := False) (Q := False) <| .bump <| .refl s)).onward
    (P := False) (Q := False) (.updFaultN <| .faultRecord <| .refl _)

theorem faultLasting_raised (op u : Nat) (ag : AgentId) (ref : Nat) (origin : BitVec 64) (detail : List Word) (s : State) :
    RaisedData s (faultLasting op u ag ref origin detail s) 0x0E12 0x210 [.u16 op, .u16 u, .u32 2] :=
  faultLastingAt_raised _ _ _ _ _ _ _ _

/-- An item whose beats fail twice reaches no consumer, and the fault is reported. -/
theorem fabricPass_lost {r : Route} {it : Item} {room : List Bool} {ecc : Nat} (h : 2 ≤ ecc) (s : State) :
    (fabricPass r it room ecc s).plan.delivered = s.plan.delivered ∧
      RaisedData s (fabricPass r it room ecc s) 0x0E12 0x210 [.u16 2, .u16 it.src, .u32 2] := by
  have hpass : fabricPass r it room ecc s = fabricLost { r with
      credit := creditNow s r - ((4 * it.payload.length * 2 ^ 64 : Nat) : Int), since := upTotal s } it (setRoute { r with
      credit := creditNow s r - ((4 * it.payload.length * 2 ^ 64 : Nat) : Int), since := upTotal s } s) := by
    rw [fabricPass, if_neg (by omega), if_neg (by omega)]
  rw [hpass]
  generalize { r with credit := creditNow s r - ((4 * it.payload.length * 2 ^ 64 : Nat) : Int), since := upTotal s } = r'
  constructor
  · have hplan := (Onward.fabricLost (P := True) (r := r') (it := it) (.refl (setRoute r' s))).2.2.1 trivial
    rw [hplan]
    rfl
  · unfold fabricLost
    extract_lets us s₁
    have h₁ : Onward False False s s₁ := .foldl (.bump <| .setRoute <| .refl s) fun _ _ h => .fabricFailure h
    exact ((faultLasting_raised _ _ _ _ _ _ _).since h₁).onward (P := False) (Q := False) (.surveySettle <| .refl _)

/-- Settles O42: an item that has credit, no held item before it, and room passes or is lost to a failure of its beats; the
guards of the two commands decide the rest. -/
theorem fabricCommandsComplete : Obligations.FabricCommandsComplete := by
  refine ⟨?item, ?paused, ?behind, ?recovered, ?unknown⟩
  case item =>
    intro s k ecc room it hk hlock hbefore
    have htake (r : Route) (hr : routeOf s it = some r) (hc : 0 ≤ creditNow s r) (hheld : r.held = [])
        (hstall : fabricStalled r room = false) (hlong : longHeld s r = false) :
        exec (.fabricItem k room ecc) s =
          .next (fabricPass r it room ecc (itemTaken k s)) := by
      simp [exec, execFabricItem, hk, hlock, hbefore, hr, hc, hheld, hstall, hlong, itemTaken]
    refine ⟨fun hr => ?_, fun r hr hc hheld hstall hlong hecc => ?_, fun r hr hc hheld hstall hlong hecc => ?_,
      fun r hr hc hheld hwait => ?_, fun r hr hmeter => ?_⟩
    · simp [exec, execFabricItem, hk, hlock, hbefore, hr, withPlan]
    · have hp := fabricPass_passed (r := r) (it := it) (room := room) hecc
        (itemTaken k s)
      refine ⟨_, htake r hr hc hheld hstall hlong, hp.offered, hp.delivered, fun q hq hid => ?_, hp.hbm, hp.units⟩
      rw [hp.route q hq hid]
      exact ⟨rfl, rfl⟩
    · obtain ⟨hdel, hraised⟩ := fabricPass_lost (r := r) (it := it) (room := room) hecc
        (itemTaken k s)
      exact ⟨_, htake r hr hc hheld hstall hlong, hdel, hraised⟩
    · simp only [exec, execFabricItem, hk, hlock, hbefore, hr, hc, hheld]
      rcases hwait with h | h <;> simp [h]
    · have hmem : r ∈ s.plan.routes := List.mem_of_find?_eq_some hr
      have hguard : ¬ (0 ≤ creditNow s r ∧ r.held.isEmpty = true) := by
        rcases hmeter with h | h <;> simp [h]
      have hmeterexec : exec (.fabricItem k room ecc) s = if r.plan.mode = 1 then
          .next (setRoute { r with held := r.held ++ [it] } (itemTaken k s)) else .next (meterDrop r it (itemTaken k s)) := by
        simp only [exec, execFabricItem, hk, hlock, hbefore, hr, if_neg hguard]
        rfl
      by_cases hmode : r.plan.mode = 1
      · refine ⟨setRoute { r with held := r.held ++ [it] } (itemTaken k s),
          ?_, rfl, rfl, fun _ => setRoute_mem hmem rfl, fun h => absurd hmode h⟩
        rw [hmeterexec, if_pos hmode]
      · have hdrop : (meterDrop r it (itemTaken k s)).plan =
            (setRoute { r with dropped := r.dropped + 1 } (itemTaken k s)).plan := by
          unfold meterDrop
          extract_lets s₁
          split
          · exact (raiseRated_reported _ _ _ _ _).plan
          · rfl
        refine ⟨meterDrop r it (itemTaken k s), ?_, ?_, ?_,
          fun h => absurd h hmode, fun _ => ?_⟩
        · rw [hmeterexec, if_neg hmode]
        · rw [hdrop]; rfl
        · rw [hdrop]; rfl
        · rw [hdrop]
          exact setRoute_mem hmem rfl
  case paused =>
    intro s k ecc room h
    rcases h with h | h
    · simp only [exec, execFabricItem]
      split
      · rfl
      · simp [h]
    · simp [exec, execFabricItem, h]
  case behind =>
    intro s k ecc room it hk hbefore
    simp [exec, execFabricItem, hk, hbefore]
  case recovered =>
    intro s id ecc room r hr
    have hid : r.plan.id = id := by simpa using List.find?_some hr
    have hpass (it : Item) (rest : List Item) (hheld : r.held = it :: rest) (hc : 0 ≤ creditNow s r)
        (hstall : fabricStalled r room = false) (hlong : longHeld s r = false) (hlock : (synOf s 0).lock = 2) :
        exec (.routeCreditRecovered id room ecc) s = .next (fabricPass { r with held := rest } it room ecc s) := by
      simp [exec, execRouteCreditRecovered, hr, hheld, Int.not_lt.mpr hc, hstall, hlong, hlock]
    refine ⟨fun it rest hheld hc hstall hlong hlock hecc => ?_, fun it rest hheld hc hstall hlong hlock hecc => ?_, fun h => ?_⟩
    · have hp := fabricPass_passed (r := { r with held := rest }) (it := it) (room := room) hecc s
      refine ⟨_, hpass it rest hheld hc hstall hlong hlock, hp.offered, hp.delivered, fun q hq hq' => ?_⟩
      rw [hp.route q hq (hq'.trans hid.symm)]
    · obtain ⟨hdel, hraised⟩ := fabricPass_lost (r := { r with held := rest }) (it := it) (room := room) hecc s
      exact ⟨_, hpass it rest hheld hc hstall hlong hlock, hdel, hraised⟩
    · simp only [exec, execRouteCreditRecovered, hr]
      split
      next => rfl
      next it rest hheld =>
        rcases h with h | h | h | h | h
        · rw [h] at hheld
          cases hheld
        all_goals simp [h]
  case unknown =>
    intro s id ecc room h
    simp only [exec, execRouteCreditRecovered, h]

end Sys2Proof.Machine
end

section
/-! SUPPORT. What keeps the compression engines, and what a block or a job that ends leaves of its engine (14 R495 to R506). -/

namespace Sys2Proof.Machine

/-! What other parts do leaves the compression engines alone. -/

theorem wr_cmp (r : Reg) (i j : Nat) (v : BitVec 32) (s : State) : (wr r i j v s).cmp = s.cmp := rfl

theorem enterFrozen_cmp (u : Nat) (s : State) : (enterFrozen u s).cmp = s.cmp := by
  unfold enterFrozen
  dsimp only
  split
  · exact (reportFault_reported _ _ _ _ _ _ (by decide)).cmp
  · rfl

theorem retrimEnd_cmp (j : CalJob) (res : Nat) (s : State) : (retrimEnd j res s).cmp = s.cmp := by
  unfold retrimEnd calEnd
  dsimp only
  rw [(raise_reported _ _ _ _).cmp, (audit_reported _ _ _ _ _ _).cmp]
  split <;> rfl

theorem setSstate_cmp (k st : Nat) (s : State) : (setSstate k st s).cmp = s.cmp := by
  unfold setSstate calWatch
  split
  · rfl
  · split
    · rfl
    · exact retrimEnd_cmp _ _ _

theorem freezeStack_cmp (k cause pc : Nat) (snap : List Word) (s : State) : (freezeStack k cause pc snap s).cmp = s.cmp := by
  unfold freezeStack
  dsimp only
  rw [foldl_keeps State.cmp fun s p => enterFrozen_cmp (pcUnit p) s, (raise_reported _ _ _ _).cmp,
    foldl_keeps State.cmp fun s i => wr_cmp .hbmSnap k i (snap.getD i 0) s]
  exact setSstate_cmp k 5 s

theorem hbmErr_cmp (port u a : Nat) (write : Bool) (e : HbmErr) (s : State) : (hbmErr port u a write e s).1.cmp = s.cmp := by
  unfold hbmErr
  dsimp only
  split
  · exact (raiseRated_reported _ _ _ _ _).cmp
  · split
    · exact (raiseRated_reported _ _ _ _ _).cmp
    · exact (faultLasting_reported _ _ _ _ _ _ _).cmp.trans (freezeStack_cmp _ _ _ _ _)

theorem hbmErrs_cmp (port u a : Nat) (write : Bool) (errs : List HbmErr) (s : State) :
    (hbmErrs port u a write errs s).1.cmp = s.cmp := by
  induction errs generalizing s with
  | nil => rfl
  | cons e r ih =>
    unfold hbmErrs
    dsimp only
    split
    · exact hbmErr_cmp _ _ _ _ _ _
    · exact (ih _).trans (hbmErr_cmp _ _ _ _ _ _)

theorem hbmPokes_cmp (a : Nat) (bs : List Byte) (s : State) : (hbmPokes a bs s).cmp = s.cmp := by
  induction bs generalizing a s with
  | nil => rfl
  | cons b r ih =>
    refine (ih _ _).trans ?_
    unfold hbmPoke
    dsimp only
    split <;> rfl

theorem wakePcs_cmp (ps : List Nat) (s : State) : (wakePcs ps s).cmp = s.cmp := foldl_keeps State.cmp (fun s p => wr_cmp .hbmPcStatus p 0 _ s) _ _

theorem hbmWrite_cmp (a : Nat) (bs : List Byte) (s : State) : (hbmWrite a bs s).cmp = s.cmp := by
  unfold hbmWrite
  dsimp only
  rw [hbmPokes_cmp, foldl_keeps State.cmp, wakePcs_cmp]
  intro s p
  split
  · rfl
  · split
    · exact (raiseRated_reported _ _ _ _ _).cmp
    · rfl

theorem hbmRead_cmp (a n : Nat) (s : State) : (hbmRead a n s).2.2.cmp = s.cmp := by
  unfold hbmRead
  dsimp only
  split
  · refine (foldl_keeps State.cmp (fun s p => ?_) _ _).trans (wakePcs_cmp _ _)
    split <;> rfl
  · exact (foldl_keeps State.cmp (fun s p => wr_cmp .hbmPcCount p 4 _ s) _ _).trans (wakePcs_cmp _ _)

theorem hbmReadE_cmp (port u a n : Nat) (errs : List HbmErr) (s : State) : (hbmReadE port u a n errs s).2.2.cmp = s.cmp := by
  unfold hbmReadE
  dsimp only
  split
  · exact hbmRead_cmp _ _ _
  · split
    · exact hbmErrs_cmp _ _ _ _ _ _
    · exact (hbmRead_cmp _ _ _).trans (hbmErrs_cmp _ _ _ _ _ _)

theorem hbmWriteE_cmp (port u a : Nat) (bs : List Byte) (errs : List HbmErr) (s : State) :
    (hbmWriteE port u a bs errs s).1.cmp = s.cmp := by
  unfold hbmWriteE
  dsimp only
  split
  · exact hbmWrite_cmp _ _ _
  · split
    · exact (hbmWrite_cmp _ _ _).trans (hbmErrs_cmp _ _ _ _ _ _)
    · have h (e : HbmErr) (l : List HbmErr) (bs' : List Byte) :
          (hbmErr port u a true e (hbmWrite a bs' (hbmErrs port u a true l s).1)).1.cmp = s.cmp := by
        rw [hbmErr_cmp, hbmWrite_cmp, hbmErrs_cmp]
      dsimp only
      split
      · exact (hbmWrite_cmp _ _ _).trans (h _ _ _)
      · exact h _ _ _

theorem jobRead_cmp (u a n : Nat) (errs : List HbmErr) (s : State) : (jobRead u a n errs s).2.2.cmp = s.cmp := by
  unfold jobRead
  split
  · exact hbmReadE_cmp _ _ _ _ _ _
  · exact (hbmErr_cmp _ _ _ _ _ _).trans (hbmReadE_cmp _ _ _ _ _ _)

theorem jobScramble_cmp (n : Nat) (d : List Word) (good : Nat) (s : State) : (jobScramble n d good s).cmp = s.cmp := by
  unfold jobScramble
  split
  · split
    · rfl
    · exact hbmPokes_cmp _ _ _
  · rfl

/-! The engines. -/

theorem cmpOf_of_cmp {s t : State} (h : t.cmp = s.cmp) (m : Nat) : cmpOf t m = cmpOf s m := by rw [cmpOf, h, cmpOf]

theorem rd_withCmp {n : Nat} {f : Cmp → Cmp} {s : State} {q : Reg} {i j : Nat} (h : q.off i j ≠ Reg.off .cmpStatus n 0) :
    rd (withCmp n f s) q i j = rd s q i j :=
  ((rd_setF_ne _ _ _ _ h).trans (rd_setF_ne _ _ _ _ h)).trans (rd_setF_ne _ _ _ _ h)

section
variable {n : Nat} (hn : n < 8)
include hn

theorem cmpOf_withCmp (f : Cmp → Cmp) (s : State) : cmpOf (withCmp n f s) n = f (cmpOf s n) := vget_vset_self _ _ _ _ hn

theorem cmpStatus_quiet : Reg.off .cmpStatus n 0 ∉ eventOffs := by interval_cases n <;> decide

theorem cmpStreamCfg_quiet : Reg.off .cmpStreamCfg n 0 ∉ eventOffs := by interval_cases n <;> decide

theorem cmpStreamCfg_ne_status : Reg.off .cmpStreamCfg n 0 ≠ Reg.off .cmpStatus n 0 := by interval_cases n <;> decide

theorem cmpStreamCfg_ne_count : Reg.off .cmpStreamCfg n 0 ≠ Reg.off .cmpCount n 4 := by interval_cases n <;> decide

theorem cmpCfg_ne_streamCfg : Reg.off .cmpCfg n 0 ≠ Reg.off .cmpStreamCfg n 0 := by interval_cases n <;> decide

/-! Blocks. -/

/-- A new block holds nothing and has the configuration in force. -/
theorem cmpOpen_blk (cont : Bool) (s : State) :
    ∃ b, (cmpOf (cmpOpen n cont s) n).blk = some b ∧ b.bytes = [] ∧ b.failed = false ∧ b.cfg = rd s .cmpStreamCfg n 0 := by
  unfold cmpOpen
  extract_lets s₁
  dsimp only
  rw [cmpOf_withCmp hn]
  refine ⟨_, rfl, rfl, rfl, ?_⟩
  have h₁ : rd s₁ .cmpStreamCfg n 0 = rd s .cmpStreamCfg n 0 := by
    unfold s₁
    split
    · rw [rd_bumpEpoch]
      exact rd_withCmp (cmpStreamCfg_ne_status hn)
    · rfl
  exact h₁

theorem cmpAdd_blk {piece : List Byte} {failed head : Bool} {origin : BitVec 64} {s : State} {b : CmpBlk}
    (hb : (cmpOf s n).blk = some b) :
    ∃ c, (cmpOf (cmpAdd n piece failed head origin s) n).blk = some c ∧ c.failed = (b.failed || failed) ∧
      c.bytes = b.bytes ++ piece := by
  unfold cmpAdd
  rw [cmpOf_withCmp hn, hb]
  exact ⟨_, rfl, rfl, rfl⟩

/-- A frame that fits follows what the block in formation holds. -/
theorem cmpPut_fits {failed : Bool} {origin : BitVec 64} {fuel : Nat} {bs : List Byte} {s : State} {a : CmpBlk}
    (ha : (cmpOf s n).blk = some a) (hfit : a.bytes.length + bs.length ≤ cmpLimit a.cfg) :
    ∃ b, (cmpOf (cmpPut n failed origin (fuel + 1) true bs s) n).blk = some b ∧ b.failed = (a.failed || failed) ∧
      b.bytes = a.bytes ++ bs := by
  have hput : cmpPut n failed origin (fuel + 1) true bs s = cmpAdd n bs failed true origin s := by
    simp [cmpPut, ha, hfit, Nat.not_lt.mpr hfit]
  rw [hput]
  exact cmpAdd_blk hn ha

/-- A frame that fits into a block begins one where none is in formation. -/
theorem cmpPut_opens {failed : Bool} {origin : BitVec 64} {fuel : Nat} {bs : List Byte} {s : State}
    (hnone : (cmpOf s n).blk = none) (hfit : bs.length ≤ cmpLimit (rd s .cmpStreamCfg n 0)) :
    ∃ b, (cmpOf (cmpPut n failed origin (fuel + 1) true bs s) n).blk = some b ∧ b.failed = failed ∧ b.bytes = bs := by
  obtain ⟨a, ha, hbytes, hfailed, hcfg⟩ := cmpOpen_blk hn false s
  have hput : cmpPut n failed origin (fuel + 1) true bs s = cmpAdd n bs failed true origin (cmpOpen n false s) := by
    simp [cmpPut, hnone, ha, hbytes, hcfg, hfit]
  obtain ⟨b, hb, hbf, hbb⟩ := cmpAdd_blk hn (piece := bs) (failed := failed) (head := true) (origin := origin) ha
  exact ⟨b, by rw [hput, hb], by rw [hbf, hfailed, Bool.false_or], by rw [hbb, hbytes, List.nil_append]⟩

omit hn in
/-- The frame of an item. -/
def cmpFrame (i : Item) : List Byte :=
  leBytes 4 (4 * i.payload.length) ++ leBytes 2 (unitPort i.src) ++ leBytes 1 i.stream ++ leBytes 1 (b2n (itemCrcBad i))
    ++ wordsBytes i.payload

omit hn in
theorem cmpFrame_length (i : Item) : (cmpFrame i).length = 8 + 4 * i.payload.length := by
  simp [cmpFrame, leBytes, wordsBytes, List.length_flatMap]
  omega

/-- An item's frame goes into the blocks after its failing check is counted. -/
theorem cmpTake_eq (i : Item) (s : State) : ∃ s', cmpTake n i s =
    cmpPut n (itemCrcBad i || i.check) i.origin ((cmpFrame i).length / 4096 + 1 + 1) true (cmpFrame i) s' ∧ s'.cmp = s.cmp ∧
      rd s' .cmpStreamCfg n 0 = rd s .cmpStreamCfg n 0 := by
  refine ⟨_, rfl, ?_⟩
  split
  · have hr := raiseRated_reported 0x0B04 (cmpUnit n) [] 1 (bump .cmpCount n 4 1 s)
    exact ⟨hr.cmp, (hr.rd_eq _ _ _ (cmpStreamCfg_quiet hn)).trans (rd_wr_ne _ _ (cmpStreamCfg_ne_count hn))⟩
  · exact ⟨rfl, rfl⟩

omit hn in
/-- The engine once its block in formation, b, has closed. -/
def cmpShut (b : CmpBlk) (x : Cmp) : Cmp :=
  { x with blk := none, first := false, offset := (x.offset + b.bytes.length) % 2 ^ 64, seq := x.seq + 1 }

/-- The block in formation closes and goes to the fabric. -/
theorem cmpClose_spec {b : CmpBlk} {s : State} (hb : (cmpOf s n).blk = some b) (stop cont : Bool) :
    ∃ it, cmpOf (cmpClose n stop cont s) n = cmpShut b (cmpOf s n) ∧
      (cmpClose n stop cont s).plan.offered = s.plan.offered ++ [it] ∧ it.kind = 0x70 ∧ it.src = cmpUnit n ∧
      it.seq = (cmpOf s n).seq := by
  have hclosed : ∃ it, (cmpClose n stop cont s).plan.offered = s.plan.offered ++ [it] ∧ it.kind = 0x70 ∧ it.src = cmpUnit n ∧
      it.seq = (cmpOf s n).seq ∧ (cmpClose n stop cont s).cmp = vset s.cmp n (cmpShut b (cmpOf s n)) := by
    unfold cmpClose
    extract_lets x
    have hx : x.blk = some b := hb
    rw [hx]
    exact ⟨_, rfl, rfl, rfl, rfl, rfl⟩
  obtain ⟨it, hoff, hkind, hsrc, hseq, hcmp⟩ := hclosed
  exact ⟨it, by rw [cmpOf, hcmp, vget_vset_self _ _ _ _ hn], hoff, hkind, hsrc, hseq⟩

/-! Jobs. -/

omit hn in
/-- The words of a result. -/
def resultWords (d : List Word) (status blocks good : Nat) : List Word :=
  [BitVec.ofNat 32 (fld (jobW d 1) 0 16 + status * 2 ^ 16), BitVec.ofNat 32 blocks, BitVec.ofNat 32 good,
    BitVec.ofNat 32 (good / 2 ^ 32)]

omit hn in
/-- A result names its job. -/
theorem resultWords_tag (d : List Word) (status blocks good : Nat) :
    fld ((resultWords d status blocks good).getD 0 0) 0 16 = fld (jobW d 1) 0 16 := by
  have hlt : fld (jobW d 1) 0 16 < 2 ^ 16 := Nat.mod_lt _ (by decide)
  refine (fld_ofNat_low (by decide) _).trans ?_
  omega

omit hn in
theorem resultWords_status (d : List Word) (status blocks good : Nat) :
    (resultWords d status blocks good).getD 0 0 = BitVec.ofNat 32 (fld (jobW d 1) 0 16 + status * 2 ^ 16) := rfl

/-- A job that ends adds its result. -/
theorem jobResult_spec (d : List Word) (status blocks good : Nat) (s : State) :
    cmpOf (jobResult n d status blocks good s) n =
      { cmpOf s n with results := (cmpOf s n).results ++ [resultWords d status blocks good] } := by
  unfold jobResult
  extract_lets tag w s₁ s₂
  have h₂ : s₂.cmp = s₁.cmp := by
    unfold s₂
    split
    · rfl
    · split <;> rfl
  rw [cmpOf_of_cmp ((raise_reported _ _ _ _).cmp.trans h₂), cmpOf_withCmp hn]
  rfl

/-- The jobs of a list end one by one. -/
theorem jobResults_spec (l : List (List Word)) (s : State) :
    (cmpOf (l.foldl (fun s d => jobResult n d 11 0 0 s) s) n).queue = (cmpOf s n).queue ∧
      (cmpOf (l.foldl (fun s d => jobResult n d 11 0 0 s) s) n).results.length = (cmpOf s n).results.length + l.length := by
  induction l generalizing s with
  | nil => exact ⟨rfl, rfl⟩
  | cons d r ih =>
    obtain ⟨hq, hlen⟩ := ih (jobResult n d 11 0 0 s)
    rw [List.foldl_cons, hq, hlen, jobResult_spec hn]
    refine ⟨rfl, ?_⟩
    rw [List.length_append, List.length_singleton, List.length_cons]
    omega

/-- A running job that is aborted. -/
theorem jobAbort_spec {d : List Word} {s : State} (hd : (cmpOf s n).running = some d) :
    cmpOf (jobAbort n s) n =
        { cmpOf s n with running := none, results := (cmpOf s n).results ++ [resultWords d 11 0 0] } ∧
      getF (jobAbort n s) .cmpStatus n 0 12 2 = 1 := by
  have habort : jobAbort n s = setF .cmpStatus n 0 12 2 1
      (jobResult n d 11 0 0 (jobScramble n d 0 (withCmp n (fun x => { x with running := none }) s))) := by
    rw [jobAbort, hd]
  rw [habort]
  refine ⟨?_, getF_setF _ _ _ _ _ _ _ (by decide)⟩
  refine (jobResult_spec hn _ _ _ _ _).trans ?_
  rw [cmpOf_of_cmp (jobScramble_cmp _ _ _ _), cmpOf_withCmp hn]

/-- Every queued job ends. -/
theorem jobFlush_spec (s : State) : (cmpOf (jobFlush n s) n).queue = [] ∧
    (cmpOf (jobFlush n s) n).results.length = (cmpOf s n).results.length + (cmpOf s n).queue.length := by
  obtain ⟨hq, hlen⟩ := jobResults_spec hn (cmpOf s n).queue (withCmp n (fun x => { x with queue := [] }) s)
  rw [cmpOf_withCmp hn] at hq hlen
  exact ⟨hq, hlen⟩

omit hn in
theorem jobCmdEff_submit (ag : AgentId) (s : State) : jobCmdEff ag n (BitVec.ofNat 32 1) s = jobSubmit ag n s := by
  have hc : fld (BitVec.ofNat 32 1) 0 2 = 1 := by decide
  simp only [jobCmdEff, hc, if_true]

omit hn in
theorem jobCmdEff_abort (ag : AgentId) (s : State) : jobCmdEff ag n (BitVec.ofNat 32 2) s = (jobAbort n s, 0) := by
  have hc : fld (BitVec.ofNat 32 2) 0 2 = 2 := by decide
  simp [jobCmdEff, hc]

omit hn in
theorem jobCmdEff_flush (ag : AgentId) (s : State) : jobCmdEff ag n (BitVec.ofNat 32 3) s = (jobFlush n s, 0) := by
  have hc : fld (BitVec.ofNat 32 3) 0 2 = 3 := by decide
  simp [jobCmdEff, hc]

omit hn in
/-- A descriptor that is turned away is reported with its cause. -/
theorem jobSubmit_refused (ag : AgentId) {cause : Nat} {s : State} (h : (jobSubmit ag n s).1 =
    ignored ag (Reg.off .cmpJobCmd n 0) 1 (raise 0x0B03 (cmpUnit n) [.u16 cause] (cmpErr n s))) :
    (jobSubmit ag n s).1.cmp = s.cmp ∧ RaisedData s (jobSubmit ag n s).1 0x0B03 (cmpUnit n) [.u16 cause] := by
  rw [h]
  refine ⟨(ignored_reported _ _ _ _).cmp.trans (raise_reported _ _ _ _).cmp, ?_⟩
  exact ((raise_raisedData _ _ _ _).since (Onward.cmpErr (P := False) (Q := False) <| .refl s)).onward
    (P := False) (Q := False) (ignored_reported _ _ _ _).onward

omit hn in
theorem jobCheck_of_plan {s t : State} (h : t.plan = s.plan) (d : List Word) : jobCheck t n d = jobCheck s n d := by
  simp only [jobCheck, cmpRange, ownedRegion, h]

omit hn in
theorem cmpCounted_cmp (n raw out : Nat) (stored : Bool) (s : State) : (cmpCounted n raw out stored s).cmp = s.cmp := by
  unfold cmpCounted bump addCount
  simp only [wr_cmp]

omit hn in
theorem blocksCounted_cmp (n : Nat) (l : List (Nat × Nat × Bool)) (s : State) :
    (l.foldl (fun s b => cmpCounted n b.1 b.2.1 b.2.2 s) s).cmp = s.cmp :=
  foldl_keeps State.cmp (fun _ _ => by rw [cmpCounted_cmp]) l s

/-- A job whose ranges are open ends: it runs no more, and its result is written. -/
theorem jobDone_spec {d : List Word} {src dst soft : Nat} {fail : Option Nat} {errs : List HbmErr} {s : State}
    (hd : (cmpOf s n).running = some d) (hcheck : jobCheck s n d = some (src, dst))
    (hw : (rangeWaits s src (jobN d 6) || (jobOp d != 2 && rangeWaits s dst (jobN d 10))) = false) :
    ∃ status blocks good s', execCmpJobDone n fail soft errs s = .next (jobResult n d status blocks good s') ∧
      cmpOf s' n = { cmpOf s n with running := none } := by
  unfold execCmpJobDone
  simp -zeta only [hd, hcheck, hw]
  rw [if_neg Bool.false_ne_true]
  extract_lets s₁ x s₂ start fuel cap size ran r w run s₃ s₄ s₅
  refine ⟨_, _, _, _, rfl, ?_⟩
  have hx : x.2.2.cmp = s.cmp :=
    (jobRead_cmp _ _ _ _ _).trans (foldl_keeps State.cmp (fun s _ => (faultTransient_reported s).cmp) _ _)
  have hw : w.1.cmp = s₂.cmp := by
    unfold w
    split
    · rfl
    · exact hbmWriteE_cmp _ _ _ _ _ _
  clear_value w r
  have h₃ : s₃.cmp = w.1.cmp := blocksCounted_cmp n r.2 w.1
  rw [hw] at h₃
  have h₄ : s₄.cmp = s₂.cmp := by
    unfold s₄
    split
    · exact (faultLasting_reported _ _ _ _ _ _ _).cmp.trans h₃
    · exact h₃
  have h₅ : s₅.cmp = s₂.cmp := by
    unfold s₅
    split
    · exact h₄
    · exact (jobScramble_cmp _ _ _ _).trans h₄
  rw [cmpOf_of_cmp h₅, cmpOf_withCmp hn, cmpOf_of_cmp hx]

end

theorem cmpJobResult_ne (n : Nat) {i j : Nat} (h : i ≠ j) : Reg.off .cmpJobResult n i ≠ Reg.off .cmpJobResult n j := by
  have hoff (k : Nat) : Reg.off .cmpJobResult n k = 0x18000C0 + n * 0x1000 + k * 4 := rfl
  rw [hoff, hoff]
  omega

/-- Settles O37: an item's frame enters a block, and a job moves from the queue to the engine and from there to the results;
what else these commands do leaves the engines alone. -/
theorem compressionCommandsComplete : Obligations.CompressionCommandsComplete := by
  refine ⟨?item, ?none, ?flush, ?cfg, ?cmd, ?start, ?done, ?read⟩
  case item =>
    intro s u n i room hn hjobs htake
    have hu := takeDelivered_spec htake
    have hcmp : cmpOf u n = cmpOf s n := cmpOf_of_cmp (by rw [hu]) n
    have hcfg : rd u .cmpStreamCfg n 0 = rd s .cmpStreamCfg n 0 := by rw [hu]; rfl
    have hexec : exec (.cmpItem n room) s = if ustate s (cmpUnit n) ≠ .running ∨ (!room) = true then
        .next (refuseItem (66 + n) 0 s u) else .next (cmpTake n i u) := by
      simp [exec, execCmpItem, hjobs, htake]
    have htaken (hrun : ustate s (cmpUnit n) = .running) (hroom : room = true) :
        exec (.cmpItem n room) s = .next (cmpTake n i u) := by
      rw [hexec, if_neg (by simp [hrun, hroom])]
    have hlen : (cmpFrame i).length = 8 + 4 * i.payload.length := cmpFrame_length i
    obtain ⟨s', htk, hs', hcfg'⟩ := cmpTake_eq hn i u
    have hblk : cmpOf s' n = cmpOf s n := (cmpOf_of_cmp hs' n).trans hcmp
    refine ⟨fun h => ?_, fun hrun hroom => ?_, fun hrun hroom hnone hfit => ?_, fun a hrun hroom ha hfit => ?_⟩
    · rw [hexec, if_pos (by simpa using h)]
    · have hplan := (Onward.cmpTake (P := True) (Q := False) (n := n) (i := i) (.refl u)).2.2.1 trivial
      exact ⟨_, htaken hrun hroom, by rw [hplan]⟩
    · obtain ⟨b, hb, hbf, hbb⟩ := cmpPut_opens hn (failed := itemCrcBad i || i.check) (origin := i.origin)
        (fuel := (cmpFrame i).length / 4096 + 1) (bs := cmpFrame i) (s := s') (by rw [hblk, hnone])
        (by rw [hcfg', hcfg, hlen]; exact hfit)
      exact ⟨_, b, htaken hrun hroom, by rw [htk, hb], hbf, hbb⟩
    · obtain ⟨b, hb, hbf, hbb⟩ := cmpPut_fits hn (failed := itemCrcBad i || i.check) (origin := i.origin)
        (fuel := (cmpFrame i).length / 4096 + 1) (bs := cmpFrame i) (s := s') (by rw [hblk, ha])
        (by rw [hlen, ← add_assoc]; exact hfit)
      exact ⟨_, b, htaken hrun hroom, by rw [htk, hb], by rw [hbf, Bool.or_assoc], hbb⟩
  case none =>
    intro s n room hn h
    rcases h with h | h
    · simp [exec, execCmpItem, h]
    · simp [exec, execCmpItem, h]
  case flush =>
    intro s n hn
    refine ⟨fun b hrun hdue hb => ?_, fun h => ?_⟩
    · obtain ⟨it, hshut, hoff, hkind, hsrc, hseq⟩ := cmpClose_spec hn hb false false
      exact ⟨_, it, if_pos ⟨hrun, hdue⟩, by rw [hshut]; rfl, by rw [hshut]; rfl, hoff, hkind, hsrc, hseq⟩
    · refine if_neg ?_
      rintro ⟨hrun, hdue⟩
      rcases h with h | h
      · exact h hrun
      · rw [h] at hdue
        cases hdue
  case cfg =>
    intro s ag n v hn hopen
    have ht : Reported eventOffs (streamCfgEff n v s).1 (guardW ag (Reg.off .cmpStreamCfg n 0) v (streamCfgEff n v) s) :=
      guardW_open v hopen
    refine ⟨fun hok => ?_, fun hok => ?_⟩
    · refine ⟨_, rfl, ?_, fun hbusy hjobs => ?_⟩
      · rw [ht.rd_eq _ _ _ (cmpStreamCfg_quiet hn), streamCfgEff, if_pos hok]
        dsimp only
        split
        · rw [rd_withCmp (cmpStreamCfg_ne_status hn), rd_wr]
        · rw [rd_wr]
      · have hwait : (streamCfgEff n v s).1 = withCmp n (fun x => { x with cfgWaits := true })
            (wr .cmpStreamCfg n 0 (v &&& 0x3FFFF) s) := by
          have hjobs' : cmpJobs (wr .cmpStreamCfg n 0 (v &&& 0x3FFFF) s) n = false := by
            rw [cmpJobs, getB, rd_wr_ne _ _ (cmpCfg_ne_streamCfg hn)]
            exact hjobs
          have hbusy' : (ustate (wr .cmpStreamCfg n 0 (v &&& 0x3FFFF) s) (cmpUnit n)).busy = true := hbusy
          rw [streamCfgEff, if_pos hok]
          dsimp only
          rw [if_pos (by rw [hjobs', hbusy']; rfl)]
        rw [cmpOf_of_cmp ht.cmp, hwait, cmpOf_withCmp hn]
    · have heff : (streamCfgEff n v s).1 = cmpErr n s := by
        rw [streamCfgEff, if_neg (by rw [hok]; decide)]
      rw [heff] at ht
      refine ⟨_, rfl, ?_, ht.cmp, ?_⟩
      · rw [ht.rd_eq _ _ _ (cmpStreamCfg_quiet hn)]
        exact rd_setF_ne _ _ _ _ (cmpStreamCfg_ne_status hn)
      · rw [getB, ht.rd_eq _ _ _ (cmpStatus_quiet hn)]
        exact getB_setB _ _ _ _ _ _ (by decide)
  case cmd =>
    intro s ag n hn hopen
    have ht (c : Nat) : Reported eventOffs (jobCmdEff ag n (BitVec.ofNat 32 c) s).1 (jobCmdWrite ag n c s) :=
      guardW_open (BitVec.ofNat 32 c) hopen
    have hsubmit := ht 1
    have habort := ht 2
    have hflush := ht 3
    rw [jobCmdEff_submit] at hsubmit
    rw [jobCmdEff_abort] at habort
    rw [jobCmdEff_flush] at hflush
    have hq := cmpStatus_quiet hn
    have refused (cause : Nat) (h : (jobSubmit ag n s).1 =
        ignored ag (Reg.off .cmpJobCmd n 0) 1 (raise 0x0B03 (cmpUnit n) [.u16 cause] (cmpErr n s))) :
        ∃ t, exec (.submit ag n) s = .next t ∧ t.cmp = s.cmp ∧ RaisedData s t 0x0B03 (cmpUnit n) [.u16 cause] := by
      obtain ⟨hcmp, hraised⟩ := jobSubmit_refused ag h
      exact ⟨_, rfl, hsubmit.cmp.trans hcmp, hraised.onward (P := False) (Q := False) hsubmit.onward⟩
    refine ⟨fun hjobs hlen => ?_, fun hjobs => ?_, fun hjobs hlen => ?_, fun d hd => ?_, fun hd => ?_, ?_⟩
    · refine ⟨_, rfl, ?_⟩
      have heff : (jobSubmit ag n s).1 =
          withCmp n (fun x => { x with queue := x.queue ++ [(List.range 16).map fun i => rd s .cmpJobDesc n i] }) s := by
        simp [jobSubmit, hjobs, Nat.not_le.mpr hlen]
      rw [cmpOf_of_cmp hsubmit.cmp, heff, cmpOf_withCmp hn]
    · exact refused 1 (by simp [jobSubmit, hjobs])
    · exact refused 0 (by simp [jobSubmit, hjobs, hlen])
    · obtain ⟨hcmp, hstatus⟩ := jobAbort_spec hn hd
      have hx := (cmpOf_of_cmp habort.cmp n).trans hcmp
      exact ⟨_, _, rfl, by rw [hx], (getF_of_rd (habort.rd_eq _ _ _ hq) _ _).trans hstatus, by rw [hx],
        resultWords_status _ _ _ _, rfl⟩
    · have heff : jobAbort n s = setF .cmpStatus n 0 12 2 2 s := by rw [jobAbort, hd]
      rw [heff] at habort
      exact ⟨_, rfl, (getF_of_rd (habort.rd_eq _ _ _ hq) _ _).trans (getF_setF _ _ _ _ _ _ _ (by decide)), habort.cmp⟩
    · obtain ⟨hqueue, hlen⟩ := jobFlush_spec hn s
      have hx := cmpOf_of_cmp hflush.cmp n
      exact ⟨_, rfl, by rw [hx, hqueue], by rw [hx, hlen]⟩
  case start =>
    intro s n hn
    refine ⟨fun d rest hq hrun hlen hst hjobs => ?_, fun h => ?_⟩
    · have hexec : exec (.cmpJobStart n) s = match jobCheck s n d with
          | none => .next (jobResult n d 1 0 0 (withCmp n (fun x => { x with queue := rest }) s))
          | some _ => .next (withCmp n (fun x => { x with running := some d }) (withCmp n (fun x => { x with queue := rest }) s)) := by
        simp only [exec, execCmpJobStart, hq]
        rw [if_neg (by simp [hrun, hlen, hst, hjobs])]
        rw [jobCheck_of_plan rfl]
        rfl
      refine ⟨fun hc => ?_, fun hc => ?_⟩
      · obtain ⟨x, hx⟩ := Option.ne_none_iff_exists'.mp hc
        rw [hx] at hexec
        refine ⟨_, hexec, ?_⟩
        rw [cmpOf_withCmp hn, cmpOf_withCmp hn]
        exact ⟨rfl, rfl⟩
      · rw [hc] at hexec
        have hres := jobResult_spec hn d 1 0 0 (withCmp n (fun x => { x with queue := rest }) s)
        rw [cmpOf_withCmp hn] at hres
        exact ⟨_, _, hexec, by rw [hres], by rw [hres]; exact hrun, by rw [hres],
          (resultWords_status _ _ _ _).trans (by rw [one_mul])⟩
    · simp only [exec, execCmpJobStart]
      split
      next => rfl
      next d rest hq =>
        refine if_pos ?_
        rcases h with h | h | h | h | h
        · rw [h] at hq
          cases hq
        · simp [Option.isSome_iff_ne_none.mpr h]
        all_goals simp [h]
  case done =>
    intro s n soft fail errs hn
    refine ⟨fun d src dst hd hcheck => ⟨fun hsrc hdst => ?_, fun hw => ?_⟩, fun h => ?_⟩
    · obtain ⟨status, blocks, good, s', hexec, hs'⟩ := jobDone_spec hn (soft := soft) (fail := fail) (errs := errs) hd hcheck
        (by rcases hdst with h | h <;> simp [hsrc, h])
      have hres := jobResult_spec hn d status blocks good s'
      rw [hs'] at hres
      exact ⟨_, _, hexec, by rw [hres], by rw [hres], resultWords_tag _ _ _ _⟩
    · simp only [exec, execCmpJobDone, hd, hcheck]
      exact if_pos (by rcases hw with h | ⟨h, h'⟩ <;> simp [*])
    · simp only [exec, execCmpJobDone, h]
  case read =>
    intro s n
    refine ⟨fun hn hst hres => ?_, fun r rest hn hst hres => ?_, fun h => if_pos h⟩
    · simp only [exec, execCmpJobResultRead, jobResultRead, hres]
      exact if_neg (by simp [hst]; omega)
    · refine ⟨{ (jobResultRead n s).2 with rdata := [(jobResultRead n s).1] },
        if_neg (by simp [hst]; omega), ?_⟩
      have hread : jobResultRead n s = (r.getD 0 0, wr .cmpJobResult n 3 (r.getD 3 0) (wr .cmpJobResult n 2 (r.getD 2 0)
          (wr .cmpJobResult n 1 (r.getD 1 0) (wr .cmpJobResult n 0 (r.getD 0 0)
            (withCmp n (fun x => { x with results := rest }) s))))) := by
        rw [jobResultRead, hres]
        rfl
      have hne {i j : Nat} (h : i ≠ j) : Reg.off .cmpJobResult n i ≠ Reg.off .cmpJobResult n j := cmpJobResult_ne n h
      rw [hread]
      refine ⟨rfl, congrArg Cmp.results (cmpOf_withCmp hn (fun x => { x with results := rest }) s), fun k hk => ?_⟩
      change rd (wr .cmpJobResult n 3 _ _) .cmpJobResult n k = _
      interval_cases k
      · rw [rd_wr_ne _ _ (hne (by decide)), rd_wr_ne _ _ (hne (by decide)), rd_wr_ne _ _ (hne (by decide)), rd_wr]
      · rw [rd_wr_ne _ _ (hne (by decide)), rd_wr_ne _ _ (hne (by decide)), rd_wr]
      · rw [rd_wr_ne _ _ (hne (by decide)), rd_wr]
      · rw [rd_wr]

end Sys2Proof.Machine
end

section
/-! SUPPORT. What reports, admissions and completions leave of a flume, and what its records do (16 R541 to R565). -/

namespace Sys2Proof.Machine

/-! Reports and flumes. -/

/-- From s₀ to s flume f has at most taken records at its end and what was written to the host has at most grown. -/
structure Grown (f : Nat) (s₀ s : State) : Prop where
  out : s₀.host.out <+: s.host.out
  staged : (flume s₀ f).staged <+: (flume s f).staged
  spill : (flume s f).spill = (flume s₀ f).spill
  buf : (flume s f).buf = (flume s₀ f).buf
  retry : (flume s f).retry = (flume s₀ f).retry
  lastSeq : (flume s f).lastSeq = (flume s₀ f).lastSeq

namespace Grown

variable {f : Nat} {s₀ s t : State}

theorem refl (f : Nat) (s : State) : Grown f s s := ⟨List.prefix_refl _, List.prefix_refl _, rfl, rfl, rfl, rfl⟩

/-- An operation that leaves the flumes alone and at most writes to the host. -/
theorem of_flumes (hs : Grown f s₀ s) (hf : t.host.flumes = s.host.flumes) (ho : s.host.out <+: t.host.out) : Grown f s₀ t := by
  have h : flume t f = flume s f := by rw [flume, hf, flume]
  exact ⟨hs.out.trans ho, by rw [h]; exact hs.staged, by rw [h, hs.spill], by rw [h, hs.buf], by rw [h, hs.retry],
    by rw [h, hs.lastSeq]⟩

/-- An operation that leaves the host's part alone. -/
theorem of_host (hs : Grown f s₀ s) (h : t.host = s.host) : Grown f s₀ t :=
  hs.of_flumes (by rw [h]) (by rw [h])

theorem ite {p : Prop} {_ : Decidable p} (hs : Grown f s₀ s) (ht : Grown f s₀ t) : Grown f s₀ (if p then s else t) := by
  split <;> assumption

theorem iteFst {α : Type} {p : Prop} {_ : Decidable p} {x y : State × α} (hx : Grown f s₀ x.1) (hy : Grown f s₀ y.1) :
    Grown f s₀ (if p then x else y).1 := by
  split <;> assumption

theorem foldl {β : Type} {g : State → β → State} {l : List β} (hs : Grown f s₀ s)
    (hg : ∀ s b, Grown f s₀ s → Grown f s₀ (g s b)) : Grown f s₀ (l.foldl g s) :=
  List.foldlRecOn l g hs fun s h b _ => hg s b h

/-- A change of a flume of that kind. -/
theorem setFlume {g : Nat} {x : Flume} (hs : Grown f s₀ s) (hstaged : (flume s g).staged <+: x.staged)
    (hspill : x.spill = (flume s g).spill) (hbuf : x.buf = (flume s g).buf) (hretry : x.retry = (flume s g).retry)
    (hlast : x.lastSeq = (flume s g).lastSeq) : Grown f s₀ (setFlume g x s) := by
  by_cases h : f = g
  · subst h
    have hx : flume (Machine.setFlume f x s) f = x := flume_setFlume _ _ _
    exact ⟨hs.out, by rw [hx]; exact hs.staged.trans hstaged, by rw [hx, hspill, hs.spill], by rw [hx, hbuf, hs.buf],
      by rw [hx, hretry, hs.retry], by rw [hx, hlast, hs.lastSeq]⟩
  · have hx : flume (Machine.setFlume g x s) f = flume s f := flume_setFlume_ne _ _ h
    exact ⟨hs.out, by rw [hx]; exact hs.staged, by rw [hx, hs.spill], by rw [hx, hs.buf], by rw [hx, hs.retry],
      by rw [hx, hs.lastSeq]⟩

theorem wr {r : Reg} {i j : Nat} {v : BitVec 32} (hs : Grown f s₀ s) : Grown f s₀ (wr r i j v s) := .of_host hs rfl
theorem setF {r : Reg} {i j lo w x : Nat} (hs : Grown f s₀ s) : Grown f s₀ (setF r i j lo w x s) := .wr hs
theorem setB {r : Reg} {i j k : Nat} {b : Bool} (hs : Grown f s₀ s) : Grown f s₀ (setB r i j k b s) := .setF hs
theorem bump {r : Reg} {i j n : Nat} (hs : Grown f s₀ s) : Grown f s₀ (bump r i j n s) := .wr hs

theorem stageRec {g : Nat} {r : StagedRec} (hs : Grown f s₀ s) : Grown f s₀ (stageRec g r s) :=
  .setFlume (.wr hs) (List.prefix_append _ _) rfl rfl rfl rfl

theorem dropRec {g : Nat} (hs : Grown f s₀ s) : Grown f s₀ (dropRec g s) :=
  .setFlume (.bump <| .wr hs) (List.prefix_refl _) rfl rfl rfl rfl

theorem commitEvent {t : Stamp} {code u : Nat} {failed deliver : Bool} {data : List EvField} (hs : Grown f s₀ s) :
    Grown f s₀ (commitEvent t code u failed deliver data s).2 := .of_host hs rfl
theorem rateAdd {code u : Nat} {q : List EvField} {n : Nat} {tail : List EvField} (hs : Grown f s₀ s) :
    Grown f s₀ (rateAdd code u q n tail s) := .of_host hs rfl
theorem rateOpen {code u : Nat} {q : List EvField} (hs : Grown f s₀ s) : Grown f s₀ (rateOpen code u q s) := .of_host hs rfl
theorem deliver0 {e : EventRec} (hs : Grown f s₀ s) : Grown f s₀ (deliver0 e s).1 :=
  .iteFst (.bump hs) (.iteFst (.stageRec hs) (.dropRec hs))

theorem dropReport0 (hs : Grown f s₀ s) : Grown f s₀ (dropReport0 s) := by
  unfold Machine.dropReport0
  split
  · exact .rateAdd hs
  · exact .ite (.rateAdd <| .deliver0 <| .rateOpen <| .commitEvent hs) (.deliver0 <| .rateOpen <| .commitEvent hs)

theorem raise {code u : Nat} {data : List EvField} (hs : Grown f s₀ s) : Grown f s₀ (raise code u data s) :=
  .ite (.dropReport0 <| .deliver0 <| .commitEvent hs) (.deliver0 <| .commitEvent hs)

theorem raiseRated {code u : Nat} {q : List EvField} {n : Nat} (hs : Grown f s₀ s) : Grown f s₀ (raiseRated code u q n s) := by
  unfold Machine.raiseRated Machine.raiseRatedT
  refine .ite hs ?_
  split
  exacts [.rateAdd hs, .rateOpen <| .raise hs]

theorem msixDeliver {fn vec : Nat} (hs : Grown f s₀ s) : Grown f s₀ (msixDeliver fn vec s) :=
  .ite (.of_flumes hs rfl (List.prefix_refl _)) (.of_flumes hs rfl (List.prefix_append _ _))
theorem msixSignal {fn vec : Nat} (hs : Grown f s₀ s) : Grown f s₀ (msixSignal fn vec s) :=
  .ite hs (.foldl hs fun _ _ h => .ite (.msixDeliver h) h)
theorem irqSource {k : Nat} (hs : Grown f s₀ s) : Grown f s₀ (irqSource k s) := .ite (.msixSignal hs) hs
theorem updFaultN (hs : Grown f s₀ s) : Grown f s₀ (updFaultN s) :=
  .ite (.irqSource <| .of_host hs rfl) (.of_host hs rfl)

theorem faultRecord {kind op u cause : Nat} {ag : AgentId} {t : Stamp} {t2 : Option Stamp} {ref evSeq : Nat}
    {origin : BitVec 64} {detail : List Word} (hs : Grown f s₀ s) :
    Grown f s₀ (faultRecord kind op u cause ag t t2 ref evSeq origin detail s) := by
  unfold Machine.faultRecord
  have hw {x : List Nat} {p : List Word} : Grown f s₀ ((List.range 16).foldl
      (fun s i => Machine.wr .globalFaultLast 0 i (p.getD i 0) s) { s with faultTimes := x, suppressed := 0 }) :=
    .foldl (.of_host hs rfl) fun _ _ h => .wr h
  exact .ite (.ite (.stageRec hw) (.updFaultN <| .setB <| .bump <| .ite (.dropReport0 <| .dropRec hw) hw))
    (.of_host (.bump hs (r := .globalFaultCount) (i := 0) (j := 5) (n := 1)) rfl)

theorem faultLastingAt {first : Stamp} {op u : Nat} {ag : AgentId} {ref : Nat} {origin : BitVec 64} {detail : List Word}
    (hs : Grown f s₀ s) : Grown f s₀ (faultLastingAt first op u ag ref origin detail s) :=
  .updFaultN <| .faultRecord <| .raise <| .setB <| .bump hs
theorem faultLasting {op u : Nat} {ag : AgentId} {ref : Nat} {origin : BitVec 64} {detail : List Word} (hs : Grown f s₀ s) :
    Grown f s₀ (faultLasting op u ag ref origin detail s) := .faultLastingAt hs
theorem faultTransient (hs : Grown f s₀ s) : Grown f s₀ (faultTransient s) := .bump hs

end Grown

/-! Registers. -/

theorem hostLink_off : Reg.off .hostLink 0 0 = 0x1B00040 := by decide

section
variable (f j : Nat)
theorem hostFlumeCfg_off : Reg.off .hostFlumeCfg f 0 = 0x1C00000 + f * 0x40 := rfl
theorem hostFlumeStatus_off : Reg.off .hostFlumeStatus f 0 = 0x1C00028 + f * 0x40 := rfl
theorem hostFlumeSeq_off : Reg.off .hostFlumeSeq f 0 = 0x1C0002C + f * 0x40 := rfl
theorem hostFlumeCplIdx_off : Reg.off .hostFlumeCplIdx f 0 = 0x1C00018 + f * 0x40 := rfl
theorem hostFlumeCount_off : Reg.off .hostFlumeCount f j = 0x1C00030 + f * 0x40 + j * 4 := rfl
theorem hostCount_off : Reg.off .hostCount 0 j = 0x1B00200 + j * 4 := (Nat.add_assoc _ _ _).trans (by rw [Nat.zero_mul, Nat.zero_add]; rfl)
end

/-- The registers of flume f and of the host's part that other work leaves alone. -/
def keptOffs (f : Nat) : List Nat :=
  [Reg.off .hostLink 0 0, Reg.off .hostCount 0 3, Reg.off .hostCount 0 5, Reg.off .hostFlumeCfg f 0,
   Reg.off .hostFlumeStatus f 0, Reg.off .hostFlumeCount f 0]

theorem mem_keptOffs {f o : Nat} : o ∈ keptOffs f ↔ o = 0x1B00040 ∨ o = 0x1B0020C ∨ o = 0x1B00214 ∨
    o = 0x1C00000 + f * 0x40 ∨ o = 0x1C00028 + f * 0x40 ∨ o = 0x1C00030 + f * 0x40 := by
  simp only [keptOffs, List.mem_cons, List.not_mem_nil, or_false]
  exact Iff.rfl

/-- Reports write to flumes 0 and 1 their sequence and to flume 0 its drops; the rest lies elsewhere. -/
theorem faultOffs_places : ∀ o ∈ faultOffs, o = 0x1C0002C ∨ o = 0x1C0006C ∨ o = 0x1C00034 ∨ o = 0x1B00204 ∨ o < 0x1B00040 ∨
    0x1C40000 ≤ o := by
  decide

theorem keptOffs_quiet {f o : Nat} (hf : f < 4096) (ho : o ∈ keptOffs f) : o ∉ faultOffs := by
  intro h
  have hp := faultOffs_places o h
  rw [mem_keptOffs] at ho
  omega

theorem faultLastingAt_reported (first : Stamp) (op u : Nat) (ag : AgentId) (ref : Nat) (origin : BitVec 64)
    (detail : List Word) (s : State) : Reported faultOffs s (faultLastingAt first op u ag ref origin detail s) :=
  have hbump := bump_reported (ro := faultOffs) (s := s) (r := .globalFaultCount) (i := 0) (j := 1) 1 (by decide)
  have hset := setB_reported (ro := faultOffs) (s := bump .globalFaultCount 0 1 1 s) (r := .globalFaultStatus) (i := 0)
    (j := 0) 7 true (by decide)
  ((hbump.trans hset).trans ((raise_reported _ _ _ _).mono eventOffs_sub)).trans
    ((faultRecord_reported _ _ _ _ _ _ _ _ _ _ _ _).trans (updFaultN_reported _ _))

/-- What stays of the writes of flume f's records and of their counts. -/
structure HostLogged (f : Nat) (s₀ s : State) : Prop where
  out : s₀.host.out <+: s.host.out
  written : rd s .hostFlumeCount f 0 = rd s₀ .hostFlumeCount f 0
  retried : rd s .hostCount 0 3 = rd s₀ .hostCount 0 3
  checked : rd s .hostCount 0 5 = rd s₀ .hostCount 0 5

/-- What work for other flumes, reports and admissions leave of flume f. -/
structure HostKept (f : Nat) (s₀ s : State) : Prop extends HostLogged f s₀ s where
  link : rd s .hostLink 0 0 = rd s₀ .hostLink 0 0
  masters : s.host.busMaster = s₀.host.busMaster
  engine : s.boot.engineId = s₀.boot.engineId
  cfg : rd s .hostFlumeCfg f 0 = rd s₀ .hostFlumeCfg f 0
  state : fstate s f = fstate s₀ f
  cause : getF s .hostFlumeStatus f 0 4 4 = getF s₀ .hostFlumeStatus f 0 4 4
  retry : (flume s f).retry = (flume s₀ f).retry
  lastSeq : (flume s f).lastSeq = (flume s₀ f).lastSeq

theorem HostLogged.trans {f : Nat} {s t u : State} (h : HostLogged f s t) (k : HostLogged f t u) : HostLogged f s u :=
  ⟨h.out.trans k.out, k.written.trans h.written, k.retried.trans h.retried, k.checked.trans h.checked⟩

namespace HostKept

variable {f : Nat} {s₀ s t : State}

theorem refl (f : Nat) (s : State) : HostKept f s s :=
  { out := List.prefix_refl _, written := rfl, retried := rfl, checked := rfl, link := rfl, masters := rfl, engine := rfl,
    cfg := rfl, state := rfl, cause := rfl, retry := rfl, lastSeq := rfl }

/-- An operation that keeps the other registers, the flume's state and these parts of the host. -/
theorem of_fields (hs : HostKept f s₀ s)
    (hr : ∀ o ∈ keptOffs f, o ≠ Reg.off .hostFlumeStatus f 0 → spGet t.regs o 0 = spGet s.regs o 0)
    (hstate : fstate t f = fstate s f) (hcause : getF t .hostFlumeStatus f 0 4 4 = getF s .hostFlumeStatus f 0 4 4)
    (hm : t.host.busMaster = s.host.busMaster) (he : t.boot.engineId = s.boot.engineId)
    (ho : s.host.out <+: t.host.out) (hretry : (flume t f).retry = (flume s f).retry)
    (hlast : (flume t f).lastSeq = (flume s f).lastSeq) : HostKept f s₀ t := by
  have hrd (r : Reg) (i j : Nat) (h : r.off i j ∈ keptOffs f) (h' : r.off i j ≠ Reg.off .hostFlumeStatus f 0) :
      rd t r i j = rd s r i j := rd_of_off (hr _ h h')
  exact
    { out := hs.out.trans ho
      written := (hrd _ _ _ (by simp [keptOffs]) (by rw [hostFlumeCount_off, hostFlumeStatus_off]; omega)).trans hs.written
      retried := (hrd _ _ _ (by simp [keptOffs]) (by rw [hostCount_off, hostFlumeStatus_off]; omega)).trans hs.retried
      checked := (hrd _ _ _ (by simp [keptOffs]) (by rw [hostCount_off, hostFlumeStatus_off]; omega)).trans hs.checked
      link := (hrd _ _ _ (by simp [keptOffs]) (by rw [hostLink_off, hostFlumeStatus_off]; omega)).trans hs.link
      masters := hm.trans hs.masters
      engine := he.trans hs.engine
      cfg := (hrd _ _ _ (by simp [keptOffs]) (by rw [hostFlumeCfg_off, hostFlumeStatus_off]; omega)).trans hs.cfg
      state := hstate.trans hs.state
      cause := hcause.trans hs.cause
      retry := hretry.trans hs.retry
      lastSeq := hlast.trans hs.lastSeq }

/-- An operation that keeps the registers and these parts of the host. -/
theorem of_parts (hs : HostKept f s₀ s) (hr : ∀ o ∈ keptOffs f, spGet t.regs o 0 = spGet s.regs o 0)
    (hm : t.host.busMaster = s.host.busMaster) (he : t.boot.engineId = s.boot.engineId)
    (ho : s.host.out <+: t.host.out) (hretry : (flume t f).retry = (flume s f).retry)
    (hlast : (flume t f).lastSeq = (flume s f).lastSeq) : HostKept f s₀ t := by
  have hstatus : rd t .hostFlumeStatus f 0 = rd s .hostFlumeStatus f 0 := rd_of_off (hr _ (by simp [keptOffs]))
  exact hs.of_fields (fun o h _ => hr o h) (getF_of_rd hstatus _ _) (getF_of_rd hstatus _ _) hm he ho hretry hlast

theorem ite {p : Prop} {_ : Decidable p} (hs : HostKept f s₀ s) (ht : HostKept f s₀ t) :
    HostKept f s₀ (if p then s else t) := by
  split <;> assumption

theorem foldl {β : Type} {g : State → β → State} {l : List β} (hs : HostKept f s₀ s)
    (hg : ∀ s b, HostKept f s₀ s → HostKept f s₀ (g s b)) : HostKept f s₀ (l.foldl g s) :=
  List.foldlRecOn l g hs fun s h b _ => hg s b h

theorem wr {r : Reg} {i j : Nat} {v : BitVec 32} (h : r.off i j ∉ keptOffs f) (hs : HostKept f s₀ s) :
    HostKept f s₀ (wr r i j v s) :=
  hs.of_parts (fun _ ho => spGet_spPut_ne _ _ _ _ fun e => h (e ▸ ho)) rfl rfl (List.prefix_refl _) rfl rfl

theorem setF {r : Reg} {i j lo w x : Nat} (h : r.off i j ∉ keptOffs f) (hs : HostKept f s₀ s) :
    HostKept f s₀ (setF r i j lo w x s) := .wr h hs
theorem setB {r : Reg} {i j k : Nat} {b : Bool} (h : r.off i j ∉ keptOffs f) (hs : HostKept f s₀ s) :
    HostKept f s₀ (setB r i j k b s) := .wr h hs
theorem bump {r : Reg} {i j n : Nat} (h : r.off i j ∉ keptOffs f) (hs : HostKept f s₀ s) :
    HostKept f s₀ (bump r i j n s) := .wr h hs

/-- Items that wait. -/
theorem waiting {x : List (Nat × Item)} (hs : HostKept f s₀ s) :
    HostKept f s₀ { s with host := { s.host with waiting := x } } :=
  hs.of_parts (fun _ _ => rfl) rfl rfl (List.prefix_refl _) rfl rfl

theorem setFlume {g : Nat} {x : Flume} (hretry : x.retry = (flume s g).retry) (hlast : x.lastSeq = (flume s g).lastSeq)
    (hs : HostKept f s₀ s) : HostKept f s₀ (setFlume g x s) := by
  have hx : (flume (Machine.setFlume g x s) f).retry = (flume s f).retry ∧
      (flume (Machine.setFlume g x s) f).lastSeq = (flume s f).lastSeq := by
    by_cases h : f = g
    · subst h
      rw [flume_setFlume]
      exact ⟨hretry, hlast⟩
    · rw [flume_setFlume_ne _ _ h]
      exact ⟨rfl, rfl⟩
  exact hs.of_parts (fun _ _ => rfl) rfl rfl (List.prefix_refl _) hx.1 hx.2

/-- The status of a flume: SPILLING and USED are neither its state nor its cause. -/
theorem setStatus {g lo w x : Nat} (h : 3 ≤ lo ∧ lo + w ≤ 4 ∨ 8 ≤ lo ∧ lo + w ≤ 32) (hs : HostKept f s₀ s) :
    HostKept f s₀ (Machine.setF .hostFlumeStatus g 0 lo w x s) := by
  by_cases hg : g = f
  · subst hg
    have hkept {a b : Nat} (hab : a + b ≤ lo ∨ lo + w ≤ a) :
        getF (Machine.setF .hostFlumeStatus g 0 lo w x s) .hostFlumeStatus g 0 a b = getF s .hostFlumeStatus g 0 a b := by
      rcases hab with hab | hab
      · exact getF_setF_below _ _ _ _ _ _ _ _ _ (by omega) hab
      · exact getF_setF_above _ _ _ _ _ _ _ _ _ (by omega) hab
    exact hs.of_fields (fun _ _ ho => spGet_spPut_ne _ _ _ _ ho) (hkept (by omega)) (hkept (by omega)) rfl rfl
      (List.prefix_refl _) rfl rfl
  · refine .setF (fun hm => ?_) hs
    rw [mem_keptOffs, hostFlumeStatus_off] at hm
    omega

theorem showFlume {g : Nat} (hs : HostKept f s₀ s) : HostKept f s₀ (showFlume g s) :=
  .setStatus (by decide) (.setStatus (by decide) hs)

theorem hostFlumeSeq {g : Nat} {v : BitVec 32} (hs : HostKept f s₀ s) : HostKept f s₀ (Machine.wr .hostFlumeSeq g 0 v s) := by
  refine .wr (fun hm => ?_) hs
  rw [mem_keptOffs, hostFlumeSeq_off] at hm
  omega

theorem hostFlumeDrops {g n : Nat} (hs : HostKept f s₀ s) : HostKept f s₀ (Machine.bump .hostFlumeCount g 1 n s) := by
  refine .wr (fun hm => ?_) hs
  rw [mem_keptOffs, hostFlumeCount_off] at hm
  omega

theorem hostDiscards {n : Nat} (hs : HostKept f s₀ s) : HostKept f s₀ (Machine.bump .hostCount 0 0 n s) := by
  refine .wr (fun hm => ?_) hs
  rw [mem_keptOffs, hostCount_off] at hm
  omega

theorem stageRec {g : Nat} {r : StagedRec} (hs : HostKept f s₀ s) : HostKept f s₀ (stageRec g r s) :=
  .setFlume rfl rfl hs.hostFlumeSeq

theorem dropRec {g : Nat} (hs : HostKept f s₀ s) : HostKept f s₀ (dropRec g s) :=
  .setFlume rfl rfl hs.hostFlumeSeq.hostFlumeDrops

/-! The rest needs that the flume is one of the engine's. -/

variable (hf : f < 4096)
include hf

/-- An operation that reports. -/
theorem report (hs : HostKept f s₀ s) (hr : Reported faultOffs s t) (hg : Grown f s t) : HostKept f s₀ t :=
  hs.of_parts (fun o ho => hr.regs o (keptOffs_quiet hf ho)) (by rw [hr.host]) (by rw [hr.boot]) hg.out hg.retry hg.lastSeq

theorem raise {code u : Nat} {data : List EvField} (hs : HostKept f s₀ s) : HostKept f s₀ (raise code u data s) :=
  hs.report hf ((raise_reported _ _ _ _).mono eventOffs_sub) (.raise <| .refl f s)
theorem raiseRated {code u n : Nat} {q : List EvField} (hs : HostKept f s₀ s) : HostKept f s₀ (raiseRated code u q n s) :=
  hs.report hf ((raiseRated_reported _ _ _ _ _).mono eventOffs_sub) (.raiseRated <| .refl f s)
theorem faultLasting {op u : Nat} {ag : AgentId} {ref : Nat} {origin : BitVec 64} {detail : List Word}
    (hs : HostKept f s₀ s) : HostKept f s₀ (faultLasting op u ag ref origin detail s) :=
  hs.report hf (faultLasting_reported _ _ _ _ _ _ _) (.faultLasting <| .refl f s)
theorem faultLastingAt {first : Stamp} {op u : Nat} {ag : AgentId} {ref : Nat} {origin : BitVec 64} {detail : List Word}
    (hs : HostKept f s₀ s) : HostKept f s₀ (faultLastingAt first op u ag ref origin detail s) :=
  hs.report hf (faultLastingAt_reported _ _ _ _ _ _ _ _) (.faultLastingAt <| .refl f s)
theorem faultTransient (hs : HostKept f s₀ s) : HostKept f s₀ (faultTransient s) :=
  hs.report hf (faultTransient_reported s) (.faultTransient <| .refl f s)

theorem admitItem {b g : Nat} {i : Item} (hs : HostKept f s₀ s) : HostKept f s₀ (admitItem b g i s) :=
  .ite hs.waiting <| .ite (.showFlume <| .setFlume rfl rfl <| hs.hostFlumeSeq) <|
    .ite (.showFlume <| hs.stageRec) <| .ite hs.waiting <| raiseRated hf <| hs.dropRec

theorem steerItem {b : Nat} {i : Item} (hs : HostKept f s₀ s) : HostKept f s₀ (steerItem b i s) := by
  unfold Machine.steerItem
  split
  · exact hs.admitItem hf
  · exact hs.hostDiscards.raiseRated hf

theorem retryWaiting (hs : HostKept f s₀ s) : HostKept f s₀ (retryWaiting s) :=
  .foldl hs.waiting fun _ _ h => h.steerItem hf

/-- Another flume meets an error. -/
theorem flumeError {g c : Nat} (hg : g ≠ f) (hs : HostKept f s₀ s) : HostKept f s₀ (flumeError g c s) := by
  have hne : Reg.off .hostFlumeStatus g 0 ∉ keptOffs f := by
    intro hm
    rw [mem_keptOffs, hostFlumeStatus_off] at hm
    omega
  exact .ite (retryWaiting hf <| raise hf <| .setF hne <| .setF hne hs) hs

end HostKept

/-! Items. -/

/-- What the fabric has delivered and no consumer has taken. -/
def withDelivered (l : List (Nat × Nat × Item)) (s : State) : State := { s with plan := { s.plan with delivered := l } }

/-- Taking an item changes the list of what the fabric has delivered alone. -/
theorem takeDelivered_delivered {port stream : Nat} {s u : State} {i : Item} (h : takeDelivered port stream s = some (i, u)) :
    ∃ l, u = withDelivered l s := by
  obtain ⟨x, -, hx⟩ := Option.map_eq_some_iff.mp h
  cases hx
  exact ⟨_, rfl⟩

theorem steerTo_bounds {s : State} {b f : Nat} {i : Item} (h : steerTo s b i = some f) :
    2 ≤ f ∧ f ≤ 4095 ∧ fstate s f = 1 := by
  unfold steerTo at h
  extract_lets e g at h
  obtain ⟨hn, hg⟩ := Option.ite_none_left_eq_some.mp h
  rw [← Option.some.inj hg]
  obtain ⟨-, hlow, hhigh, hopen⟩ : bit e 13 = true ∧ 1 < g ∧ g ≤ 4095 ∧ fstate s g = 1 := by
    simpa [not_or, and_assoc] using hn
  exact ⟨hlow, hhigh, hopen⟩

theorem stagedSize_pos (p : List Word) : 0 < stagedSize p := by
  unfold stagedSize
  omega

section
variable {b f : Nat} {i : Item} {s : State}

/-- Behind an item that its consumer stream holds an item waits too. -/
theorem admitItem_behind (hwait : (s.host.waiting.any fun w => w.1 == b) = true) :
    admitItem b f i s = { s with host := { s.host with waiting := s.host.waiting ++ [(b, i)] } } :=
  if_pos hwait

variable (hwait : (s.host.waiting.any fun w => w.1 == b) = false) (hspill : (flume s f).spill = [])
include hwait hspill

/-- An item for which pool and quota have room is staged. -/
theorem admitItem_stages (hpool : poolUsed s + stagedSize i.payload ≤ poolSize s)
    (hquota : stagedBytes (flume s f) + stagedSize i.payload ≤ getF s .hostFlumeCfg f 0 22 8 * 65536) :
    admitItem b f i s = showFlume f (stageRec f (itemRec i) s) := by
  have hq : stagedBytes (flume s f) + stagedSize i.payload ≤ fld (rd s .hostFlumeCfg f 0) 22 8 * 65536 := hquota
  simp [admitItem, hwait, hspill, hpool, hq]

variable (hring : getB s .hostFlumeSpill f 0 16 = false) (hpool : poolSize s < poolUsed s + stagedSize i.payload)
include hring hpool

/-- Without room and without a spill ring it waits on a BLOCK flume that can ever take it. -/
theorem admitItem_waits (hblock : getF s .hostFlumeCfg f 0 4 2 = 1) (hever : stagedSize i.payload ≤ poolSize s) :
    admitItem b f i s = { s with host := { s.host with waiting := s.host.waiting ++ [(b, i)] } } := by
  have hm : fld (rd s .hostFlumeCfg f 0) 4 2 = 1 := hblock
  simp [admitItem, hwait, hspill, Nat.not_le.mpr hpool, hring, hm, Nat.not_lt.mpr hever]

/-- Else it is dropped. -/
theorem admitItem_drops (h : getF s .hostFlumeCfg f 0 4 2 ≠ 1 ∨ poolSize s < stagedSize i.payload) :
    admitItem b f i s = dropReport f 1 (dropRec f s) := by
  have hsize : spillSize s f < stagedSize i.payload := by
    simp [spillSize, hring, stagedSize_pos]
  have hm : ¬ (fld (rd s .hostFlumeCfg f 0) 4 2 = 1 ∧ (!decide (poolSize s < stagedSize i.payload ∧
      spillSize s f < stagedSize i.payload)) = true) := by
    rintro ⟨h1, h2⟩
    rcases h with h | h
    · exact h h1
    · simp [h, hsize] at h2
  unfold admitItem
  dsimp only
  rw [if_neg (by simp [hwait]), if_neg (by simp [hspill, hring, spillSize]),
    if_neg (by simp [Nat.not_le.mpr hpool]), if_neg hm]

end

/-- A staged record takes the next number of its flume. -/
theorem stageRec_spec (f : Nat) (r : StagedRec) (s : State) :
    rd (stageRec f r s) .hostFlumeSeq f 0 = rd s .hostFlumeSeq f 0 + 1 ∧
      (flume (stageRec f r s) f).staged =
        (flume s f).staged ++ [{ r with seq := rd s .hostFlumeSeq f 0, lostBefore := (flume s f).lostBefore }] ∧
      (flume (stageRec f r s) f).lostBefore = false := by
  unfold stageRec
  dsimp only
  rw [flume_setFlume]
  exact ⟨rd_wr _ _ _ _ _, rfl, rfl⟩

theorem hostFlumeSeq_ne_count (f j : Nat) : Reg.off .hostFlumeSeq f 0 ≠ Reg.off .hostFlumeCount f j := by
  rw [hostFlumeSeq_off, hostFlumeCount_off]
  omega

theorem hostFlumeSeq_ne_status (f : Nat) : Reg.off .hostFlumeSeq f 0 ≠ Reg.off .hostFlumeStatus f 0 := by
  rw [hostFlumeSeq_off, hostFlumeStatus_off]
  omega

/-- A dropped item takes a number and counts, and its flume remembers the loss. -/
theorem dropRec_spec (f : Nat) (s : State) :
    rd (dropRec f s) .hostFlumeSeq f 0 = rd s .hostFlumeSeq f 0 + 1 ∧
      (rd (dropRec f s) .hostFlumeCount f 1).toNat = satU 32 ((rd s .hostFlumeCount f 1).toNat + 1) ∧
      (flume (dropRec f s) f).staged = (flume s f).staged ∧ (flume (dropRec f s) f).lostBefore = true := by
  unfold dropRec
  dsimp only
  rw [flume_setFlume]
  refine ⟨(rd_wr_ne _ _ (hostFlumeSeq_ne_count f 1)).trans (rd_wr _ _ _ _ _), ?_, rfl, rfl⟩
  refine (rd_bump_toNat (takeSeq f s).2 .hostFlumeCount f 1 1).trans ?_
  rw [show rd (takeSeq f s).2 .hostFlumeCount f 1 = rd s .hostFlumeCount f 1 from
    rd_wr_ne _ _ (hostFlumeSeq_ne_count f 1).symm]

/-- Reports leave the numbers and drops of a consumer's flume alone. -/
theorem hostFlume_quiet {f : Nat} (h2 : 2 ≤ f) (hf : f < 4096) :
    Reg.off .hostFlumeSeq f 0 ∉ eventOffs ∧ Reg.off .hostFlumeCount f 1 ∉ eventOffs := by
  constructor
  · intro h
    have hp := faultOffs_places _ (eventOffs_sub _ h)
    rw [hostFlumeSeq_off] at hp
    omega
  · intro h
    have hp := faultOffs_places _ (eventOffs_sub _ h)
    rw [hostFlumeCount_off] at hp
    omega

/-! Completions. -/

/-- What posting completions leaves of flume f: its records and its buffer. -/
structure Posted (f : Nat) (s₀ s : State) : Prop where
  regs : ∀ o, o ≠ Reg.off .hostFlumeCplIdx f 0 → spGet s.regs o 0 = spGet s₀.regs o 0
  out : s₀.host.out <+: s.host.out
  buf : (flume s f).buf = (flume s₀ f).buf
  staged : (flume s f).staged = (flume s₀ f).staged
  spill : (flume s f).spill = (flume s₀ f).spill

namespace Posted

variable {f : Nat} {s₀ s t : State}

theorem refl (f : Nat) (s : State) : Posted f s s := ⟨fun _ _ => rfl, List.prefix_refl _, rfl, rfl, rfl⟩

theorem ite {p : Prop} {_ : Decidable p} (hs : Posted f s₀ s) (ht : Posted f s₀ t) : Posted f s₀ (if p then s else t) := by
  split <;> assumption

theorem foldl {β : Type} {g : State → β → State} {l : List β} (hs : Posted f s₀ s)
    (hg : ∀ s b, Posted f s₀ s → Posted f s₀ (g s b)) : Posted f s₀ (l.foldl g s) :=
  List.foldlRecOn l g hs fun s h b _ => hg s b h

theorem setFlume {x : Flume} (hs : Posted f s₀ s) (hbuf : x.buf = (flume s f).buf) (hstaged : x.staged = (flume s f).staged)
    (hspill : x.spill = (flume s f).spill) : Posted f s₀ (setFlume f x s) := by
  have hx : flume (Machine.setFlume f x s) f = x := flume_setFlume _ _ _
  exact ⟨hs.regs, hs.out, by rw [hx, hbuf, hs.buf], by rw [hx, hstaged, hs.staged], by rw [hx, hspill, hs.spill]⟩

theorem index {lo w x : Nat} (hs : Posted f s₀ s) : Posted f s₀ (setF .hostFlumeCplIdx f 0 lo w x s) :=
  ⟨fun o ho => (spGet_spPut_ne _ _ _ _ ho).trans (hs.regs o ho), hs.out, hs.buf, hs.staged, hs.spill⟩

theorem host {x : List HostOut} (hs : Posted f s₀ s) :
    Posted f s₀ { s with host := { s.host with out := s.host.out ++ x } } :=
  ⟨hs.regs, hs.out.trans (List.prefix_append _ _), hs.buf, hs.staged, hs.spill⟩

theorem msixDeliver {fn vec : Nat} (hs : Posted f s₀ s) : Posted f s₀ (msixDeliver fn vec s) :=
  .ite ⟨hs.regs, hs.out, hs.buf, hs.staged, hs.spill⟩ hs.host
theorem msixSignal {fn vec : Nat} (hs : Posted f s₀ s) : Posted f s₀ (msixSignal fn vec s) :=
  .ite hs (.foldl hs fun _ _ h => .ite h.msixDeliver h)
theorem flumeIrq (hs : Posted f s₀ s) : Posted f s₀ (flumeIrq f s) := .msixSignal <| .setFlume hs rfl rfl rfl

theorem writeCpl {c : FlumeCpl} (hs : Posted f s₀ s) : Posted f s₀ (writeCpl f c s) := by
  unfold Machine.writeCpl
  extract_lets n ring src s₁ s₂ x u s₃ cnt
  have h₃ : Posted f s₀ s₃ := .setFlume (.index hs.host) rfl rfl rfl
  exact .ite h₃.flumeIrq h₃

theorem flushHeld (hs : Posted f s₀ s) : Posted f s₀ (flushHeld f s) :=
  .foldl hs fun _ _ h => .ite (.writeCpl <| .setFlume h rfl rfl rfl) h

theorem postCpl {c : FlumeCpl} (hs : Posted f s₀ s) : Posted f s₀ (postCpl f c s) := .flushHeld <| .setFlume hs rfl rfl rfl

end Posted

/-- The buffer that closes leaves the flume, its completion is posted, and the records stay. -/
theorem closeBuf_spec (f flags : Nat) (s : State) :
    (flume (closeBuf f flags s) f).buf = none ∧ (flume (closeBuf f flags s) f).staged = (flume s f).staged ∧
      (flume (closeBuf f flags s) f).spill = (flume s f).spill ∧ s.host.out <+: (closeBuf f flags s).host.out ∧
      ∀ o, o ≠ Reg.off .hostFlumeCplIdx f 0 → spGet (closeBuf f flags s).regs o 0 = spGet s.regs o 0 := by
  unfold closeBuf
  extract_lets x
  split
  next h => exact ⟨h, rfl, rfl, List.prefix_refl _, fun _ _ => rfl⟩
  next b h =>
    extract_lets dropped c
    have hp := Posted.postCpl (c := c) (.refl f (setFlume f { x with
      buf := none, lastDone := if b.records = 0 then x.lastDone else x.lastSeq } s))
    have hx : flume (setFlume f { x with
        buf := none, lastDone := if b.records = 0 then x.lastDone else x.lastSeq } s) f = _ := flume_setFlume _ _ _
    refine ⟨?_, ?_, ?_, hp.out, hp.regs⟩
    · rw [hp.buf, hx]
    · rw [hp.staged, hx]
    · rw [hp.spill, hx]

theorem HostLogged.of_regs {f : Nat} {s t : State}
    (hr : ∀ o, o ∈ keptOffs f → o ≠ Reg.off .hostFlumeStatus f 0 → spGet t.regs o 0 = spGet s.regs o 0)
    (ho : s.host.out <+: t.host.out) : HostLogged f s t := by
  have hrd (r : Reg) (i j : Nat) (h : r.off i j ∈ keptOffs f) (h' : r.off i j ≠ Reg.off .hostFlumeStatus f 0) :
      rd t r i j = rd s r i j := rd_of_off (hr _ h h')
  exact ⟨ho, hrd _ _ _ (by simp [keptOffs]) (by rw [hostFlumeCount_off, hostFlumeStatus_off]; omega),
    hrd _ _ _ (by simp [keptOffs]) (by rw [hostCount_off, hostFlumeStatus_off]; omega),
    hrd _ _ _ (by simp [keptOffs]) (by rw [hostCount_off, hostFlumeStatus_off]; omega)⟩

theorem setFstate_logged (f st cause : Nat) (s : State) : HostLogged f s (setFstate f st cause s) :=
  .of_regs (fun _ _ ho => (spGet_spPut_ne _ _ _ _ ho).trans (spGet_spPut_ne _ _ _ _ ho)) (List.prefix_refl _)

theorem closeBuf_logged (f flags : Nat) (s : State) : HostLogged f s (closeBuf f flags s) := by
  obtain ⟨-, -, -, hout, hregs⟩ := closeBuf_spec f flags s
  refine .of_regs (fun o ho _ => hregs o ?_) hout
  rw [mem_keptOffs] at ho
  rw [hostFlumeCplIdx_off]
  omega

/-- Only a CLOSING flume can close. -/
theorem closeIfDone_of_open {f : Nat} {s : State} (h : fstate s f ≠ 2) : closeIfDone f s = s :=
  if_neg fun hc => h hc.1

section
variable {f : Nat} (hf : f < 4096)
include hf

theorem closeIfDone_logged (s : State) : HostLogged f s (closeIfDone f s) := by
  unfold closeIfDone
  extract_lets x s₁
  have h₁ : HostLogged f s s₁ := closeBuf_logged f 1 s
  split
  · split
    · exact (h₁.trans (setFstate_logged f 0 0 s₁)).trans (HostKept.raise hf (.refl f _)).toHostLogged
    · exact h₁
  · exact ⟨List.prefix_refl _, rfl, rfl, rfl⟩

/-- What closes a flume leaves its records and drops. -/
theorem closeIfDone_records (h2 : 2 ≤ f) (s : State) :
    (flume (closeIfDone f s) f).staged = (flume s f).staged ∧ (flume (closeIfDone f s) f).spill = (flume s f).spill ∧
      rd (closeIfDone f s) .hostFlumeCount f 1 = rd s .hostFlumeCount f 1 := by
  unfold closeIfDone
  extract_lets x s₁
  obtain ⟨-, hstaged, hspill, -, hregs⟩ := closeBuf_spec f 1 s
  have hcount : rd s₁ .hostFlumeCount f 1 = rd s .hostFlumeCount f 1 := by
    refine rd_of_off (hregs _ ?_)
    rw [hostFlumeCount_off, hostFlumeCplIdx_off]
    omega
  split
  · split
    · have hr := raise_reported 0x0D05 0x200 [.u16 f, .u32 (x.lastSeq).toNat] (setFstate f 0 0 s₁)
      have hne : Reg.off .hostFlumeCount f 1 ≠ Reg.off .hostFlumeStatus f 0 := by
        rw [hostFlumeCount_off, hostFlumeStatus_off]
        omega
      rw [hr.flumes f h2, hr.rd_eq _ _ _ (hostFlume_quiet h2 hf).2]
      exact ⟨hstaged, hspill, ((rd_setF_ne _ _ _ _ hne).trans (rd_setF_ne _ _ _ _ hne)).trans hcount⟩
    · exact ⟨hstaged, hspill, hcount⟩
  · exact ⟨rfl, rfl, rfl⟩

end

/-! Records. -/

section
variable {f : Nat} {r : StagedRec} {b : FlumeBuf} {s : State}

/-- A record that is placed: the write, the counts, and the flume before what follows. -/
theorem placeRec_eq (f : Nat) (r : StagedRec) (b : FlumeBuf) (s : State) : ∃ s₃,
    placeRec f r b s = retryWaiting (closeIfDone f (showFlume f s₃)) ∧
      .recordWrite f (b.addr + b.used) (recordHeader s f r) r.payload ∈ s₃.host.out ∧
      rd s₃ .hostFlumeCount f 0 = rd s .hostFlumeCount f 0 + 1 ∧ rd s₃ .hostCount 0 3 = rd s .hostCount 0 3 ∧
      rd s₃ .hostCount 0 5 = rd s .hostCount 0 5 ∧ fstate s₃ f = fstate s f ∧ (flume s₃ f).lastSeq = r.seq ∧
      (flume s₃ f).retry = false := by
  have hcount (q : Reg) (i j : Nat) (h0 : q.off i j ≠ Reg.off .hostFlumeCount f 0)
      (h2 : q.off i j ≠ Reg.off .hostFlumeCount f 2) (v : BitVec 32) (n : Nat) (u : State) :
      rd (bump .hostFlumeCount f 2 n (wr .hostFlumeCount f 0 v u)) q i j = rd u q i j :=
    (rd_bump_ne _ _ h2).trans (rd_wr_ne _ _ h0)
  refine ⟨_, rfl, List.mem_append_right _ (List.mem_singleton.mpr rfl), ?_, ?_, ?_, ?_,
    congrArg Flume.lastSeq (flume_setFlume _ _ _), congrArg Flume.retry (flume_setFlume _ _ _)⟩
  · refine (rd_bump_ne _ _ ?_).trans (rd_wr _ _ _ _ _)
    rw [hostFlumeCount_off, hostFlumeCount_off]
    omega
  · refine hcount _ _ _ ?_ ?_ _ _ _
    all_goals
      rw [hostFlumeCount_off, hostCount_off]
      omega
  · refine hcount _ _ _ ?_ ?_ _ _ _
    all_goals
      rw [hostFlumeCount_off, hostCount_off]
      omega
  · refine getF_of_rd (hcount _ _ _ ?_ ?_ _ _ _) _ _
    all_goals
      rw [hostFlumeCount_off, hostFlumeStatus_off]
      omega

/-- What a placed record leaves. -/
structure Placed (f : Nat) (r : StagedRec) (b : FlumeBuf) (s t : State) : Prop where
  out : .recordWrite f (b.addr + b.used) (recordHeader s f r) r.payload ∈ t.host.out
  written : rd t .hostFlumeCount f 0 = rd s .hostFlumeCount f 0 + 1
  retried : rd t .hostCount 0 3 = rd s .hostCount 0 3
  checked : rd t .hostCount 0 5 = rd s .hostCount 0 5
  isOpen : fstate s f = 1 → fstate t f = 1 ∧ (flume t f).lastSeq = r.seq ∧ (flume t f).retry = false

theorem placeRec_placed (hf : f < 4096) (r : StagedRec) (b : FlumeBuf) (s : State) : Placed f r b s (placeRec f r b s) := by
  obtain ⟨s₃, heq, hout, hwritten, hretried, hchecked, hstate, hlast, hretry⟩ := placeRec_eq f r b s
  have hshow : HostKept f s₃ (showFlume f s₃) := .showFlume (.refl f s₃)
  have hend : HostKept f (closeIfDone f (showFlume f s₃)) (retryWaiting (closeIfDone f (showFlume f s₃))) :=
    .retryWaiting hf (.refl f _)
  have hlog := (hshow.toHostLogged.trans (closeIfDone_logged hf _)).trans hend.toHostLogged
  rw [heq]
  refine ⟨hlog.out.subset hout, hlog.written.trans hwritten, hlog.retried.trans hretried, hlog.checked.trans hchecked,
    fun h1 => ?_⟩
  have hopen : fstate (showFlume f s₃) f = 1 := hshow.state.trans (hstate.trans h1)
  rw [closeIfDone_of_open (by rw [hopen]; decide)] at hend ⊢
  exact ⟨hend.state.trans hopen, hend.lastSeq.trans (hshow.lastSeq.trans hlast), hend.retry.trans (hshow.retry.trans hretry)⟩

theorem headRec_mapHead (g : StagedRec → StagedRec) (x : Flume) : headRec (mapHead g x) = (headRec x).map g := by
  cases hs : x.staged with
  | cons a rest => simp [mapHead, headRec, hs]
  | nil =>
    cases hsp : x.spill with
    | cons a rest => simp [mapHead, headRec, hs, hsp]
    | nil => simp [mapHead, headRec, hs, hsp]

theorem mapHead_rest (g : StagedRec → StagedRec) (x : Flume) :
    (mapHead g x).buf = x.buf ∧ (mapHead g x).retry = x.retry ∧ (mapHead g x).lastSeq = x.lastSeq ∧
      (x.spill = [] → (mapHead g x).spill = []) := by
  cases hs : x.staged with
  | cons a rest => simp [mapHead, hs]
  | nil => cases hsp : x.spill <;> simp [mapHead, hs, hsp]

theorem mapHead_lengths (g : StagedRec → StagedRec) (x : Flume) :
    (mapHead g x).staged.length = x.staged.length ∧ (mapHead g x).spill.length = x.spill.length := by
  unfold mapHead
  split
  next h => simp [h]
  next h =>
    split
    next h' => simp [h']
    next => exact ⟨rfl, rfl⟩

theorem markLost_lengths (x : Flume) :
    (markLost x).staged.length = x.staged.length ∧ (markLost x).spill.length = x.spill.length := by
  unfold markLost
  split
  · exact mapHead_lengths _ _
  · exact ⟨rfl, rfl⟩

theorem dropHead_lengths {x : Flume} (h : headRec x = some r) :
    (dropHead x).staged.length + (dropHead x).spill.length + 1 = x.staged.length + x.spill.length := by
  unfold headRec at h
  unfold dropHead
  split
  next a rest hs => simp [hs]; omega
  next hs =>
    rw [hs] at h
    dsimp only at h
    split at h
    next a rest hsp => simp [hsp, hs]
    next => cases h

/-- Reports leave the oldest record of a flume the oldest. -/
theorem headRec_report {t : State} (hr : Reported faultOffs s t) (hg : Grown f s t) (h : 2 ≤ f ∨ (flume s f).spill = [])
    (hd : headRec (flume s f) = some r) : headRec (flume t f) = some r := by
  by_cases h2 : 2 ≤ f
  · rw [hr.flumes f h2, hd]
  · have hspill := h.resolve_left h2
    obtain ⟨more, hmore⟩ := hg.staged
    unfold headRec at hd ⊢
    cases hs : (flume s f).staged with
    | nil =>
      rw [hs, hspill] at hd
      cases hd
    | cons a rest =>
      rw [hs] at hd hmore
      rw [← hmore]
      exact hd

end

/-! The exit check. -/

/-- What the exit check leaves, the oldest record being r' after it. -/
structure Checked (f : Nat) (r' : StagedRec) (s t : State) : Prop where
  head : headRec (flume t f) = some r'
  issue : canIssue t f = canIssue s f
  header : recordHeader t f = recordHeader s f
  state : fstate t f = fstate s f
  written : rd t .hostFlumeCount f 0 = rd s .hostFlumeCount f 0
  buf : (flume t f).buf = (flume s f).buf

theorem recordHeader_of_engine {s t : State} (h : t.boot.engineId = s.boot.engineId) (f : Nat) :
    recordHeader t f = recordHeader s f := by
  funext r
  unfold recordHeader
  rw [h]

theorem canIssue_of_kept {f : Nat} {s t : State} (h : HostKept f s t) : canIssue t f = canIssue s f := by
  unfold canIssue
  rw [getB, h.link, h.masters, getF_of_rd h.cfg]
  rfl

section
variable {f : Nat} {r : StagedRec} {s : State} {good1 good2 : Bool} (hf : f < 4096)
  (hplace : 2 ≤ f ∨ (flume s f).spill = []) (hd : headRec (flume s f) = some r)
include hf hplace hd

/-- A check that succeeds, at once or after it is read again, leaves the record. -/
theorem exitCheck_good (hcrc : crcWords (coveredPayload r.kind r.payload) = r.crc) (hgood : good1 = true ∨ good2 = true) :
    Checked f r s (exitCheck f good1 good2 s) := by
  have hcheck : exitCheck f good1 good2 s = s ∨
      exitCheck f good1 good2 s = raiseRated 0x0D09 0x200 [] 1 (faultTransient s) := by
    unfold exitCheck
    rw [hd]
    rcases hgood with h | h
    · exact .inl (by simp [h, hcrc])
    · cases good1
      · exact .inr (by simp [h, hcrc])
      · exact .inl (by simp [hcrc])
  rcases hcheck with h | h
  · rw [h]
    exact ⟨hd, rfl, rfl, rfl, rfl, rfl⟩
  · rw [h]
    have hk : HostKept f s (raiseRated 0x0D09 0x200 [] 1 (faultTransient s)) := .raiseRated hf (.faultTransient hf (.refl f s))
    have hg : Grown f s (raiseRated 0x0D09 0x200 [] 1 (faultTransient s)) := .raiseRated (.faultTransient (.refl f s))
    have hr : Reported faultOffs s (raiseRated 0x0D09 0x200 [] 1 (faultTransient s)) :=
      (faultTransient_reported s).trans ((raiseRated_reported _ _ _ _ _).mono eventOffs_sub)
    exact ⟨headRec_report hr hg hplace hd, canIssue_of_kept hk, recordHeader_of_engine hk.engine f, hk.state, hk.written,
      hg.buf⟩

/-- A check that fails twice marks the record, counts, and is reported as a lasting fault. -/
theorem exitCheck_bad (hbad : crcWords (coveredPayload r.kind r.payload) ≠ r.crc ∨ (good1 = false ∧ good2 = false)) :
    Checked f { r with checkFailed := true } s (exitCheck f good1 good2 s) ∧
      (rd (exitCheck f good1 good2 s) .hostCount 0 5).toNat = satU 32 ((rd s .hostCount 0 5).toNat + 1) ∧
      RaisedData s (exitCheck f good1 good2 s) 0x0E12 0x210 [.u16 5, .u16 0x200, .u32 2] := by
  set s₁ := bump .hostCount 0 5 1 (setFlume f (mapHead (fun r => { r with checkFailed := true }) (flume s f)) s)
  obtain ⟨ag, ref, hcheck⟩ : ∃ ag ref, exitCheck f good1 good2 s =
      faultLasting 5 0x200 ag ref r.origin [] (setB .globalFaultStatus 0 0 8 true s₁) := by
    unfold exitCheck
    rw [hd]
    dsimp only
    rw [if_neg (by rcases hbad with h | h <;> simp [h]), if_neg (by rcases hbad with h | h <;> simp [h])]
    exact ⟨_, _, rfl⟩
  have hx : flume s₁ f = mapHead (fun r => { r with checkFailed := true }) (flume s f) := flume_setFlume _ _ _
  obtain ⟨hbuf, -, -, hspill⟩ := mapHead_rest (fun r => { r with checkFailed := true }) (flume s f)
  have hquiet : Reg.off .globalFaultStatus 0 0 ∉ keptOffs f := by
    intro hm
    rw [mem_keptOffs] at hm
    have hoff : Reg.off .globalFaultStatus 0 0 < 0x1B00040 ∨ 0x1C40000 ≤ Reg.off .globalFaultStatus 0 0 := by decide
    omega
  have hk : HostKept f s₁ (exitCheck f good1 good2 s) := by
    rw [hcheck]
    exact .faultLasting hf (.setB hquiet (.refl f s₁))
  have hg : Grown f s₁ (exitCheck f good1 good2 s) := by
    rw [hcheck]
    exact .faultLasting (.setB (.refl f s₁))
  have hr : Reported faultOffs s₁ (exitCheck f good1 good2 s) := by
    rw [hcheck]
    exact (setB_reported 8 true (by decide)).trans (faultLasting_reported _ _ _ _ _ _ _)
  have hcount (q : Reg) (i j : Nat) (h : q.off i j ≠ Reg.off .hostCount 0 5) : rd s₁ q i j = rd s q i j := rd_bump_ne _ _ h
  refine ⟨?_, ?_, ?_⟩
  · refine ⟨headRec_report hr hg ?_ ?_, ?_, recordHeader_of_engine hk.engine f, ?_, ?_, ?_⟩
    · exact hplace.imp_right fun h => by rw [hx]; exact hspill h
    · rw [hx, headRec_mapHead, hd]
      rfl
    · refine (canIssue_of_kept hk).trans ?_
      unfold canIssue
      rw [getB, hcount _ _ _ (by decide), getF_of_rd (hcount .hostFlumeCfg f 0 ?_)]
      · rfl
      · rw [hostFlumeCfg_off, hostCount_off]
        omega
    · refine hk.state.trans (getF_of_rd (hcount _ _ _ ?_) _ _)
      rw [hostFlumeStatus_off, hostCount_off]
      omega
    · refine hk.written.trans (hcount _ _ _ ?_)
      rw [hostFlumeCount_off, hostCount_off]
      omega
    · rw [hg.buf, hx, hbuf]
  · rw [hk.checked]
    exact rd_bump_toNat _ _ _ _ _
  · rw [hcheck]
    exact (faultLasting_raised _ _ _ _ _ _ _).since
      (Onward.setB (P := False) (Q := False) <| .bump <| .setFlume <| .refl s)

end

/-! Dropped records and errors. -/

theorem setF_host (r : Reg) (i j lo w x : Nat) (s : State) : (setF r i j lo w x s).host = s.host := rfl

theorem flume_setF (r : Reg) (i j lo w x : Nat) (s : State) (f : Nat) : flume (setF r i j lo w x s) f = flume s f := rfl

theorem flume_bump (r : Reg) (i j n : Nat) (s : State) (f : Nat) : flume (bump r i j n s) f = flume s f := rfl

theorem flume_wr (r : Reg) (i j : Nat) (v : BitVec 32) (s : State) (f : Nat) : flume (wr r i j v s) f = flume s f := rfl

theorem flume_showFlume (g : Nat) (s : State) (f : Nat) : flume (showFlume g s) f = flume s f := by
  rw [showFlume, flume_setF, setB, flume_setF]

theorem flume_stageRec_ne {f g : Nat} (h : f ≠ g) (r : StagedRec) (s : State) : flume (stageRec g r s) f = flume s f := by
  unfold stageRec takeSeq
  dsimp only
  rw [flume_setFlume_ne _ _ h, flume_wr]

theorem flume_dropRec_ne {f g : Nat} (h : f ≠ g) (s : State) : flume (dropRec g s) f = flume s f := by
  unfold dropRec takeSeq
  dsimp only
  rw [flume_setFlume_ne _ _ h, flume_bump, flume_wr]

/-- An item for another flume. -/
theorem flume_admitItem {b f g : Nat} {i : Item} {s : State} (h2 : 2 ≤ f) (h : f ≠ g) :
    flume (admitItem b g i s) f = flume s f := by
  unfold admitItem takeSeq
  dsimp only
  split
  · rfl
  · split
    · rw [flume_showFlume, flume_setFlume_ne _ _ h, flume_wr]
    · split
      · rw [flume_showFlume, flume_stageRec_ne h]
      · split
        · rfl
        · rw [dropReport, (raiseRated_reported _ _ _ _ _).flumes f h2, flume_dropRec_ne h]

section
variable {f : Nat} (hf : f < 4096)
include hf

/-- A dropped record leaves the state of its flume. -/
theorem dropAdmitted_state (s : State) : fstate (dropAdmitted f s) f = fstate s f := by
  unfold dropAdmitted dropReport
  extract_lets src x
  have hk : HostKept f (setFlume f (markLost x) s)
      (raiseRated 0x0D02 0x200 [.u16 f] 1 (showFlume f (bump .hostFlumeCount f 1 1 (setFlume f (markLost x) s)))) :=
    .raiseRated hf (.showFlume (.hostFlumeDrops (.refl f _)))
  exact hk.state

/-- A dropped record of a consumer's flume counts, and takes one record away. -/
theorem dropAdmitted_records (h2 : 2 ≤ f) {r : StagedRec} {s : State} (hd : headRec (flume s f) = some r) :
    (rd (dropAdmitted f s) .hostFlumeCount f 1).toNat = satU 32 ((rd s .hostFlumeCount f 1).toNat + 1) ∧
      (flume (dropAdmitted f s) f).staged.length + (flume (dropAdmitted f s) f).spill.length + 1 =
        (flume s f).staged.length + (flume s f).spill.length := by
  unfold dropAdmitted dropReport
  extract_lets src x
  set s₁ := setFlume f (markLost x) s
  have hr := raiseRated_reported 0x0D02 0x200 [.u16 f] 1 (showFlume f (bump .hostFlumeCount f 1 1 s₁))
  have hx : flume (showFlume f (bump .hostFlumeCount f 1 1 s₁)) f = markLost x := by
    rw [flume_showFlume, flume_bump, flume_setFlume]
  have hne : Reg.off .hostFlumeCount f 1 ≠ Reg.off .hostFlumeStatus f 0 := by
    rw [hostFlumeCount_off, hostFlumeStatus_off]
    omega
  obtain ⟨hstaged, hspill⟩ := markLost_lengths x
  rw [hr.flumes f h2, hx, hstaged, hspill, hr.rd_eq _ _ _ (hostFlume_quiet h2 hf).2]
  refine ⟨?_, dropHead_lengths hd⟩
  rw [show rd (showFlume f (bump .hostFlumeCount f 1 1 s₁)) .hostFlumeCount f 1 = rd (bump .hostFlumeCount f 1 1 s₁) .hostFlumeCount f 1
    from (rd_setF_ne _ _ _ _ hne).trans (rd_setF_ne _ _ _ _ hne)]
  exact rd_bump_toNat s₁ _ _ _ _

/-- Nothing is steered to a flume that is not open. -/
theorem retryWaiting_flume (h2 : 2 ≤ f) {s : State} (hst : fstate s f ≠ 1) : flume (retryWaiting s) f = flume s f := by
  have hstep (t : State) (b : Nat) (i : Item) (ht : fstate t f ≠ 1) : flume (steerItem b i t) f = flume t f := by
    unfold steerItem
    split
    next g hg =>
      obtain ⟨-, -, hopen⟩ := steerTo_bounds hg
      have hne : f ≠ g := fun h => ht (by rw [h]; exact hopen)
      exact flume_admitItem h2 hne
    next => exact (raiseRated_reported _ _ _ _ _).flumes f h2
  unfold retryWaiting
  have hfold (l : List (Nat × Item)) (t : State) (ht : fstate t f ≠ 1) :
      flume (l.foldl (fun s e => steerItem e.1 e.2 s) t) f = flume t f := by
    induction l generalizing t with
    | nil => rfl
    | cons e l ih =>
      have hk : HostKept f t (steerItem e.1 e.2 t) := .steerItem hf (.refl f t)
      exact (ih _ (by rw [hk.state]; exact ht)).trans (hstep t e.1 e.2 ht)
  exact hfold _ _ hst

/-- An error of an open or closing flume. -/
theorem flumeError_self {cause : Nat} (hc : cause < 16) {s : State} (hst : fstate s f = 1 ∨ fstate s f = 2) :
    fstate (flumeError f cause s) f = 3 ∧ getF (flumeError f cause s) .hostFlumeStatus f 0 4 4 = cause ∧
      RaisedData s (flumeError f cause s) 0x0D04 0x200 [.u16 f, .u16 cause] ∧
      (2 ≤ f → flume (flumeError f cause s) f = flume s f) := by
  unfold flumeError
  rw [if_pos hst]
  set s₁ := raise 0x0D04 0x200 [.u16 f, .u16 cause] (setFstate f 3 cause s)
  have hraise : HostKept f (setFstate f 3 cause s) s₁ := .raise hf (.refl f _)
  have hk : HostKept f (setFstate f 3 cause s) (retryWaiting s₁) := .retryWaiting hf hraise
  have hstate : fstate (setFstate f 3 cause s) f = 3 :=
    (getF_setF_below _ _ _ _ _ _ _ _ _ (by decide) (by decide)).trans (getF_setF _ _ _ _ _ _ _ (by decide))
  refine ⟨hk.state.trans hstate, hk.cause.trans ((getF_setF _ _ _ _ _ _ _ (by decide)).trans (Nat.mod_eq_of_lt hc)), ?_,
    fun h2 => ?_⟩
  · exact ((raise_raisedData _ _ _ _).since (Onward.setFstate (P := False) (Q := False) (.refl s))).onward
      (P := False) (Q := False) (.retryWaiting (.refl _))
  · rw [retryWaiting_flume hf h2 (by rw [hraise.state, hstate]; decide)]
    exact (raise_reported _ _ _ _).flumes f h2

end

/-! The link. -/

theorem flumeError_link (g c : Nat) (s : State) :
    rd (flumeError g c s) .hostLink 0 0 = rd s .hostLink 0 0 ∧ (flumeError g c s).host.busMaster = s.host.busMaster := by
  unfold flumeError
  split
  · have hk : HostKept 0 (setFstate g 3 c s) (retryWaiting (raise 0x0D04 0x200 [.u16 g, .u16 c] (setFstate g 3 c s))) :=
      .retryWaiting (by decide) (.raise (by decide) (.refl 0 _))
    have hne : Reg.off .hostLink 0 0 ≠ Reg.off .hostFlumeStatus g 0 := by
      rw [hostLink_off, hostFlumeStatus_off]
      omega
    exact ⟨hk.link.trans ((rd_setF_ne _ _ _ _ hne).trans (rd_setF_ne _ _ _ _ hne)), hk.masters⟩
  · exact ⟨rfl, rfl⟩

theorem flumeErrors_link (c : Nat) (l : List Nat) (s : State) :
    rd (l.foldl (fun s f => flumeError f c s) s) .hostLink 0 0 = rd s .hostLink 0 0 ∧
      (l.foldl (fun s f => flumeError f c s) s).host.busMaster = s.host.busMaster := by
  induction l generalizing s with
  | nil => exact ⟨rfl, rfl⟩
  | cons g l ih =>
    obtain ⟨hlink, hmasters⟩ := ih (flumeError g c s)
    obtain ⟨hlink', hmasters'⟩ := flumeError_link g c s
    exact ⟨hlink.trans hlink', hmasters.trans hmasters'⟩

/-- The flume is in ERROR with a cause. -/
def inError (f c : Nat) (s : State) : Prop := fstate s f = 3 ∧ getF s .hostFlumeStatus f 0 4 4 = c

/-- Errors of several flumes put each of them that was open or closing in ERROR. -/
theorem flumeErrors_spec {f c : Nat} (hf : f < 4096) (hc : c < 16) (l : List Nat) (s : State)
    (h : inError f c s ∨ f ∈ l ∧ (fstate s f = 1 ∨ fstate s f = 2)) : inError f c (l.foldl (fun s f => flumeError f c s) s) := by
  induction l generalizing s with
  | nil =>
    rcases h with h | ⟨h, -⟩
    · exact h
    · cases h
  | cons g l ih =>
    refine ih _ ?_
    dsimp only
    by_cases hg : g = f
    · subst hg
      rcases h with h | ⟨-, hst⟩
      · have hno : ¬ (fstate s g = 1 ∨ fstate s g = 2) := by
          rw [h.1]
          decide
        have hsame : flumeError g c s = s := if_neg hno
        rw [hsame]
        exact .inl h
      · obtain ⟨hstate, hcause, -, -⟩ := flumeError_self hf hc hst
        exact .inl ⟨hstate, hcause⟩
    · have hk : HostKept f s (flumeError g c s) := .flumeError hf hg (.refl f s)
      unfold inError
      rw [hk.state, hk.cause]
      rcases h with h | ⟨hm, hst⟩
      · exact .inl h
      · exact .inr ⟨(List.mem_cons.mp hm).resolve_left (Ne.symm hg), hst⟩

/-- Registers of other parts do not see a calibration that is given up. -/
theorem calWatch_rd {r : Reg} {i j : Nat} (hq : r.off i j ∉ eventOffs) (hlow : r.off i j < 0x1D00000) (s : State) :
    rd (calWatch s) r i j = rd s r i j := by
  have hseq : r.off i j ≠ Reg.off .calSeqStatus 0 0 := by
    have h : 0x1D00000 ≤ Reg.off .calSeqStatus 0 0 := by decide
    omega
  have hblock (b : Nat) : r.off i j ≠ Reg.off .calBlockStatus 0 b := by
    have h : Reg.off .calBlockStatus 0 b = 0x1D00100 + 0 * 0 + b * 4 := rfl
    omega
  have hcount (b : Nat) : r.off i j ≠ Reg.off .calCount 0 b := by
    have h : 0x1D00000 ≤ Reg.off .calCount 0 b := Nat.le_add_right_of_le (Nat.le_add_right_of_le (by decide))
    omega
  unfold calWatch
  split
  · rfl
  · split
    · rfl
    · unfold retrimEnd calEnd
      dsimp only
      rw [(raise_reported _ _ _ _).rd_eq _ _ _ hq, (audit_reported _ _ _ _ _ _).rd_eq _ _ _ hq]
      split
      · rw [calBump, rd_setF_ne _ _ _ _ (hcount _), rd_setF_ne _ _ _ _ (hblock _), rd_setF_ne _ _ _ _ hseq, setB,
          rd_setF_ne _ _ _ _ (hblock _), setB, rd_setF_ne _ _ _ _ hseq]
        rfl
      · rw [rd_setF_ne _ _ _ _ hseq, setB, rd_setF_ne _ _ _ _ (hblock _), setB, rd_setF_ne _ _ _ _ hseq]
        rfl

theorem retrimEnd_masters (j : CalJob) (res : Nat) (s : State) : (retrimEnd j res s).host.busMaster = s.host.busMaster := by
  have hend (ag : AgentId) (b op : Nat) (t : State) : (calEnd ag b op res t).host.busMaster = t.host.busMaster := by
    unfold calEnd
    extract_lets s₁ s₂
    have h₁ : s₁.host = t.host := setF_host _ _ _ _ _ _ _
    have h₂ : s₂.host = t.host := by
      unfold s₂
      split
      · rw [calBump, setF_host, setF_host, h₁]
      · exact h₁
    rw [(raise_reported _ _ _ _).host]
    dsimp only
    rw [(audit_reported _ _ _ _ _ _).host]
    dsimp only
    rw [h₂]
  unfold retrimEnd
  dsimp only
  rw [hend, setB, setF_host, setB, setF_host]

theorem calWatch_masters (s : State) : (calWatch s).host.busMaster = s.host.busMaster := by
  unfold calWatch
  split
  · rfl
  · split
    · rfl
    · exact retrimEnd_masters _ _ _

/-! The active flumes. -/

/-- A register that ends before an offset or begins after it does not lie there. -/
theorem hit_none_of_reach {r : Reg} {off : Nat}
    (h : off < r.info.base ∨ r.info.base + (if r.info.s1 = 0 then (if r.info.s2 = 0 then 1 else r.info.n2 * r.info.s2)
      else r.info.n1 * r.info.s1) ≤ off) : r.hit? off = none := by
  unfold Reg.hit?
  extract_lets k d i e j
  replace h : off < k.base ∨ k.base + (if k.s1 = 0 then (if k.s2 = 0 then 1 else k.n2 * k.s2) else k.n1 * k.s1) ≤ off := h
  split
  · rfl
  · next hlow =>
    refine if_neg ?_
    rintro ⟨hi, hj, he⟩
    have hd : off = k.base + d := (Nat.add_sub_cancel' (Nat.not_lt.mp hlow)).symm
    rcases h with h | h
    · exact hlow h
    · by_cases h1 : k.s1 = 0
      · have hi0 : i = 0 := if_pos h1
        have he' : e = d := by rw [show e = d - i * k.s1 from rfl, hi0, Nat.zero_mul, Nat.sub_zero]
        rw [if_pos h1] at h
        by_cases h2 : k.s2 = 0
        · have he0 : e = 0 := by rw [he, h2, Nat.mul_zero]
          rw [if_pos h2] at h
          omega
        · have hlt : j * k.s2 < k.n2 * k.s2 := Nat.mul_lt_mul_of_pos_right hj (Nat.pos_of_ne_zero h2)
          rw [if_neg h2] at h
          omega
      · have hi' : i = d / k.s1 := if_neg h1
        have hlt : d < k.n1 * k.s1 := (Nat.div_lt_iff_lt_mul (Nat.pos_of_ne_zero h1)).mp (hi' ▸ hi)
        rw [if_neg h1] at h
        omega

/-- A register of one word per number lies at its offsets. -/
theorem hit_off {r : Reg} {i : Nat} (h1 : r.info.s1 ≠ 0) (h2 : r.info.s2 = 0) (hi : i < r.info.n1) (hn : 0 < r.info.n2) :
    r.hit? (r.off i 0) = some (r, i, 0) := by
  have hoff : r.off i 0 = r.info.base + i * r.info.s1 := by rw [Reg.off, Nat.zero_mul, Nat.add_zero]
  have hdiv : i * r.info.s1 / r.info.s1 = i := Nat.mul_div_cancel _ (Nat.pos_of_ne_zero h1)
  unfold Reg.hit?
  simp only [hoff, Nat.add_sub_cancel_left, h1, h2, if_false, if_true, hdiv, Nat.sub_self, Nat.mul_zero, hi, hn]
  simp

/-- Between two of its words it does not lie. -/
theorem hit_none_between {r : Reg} {i c : Nat} (h2 : r.info.s2 = 0) (hc : 0 < c) (hc' : c < r.info.s1) :
    r.hit? (r.info.base + (i * r.info.s1 + c)) = none := by
  have h1 : r.info.s1 ≠ 0 := by omega
  have hdiv : (i * r.info.s1 + c) / r.info.s1 = i := by
    rw [Nat.mul_comm, Nat.mul_add_div (Nat.pos_of_ne_zero h1), Nat.div_eq_of_lt hc', Nat.add_zero]
  unfold Reg.hit?
  simp only [Nat.add_sub_cancel_left, h1, h2, if_false, if_true, hdiv, Nat.mul_zero]
  rw [if_neg (by omega), if_neg (by omega)]

/-- The registers listed before HOST_FLUME_STATUS lie outside the flumes' block, but for those of the same flumes. -/
theorem before_hostFlumeStatus : ∃ l r, allRegs = l ++ .hostFlumeStatus :: r ∧ ∀ q ∈ l,
    (q.info.base + (if q.info.s1 = 0 then (if q.info.s2 = 0 then 1 else q.info.n2 * q.info.s2) else q.info.n1 * q.info.s1)
      ≤ 0x1C00028 ∨ 0x1C40028 ≤ q.info.base) ∨
    (q.info.s1 = 0x40 ∧ q.info.s2 = 0 ∧ 0x1C00000 ≤ q.info.base ∧ q.info.base < 0x1C00028) := by
  refine ⟨allRegs.takeWhile (· != .hostFlumeStatus), (allRegs.dropWhile (· != .hostFlumeStatus)).tail, ?_, ?_⟩
  · decide +kernel
  · decide +kernel

theorem regAt_hostFlumeStatus {f : Nat} (hf : f < 4096) :
    regAt (Reg.off .hostFlumeStatus f 0) = some (.hostFlumeStatus, f, 0) := by
  obtain ⟨l, r, hl, hq⟩ := before_hostFlumeStatus
  refine List.findSome?_eq_some_iff.mpr ⟨l, _, r, hl, ?_, fun q hm => ?_⟩
  · exact hit_off (by decide) rfl hf (by decide)
  · rcases hq q hm with h | ⟨h1, h2, h3, h4⟩
    · refine hit_none_of_reach ?_
      rw [hostFlumeStatus_off]
      omega
    · have hoff : Reg.off .hostFlumeStatus f 0 = q.info.base + (f * q.info.s1 + (0x1C00028 - q.info.base)) := by
        rw [hostFlumeStatus_off, h1]
        omega
      rw [hoff]
      exact hit_none_between h2 (by omega) (by omega)

/-- What is not the default is stored. -/
theorem mem_of_spGet_ne {α : Type} {m : List (Nat × α)} {k : Nat} {d : α} (h : spGet m k d ≠ d) : ∃ v, (k, v) ∈ m := by
  induction m with
  | nil => exact absurd rfl h
  | cons e m ih =>
    by_cases he : e.1 = k
    · exact ⟨e.2, by rw [← he]; exact List.mem_cons_self⟩
    · obtain ⟨v, hv⟩ := ih fun hm => h (by rw [spGet, if_neg he, hm])
      exact ⟨v, List.mem_cons_of_mem _ hv⟩

/-- A flume that is not CLOSED is active. -/
theorem mem_activeFlumes {f : Nat} (hf : f < 4096) {s : State} (h : fstate s f ≠ 0) : f ∈ activeFlumes s := by
  have hreset : Reg.resetVal .hostFlumeStatus f 0 = 0 := rfl
  have hstored : spGet s.regs (Reg.off .hostFlumeStatus f 0) 0 ≠ 0 := by
    intro h0
    apply h
    rw [fstate, getF, rd, h0, hreset]
    rfl
  obtain ⟨v, hv⟩ := mem_of_spGet_ne hstored
  refine List.mem_eraseDups.mpr (List.mem_append_left _ (List.mem_filterMap.mpr ⟨_, hv, ?_⟩))
  simp only [regAt_hostFlumeStatus hf]

/-! The obligation. -/

/-- The fields of HOST_LINK. -/
theorem hostLink_fields {up flit : Bool} {rate width mps : Nat} {v : BitVec 32} (hr : rate < 8) (hw : width < 32) (hm : mps < 8)
    (hv : v = BitVec.ofNat 32 (b2n up + rate * 2 + width * 16 + b2n flit * 512 + mps * 1024)) :
    fld v 1 3 = rate ∧ fld v 4 5 = width ∧ fld v 9 1 = b2n flit := by
  have hb (b : Bool) : b2n b ≤ 1 := by cases b <;> decide
  have h1 := hb up
  have h2 := hb flit
  have hn : v.toNat = b2n up + rate * 2 + width * 16 + b2n flit * 512 + mps * 1024 := by
    rw [hv, BitVec.toNat_ofNat]
    exact Nat.mod_eq_of_lt (by omega)
  simp only [fld, hn]
  omega

/-- The link's new value is taken: what is not retrimmed any more is given up, and a change of rate, width or flit is reported. -/
def linkTaken (v : BitVec 32) (masters vfs : List Nat) (s : State) : State :=
  let s₁ : State := { s with host := { s.host with
    busMaster := masters, vfEnabled := s.host.vfEnabled ++ vfs.filter fun f => !s.host.vfEnabled.contains f } }
  let s₂ := calWatch (wr .hostLink 0 0 v s₁)
  if fld v 1 9 = fld (rd s .hostLink 0 0) 1 9 then s₂
  else raise 0x0D01 0x200 [.u16 (fld v 1 3), .u16 (fld v 4 5), .u16 (fld v 9 1)] s₂

theorem hostLinkChange_exec {up flit : Bool} {rate width mps : Nat} {v : BitVec 32} (masters vfs : List Nat) (s : State)
    (hr : rate < 8) (hw : width < 32) (hm : mps < 8)
    (hv : v = BitVec.ofNat 32 (b2n up + rate * 2 + width * 16 + b2n flit * 512 + mps * 1024)) :
    exec (.hostLinkChange up rate width flit mps masters vfs) s = .next
      (if (up && decide (width < 4)) = true then
        (activeFlumes (linkTaken v masters vfs s)).foldl (fun s f => flumeError f 7 s) (linkTaken v masters vfs s)
      else linkTaken v masters vfs s) := by
  have hv' : BitVec.ofNat 32 (b2n up + rate % 8 * 2 + width % 32 * 16 + b2n flit * 512 + mps % 8 * 1024) = v := by
    rw [hv, Nat.mod_eq_of_lt hr, Nat.mod_eq_of_lt hw, Nat.mod_eq_of_lt hm]
  simp only [exec, execHostLinkChange, hv']
  exact (apply_ite Host.Outcome.next _ _ _).symm

theorem keptOffs_noEvent {f o : Nat} (hf : f < 4096) (ho : o ∈ keptOffs f) : o ∉ eventOffs :=
  fun h => keptOffs_quiet hf ho (eventOffs_sub o h)

section
variable (v : BitVec 32) (masters vfs : List Nat) (s : State)

theorem linkTaken_masters : (linkTaken v masters vfs s).host.busMaster = masters := by
  unfold linkTaken
  extract_lets src s₁ s₂
  have h₂ : s₂.host.busMaster = masters := calWatch_masters _
  split
  · exact h₂
  · rw [(raise_reported _ _ _ _).host]
    exact h₂

theorem linkTaken_rd {r : Reg} {i j : Nat} (hq : r.off i j ∉ eventOffs) (hlow : r.off i j < 0x1D00000) :
    rd (linkTaken v masters vfs s) r i j = rd (wr .hostLink 0 0 v s) r i j := by
  unfold linkTaken
  extract_lets src s₁ s₂
  have h₂ : rd s₂ r i j = rd (wr .hostLink 0 0 v s) r i j := calWatch_rd hq hlow _
  split
  · exact h₂
  · exact ((raise_reported _ _ _ _).rd_eq _ _ _ hq).trans h₂

theorem linkTaken_link : rd (linkTaken v masters vfs s) .hostLink 0 0 = v :=
  (linkTaken_rd v masters vfs s (keptOffs_noEvent (f := 0) (by decide) (by simp [keptOffs])) (by decide)).trans (rd_wr _ _ _ _ _)

theorem linkTaken_fstate {f : Nat} (hf : f < 4096) : fstate (linkTaken v masters vfs s) f = fstate s f := by
  refine getF_of_rd ((linkTaken_rd v masters vfs s (keptOffs_noEvent hf (by simp [keptOffs])) ?_).trans (rd_wr_ne _ _ ?_)) _ _
  · rw [hostFlumeStatus_off]
    omega
  · rw [hostFlumeStatus_off, hostLink_off]
    omega

theorem linkTaken_raised (h : fld v 1 9 ≠ fld (rd s .hostLink 0 0) 1 9) :
    RaisedData s (linkTaken v masters vfs s) 0x0D01 0x200 [.u16 (fld v 1 3), .u16 (fld v 4 5), .u16 (fld v 9 1)] := by
  unfold linkTaken
  extract_lets src s₁ s₂
  have hon : Onward False False s s₂ := .calWatch <| .wr <| .host <| .refl s
  rw [if_neg h]
  exact (raise_raisedData _ _ _ _).since hon

end

/-! The commands. -/

section
variable {s : State} {h k b : Nat} {i : Item} {del : List (Nat × Nat × Item)}

/-- An item that is taken. -/
theorem hostItem_exec (htake : takeDelivered (74 + h) k s = some (i, withDelivered del s))
    (hb : b = 256 * h + k) : exec (.hostItem h k) s = .next (if fifoTakes s b i then
      steerItem b i (withDelivered del s)
      else refuseItem (74 + h) k s (withDelivered del s)) := by
  simp only [exec, execHostItem, htake, hb]

/-- One that fits and whose binding leads to a flume is admitted there. -/
theorem hostItem_admits (htake : takeDelivered (74 + h) k s = some (i, withDelivered del s))
    (hb : b = 256 * h + k) (hfit : fifoTakes s b i = true) {f : Nat} (hto : steerTo s b i = some f) :
    exec (.hostItem h k) s = .next (admitItem b f i (withDelivered del s)) := by
  have hto' : steerTo (withDelivered del s) b i = some f := hto
  rw [hostItem_exec htake hb, if_pos hfit]
  simp only [steerItem, hto']

end

section
variable {f : Nat} {good1 good2 wrote : Bool} {r : StagedRec} {b : FlumeBuf} {s : State}
  (hst : fstate s f = 1 ∨ fstate s f = 2) (hd : headRec (flume s f) = some r) (hb : (flume s f).buf = some b)
include hst hd hb

/-- A record that fits is checked, and then placed where its write succeeds. -/
theorem recordWrite_fits (hretry : (flume s f).retry = false) {r' : StagedRec}
    (hroom : b.used + 64 + payBytes r.payload ≤ b.length) (hc : Checked f r' s (exitCheck f good1 good2 s)) :
    exec (.recordWrite f good1 good2 wrote) s =
      if (wrote && canIssue s f) = true then .next (placeRec f r' b (exitCheck f good1 good2 s))
      else .next (setFlume f { flume (exitCheck f good1 good2 s) f with
        retry := true, failedAt := eventTime (exitCheck f good1 good2 s) } (exitCheck f good1 good2 s)) := by
  simp only [exec, execRecordWrite, if_pos hst, hd, hb, hretry, hc.head, hc.issue]
  rw [if_neg Bool.false_ne_true, if_neg (Nat.not_lt.mpr hroom)]

/-- One that does not closes the buffer, or is dropped where the buffer is empty. -/
theorem recordWrite_full (hretry : (flume s f).retry = false) (hroom : b.length < b.used + 64 + payBytes r.payload) :
    exec (.recordWrite f good1 good2 wrote) s =
      if b.records = 0 then .next (closeIfDone f (dropAdmitted f s)) else .next (closeBuf f 0 s) := by
  simp only [exec, execRecordWrite, if_pos hst, hd, hb, hretry]
  rw [if_neg Bool.false_ne_true, if_pos hroom]

omit hd hb in
theorem retry_open (hretry : (flume s f).retry = true) :
    ((flume s f).retry && (fstate s f == 1 || fstate s f == 2)) = true := by
  rcases hst with h | h <;> simp [hretry, h]

/-- A retry that succeeds places the record. -/
theorem hostWriteRetry_places (hretry : (flume s f).retry = true) (hwrote : wrote = true) (hissue : canIssue s f = true) :
    exec (.hostWriteRetry f wrote) s =
      .next (raiseRated 0x0D09 0x200 [] 1 (bump .hostCount 0 3 1 (faultTransient (placeRec f r b s)))) := by
  simp only [exec, execHostWriteRetry, hd, hb, retry_open hst hretry]
  exact if_pos (by rw [hwrote, hissue]; rfl)

/-- One that fails drops it and puts the flume in ERROR. -/
theorem hostWriteRetry_drops (hretry : (flume s f).retry = true) (hfail : wrote = false ∨ canIssue s f = false) :
    ∃ ag ref, exec (.hostWriteRetry f wrote) s = .next (faultLastingAt (flume s f).failedAt 4 0x200 ag ref r.origin []
      (flumeError f 8 (bump .hostCount 0 4 1 (dropAdmitted f s)))) := by
  simp only [exec, execHostWriteRetry, hd, hb, retry_open hst hretry]
  rw [if_neg (by rcases hfail with h | h <;> simp [h])]
  exact ⟨_, _, rfl⟩

end

/-- Settles O43: reports and admissions leave a flume's state, its counts of records and what was written to the host; what a
record's own commands change follows from the exit check, the placed record and the dropped one. -/
theorem flumeRecordCommandsComplete : Obligations.FlumeRecordCommandsComplete := by
  refine ⟨?link, ?item, ?none, ?write, ?noWrite, ?retry, ?noRetry⟩
  case link =>
    intro s up flit rate width mps masters vfs v hr hw hm hv
    obtain ⟨hrate, hwidth, hflit⟩ := hostLink_fields hr hw hm hv
    obtain ⟨hl, hms⟩ := flumeErrors_link 7 (activeFlumes (linkTaken v masters vfs s)) (linkTaken v masters vfs s)
    refine ⟨_, hostLinkChange_exec masters vfs s hr hw hm hv, ?_, ?_, fun hne => ?_, fun f hf hup hnarrow hst => ?_⟩
    · split
      · rw [hms, linkTaken_masters]
      · exact linkTaken_masters v masters vfs s
    · split
      · rw [hl, linkTaken_link]
      · exact linkTaken_link v masters vfs s
    · have hraised := linkTaken_raised v masters vfs s hne
      rw [hrate, hwidth, hflit] at hraised
      exact hraised.onward (P := False) (Q := False) (.ite (.foldl (.refl _) fun _ _ h => .flumeError h) (.refl _))
    · rw [if_pos (by simp [hup, hnarrow])]
      rw [← linkTaken_fstate v masters vfs s hf] at hst
      exact flumeErrors_spec hf (by decide) _ _ (.inr ⟨mem_activeFlumes hf (by rcases hst with h | h <;> rw [h] <;> decide), hst⟩)
  case item =>
    intro s u h k b i htake hb
    obtain ⟨l, rfl⟩ := takeDelivered_delivered htake
    have hexec := hostItem_exec htake hb
    set u := withDelivered l s
    refine ⟨fun hfit => ?_, fun hfit hto => ?_, fun hfit hto hwait => ?_, fun f hfit hto hwait hspill hpool hquota => ?_,
      fun f hfit hto hwait hspill hring hpool => ⟨fun hblock hever => ?_, fun hlost => ?_⟩⟩
    · rw [hexec, if_neg (by simp [hfit])]
    · have hto' : steerTo u b i = none := hto
      have hr := raiseRated_reported 0x0D06 0x200 [.u16 b] 1 (bump .hostCount 0 0 1 u)
      refine ⟨_, by rw [hexec, if_pos hfit]; simp only [steerItem, hto'], hr.plan, ?_⟩
      rw [hr.rd_eq _ _ _ (by decide)]
      exact rd_bump_toNat _ _ _ _ _
    · obtain ⟨f, hf⟩ := Option.ne_none_iff_exists'.mp hto
      rw [hostItem_admits htake hb hfit hf]
      exact congrArg Host.Outcome.next (admitItem_behind (s := u) hwait)
    · have hadmit : admitItem b f i u = showFlume f (stageRec f (itemRec i) u) := admitItem_stages hwait hspill hpool hquota
      obtain ⟨hseq, hstaged, hlost⟩ := stageRec_spec f (itemRec i) u
      refine ⟨_, by rw [hostItem_admits htake hb hfit hto, hadmit], ?_, ?_, ?_⟩
      · exact ((rd_setF_ne _ _ _ _ (hostFlumeSeq_ne_status f)).trans (rd_setF_ne _ _ _ _ (hostFlumeSeq_ne_status f))).trans hseq
      · rw [flume_showFlume]
        exact hstaged
      · rw [flume_showFlume]
        exact hlost
    · rw [hostItem_admits htake hb hfit hto]
      exact congrArg Host.Outcome.next (admitItem_waits (s := u) hwait hspill hring hpool hblock hever)
    · have hadmit : admitItem b f i u = dropReport f 1 (dropRec f u) := admitItem_drops hwait hspill hring hpool hlost
      obtain ⟨h2, hf, -⟩ := steerTo_bounds hto
      obtain ⟨hseqq, hcountq⟩ := hostFlume_quiet h2 (by omega : f < 4096)
      obtain ⟨hseq, hcount, hstaged, hmark⟩ := dropRec_spec f u
      have hr := raiseRated_reported 0x0D02 0x200 [.u16 f] 1 (dropRec f u)
      refine ⟨_, by rw [hostItem_admits htake hb hfit hto, hadmit], ?_, ?_, ?_, ?_⟩
      · exact (hr.rd_eq _ _ _ hseqq).trans hseq
      · exact (congrArg BitVec.toNat (hr.rd_eq _ _ _ hcountq)).trans hcount
      · exact (congrArg Flume.staged (hr.flumes f h2)).trans hstaged
      · exact (congrArg Flume.lostBefore (hr.flumes f h2)).trans hmark
  case none =>
    intro s h k htake
    simp only [exec, execHostItem, htake]
  case write =>
    intro s f good1 good2 wrote r b hf hplace hst hd hb hretry
    refine ⟨fun hroom hwrote hissue hcrc hgood => ?_, fun hroom hwrote hissue hbad => ?_, fun hroom hfail => ?_,
      fun hroom hrec => ?_, fun hroom hrec h2 => ?_⟩
    · have hc := exitCheck_good hf hplace hd hcrc hgood
      have hp := placeRec_placed hf r b (exitCheck f good1 good2 s)
      refine ⟨_, (recordWrite_fits hst hd hb hretry hroom hc).trans (if_pos (by rw [hwrote, hissue]; rfl)), by rw [← hc.header]; exact hp.out,
        by rw [hp.written, hc.written], fun h1 => ?_⟩
      obtain ⟨hstate, hlast, -⟩ := hp.isOpen (hc.state.trans h1)
      exact ⟨hstate, hlast⟩
    · obtain ⟨hc, hcount, hraised⟩ := exitCheck_bad hf hplace hd hbad
      have hp := placeRec_placed hf { r with checkFailed := true } b (exitCheck f good1 good2 s)
      exact ⟨_, (recordWrite_fits hst hd hb hretry hroom hc).trans (if_pos (by rw [hwrote, hissue]; rfl)), by rw [← hc.header]; exact hp.out,
        by rw [hp.checked, hcount], hraised.onward (P := False) (Q := False) (.placeRec (.refl _))⟩
    · obtain ⟨r', hc⟩ : ∃ r', Checked f r' s (exitCheck f good1 good2 s) := by
        by_cases hgood : crcWords (coveredPayload r.kind r.payload) = r.crc ∧ (good1 = true ∨ good2 = true)
        · exact ⟨r, exitCheck_good hf hplace hd hgood.1 hgood.2⟩
        · exact ⟨_, (exitCheck_bad hf hplace hd ((not_and_or.mp hgood).imp_right fun h => by simpa using h)).1⟩
      refine ⟨_, (recordWrite_fits hst hd hb hretry hroom hc).trans (if_neg (by rcases hfail with h | h <;> simp [h])), ?_, ?_, ?_, ?_⟩
      · rw [flume_setFlume]
      · exact hc.written
      · exact hc.state
      · rw [flume_setFlume]
        exact hc.buf.trans hb
    · obtain ⟨hbuf, hstaged, hspill, -, -⟩ := closeBuf_spec f 0 s
      exact ⟨_, (recordWrite_full hst hd hb hretry hroom).trans (if_neg hrec), hbuf, hstaged, hspill⟩
    · obtain ⟨hcount, hlen⟩ := dropAdmitted_records hf h2 hd
      obtain ⟨hstaged, hspill, hcount'⟩ := closeIfDone_records hf h2 (dropAdmitted f s)
      exact ⟨_, (recordWrite_full hst hd hb hretry hroom).trans (if_pos hrec), by rw [hcount', hcount], by rw [hstaged, hspill, hlen]⟩
  case noWrite =>
    intro s f good1 good2 wrote h
    simp only [exec, execRecordWrite]
    split
    next hst =>
      split
      next r b hd hb =>
        rcases h with ⟨h1, h2⟩ | h | h | h
        · exact absurd hst (by simp [h1, h2])
        · rw [h] at hd; cases hd
        · rw [h] at hb; cases hb
        · exact if_pos h
      next => rfl
    next => rfl
  case retry =>
    intro s f r b wrote hf hplace hst hd hb hretry
    refine ⟨fun hwrote hissue => ?_, fun hfail => ?_⟩
    · have hexec := hostWriteRetry_places hst hd hb hretry hwrote hissue
      have hp := placeRec_placed hf r b s
      set s₁ := faultTransient (placeRec f r b s)
      have h₁ : HostKept f (placeRec f r b s) s₁ := .faultTransient hf (.refl f _)
      have h₂ : HostKept f (bump .hostCount 0 3 1 s₁) (raiseRated 0x0D09 0x200 [] 1 (bump .hostCount 0 3 1 s₁)) :=
        .raiseRated hf (.refl f _)
      refine ⟨_, hexec, (h₁.out.trans h₂.out).subset hp.out, ?_, fun hst1 => ?_⟩
      · rw [h₂.retried, rd_bump_toNat, h₁.retried, hp.retried]
      · obtain ⟨hstate, -, hre⟩ := hp.isOpen hst1
        have hstatus : fstate (bump .hostCount 0 3 1 s₁) f = fstate s₁ f := by
          refine getF_of_rd (rd_bump_ne _ _ ?_) _ _
          rw [hostFlumeStatus_off, hostCount_off]
          omega
        exact ⟨h₂.state.trans (hstatus.trans (h₁.state.trans hstate)), h₂.retry.trans (h₁.retry.trans hre)⟩
    · set s₁ := bump .hostCount 0 4 1 (dropAdmitted f s)
      obtain ⟨ag, ref, hexec⟩ := hostWriteRetry_drops hst hd hb hretry hfail
      have hstatus : fstate s₁ f = fstate s f := by
        refine (getF_of_rd (rd_bump_ne _ _ ?_) _ _).trans (dropAdmitted_state hf s)
        rw [hostFlumeStatus_off, hostCount_off]
        omega
      obtain ⟨hstate, hcause, hraised, hflume⟩ := flumeError_self hf (by decide : 8 < 16) (s := s₁) (by rw [hstatus]; exact hst)
      have ht : HostKept f (flumeError f 8 s₁) (faultLastingAt (flume s f).failedAt 4 0x200 ag ref r.origin []
        (flumeError f 8 s₁)) := .faultLastingAt hf (.refl f _)
      have hon : Onward False False s s₁ := .bump <| .dropAdmitted <| .refl s
      refine ⟨_, hexec, ht.state.trans hstate, ht.cause.trans hcause, fun h2 => ?_, ?_, ?_⟩
      · obtain ⟨-, hlen⟩ := dropAdmitted_records hf h2 hd
        rw [(faultLastingAt_reported _ _ _ _ _ _ _ _).flumes f h2, hflume h2, flume_bump, hlen]
      · exact (hraised.since hon).onward (P := False) (Q := False) (.faultLastingAt (.refl _))
      · exact (faultLastingAt_raised _ _ _ _ _ _ _ _).since (Onward.flumeError (P := False) (Q := False) hon)
  case noRetry =>
    intro s f wrote h
    simp only [exec, execHostWriteRetry]
    split
    next r b hd hb hopen =>
      rcases h with ⟨h1, h2⟩ | h | h | h
      · simp [h1, h2] at hopen
      · rw [h] at hd; cases hd
      · rw [h] at hb; cases hb
      · simp [h] at hopen
    next => rfl

end Sys2Proof.Machine
end

section
/-! SUPPORT. What work elsewhere leaves of the GLOBAL registers: reports, a unit that drains, the stacks that follow the mask
and the watches of settle write no register below the audit log's (24). One lemma for each operation, in the order of the
model's files. -/

namespace Sys2Proof.Machine

/-- From s₀ to s no GLOBAL register has changed: those that lie below the audit log's. -/
def GlobalsKept (s₀ s : State) : Prop := ∀ o < 0x100000, spGet s.regs o 0 = spGet s₀.regs o 0

theorem base_le_off (r : Reg) (i j : Nat) : r.info.base ≤ r.off i j :=
  Nat.le_add_right_of_le (Nat.le_add_right _ _)

/-- The register is none of the GLOBAL ones. -/
def Reg.aboveGlobals (r : Reg) : Bool := Nat.ble 0x100000 r.info.base

theorem Reg.aboveGlobals_off {r : Reg} (h : r.aboveGlobals = true) (i j : Nat) : 0x100000 ≤ r.off i j :=
  (Nat.le_of_ble_eq_true h).trans (base_le_off r i j)

theorem eventOffs_above : ∀ o ∈ eventOffs, 0x100000 ≤ o := by decide

namespace GlobalsKept

variable {s₀ s t : State}

theorem refl (s : State) : GlobalsKept s s := fun _ _ => rfl

theorem rd_eq (hs : GlobalsKept s₀ s) {r : Reg} {i j : Nat} (h : r.off i j < 0x100000) :
    rd s r i j = rd s₀ r i j := rd_of_off (hs _ h)

theorem ite {c : Prop} {_ : Decidable c} (hs : GlobalsKept s₀ s) (ht : GlobalsKept s₀ t) :
    GlobalsKept s₀ (if c then s else t) := by
  split <;> assumption

theorem iteSnd {α : Type} {c : Prop} {_ : Decidable c} {a b : α × State} (ha : GlobalsKept s₀ a.2)
    (hb : GlobalsKept s₀ b.2) : GlobalsKept s₀ (if c then a else b).2 := by
  split <;> assumption

theorem foldl {β : Type} {f : State → β → State} {l : List β} (hs : GlobalsKept s₀ s)
    (hf : ∀ s b, GlobalsKept s₀ s → GlobalsKept s₀ (f s b)) : GlobalsKept s₀ (l.foldl f s) :=
  List.foldlRecOn l f hs fun s h b _ => hf s b h

/-! Updates of one part of the state. -/

theorem wr {r : Reg} {i j : Nat} {v : BitVec 32} (h : r.aboveGlobals = true) (hs : GlobalsKept s₀ s) :
    GlobalsKept s₀ (wr r i j v s) := fun o ho =>
  (spGet_wr_ne s r i j v (Nat.ne_of_lt (Nat.lt_of_lt_of_le ho (Reg.aboveGlobals_off h i j)))).trans (hs o ho)
theorem setF {r : Reg} {i j lo w x : Nat} (h : r.aboveGlobals = true) (hs : GlobalsKept s₀ s) :
    GlobalsKept s₀ (setF r i j lo w x s) := .wr h hs
theorem setB {r : Reg} {i j k : Nat} {b : Bool} (h : r.aboveGlobals = true) (hs : GlobalsKept s₀ s) :
    GlobalsKept s₀ (setB r i j k b s) := .wr h hs
theorem bump {r : Reg} {i j n : Nat} (h : r.aboveGlobals = true) (hs : GlobalsKept s₀ s) :
    GlobalsKept s₀ (bump r i j n s) := .wr h hs

section
variable (hs : GlobalsKept s₀ s)
include hs

theorem free {x : Nat} : GlobalsKept s₀ { s with free := x } := hs
theorem units {x : List (Nat × UnitRec)} : GlobalsKept s₀ { s with units := x } := hs
theorem time {x : TimeState} : GlobalsKept s₀ { s with time := x } := hs
theorem plan {x : PlanState} : GlobalsKept s₀ { s with plan := x } := hs
theorem pwr {x : PwrState} : GlobalsKept s₀ { s with pwr := x } := hs
theorem ing {x : Vector Link 4} : GlobalsKept s₀ { s with ing := x } := hs
theorem tun {x : Vector Tuner 16} : GlobalsKept s₀ { s with tun := x } := hs
theorem chz {x : Vector Chz 4} : GlobalsKept s₀ { s with chz := x } := hs
theorem spec {x : Vector Spec 4} : GlobalsKept s₀ { s with spec := x } := hs
theorem trig {x : Vector TrigEng 4} : GlobalsKept s₀ { s with trig := x } := hs
theorem tree {x : TreeState} : GlobalsKept s₀ { s with tree := x } := hs
theorem hbm {x : HbmState} : GlobalsKept s₀ { s with hbm := x } := hs
theorem acq {x : Vector AcqUnit 4} : GlobalsKept s₀ { s with acq := x } := hs
theorem dens {x : Vector Dens 4} : GlobalsKept s₀ { s with dens := x } := hs
theorem tdc {x : Tdc} : GlobalsKept s₀ { s with tdc := x } := hs
theorem cmp {x : Vector Cmp 8} : GlobalsKept s₀ { s with cmp := x } := hs
theorem aux {x : Aux} : GlobalsKept s₀ { s with aux := x } := hs
theorem calJob {x : Option CalJob} : GlobalsKept s₀ { s with calJob := x } := hs
theorem ipend {x : List (Nat × BitVec 16)} : GlobalsKept s₀ { s with ipend := x } := hs
end

/-! Ops. -/

theorem report (hs : GlobalsKept s₀ s) (h : Reported eventOffs s t) : GlobalsKept s₀ t := fun o ho =>
  (h.regs o fun hm => Nat.not_le_of_lt ho (eventOffs_above o hm)).trans (hs o ho)
theorem raise {code u : Nat} {data : List EvField} (hs : GlobalsKept s₀ s) : GlobalsKept s₀ (raise code u data s) :=
  hs.report (raise_reported _ _ _ _)
theorem raiseRated {code u n : Nat} {q : List EvField} (hs : GlobalsKept s₀ s) :
    GlobalsKept s₀ (raiseRated code u q n s) := hs.report (raiseRated_reported _ _ _ _ _)
theorem audit {k : Nat} {ag : AgentId} {c tg v : Nat} (hs : GlobalsKept s₀ s) : GlobalsKept s₀ (audit k ag c tg v s) :=
  hs.report (audit_reported _ _ _ _ _ _)
theorem updFaultN (hs : GlobalsKept s₀ s) : GlobalsKept s₀ (updFaultN s) := hs.report (updFaultN_reported _ _)
theorem changeState {u : Nat} {st : UState} (hs : GlobalsKept s₀ s) : GlobalsKept s₀ (changeState u st s) := .units hs
theorem bumpEpoch {u : Nat} (hs : GlobalsKept s₀ s) : GlobalsKept s₀ (bumpEpoch u s) := .units hs
theorem offer {i : Item} (hs : GlobalsKept s₀ s) : GlobalsKept s₀ (offer i s) := .plan hs
theorem portTook {src stream : Nat} (hs : GlobalsKept s₀ s) : GlobalsKept s₀ (portTook src stream s).2 :=
  .iteSnd (.free hs) hs
theorem dspPend {n k : Nat} (hs : GlobalsKept s₀ s) : GlobalsKept s₀ (dspPend n k s) := .ite (.ipend hs) hs

/-! What settle follows: calibration, synthesisers, the trigger tree. -/

theorem calEnd {ag : AgentId} {b op res : Nat} (hs : GlobalsKept s₀ s) : GlobalsKept s₀ (calEnd ag b op res s) :=
  .raise <| .audit <| .ite (.setF rfl <| .setF rfl <| .setF rfl hs) (.setF rfl hs)

theorem calWatch (hs : GlobalsKept s₀ s) : GlobalsKept s₀ (calWatch s) := by
  unfold Machine.calWatch
  split
  exacts [hs, .ite hs (.calEnd <| .setB rfl <| .setB rfl <| .calJob hs)]

theorem synFollow (hs : GlobalsKept s₀ s) : GlobalsKept s₀ (synFollow s) :=
  .foldl hs fun _ _ h => .ite (.ite (.time h) h) (.ite h (.time h))

theorem weirPush {a : Arrival} (hs : GlobalsKept s₀ s) : GlobalsKept s₀ (weirPush a s) := by
  unfold Machine.weirPush
  split
  exacts [.tree hs, .tree hs]

theorem srcChange {src cycle : Nat} {old new : Bool} {occ : Option Occ} {info : Occ} (hs : GlobalsKept s₀ s) :
    GlobalsKept s₀ (srcChange src cycle old new occ info s) :=
  .ite hs (.foldl (.iteSnd (.time hs) hs) fun _ _ h => .ite (.ite h (.weirPush h)) (.ite h (.weirPush h)))

theorem evtFollow (hs : GlobalsKept s₀ s) : GlobalsKept s₀ (evtFollow s) :=
  .foldl hs fun _ _ h => .ite h (.srcChange <| .tree h)
theorem pinsGate (hs : GlobalsKept s₀ s) : GlobalsKept s₀ (pinsGate s) := .foldl hs fun _ _ h => .ite h (.tree h)
theorem settle (hs : GlobalsKept s₀ s) : GlobalsKept s₀ (settle s) :=
  .updFaultN <| .calWatch <| .pinsGate <| .evtFollow <| .synFollow hs

/-! Ingress links, tuners and channelisers that drain. -/

theorem applyDelay {n : Nat} (hs : GlobalsKept s₀ s) : GlobalsKept s₀ (applyDelay n s) := by
  unfold Machine.applyDelay
  split
  exacts [hs, .bumpEpoch <| .ing hs]

theorem formParcel {n extra : Nat} {took : Bool} (hs : GlobalsKept s₀ s) : GlobalsKept s₀ (formParcel n extra took s) :=
  .applyDelay <| .ite (.offer <| .ing <| .bump rfl <| .time hs) (.raiseRated <| .bump rfl <| .ing <| .bump rfl <| .time hs)

theorem padParcel {n extra : Nat} (hs : GlobalsKept s₀ s) : GlobalsKept s₀ (padParcel n extra s) :=
  .ite hs (.formParcel <| .portTook hs)
theorem linkToData {n : Nat} (hs : GlobalsKept s₀ s) : GlobalsKept s₀ (linkToData n s) :=
  .raise <| .ing <| .setF rfl <| .setF rfl <| .applyDelay hs
theorem groupGo {n : Nat} (hs : GlobalsKept s₀ s) : GlobalsKept s₀ (groupGo n s) :=
  .ite (.foldl hs fun _ _ h => .linkToData h) hs
theorem ingDrain {n : Nat} (hs : GlobalsKept s₀ s) : GlobalsKept s₀ (ingDrain n s) :=
  .groupGo <| .ite (.raise <| .padParcel hs) hs

theorem tunCapture {n : Nat} {it : Item} (hs : GlobalsKept s₀ s) : GlobalsKept s₀ (tunCapture n it s) :=
  .ite (.acq hs) hs
theorem tunClose {n extra : Nat} (hs : GlobalsKept s₀ s) : GlobalsKept s₀ (tunClose n extra s) :=
  .ite hs (.offer <| .ite (.bump rfl <| .tunCapture <| .tun <| .time hs) (.tunCapture <| .tun <| .time hs))
theorem chzClose {c g extra : Nat} (hs : GlobalsKept s₀ s) : GlobalsKept s₀ (chzClose c g extra s) :=
  .ite hs (.offer <| .ite (.bump rfl <| .chz <| .time hs) (.chz <| .time hs))

/-! Spectrum engines, the trigger engines and acquisition units that drain. -/

theorem specOffer {e stream : Nat} {took : Bool} {i : Item} (hs : GlobalsKept s₀ s) :
    GlobalsKept s₀ (specOffer e stream took i s) := .ite (.offer hs) (.raiseRated <| .bump rfl hs)
theorem specSat {e k : Nat} (hs : GlobalsKept s₀ s) : GlobalsKept s₀ (specSat e k s) :=
  .ite hs (.raiseRated <| .bump rfl hs)

theorem specCloseRec {e : Nat} {took : Bool} (hs : GlobalsKept s₀ s) : GlobalsKept s₀ (specCloseRec e took s) := by
  unfold Machine.specCloseRec
  extract_lets +onlyGivenNames _
  split
  exacts [.specOffer <| .spec hs, hs]

theorem specEmitTrace {e extra : Nat} {took : Bool} (hs : GlobalsKept s₀ s) :
    GlobalsKept s₀ (specEmitTrace e extra took s) := by
  unfold Machine.specEmitTrace
  extract_lets +onlyGivenNames _
  split
  exacts [.specOffer <| .specSat <| .spec <| .ite hs (.bump rfl hs), hs]

theorem specFinish {e : Nat} (hs : GlobalsKept s₀ s) : GlobalsKept s₀ (specFinish e s) :=
  .specEmitTrace <| .portTook <| .specCloseRec <| .portTook hs

theorem specDrain {e : Nat} (hs : GlobalsKept s₀ s) : GlobalsKept s₀ (specDrain e s) := by
  unfold Machine.specDrain
  extract_lets +onlyGivenNames s₁
  have h₁ : GlobalsKept s₀ s₁ := .spec <| .spec <| .bump rfl hs
  exact .ite (.specFinish h₁) h₁

theorem trigFall {n j : Nat} (hs : GlobalsKept s₀ s) : GlobalsKept s₀ (trigFall n j s) :=
  .ite hs (.srcChange <| .setB rfl hs)

theorem trigDiscard {n : Nat} (hs : GlobalsKept s₀ s) : GlobalsKept s₀ (trigDiscard n s) := by
  unfold Machine.trigDiscard
  extract_lets +onlyGivenNames _ s₁
  have h₁ : GlobalsKept s₀ s₁ := .trig <| .foldl hs fun _ _ h => .trigFall h
  exact .ite (.foldl h₁ fun _ _ h => .setF rfl <| .setB rfl h) h₁

theorem listRecord {a : Nat} (hs : GlobalsKept s₀ s) : GlobalsKept s₀ (listRecord a s) := by
  unfold Machine.listRecord
  dsimp only
  split
  exacts [hs, .offer <| .acq hs]

theorem listFlush {a : Nat} (hs : GlobalsKept s₀ s) : GlobalsKept s₀ (listFlush a s) :=
  .foldl hs fun _ _ h => .listRecord h
theorem acqDone {a cause : Nat} (hs : GlobalsKept s₀ s) : GlobalsKept s₀ (acqDone a cause s) :=
  .listFlush <| .raise <| .setF rfl <| .setF rfl <| .acq <| .bump rfl hs
theorem acqLeave {a : Nat} (hs : GlobalsKept s₀ s) : GlobalsKept s₀ (acqLeave a s) :=
  .setB rfl <| .acq <| .tree <| .ite (.acqDone hs) hs

/-! Density engines, time-interval inputs, compression engines and the auxiliary converter that drain. -/

theorem sweepPass {d : Nat} (hs : GlobalsKept s₀ s) : GlobalsKept s₀ (sweepPass d s) := by
  unfold Machine.sweepPass
  extract_lets +onlyGivenNames _
  split
  exacts [hs, .ite hs (.dens <| .ite (.foldl hs fun _ _ h => .wr rfl h) hs)]

theorem endFrame {d : Nat} {cut clear : Bool} (hs : GlobalsKept s₀ s) : GlobalsKept s₀ (endFrame d cut clear s) := by
  unfold Machine.endFrame
  dsimp only
  refine .sweepPass ?_
  split
  · exact .setB rfl <| .wr rfl <| .dens hs
  · refine .raise <| .bumpEpoch <| .setB rfl ?_
    split
    exacts [.setF rfl <| .dens <| .setB rfl <| .wr rfl <| .dens hs, .setB rfl <| .wr rfl <| .dens hs]

theorem frameDue {d : Nat} {cut clear : Bool} (hs : GlobalsKept s₀ s) : GlobalsKept s₀ (frameDue d cut clear s) :=
  .ite hs (.ite (.ite (.dens hs) (.bump rfl <| .dens hs)) (.endFrame hs))

theorem tdcClose {i : Nat} {stop : Bool} (hs : GlobalsKept s₀ s) : GlobalsKept s₀ (tdcClose i stop s) := by
  unfold Machine.tdcClose
  extract_lets +onlyGivenNames _
  split
  exacts [hs, .offer <| .tdc hs]

theorem tdcPump {i : Nat} (hs : GlobalsKept s₀ s) : GlobalsKept s₀ (tdcPump i s) :=
  .setF rfl <| .foldl (.tdc hs) fun _ _ h => .ite (.tdcClose <| .tdc h) (.tdc h)

theorem withChan {c : Nat} {f : TdcChan → TdcChan} (hs : GlobalsKept s₀ s) : GlobalsKept s₀ (withChan c f s) :=
  .setF rfl <| .setB rfl <| .tdc hs

theorem ivClose {stop : Bool} (hs : GlobalsKept s₀ s) : GlobalsKept s₀ (ivClose stop s) := by
  unfold Machine.ivClose
  split
  exacts [hs, .offer <| .tdc hs]

theorem measDiscard {c : Nat} (hs : GlobalsKept s₀ s) : GlobalsKept s₀ (measDiscard c s) := by
  unfold Machine.measDiscard
  exact .withChan <| .bump rfl hs

theorem gateStart {c : Nat} (hs : GlobalsKept s₀ s) : GlobalsKept s₀ (gateStart c s) := .ite (.withChan hs) hs

theorem tdcDrain {i : Nat} (hs : GlobalsKept s₀ s) : GlobalsKept s₀ (tdcDrain i s) := by
  unfold Machine.tdcDrain
  extract_lets +onlyGivenNames s₁
  have h₁ : GlobalsKept s₀ s₁ := .tdcClose <| .tdcPump hs
  exact .ite (.ivClose <| .foldl h₁ fun _ _ h => .gateStart <| .measDiscard h) h₁

theorem withCmp {n : Nat} {f : Cmp → Cmp} (hs : GlobalsKept s₀ s) : GlobalsKept s₀ (withCmp n f s) :=
  .setF rfl <| .setB rfl <| .setF rfl <| .cmp hs

theorem cmpClose {n : Nat} {stop cont : Bool} (hs : GlobalsKept s₀ s) : GlobalsKept s₀ (cmpClose n stop cont s) := by
  unfold Machine.cmpClose
  extract_lets +onlyGivenNames _
  split
  exacts [hs, .offer <| .bump rfl <| .bump rfl <| .wr rfl <| .wr rfl <| .wr rfl <| .wr rfl <| .withCmp hs]

theorem jobResult {n : Nat} {d : List Word} {status blocks good : Nat} (hs : GlobalsKept s₀ s) :
    GlobalsKept s₀ (jobResult n d status blocks good s) :=
  .raise <| .ite (.bump rfl <| .withCmp hs) (.ite (.withCmp hs) (.bump rfl <| .withCmp hs))

theorem hbmPokes {a : Nat} {bs : List Byte} (hs : GlobalsKept s₀ s) : GlobalsKept s₀ (hbmPokes a bs s) := by
  induction bs generalizing a s with
  | nil => exact hs
  | cons b r ih => exact ih (.ite hs (.hbm hs))

theorem jobScramble {n : Nat} {d : List Word} {good : Nat} (hs : GlobalsKept s₀ s) :
    GlobalsKept s₀ (jobScramble n d good s) := by
  unfold Machine.jobScramble
  split
  exacts [.ite hs (.hbmPokes <| .free hs), hs]

theorem jobAbort {n : Nat} (hs : GlobalsKept s₀ s) : GlobalsKept s₀ (jobAbort n s) := by
  unfold Machine.jobAbort
  split
  exacts [.setF rfl <| .jobResult <| .jobScramble <| .withCmp hs, .setF rfl hs]

theorem cmpDrain {n : Nat} (hs : GlobalsKept s₀ s) : GlobalsKept s₀ (cmpDrain n s) :=
  .ite (.foldl (.withCmp <| .jobAbort hs) fun _ _ h => .jobResult h) (.cmpClose hs)

theorem withAux {f : Aux → Aux} (hs : GlobalsKept s₀ s) : GlobalsKept s₀ (withAux f s) := by
  unfold Machine.withAux
  extract_lets +onlyGivenNames _ s₁
  have h₁ : GlobalsKept s₀ s₁ := .setB rfl <| .aux hs
  split
  exacts [.setF rfl h₁, h₁]

theorem auxDrain (hs : GlobalsKept s₀ s) : GlobalsKept s₀ (auxDrain s) := by
  unfold Machine.auxDrain Machine.auxClose
  dsimp only
  split
  · exact hs
  · split
    exacts [hs, .offer <| .withAux hs]

/-! Units. -/

theorem unitDrain {u : Nat} (hs : GlobalsKept s₀ s) : GlobalsKept s₀ (unitDrain u s) := by
  refine .changeState ?_
  unfold Machine.unitDrainHook
  dsimp only
  split
  · exact .ingDrain hs
  · exact .tunClose hs
  · exact .foldl hs fun _ _ h => .chzClose h
  · exact .specDrain hs
  · exact .trigDiscard hs
  · exact .acqLeave <| .listFlush hs
  · exact .frameDue hs
  · exact .tdcDrain hs
  · exact .dspPend hs
  · exact .cmpDrain hs
  · exact .auxDrain hs
  · exact hs

theorem unitForget {u : Nat} (hs : GlobalsKept s₀ s) : GlobalsKept s₀ (unitForget u s) := by
  unfold Machine.unitForget
  dsimp only
  split <;> exact hs

/-! The HBM stacks that follow the running mask, and the schedule that is loaded. -/

theorem setSstate {k st : Nat} (hs : GlobalsKept s₀ s) : GlobalsKept s₀ (setSstate k st s) := .calWatch <| .setF rfl hs

theorem pcReady {p : Nat} (hs : GlobalsKept s₀ s) : GlobalsKept s₀ (pcReady p s) := by
  unfold Machine.pcReady
  split
  exacts [.changeState hs, .changeState hs, hs]

theorem runPc {p : Nat} (hs : GlobalsKept s₀ s) : GlobalsKept s₀ (runPc p s) :=
  .ite (.changeState <| .pcReady hs) (.pcReady hs)

theorem stackRise {k : Nat} (hs : GlobalsKept s₀ s) : GlobalsKept s₀ (stackRise k s) := by
  have h₁ : GlobalsKept s₀ ((stackMask s k).foldl (fun s p => if fencedPc s p then s else Machine.pcReady p s) s) :=
    .foldl hs fun _ _ h => .ite h (.pcReady h)
  exact .ite (.ite h₁ (.setSstate h₁)) hs

theorem pcDown {p : Nat} (hs : GlobalsKept s₀ s) : GlobalsKept s₀ (pcDown p s) := by
  unfold Machine.pcDown
  extract_lets +onlyGivenNames _ s₁ _
  have h₁ : GlobalsKept s₀ s₁ := .setB rfl hs
  split
  · exact .changeState <| .changeState <| .changeState <| .changeState h₁
  · exact .changeState <| .changeState <| .changeState h₁
  · exact .changeState <| .changeState h₁
  · exact .changeState h₁
  · exact h₁

theorem pcUp {p : Nat} (hs : GlobalsKept s₀ s) : GlobalsKept s₀ (pcUp p s) := by
  unfold Machine.pcUp
  refine .ite hs ?_
  extract_lets +onlyGivenNames s₁
  have h₁ : GlobalsKept s₀ s₁ := .ite (.changeState hs) hs
  exact .ite (.runPc h₁) (.ite (.pcReady h₁) h₁)

theorem loseStack {k : Nat} (hs : GlobalsKept s₀ s) : GlobalsKept s₀ (loseStack k s) := .ite (.hbm hs) (.hbm hs)
theorem stackRest {selfRefresh : Bool} {k : Nat} (hs : GlobalsKept s₀ s) : GlobalsKept s₀ (stackRest selfRefresh k s) :=
  .ite (.ite (.setSstate hs) (.setSstate <| .loseStack hs)) hs

theorem hbmFollow (hs : GlobalsKept s₀ s) : GlobalsKept s₀ (hbmFollow s) :=
  .stackRise <| .stackRise <| .synFollow <| .stackRest <| .stackRest <| .foldl (.foldl hs fun _ _ h => .pcDown h)
    fun _ _ h => .pcUp h

theorem schedLoad {l : List PlanSched} (hs : GlobalsKept s₀ s) : GlobalsKept s₀ (schedLoad l s) := by
  unfold Machine.schedLoad
  extract_lets +onlyGivenNames _ _ s₁
  have h₁ : GlobalsKept s₀ s₁ := .wr rfl <| .wr rfl hs
  exact .ite (.pwr h₁) (.foldl (.pwr h₁) fun _ _ h => .pwr h)

/-! The plan loader. -/

theorem auditPlan {ag : AgentId} {code len : Nat} {planId : List Byte} (hs : GlobalsKept s₀ s) :
    GlobalsKept s₀ (auditPlan ag code len planId s) := .audit <| .audit <| .audit hs
theorem loadDrain {us : List Nat} (hs : GlobalsKept s₀ s) : GlobalsKept s₀ (loadDrain us s) :=
  .settle <| .foldl hs fun _ _ h => .ite (.unitDrain h) h
theorem configBegin {j : LoadJob} {p : PlanImg} (hs : GlobalsKept s₀ s) : GlobalsKept s₀ (configBegin j p s) :=
  .settle <| .foldl hs fun _ _ h => .changeState h
theorem swapRoutes {e : BitVec 32} {new : List PlanRoute} (hs : GlobalsKept s₀ s) :
    GlobalsKept s₀ (swapRoutes e new s) := .plan <| .foldl hs fun _ _ h => .plan h

theorem swapGranules {p : PlanImg} (hs : GlobalsKept s₀ s) : GlobalsKept s₀ (swapGranules p s) := by
  unfold Machine.swapGranules
  split
  exacts [hs, .foldl hs fun _ _ h => .unitForget h]

end GlobalsKept

end Sys2Proof.Machine
end

section
/-! SUPPORT. The plan loader: how a load begins, what a reject leaves when no wake is deferred and no unit is to start again,
and what becomes of a fetched image (02 R111 to R114, R119, R121). -/

namespace Sys2Proof.Machine

variable {s t u : State} {j : LoadJob} {c : Nat}

/-! What the loader's registers and plan state keep. -/

theorem Onward.plan_eq {Q : Prop} (h : Onward True Q s t) : t.plan = { s.plan with offered := t.plan.offered } :=
  h.2.2.1 trivial

theorem Raised.of_onward {P Q : Prop} {n : Nat} (h : Onward P Q s t) (k : Raised t u c n) : Raised s u c n := by
  obtain ⟨old, hold⟩ := h.1
  obtain ⟨new, hnew, e, he, hcode⟩ := k
  exact ⟨new ++ old, by rw [hnew, ← hold, List.append_assoc], e, List.mem_append_left _ he, hcode⟩

theorem getF_withPlan (f : PlanState → PlanState) (s : State) (r : Reg) (i j lo w : Nat) :
    getF (withPlan f s) r i j lo w = getF s r i j lo w := rfl

theorem planPhase_withPlan (f : PlanState → PlanState) (s : State) : planPhase (withPlan f s) = planPhase s := rfl

theorem planStatus_of_kept (h : GlobalsKept s t) : rd t .globalPlanStatus 0 0 = rd s .globalPlanStatus 0 0 :=
  h.rd_eq (by decide)
theorem planPhase_of_kept (h : GlobalsKept s t) : planPhase t = planPhase s := getF_of_rd (planStatus_of_kept h) _ _

/-- A field reads as the value that fits it. -/
theorem getF_setF_of_lt {r : Reg} {i j lo w x : Nat} (h : lo + w ≤ 32) (hx : x < 2 ^ w) (s : State) :
    getF (setF r i j lo w x s) r i j lo w = x := (getF_setF s r i j lo w x h).trans (Nat.mod_eq_of_lt hx)

theorem planPhase_setPhase {k : Nat} (hk : k < 8) (s : State) : planPhase (setPhase k s) = k := by
  rw [planPhase, setPhase, setB, getF_setF_below _ _ _ _ _ _ _ _ _ (by decide) (by decide),
    getF_setF_of_lt (by decide) hk]

theorem planPhase_setF {lo w x : Nat} (hw : lo + w ≤ 32) (hlo : 3 ≤ lo) (s : State) :
    planPhase (setF .globalPlanStatus 0 0 lo w x s) = planPhase s := getF_setF_below _ _ _ _ _ _ _ _ _ hw hlo

/-! A reject. -/

theorem startUnits_nil (s : State) : startUnits [] s = s := by simp [startUnits, startOrder]

/-- No unit ran before the load, so none starts again. -/
theorem loadRestart_of_none (h : j.before = []) (s : State) : loadRestart j s = settle s := by
  simp [loadRestart, h, startUnits_nil, withPlan]

theorem deferredWakes_of_none (h : s.plan.deferred = []) : deferredWakes s = s := by
  unfold deferredWakes
  rw [h, List.foldl_nil, ← h]

/-- What s becomes when its load is struck out with a result code. -/
def loadStruck (c : Nat) (s : State) : State :=
  withPlan (fun p => { p with load := none })
    (setF .globalPlanStatus 0 0 16 16 c (setF .globalPlanStatus 0 0 4 2 2 (setPhase 0 s)))

theorem loadStruck_plan (c : Nat) (s : State) : (loadStruck c s).plan = { s.plan with load := none } := by
  simp only [loadStruck, setPhase, withPlan, setF_keeps, setB_keeps]

theorem loadStruck_onward (c : Nat) (s : State) : Onward False True s (loadStruck c s) :=
  .withPlan <| .setF <| .setF <| .setPhase <| .refl s

/-- The load has ended rejected with code c; the plan that s runs stays in force (02 R114, R125). -/
structure Rejected (c : Nat) (s t : State) : Prop where
  load : t.plan.load = none
  phase : planPhase t = 0
  raised : Raised s t c 0x250
  result : getF t .globalPlanStatus 0 0 4 2 = 2
  code : getF t .globalPlanStatus 0 0 16 16 = c
  running : t.plan.running = s.plan.running

theorem Rejected.later {ro : List Nat} (h : Rejected c s t) (k : Reported ro t u) (hk : GlobalsKept t u) : Rejected c s u :=
  { load := by rw [k.plan, h.load]
    phase := (planPhase_of_kept hk).trans h.phase
    raised := h.raised.later k
    result := (getF_of_rd (planStatus_of_kept hk) _ _).trans h.result
    code := (getF_of_rd (planStatus_of_kept hk) _ _).trans h.code
    running := by rw [k.plan, h.running] }

theorem Rejected.since {P Q : Prop} (h : Onward P Q s t) (hrun : t.plan.running = s.plan.running) (k : Rejected c t u) :
    Rejected c s u := { k with raised := k.raised.of_onward h, running := k.running.trans hrun }

/-- A struck load is then reported and audited, and the machine settles. -/
theorem loadReject_eq (hboot : j.boot = false) (hdef : s.plan.deferred = []) (hbefore : j.before = []) :
    ∃ len id, loadReject j c true s = settle (auditPlan j.origin c len id (raise c 0x250 [] (loadStruck c s))) := by
  unfold loadReject
  extract_lets s₁ s₂ id len s₃ s₄
  have hon : Onward True True (loadStruck c s) (settle s₃) := .settle <| .auditPlan <| .raise <| .refl _
  have hnone : (settle s₃).plan.deferred = [] := by
    rw [hon.plan_eq, loadStruck_plan, hdef]
  refine ⟨len, id, ?_⟩
  rw [if_pos rfl, bootNext, hboot, Bool.not_false, if_pos rfl]
  calc s₄ = deferredWakes (settle s₃) := congrArg deferredWakes (loadRestart_of_none hbefore s₃)
    _ = settle s₃ := deferredWakes_of_none hnone

theorem loadStruck_phase (c : Nat) (s : State) : planPhase (loadStruck c s) = 0 := by
  rw [loadStruck, planPhase_withPlan, planPhase_setF (by decide) (by decide), planPhase_setF (by decide) (by decide),
    planPhase_setPhase (by decide)]

theorem loadStruck_result (c : Nat) (s : State) : getF (loadStruck c s) .globalPlanStatus 0 0 4 2 = 2 := by
  rw [loadStruck, getF_withPlan, getF_setF_below _ _ _ _ _ _ _ _ _ (by decide) (by decide),
    getF_setF_of_lt (by decide) (by decide)]

theorem loadStruck_code (hc : c < 65536) (s : State) : getF (loadStruck c s) .globalPlanStatus 0 0 16 16 = c := by
  rw [loadStruck, getF_withPlan, getF_setF_of_lt (by decide) hc]

/-- What follows a struck load leaves the loader's status and the plan state. -/
theorem Rejected.of_struck {x : State} (hc : c < 65536) (hx : Onward True True (raise c 0x250 [] (loadStruck c s)) x)
    (hkept : GlobalsKept (loadStruck c s) x) : Rejected c s x := by
  have hplan := hx.plan_eq
  rw [(raise_reported _ _ _ _).plan] at hplan
  have hraised : Raised (loadStruck c s) x c 0x250 := (raise_raised _ _ _ _).onward hx
  exact
    { load := by rw [hplan, loadStruck_plan]
      phase := (planPhase_of_kept hkept).trans (loadStruck_phase c s)
      raised := hraised.of_onward (loadStruck_onward c s)
      result := (getF_of_rd (planStatus_of_kept hkept) _ _).trans (loadStruck_result c s)
      code := (getF_of_rd (planStatus_of_kept hkept) _ _).trans (loadStruck_code hc s)
      running := by rw [hplan, loadStruck_plan] }

theorem loadReject_rejected (hc : c < 65536) (hboot : j.boot = false) (hdef : s.plan.deferred = [])
    (hbefore : j.before = []) : Rejected c s (loadReject j c true s) := by
  obtain ⟨len, id, heq⟩ := loadReject_eq (c := c) hboot hdef hbefore
  rw [heq]
  exact .of_struck hc (.settle <| .auditPlan <| .refl _) (.settle <| .auditPlan <| .raise <| .refl _)

/-! The commands of GLOBAL_PLAN_CMD. -/

/-- An open command of the plan register has its effect and is then reported. -/
theorem planCmdW_open {ag : AgentId} {v : Nat} (hopen : WriteOpen s ag (Reg.off .globalPlanCmd 0 0))
    (heff : (planCmdEff ag (BitVec.ofNat 32 v) s).1 = t) :
    Reported eventOffs t (planCmdW ag v s) ∧ GlobalsKept t (planCmdW ag v s) := by
  have h : Reported eventOffs t (planCmdW ag v s) := heff ▸ guardW_open _ hopen
  exact ⟨h, (GlobalsKept.refl t).report h⟩

theorem planCmdEff_host (ag : AgentId) (s : State) : (planCmdEff ag (BitVec.ofNat 32 1) s).1 = loadHost ag s := rfl
theorem planCmdEff_abort (ag : AgentId) (s : State) : (planCmdEff ag (BitVec.ofNat 32 3) s).1 = loadAbort true s := rfl

theorem planCmdEff_flash (ag : AgentId) (slot : Nat) (s : State) :
    (planCmdEff ag (BitVec.ofNat 32 (2 + slot % 2 * 256)) s).1 = loadFlash ag (slot % 2) s := by
  rcases Nat.mod_two_eq_zero_or_one slot with h | h <;> rw [h] <;> rfl

/-- A load that has just begun. -/
def begunJob (ag : AgentId) (source len : Nat) : LoadJob :=
  { origin := ag, source := source, length := len, img := none, bytes := [], changed := [], before := [], boot := false }

theorem loadBegin_load (ag : AgentId) (source len : Nat) (s : State) :
    (loadBegin ag source len false s).plan.load = some (begunJob ag source len) := rfl

theorem loadBegin_running (ag : AgentId) (source len : Nat) (s : State) :
    (loadBegin ag source len false s).plan.running = s.plan.running := rfl

theorem loadBegin_deferred (ag : AgentId) (source len : Nat) (s : State) :
    (loadBegin ag source len false s).plan.deferred = s.plan.deferred := rfl

theorem loadHost_busy (ag : AgentId) (h : planPhase s ≠ 0) : loadHost ag s = loadBusy ag s := by
  rw [loadHost, if_pos h]

theorem loadFlash_busy (ag : AgentId) (slot : Nat) (h : planPhase s ≠ 0) : loadFlash ag slot s = loadBusy ag s := by
  rw [loadFlash, if_pos h]

theorem loadFlash_idle (ag : AgentId) (slot : Nat) (h : planPhase s = 0) :
    loadFlash ag slot s = loadBegin ag (slot + 1) 0 false s := by
  rw [loadFlash, if_neg (not_not_intro h)]

theorem loadHost_of_range {ag : AgentId} (hidle : planPhase s = 0) (hmin : 1024 ≤ planLen s)
    (hmax : planLen s ≤ 33554432) (hmod : planLen s % 8 = 0) : loadHost ag s = loadBegin ag 0 (planLen s) false s := by
  unfold loadHost
  rw [if_neg (not_not_intro hidle)]
  dsimp only
  rw [loadBegin_load]
  exact if_neg (by omega)

theorem loadHost_out_of_range {ag : AgentId} (hidle : planPhase s = 0)
    (hlen : planLen s < 1024 ∨ 33554432 < planLen s ∨ planLen s % 8 ≠ 0) :
    loadHost ag s = loadReject (begunJob ag 0 (planLen s)) 0x1203 true (loadBegin ag 0 (planLen s) false s) := by
  unfold loadHost
  rw [if_neg (not_not_intro hidle)]
  dsimp only
  rw [loadBegin_load]
  exact if_pos hlen

/-- PLAN_BUSY is reported and nothing else (02 R113). -/
theorem loadBusy_reported (ag : AgentId) (s : State) :
    Reported eventOffs (raise 0x12F0 0x250 [] s) (loadBusy ag s) :=
  ((audit_reported _ _ _ _ _ _).trans (audit_reported _ _ _ _ _ _)).trans (audit_reported _ _ _ _ _ _)

theorem planCmdW_busy {ag : AgentId} {v : Nat} (hopen : WriteOpen s ag (Reg.off .globalPlanCmd 0 0))
    (heff : (planCmdEff ag (BitVec.ofNat 32 v) s).1 = loadBusy ag s) :
    (planCmdW ag v s).plan = s.plan ∧ planPhase (planCmdW ag v s) = planPhase s ∧
      Raised s (planCmdW ag v s) 0x12F0 0x250 := by
  have h := (loadBusy_reported ag s).trans (planCmdW_open hopen heff).1
  have hall := (raise_reported 0x12F0 0x250 [] s).trans h
  exact ⟨hall.plan, planPhase_of_kept ((GlobalsKept.refl s).report hall), (raise_raised _ _ _ _).later h⟩

/-- ABORT finds no load, or one past its swap point (02 R121). -/
theorem loadAbort_late (h : s.plan.load = none ∨ 5 ≤ planPhase s) :
    loadAbort true s = setF .globalPlanStatus 0 0 6 2 2 s := by
  unfold loadAbort
  split
  next j hj =>
    rcases h with h | h
    · rw [hj] at h; nomatch h
    · rw [if_neg (Nat.not_lt.mpr h)]
  next => rfl

theorem loadAbort_early (hload : s.plan.load = some j) (h : planPhase s < 5) :
    loadAbort true s = setF .globalPlanStatus 0 0 6 2 1 (loadReject j 0x12F2 true s) := by
  unfold loadAbort
  rw [hload]
  exact if_pos h

/-- The result of an ABORT leaves what the reject says. -/
theorem Rejected.aborted (h : Rejected c s t) : Rejected c s (setF .globalPlanStatus 0 0 6 2 1 t) :=
  { h with
    phase := (planPhase_setF (by decide) (by decide) t).trans h.phase
    result := (getF_setF_below _ _ _ _ _ _ _ _ _ (by decide) (by decide)).trans h.result
    code := (getF_setF_above _ _ _ _ _ _ _ _ _ (by decide) (by decide)).trans h.code }

/-! FETCH, VERIFY and CHECK. -/

section
variable {bytes b : List Byte} {good : Bool} {n : Nat} {p : PlanImg}

theorem planFetchDone_failed (hload : s.plan.load = some j) (hphase : planPhase s = 1)
    (hf : loadFetched s j bytes good = .error c) :
    exec (.planFetchDone bytes good) s = .next (loadReject { j with bytes := sl bytes 0 256 } c true s) := by
  change execPlanFetchDone bytes good s = _
  unfold execPlanFetchDone
  simp only [hload, hphase, hf, ne_eq, not_true_eq_false, if_false]

theorem planFetchDone_bad (hload : s.plan.load = some j) (hphase : planPhase s = 1)
    (hf : loadFetched s j bytes good = .ok (b, n)) (hcheck : checkImage (hbmWrite (loaderAddr s) b s) n b = .error c) :
    exec (.planFetchDone bytes good) s =
      .next (loadReject { j with bytes := b } c true (hbmWrite (loaderAddr s) b s)) := by
  change execPlanFetchDone bytes good s = _
  unfold execPlanFetchDone
  simp only [hload, hphase, hf, hcheck, ne_eq, not_true_eq_false, if_false]

theorem planFetchDone_good (hload : s.plan.load = some j) (hphase : planPhase s = 1)
    (hf : loadFetched s j bytes good = .ok (b, n)) (hcheck : checkImage (hbmWrite (loaderAddr s) b s) n b = .ok p) :
    exec (.planFetchDone bytes good) s = .next (loadAccept j b p (hbmWrite (loaderAddr s) b s)) := by
  change execPlanFetchDone bytes good s = _
  unfold execPlanFetchDone
  simp only [hload, hphase, hf, hcheck, ne_eq, not_true_eq_false, if_false]

/-- A host image whose reads fail (02 R113). -/
theorem loadFetched_host_failed (hsrc : j.source = 0) : loadFetched s j bytes false = .error 0x12F1 := by
  simp [loadFetched, hsrc]

/-- The image goes to HBM alone: the plan state and the history are those of before. -/
theorem hbmWrite_onward (a : Nat) (b : List Byte) (s : State) : Onward True True s (hbmWrite a b s) := .hbmWrite (.refl s)

theorem hbmWrite_running (a : Nat) (b : List Byte) (s : State) : (hbmWrite a b s).plan.running = s.plan.running := by
  rw [(hbmWrite_onward a b s).plan_eq]

theorem hbmWrite_deferred (a : Nat) (b : List Byte) (s : State) : (hbmWrite a b s).plan.deferred = s.plan.deferred := by
  rw [(hbmWrite_onward a b s).plan_eq]

/-- FETCH fails with a code, or VERIFY and CHECK of what it delivers do. -/
theorem planFetchDone_rejected (hload : s.plan.load = some j) (hphase : planPhase s = 1) (hboot : j.boot = false)
    (hdef : s.plan.deferred = []) (hbefore : j.before = []) (hc : c < 65536)
    (hbad : loadFetched s j bytes good = .error c ∨ (loadFetched s j bytes good).toOption.any (fun x =>
      decide (checkImage (hbmWrite (loaderAddr s) x.1 s) x.2 x.1 = .error c)) = true) :
    ∃ t, exec (.planFetchDone bytes good) s = .next t ∧ Rejected c s t := by
  rcases hbad with hf | hcheck
  · exact ⟨_, planFetchDone_failed hload hphase hf, loadReject_rejected hc hboot hdef hbefore⟩
  · cases hf : loadFetched s j bytes good with
    | error e => rw [hf] at hcheck; nomatch hcheck
    | ok x =>
      rw [hf] at hcheck
      have hrej : Rejected c (hbmWrite (loaderAddr s) x.1 s)
          (loadReject { j with bytes := x.1 } c true (hbmWrite (loaderAddr s) x.1 s)) :=
        loadReject_rejected hc hboot ((hbmWrite_deferred _ _ _).trans hdef) hbefore
      exact ⟨_, planFetchDone_bad hload hphase hf (of_decide_eq_true hcheck),
        hrej.since (hbmWrite_onward _ _ _) (hbmWrite_running _ _ _)⟩

/-- An accepted image waits in phase 4 while its changed units drain; the running plan stays (02 R119). -/
theorem loadAccept_spec (j : LoadJob) (b : List Byte) (p : PlanImg) (s : State) :
    planPhase (loadAccept j b p s) = 4 ∧ (loadAccept j b p s).plan.running = s.plan.running ∧
      ∃ k, (loadAccept j b p s).plan.load = some k ∧ k.img = some p ∧ k.bytes = b ∧ k.origin = j.origin := by
  unfold loadAccept
  extract_lets ch k
  have hon : Onward True True (setPhase 4 (withPlan (fun x => { x with load := some k }) s))
      (loadDrain ch (setPhase 4 (withPlan (fun x => { x with load := some k }) s))) := .loadDrain (.refl _)
  refine ⟨(planPhase_of_kept (.loadDrain (.refl _))).trans (planPhase_setPhase (by decide) _), ?_, k, ?_, rfl, rfl, rfl⟩
  · rw [hon.plan_eq]; rfl
  · rw [hon.plan_eq]; rfl

end

end Sys2Proof.Machine
end

section
/-! SUPPORT. The swap point and the end of CONFIGURE: what they put in force, and the statement of the plan commands
(02 R111 to R125). -/

namespace Sys2Proof.Machine

variable {s t : State} {j : LoadJob} {p : PlanImg}

/-! The swap point. -/

/-- A PLAN_SWAP that finds every changed unit drained and no PC of the plan fenced puts it in force and begins CONFIGURE. -/
theorem planSwap_drained {us : Nat} (hload : s.plan.load = some j) (himg : j.img = some p) (hphase : planPhase s = 4)
    (hdrained : j.changed.any (fun u => !alwaysOn u && (ustate s u).busy) = false)
    (hfence : Nat.land p.pcMask (pcsFenced s) = 0) :
    exec (.planSwap us) s =
      .next (configBegin j p (setPhase 6 (swapPlan j p (if j.boot then bootTime 2 us s else s)))) := by
  change execPlanSwap us s = _
  unfold execPlanSwap
  simp only [hload, himg, hphase, hdrained, hfence, ne_eq, not_true_eq_false, if_false, Bool.false_eq_true]

/-- One that finds a PC of the plan fenced rejects the load (02 R123). -/
theorem planSwap_fenced {us : Nat} (hload : s.plan.load = some j) (himg : j.img = some p) (hphase : planPhase s = 4)
    (hdrained : j.changed.any (fun u => !alwaysOn u && (ustate s u).busy) = false)
    (hfence : Nat.land p.pcMask (pcsFenced s) ≠ 0) : exec (.planSwap us) s = .next (loadReject j 0x1271 true s) := by
  change execPlanSwap us s = _
  unfold execPlanSwap
  simp only [hload, himg, hphase, hdrained, hfence, ne_eq, not_true_eq_false, not_false_eq_true, if_false, if_true,
    Bool.false_eq_true]

theorem planEpoch_of_kept (h : GlobalsKept s t) : planEpoch t = planEpoch s := h.rd_eq (by decide)

/-- GLOBAL_BOOT_TIME lies above the registers of the loader and of the boot and fault status. -/
theorem rd_bootTime {r : Reg} {i j : Nat} (h : r.off i j < 0x30004) (k us : Nat) (s : State) :
    rd (bootTime k us s) r i j = rd s r i j := by
  have hbase : 0x30004 ≤ Reg.off .globalBootTime 0 k := base_le_off .globalBootTime 0 k
  unfold bootTime
  split
  exacts [rd_wr_ne _ _ (by omega), rfl]

theorem planEpoch_setF_status (lo w x : Nat) (s : State) :
    planEpoch (setF .globalPlanStatus 0 0 lo w x s) = planEpoch s := rd_setF_ne _ _ _ _ (by decide)

theorem planEpoch_setPhase (k : Nat) (s : State) : planEpoch (setPhase k s) = planEpoch s :=
  (planEpoch_setF_status _ _ _ _).trans (planEpoch_setF_status _ _ _ _)

theorem planEpoch_digest (f : Nat → BitVec 32) (l : List Nat) (s : State) :
    planEpoch (l.foldl (fun s i => wr .globalPlanDigest 0 i (f i) s) s) = planEpoch s := by
  refine foldl_keeps planEpoch (fun s i => rd_wr_ne _ _ (Nat.ne_of_lt (Nat.lt_of_lt_of_le ?_ (base_le_off _ _ _)))) l s
  decide

/-- The digest of a plan as register words. -/
def digestWords (p : PlanImg) : List Word :=
  bytesWords ((List.range 48).map fun i => BitVec.ofNat 8 (p.digest / 2 ^ (8 * (47 - i))))

/-- The plan state names p, the plan of the load j, as the one in force. -/
structure InForce (j : LoadJob) (p : PlanImg) (x : PlanState) : Prop where
  running : x.running = some p
  image : x.image = j.bytes
  owners : x.owners = p.owners
  regions : x.regions = p.regions

theorem InForce.onward {Q : Prop} (h : InForce j p s.plan) (k : Onward True Q s t) : InForce j p t.plan := by
  rw [k.plan_eq]
  exact ⟨h.running, h.image, h.owners, h.regions⟩

/-- The plan state once p has taken over. -/
def planTaken (j : LoadJob) (p : PlanImg) (x : PlanState) : PlanState :=
  { x with running := some p, image := j.bytes, owners := p.owners, sram := p.sram, order := p.order, pcMask := p.pcMask,
           regions := p.regions, rearm := [] }

theorem planTaken_inForce (j : LoadJob) (p : PlanImg) (x : PlanState) : InForce j p (planTaken j p x) :=
  ⟨rfl, rfl, rfl, rfl⟩

/-- The swap point up to its report: epoch, routes, tables and plan state, then key and digest. -/
def swapBase (j : LoadJob) (p : PlanImg) (s : State) : State :=
  (List.range 12).foldl (fun s i => wr .globalPlanDigest 0 i ((digestWords p).getD i 0) s)
    (setF .globalPlanStatus 0 0 8 2 p.key (withPlan (planTaken j p)
      (swapGranules p (swapRoutes (planEpoch s + 1) p.routes (wr .globalPlanEpoch 0 0 (planEpoch s + 1) s)))))

theorem swapBase_inForce (j : LoadJob) (p : PlanImg) (s : State) : InForce j p (swapBase j p s).plan := by
  have hon (x : State) : Onward True True (withPlan (planTaken j p) x)
      ((List.range 12).foldl (fun s i => wr .globalPlanDigest 0 i ((digestWords p).getD i 0) s)
        (setF .globalPlanStatus 0 0 8 2 p.key (withPlan (planTaken j p) x))) :=
    .foldl (.setF <| .refl _) fun _ _ h => .wr h
  exact InForce.onward (planTaken_inForce j p _) (hon _)

theorem swapBase_epoch (j : LoadJob) (p : PlanImg) (s : State) : planEpoch (swapBase j p s) = planEpoch s + 1 := by
  rw [swapBase, planEpoch_digest, planEpoch_setF_status]
  exact (planEpoch_of_kept (.swapGranules <| .swapRoutes <| .refl _)).trans (rd_wr _ _ _ _ _)

/-- The rest of the swap point reports, loads the schedule and lets the HBM stacks follow. -/
theorem swapPlan_spec (j : LoadJob) (p : PlanImg) (s : State) :
    Onward True False (swapBase j p s) (swapPlan j p s) ∧ GlobalsKept (swapBase j p s) (swapPlan j p s) :=
  ⟨.hbmFollow <| .schedLoad <| .raise <| .pwr <| .refl _, .hbmFollow <| .schedLoad <| .raise <| .pwr <| .refl _⟩

/-- After a swap the plan is in force under the next plan epoch, and its units are configured. -/
theorem swapPlan_inForce (j : LoadJob) (p : PlanImg) (s : State) :
    planPhase (configBegin j p (setPhase 6 (swapPlan j p s))) = 6 ∧
      planEpoch (configBegin j p (setPhase 6 (swapPlan j p s))) = planEpoch s + 1 ∧
      InForce j p (configBegin j p (setPhase 6 (swapPlan j p s))).plan := by
  obtain ⟨hon, hkept⟩ := swapPlan_spec j p s
  have hconf : GlobalsKept (setPhase 6 (swapPlan j p s)) (configBegin j p (setPhase 6 (swapPlan j p s))) :=
    .configBegin <| .refl _
  have hall : Onward True False (swapBase j p s) (configBegin j p (setPhase 6 (swapPlan j p s))) :=
    .configBegin <| .setPhase hon
  refine ⟨(planPhase_of_kept hconf).trans (planPhase_setPhase (by decide) _), ?_, (swapBase_inForce j p s).onward hall⟩
  rw [planEpoch_of_kept hconf, planEpoch_setPhase, planEpoch_of_kept hkept, swapBase_epoch]

/-! The end of CONFIGURE. -/

/-- CONFIGURE itself: units are recovered, powered, reset, given their REGINIT values and started (02 R119 step 6). -/
def configUnits (j : LoadJob) (p : PlanImg) (bad : List Nat) (s : State) : State :=
  let s := j.changed.foldl (fun s u => configRecover p bad u s) s
  let s := (j.changed.filter fun u => !alwaysOn u).foldl (fun s u => configPower p u s) s
  let s := resetPl none (j.changed.foldl (fun s u => configReset p u s) s)
  let s := applyInits (p.inits.filter (configInit s j)) s
  let mine := j.changed.filter fun u => !alwaysOn u && ustate s u == .ready
  let s := (mine.filter fun u => configTarget p u == 1).foldl (fun s u => toGated u s) s
  let s := startUnits (mine.filter fun u => configTarget p u == 3) s
  if planEpoch s = 1 then firstVectors s else s

/-- The load is accepted and gone. -/
def loadAccepted (s : State) : State :=
  withPlan (fun x => { x with load := none }) (setF .globalPlanStatus 0 0 4 2 1 (setPhase 0 s))

/-- The boot status after an accepted load: where the plan came from, and READY. -/
def bootAccepted (us : Nat) (j : LoadJob) (s : State) : State :=
  let s := if j.source = 3 then s else setF .globalBootStatus 0 0 4 2 (if j.source = 0 then 3 else j.source) s
  let s := if j.boot ∧ j.source = 1 then setF .globalBootStatus 0 0 16 16 0 s else s
  let s := setB .globalFaultStatus 0 0 6 false s
  let s := readyRise us { s with boot := { s.boot with warm := none } }
  if bootPhase s = 3 then setBootPhase 4 s else s

theorem planConfigureDone_clocked {us : Nat} {bad : List Nat} (hload : s.plan.load = some j) (himg : j.img = some p)
    (hphase : planPhase s = 6) (hclk : configClocked s j p = true) :
    exec (.planConfigureDone us bad) s = .next (deferredWakes (settle (bootAccepted us j
      (auditPlan j.origin 0 p.length p.planId (loadAccepted (configUnits j p bad s)))))) := by
  change execPlanConfigureDone us bad s = _
  unfold execPlanConfigureDone
  simp only [hload, himg]
  rw [if_neg (by simp [hphase, hclk])]
  rfl

theorem configUnits_onward (j : LoadJob) (p : PlanImg) (bad : List Nat) (s : State) :
    Onward True False s (configUnits j p bad s) := by
  unfold configUnits
  extract_lets s₁ s₂ s₃ s₄ mine s₅ s₆
  have h₂ : Onward True False s s₂ := .foldl (.foldl (.refl s) fun _ _ h => .configRecover h) fun _ _ h => .configPower h
  have h₄ : Onward True False s s₄ := .applyInits <| .resetPl <| .foldl h₂ fun _ _ h => .configReset h
  have h₆ : Onward True False s s₆ := .startUnits <| .foldl h₄ fun _ _ h => .toGated h
  exact .ite (.firstVectors h₆) h₆

theorem loadAccepted_status (s : State) :
    planPhase (loadAccepted s) = 0 ∧ getF (loadAccepted s) .globalPlanStatus 0 0 4 2 = 1 := by
  rw [loadAccepted, planPhase_withPlan, getF_withPlan, planPhase_setF (by decide) (by decide),
    planPhase_setPhase (by decide), getF_setF_of_lt (by decide) (by decide)]
  exact ⟨rfl, rfl⟩

theorem ite_keeps {α : Type} (g : State → α) {a : α} {q : Prop} [Decidable q] (hs : g s = a) (ht : g t = a) :
    g (if q then s else t) = a := by
  split <;> assumption

theorem rd_readyRise {r : Reg} {i j : Nat} (h : r.off i j < 0x30004) (h' : r.off i j ≠ Reg.off .globalBootStatus 0 0)
    (us : Nat) (s : State) : rd (readyRise us s) r i j = rd s r i j :=
  ite_keeps (rd · r i j) rfl ((rd_bootTime h _ _ _).trans (rd_setB_ne _ _ _ h'))

theorem readyRise_ready (us : Nat) (s : State) : getB (readyRise us s) .globalBootStatus 0 0 3 = true := by
  unfold readyRise
  split
  · assumption
  · rw [getB_of_rd (rd_bootTime (by decide) _ _ _), getB_setB _ _ _ _ _ _ (by decide)]

theorem setBootPhase_ready (k : Nat) (s : State) :
    getB (setBootPhase k s) .globalBootStatus 0 0 3 = getB s .globalBootStatus 0 0 3 := by
  have h : getF (setBootPhase k s) .globalBootStatus 0 0 3 1 = getF s .globalBootStatus 0 0 3 1 :=
    getF_setF_above _ _ _ _ _ _ _ _ _ (by decide) (by decide)
  rw [getB, getB, bit_eq_fld, bit_eq_fld]
  exact congrArg (fun x => decide (x = 1)) h

theorem bootAccepted_onward (us : Nat) (j : LoadJob) (s : State) : Onward True True s (bootAccepted us j s) := by
  unfold bootAccepted
  extract_lets s₁ s₂ s₃ b s₄
  have h₁ : Onward True True s s₁ := .ite (.refl s) (.setF <| .refl s)
  have h₂ : Onward True True s s₂ := .ite (.setF h₁) h₁
  have h₄ : Onward True True s s₄ := .readyRise <| .boot <| .setB h₂
  exact .ite (.setBootPhase h₄) h₄

/-- READY is high, the fault of a missing plan is gone, and the loader's status is as before. -/
theorem bootAccepted_status (us : Nat) (j : LoadJob) (s : State) :
    rd (bootAccepted us j s) .globalPlanStatus 0 0 = rd s .globalPlanStatus 0 0 ∧
      getB (bootAccepted us j s) .globalBootStatus 0 0 3 = true ∧
      getB (bootAccepted us j s) .globalFaultStatus 0 0 6 = false := by
  unfold bootAccepted
  extract_lets s₁ s₂ s₃ b s₄
  have hstatus : rd s₄ .globalPlanStatus 0 0 = rd s .globalPlanStatus 0 0 :=
    calc rd s₄ .globalPlanStatus 0 0 = rd s₃ .globalPlanStatus 0 0 := rd_readyRise (by decide) (by decide) _ _
      _ = rd s₂ .globalPlanStatus 0 0 := rd_setB_ne _ _ _ (by decide)
      _ = rd s₁ .globalPlanStatus 0 0 := ite_keeps (rd · _ 0 0) (rd_setF_ne _ _ _ _ (by decide)) rfl
      _ = rd s .globalPlanStatus 0 0 := ite_keeps (rd · _ 0 0) rfl (rd_setF_ne _ _ _ _ (by decide))
  have hready : getB s₄ .globalBootStatus 0 0 3 = true := readyRise_ready _ _
  have hfault : getB s₄ .globalFaultStatus 0 0 6 = false :=
    (getB_of_rd (rd_readyRise (by decide) (by decide) _ _) 6).trans (getB_setB s₂ _ _ _ _ _ (by decide))
  exact ⟨ite_keeps (rd · _ 0 0) ((rd_setF_ne _ _ _ _ (by decide)).trans hstatus) hstatus,
    ite_keeps (getB · _ 0 0 3) ((setBootPhase_ready 4 s₄).trans hready) hready,
    ite_keeps (getB · _ 0 0 6) ((getB_of_rd (rd_setF_ne _ _ _ _ (by decide)) 6).trans hfault) hfault⟩

theorem loadAccepted_plan (s : State) : (loadAccepted s).plan = { s.plan with load := none } := rfl

/-- The state after CONFIGURE: the load is gone and accepted, READY is high, and no plan is missing. -/
structure Configured (t : State) : Prop where
  load : t.plan.load = none
  phase : planPhase t = 0
  result : getF t .globalPlanStatus 0 0 4 2 = 1
  ready : getB t .globalBootStatus 0 0 3 = true
  found : getB t .globalFaultStatus 0 0 6 = false

/-- The audit, the boot status and what settles after an accepted load keep what it says of the loader. -/
theorem configured_of_accepted {len : Nat} {id : List Byte} (us : Nat) (j : LoadJob) (hload : s.plan.load = none)
    (hdef : s.plan.deferred = []) (hphase : planPhase s = 0) (hres : getF s .globalPlanStatus 0 0 4 2 = 1) :
    Configured (deferredWakes (settle (bootAccepted us j (auditPlan j.origin 0 len id s)))) := by
  have hon : Onward True True s (settle (bootAccepted us j (auditPlan j.origin 0 len id s))) :=
    .settle <| .trans (.auditPlan <| .refl s) (bootAccepted_onward _ _ _)
  have hkept : GlobalsKept (bootAccepted us j (auditPlan j.origin 0 len id s))
      (settle (bootAccepted us j (auditPlan j.origin 0 len id s))) := .settle <| .refl _
  have haudit : GlobalsKept s (auditPlan j.origin 0 len id s) := .auditPlan <| .refl s
  obtain ⟨hstatus, hready, hfault⟩ := bootAccepted_status us j (auditPlan j.origin 0 len id s)
  have hrd := ((planStatus_of_kept hkept).trans hstatus).trans (planStatus_of_kept haudit)
  rw [deferredWakes_of_none (by rw [hon.plan_eq]; exact hdef)]
  exact
    { load := by rw [hon.plan_eq]; exact hload
      phase := (getF_of_rd hrd _ _).trans hphase
      result := (getF_of_rd hrd _ _).trans hres
      ready := (getB_of_rd (hkept.rd_eq (by decide)) 3).trans hready
      found := (getB_of_rd (hkept.rd_eq (by decide)) 6).trans hfault }

theorem planConfigureDone_configured {us : Nat} {bad : List Nat} (hload : s.plan.load = some j) (himg : j.img = some p)
    (hphase : planPhase s = 6) (hclk : configClocked s j p = true) (hdef : s.plan.deferred = []) :
    ∃ t, exec (.planConfigureDone us bad) s = .next t ∧ Configured t := by
  have hplan := (configUnits_onward j p bad s).plan_eq
  obtain ⟨hidle, hres⟩ := loadAccepted_status (configUnits j p bad s)
  refine ⟨_, planConfigureDone_clocked hload himg hphase hclk, configured_of_accepted us j ?_ ?_ hidle hres⟩
  · rw [loadAccepted_plan]
  · rw [loadAccepted_plan, hplan]
    exact hdef

/-! The statement. -/

/-- Settles O19: each command is the load, reject, swap or acceptance that it says, and what follows it (reports, units that
drain, stacks that follow the mask) writes no GLOBAL register and leaves the plan state but for the items offered. -/
theorem planCommandsComplete : Obligations.PlanCommandsComplete := by
  refine ⟨?host, ?hostLength, ?busy, ?flash, ?abort, ?abortLate, ?bad, ?hostFailed, ?good, ?swap, ?fenced, ?configured⟩
  case host =>
    intro s ag hopen hidle hmin hmax hmod
    obtain ⟨hr, hk⟩ := planCmdW_open (v := 1) hopen
      ((planCmdEff_host ag s).trans (loadHost_of_range hidle hmin hmax hmod))
    refine ⟨_, rfl, (planPhase_of_kept hk).trans (planPhase_setPhase (by decide) _), ?_,
      ⟨begunJob ag 0 (planLen s), ?_, rfl, rfl, rfl⟩, ?_, ?_⟩
    · exact (getB_of_rd (planStatus_of_kept hk) 3).trans (getB_setB _ _ _ _ _ _ (by decide))
    · rw [hr.plan, loadBegin_load]
    · rw [hr.plan, loadBegin_running]
    · exact (planEpoch_of_kept hk).trans (planEpoch_setPhase _ _)
  case hostLength =>
    intro s ag hopen hidle hdef hlen
    obtain ⟨hr, hk⟩ := planCmdW_open (v := 1) hopen
      ((planCmdEff_host ag s).trans (loadHost_out_of_range hidle hlen))
    have hbegun : Onward False False s (loadBegin ag 0 (planLen s) false s) := .loadBegin <| .refl s
    have hrej : Rejected 0x1203 s (planCmdW ag 1 s) := .since hbegun (loadBegin_running _ _ _ _) <|
      (loadReject_rejected (by decide) rfl ((loadBegin_deferred _ _ _ _).trans hdef) rfl).later hr hk
    exact ⟨_, rfl, hrej.phase, hrej.load, hrej.raised, hrej.result, hrej.running⟩
  case busy =>
    intro s ag slot hopen hbusy
    exact ⟨⟨_, rfl, planCmdW_busy hopen ((planCmdEff_host ag s).trans (loadHost_busy ag hbusy))⟩,
      ⟨_, rfl, planCmdW_busy hopen ((planCmdEff_flash ag slot s).trans (loadFlash_busy ag _ hbusy))⟩⟩
  case flash =>
    intro s ag slot hopen hidle hslot
    obtain ⟨hr, hk⟩ := planCmdW_open (v := 2 + slot % 2 * 256) hopen
      ((planCmdEff_flash ag slot s).trans (loadFlash_idle ag _ hidle))
    refine ⟨_, rfl, (planPhase_of_kept hk).trans (planPhase_setPhase (by decide) _),
      ⟨begunJob ag (slot % 2 + 1) 0, ?_, congrArg Nat.succ (Nat.mod_eq_of_lt hslot)⟩, ?_⟩
    · rw [hr.plan, loadBegin_load]
    · rw [hr.plan, loadBegin_running]
  case abort =>
    intro s ag j hopen hload _ hearly hboot hdef hbefore
    obtain ⟨hr, hk⟩ := planCmdW_open (v := 3) hopen ((planCmdEff_abort ag s).trans (loadAbort_early hload hearly))
    have hrej : Rejected 0x12F2 s (planCmdW ag 3 s) :=
      (loadReject_rejected (by decide) hboot hdef hbefore).aborted.later hr hk
    exact ⟨_, rfl, hrej.load, hrej.phase, hrej.raised,
      (getF_of_rd (planStatus_of_kept hk) _ _).trans (getF_setF_of_lt (by decide) (by decide) _), hrej.code, hrej.running⟩
  case abortLate =>
    intro s ag hopen hlate
    obtain ⟨hr, hk⟩ := planCmdW_open (v := 3) hopen ((planCmdEff_abort ag s).trans (loadAbort_late hlate))
    exact ⟨_, rfl, hr.plan, (planPhase_of_kept hk).trans (planPhase_setF (by decide) (by decide) s),
      (getF_of_rd (planStatus_of_kept hk) _ _).trans (getF_setF_of_lt (by decide) (by decide) _)⟩
  case bad =>
    intro s j bytes good c hload hphase hboot hdef hbefore hc hbad
    obtain ⟨t, ht, hrej⟩ := planFetchDone_rejected hload hphase hboot hdef hbefore hc hbad
    exact ⟨t, ht, hrej.load, hrej.phase, hrej.raised, hrej.result, hrej.code, hrej.running⟩
  case hostFailed =>
    intro s j bytes hload hphase hsrc hboot hdef hbefore _
    obtain ⟨t, ht, hrej⟩ := planFetchDone_rejected (bytes := bytes) hload hphase hboot hdef hbefore (by decide)
      (.inl (loadFetched_host_failed hsrc))
    exact ⟨t, ht, hrej.load, hrej.phase, hrej.raised, hrej.result, hrej.running⟩
  case good =>
    intro s j b bytes n p hload hphase hf hcheck
    obtain ⟨hfour, hrun, hjob⟩ := loadAccept_spec j b p (hbmWrite (loaderAddr s) b s)
    exact ⟨_, planFetchDone_good hload hphase hf hcheck, hfour, hrun.trans (hbmWrite_running _ _ _), hjob⟩
  case swap =>
    intro s j p us hload himg hphase hdrained hfence
    obtain ⟨hsix, hepoch, hin⟩ := swapPlan_inForce j p (if j.boot then bootTime 2 us s else s)
    have hsame : planEpoch (if j.boot then bootTime 2 us s else s) = planEpoch s :=
      ite_keeps planEpoch (rd_bootTime (by decide) _ _ _) rfl
    exact ⟨_, planSwap_drained hload himg hphase hdrained hfence, hsix, hin.running, by rw [hepoch, hsame], hin.owners,
      hin.regions, hin.image⟩
  case fenced =>
    intro s j p us hload himg hphase hdrained hfence hboot hdef hbefore
    have hrej := loadReject_rejected (s := s) (c := 0x1271) (by decide) hboot hdef hbefore
    exact ⟨_, planSwap_fenced hload himg hphase hdrained hfence, hrej.phase, hrej.load, hrej.running, hrej.raised⟩
  case configured =>
    intro s j p us bad hload himg hphase hclk hdef
    obtain ⟨t, ht, hconf⟩ := planConfigureDone_configured hload himg hphase hclk hdef
    exact ⟨t, ht, hconf.load, hconf.phase, hconf.result, hconf.ready, hconf.found⟩

end Sys2Proof.Machine
end

section
/-! SUPPORT. The time unit's operations, one rule for each: what it does to the time unit's state and to device time, which
registers it leaves alone, and what it reports (03 R127 to R167). -/

namespace Sys2Proof.Machine

variable {s t : State}

/-! Reads around an update of the time unit. -/

@[simp] theorem withTime_time (f : TimeState → TimeState) (s : State) : (withTime f s).time = f s.time := rfl
@[simp] theorem rd_withTime (f : TimeState → TimeState) (s : State) (r : Reg) (i j : Nat) :
    rd (withTime f s) r i j = rd s r i j := rfl
@[simp] theorem raise_time (code u : Nat) (data : List EvField) (s : State) : (raise code u data s).time = s.time :=
  (raise_reported code u data s).time

theorem rd_raise {code u : Nat} {data : List EvField} {s : State} {r : Reg} {i j : Nat} (h : r.off i j ∉ eventOffs) :
    rd (raise code u data s) r i j = rd s r i j :=
  (raise_reported code u data s).rd_eq r i j h

/-- An event raised between two reports is raised from the first to the second. -/
theorem raisedData_between {P Q P' Q' : Prop} {code u : Nat} {data : List EvField} {s₁ : State} (h : Onward P Q s s₁)
    (k : Onward P' Q' (raise code u data s₁) t) : RaisedData s t code u data :=
  ((raise_raisedData code u data s₁).since h).onward k

theorem nowTotal_of_time (h : t.time = s.time) : nowTotal t = nowTotal s := by rw [nowTotal, h, nowTotal]

/-! Loads and steps of device time. -/

theorem unsgn_lt (w : Nat) (x : Int) : unsgn w x < 2 ^ w := by
  have hpos : (0 : Int) < ((2 ^ w : Nat) : Int) := by exact_mod_cast Nat.two_pow_pos w
  have hnonneg := Int.emod_nonneg x hpos.ne'
  have hlt := Int.emod_lt_of_pos x hpos
  unfold unsgn
  omega

/-- Seconds and fraction hold a count below 2^112 exactly. -/
theorem nowTotal_loadTime (total : Int) (s : State) : nowTotal (loadTime total s) = unsgn 112 total := by
  have h := unsgn_lt 112 total
  simp only [nowTotal, loadTime, withTime, BitVec.toNat_ofNat]
  omega

theorem stepTime_time (total ps : Int) (cause : Nat) (s : State) :
    (stepTime total ps cause s).time = { (loadTime total s).time with steps := s.time.steps + 1 } := by
  unfold stepTime
  rw [(audit_reported _ _ _ _ _ _).time, raise_time]
  rfl

theorem nowTotal_stepTime (total ps : Int) (cause : Nat) (s : State) :
    nowTotal (stepTime total ps cause s) = unsgn 112 total := by
  rw [← nowTotal_loadTime total s]
  simp [nowTotal, stepTime_time]

theorem rd_stepTime {r : Reg} {i j : Nat} (h : r.off i j ∉ eventOffs) (total ps : Int) (cause : Nat) (s : State) :
    rd (stepTime total ps cause s) r i j = rd s r i j := by
  unfold stepTime
  rw [(audit_reported _ _ _ _ _ _).rd_eq r i j h, rd_raise h]
  rfl

/-- A step is reported with its size and cause. -/
theorem stepTime_raised (total ps : Int) (cause : Nat) (s : State) :
    RaisedData s (stepTime total ps cause s) 0x0105 0x010 [.s32 ps, .u16 cause] :=
  raisedData_between (P := False) (Q := False) (P' := False) (Q' := False) (.ing <| .withTime <| .loadTime <| .refl s)
    (.audit <| .refl _)

/-- t is s with the SYSREF bursts moved or ended. -/
def BurstsMoved (s t : State) : Prop :=
  t = { s with time := { s.time with sysrefFrom := t.time.sysrefFrom, sysrefLeft := t.time.sysrefLeft } }

theorem BurstsMoved.foldl {β : Type} {f : State → β → State} (hf : ∀ x b, BurstsMoved s x → BurstsMoved s (f x b))
    (l : List β) {x : State} (hx : BurstsMoved s x) : BurstsMoved s (l.foldl f x) := by
  induction l generalizing x with
  | nil => exact hx
  | cons b r ih => exact ih (hf x b hx)

theorem BurstsMoved.onward {P Q : Prop} (h : BurstsMoved s t) : Onward P Q s t := by
  rw [h]
  exact .time (.refl s)

/-- The end of a load restarts SYN_5's count, ends ESTIMATED and touches the bursts alone beside. -/
theorem loadEnds_moved (before s : State) :
    BurstsMoved (withTime (fun t => { t with estHold := false, syn5Zero := t.sec.toNat * 2 ^ 64 + t.acc.toNat }) s)
      (loadEnds before s) := by
  unfold loadEnds
  refine BurstsMoved.foldl (fun x n hx => ?_) _ rfl
  split <;> (unfold BurstsMoved; rw [hx]; rfl)

/-- A load: device time is the target, ESTIMATED ends, and of the rest only the bursts and the count of steps change. -/
theorem loadStep_time (tgt : Int) (cause : Nat) (s : State) :
    (loadStep tgt cause s).time = { s.time with
      sec := BitVec.ofNat 48 (unsgn 112 tgt / 2 ^ 64), acc := BitVec.ofNat 64 (unsgn 112 tgt), steps := s.time.steps + 1,
      estHold := false, syn5Zero := (loadStep tgt cause s).time.syn5Zero,
      sysrefFrom := (loadStep tgt cause s).time.sysrefFrom, sysrefLeft := (loadStep tgt cause s).time.sysrefLeft } := by
  unfold loadStep
  rw [loadEnds_moved s]
  simp only [withTime_time, stepTime_time]
  rfl

theorem nowTotal_loadStep (tgt : Int) (cause : Nat) (s : State) : nowTotal (loadStep tgt cause s) = unsgn 112 tgt := by
  rw [← nowTotal_loadTime tgt s, nowTotal, loadStep_time]
  rfl

theorem loadStep_raised (tgt : Int) (cause : Nat) (s : State) :
    RaisedData s (loadStep tgt cause s) 0x0105 0x010 [.s32 (totalPs (tgt - nowTotal s)), .u16 cause] :=
  (stepTime_raised _ _ _ s).onward (P := False) (Q := False) ((Onward.withTime (.refl _)).trans (loadEnds_moved s _).onward)

/-! The servo state. -/

/-- The number of a servo state in TIME_STATUS. -/
def Servo.code : Servo → Nat
  | .free => 0 | .acquire => 1 | .locked => 2 | .holdover => 3 | .jumpWait => 4 | .slew => 5

theorem setServo_eq (v : Servo) (s : State) :
    setServo v s = setF .timeStatus 0 0 0 3 v.code (withTime (fun t => { t with servo := v, inWindow := none }) s) := by
  cases v <;> rfl

@[simp] theorem setServo_time (v : Servo) (s : State) : (setServo v s).time = { s.time with servo := v, inWindow := none } := by
  simp [setServo_eq]

theorem rd_setServo {r : Reg} {i j : Nat} (h : r.off i j ≠ Reg.off .timeStatus 0 0) (v : Servo) (s : State) :
    rd (setServo v s) r i j = rd s r i j := rd_setF_ne _ _ _ _ h

/-- The bits of TIME_STATUS above the servo state stay. -/
theorem getB_setServo {k : Nat} (h : 3 ≤ k) (v : Servo) (s : State) :
    getB (setServo v s) .timeStatus 0 0 k = getB s .timeStatus 0 0 k := by
  rw [setServo_eq]
  simp only [getB, bit_eq_fld, rd_setF]
  rw [fld_setFld_above _ _ _ _ _ _ (by decide) h]
  rfl

@[simp] theorem setCode_time (c : Nat) (s : State) : (setCode c s).time = { s.time with efcFine := c * 2 ^ 48 } := by
  simp [setCode]

theorem rd_setCode {r : Reg} {i j : Nat} (h : r.off i j ≠ Reg.off .timeEfc 0 0) (c : Nat) (s : State) :
    rd (setCode c s) r i j = rd s r i j := rd_setF_ne _ _ _ _ h

theorem enterFree_time (s : State) : (enterFree s).time = { s.time with
    slewing := false, servo := .free, inWindow := none, rateCorr := 0, rate := (enterFree s).time.rate,
    efcFine := (enterFree s).time.efcFine } := rfl

theorem enterHoldover_time (s : State) : (enterHoldover s).time = { s.time with
    slewing := false, servo := .holdover, inWindow := none, rateCorr := (enterHoldover s).time.rateCorr,
    rate := (enterHoldover s).time.rate, efcFine := (enterHoldover s).time.efcFine } := rfl

theorem getB_enterFree {k : Nat} (h : 3 ≤ k) (s : State) :
    getB (enterFree s) .timeStatus 0 0 k = getB s .timeStatus 0 0 k := by
  unfold enterFree
  rw [getB_of_rd (rd_setCode (by decide) _ _)]
  exact getB_setServo h _ _

theorem getB_enterHoldover {k : Nat} (h : 3 ≤ k) (s : State) :
    getB (enterHoldover s) .timeStatus 0 0 k = getB s .timeStatus 0 0 k := by
  unfold enterHoldover
  rw [getB_of_rd (rd_setCode (by decide) _ _)]
  exact getB_setServo h _ _

/-! The commands of TIME_CMD. -/

section
variable {ag : AgentId}

/-- An open command has its effect; its audit entry may follow. -/
theorem timeCmdWrite_open (hopen : WriteOpen s ag (Reg.off .timeCmd 0 0)) (c : Nat) :
    Reported eventOffs (timeCmdEff ag (BitVec.ofNat 32 c) s).1 (timeCmdWrite ag c s) := guardW_open _ hopen

theorem timeCmdEff_step (ag : AgentId) (s : State) : timeCmdEff ag (BitVec.ofNat 32 1) s = timeStepEff ag s := rfl
theorem timeCmdEff_slew (ag : AgentId) (s : State) : timeCmdEff ag (BitVec.ofNat 32 2) s = timeSlewEff ag s := rfl
theorem timeCmdEff_set (ag : AgentId) (s : State) : timeCmdEff ag (BitVec.ofNat 32 3) s = timeSetEff s := rfl
theorem timeCmdEff_syncLoad (ag : AgentId) (s : State) : timeCmdEff ag (BitVec.ofNat 32 4) s = syncSend ag 4 s := rfl
theorem timeCmdEff_syncCheck (ag : AgentId) (s : State) : timeCmdEff ag (BitVec.ofNat 32 5) s = syncSend ag 5 s := rfl

/-- A command refused in its state sets CMD_ERR and leaves the time unit alone (03 R151). -/
theorem timeCmdWrite_ignored {c k : Nat} (hopen : WriteOpen s ag (Reg.off .timeCmd 0 0))
    (heff : timeCmdEff ag (BitVec.ofNat 32 c) s = timeIgnored ag k s) :
    (timeCmdWrite ag c s).time = s.time ∧ getB (timeCmdWrite ag c s) .timeStatus 0 0 3 = true := by
  have hw := timeCmdWrite_open hopen c
  rw [heff] at hw
  have hr : Reported eventOffs (timeCmdErr s) (timeCmdWrite ag c s) := (ignored_reported _ _ _ _).trans hw
  exact ⟨hr.time, (getB_of_rd (hr.rd_eq _ _ _ (by decide)) _).trans (getB_setB _ _ _ _ _ _ (by decide))⟩

end

end Sys2Proof.Machine
end

section
/-! SUPPORT. What the rest of the engine leaves of the time unit: units that fault or are powered down, calibration, the
trigger tree, HBM and the survey runs touch neither its header nor its clock (03 R127, R135; 20 R626; 21 R640). One lemma for
each operation with branches of its own; an update of other parts of the state needs none. -/

namespace Sys2Proof.Machine

/-- From s₀ to s the time unit's header, device time, OCXO_CLK, the start of device time and the hold of ESTIMATED are the same,
MAIN is up or not as before, and where P holds device time runs from the same clock. -/
def TimeUnitKept (P : Prop) (s₀ s : State) : Prop :=
  (unit s 0x010 = unit s₀ 0x010 ∧ mainUp s = mainUp s₀) ∧
  (s.time.sec = s₀.time.sec ∧ s.time.acc = s₀.time.acc ∧ s.time.ocxo = s₀.time.ocxo ∧ s.time.started = s₀.time.started ∧
    s.time.estHold = s₀.time.estHold) ∧ (P → s.time.mode = s₀.time.mode)

namespace TimeUnitKept

variable {P : Prop} {s₀ s t : State}

theorem refl (s : State) : TimeUnitKept P s s := ⟨⟨rfl, rfl⟩, ⟨rfl, rfl, rfl, rfl, rfl⟩, fun _ => rfl⟩

theorem header (h : TimeUnitKept P s₀ s) : unit s 0x010 = unit s₀ 0x010 := h.1.1
theorem main (h : TimeUnitKept P s₀ s) : mainUp s = mainUp s₀ := h.1.2
theorem mode (h : TimeUnitKept P s₀ s) (hP : P) : s.time.mode = s₀.time.mode := h.2.2 hP

theorem state (h : TimeUnitKept P s₀ s) : ustate s 0x010 = ustate s₀ 0x010 := congrArg UnitRec.state h.header

theorem ocxo (h : TimeUnitKept P s₀ s) : s.time.ocxo = s₀.time.ocxo := by
  obtain ⟨-, ⟨-, -, hocxo, -, -⟩, -⟩ := h
  exact hocxo

theorem started (h : TimeUnitKept P s₀ s) : s.time.started = s₀.time.started := by
  obtain ⟨-, ⟨-, -, -, hstarted, -⟩, -⟩ := h
  exact hstarted

theorem estHold (h : TimeUnitKept P s₀ s) : s.time.estHold = s₀.time.estHold := by
  obtain ⟨-, ⟨-, -, -, -, hest⟩, -⟩ := h
  exact hest

theorem nowTotal (h : TimeUnitKept P s₀ s) : nowTotal s = nowTotal s₀ := by
  obtain ⟨-, ⟨hsec, hacc, -, -, -⟩, -⟩ := h
  rw [Machine.nowTotal, hsec, hacc, Machine.nowTotal]

theorem ite {c : Prop} {_ : Decidable c} (hs : TimeUnitKept P s₀ s) (ht : TimeUnitKept P s₀ t) :
    TimeUnitKept P s₀ (if c then s else t) := by
  split <;> assumption

theorem iteSnd {α : Type} {c : Prop} {_ : Decidable c} {a b : α × State} (ha : TimeUnitKept P s₀ a.2)
    (hb : TimeUnitKept P s₀ b.2) : TimeUnitKept P s₀ (if c then a else b).2 := by
  split <;> assumption

theorem foldlMem {β : Type} {f : State → β → State} {l : List β} (hs : TimeUnitKept P s₀ s)
    (hf : ∀ s, ∀ b ∈ l, TimeUnitKept P s₀ s → TimeUnitKept P s₀ (f s b)) : TimeUnitKept P s₀ (l.foldl f s) :=
  List.foldlRecOn l f hs fun s h b hb => hf s b hb h

theorem foldl {β : Type} {f : State → β → State} {l : List β} (hs : TimeUnitKept P s₀ s)
    (hf : ∀ s b, TimeUnitKept P s₀ s → TimeUnitKept P s₀ (f s b)) : TimeUnitKept P s₀ (l.foldl f s) :=
  hs.foldlMem fun s b _ => hf s b

/-! Reports. -/

theorem report {ro : List Nat} (hs : TimeUnitKept P s₀ s) (h : Reported ro s t) : TimeUnitKept P s₀ t := by
  have hmain : mainUp t = mainUp s := by rw [mainUp, h.boot, h.pwr]; rfl
  unfold TimeUnitKept
  rw [h.unit_eq, hmain, h.time]
  exact hs

section
variable (hs : TimeUnitKept P s₀ s)
include hs

theorem raise {code u : Nat} {data : List EvField} : TimeUnitKept P s₀ (raise code u data s) :=
  hs.report (raise_reported _ _ _ _)
theorem audit {k : Nat} {ag : AgentId} {c tg v : Nat} : TimeUnitKept P s₀ (audit k ag c tg v s) :=
  hs.report (audit_reported _ _ _ _ _ _)
theorem updFaultN : TimeUnitKept P s₀ (updFaultN s) := hs.report (updFaultN_reported [] _)
theorem irqSource {k : Nat} : TimeUnitKept P s₀ (irqSource k s) := hs.report (irqSource_reported [] _ _)

/-! Updates of one part of the state. -/

theorem free {x : Nat} : TimeUnitKept P s₀ { s with free := x } := hs
theorem regs {x : List (Nat × BitVec 32)} : TimeUnitKept P s₀ { s with regs := x } := hs
theorem plan {x : PlanState} : TimeUnitKept P s₀ { s with plan := x } := hs
theorem mgt {x : MgtState} : TimeUnitKept P s₀ { s with mgt := x } := hs
theorem ing {x : Vector Link 4} : TimeUnitKept P s₀ { s with ing := x } := hs
theorem tun {x : Vector Tuner 16} : TimeUnitKept P s₀ { s with tun := x } := hs
theorem chz {x : Vector Chz 4} : TimeUnitKept P s₀ { s with chz := x } := hs
theorem spec {x : Vector Spec 4} : TimeUnitKept P s₀ { s with spec := x } := hs
theorem trig {x : Vector TrigEng 4} : TimeUnitKept P s₀ { s with trig := x } := hs
theorem tree {x : TreeState} : TimeUnitKept P s₀ { s with tree := x } := hs
theorem hbm {x : HbmState} : TimeUnitKept P s₀ { s with hbm := x } := hs
theorem acq {x : Vector AcqUnit 4} : TimeUnitKept P s₀ { s with acq := x } := hs
theorem dens {x : Vector Dens 4} : TimeUnitKept P s₀ { s with dens := x } := hs
theorem disp {x : Disp} : TimeUnitKept P s₀ { s with disp := x } := hs
theorem tdc {x : Tdc} : TimeUnitKept P s₀ { s with tdc := x } := hs
theorem dsp {x : Vector Dsp 24} : TimeUnitKept P s₀ { s with dsp := x } := hs
theorem cmp {x : Vector Cmp 8} : TimeUnitKept P s₀ { s with cmp := x } := hs
theorem calJob {x : Option CalJob} : TimeUnitKept P s₀ { s with calJob := x } := hs
theorem aux {x : Aux} : TimeUnitKept P s₀ { s with aux := x } := hs
theorem ipend {x : List (Nat × BitVec 16)} : TimeUnitKept P s₀ { s with ipend := x } := hs

theorem runs {x : List SurveyRun} {e : Option Nat} :
    TimeUnitKept P s₀ { s with pwr := { s.pwr with runs := x, runEnd := e } } := hs

theorem wr {r : Reg} {i j : Nat} {v : BitVec 32} : TimeUnitKept P s₀ (wr r i j v s) := hs.regs
theorem setF {r : Reg} {i j lo w x : Nat} : TimeUnitKept P s₀ (setF r i j lo w x s) := hs.wr
theorem setB {r : Reg} {i j k : Nat} {b : Bool} : TimeUnitKept P s₀ (setB r i j k b s) := hs.wr
theorem bump {r : Reg} {i j n : Nat} : TimeUnitKept P s₀ (bump r i j n s) := hs.wr

/-! Parts of the time unit that are not its clock. -/

theorem withSyn {n : Nat} {f : Syn → Syn} : TimeUnitKept P s₀ (withSyn n f s) := hs
theorem setRate {corr : Int} : TimeUnitKept P s₀ (setRate corr s) := hs
theorem sysrefTick {n : Nat} : TimeUnitKept P s₀ (sysrefTick n s) := hs
theorem fallOcc {info : Occ} : TimeUnitKept P s₀ (fallOcc info s).2 := hs

/-! Headers of other units. -/

theorem setUnit {u : Nat} {h : UnitRec} (hu : u ≠ 0x010) : TimeUnitKept P s₀ (setUnit u h s) := by
  unfold TimeUnitKept
  rw [unit_setUnit_ne s h hu.symm]
  exact hs

theorem changeState {u : Nat} {st : UState} (hu : u ≠ 0x010) : TimeUnitKept P s₀ (changeState u st s) := hs.setUnit hu
theorem bumpEpoch {u : Nat} (hu : u ≠ 0x010) : TimeUnitKept P s₀ (bumpEpoch u s) := hs.setUnit hu
theorem enterFaultW {u cause detail : Nat} {words : List Word} (hu : u ≠ 0x010) :
    TimeUnitKept P s₀ (enterFaultW u cause detail words s) :=
  .ite ((hs.setUnit hu).report (reportFault_reported _ _ _ _ _ _ (by decide))) hs
theorem enterFault {u cause detail : Nat} (hu : u ≠ 0x010) : TimeUnitKept P s₀ (enterFault u cause detail s) :=
  hs.enterFaultW hu
theorem enterFrozen {u : Nat} (hu : u ≠ 0x010) : TimeUnitKept P s₀ (enterFrozen u s) :=
  .ite ((hs.setUnit hu).report (reportFault_reported _ _ _ _ _ _ (by decide))) hs

/-! Calibration. -/

theorem calEnd {ag : AgentId} {b op res : Nat} : TimeUnitKept P s₀ (calEnd ag b op res s) :=
  .raise <| .audit <| .ite (.setF <| .setF <| .setF hs) (.setF hs)
theorem retrimEnd {j : CalJob} {res : Nat} : TimeUnitKept P s₀ (retrimEnd j res s) :=
  .calEnd <| .setB <| .setB <| .calJob hs

theorem calWatch : TimeUnitKept P s₀ (calWatch s) := by
  unfold Machine.calWatch
  split
  exacts [hs, .ite hs (.retrimEnd hs)]

theorem calSyn4Lost : TimeUnitKept P s₀ (calSyn4Lost s) := by
  unfold Machine.calSyn4Lost
  split
  exacts [.ite (.retrimEnd hs) hs, hs]

/-! The trigger tree. -/

theorem weirPush {a : Arrival} : TimeUnitKept P s₀ (weirPush a s) := by
  unfold Machine.weirPush
  split
  exacts [.tree hs, .tree hs]

theorem srcChange {src cycle : Nat} {old new : Bool} {occ : Option Occ} {info : Occ} :
    TimeUnitKept P s₀ (srcChange src cycle old new occ info s) :=
  .ite hs (.foldl (.iteSnd (.fallOcc hs) hs) fun _ _ h => .ite (.ite h (.weirPush h)) (.ite h (.weirPush h)))

theorem trigFall {n j : Nat} : TimeUnitKept P s₀ (trigFall n j s) := .ite hs (.srcChange <| .setB hs)

theorem trigDiscard {n : Nat} : TimeUnitKept P s₀ (trigDiscard n s) := by
  unfold Machine.trigDiscard
  extract_lets +onlyGivenNames _ s₁
  have h₁ : TimeUnitKept P s₀ s₁ := .trig <| .foldl hs fun _ _ h => .trigFall h
  exact .ite (.foldl h₁ fun _ _ h => .setF <| .setB h) h₁

theorem evtFollow : TimeUnitKept P s₀ (evtFollow s) := .foldl hs fun _ _ h => .ite h (.srcChange <| .tree h)
theorem pinsGate : TimeUnitKept P s₀ (pinsGate s) := .foldl hs fun _ _ h => .ite h (.tree h)

/-! What a unit of each kind discards. -/

theorem applyDelay {n : Nat} : TimeUnitKept P s₀ (applyDelay n s) := by
  unfold Machine.applyDelay
  split
  exacts [hs, .bumpEpoch (.ing hs) (by unfold ingUnit; omega)]

theorem linkToData {n : Nat} : TimeUnitKept P s₀ (linkToData n s) := .raise <| .ing <| .setF <| .setF <| .applyDelay hs
theorem groupGo {n : Nat} : TimeUnitKept P s₀ (groupGo n s) := .ite (.foldl hs fun _ _ h => .linkToData h) hs
theorem ingLeave {n : Nat} : TimeUnitKept P s₀ (ingLeave n s) :=
  .groupGo <| .setF <| .foldl (.ing <| .ite (.raise hs) hs) fun _ _ h => .setF h
theorem chzDiscard {c : Nat} : TimeUnitKept P s₀ (chzDiscard c s) := .foldl hs fun _ _ h => .chz h

theorem listRecord {a : Nat} : TimeUnitKept P s₀ (listRecord a s) := by
  unfold Machine.listRecord
  dsimp only
  split
  exacts [hs, .plan <| .acq hs]

theorem listFlush {a : Nat} : TimeUnitKept P s₀ (listFlush a s) := .foldl hs fun _ _ h => .listRecord h
theorem acqDone {a cause : Nat} : TimeUnitKept P s₀ (acqDone a cause s) :=
  .listFlush <| .raise <| .setF <| .setF <| .acq <| .bump hs
theorem acqLeave {a : Nat} : TimeUnitKept P s₀ (acqLeave a s) := .setB <| .acq <| .tree <| .ite (.acqDone hs) hs
theorem acqDiscard {a : Nat} : TimeUnitKept P s₀ (acqDiscard a s) := .acqLeave <| .acq hs
theorem densDiscard {d : Nat} : TimeUnitKept P s₀ (densDiscard d s) := .setB <| .dens hs
theorem dispDiscard : TimeUnitKept P s₀ (dispDiscard s) := .setF <| .setF <| .setF <| .disp hs

theorem withChan {c : Nat} {f : TdcChan → TdcChan} : TimeUnitKept P s₀ (withChan c f s) := .setF <| .setB <| .tdc hs
theorem measDiscard {c : Nat} : TimeUnitKept P s₀ (measDiscard c s) := by
  unfold Machine.measDiscard
  exact .withChan <| .bump hs
theorem gateStart {c : Nat} : TimeUnitKept P s₀ (gateStart c s) := .ite (.withChan hs) hs

theorem tdcDiscard {i : Nat} {keep : Bool} : TimeUnitKept P s₀ (tdcDiscard i keep s) := by
  unfold Machine.tdcDiscard
  extract_lets +onlyGivenNames _ s₁
  have h₁ : TimeUnitKept P s₀ s₁ := .setF <| .tdc hs
  exact .ite (.foldl (.tdc h₁) fun _ _ h => .gateStart <| .measDiscard h) h₁

theorem dspPend {n k : Nat} : TimeUnitKept P s₀ (dspPend n k s) := .ite (.ipend hs) hs

/-- An abort that finds no word moved moves none. -/
theorem dmaAbort {c ch : Nat} : TimeUnitKept P s₀ (dmaAbort c ch 0 s) := by
  unfold Machine.dmaAbort Machine.dmaEnd
  simp only [true_or, if_true]
  exact .ite (.dspPend <| .dsp hs) hs

theorem dspDropOpen {c n : Nat} : TimeUnitKept P s₀ (dspDropOpen c n s) := by
  unfold Machine.dspDropOpen
  split
  exacts [hs, .raise <| .bump <| .dsp hs]

theorem dspEnd {c : Nat} : TimeUnitKept P s₀ (dspEnd c s) :=
  .foldl (.dsp <| .dspDropOpen <| .dspDropOpen hs) fun _ _ h => .ite (.srcChange h) h
theorem dspDiscard {c : Nat} : TimeUnitKept P s₀ (dspDiscard c s) := .dspEnd <| .dsp <| .dsp <| .dmaAbort <| .dmaAbort hs

theorem withCmp {n : Nat} {f : Cmp → Cmp} : TimeUnitKept P s₀ (withCmp n f s) := .setF <| .setB <| .setF <| .cmp hs

theorem jobResult {n : Nat} {d : List Word} {status blocks good : Nat} :
    TimeUnitKept P s₀ (jobResult n d status blocks good s) := by
  unfold Machine.jobResult
  extract_lets +onlyGivenNames _ _ s₁
  have h₁ : TimeUnitKept P s₀ s₁ := .withCmp hs
  exact .raise <| .ite (.bump h₁) (.ite h₁ (.bump h₁))

omit hs in
theorem hbmPokes {a : Nat} {bs : List Byte} (hs : TimeUnitKept P s₀ s) : TimeUnitKept P s₀ (hbmPokes a bs s) := by
  induction bs generalizing a s with
  | nil => exact hs
  | cons b r ih => exact ih (.ite hs (.hbm hs))

theorem jobScramble {n : Nat} {d : List Word} {good : Nat} : TimeUnitKept P s₀ (jobScramble n d good s) := by
  unfold Machine.jobScramble
  split
  exacts [.ite hs (.hbmPokes <| .free hs), hs]

theorem jobAbort {n : Nat} : TimeUnitKept P s₀ (jobAbort n s) := by
  unfold Machine.jobAbort
  split
  exacts [.setF <| .jobResult <| .jobScramble <| .withCmp hs, .setF hs]

theorem cmpDiscard {n : Nat} : TimeUnitKept P s₀ (cmpDiscard n s) := by
  unfold Machine.cmpDiscard
  refine .ite (.foldl (.withCmp <| .jobAbort hs) fun _ _ h => .jobResult h) ?_
  split
  exacts [hs, .bump <| .withCmp hs]

theorem withAux {f : Aux → Aux} : TimeUnitKept P s₀ (withAux f s) := by
  unfold Machine.withAux
  extract_lets +onlyGivenNames _ s₁
  have h₁ : TimeUnitKept P s₀ s₁ := .setB <| .aux hs
  split
  exacts [.setF h₁, h₁]

theorem unitDiscard {u : Nat} : TimeUnitKept P s₀ (unitDiscard u s) := by
  unfold Machine.unitDiscard
  extract_lets +onlyGivenNames _
  split
  · exact .ingLeave hs
  · exact .tun hs
  · exact .chzDiscard hs
  · exact .spec hs
  · exact .trigDiscard hs
  · exact .acqDiscard hs
  · exact .densDiscard hs
  · exact .dispDiscard hs
  · exact .tdcDiscard hs
  · exact .dspDiscard hs
  · exact .cmpDiscard hs
  · exact .withAux hs
  · exact hs

/-! Units that fault with their synthesiser, and HBM that freezes with it. -/

theorem dspFault {c cause : Nat} : TimeUnitKept P s₀ (dspFault c cause s) :=
  .ite (.enterFaultW (.dspDiscard <| .raise hs) (by unfold dspUnit; omega)) hs

theorem unitFault {u cause detail : Nat} (hu : u ≠ 0x010) : TimeUnitKept P s₀ (unitFault u cause detail s) := by
  unfold Machine.unitFault
  refine .ite ?_ hs
  split
  exacts [.dspFault hs, .enterFault (.tdcDiscard hs) hu, .enterFault (.unitDiscard hs) hu]

/-- No synthesiser clocks the time unit. -/
theorem synFault {n : Nat} : TimeUnitKept P s₀ (synFault n s) := by
  refine .foldlMem hs fun s u hu h => .unitFault h ?_
  rintro rfl
  have hsyn : unitSyn 0x010 = some n := by simpa using (List.mem_filter.mp hu).2
  exact absurd hsyn (by simp [show unitSyn 0x010 = none from rfl])

theorem freezeStack {k cause pc : Nat} {snap : List Word} : TimeUnitKept P s₀ (freezeStack k cause pc snap s) :=
  .foldl (.raise <| .foldl (.setF <| .calWatch <| .setF hs) fun _ _ h => .wr h) fun _ _ h =>
    .enterFrozen h (by unfold pcUnit; omega)
theorem loseStack {k : Nat} : TimeUnitKept P s₀ (loseStack k s) := .ite (.hbm hs) (.hbm hs)
theorem freezeSynth : TimeUnitKept P s₀ (freezeSynth s) :=
  .foldl hs fun _ _ h => .ite h (.ite (.loseStack h) (.freezeStack h))
theorem trainStart {cause : Nat} : TimeUnitKept P s₀ (trainStart cause s) := .disp <| .ite (.setF hs) hs
theorem dispSynLost : TimeUnitKept P s₀ (dispSynLost s) := .ite (.setB <| .bump <| .trainStart <| .disp hs) hs

/-! Units that are powered down, and what settles. -/

theorem synFollow : TimeUnitKept P s₀ (synFollow s) :=
  .foldl hs fun _ _ h => .ite (.ite (.withSyn h) h) (.ite h (.withSyn h))
theorem settle : TimeUnitKept P s₀ (settle s) := .updFaultN <| .calWatch <| .pinsGate <| .evtFollow <| .synFollow hs

theorem unitForget {u : Nat} : TimeUnitKept P s₀ (unitForget u s) := by
  unfold Machine.unitForget
  dsimp only
  split <;> exact hs

theorem unitStateReset {u : Nat} : TimeUnitKept P s₀ (unitStateReset u s) := by
  unfold Machine.unitStateReset
  dsimp only
  split
  · exact .ing hs
  · exact .tun hs
  · exact .chz hs
  · exact .spec hs
  · exact .ite (.tree <| .trig hs) (.trig hs)
  · exact .acq <| .tree hs
  · exact .dens hs
  · exact .disp hs
  · exact .ite (.tdc <| .tdc hs) (.tdc hs)
  · exact .dsp hs
  · exact .withCmp hs
  · exact .withAux hs
  · exact hs

theorem unitReset {u : Nat} (hu : u ≠ 0x010) : TimeUnitKept P s₀ (unitReset u s) := .unitStateReset <| .regs <| hs.setUnit hu

theorem ringDoorbell {d : Nat} : TimeUnitKept P s₀ (ringDoorbell d s) := by
  unfold Machine.ringDoorbell
  extract_lets +onlyGivenNames _ s₁
  have h₁ : TimeUnitKept P s₀ s₁ := .wr hs
  exact .ite (.irqSource h₁) (.ite (.dspPend h₁) h₁)

theorem cvComplete {ag : AgentId} {status ch seq db : Nat} {dbEn dbAll : Bool} :
    TimeUnitKept P s₀ (cvComplete ag status ch seq db dbEn dbAll s) := by
  unfold Machine.cvComplete
  extract_lets +onlyGivenNames _ s₁ s₂
  have h₁ : TimeUnitKept P s₀ s₁ := .mgt hs
  have h₂ : TimeUnitKept P s₀ s₂ := .ite (.dspPend h₁) h₁
  exact .ite (.ringDoorbell h₂) h₂

theorem cvDiscard {ag : AgentId} {c code : Nat} : TimeUnitKept P s₀ (cvDiscard ag c code s) :=
  .ite hs (.audit <| .bump <| .foldl (.setF <| .mgt hs) fun _ _ h => .cvComplete h)
theorem gateFree {g code : Nat} {ag : AgentId} : TimeUnitKept P s₀ (gateFree g code ag s) :=
  .ite hs (.raise <| .audit <| .ite (.bump <| .wr <| .mgt hs) (.wr <| .mgt hs))

theorem receiverReset {ag : AgentId} : TimeUnitKept P s₀ (receiverReset ag s) := by
  unfold Machine.receiverReset
  extract_lets +onlyGivenNames _ s₁
  have h₁ : TimeUnitKept P s₀ s₁ := .foldl hs fun _ _ h => .ite (.cvDiscard h) h
  exact .foldl (.ite h₁ (.raise h₁)) fun _ _ h => .ite (.gateFree h) h

theorem toOff {u : Nat} (hu : u ≠ 0x010) : TimeUnitKept P s₀ (toOff u s) := by
  unfold Machine.toOff
  extract_lets +onlyGivenNames s₁
  have h₁ : TimeUnitKept P s₀ s₁ := .unitForget <| (hs.changeState hu).unitReset hu
  exact .ite (.receiverReset h₁) h₁

theorem downFromReady {u : Nat} (hu : u ≠ 0x010) : TimeUnitKept P s₀ (downFromReady u s) := (hs.changeState hu).toOff hu

/-- A survey run that ends powers down READY units alone. -/
theorem surveyEnd {r : SurveyRun} (hready : ustate s₀ 0x010 ≠ .ready) : TimeUnitKept P s₀ (surveyEnd r s) := by
  unfold Machine.surveyEnd
  extract_lets +onlyGivenNames _
  refine .ite ?_ hs
  extract_lets +onlyGivenNames _ s₁
  have h₁ : TimeUnitKept P s₀ s₁ := by
    refine .foldlMem hs fun x u hu h => .downFromReady h ?_
    rintro rfl
    have hstate : ustate s 0x010 = .ready := by simpa using (List.mem_filter.mp hu).2
    exact hready (hs.state ▸ hstate)
  exact .runs <| .raise <| .ite h₁ (.bump h₁)

theorem surveySettle (hready : ustate s₀ 0x010 ≠ .ready) : TimeUnitKept P s₀ (surveySettle s) :=
  .settle <| .foldl hs fun _ _ h => .surveyEnd h hready

end

/-! The synthesisers. -/

/-- The loss of a synthesiser leaves all but the clock that device time runs from. -/
theorem synLost {n : Nat} (hs : TimeUnitKept False s₀ s) : TimeUnitKept False s₀ (synLost n s) := by
  unfold Machine.synLost
  refine .ite ?_ hs
  extract_lets +onlyGivenNames _ s₁
  have h₁ : TimeUnitKept False s₀ s₁ := .raise <| .withSyn hs
  split
  · extract_lets +onlyGivenNames s₂
    have h₂ : TimeUnitKept False s₀ s₂ := .setRate h₁
    have hmode {m : TimeMode} : TimeUnitKept False s₀ (withTime (fun t => { t with mode := m }) s₂) :=
      ⟨h₂.1, h₂.2.1, False.elim⟩
    exact .synFault <| .ite (.raise hmode) hmode
  · exact .synFault h₁
  · exact .freezeSynth h₁
  · exact .dispSynLost h₁
  · exact .calSyn4Lost <| .synFault h₁
  · exact .foldl h₁ fun _ _ h => .sysrefTick h

end TimeUnitKept

end Sys2Proof.Machine
end

section
/-! SUPPORT. OCXO_CLK, the terms of WARM and the loss of the reference (03 R135, R137, R138, R145). -/

namespace Sys2Proof.Machine

variable {s : State}

/-! The loss of OCXO_CLK. -/

theorem enterFault_time (u cause detail : Nat) (s : State) : (enterFault u cause detail s).time = s.time := by
  unfold enterFault enterFaultW
  dsimp only
  split
  · exact (reportFault_reported _ _ _ _ _ _ (by decide)).time
  · rfl

/-- READY is live, so a unit that has just been sent to FAULT is not READY. -/
theorem enterFault_not_ready (u cause detail : Nat) (s : State) : ustate (enterFault u cause detail s) u ≠ .ready := by
  cases hlive : (ustate s u).live with
  | true =>
    rw [ustate, enterFault, enterFaultW_unit _ _ _ _ _ hlive]
    exact UState.noConfusion
  | false =>
    rw [enterFault, enterFaultW_dead _ _ _ _ _ hlive]
    intro hready
    rw [hready] at hlive
    exact absurd hlive (by decide)

/-- Without OCXO_CLK every synthesiser loses lock. -/
def ocxoUnlocked (s : State) : State :=
  let x := withTime (fun t => { t with ocxo := false }) s
  let x := if mainUp s && s.time.mode == .coarse then raise 0x0113 0x010 [.u16 0] x else x
  if mainUp x then (List.range 6).foldl (fun s n => synLost n s) x else x

/-- Device time, once started, runs from the RC oscillator, ESTIMATED. -/
def ontoRc (s : State) : State :=
  withTime (fun t => { t with mode := if t.started then .rc else t.mode, estHold := t.estHold || t.started }) s

theorem execOcxoLost_present (h : s.time.ocxo = true) :
    execOcxoLost s = if mainUp (ontoRc (ocxoUnlocked s)) ∧ (synOf s 0).everLocked then
      .next (surveySettle (enterFault 0x010 10 0 (ontoRc (ocxoUnlocked s)))) else .next (ontoRc (ocxoUnlocked s)) :=
  if_neg (by simp [h])

theorem ocxoUnlocked_kept (s : State) :
    TimeUnitKept False (withTime (fun t => { t with ocxo := false }) s) (ocxoUnlocked s) := by
  unfold ocxoUnlocked
  extract_lets +onlyGivenNames s₁ s₂
  have h₂ : TimeUnitKept False s₁ s₂ := .ite (.raise <| .refl s₁) (.refl s₁)
  exact .ite (.foldl h₂ fun _ _ h => .synLost h) h₂

/-- The clock after the loss, before any unit faults. -/
theorem ontoRc_unlocked (hstart : s.time.started = true) :
    (ontoRc (ocxoUnlocked s)).time.ocxo = false ∧ (ontoRc (ocxoUnlocked s)).time.mode = .rc ∧
      (ontoRc (ocxoUnlocked s)).time.estHold = true ∧ nowTotal (ontoRc (ocxoUnlocked s)) = nowTotal s := by
  have h := ocxoUnlocked_kept s
  have hstarted : (ocxoUnlocked s).time.started = true := h.started.trans hstart
  exact ⟨h.ocxo, if_pos hstarted, by simp [ontoRc, hstarted], h.nowTotal⟩

/-- The time unit's entry to FAULT and what settles after it leave the clock and the header alone. -/
theorem surveySettle_enterFault_kept (cause : Nat) (s : State) :
    TimeUnitKept True (enterFault 0x010 cause 0 s) (surveySettle (enterFault 0x010 cause 0 s)) :=
  .surveySettle (.refl _) (enterFault_not_ready _ _ _ _)

/-! The return of OCXO_CLK. -/

theorem setBootPhase_time (k : Nat) (s : State) : (setBootPhase k s).time = s.time := by simp [setBootPhase]

theorem execOcxoReturned_time (s : State) : ∃ t, execOcxoReturned s = .next t ∧ t.time = { s.time with
    ocxo := true, mode := if s.time.mode = .rc then .coarse else s.time.mode,
    estHold := s.time.estHold || s.time.mode == .rc } := by
  unfold execOcxoReturned
  extract_lets +onlyGivenNames _ s₁ s₂
  have h₂ : s₂.time = s₁.time := by
    unfold s₂
    split
    exacts [raise_time _ _ _ _, rfl]
  refine ⟨_, rfl, ?_⟩
  split
  · rw [(updFaultN_reported [] _).time, setBootPhase_time, h₂]; rfl
  · rw [h₂]; rfl

/-! The terms of WARM. -/

/-- The OCXO_READY pin takes a level; its fall restarts the warm-up timer under READY_EN. -/
def readyTaken (level : Bool) (s : State) : State :=
  let fell := s.time.ocxoReady && !level && getB s .timeCfg 0 0 2
  withTime (fun t => { t with ocxoReady := level, warmExpired := t.warmExpired && !fell,
                              warmStart := if fell then t.up else t.warmStart }) s

theorem execOcxoReadyChange_eq (level : Bool) (s : State) :
    execOcxoReadyChange level s = .next (warmChanged (warmNow s) (readyTaken level s)) := rfl

theorem warmChanged_reported (before : Bool) (s : State) : Reported eventOffs s (warmChanged before s) := by
  unfold warmChanged
  split
  exacts [.refl _ _, raise_reported _ _ _ _]

/-! The loss of the reference. -/

/-- The reference is gone from s, whose device time is that of s₀. -/
def RefGone (s₀ s : State) : Prop :=
  s.time.qualified = false ∧ s.time.errors = [] ∧ getB s .timeStatus 0 0 4 = false ∧ nowTotal s = nowTotal s₀

namespace RefGone

variable {s₀ s : State} (hs : RefGone s₀ s)
include hs

theorem raise {code u : Nat} {data : List EvField} : RefGone s₀ (raise code u data s) := by
  unfold RefGone
  rw [nowTotal_of_time (raise_time _ _ _ _), raise_time, getB_of_rd (rd_raise (by decide))]
  exact hs

theorem enterFree : RefGone s₀ (enterFree s) := by
  unfold RefGone
  rw [getB_enterFree (by decide), nowTotal, enterFree_time]
  exact hs

theorem enterHoldover : RefGone s₀ (enterHoldover s) := by
  unfold RefGone
  rw [getB_enterHoldover (by decide), nowTotal, enterHoldover_time]
  exact hs

theorem slewDone : RefGone s₀ (slewDone s) := RefGone.raise (by exact hs)

end RefGone

/-- The qualification and the errors are cleared. -/
def refCleared (s : State) : State :=
  setB .timeStatus 0 0 4 false (withTime (fun t => { t with qualified := false, errors := [] }) s)

theorem refCleared_time (s : State) : (refCleared s).time = { s.time with qualified := false, errors := [] } := by
  simp [refCleared]

/-- Beside that a slew under way ends. -/
def refStopped (s : State) : State :=
  if (refCleared s).time.servo = .slew ∧ (refCleared s).time.slewing then slewDone (refCleared s) else refCleared s

theorem refStopped_servo (s : State) :
    (refStopped s).time.servo = s.time.servo ∧ (refStopped s).time.everLocked = s.time.everLocked := by
  unfold refStopped
  split
  · rw [slewDone, raise_time, withTime_time, refCleared_time]
    exact ⟨rfl, rfl⟩
  · rw [refCleared_time]
    exact ⟨rfl, rfl⟩

theorem refStopped_gone (s : State) : RefGone s (refStopped s) := by
  have h : RefGone s (refCleared s) := by
    refine ⟨?_, ?_, getB_setB _ _ _ _ _ _ (by decide), ?_⟩
    · rw [refCleared_time]
    · rw [refCleared_time]
    · rw [nowTotal, refCleared_time, nowTotal]
  unfold refStopped
  split
  exacts [h.slewDone, h]

theorem refStopped_onward (s : State) : Onward False False s (refStopped s) := by
  have h : Onward False False s (refCleared s) := .setB <| .withTime <| .refl s
  exact .ite (.slewDone h) h

theorem refLost_idle (h : s.time.servo = .free ∨ s.time.servo = .holdover) : refLost s = refStopped s := by
  unfold refLost
  extract_lets s₁ s₂
  have hservo : s₂.time.servo = s.time.servo := (refStopped_servo s).1
  rcases h with h | h <;> (rw [hservo, h]; rfl)

/-- An ACQUIRE before any lock falls back to FREE. -/
theorem refLost_unlocked (h : s.time.servo = .acquire) (hlock : s.time.everLocked = false) :
    refLost s = raise 0x0102 0x010 [.u16 0] (enterFree (refStopped s)) := by
  unfold refLost
  extract_lets s₁ s₂
  have hservo : s₂.time.servo = s.time.servo := (refStopped_servo s).1
  have hever : s₂.time.everLocked = false := (refStopped_servo s).2.trans hlock
  rw [hservo, h]
  exact if_neg (by simp [hever])

/-- Every other state falls back to HOLDOVER. -/
theorem refLost_locked (h : s.time.servo = .locked ∨ s.time.servo = .slew ∨ s.time.servo = .jumpWait ∨
    (s.time.servo = .acquire ∧ s.time.everLocked = true)) :
    refLost s = raise 0x0102 0x010 [.u16 3] (enterHoldover (refStopped s)) := by
  unfold refLost
  extract_lets s₁ s₂
  have hservo : s₂.time.servo = s.time.servo := (refStopped_servo s).1
  have hever : s₂.time.everLocked = s.time.everLocked := (refStopped_servo s).2
  rcases h with h | h | h | ⟨h, hlock⟩
  · rw [hservo, h]; rfl
  · rw [hservo, h]; rfl
  · rw [hservo, h]; rfl
  · rw [hservo, h]
    exact if_pos (hever.trans hlock)

/-- The reference is gone whatever the servo does. -/
theorem refLost_gone (s : State) : RefGone s (refLost s) := by
  have h := refStopped_gone s
  cases hservo : s.time.servo
  case free => rw [refLost_idle (.inl hservo)]; exact h
  case holdover => rw [refLost_idle (.inr hservo)]; exact h
  case locked => rw [refLost_locked (.inl hservo)]; exact h.enterHoldover.raise
  case slew => rw [refLost_locked (.inr <| .inl hservo)]; exact h.enterHoldover.raise
  case jumpWait => rw [refLost_locked (.inr <| .inr <| .inl hservo)]; exact h.enterHoldover.raise
  case acquire =>
    cases hlock : s.time.everLocked with
    | false => rw [refLost_unlocked hservo hlock]; exact h.enterFree.raise
    | true => rw [refLost_locked (.inr <| .inr <| .inr ⟨hservo, hlock⟩)]; exact h.enterHoldover.raise

/-! The statement. -/

/-- Settles O20: what follows a loss of OCXO_CLK leaves the time unit alone but for its clock and its own entry to FAULT; the
other events change the time unit's own state. -/
theorem referenceClockCommandsComplete : Obligations.ReferenceClockCommandsComplete := by
  refine ⟨?lost, ?fault, ?returned, ?ready, ?timer, ?drift, ?noDrift, ?ref⟩
  case lost =>
    intro s hocxo hstart
    have hclock := ontoRc_unlocked hstart
    have hexec : exec .ocxoLost s = execOcxoLost s := rfl
    rw [execOcxoLost_present hocxo] at hexec
    split at hexec
    · have h := surveySettle_enterFault_kept 10 (ontoRc (ocxoUnlocked s))
      refine ⟨_, hexec, ?_⟩
      rw [h.ocxo, h.mode trivial, h.estHold, h.nowTotal, nowTotal_of_time (enterFault_time _ _ _ _), enterFault_time]
      exact hclock
    · exact ⟨_, hexec, hclock⟩
  case fault =>
    intro s hocxo hmain hlocked hrun
    have h := ocxoUnlocked_kept s
    have hup : mainUp (ontoRc (ocxoUnlocked s)) = true := h.main.trans hmain
    have hlive : (ustate (ontoRc (ocxoUnlocked s)) 0x010).live = true := by
      rw [show ustate (ontoRc (ocxoUnlocked s)) 0x010 = ustate s 0x010 from h.state, hrun]
      rfl
    have hunit := (surveySettle_enterFault_kept 10 (ontoRc (ocxoUnlocked s))).header
    rw [enterFault, enterFaultW_unit _ _ _ _ _ hlive] at hunit
    refine ⟨_, (execOcxoLost_present hocxo).trans (if_pos ⟨hup, hlocked⟩), ?_, ?_⟩
    · rw [ustate, enterFault, hunit]
    · rw [enterFault, hunit]
  case returned =>
    intro s hmode
    obtain ⟨t, ht, htime⟩ := execOcxoReturned_time s
    refine ⟨t, ht, ?_, ?_, ?_, ?_⟩
    · rw [htime]
    · rw [htime]; exact if_pos hmode
    · simp [htime, hmode]
    · rw [nowTotal, htime, nowTotal]
  case ready =>
    intro s level
    have h := warmChanged_reported (warmNow s) (readyTaken level s)
    refine ⟨_, execOcxoReadyChange_eq level s, ?_, ?_, ?_⟩
    · rw [h.time]; rfl
    · rw [nowTotal_of_time h.time]; rfl
    · intro hready hlevel hen
      rw [h.time]
      simp [readyTaken, hready, hlevel, hen]
  case timer =>
    intro s
    have h := warmChanged_reported (warmNow s) (withTime (fun t => { t with warmExpired := true }) s)
    exact ⟨_, rfl, congrArg TimeState.warmExpired h.time, h.time⟩
  case drift =>
    intro s drift hqual
    have h := warmChanged_reported (warmNow s) (wr .timeMeas 0 2 (BitVec.ofNat 32 (unsgn 32 drift))
      (withTime (fun t => { t with driftMeasured := true }) s))
    exact ⟨_, if_pos hqual, congrArg TimeState.driftMeasured h.time, (h.rd_eq _ _ _ (by decide)).trans (rd_wr _ _ _ _ _)⟩
  case noDrift =>
    intro s drift hqual
    exact if_neg (by simp [hqual])
  case ref =>
    intro s
    obtain ⟨hqual, herrors, hstatus, hnow⟩ := refLost_gone s
    refine ⟨_, rfl, hqual, herrors, hstatus, hnow, ?_, ?_, ?_⟩
    · intro h
      rw [refLost_idle h, (refStopped_servo s).1]
    · intro h hlock
      rw [refLost_unlocked h hlock, raise_time, enterFree_time]
      exact ⟨rfl, (raise_raisedData _ _ _ _).since (Onward.enterFree (refStopped_onward s))⟩
    · intro h
      rw [refLost_locked h, raise_time, enterHoldover_time]
      exact ⟨rfl, (raise_raisedData _ _ _ _).since (Onward.enterHoldover (refStopped_onward s))⟩

end Sys2Proof.Machine
end

section
/-! SUPPORT. The servo: the errors that an edge keeps, how a qualified reference takes it out of FREE and HOLDOVER, and its
commands STEP, SLEW and SET (03 R137 to R152). -/

namespace Sys2Proof.Machine

variable {s t : State}

/-! What the servo does at an edge leaves the errors and their mean in TIME_MEAS alone. -/

/-- s has the errors of s₀ and the same mean error in TIME_MEAS. -/
def ErrorsKept (s₀ s : State) : Prop :=
  s.time.errors = s₀.time.errors ∧ rd s .timeMeas 0 0 = rd s₀ .timeMeas 0 0

namespace ErrorsKept

variable {s₀ s : State}

theorem refl (s : State) : ErrorsKept s s := ⟨rfl, rfl⟩

theorem ite {c : Prop} {_ : Decidable c} {a b : State} (ha : ErrorsKept s₀ a) (hb : ErrorsKept s₀ b) :
    ErrorsKept s₀ (if c then a else b) := by
  split <;> assumption

section
variable (hs : ErrorsKept s₀ s)
include hs

theorem withTime {f : TimeState → TimeState} (h : (f s.time).errors = s.time.errors) : ErrorsKept s₀ (withTime f s) :=
  ⟨h.trans hs.1, hs.2⟩

theorem raise {code u : Nat} {data : List EvField} : ErrorsKept s₀ (raise code u data s) :=
  ⟨(congrArg TimeState.errors (raise_time _ _ _ _)).trans hs.1, (rd_raise (by decide)).trans hs.2⟩

theorem nextFree : ErrorsKept s₀ (nextFree s) := hs

theorem setServo {v : Servo} : ErrorsKept s₀ (setServo v s) :=
  ⟨(congrArg TimeState.errors (setServo_time v s)).trans hs.1, (rd_setServo (by decide) v s).trans hs.2⟩

theorem setCode {c : Nat} : ErrorsKept s₀ (setCode c s) :=
  ⟨(congrArg TimeState.errors (setCode_time c s)).trans hs.1, (rd_setCode (by decide) c s).trans hs.2⟩

theorem efcToward {target : Nat} : ErrorsKept s₀ (efcToward target s) := by
  refine ⟨?_, ?_⟩
  · simpa [Machine.efcToward] using hs.1
  · exact (rd_setF_ne _ _ _ _ (by decide)).trans hs.2

theorem setRate {corr : Int} : ErrorsKept s₀ (setRate corr s) := .withTime hs rfl

theorem stepTime {total ps : Int} {cause : Nat} : ErrorsKept s₀ (stepTime total ps cause s) :=
  ⟨(congrArg TimeState.errors (stepTime_time total ps cause s)).trans hs.1, (rd_stepTime (by decide) _ _ _ _).trans hs.2⟩

theorem acquireFirst {e : Int} : ErrorsKept s₀ (acquireFirst e s) := .ite (.stepTime <| .setServo hs) (.setServo hs)

theorem steer {e : Int} : ErrorsKept s₀ (steer e s) := by
  unfold Machine.steer
  extract_lets +onlyGivenNames _ s₁
  have h₁ : ErrorsKept s₀ s₁ := .nextFree <| .ite (.setCode hs) (.efcToward hs)
  exact .ite (.setRate h₁) h₁

theorem lockNow : ErrorsKept s₀ (lockNow s) := .raise <| .withTime (.setServo hs) rfl

theorem windowTest {e : Int} {freqOk : Bool} : ErrorsKept s₀ (windowTest e freqOk s) :=
  .ite (.ite (.lockNow hs) (.withTime hs rfl)) (.withTime hs rfl)

theorem slewDone : ErrorsKept s₀ (slewDone s) := .raise <| .withTime hs rfl

theorem wrMeas {j : Nat} (h : Reg.off .timeMeas 0 0 ≠ Reg.off .timeMeas 0 j) {v : BitVec 32} :
    ErrorsKept s₀ (wr .timeMeas 0 j v s) := ⟨hs.1, (rd_wr_ne _ _ h).trans hs.2⟩

theorem servoEdge {e : Int} {freqOk : Bool} : ErrorsKept s₀ (servoEdge e freqOk s) := by
  unfold Machine.servoEdge
  split
  · exact .ite (.acquireFirst hs) hs
  · exact hs
  · exact .windowTest <| .steer hs
  · exact .windowTest <| .ite (.slewDone <| .steer hs) (.steer hs)
  · exact .ite (.setServo <| .withTime (.steer hs) rfl) (.withTime (.steer hs) rfl)
  · exact .ite (.wrMeas (.withTime (.steer hs) rfl) (by decide)) (.steer hs)

end

end ErrorsKept

/-! An edge. -/

theorem execRefInEdge_idle (late : Nat) (f : Bool) (h : refSel s = 0 ∨ ustate s 0x010 = .fault ∨ s.time.started = false) :
    execRefInEdge late f s = .next s := if_pos (by simpa using h)

/-- The errors with that of a new edge. -/
def edgeErrors (late : Nat) (s : State) : List Int := (phaseError (nowTotal s + late) s :: s.time.errors).take 1000

theorem execRefInEdge_counts (late : Nat) (f : Bool) (hsel : refSel s ≠ 0) (hfault : ustate s 0x010 ≠ .fault)
    (hstart : s.time.started = true) :
    execRefInEdge late f s = .next (servoEdge (phaseError (nowTotal s + late) s) f
      (wr .timeMeas 0 0 (BitVec.ofNat 32 (unsgn 32 (meanInt (edgeErrors late s))))
        (withTime (fun t => { t with errors := edgeErrors late s }) s))) :=
  if_neg (by simp [hsel, hfault, hstart])

/-! A qualified reference. -/

/-- The reference is qualified, in the state and in TIME_STATUS. -/
def refMarked (s : State) : State := setB .timeStatus 0 0 4 true (withTime (fun t => { t with qualified := true }) s)

theorem refMarked_time (s : State) : (refMarked s).time = { s.time with qualified := true } := by simp [refMarked]

theorem refMarked_status (s : State) : getB (refMarked s) .timeStatus 0 0 4 = true := getB_setB _ _ _ _ _ _ (by decide)

theorem rd_refMarked {r : Reg} {i j : Nat} (h : r.off i j ≠ Reg.off .timeStatus 0 0) (s : State) :
    rd (refMarked s) r i j = rd s r i j := rd_setB_ne _ _ _ h

section
variable (hsel : refSel s ≠ 0) (hfault : ustate s 0x010 ≠ .fault)
include hsel hfault

theorem execRefQualified_free {e : Int} {l : List Int} (hservo : s.time.servo = .free) (herrors : s.time.errors = e :: l)
    (hheld : s.time.setHeld = none) : execRefQualified s = .next (acquireFirst e (refMarked s)) := by
  simp [execRefQualified, hsel, hfault, hservo, herrors, hheld, refMarked]

theorem execRefQualified_holdover (hservo : s.time.servo = .holdover) :
    execRefQualified s = .next (leaveHoldover (refMarked s)) := by
  simp [execRefQualified, hsel, hfault, hservo, refMarked]

theorem execRefQualified_stays (hservo : s.time.servo ≠ .holdover)
    (hfree : s.time.servo = .free → s.time.errors = [] ∨ s.time.setHeld ≠ none) :
    execRefQualified s = .next (refMarked s) := by
  cases hs : s.time.servo
  case holdover => exact absurd hs hservo
  case free =>
    cases herrors : s.time.errors with
    | nil => simp [execRefQualified, hsel, hfault, hs, herrors, refMarked]
    | cons e l =>
      have hheld : s.time.setHeld ≠ none := (hfree hs).resolve_left (by simp [herrors])
      simp [execRefQualified, hsel, hfault, hs, herrors, hheld, refMarked]
  all_goals simp [execRefQualified, hsel, hfault, hs, refMarked]

end

theorem lockWindow_of_rd (h : rd t .timeLockCfg 0 0 = rd s .timeLockCfg 0 0) : lockWindow t = lockWindow s := by
  rw [lockWindow, getF_of_rd h, lockWindow]

/-- An error within the window enters ACQUIRE without a step. -/
theorem acquireFirst_near {e : Int} (h : e.natAbs ≤ lockWindow s) : acquireFirst e s = setServo .acquire s :=
  if_neg (by rw [lockWindow_of_rd (rd_setServo (by decide) _ _)]; omega)

/-- An error beyond the window enters ACQUIRE with one step. -/
theorem acquireFirst_far {e : Int} (h : lockWindow s < e.natAbs) :
    acquireFirst e s = stepTime (nowTotal s + psTotal e) e 3 (setServo .acquire s) :=
  if_pos (by rw [lockWindow_of_rd (rd_setServo (by decide) _ _)]; exact h)

/-- Either way the servo is in ACQUIRE, and neither the qualification nor its bit is touched. -/
theorem acquireFirst_spec (e : Int) (s : State) : (acquireFirst e s).time.servo = .acquire ∧
    (acquireFirst e s).time.qualified = s.time.qualified ∧
    getB (acquireFirst e s) .timeStatus 0 0 4 = getB s .timeStatus 0 0 4 := by
  have hstatus := getB_setServo (by decide : 3 ≤ 4) .acquire s
  by_cases h : e.natAbs ≤ lockWindow s
  · rw [acquireFirst_near h, setServo_time]
    exact ⟨rfl, rfl, hstatus⟩
  · rw [acquireFirst_far (not_le.mp h), stepTime_time, getB_of_rd (rd_stepTime (by decide) _ _ _ _)]
    simp [loadTime, hstatus]

/-- HOLDOVER ends with the jump J measured, in SLEW or JUMP_WAIT as J lies within the limit or not. -/
theorem leaveHoldover_time (s : State) : (leaveHoldover s).time = { s.time with
    jump := meanInt s.time.errors, jumpSince := s.time.up, inWindow := none,
    servo := if (meanInt s.time.errors).natAbs ≤ (rd s .timeJumpLimit 0 0).toNat then .slew else .jumpWait,
    slewing := (leaveHoldover s).time.slewing, slewStart := (leaveHoldover s).time.slewStart } := by
  have hlimit (v : BitVec 32) (x : State) : rd (raise 0x0103 0x010 [.s32 (meanInt s.time.errors)] (wr .timeMeas 0 1 v x))
      .timeJumpLimit 0 0 = rd x .timeJumpLimit 0 0 := (rd_raise (by decide)).trans (rd_wr_ne _ _ (by decide))
  unfold leaveHoldover
  dsimp only
  rw [hlimit, rd_withTime]
  split <;> simp

theorem leaveHoldover_raised (s : State) :
    RaisedData s (leaveHoldover s) 0x0103 0x010 [.s32 (meanInt s.time.errors)] := by
  unfold leaveHoldover
  extract_lets +onlyGivenNames j s₁ s₂
  have h : RaisedData s s₂ 0x0103 0x010 [.s32 j] :=
    (raise_raisedData _ _ _ s₁).since (P := False) (Q := False) (.wr <| .withTime <| .refl s)
  exact h.onward (P := False) (Q := False) (.ite (.setServo <| .withTime <| .refl _) (.raise <| .setServo <| .refl _))

/-! STEP, SLEW and SET. -/

section
variable {ag : AgentId}

theorem timeStepEff_waiting (h : s.time.servo = .jumpWait) : timeStepEff ag s =
    (setServo .acquire (stepTime (nowTotal s + psTotal s.time.jump) s.time.jump 0 s), 0) := if_pos h

theorem timeSlewEff_waiting (h : s.time.servo = .jumpWait) : timeSlewEff ag s =
    (setServo .slew (withTime (fun t => { t with slewing := true, slewStart := t.up }) s), 0) := if_pos h

theorem timeStepEff_refused (h : s.time.servo ≠ .jumpWait) : timeStepEff ag s = timeIgnored ag 1 s := if_neg h
theorem timeSlewEff_refused (h : s.time.servo ≠ .jumpWait) : timeSlewEff ag s = timeIgnored ag 2 s := if_neg h

end

/-- The device time that a SET loads (03 R152). -/
def setTarget (sec : Nat) (s : State) : Int :=
  (sec * 2 ^ 64 : Nat) + (if s.time.qualified then psTotal (refOffset s) else 0)

/-- The state after that load, the servo still as it was. -/
def setLoaded (sec : Nat) (s : State) : State :=
  withTime (fun t => { t with setHeld := none }) (loadStep (setTarget sec s) 1 s)

theorem setApplied_loads {sec : Nat} (hheld : s.time.setHeld = some sec) (hstart : s.time.started = true) :
    setApplied s = if s.time.qualified = true ∧ s.time.servo = .free then setServo .acquire (setLoaded sec s)
      else setLoaded sec s := by
  have hq : (setLoaded sec s).time.qualified = s.time.qualified ∧ (setLoaded sec s).time.servo = s.time.servo := by
    rw [setLoaded, withTime_time, loadStep_time]
    exact ⟨rfl, rfl⟩
  have happly : setApplied s = if (setLoaded sec s).time.qualified = true ∧ (setLoaded sec s).time.servo = .free then
      setServo .acquire (setLoaded sec s) else setLoaded sec s := by
    simp only [setApplied, hheld, hstart, if_true]
    rfl
  rw [happly, hq.1, hq.2]

theorem setApplied_idle (h : s.time.setHeld = none ∨ s.time.started = false) : setApplied s = s := by
  cases hheld : s.time.setHeld with
  | none => simp [setApplied, hheld]
  | some sec =>
    have hstart : s.time.started = false := h.resolve_left (by simp [hheld])
    simp [setApplied, hheld, hstart]

/-! The statement. -/

/-- Settles O21: an edge keeps its error whatever the servo then does, a qualified reference is judged by the servo's state, and
the commands are those of TIME_CMD. -/
theorem servoCommandsComplete : Obligations.ServoCommandsComplete := by
  refine ⟨?edge, fun s late f h => execRefInEdge_idle late f h, ?acquire, ?stays, ?holdover, ?step, ?slew, ?refused, ?set, ?applied,
    fun s h => congrArg Host.Outcome.next (setApplied_idle h)⟩
  case edge =>
    intro s late f hsel hfault hstart
    obtain ⟨herrors, hmeas⟩ := ErrorsKept.servoEdge (.refl _) (e := phaseError (nowTotal s + late) s) (freqOk := f)
      (s := wr .timeMeas 0 0 (BitVec.ofNat 32 (unsgn 32 (meanInt (edgeErrors late s))))
        (withTime (fun t => { t with errors := edgeErrors late s }) s))
    exact ⟨_, execRefInEdge_counts late f hsel hfault hstart, herrors, by rw [hmeas, rd_wr, herrors]; rfl⟩
  case acquire =>
    intro s e l hsel hfault hservo herrors hheld
    have hwindow : lockWindow (refMarked s) = lockWindow s := lockWindow_of_rd (rd_refMarked (by decide) s)
    have hnow : nowTotal (refMarked s) = nowTotal s := by simp [nowTotal, refMarked_time]
    obtain ⟨hacquire, hqual, hstatus⟩ := acquireFirst_spec e (refMarked s)
    refine ⟨_, execRefQualified_free hsel hfault hservo herrors hheld, ?_, hacquire, hstatus.trans (refMarked_status s), ?_, ?_⟩
    · rw [hqual, refMarked_time]
    · intro hfar
      rw [acquireFirst_far (hwindow ▸ hfar), nowTotal_stepTime, hnow]
      exact ⟨rfl, (stepTime_raised _ _ _ _).since (P := False) (Q := False)
        (.setServo <| .setB <| .withTime <| .refl s)⟩
    · intro hnear
      rw [acquireFirst_near (hwindow ▸ hnear), ← hnow]
      simp [nowTotal]
  case stays =>
    intro s hsel hfault hservo hfree
    exact ⟨_, execRefQualified_stays hsel hfault hservo hfree, refMarked_time s, refMarked_status s⟩
  case holdover =>
    intro s hsel hfault hservo
    have herrors : (refMarked s).time.errors = s.time.errors := by rw [refMarked_time]
    have hlimit : rd (refMarked s) .timeJumpLimit 0 0 = rd s .timeJumpLimit 0 0 := rd_refMarked (by decide) s
    refine ⟨_, execRefQualified_holdover hsel hfault hservo, ?_, ?_, ?_, ?_⟩
    · rw [leaveHoldover_time, refMarked_time]
    · rw [leaveHoldover_time, herrors]
    · rw [← herrors]
      exact (leaveHoldover_raised _).since (P := False) (Q := False) (.setB <| .withTime <| .refl s)
    · rw [leaveHoldover_time, herrors, hlimit]
  case step =>
    intro s ag hopen hservo
    have hw := timeCmdWrite_open hopen 1
    rw [timeCmdEff_step, timeStepEff_waiting hservo] at hw
    refine ⟨_, rfl, ?_, ?_, ?_, ?_⟩
    · rw [hw.time, setServo_time]
    · exact (stepTime_raised _ _ _ s).onward (P := False) (Q := False) ((Onward.setServo (.refl _)).trans hw.onward)
    · rw [nowTotal_of_time hw.time, ← nowTotal_stepTime _ s.time.jump 0 s]
      simp [nowTotal]
    · rw [hw.time, setServo_time, stepTime_time]
  case slew =>
    intro s ag hopen hservo
    have hw := timeCmdWrite_open hopen 2
    rw [timeCmdEff_slew, timeSlewEff_waiting hservo] at hw
    refine ⟨_, rfl, ?_, ?_, ?_⟩
    · rw [hw.time, setServo_time]
    · rw [hw.time, setServo_time]; rfl
    · rw [nowTotal_of_time hw.time]; simp [nowTotal]
  case refused =>
    intro s ag hopen hservo
    obtain ⟨hstep, hstepErr⟩ := timeCmdWrite_ignored hopen ((timeCmdEff_step ag s).trans (timeStepEff_refused hservo))
    obtain ⟨hslew, hslewErr⟩ := timeCmdWrite_ignored hopen ((timeCmdEff_slew ag s).trans (timeSlewEff_refused hservo))
    exact ⟨⟨_, rfl, hstep, hstepErr⟩, ⟨_, rfl, hslew, hslewErr⟩⟩
  case set =>
    intro s ag hopen
    have hw := timeCmdWrite_open hopen 3
    rw [timeCmdEff_set, timeSetEff] at hw
    refine ⟨_, rfl, ?_, ?_, ?_, ?_⟩
    · rw [hw.time, enterFree_time]
    · rw [hw.time, enterFree_time]; rfl
    · rw [hw.time, enterFree_time]; rfl
    · rw [nowTotal_of_time hw.time, nowTotal, enterFree_time]; rfl
  case applied =>
    intro s sec hheld hstart _
    have hexec : exec .setApplied s = .next (setApplied s) := rfl
    have hnow : nowTotal (setLoaded sec s) = unsgn 112 (setTarget sec s) := nowTotal_loadStep _ _ _
    have hraised : Raised s (setLoaded sec s) 0x0105 0x010 :=
      ((loadStep_raised _ _ s).onward (P := False) (Q := False) (.withTime <| .refl _)).raised
    have htime : (setLoaded sec s).time.setHeld = none ∧ (setLoaded sec s).time.estHold = false ∧
        (setLoaded sec s).time.servo = s.time.servo := by
      rw [setLoaded, withTime_time, loadStep_time]
      exact ⟨rfl, rfl, rfl⟩
    obtain ⟨hset, hest, hservo⟩ := htime
    rw [setApplied_loads hheld hstart] at hexec
    refine ⟨_, hexec, ?_⟩
    rw [setTarget, Nat.cast_mul, Nat.cast_pow, Nat.cast_ofNat] at hnow
    split
    · refine ⟨hset, hest, hraised.onward (P := False) (Q := False) (.setServo <| .refl _), ?_, rfl⟩
      rw [← hnow]
      simp [nowTotal]
    · exact ⟨hset, hest, hraised, hnow, hservo⟩

end Sys2Proof.Machine
end

section
/-! SUPPORT. Synchronisation frames: what the master sends, what an engine forwards and holds, and what happens at the load
point (03 R161 to R165). -/

namespace Sys2Proof.Machine

variable {s : State}

/-! The master. -/

/-- A master sends its frame and holds it for the load point; a LOAD frame carries TIME_SET (03 R162, R164). -/
theorem syncSend_sent (ag : AgentId) (cmd : Nat) (hrole : syncRole s = 1) (hlead : 640 ≤ getF s .timeSyncCfg 0 0 0 16)
    (hservo : s.time.servo ≠ .free) (hsync : s.time.sync = none) :
    ∃ sec, (cmd = 4 → sec = setSeconds s) ∧ (syncSend ag cmd s).1.time = { s.time with
      sync := some { load := cmd == 4, seconds := sec, hop := 0 },
      syncOut := s.time.syncOut ++ [syncFrame (cmd - 3) 0 (getF s .timeSyncCfg 0 0 0 16) sec 0] } := by
  have hgo : ¬(syncRole s ≠ 1 ∨ getF s .timeSyncCfg 0 0 0 16 < 640 ∨ s.time.servo = .free ∨ s.time.sync.isSome = true) := by
    simp [hrole, hlead, hservo, hsync]
  unfold syncSend
  rw [if_neg hgo]
  exact ⟨_, fun h => if_pos h, rfl⟩

/-- Elsewhere the command sends nothing (03 R165; log entry 61). -/
theorem syncSend_refused (ag : AgentId) (cmd : Nat) (h : syncRole s ≠ 1 ∨ getF s .timeSyncCfg 0 0 0 16 < 640 ∨
    s.time.servo = .free ∨ s.time.sync ≠ none) : syncSend ag cmd s = timeIgnored ag cmd s := by
  rw [← Option.isSome_iff_ne_none] at h
  exact if_pos h

/-! A received frame. -/

/-- A frame is forwarded. -/
def syncForward (typ hop l sec bad : Nat) (s : State) : State :=
  withTime (fun t => { t with syncOut := t.syncOut ++ [syncFrame typ (hop + 1) l sec bad] }) s

variable {f : BitVec 96} {typ hop l sec bad : Nat}

theorem execSyncFrame_off (f : BitVec 96) (h : syncRole s = 0) : execSyncFrame f s = .next s := if_pos h

/-- With a role the frame is forwarded; it is then left, reported with the first rule of R165 that it breaks, or held. -/
theorem execSyncFrame_role (hrole : syncRole s ≠ 0) (hf : syncFields f = (typ, hop, l, sec, bad)) :
    execSyncFrame f s =
      if s.time.servo = .free ∨ s.time.sync.isSome then .next (syncForward typ hop l sec bad s)
      else if bad ≠ 0 then .next (syncError 0 (syncForward typ hop l sec bad s))
      else if typ ≠ 1 ∧ typ ≠ 2 then .next (syncError 1 (syncForward typ hop l sec bad s))
      else if 63 < hop then .next (syncError 2 (syncForward typ hop l sec bad s))
      else if l < 640 then .next (syncError 3 (syncForward typ hop l sec bad s))
      else .next (setF .timeSyncCfg 0 0 16 8 hop (withTime (fun t => { t with
        sync := some { load := typ == 1, seconds := sec, hop := hop } }) (syncForward typ hop l sec bad s))) := by
  unfold execSyncFrame
  rw [if_neg hrole, hf]
  rfl

/-- The cause with which a frame is reported: its CRC, its type, its hop count or its L (03 R165). -/
def syncCause (typ hop bad : Nat) : Nat := if bad ≠ 0 then 0 else if typ ≠ 1 ∧ typ ≠ 2 then 1 else if 63 < hop then 2 else 3

theorem execSyncFrame_bad (hrole : syncRole s ≠ 0) (hf : syncFields f = (typ, hop, l, sec, bad))
    (hservo : s.time.servo ≠ .free) (hsync : s.time.sync = none)
    (hbad : bad ≠ 0 ∨ (typ ≠ 1 ∧ typ ≠ 2) ∨ 63 < hop ∨ l < 640) :
    execSyncFrame f s = .next (syncError (syncCause typ hop bad) (syncForward typ hop l sec bad s)) := by
  have hgo : ¬(s.time.servo = .free ∨ s.time.sync.isSome = true) := by simp [hservo, hsync]
  rw [execSyncFrame_role hrole hf, if_neg hgo, syncCause]
  by_cases hcrc : bad ≠ 0
  · rw [if_pos hcrc, if_pos hcrc]
  by_cases htyp : typ ≠ 1 ∧ typ ≠ 2
  · rw [if_neg hcrc, if_neg hcrc, if_pos htyp, if_pos htyp]
  by_cases hhop : 63 < hop
  · rw [if_neg hcrc, if_neg hcrc, if_neg htyp, if_neg htyp, if_pos hhop, if_pos hhop]
  have hlead : l < 640 := by tauto
  rw [if_neg hcrc, if_neg hcrc, if_neg htyp, if_neg htyp, if_neg hhop, if_neg hhop, if_pos hlead]

theorem syncError_time (cause : Nat) (s : State) : (syncError cause s).time = s.time := by
  simp [syncError]

theorem syncError_raised (cause : Nat) (s : State) : RaisedData s (syncError cause s) 0x010A 0x010 [.u16 cause] :=
  raisedData_between (P := False) (Q := False) (P' := False) (Q' := False) (.setF <| .refl s) (.refl _)

/-! The load point. -/

/-- The device time of the load point in 2^-64 s. -/
def syncTarget (j : SyncJob) (s : State) : Int := (j.seconds * 2 ^ 64 : Nat) + psTotal (refOffset s)

/-- What a CHECK records: the difference in ps, clamped (03 R164). -/
def syncDiff (j : SyncJob) (s : State) : Int := clampInt (-2147483647) 2147483647 (totalPs (nowTotal s - syncTarget j s))

theorem execSyncLoadPoint_load {j : SyncJob} (hj : s.time.sync = some j) (hload : j.load = true) :
    execSyncLoadPoint s = .next (raise 0x0109 0x010 [.u64 j.seconds, .u16 j.hop]
      (loadStep (syncTarget j s) 2 (withTime (fun t => { t with sync := none }) s))) := by
  unfold execSyncLoadPoint
  rw [hj]
  exact if_pos hload

theorem execSyncLoadPoint_check {j : SyncJob} (hj : s.time.sync = some j) (hload : j.load = false) :
    execSyncLoadPoint s = .next (raise 0x0108 0x010 [.s32 (syncDiff j s)]
      (wr .timeSyncResult 0 0 (BitVec.ofNat 32 (unsgn 32 (syncDiff j s))) (withTime (fun t => { t with sync := none }) s))) := by
  unfold execSyncLoadPoint
  rw [hj]
  exact if_neg (by simp [hload])

/-! The statement. -/

/-- Settles O22: the master's commands go through TIME_CMD, a received frame through the chain of R165, and the load point is a
load of device time or a comparison with it. -/
theorem synchronisationCommandsComplete : Obligations.SynchronisationCommandsComplete := by
  refine ⟨?send, ?refused, ?held, ?bad, ?busy, fun s f h => execSyncFrame_off f h, ?load, ?check, ?idle⟩
  case send =>
    intro s ag hopen hrole hlead hservo hsync
    constructor
    · obtain ⟨sec, hsec, htime⟩ := syncSend_sent ag 4 hrole hlead hservo hsync
      rw [hsec rfl] at htime
      have hw := (timeCmdWrite_open hopen 4).time.trans htime
      exact ⟨_, rfl, by rw [hw]; rfl, by rw [hw]⟩
    · obtain ⟨sec, -, htime⟩ := syncSend_sent ag 5 hrole hlead hservo hsync
      have hw := (timeCmdWrite_open hopen 5).time.trans htime
      exact ⟨_, ⟨false, sec, 0⟩, rfl, by rw [hw]; rfl, rfl, rfl, by rw [hw]⟩
  case refused =>
    intro s ag hopen h
    obtain ⟨hload, hloadErr⟩ := timeCmdWrite_ignored hopen ((timeCmdEff_syncLoad ag s).trans (syncSend_refused ag 4 h))
    obtain ⟨hcheck, hcheckErr⟩ := timeCmdWrite_ignored hopen ((timeCmdEff_syncCheck ag s).trans (syncSend_refused ag 5 h))
    exact ⟨⟨_, rfl, hload, hloadErr⟩, ⟨_, rfl, hcheck, hcheckErr⟩⟩
  case held =>
    intro s f typ hop l sec hrole hf hservo hsync htyp hhop hlead
    have hexec : exec (.syncFrame f) s = .next (setF .timeSyncCfg 0 0 16 8 hop (withTime (fun t => { t with
        sync := some { load := typ == 1, seconds := sec, hop := hop } }) (syncForward typ hop l sec 0 s))) := by
      refine (execSyncFrame_role hrole hf).trans ?_
      rw [if_neg (by simp [hservo, hsync]), if_neg (by simp), if_neg (by tauto), if_neg (by omega), if_neg (by omega)]
    exact ⟨_, hexec, rfl, rfl, (getF_setF _ _ _ _ _ _ _ (by decide)).trans (Nat.mod_eq_of_lt (by omega))⟩
  case bad =>
    intro s f typ hop l sec bad hrole hf hservo hsync hbad
    refine ⟨_, execSyncFrame_bad hrole hf hservo hsync hbad, ?_, ?_, ?_⟩
    · rw [syncError_time]; rfl
    · rw [syncError_time]; exact hsync
    · exact (syncError_raised _ _).since (P := False) (Q := False) (.withTime <| .refl s)
  case busy =>
    intro s f typ hop l sec bad hrole hf h
    rw [← Option.isSome_iff_ne_none] at h
    exact (execSyncFrame_role hrole hf).trans (if_pos h)
  case load =>
    intro s j hj hload
    refine ⟨_, execSyncLoadPoint_load hj hload, ?_, ?_, ?_, ?_⟩
    · rw [raise_time, loadStep_time]; rfl
    · rw [raise_time, loadStep_time]
    · exact (raise_raisedData _ _ _ _).since (P := False) (Q := False) (.loadStep <| .withTime <| .refl s)
    · rw [nowTotal_of_time (raise_time _ _ _ _), nowTotal_loadStep, syncTarget]
  case check =>
    intro s j hj hload
    refine ⟨_, execSyncLoadPoint_check hj hload, ?_, ?_, ?_, ?_⟩
    · rw [raise_time]; rfl
    · rw [nowTotal_of_time (raise_time _ _ _ _)]; rfl
    · exact ((raise_raisedData _ _ _ _).since (P := False) (Q := False) (.wr <| .withTime <| .refl s)).raised
    · rw [rd_raise (by decide), rd_wr, syncDiff, syncTarget]
  case idle =>
    intro s h
    show execSyncLoadPoint s = .next s
    unfold execSyncLoadPoint
    rw [h]

end Sys2Proof.Machine
end

section
/-! SUPPORT. The counterexample to O23: a lock of SYN_0 lets a survey run begin that waited for it, and the run configures the
time unit itself. The statement ranges over every state; R74, which keeps the time unit RUNNING, is no premise of it. -/

namespace Sys2Proof.Machine

/-- A running plan whose one REGINIT entry writes STEP to TIME_CMD. -/
def stepInit : PlanImg :=
  { planId := [], force := false, length := 0, units := [], routes := [], owners := [], sram := [], order := 0, pcMask := 0,
    regions := [], dsp := [], inits := [⟨Reg.off .timeCmd 0 0, 1, 7⟩], powerFlags := 0, pcIdle := 0, power := [],
    sched := [], key := 0, digest := 0 }

/-- A survey run over the time unit that has not started. -/
def timeRun : SurveyRun := { entry := 0, stop := 0, units := [0x010], started := false, draining := false }

/-- The time unit, GATED, is the unit of a survey run under that plan; its servo waits in JUMP_WAIT with a jump of 1 ps, and
SYN_0, powered, has not locked. -/
def timeUnitInRun : State :=
  let s := setUnit 0x010 { UnitRec.reset 0x010 with state := .gated } (withSyn 0 (fun y => { y with lock := 1 }) State.reset)
  { s with plan := { s.plan with running := some stepInit }, pwr := { s.pwr with runs := [timeRun] },
           time := { s.time with servo := .jumpWait, jump := 1 } }

/-- Device time after the first lock of SYN_0. -/
def timeAtLock (s : State) : Option Nat :=
  match exec (.synLockAcquired 0 0) s with
  | .next t => some (nowTotal t)
  | _ => none

theorem timeAtLock_timeUnitInRun : timeAtLock timeUnitInRun = some 18446744 := by decide +kernel

/-- Refutes O23: in the clause of the first lock of SYN_0, which puts no premise on the survey runs, the run that the lock lets
begin writes STEP to TIME_CMD, and device time has moved by 1 ps from 0. -/
theorem not_synthesiserCommandsComplete : ¬ Obligations.SynthesiserCommandsComplete := by
  rintro ⟨firstLock, -⟩
  obtain ⟨t, hexec, -, -, hzero⟩ := firstLock timeUnitInRun 0 (by decide +kernel) (by decide +kernel) (by decide +kernel)
    (by decide +kernel)
  have htime : timeAtLock timeUnitInRun = some 0 := by simp only [timeAtLock, hexec, hzero]
  rw [timeAtLock_timeUnitInRun] at htime
  exact absurd htime (by decide)

end Sys2Proof.Machine
end

section
/-! SUPPORT. The ingress links' operations, one rule for each: what it does to the link, which words of the links' register
sets it leaves alone, and what it reports (04 R174 to R200). -/

namespace Sys2Proof.Machine

variable {s t : State} {n m : Nat}

/-! Links. -/

theorem link_of_ing (h : t.ing = s.ing) (m : Nat) : link t m = link s m := by rw [link, h, link]

section
variable (s : State) (m : Nat)
@[simp] theorem link_setF (r : Reg) (i j lo w x : Nat) : link (setF r i j lo w x s) m = link s m := rfl
@[simp] theorem link_bump (r : Reg) (i j n : Nat) : link (bump r i j n s) m = link s m := rfl
@[simp] theorem link_setLstate (n st : Nat) : link (setLstate n st s) m = link s m := rfl
@[simp] theorem link_bumpEpoch (u : Nat) : link (bumpEpoch u s) m = link s m := rfl
@[simp] theorem link_raiseRated (code u x : Nat) (q : List EvField) : link (raiseRated code u q x s) m = link s m :=
  link_of_ing (raiseRated_reported _ _ _ _ _).ing m
end

theorem link_withLink (hn : n < 4) (f : Link → Link) (s : State) : link (withLink n f s) n = f (link s n) :=
  vget_vset_self _ _ _ _ hn

theorem link_withLink_ne (hm : m ≠ n) (f : Link → Link) (s : State) : link (withLink n f s) m = link s m :=
  vget_vset_ne _ _ _ hm

/-- An event raised on the way from s to t. -/
theorem raised_between {code u : Nat} {data : List EvField} {s₁ : State} (h : Onward False False s s₁)
    (k : Onward False False (raise code u data s₁) t) : Raised s t code u := (raisedData_between h k).raised

/-! Where the links' registers lie: what reports write lies elsewhere. -/

section
variable (n j : Nat)
theorem ingLinkCfg_off : Reg.off .ingLinkCfg n 0 = 0x600040 + n * 0x1000 := rfl
theorem ingLinkTiming_off : Reg.off .ingLinkTiming n 0 = 0x600044 + n * 0x1000 := rfl
theorem ingAdcDelay_off : Reg.off .ingAdcDelay n 0 = 0x600050 + n * 0x1000 := rfl
theorem ingLinkStatus_off : Reg.off .ingLinkStatus n 0 = 0x600070 + n * 0x1000 := rfl
theorem ingCount_off : Reg.off .ingCount n j = 0x600080 + n * 0x1000 + j * 4 := rfl
theorem ingLaneStatus_off : Reg.off .ingLaneStatus n 0 = 0x608004 + n * 0x40 := rfl
end

/-- A word below b in the register set of a link. -/
def InLinkSet (b o : Nat) : Prop := 0x600000 ≤ o ∧ o < 0x604000 ∧ o % 0x1000 < b

theorem eventOffs_ingress : ∀ o ∈ eventOffs, o < 0x600000 ∨ 0x604000 ≤ o := by decide

theorem inLinkSet_quiet {b o : Nat} (h : InLinkSet b o) : o ∉ eventOffs := by
  obtain ⟨hlo, hhi, -⟩ := h
  intro ho
  rcases eventOffs_ingress o ho with h | h <;> omega

section
variable (hn : n < 4)
include hn

theorem ingLinkCfg_inSet : InLinkSet 0x80 (Reg.off .ingLinkCfg n 0) := by
  rw [ingLinkCfg_off, InLinkSet]
  omega

theorem ingLinkTiming_inSet : InLinkSet 0x80 (Reg.off .ingLinkTiming n 0) := by
  rw [ingLinkTiming_off, InLinkSet]
  omega

theorem ingAdcDelay_inSet : InLinkSet 0x80 (Reg.off .ingAdcDelay n 0) := by
  rw [ingAdcDelay_off, InLinkSet]
  omega

theorem ingLinkStatus_inSet : InLinkSet 0x80 (Reg.off .ingLinkStatus n 0) := by
  rw [ingLinkStatus_off, InLinkSet]
  omega

theorem ingCount_inSet {j b : Nat} (hj : j < 8) (hb : 0x80 + 4 * j < b) : InLinkSet b (Reg.off .ingCount n j) := by
  rw [ingCount_off, InLinkSet]
  omega

/-- Reports leave the links' counters alone. -/
theorem ingCount_quiet {j : Nat} (hj : j < 8) : Reg.off .ingCount n j ∉ eventOffs :=
  inLinkSet_quiet (ingCount_inSet hn hj (b := 0x100) (by omega))

end

theorem InLinkSet.mono {b c o : Nat} (h : InLinkSet c o) (hb : c ≤ b) : InLinkSet b o :=
  ⟨h.1, h.2.1, h.2.2.trans_le hb⟩

/-! What the operations leave alone. -/

/-- From s₀ to s the words below b in the links' register sets have stayed, and every unit is in the state it was in. -/
structure LinksKept (b : Nat) (s₀ s : State) : Prop where
  words : ∀ o, InLinkSet b o → spGet s.regs o 0 = spGet s₀.regs o 0
  states : ∀ u, ustate s u = ustate s₀ u

namespace LinksKept

variable {b : Nat} {s₀ : State}

theorem refl (s : State) : LinksKept b s s := ⟨fun _ _ => rfl, fun _ => rfl⟩

theorem mono {c : Nat} (hs : LinksKept b s₀ s) (hc : c ≤ b) : LinksKept c s₀ s :=
  ⟨fun o ho => hs.words o (ho.mono hc), hs.states⟩

theorem rd_eq (hs : LinksKept b s₀ s) {r : Reg} {i j : Nat} (h : InLinkSet b (r.off i j)) : rd s r i j = rd s₀ r i j :=
  rd_of_off (hs.words _ h)

theorem ite {c : Prop} {_ : Decidable c} (hs : LinksKept b s₀ s) (ht : LinksKept b s₀ t) :
    LinksKept b s₀ (if c then s else t) := by
  split <;> assumption

theorem foldl {β : Type} {f : State → β → State} {l : List β} (hs : LinksKept b s₀ s)
    (hf : ∀ s b', LinksKept b s₀ s → LinksKept b s₀ (f s b')) : LinksKept b s₀ (l.foldl f s) :=
  List.foldlRecOn l f hs fun s h x _ => hf s x h

theorem report (hs : LinksKept b s₀ s) (h : Reported eventOffs s t) : LinksKept b s₀ t :=
  ⟨fun o ho => (h.regs o (inLinkSet_quiet ho)).trans (hs.words o ho), fun u => (h.ustate_eq u).trans (hs.states u)⟩

theorem wr {r : Reg} {i j : Nat} {v : BitVec 32} (hs : LinksKept b s₀ s) (h : ¬ InLinkSet b (r.off i j)) :
    LinksKept b s₀ (wr r i j v s) :=
  ⟨fun o ho => (spGet_wr_ne s r i j v fun he => h (he ▸ ho)).trans (hs.words o ho), hs.states⟩

section
variable (hs : LinksKept b s₀ s)
include hs

theorem free {x : Nat} : LinksKept b s₀ { s with free := x } := ⟨hs.words, hs.states⟩
theorem time {x : TimeState} : LinksKept b s₀ { s with time := x } := ⟨hs.words, hs.states⟩
theorem withLink {f : Link → Link} : LinksKept b s₀ (withLink n f s) := ⟨hs.words, hs.states⟩
theorem offer {i : Item} : LinksKept b s₀ (offer i s) := ⟨hs.words, hs.states⟩
theorem raise {code u : Nat} {data : List EvField} : LinksKept b s₀ (raise code u data s) :=
  hs.report (raise_reported _ _ _ _)
theorem raiseRated {code u x : Nat} {q : List EvField} : LinksKept b s₀ (raiseRated code u q x s) :=
  hs.report (raiseRated_reported _ _ _ _ _)
theorem bumpEpoch {u : Nat} : LinksKept b s₀ (bumpEpoch u s) :=
  ⟨hs.words, fun w => (ustate_bumpEpoch s u w).trans (hs.states w)⟩

/-- The lanes' status words lie outside the links' sets. -/
theorem laneStatus {p lo w x : Nat} : LinksKept b s₀ (setF .ingLaneStatus p 0 lo w x s) :=
  hs.wr (by rw [ingLaneStatus_off, InLinkSet]; omega)

/-- A counter above the words looked at. -/
theorem count {j x : Nat} (hj : j < 8) (hb : b ≤ 0x80 + 4 * j) : LinksKept b s₀ (bump .ingCount n j x s) :=
  hs.wr (by rw [ingCount_off, InLinkSet]; omega)

theorem applyDelay : LinksKept b s₀ (applyDelay n s) := by
  unfold Machine.applyDelay
  split
  exacts [hs, .bumpEpoch <| .withLink hs]

theorem setBoundary {e : SysEdge} : LinksKept b s₀ (setBoundary n e s) := .withLink hs

theorem tagCheck {w : Word} (hb : b ≤ 0x94) : LinksKept b s₀ (tagCheck n w s) := by
  unfold Machine.tagCheck
  extract_lets +onlyGivenNames _ _
  split
  · refine .ite (.withLink hs) ?_
    extract_lets +onlyGivenNames _ _ _ _ s₁
    have h₁ : LinksKept b s₀ s₁ := .withLink hs
    exact .ite (.raiseRated <| .withLink <| h₁.count (by decide) (by omega)) h₁
  · extract_lets +onlyGivenNames s₂
    have h₂ : LinksKept b s₀ s₂ := .withLink hs
    exact .ite (.raiseRated <| .withLink <| h₂.count (by decide) (by omega)) h₂

theorem portTook {src stream : Nat} : LinksKept b s₀ (portTook src stream s).2 := by
  unfold Machine.portTook
  split
  exacts [.free hs, hs]

end

variable (hb : b ≤ 0x80)
include hb

theorem formParcel {extra : Nat} {took : Bool} (hs : LinksKept b s₀ s) : LinksKept b s₀ (formParcel n extra took s) :=
  .applyDelay <| .ite (.offer <| .withLink <| count (.time hs) (by decide) (by omega))
    (.raiseRated <| count (.withLink <| count (.time hs) (by decide) (by omega)) (by decide) (by omega))

theorem padParcel {extra : Nat} (hs : LinksKept b s₀ s) : LinksKept b s₀ (padParcel n extra s) :=
  .ite hs (.formParcel hb <| .portTook hs)

end LinksKept

/-! The state of a link. -/

section
variable (hn : n < 4)
include hn

theorem LinksKept.status (hs : LinksKept 0x80 s t) (lo w : Nat) :
    getF t .ingLinkStatus n 0 lo w = getF s .ingLinkStatus n 0 lo w :=
  getF_of_rd (hs.rd_eq (ingLinkStatus_inSet hn)) _ _

theorem LinksKept.lstate (hs : LinksKept 0x80 s t) : lstate t n = lstate s n := hs.status hn _ _

theorem LinksKept.timing (hs : LinksKept 0x80 s t) (lo w : Nat) : getF t .ingLinkTiming n 0 lo w = getF s .ingLinkTiming n 0 lo w :=
  getF_of_rd (hs.rd_eq (ingLinkTiming_inSet hn)) _ _

theorem LinksKept.lanes (hs : LinksKept 0x80 s t) : lkLanes t n = lkLanes s n :=
  congrArg (2 ^ ·) (getF_of_rd (hs.rd_eq (ingLinkCfg_inSet hn)) _ _)

theorem LinksKept.cfg (hs : LinksKept 0x80 s t) (k : Nat) : getB t .ingLinkCfg n 0 k = getB s .ingLinkCfg n 0 k :=
  getB_of_rd (hs.rd_eq (ingLinkCfg_inSet hn)) _

end

theorem lstate_setLstate (st : Nat) (s : State) : lstate (setLstate n st s) n = st % 8 := getF_setF _ _ _ _ _ _ _ (by decide)

/-- A field of the status word above LSTATE. -/
theorem lstate_setStatus {lo w x : Nat} (h : 3 ≤ lo) (h' : lo + w ≤ 32) (s : State) :
    lstate (setF .ingLinkStatus n 0 lo w x s) n = lstate s n := getF_setF_below _ _ _ _ _ _ _ _ _ h' h

/-- The status words of the other links stay. -/
theorem lstate_setF_ne (hm : m ≠ n) {lo w x : Nat} (s : State) : lstate (setF .ingLinkStatus n 0 lo w x s) m = lstate s m :=
  getF_of_rd (rd_setF_ne _ _ _ _ (by rw [ingLinkStatus_off, ingLinkStatus_off]; omega)) _ _

/-! Delay, parcels. -/

theorem applyDelay_none (h : (link s n).adcStaged = none) : applyDelay n s = s := by
  unfold applyDelay
  rw [h]

/-- A staged delay takes effect, and the epoch moves on (04 R185). -/
theorem applyDelay_some {d : Int} (h : (link s n).adcStaged = some d) : applyDelay n s = bumpEpoch (ingUnit n)
    (withLink n (fun l => { l with adcDelay := d, adcStaged := none, anchor := l.anchor + psTotal d - psTotal l.adcDelay }) s) := by
  unfold applyDelay
  rw [h]

theorem link_applyDelay_ne (hm : m ≠ n) (s : State) : link (applyDelay n s) m = link s m := by
  cases h : (link s n).adcStaged with
  | none => rw [applyDelay_none h]
  | some d => rw [applyDelay_some h, link_bumpEpoch, link_withLink_ne hm]

/-- The delay that is in force once a parcel boundary has passed. -/
theorem link_applyDelay (hn : n < 4) (s : State) : ∃ a, link (applyDelay n s) n =
    { link s n with adcDelay := (link s n).adcStaged.getD (link s n).adcDelay, adcStaged := none, anchor := a } := by
  cases h : (link s n).adcStaged with
  | none => exact ⟨(link s n).anchor, by rw [applyDelay_none h, Option.getD_none, ← h]⟩
  | some d =>
    rw [applyDelay_some h, link_bumpEpoch, link_withLink hn]
    exact ⟨_, rfl⟩

@[simp] theorem applyDelay_plan (n : Nat) (s : State) : (applyDelay n s).plan = s.plan := by
  unfold applyDelay
  split <;> rfl

theorem rd_applyDelay (n : Nat) (s : State) (r : Reg) (i j : Nat) : rd (applyDelay n s) r i j = rd s r i j := by
  unfold applyDelay
  split <;> rfl

/-- Link n once its parcel in formation has gone out: the next one is empty and has the next sequence. -/
def parcelShut (n : Nat) (last : Int) (s : State) : State :=
  withLink n (fun l => { l with seq := (l.seq + 1) % 2 ^ 48, items := [], flags := 0, lastSeq := l.seq,
                                lastValid := l.items.length, lastTime := last }) s

theorem parcelHeader_length (seq ch fmt : Nat) (t : Stamp) (valid flags gen : Nat) (crc : BitVec 32) :
    (parcelHeader seq ch fmt t valid flags gen crc).length = 8 := by
  simp [parcelHeader, leBytes, wordsBytes, stampWords, List.range_succ, bytesWords]

/-- A parcel that is completed goes out, or is counted as dropped; then a staged delay takes effect (04 R195, R200). -/
theorem formParcel_eq (n extra : Nat) (took : Bool) (s : State) : ∃ (x : TimeState) (last : Int) (it : Item),
    formParcel n extra took s = applyDelay n
      (if took then offer it (parcelShut n last (bump .ingCount n 1 (1024 - (link s n).items.length) { s with time := x }))
       else raiseRated 0x0208 (ingUnit n) [] 1 (bump .ingCount n 0 1
        (parcelShut n last (bump .ingCount n 1 (1024 - (link s n).items.length) { s with time := x })))) ∧
    it.src = ingUnit n ∧ it.seq = (link s n).seq ∧ ∃ pad, it.payload.drop 8 = padTo 1024 pad (link s n).items :=
  ⟨_, _, _, rfl, rfl, rfl, _, List.drop_left' (parcelHeader_length _ _ _ _ _ _ _ _)⟩

end Sys2Proof.Machine
end

section
/-! SUPPORT. How a link comes up and goes down: into CDR, DATA and ERROR, the aligning edge, the lanes (04 R174 to R183). -/

namespace Sys2Proof.Machine

variable {s t : State} {n m : Nat}

/-! Into CDR, DATA and ERROR. -/

theorem linkToCdr_spec (hn : n < 4) (s : State) : lstate (linkToCdr n s) n = 1 ∧
    (link (linkToCdr n s) n).aligned = false ∧ (link (linkToCdr n s) n).locked = [] := by
  unfold linkToCdr
  extract_lets s₁ s₂
  have hing : s₂.ing = s₁.ing := foldl_keeps State.ing (fun _ _ => by rfl) _ s₁
  have hlink : link (setLstate n 1 s₂) n = link s₁ n := link_of_ing hing n
  rw [hlink, link_withLink hn]
  exact ⟨lstate_setLstate 1 s₂, rfl, rfl⟩

/-- Into DATA: a staged delay takes effect, the state and the generation are shown, 0x0201 is raised; the local boundary
stays (04 R174, R199). -/
theorem linkToData_eq (n : Nat) (s : State) : ∃ (f : Link → Link) (data : List EvField),
    linkToData n s = raise 0x0201 (ingUnit n) data (withLink n f (setF .ingLinkStatus n 0 16 16
      ((getF (applyDelay n s) .ingLinkStatus n 0 16 16 + 1) % 2 ^ 16) (setLstate n 4 (applyDelay n s)))) ∧
    ∀ l, (f l).aligned = l.aligned ∧ (f l).edge = l.edge ∧ (f l).anchor = l.anchor ∧ (f l).adcDelay = l.adcDelay ∧
      (f l).adcStaged = l.adcStaged :=
  ⟨_, _, rfl, fun _ => ⟨rfl, rfl, rfl, rfl, rfl⟩⟩

theorem linkToData_spec (hn : n < 4) (s : State) : lstate (linkToData n s) n = 4 ∧
    getF (linkToData n s) .ingLinkStatus n 0 16 16 = (getF s .ingLinkStatus n 0 16 16 + 1) % 2 ^ 16 ∧
    Raised s (linkToData n s) 0x0201 (ingUnit n) := by
  obtain ⟨f, data, heq, -⟩ := linkToData_eq n s
  rw [heq]
  set s₁ := setLstate n 4 (applyDelay n s)
  set s₂ := setF .ingLinkStatus n 0 16 16 ((getF (applyDelay n s) .ingLinkStatus n 0 16 16 + 1) % 2 ^ 16) s₁ with hs₂
  have hkept : LinksKept 0x80 s₂ (raise 0x0201 (ingUnit n) data (withLink n f s₂)) := .raise <| .withLink <| .refl s₂
  refine ⟨?_, ?_, raised_between (.withLink <| .setF <| .setLstate <| .applyDelay <| .refl s) (.refl _)⟩
  · rw [hkept.lstate hn, hs₂, lstate_setStatus (by decide) (by decide)]
    exact lstate_setLstate 4 _
  · rw [hkept.status hn, hs₂, getF_setF _ _ _ _ _ _ _ (by decide), Nat.mod_mod,
      (LinksKept.applyDelay (.refl s)).status hn]

/-- The other links stay in their states. -/
theorem lstate_linkToData_ne (hm : m < 4) (hne : m ≠ n) (s : State) : lstate (linkToData n s) m = lstate s m := by
  obtain ⟨f, data, heq, -⟩ := linkToData_eq n s
  set s₂ := setF .ingLinkStatus n 0 16 16 ((getF (applyDelay n s) .ingLinkStatus n 0 16 16 + 1) % 2 ^ 16)
    (setLstate n 4 (applyDelay n s)) with hs₂
  have hkept : LinksKept 0x80 s₂ (raise 0x0201 (ingUnit n) data (withLink n f s₂)) := .raise <| .withLink <| .refl s₂
  rw [heq, hkept.lstate hm, hs₂, lstate_setF_ne hne, setLstate, lstate_setF_ne hne,
    (LinksKept.applyDelay (.refl s)).lstate hm]

/-- Of links that enter DATA one after the other, each is in DATA at the end. -/
theorem lstate_foldl_linkToData (hm : m < 4) {l : List Nat} (s : State) (h : m ∈ l ∨ lstate s m = 4) :
    lstate (l.foldl (fun s k => linkToData k s) s) m = 4 := by
  induction l generalizing s with
  | nil => simpa using h
  | cons k r ih =>
    refine ih _ ?_
    by_cases hk : m = k
    · exact .inr (hk ▸ (linkToData_spec hm s).1)
    · rw [lstate_linkToData_ne hm hk]
      exact h.imp_left fun h => (List.mem_cons.mp h).resolve_left hk

theorem linkError_eq (h : 1 ≤ lstate s n) (h' : lstate s n ≤ 4) (cause : Nat) : linkError n cause s =
    bump .ingCount n 7 1 (setLstate n 5 (setF .ingLinkStatus n 0 3 4 cause (withLink n (fun l => { l with passed := false })
      (if lstate s n = 4 then linkDown n cause (padParcel n 1 s) else s)))) := if_pos ⟨h, h'⟩

/-- Into ERROR with its cause; the end of DATA is reported (04 R174, R202). -/
theorem linkError_spec (hn : n < 4) (h : 1 ≤ lstate s n) (h' : lstate s n ≤ 4) {cause : Nat} (hc : cause < 16) :
    lstate (linkError n cause s) n = 5 ∧ getF (linkError n cause s) .ingLinkStatus n 0 3 4 = cause ∧
    (lstate s n = 4 → Raised s (linkError n cause s) 0x0202 (ingUnit n)) := by
  rw [linkError_eq h h']
  set s₁ := withLink n (fun l => { l with passed := false }) _ with hs₁
  set s₂ := setLstate n 5 (setF .ingLinkStatus n 0 3 4 cause s₁) with hs₂
  have hkept : LinksKept 0x80 s₂ (bump .ingCount n 7 1 s₂) := .count (.refl s₂) (by decide) (by decide)
  refine ⟨?_, ?_, fun hdata => ?_⟩
  · rw [hkept.lstate hn, hs₂]
    exact lstate_setLstate 5 _
  · rw [hkept.status hn, hs₂, setLstate, getF_setF_above _ _ _ _ _ _ _ _ _ (by decide) (by decide),
      getF_setF _ _ _ _ _ _ _ (by decide)]
    exact Nat.mod_eq_of_lt hc
  · rw [if_pos hdata] at hs₁
    rw [hs₂, hs₁]
    exact raised_between (.padParcel <| .refl s) (.bump <| .setLstate <| .setF <| .withLink <| .refl _)

/-- A link that fails before DATA keeps all but that its checks had passed. -/
theorem link_linkError (hn : n < 4) (h : lstate s n = 3) (cause : Nat) :
    link (linkError n cause s) n = { link s n with passed := false } := by
  rw [linkError_eq (by omega) (by omega), if_neg (by omega), link_bump, link_setLstate, link_setF, link_withLink hn]

/-! ALIGN's checks have passed. -/

theorem linkPassed_alone (h : getB s .ingLinkCfg n 0 25 = false) : linkPassed n s = linkToData n s :=
  if_neg (by simp [h])

/-- In a group one member of which still waits for its checks, the link waits (04 R181). -/
theorem linkPassed_waits (hgroup : getB s .ingLinkCfg n 0 25 = true)
    (hdata : ∀ m ∈ groupMembers s (getF s .ingLinkCfg n 0 23 2), lstate s m ≠ 4)
    (hwait : ∃ m ∈ groupMembers s (getF s .ingLinkCfg n 0 23 2), m ≠ n ∧ (link s m).passed = false) :
    linkPassed n s = withLink n (fun l => { l with passed := true }) s := by
  obtain ⟨m, hm, hne, hpassed⟩ := hwait
  set x := withLink n (fun l => { l with passed := true }) s
  have hnone : ¬ ((groupMembers s (getF s .ingLinkCfg n 0 23 2)).any fun m => lstate x m == 4) = true := by
    simp only [List.any_eq_true, beq_iff_eq, not_exists, not_and]
    exact hdata
  have hsome : ¬ ((groupMembers s (getF s .ingLinkCfg n 0 23 2)).all fun m => (link x m).passed) = true := by
    intro hall
    have := List.all_eq_true.mp hall m hm
    rw [link_withLink_ne hne, hpassed] at this
    cases this
  exact (if_pos hgroup).trans ((if_neg hnone).trans (if_neg hsome))

theorem mem_groupMembers {g : Nat} : m ∈ groupMembers s g ↔ m < 4 ∧ getB s .ingLinkCfg m 0 25 = true ∧
    getF s .ingLinkCfg m 0 23 2 = g ∧ ustate s (ingUnit m) = .running := by
  simp [groupMembers, and_assoc]

/-! The aligning edge. -/

/-- The local boundary of link n is that edge, with delay d in force and none staged. -/
structure AtEdge (n : Nat) (e : SysEdge) (d : Int) (s : State) : Prop where
  aligned : (link s n).aligned = true
  edge : (link s n).edge = e.time
  anchor : (link s n).anchor = e.time + psTotal d
  delay : (link s n).adcDelay = d
  staged : (link s n).adcStaged = none

namespace AtEdge

variable {e : SysEdge} {d : Int}

theorem of_link (hs : AtEdge n e d s) (h : link t n = link s n) : AtEdge n e d t :=
  ⟨by rw [h, hs.aligned], by rw [h, hs.edge], by rw [h, hs.anchor], by rw [h, hs.delay], by rw [h, hs.staged]⟩

theorem of_ing (hs : AtEdge n e d s) (h : t.ing = s.ing) : AtEdge n e d t := hs.of_link (link_of_ing h n)

theorem foldl {β : Type} {f : State → β → State} {l : List β} (hs : AtEdge n e d s)
    (hf : ∀ s b, AtEdge n e d s → AtEdge n e d (f s b)) : AtEdge n e d (l.foldl f s) :=
  List.foldlRecOn l f hs fun s h b _ => hf s b h

theorem ite {c : Prop} {_ : Decidable c} (hs : AtEdge n e d s) (ht : AtEdge n e d t) : AtEdge n e d (if c then s else t) := by
  split <;> assumption

variable (hn : n < 4)
include hn

/-- A change of a link that leaves its boundary and its delay alone. -/
theorem withLink {f : Link → Link} {k : Nat} (hs : AtEdge n e d s) (hf : ∀ l, (f l).aligned = l.aligned ∧ (f l).edge = l.edge ∧
    (f l).anchor = l.anchor ∧ (f l).adcDelay = l.adcDelay ∧ (f l).adcStaged = l.adcStaged) :
    AtEdge n e d (withLink k f s) := by
  by_cases hk : n = k
  · subst hk
    obtain ⟨h₁, h₂, h₃, h₄, h₅⟩ := hf (link s n)
    have hl := link_withLink hn f s
    exact ⟨by rw [hl, h₁, hs.aligned], by rw [hl, h₂, hs.edge], by rw [hl, h₃, hs.anchor], by rw [hl, h₄, hs.delay],
      by rw [hl, h₅, hs.staged]⟩
  · exact hs.of_link (link_withLink_ne hk f s)

theorem setBoundary {k : Nat} (hs : AtEdge n e d s) : AtEdge n e d (setBoundary k e s) := by
  by_cases hk : n = k
  · subst hk
    have hl : link (Machine.setBoundary n e s) n = _ := link_withLink hn _ s
    exact ⟨by rw [hl], by rw [hl], by rw [hl, hs.delay], by rw [hl]; exact hs.delay, by rw [hl]; exact hs.staged⟩
  · exact hs.of_link (link_withLink_ne hk _ s)

omit hn in
theorem applyDelay {k : Nat} (hs : AtEdge n e d s) : AtEdge n e d (applyDelay k s) := by
  by_cases hk : n = k
  · subst hk
    rwa [applyDelay_none hs.staged]
  · exact hs.of_link (link_applyDelay_ne hk s)

theorem linkToData {k : Nat} (hs : AtEdge n e d s) : AtEdge n e d (linkToData k s) := by
  obtain ⟨f, data, heq, hf⟩ := linkToData_eq k s
  rw [heq]
  exact .of_ing (withLink hn (.of_ing (.applyDelay hs) rfl) hf) (raise_reported _ _ _ _).ing

theorem linkPassed {k : Nat} (hs : AtEdge n e d s) : AtEdge n e d (linkPassed k s) := by
  unfold Machine.linkPassed
  extract_lets ms s₁
  have h₁ : AtEdge n e d s₁ := withLink hn hs fun _ => ⟨rfl, rfl, rfl, rfl, rfl⟩
  exact .ite (.ite (linkToData hn h₁) (.ite (.foldl h₁ fun _ _ h => linkToData hn h) h₁)) (linkToData hn hs)

theorem linkError (hs : AtEdge n e d s) (h : lstate s n = 3) (cause : Nat) : AtEdge n e d (linkError n cause s) := by
  have hl := link_linkError hn h cause
  exact ⟨by rw [hl]; exact hs.aligned, by rw [hl]; exact hs.edge, by rw [hl]; exact hs.anchor, by rw [hl]; exact hs.delay,
    by rw [hl]; exact hs.staged⟩

end AtEdge

/-- The aligning edge sets the boundary of its link and then judges it, x being the state between (04 R178 to R182). -/
theorem alignEdge_eq (hn : n < 4) (e : SysEdge) (arr skews : List Nat) (s : State) : ∃ x,
    alignEdge n e arr skews s =
      (if 1024 < maxList skews then linkError n 5 x
      else if getF s .ingLinkTiming n 0 16 7 < maxList arr + 2 then linkError n 6 x
      else if lkEnc66 s n then linkPassed n x else x) ∧
    AtEdge n e ((link s n).adcStaged.getD (link s n).adcDelay) x ∧ lstate x n = lstate s n ∧
    getB x .ingLinkCfg n 0 25 = getB s .ingLinkCfg n 0 25 := by
  unfold alignEdge
  extract_lets s₁ s₂ a s₃ s₄
  obtain ⟨c, hdelay⟩ := link_applyDelay hn s
  have he₁ : AtEdge n e ((link s n).adcStaged.getD (link s n).adcDelay) s₁ := by
    have hl : link s₁ n = _ := link_withLink hn _ (applyDelay n s)
    rw [hdelay] at hl
    exact ⟨by rw [hl], by rw [hl], by rw [hl], by rw [hl], by rw [hl]⟩
  have he₂ : AtEdge n e _ s₂ := .ite (.foldl he₁ fun _ _ h => h.setBoundary hn) he₁
  have he₄ : AtEdge n e _ s₄ := .foldl (.of_ing he₂ rfl) fun _ _ h => .of_ing h rfl
  have hk₁ : LinksKept 0x80 s s₁ := .setBoundary <| .applyDelay <| .refl s
  have hk₂ : LinksKept 0x80 s s₂ := .ite (.foldl hk₁ fun _ _ h => .setBoundary h) hk₁
  have hk₄ : LinksKept 0x80 s₃ s₄ := .foldl (.refl s₃) fun _ _ h => .laneStatus h
  have hcfg (k : Nat) : getB s₄ .ingLinkCfg n 0 k = getB s .ingLinkCfg n 0 k := by
    rw [hk₄.cfg hn, ← hk₂.cfg hn]
    exact getB_of_rd (rd_setF_ne _ _ _ _ (by rw [ingLinkCfg_off, ingLinkStatus_off]; omega)) _
  have htiming : getF s₄ .ingLinkTiming n 0 16 7 = getF s .ingLinkTiming n 0 16 7 := by
    rw [hk₄.timing hn, ← hk₂.timing hn]
    exact getF_of_rd (rd_setF_ne _ _ _ _ (by rw [ingLinkTiming_off, ingLinkStatus_off]; omega)) _ _
  refine ⟨s₄, by rw [htiming, lkEnc66, hcfg]; rfl, he₄, ?_, hcfg 25⟩
  rw [hk₄.lstate hn, lstate_setStatus (by decide) (by decide), hk₂.lstate hn]

/-- A later edge on its boundary renews the anchor (04 R182). -/
theorem checkedEdge_on {e : SysEdge} (h : edgeDev s n e = 0) : ∃ f : Link → Link, checkedEdge n e s = withLink n f s ∧
    (f (link s n)).anchor = e.time + psTotal (link s n).adcDelay ∧ (f (link s n)).renewed = upTotal s :=
  ⟨_, if_pos h, rfl, rfl⟩

/-- One off its boundary is counted and reported (04 R183). -/
theorem checkedEdge_off {e : SysEdge} (h : edgeDev s n e ≠ 0) :
    Reported eventOffs (bump .ingCount n 4 1 s) (checkedEdge n e s) := by
  have heq : checkedEdge n e s = raiseRatedT 0x0204 (ingUnit n) [] 1 [.s32 (edgeDev s n e)] (bump .ingCount n 4 1 s) := if_neg h
  rw [heq]
  exact raiseRatedT_reported _ _ _ _ _ _

/-! Lanes. -/

/-- With one more lane noted, every logical lane is. -/
theorem lanes_all_noted {lane : Nat} {l : List Nat} : ((lkLaneList s n).all fun k => (l.insert lane).contains k) = true ↔
    ∀ k < lkLanes s n, k = lane ∨ k ∈ l := by
  simp [lkLaneList]

/-- A lane is noted in x, and the last one takes a link in state a on to state b. -/
theorem laneNoted_spec {x : State} {lane a b : Nat} {noted : Link → List Nat} (hn : n < 4) (hb : b < 8)
    (hkept : LinksKept 0x80 s x) (hx : noted (link x n) = (noted (link s n)).insert lane) :
    ∃ t, (if lstate x n = a ∧ (lkLaneList x n).all (fun k => (noted (link x n)).contains k) then
        Host.Outcome.next (setLstate n b x) else .next x : Out) = .next t ∧ lane ∈ noted (link t n) ∧
      lstate t n = (if lstate s n = a ∧ (∀ k < lkLanes s n, k = lane ∨ k ∈ noted (link s n)) then b else lstate s n) := by
  have hmem : lane ∈ noted (link x n) := by
    rw [hx]
    exact List.mem_insert_self
  simp only [hx, hkept.lstate hn, lanes_all_noted, hkept.lanes hn]
  split
  · exact ⟨_, rfl, hmem, by rw [lstate_setLstate, Nat.mod_eq_of_lt hb]⟩
  · exact ⟨x, rfl, hmem, hkept.lstate hn⟩

end Sys2Proof.Machine
end

section
/-! SUPPORT. The links come up: the statement about lanes, ILAS, edges, time-outs and restarts (04 R174 to R183). -/

namespace Sys2Proof.Machine

variable {s : State} {n lane : Nat}

/-! Lanes. -/

theorem laneCdrLocked_spec (hn : n < 4) (hst : 1 ≤ lstate s n) (hlane : lane < lkLanes s n) :
    ∃ t, exec (.laneCdrLocked n lane) s = .next t ∧ lane ∈ (link t n).locked ∧
      lstate t n = (if lstate s n = 1 ∧ (∀ k < lkLanes s n, k = lane ∨ k ∈ (link s n).locked) then 2 else lstate s n) := by
  have hexec : exec (.laneCdrLocked n lane) s = _ := if_pos ⟨hst, hlane⟩
  rw [hexec]
  exact laneNoted_spec (noted := Link.locked) hn (by decide) (.withLink <| .laneStatus <| .refl s)
    (congrArg Link.locked (link_withLink hn _ _))

theorem laneCodeSync_spec (hn : n < 4) (hst : 2 ≤ lstate s n) (hst' : lstate s n ≤ 4) (hlane : lane < lkLanes s n) :
    ∃ t, exec (.laneCodeSync n lane) s = .next t ∧ lane ∈ (link t n).synced ∧
      lstate t n = (if lstate s n = 2 ∧ (∀ k < lkLanes s n, k = lane ∨ k ∈ (link s n).synced) then 3 else lstate s n) := by
  have hexec : exec (.laneCodeSync n lane) s = _ := if_pos ⟨hst, hst', hlane⟩
  rw [hexec]
  exact laneNoted_spec (noted := Link.synced) hn (by decide) (.withLink <| .laneStatus <| .refl s)
    (congrArg Link.synced (link_withLink hn _ _))

/-! ILAS. -/

/-- An aligned 8b/10b link in ALIGN, and one of its lanes: a multiframe is judged. -/
def IlasJudged (s : State) (n lane : Nat) : Prop :=
  lstate s n = 3 ∧ (link s n).aligned = true ∧ lkEnc66 s n = false ∧ lane < lkLanes s n

section
variable {fields : List Nat} {chk : Nat} {ok : Bool} (h : IlasJudged s n lane)
include h

/-- The first wrong field ends in ERROR. -/
theorem exec_ilas_wrongField {k : Nat} (hk : k < 13) (hwrong : fields.getD k 0 ≠ (ilasExpected s n lane).getD k 0)
    (hfirst : ∀ j < k, fields.getD j 0 = (ilasExpected s n lane).getD j 0) :
    exec (.ilasMultiframe n lane fields chk ok) s =
      .next (linkError n 4 (raise 0x0203 (ingUnit n) [.u16 lane, .u16 k, .u16 (fields.getD k 0)] s)) := by
  obtain ⟨hst, haligned, henc, hlane⟩ := h
  have hfind : ((List.range 13).find? fun k => fields.getD k 0 != (ilasExpected s n lane).getD k 0) = some k := by
    rw [List.find?_range_eq_some]
    exact ⟨bne_iff_ne.mpr hwrong, List.mem_range.mpr hk, fun j hj => by rw [hfirst j hj]; simp⟩
  simp only [exec, execIlasMultiframe, hst, haligned, henc, hlane, hfind, Bool.not_false, and_self, if_true]

section
variable (hfields : ∀ k < 13, fields.getD k 0 = (ilasExpected s n lane).getD k 0)
include hfields

omit h in
theorem ilas_find_none : ((List.range 13).find? fun k => fields.getD k 0 != (ilasExpected s n lane).getD k 0) = none := by
  rw [List.find?_range_eq_none]
  intro k hk
  rw [hfields k hk]
  simp

/-- So does a wrong checksum. -/
theorem exec_ilas_wrongSum : exec (.ilasMultiframe n lane fields chk false) s =
    .next (linkError n 4 (raise 0x0203 (ingUnit n) [.u16 lane, .u16 13, .u16 chk] s)) := by
  obtain ⟨hst, haligned, henc, hlane⟩ := h
  simp only [exec, execIlasMultiframe, hst, haligned, henc, hlane, ilas_find_none hfields, Bool.not_false, and_self, if_true]

/-- A good multiframe of the last lane: the checks have passed. -/
theorem exec_ilas_last (hn : n < 4) (hlast : ∀ k < lkLanes s n, k = lane ∨ k ∈ (link s n).ilas) :
    ∃ f : Link → Link,
      exec (.ilasMultiframe n lane fields chk true) s = .next (linkPassed n (withLink n f s)) := by
  obtain ⟨hst, haligned, henc, hlane⟩ := h
  refine ⟨fun l => { l with ilas := if l.ilas.contains lane then l.ilas else lane :: l.ilas }, ?_⟩
  have hall : ((lkLaneList s n).all fun k => ((link s n).ilas.insert lane).contains k) = true := lanes_all_noted.mpr hlast
  have hilas := congrArg Link.ilas (link_withLink hn
    (fun l => { l with ilas := if l.ilas.contains lane then l.ilas else lane :: l.ilas }) s)
  simp only [exec, execIlasMultiframe, hst, haligned, henc, hlane, ilas_find_none hfields, Bool.not_false, Bool.not_true,
    and_self, if_true, if_neg Bool.false_ne_true, hilas]
  exact if_pos hall

end

end

/-- A link in ALIGN whose ILAS fails is in ERROR with cause 4, and the report says why. -/
theorem ilasError_spec (hn : n < 4) (hst : lstate s n = 3) (data : List EvField) :
    lstate (linkError n 4 (raise 0x0203 (ingUnit n) data s)) n = 5 ∧
    RaisedData s (linkError n 4 (raise 0x0203 (ingUnit n) data s)) 0x0203 (ingUnit n) data ∧
    getF (linkError n 4 (raise 0x0203 (ingUnit n) data s)) .ingLinkStatus n 0 3 4 = 4 := by
  have hst' : lstate (raise 0x0203 (ingUnit n) data s) n = 3 := ((LinksKept.raise (.refl s)).lstate hn).trans hst
  obtain ⟨herr, hcause, -⟩ := linkError_spec hn (s := raise 0x0203 (ingUnit n) data s) (by omega) (by omega)
    (show 4 < 16 by decide)
  exact ⟨herr, (raise_raisedData _ _ _ s).onward (P := False) (Q := False) (.linkError <| .refl _), hcause⟩

/-! Edges. -/

section
variable {e : SysEdge} {arr skews : List Nat}

theorem exec_sysrefEdge_aligns (he : sysrefEdge s n = some e) (hst : lstate s n = 3) (haligned : (link s n).aligned = false) :
    exec (.sysrefEdge n arr skews) s = .next (alignEdge n e arr skews s) := by
  simp only [exec, execSysrefEdge, he, hst, haligned, if_true, if_neg Bool.false_ne_true]

theorem exec_sysrefEdge_checks (he : sysrefEdge s n = some e)
    (hst : lstate s n = 4 ∨ (lstate s n = 3 ∧ (link s n).aligned = true)) :
    exec (.sysrefEdge n arr skews) s = .next (checkedEdge n e s) := by
  rcases hst with hst | ⟨hst, haligned⟩
  · simp [exec, execSysrefEdge, he, hst]
  · simp only [exec, execSysrefEdge, he, hst, haligned, if_true]

theorem exec_sysrefEdge_ignored (h : sysrefEdge s n = none ∨ (lstate s n ≠ 3 ∧ lstate s n ≠ 4)) :
    exec (.sysrefEdge n arr skews) s = .next s := by
  cases he : sysrefEdge s n with
  | none => simp only [exec, execSysrefEdge, he]
  | some e =>
    obtain ⟨h3, h4⟩ := h.resolve_left (by simp [he])
    simp only [exec, execSysrefEdge, he, if_neg h3, if_neg h4]

/-- The aligning edge: whatever its checks say, the boundary is set. -/
theorem alignEdge_atEdge (hn : n < 4) (hst : lstate s n = 3) :
    AtEdge n e ((link s n).adcStaged.getD (link s n).adcDelay) (alignEdge n e arr skews s) := by
  obtain ⟨x, heq, hx, hst', -⟩ := alignEdge_eq hn e arr skews s
  rw [hst] at hst'
  rw [heq]
  exact .ite (hx.linkError hn hst' 5) (.ite (hx.linkError hn hst' 6) (.ite (hx.linkPassed hn) hx))

end

/-! Groups. -/

/-- The members that have passed enter DATA without the others, which the report names (04 R181). -/
theorem exec_groupAlignTimeout {g m : Nat} (hm : m ∈ groupMembers s g) (hpassed : (link s m).passed = true) :
    ∃ (m₀ : Nat) (l : List Nat) (data : List EvField), m₀ < 4 ∧ m ∈ l ∧ exec (.groupAlignTimeout g) s =
      .next (raise 0x0205 (ingUnit m₀) data (l.foldl (fun s k => linkToData k s) s)) := by
  have hmem : m ∈ (groupMembers s g).filter fun m => (link s m).passed := List.mem_filter.mpr ⟨hm, hpassed⟩
  cases hl : (groupMembers s g).filter fun m => (link s m).passed with
  | nil => simp [hl] at hmem
  | cons m₀ rest =>
    have h₀ : m₀ ∈ groupMembers s g := List.mem_of_mem_filter (hl ▸ List.mem_cons_self)
    exact ⟨m₀, m₀ :: rest, [.u16 g, .u32 (((groupMembers s g).filter fun m => !(link s m).passed).map fun m => 2 ^ m).sum],
      (mem_groupMembers.mp h₀).1, hl ▸ hmem, by simp only [exec, execGroupAlignTimeout, hl]⟩

theorem ingUnit_mem (hn : n < 4) : ingUnit n ∈ [0x020, 0x021, 0x022, 0x023] := by
  interval_cases n <;> decide

/-! The statement. -/

/-- Settles O24: each command is the rule of the operation it ends in, `laneNoted_spec`, `linkToData`, `linkError`,
`alignEdge`, `checkedEdge` or `linkToCdr`. -/
theorem linkBringUpCommandsComplete : Obligations.LinkBringUpCommandsComplete := by
  refine ⟨fun s n lane => laneCdrLocked_spec, fun s n lane => laneCodeSync_spec, ?ilasGood, ?ilasWaits, ?ilasField, ?ilasSum,
    ?aligns, ?checked, fun s n arr skews => exec_sysrefEdge_ignored, ?timeout, ?late, ?restart, ?realign⟩
  case ilasGood =>
    intro s n lane chk fields hn hst haligned henc hlane hfields hlast halone
    obtain ⟨f, hexec⟩ := exec_ilas_last (chk := chk) ⟨hst, haligned, henc, hlane⟩ hfields hn hlast
    rw [linkPassed_alone (s := withLink n f s) halone] at hexec
    exact ⟨_, hexec, (linkToData_spec hn (withLink n f s)).1, (linkToData_spec hn (withLink n f s)).2.2,
      (linkToData_spec hn (withLink n f s)).2.1⟩
  case ilasWaits =>
    intro s n lane chk fields hn hst haligned henc hlane hfields hlast hgroup hdata hwait
    obtain ⟨f, hexec⟩ := exec_ilas_last (chk := chk) ⟨hst, haligned, henc, hlane⟩ hfields hn hlast
    obtain ⟨m, hm, hne, hpassed⟩ := hwait
    have hpassed' : (link (withLink n f s) m).passed = false := by rw [link_withLink_ne hne, hpassed]
    rw [linkPassed_waits (s := withLink n f s) hgroup hdata ⟨m, hm, hne, hpassed'⟩] at hexec
    exact ⟨_, hexec, hst, by rw [link_withLink hn]⟩
  case ilasField =>
    intro s n lane k chk ok fields hn hst haligned henc hlane hk hwrong hfirst
    exact ⟨_, exec_ilas_wrongField ⟨hst, haligned, henc, hlane⟩ hk hwrong hfirst, ilasError_spec hn hst _⟩
  case ilasSum =>
    intro s n lane chk fields hn hst haligned henc hlane hfields
    exact ⟨_, exec_ilas_wrongSum ⟨hst, haligned, henc, hlane⟩ hfields, ilasError_spec hn hst _⟩
  case aligns =>
    intro s n e arr skews hn he hst haligned
    have hedge := alignEdge_atEdge (e := e) (arr := arr) (skews := skews) hn hst
    obtain ⟨x, heq, -, hst', hgroup⟩ := alignEdge_eq hn e arr skews s
    rw [hst] at hst'
    refine ⟨_, exec_sysrefEdge_aligns he hst haligned, hedge.aligned, hedge.edge, hedge.anchor, fun hskew => ?_,
      fun hskew hearly => ?_, fun hskew hlate henc halone => ?_⟩
    · obtain ⟨herr, hcause, -⟩ := linkError_spec hn (s := x) (by omega) (by omega) (show 5 < 16 by decide)
      rw [heq, if_pos hskew]
      exact ⟨herr, hcause⟩
    · obtain ⟨herr, hcause, -⟩ := linkError_spec hn (s := x) (by omega) (by omega) (show 6 < 16 by decide)
      rw [heq, if_neg (by omega), if_pos hearly]
      exact ⟨herr, hcause⟩
    · rw [heq, if_neg (by omega), if_neg (by omega), if_pos henc, linkPassed_alone (hgroup.trans halone)]
      exact (linkToData_spec hn x).1
  case checked =>
    intro s n e arr skews hn he hst
    refine ⟨_, exec_sysrefEdge_checks he hst, ?_⟩
    by_cases hdev : edgeDev s n e = 0
    · obtain ⟨f, heq, hanchor, hrenewed⟩ := checkedEdge_on hdev
      rw [heq, link_withLink hn]
      exact ⟨rfl, fun h => absurd hdev h, fun _ => ⟨hanchor, hrenewed, rfl⟩⟩
    · have hr := checkedEdge_off hdev
      refine ⟨(LinksKept.report (.count (.refl s) (by decide) (by decide)) hr).lstate hn, fun _ => ⟨hr.ing, ?_⟩,
        fun h => absurd h hdev⟩
      rw [hr.rd_eq _ _ _ (ingCount_quiet hn (by decide)), rd_bump_toNat]
  case timeout =>
    intro s n hn hst haligned
    obtain ⟨herr, hcause, -⟩ := linkError_spec hn (s := s) (by omega) (by omega) (show 8 < 16 by decide)
    exact ⟨_, if_pos ⟨hst, by simp [haligned]⟩, herr, hcause⟩
  case late =>
    intro s g m hm hpassed
    obtain ⟨m₀, l, data, h₀, hl, hexec⟩ := exec_groupAlignTimeout hm hpassed
    have hm4 := (mem_groupMembers.mp hm).1
    refine ⟨_, hexec, ?_, _, ingUnit_mem h₀, raised_between (.foldl (.refl s) fun _ _ h => .linkToData h) (.refl _)⟩
    rw [(LinksKept.raise (.refl _)).lstate hm4]
    exact lstate_foldl_linkToData hm4 s (.inl hl)
  case restart =>
    intro s n hn hst hauto
    obtain ⟨hcdr, haligned, -⟩ := linkToCdr_spec hn s
    exact ⟨_, if_pos ⟨hst, hauto⟩, hcdr, haligned⟩
  case realign =>
    intro s ag n hn hopen hrun
    have hr : Reported eventOffs (realign n s) _ := guardW_open (v := 1) (eff := linkCmdEff n 1) hopen
    have heq : realign n s = linkToCdr n (if lstate s n = 4 then linkDown n 0 (padParcel n 2 s) else s) := if_pos hrun
    rw [heq] at hr
    obtain ⟨hcdr, -, hlocked⟩ := linkToCdr_spec hn (if lstate s n = 4 then linkDown n 0 (padParcel n 2 s) else s)
    refine ⟨_, rfl, ?_, ?_⟩
    · rw [← hcdr]
      exact (LinksKept.report (.refl _) hr).lstate hn
    · rw [← hlocked]
      exact congrArg Link.locked (link_of_ing hr.ing n)

end Sys2Proof.Machine
end

section
/-! SUPPORT. A link in DATA: its errors, its input samples and the parcels they fill, and the statement about them (04 R182,
R185 to R202). -/

namespace Sys2Proof.Machine

variable {s t : State} {n lane : Nat}

/-! Parcels. -/

/-- What else a link holds stays as a staged delay takes effect. -/
theorem applyDelay_rest (hn : n < 4) {α : Type} (g : Link → α)
    (hg : ∀ (l : Link) (d a : Int), g { l with adcDelay := d, adcStaged := none, anchor := a } = g l) (s : State) :
    g (link (applyDelay n s) n) = g (link s n) := by
  obtain ⟨a, h⟩ := link_applyDelay hn s
  rw [h, hg]

/-- A parcel that has gone out leaves the next one empty, with the next sequence. -/
theorem link_formParcel (hn : n < 4) (extra : Nat) (took : Bool) (s : State) :
    (link (formParcel n extra took s) n).idx = (link s n).idx ∧
    (link (formParcel n extra took s) n).crcLeft = (link s n).crcLeft ∧
    (link (formParcel n extra took s) n).items = [] ∧
    (link (formParcel n extra took s) n).seq = ((link s n).seq + 1) % 2 ^ 48 := by
  obtain ⟨x, last, it, heq, -⟩ := formParcel_eq n extra took s
  set s₁ := parcelShut n last (bump .ingCount n 1 (1024 - (link s n).items.length) { s with time := x })
  set s₂ := if took then offer it s₁ else raiseRated 0x0208 (ingUnit n) [] 1 (bump .ingCount n 0 1 s₁) with hs₂
  have hshut : link s₂ n = link s₁ n := by
    rw [hs₂]
    cases took
    · exact link_raiseRated _ _ _ _ _ _
    · rfl
  have hlink : link s₁ n = { link s n with
      seq := ((link s n).seq + 1) % 2 ^ 48, items := [], flags := 0, lastSeq := (link s n).seq,
      lastValid := (link s n).items.length, lastTime := last } := link_withLink hn _ _
  rw [heq]
  refine ⟨?_, ?_, ?_, ?_⟩
  · rw [applyDelay_rest hn Link.idx fun _ _ _ => rfl, hshut, hlink]
  · rw [applyDelay_rest hn Link.crcLeft fun _ _ _ => rfl, hshut, hlink]
  · rw [applyDelay_rest hn Link.items fun _ _ _ => rfl, hshut, hlink]
  · rw [applyDelay_rest hn Link.seq fun _ _ _ => rfl, hshut, hlink]

theorem offer_offered (it : Item) (s : State) : (offer it s).plan.offered = s.plan.offered ++ [it] := rfl
theorem parcelShut_plan (n : Nat) (last : Int) (s : State) : (parcelShut n last s).plan = s.plan := rfl
theorem rd_parcelShut (n : Nat) (last : Int) (s : State) (r : Reg) (i j : Nat) : rd (parcelShut n last s) r i j = rd s r i j := rfl

/-- A parcel that the port takes is offered. -/
theorem formParcel_taken (n extra : Nat) (s : State) : ∃ it,
    (formParcel n extra true s).plan.offered = s.plan.offered ++ [it] ∧ it.src = ingUnit n ∧ it.seq = (link s n).seq ∧
      ∃ pad, it.payload.drop 8 = padTo 1024 pad (link s n).items := by
  obtain ⟨x, last, it, heq, hit⟩ := formParcel_eq n extra true s
  refine ⟨it, ?_, hit⟩
  rw [heq, if_pos rfl, applyDelay_plan, offer_offered]
  exact congrArg (· ++ [it]) (congrArg PlanState.offered (parcelShut_plan _ _ _))

/-- One that it does not take is counted. -/
theorem formParcel_dropped (hn : n < 4) (extra : Nat) (s : State) : (formParcel n extra false s).plan = s.plan ∧
    (rd (formParcel n extra false s) .ingCount n 0).toNat = satU 32 ((rd s .ingCount n 0).toNat + 1) := by
  obtain ⟨x, last, it, heq, -⟩ := formParcel_eq n extra false s
  rw [heq, if_neg Bool.false_ne_true, applyDelay_plan, rd_applyDelay]
  set s₁ := parcelShut n last (bump .ingCount n 1 (1024 - (link s n).items.length) { s with time := x })
  have hr := raiseRated_reported 0x0208 (ingUnit n) [] 1 (bump .ingCount n 0 1 s₁)
  have hcount : rd s₁ .ingCount n 0 = rd s .ingCount n 0 := by
    rw [rd_parcelShut, rd_bump_ne _ _ (by rw [ingCount_off, ingCount_off]; omega)]
    rfl
  refine ⟨hr.plan, ?_⟩
  rw [hr.rd_eq _ _ _ (ingCount_quiet hn (by decide)), rd_bump_toNat, hcount]

/-- A full parcel goes out. -/
def closeFull (n : Nat) (took : Bool) (s : State) : State :=
  if 1024 ≤ (link s n).items.length then formParcel n 0 took s else s

theorem closeFull_kept (n : Nat) (took : Bool) (s : State) : LinksKept 0x80 s (closeFull n took s) :=
  .ite (.formParcel (by decide) <| .refl s) (.refl s)

theorem link_closeFull (hn : n < 4) (took : Bool) (s : State) : (link (closeFull n took s) n).idx = (link s n).idx ∧
    (link (closeFull n took s) n).crcLeft = (link s n).crcLeft := by
  unfold closeFull
  split
  · obtain ⟨hidx, hcrc, -⟩ := link_formParcel hn 0 took s
    exact ⟨hidx, hcrc⟩
  · exact ⟨rfl, rfl⟩

theorem closeFull_of_lt (took : Bool) (h : (link s n).items.length < 1024) : closeFull n took s = s :=
  if_neg (Nat.not_le.mpr h)

/-! Input samples. -/

/-- An input sample is counted, and flagged where a failed CRC covers it. -/
def sampleTaken (n : Nat) (s : State) : State :=
  withLink n (fun l => { l with
    idx := l.idx + 1, bad := l.bad.drop 1, crcLeft := l.crcLeft - 1,
    flags := if 0 < l.crcLeft then Nat.lor l.flags 4 else l.flags }) s

/-- t is s after one more input sample, no parcel having gone out: the items of the parcel in formation, the mixer's index. -/
structure SampleIn (n : Nat) (items : List Word) (mix : Nat) (s t : State) : Prop where
  idx : (link t n).idx = (link s n).idx + 1
  crcLeft : (link t n).crcLeft = (link s n).crcLeft - 1
  seq : (link t n).seq = (link s n).seq
  items : (link t n).items = items
  mixN : (link t n).mixN = mix
  plan : t.plan = s.plan
  kept : LinksKept 0x94 s t

namespace SampleIn

variable {items : List Word} {mix : Nat}

theorem report {u : State} (h : SampleIn n items mix s t) (hr : Reported eventOffs t u) : SampleIn n items mix s u := by
  have hl := link_of_ing hr.ing n
  exact ⟨by rw [hl, h.idx], by rw [hl, h.crcLeft], by rw [hl, h.seq], by rw [hl, h.items], by rw [hl, h.mixN],
    hr.plan.trans h.plan, h.kept.report hr⟩

theorem raiseRated {code u x : Nat} {q : List EvField} (h : SampleIn n items mix s t) :
    SampleIn n items mix s (raiseRated code u q x t) := h.report (raiseRated_reported _ _ _ _ _)

theorem count {j x : Nat} (hj : j < 8) (hj' : 5 ≤ j) (h : SampleIn n items mix s t) :
    SampleIn n items mix s (bump .ingCount n j x t) :=
  ⟨h.idx, h.crcLeft, h.seq, h.items, h.mixN, h.plan, h.kept.count hj (by omega)⟩

theorem ite {c : Prop} {_ : Decidable c} {u : State} (ht : SampleIn n items mix s t) (hu : SampleIn n items mix s u) :
    SampleIn n items mix s (if c then t else u) := by
  split <;> assumption

variable (hn : n < 4)
include hn

theorem withLink {f : Link → Link} {items' : List Word} {mix' : Nat} (h : SampleIn n items mix s t)
    (hidx : (f (link t n)).idx = (link t n).idx) (hcrc : (f (link t n)).crcLeft = (link t n).crcLeft)
    (hseq : (f (link t n)).seq = (link t n).seq) (hitems : (f (link t n)).items = items')
    (hmix : (f (link t n)).mixN = mix') : SampleIn n items' mix' s (withLink n f t) := by
  have hl := link_withLink hn f t
  exact ⟨by rw [hl, hidx, h.idx], by rw [hl, hcrc, h.crcLeft], by rw [hl, hseq, h.seq], by rw [hl, hitems], by rw [hl, hmix],
    h.plan, .withLink h.kept⟩

theorem sampleTaken (s : State) : SampleIn n (link s n).items (link s n).mixN s (sampleTaken n s) := by
  have hl : link (Machine.sampleTaken n s) n = _ := link_withLink hn _ s
  exact ⟨by rw [hl], by rw [hl], by rw [hl], by rw [hl], by rw [hl], rfl, .withLink <| .refl s⟩

theorem pushItem {w : Word} {time : Int} (h : SampleIn n items mix s t) :
    SampleIn n (items ++ [w]) mix s (pushItem n w time t) := by
  unfold Machine.pushItem
  extract_lets
  exact withLink hn h rfl rfl rfl (congrArg (· ++ [w]) h.items) h.mixN

theorem tagCheck {w : Word} (h : SampleIn n items mix s t) : SampleIn n items mix s (tagCheck n w t) := by
  unfold Machine.tagCheck
  extract_lets +onlyGivenNames _ _
  split
  · refine .ite (withLink hn h rfl rfl rfl h.items h.mixN) ?_
    extract_lets +onlyGivenNames _ _ _ _ s₁
    have h₁ : SampleIn n items mix s s₁ := withLink hn h rfl rfl rfl h.items h.mixN
    exact .ite (.raiseRated <| withLink hn (.count (by decide) (by decide) h₁) rfl rfl rfl h₁.items h₁.mixN) h₁
  · extract_lets +onlyGivenNames s₂
    have h₂ : SampleIn n items mix s s₂ := withLink hn h rfl rfl rfl h.items h.mixN
    exact .ite (.raiseRated <| withLink hn (.count (by decide) (by decide) h₂) rfl rfl rfl h₂.items h₂.mixN) h₂

end SampleIn

/-- The item of a complex sample. -/
def complexItem (s : State) (n : Nat) (w : Word) : Word :=
  iqWord (sampleVal (lkN s n) (lkNp s n) (fld w 0 16)) (sampleVal (lkN s n) (lkNp s n) (fld w 16 16))

/-- The input sample without the bits that undecodable characters spell (04 R186). -/
def goodBits (s : State) (n : Nat) (w : Word) : Word := w &&& ~~~((link s n).bad.headD 0)

theorem goodBits_of_bad_nil (h : (link s n).bad = []) (w : Word) : goodBits s n w = w := by
  rw [goodBits, h]
  exact BitVec.and_allOnes

section
variable (hn : n < 4) (w : Word) (took : Bool)
include hn

/-- A tagged word is checked and becomes an item. -/
theorem linkInput_tagged (ht : lkTransport s n = 2) : ∃ x, linkInput n took w s = closeFull n took x ∧
    SampleIn n ((link s n).items ++ [goodBits s n w]) (link s n).mixN s x := by
  obtain ⟨time, heq⟩ : ∃ time, linkInput n took w s =
      closeFull n took (pushItem n (goodBits s n w) time (tagCheck n (goodBits s n w) (sampleTaken n s))) := by
    unfold linkInput
    simp only [if_pos ht]
    exact ⟨_, rfl⟩
  exact ⟨_, heq, .pushItem hn <| .tagCheck hn <| .sampleTaken hn s⟩

/-- A complex sample becomes an item; where a failed CRC covers it, the parcel is flagged (04 R196). -/
theorem linkInput_complex (ht : lkTransport s n = 0) : ∃ x, linkInput n took w s = closeFull n took x ∧
    SampleIn n ((link s n).items ++ [complexItem s n (goodBits s n w)]) (link s n).mixN s x ∧
    (link x n).flags = if 0 < (link s n).crcLeft then Nat.lor (link s n).flags 4 else (link s n).flags := by
  obtain ⟨time, heq⟩ : ∃ time, linkInput n took w s =
      closeFull n took (pushItem n (complexItem s n (goodBits s n w)) time (sampleTaken n s)) := by
    unfold linkInput
    simp only [if_neg (show lkTransport s n ≠ 2 by omega), if_pos ht]
    exact ⟨_, rfl⟩
  refine ⟨_, heq, .pushItem hn <| .sampleTaken hn s, ?_⟩
  exact (congrArg Link.flags (link_withLink hn _ _)).trans (congrArg Link.flags (link_withLink hn _ s))

/-- A real sample moves the mixer on, and every second one becomes an item (04 R187). -/
theorem linkInput_real (h2 : lkTransport s n ≠ 2) (h0 : lkTransport s n ≠ 0) : ∃ x more,
    linkInput n took w s = closeFull n took x ∧
    SampleIn n ((link s n).items ++ more) ((link s n).mixN + 1) s x ∧
    more.length = if (link s n).mixN % 2 = 0 then 1 else 0 := by
  obtain ⟨hi, hq, y, time, heq⟩ : ∃ (hi hq : List Int) (y : Word) (time : Int), linkInput n took w s = closeFull n took
      (if (link s n).mixN % 2 = 0 then
        pushItem n y time (withLink n (fun l => { l with mixN := l.mixN + 1, histI := hi, histQ := hq }) (sampleTaken n s))
      else withLink n (fun l => { l with mixN := l.mixN + 1, histI := hi, histQ := hq }) (sampleTaken n s)) := by
    unfold linkInput
    simp only [if_neg h2, if_neg h0]
    exact ⟨_, _, _, _, rfl⟩
  have htaken := SampleIn.sampleTaken hn s
  have hmixed : SampleIn n (link s n).items ((link s n).mixN + 1) s
      (withLink n (fun l => { l with mixN := l.mixN + 1, histI := hi, histQ := hq }) (sampleTaken n s)) :=
    .withLink hn htaken rfl rfl rfl htaken.items (congrArg (· + 1) htaken.mixN)
  by_cases heven : (link s n).mixN % 2 = 0
  · rw [if_pos heven] at heq
    exact ⟨_, [y], heq, .pushItem hn hmixed, (if_pos heven).symm⟩
  · rw [if_neg heven] at heq
    exact ⟨_, [], heq, by rwa [List.append_nil], (if_neg heven).symm⟩

/-- Whatever the transport, a sample is taken and a full parcel goes out. -/
theorem linkInput_takes : ∃ x items mix, linkInput n took w s = closeFull n took x ∧ SampleIn n items mix s x := by
  by_cases h2 : lkTransport s n = 2
  · obtain ⟨x, h, hx⟩ := linkInput_tagged hn w took h2
    exact ⟨x, _, _, h, hx⟩
  · by_cases h0 : lkTransport s n = 0
    · obtain ⟨x, h, hx, -⟩ := linkInput_complex hn w took h0
      exact ⟨x, _, _, h, hx⟩
    · obtain ⟨x, _, h, hx, -⟩ := linkInput_real hn w took h2 h0
      exact ⟨x, _, _, h, hx⟩

end

/-! Errors in DATA. -/

/-- With one more invalid header noted, those of a lane within 64 blocks (04 R201). -/
theorem badBlocks_length (lane block : Nat) (l : List (Nat × Nat)) :
    (((lane, block) :: l.filter fun p => decide (p.1 ≠ lane ∨ block < p.2 + 64)).filter fun p => p.1 == lane).length =
      (l.filter fun p => p.1 == lane && decide (block < p.2 + 64)).length + 1 := by
  rw [List.filter_cons_of_pos (by simp), List.length_cons, List.filter_filter]
  congr 2
  refine List.filter_congr fun p _ => ?_
  by_cases h : p.1 = lane <;> simp [h]

/-- An invalid header or character is noted, in DATA counted and flagged, x being the state then; the 16th header of a lane
within 64 blocks ends in ERROR (04 R174, R186, R201). -/
theorem exec_syncHeaderInvalid {block : Nat} {octet : List Word} (hn : n < 4) (hst : 2 ≤ lstate s n) (hst' : lstate s n ≤ 4)
    (hlane : lane < lkLanes s n) : ∃ x, exec (.syncHeaderInvalid n lane block octet) s =
      (if lkEnc66 s n = true ∧ 15 ≤ ((link s n).badBlocks.filter fun p => p.1 == lane && decide (block < p.2 + 64)).length then
        .next (linkError n 2 (setB .ingLaneStatus (lkLane x n lane) 0 2 false x))
      else .next x) ∧ LinksKept 0x80 s x ∧ (lstate s n = 4 →
        (rd x .ingCount n 3).toNat = satU 32 ((rd s .ingCount n 3).toNat + 1) ∧
        (link x n).flags = Nat.lor (link s n).flags 8) := by
  set x₁ := withLink n (fun l => { l with
    badBlocks := (lane, block) :: l.badBlocks.filter fun p => decide (p.1 ≠ lane ∨ block < p.2 + 64) }) (laneErr n lane s) with hx₁
  have hk₁ : LinksKept 0x100 s x₁ := .withLink <| .laneStatus <| .refl s
  have hl₁ : link x₁ n = { link s n with
      badBlocks := (lane, block) :: (link s n).badBlocks.filter fun p => decide (p.1 ≠ lane ∨ block < p.2 + 64) } :=
    link_withLink hn _ _
  set x₂ := withLink n (fun l => { l with
    flags := Nat.lor l.flags 8, bad := if lkEnc66 x₁ n then l.bad else orWords l.bad octet }) (bump .ingCount n 3 1 x₁) with hx₂
  have hk₂ : LinksKept 0x80 s x₂ := .withLink <| .count (hk₁.mono (by decide)) (by decide) (by decide)
  have hl₂ : link x₂ n = { link x₁ n with
      flags := Nat.lor (link x₁ n).flags 8, bad := if lkEnc66 x₁ n then (link x₁ n).bad else orWords (link x₁ n).bad octet } :=
    link_withLink hn _ _
  set x := if lstate x₁ n = 4 then raiseRated 0x0207 (ingUnit n) [.u16 lane] 1 x₂ else x₁ with hx
  have hkx : LinksKept 0x80 s x := .ite (.raiseRated hk₂) (hk₁.mono (by decide))
  have hbad : (link x n).badBlocks =
      (lane, block) :: (link s n).badBlocks.filter fun p => decide (p.1 ≠ lane ∨ block < p.2 + 64) := by
    rw [hx]
    split
    · rw [link_raiseRated, hl₂, hl₁]
    · rw [hl₁]
  refine ⟨x, ?_, hkx, fun hdata => ?_⟩
  · refine (if_pos ⟨hst, hst', hlane⟩).trans (if_congr (and_congr ?_ ?_) rfl rfl)
    · rw [lkEnc66, hkx.cfg hn, lkEnc66]
    · rw [hbad, badBlocks_length]
      omega
  · rw [hx, if_pos (((hk₁.mono (by decide)).lstate hn).trans hdata)]
    have hr := raiseRated_reported 0x0207 (ingUnit n) [.u16 lane] 1 x₂
    refine ⟨?_, by rw [link_raiseRated, hl₂, hl₁]⟩
    rw [hr.rd_eq _ _ _ (ingCount_quiet hn (by decide))]
    refine (rd_bump_toNat x₁ .ingCount n 3 1).trans ?_
    rw [hk₁.rd_eq (ingCount_inSet hn (by decide) (by decide))]

end Sys2Proof.Machine
end

section
/-! SUPPORT. The statement about a link in DATA: its errors, its counters, its parcels and its delay (04 R174, R182, R185 to
R202). -/

namespace Sys2Proof.Machine

variable {s : State} {n : Nat}

/-- A link that loses a lane, x being s but for the lane's status: ERROR with the cause, and the end of DATA reported. -/
theorem linkLost_spec {x : State} {cause : Nat} (hn : n < 4) (hst : 1 ≤ lstate s n) (hst' : lstate s n ≤ 4) (hc : cause < 16)
    (hkept : LinksKept 0x80 s x) (hev : x.events = s.events) : lstate (linkError n cause x) n = 5 ∧
      getF (linkError n cause x) .ingLinkStatus n 0 3 4 = cause ∧
      (lstate s n = 4 → Raised s (linkError n cause x) 0x0202 (ingUnit n)) := by
  have hx := hkept.lstate hn
  obtain ⟨herr, hcause, hraised⟩ := linkError_spec hn (s := x) (by omega) (by omega) hc
  exact ⟨herr, hcause, fun hdata => (hraised (hx.trans hdata)).of_events hev.symm rfl⟩

/-- The counters are cleared one after the other; the rest stays. -/
theorem ingClear_spec {k : Nat} (hk : k < 8) (s : State) : rd (ingClear n s) .ingCount n k = 0 ∧ (ingClear n s).ing = s.ing := by
  refine ⟨?_, foldl_keeps State.ing (fun _ _ => by rfl) _ s⟩
  suffices h : ∀ (l : List Nat) (s : State), k ∈ l ∨ rd s .ingCount n k = 0 →
      rd (l.foldl (fun s k => wr .ingCount n k 0 s) s) .ingCount n k = 0 from h _ s (.inl (List.mem_range.mpr hk))
  intro l
  induction l with
  | nil => exact fun s h => h.resolve_left (List.not_mem_nil)
  | cons j r ih =>
    refine fun s h => ih _ ?_
    by_cases hj : k = j
    · exact .inr (by rw [hj, rd_wr])
    · rw [rd_wr_ne _ _ (by rw [ingCount_off, ingCount_off]; omega)]
      exact h.imp_left fun h => (List.mem_cons.mp h).resolve_left hj

theorem exec_parcelFormed {ws : List Word} {took : Bool} (hst : lstate s n = 4) (hrun : ustate s (ingUnit n) = .running) :
    exec (.parcelFormed n ws took) s = .next (ws.foldl (fun s w => linkInput n took w s) s) := if_pos ⟨hst, hrun⟩

/-- A write of a delay in range: staged, and in force at once between parcels (04 R185). -/
theorem adcDelayEff_inRange {v : BitVec 32} (hn : n < 4) (hlo : -1000000 ≤ sgn 32 v.toNat) (hhi : sgn 32 v.toNat ≤ 1000000) :
    (lstate s n = 4 ∧ (link s n).items ≠ [] → (link (adcDelayEff n v s).1 n).adcStaged = some (sgn 32 v.toNat) ∧
      (link (adcDelayEff n v s).1 n).adcDelay = (link s n).adcDelay) ∧
    (lstate s n ≠ 4 ∨ (link s n).items = [] → (link (adcDelayEff n v s).1 n).adcDelay = sgn 32 v.toNat ∧
      (link (adcDelayEff n v s).1 n).adcStaged = none ∧
      epochOf (adcDelayEff n v s).1 (ingUnit n) = epochOf s (ingUnit n) + 1) ∧
    rd (adcDelayEff n v s).1 .ingAdcDelay n 0 = v := by
  set x := withLink n (fun l => { l with adcStaged := some (sgn 32 v.toNat) }) (wr .ingAdcDelay n 0 v s) with hx
  have heff : (adcDelayEff n v s).1 = if lstate x n = 4 ∧ (link x n).items.length ≠ 0 then x else applyDelay n x := by
    rw [adcDelayEff, if_neg (by omega)]
  have hl : link x n = { link s n with adcStaged := some (sgn 32 v.toNat) } := link_withLink hn _ _
  have hst : lstate x n = lstate s n := getF_of_rd (rd_wr_ne s v (by rw [ingLinkStatus_off, ingAdcDelay_off]; omega)) 0 3
  have hitems : (link x n).items.length ≠ 0 ↔ (link s n).items ≠ [] := by
    rw [hl, ne_eq, List.length_eq_zero_iff]
  have hrd : rd x .ingAdcDelay n 0 = v := rd_wr s .ingAdcDelay n 0 v
  rw [heff, hst]
  by_cases hwait : lstate s n = 4 ∧ (link s n).items ≠ []
  · rw [if_pos (hwait.imp_right hitems.mpr), hl]
    exact ⟨fun _ => ⟨rfl, rfl⟩, fun h => absurd hwait (by tauto), hrd⟩
  · rw [if_neg (fun h => hwait (h.imp_right hitems.mp)), rd_applyDelay, applyDelay_some (d := sgn 32 v.toNat) (by rw [hl]),
      link_bumpEpoch, link_withLink hn, epochOf_bumpEpoch]
    exact ⟨fun h => absurd h hwait, fun _ => ⟨rfl, rfl, rfl⟩, hrd⟩

/-- Settles O25: errors end in `linkError` or are counted; a sample is `linkInput`, whose full parcel `formParcel` puts out;
a delay takes effect with `applyDelay`. -/
theorem linkDataCommandsComplete : Obligations.LinkDataCommandsComplete := by
  refine ⟨?lost, ?invalid, ?sixteen, ?crc, ?clear, ?next, ?full, ?tagged, ?complex, ?real, ?delay⟩
  case lost =>
    intro s n lane hn hst hst' hlane
    refine ⟨?_, fun henc => ?_, ?_⟩
    · exact ⟨_, if_pos ⟨hst, hlane⟩, linkLost_spec hn hst hst' (by decide) (.laneStatus <| .refl s) rfl⟩
    · exact ⟨_, if_pos ⟨hst, hlane, by simp [henc]⟩, linkLost_spec hn hst hst' (by decide) (.laneStatus <| .refl s) rfl⟩
    · exact ⟨_, rfl, linkLost_spec hn hst hst' (by decide) (.refl s) rfl⟩
  case invalid =>
    intro s n lane block octet hn hst hlane hfew
    obtain ⟨x, hexec, hkept, hcounted⟩ :=
      exec_syncHeaderInvalid (block := block) (octet := octet) hn (by omega) (by omega) hlane
    rw [if_neg (fun ⟨henc, hmany⟩ => hfew.elim (by simp [henc]) (by omega))] at hexec
    exact ⟨x, hexec, (hkept.lstate hn).trans hst, hcounted hst⟩
  case sixteen =>
    intro s n lane block octet hn hst hst' hlane henc hmany
    obtain ⟨x, hexec, hkept, -⟩ := exec_syncHeaderInvalid (block := block) (octet := octet) hn hst hst' hlane
    rw [if_pos ⟨henc, hmany⟩] at hexec
    obtain ⟨herr, hcause, -⟩ := linkLost_spec (s := x) hn (by rw [hkept.lstate hn]; omega) (by rwa [hkept.lstate hn])
      (show 2 < 16 by decide) (.laneStatus <| .refl x) rfl
    exact ⟨_, hexec, herr, hcause⟩
  case crc =>
    intro s n hn hst
    have hr := raiseRated_reported 0x0206 (ingUnit n) [] 1
      (withLink n (fun l => { l with crcLeft := max l.crcLeft (crcSpan s n) }) (bump .ingCount n 2 1 s))
    refine ⟨_, if_pos hst, ?_, ?_⟩
    · rw [link_raiseRated, link_withLink hn, link_bump]
    · rw [hr.rd_eq _ _ _ (ingCount_quiet hn (by decide))]
      exact rd_bump_toNat s .ingCount n 2 1
  case clear =>
    intro s ag n k hn hk hopen
    have hr : Reported eventOffs (ingClear n s) _ := guardW_open (v := 2) (eff := linkCmdEff n 2) hopen
    obtain ⟨hzero, hing⟩ := ingClear_spec (n := n) hk s
    exact ⟨_, rfl, by rw [hr.rd_eq _ _ _ (ingCount_quiet hn hk), hzero],
      hr.ing.trans hing⟩
  case next =>
    intro s n w ws took hn hst hrun
    obtain ⟨x, items, mix, heq, hx⟩ := linkInput_takes hn w took (s := s)
    have hkept : LinksKept 0x80 x (linkInput n took w s) := heq ▸ closeFull_kept n took x
    obtain ⟨hidx, hcrc⟩ := link_closeFull hn took x
    rw [← heq] at hidx hcrc
    have hst' : lstate (linkInput n took w s) n = 4 :=
      (hkept.lstate hn).trans (((hx.kept.mono (by decide)).lstate hn).trans hst)
    have hrun' : ustate (linkInput n took w s) (ingUnit n) = .running := (hkept.states _).trans ((hx.kept.states _).trans hrun)
    exact ⟨_, exec_parcelFormed hst hrun, hidx.trans hx.idx, hcrc.trans hx.crcLeft,
      (exec_parcelFormed hst hrun).trans (exec_parcelFormed hst' hrun').symm⟩
  case full =>
    intro s n w took hn hst hrun ht hlen hbad
    obtain ⟨x, heq, hx⟩ := linkInput_tagged hn w took ht
    have hitems : (link x n).items = (link s n).items ++ [w] := by rw [hx.items, goodBits_of_bad_nil hbad]
    have hfull : (link x n).items.length = 1024 := by simp [hitems, hlen]
    rw [closeFull, if_pos hfull.ge] at heq
    obtain ⟨-, -, hempty, hseq⟩ := link_formParcel hn 0 took x
    refine ⟨_, exec_parcelFormed hst hrun, ?_⟩
    rw [List.foldl_cons, List.foldl_nil, heq]
    refine ⟨hempty, by rw [hseq, hx.seq], ?_, ?_⟩
    · rintro rfl
      obtain ⟨it, hoffered, hsrc, hitseq, pad, hpayload⟩ := formParcel_taken n 0 x
      refine ⟨it, by rw [hoffered, hx.plan], hsrc, hitseq.trans hx.seq, ?_⟩
      rw [hpayload, padTo, hfull, List.take_of_length_le hfull.le, hitems]
      exact List.append_nil _
    · rintro rfl
      obtain ⟨hplan, hcount⟩ := formParcel_dropped hn 0 x
      exact ⟨by rw [hplan, hx.plan], by rw [hcount, hx.kept.rd_eq (ingCount_inSet hn (by decide) (by decide))]⟩
  case tagged =>
    intro s n w took hn hst hrun ht hlen hbad
    obtain ⟨x, heq, hx⟩ := linkInput_tagged hn w took ht
    have hitems : (link x n).items = (link s n).items ++ [w] := by rw [hx.items, goodBits_of_bad_nil hbad]
    rw [closeFull_of_lt took (by rw [hitems, List.length_append, List.length_singleton]; omega)] at heq
    exact ⟨x, (exec_parcelFormed hst hrun).trans (congrArg _ heq), hitems, by rw [hx.plan]⟩
  case complex =>
    intro s n w took hn hst hrun ht hlen hbad
    obtain ⟨x, heq, hx, hflags⟩ := linkInput_complex hn w took ht
    have hitems := hx.items
    rw [goodBits_of_bad_nil hbad] at hitems
    rw [closeFull_of_lt took (by rw [hitems, List.length_append, List.length_singleton]; omega)] at heq
    exact ⟨x, (exec_parcelFormed hst hrun).trans (congrArg _ heq), by rw [hx.plan], hitems,
      fun hcrc => hflags.trans (if_pos hcrc)⟩
  case real =>
    intro s n w took hn hst hrun ht hlen
    obtain ⟨x, more, heq, hx, hmore⟩ := linkInput_real hn w took (s := s) (by omega) (by omega)
    have hitems : (link x n).items.length = (link s n).items.length + (if (link s n).mixN % 2 = 0 then 1 else 0) := by
      rw [hx.items, List.length_append, hmore]
    rw [closeFull_of_lt took (by rw [hitems]; split <;> omega)] at heq
    exact ⟨x, (exec_parcelFormed hst hrun).trans (congrArg _ heq), hx.mixN, hitems⟩
  case delay =>
    intro s ag n v hn hopen hlo hhi
    have hr : Reported eventOffs (adcDelayEff n v s).1 _ := guardW_open v hopen
    obtain ⟨hwait, hnow, hrd⟩ := adcDelayEff_inRange (s := s) hn hlo hhi
    refine ⟨_, rfl, ?_, ?_, ?_⟩
    · rw [hr.rd_eq _ _ _ (inLinkSet_quiet (ingAdcDelay_inSet hn)), hrd]
    · rw [link_of_ing hr.ing]
      exact hwait
    · rw [link_of_ing hr.ing, hr.epochOf_eq]
      exact hnow

end Sys2Proof.Machine
end

section
/-! SUPPORT. Trigger engines: what an engine's signals to the weir tree leave alone, and how a level moves (07 R271 to R274). -/

namespace Sys2Proof.Machine

variable {s s₀ u : State} {t : Nat}

/-! Engines and their register words. -/

theorem trigOf_of_trig (h : u.trig = s.trig) (m : Nat) : trigOf u m = trigOf s m := by rw [trigOf, h, trigOf]

theorem trigOf_withTrig (ht : t < 4) (f : TrigEng → TrigEng) (s : State) : trigOf (withTrig t f s) t = f (trigOf s t) :=
  vget_vset_self _ _ _ _ ht

@[simp] theorem trigOf_bump (r : Reg) (i j n : Nat) (s : State) (m : Nat) : trigOf (bump r i j n s) m = trigOf s m := rfl
@[simp] theorem trigOf_setB (r : Reg) (i j k : Nat) (b : Bool) (s : State) (m : Nat) :
    trigOf (setB r i j k b s) m = trigOf s m := rfl

section
variable (t k : Nat)
theorem trigStatus_off : Reg.off .trigStatus t 0 = 0xC00114 + t * 0x1000 := rfl
theorem trigCount_off : Reg.off .trigCount t k = 0xC00120 + t * 0x1000 + k * 4 := rfl
theorem trigMaskAddr_off : Reg.off .trigMaskAddr t 0 = 0xC00118 + t * 0x1000 := rfl
end

/-- Reports write no word of the trigger engines' register sets. -/
theorem trigSet_quiet {o : Nat} (hlo : 0xC00000 ≤ o) (hhi : o < 0xC04000) : o ∉ eventOffs := by
  intro h
  have hout : ∀ x ∈ eventOffs, x < 0xC00000 ∨ 0xC04000 ≤ x := by decide
  rcases hout o h with h | h <;> omega

theorem trigStatus_quiet (ht : t < 4) : Reg.off .trigStatus t 0 ∉ eventOffs := by
  rw [trigStatus_off]
  exact trigSet_quiet (by omega) (by omega)

theorem trigCount_quiet {k : Nat} (ht : t < 4) (hk : k < 8) : Reg.off .trigCount t k ∉ eventOffs := by
  rw [trigCount_off]
  exact trigSet_quiet (by omega) (by omega)

theorem trigMaskAddr_quiet (ht : t < 4) : Reg.off .trigMaskAddr t 0 ∉ eventOffs := by
  rw [trigMaskAddr_off]
  exact trigSet_quiet (by omega) (by omega)

/-- Counters are apart from TRIG_STATUS. -/
theorem trigStatus_ne_trigCount (t k : Nat) : Reg.off .trigStatus t 0 ≠ Reg.off .trigCount t k := by
  rw [trigStatus_off, trigCount_off]
  omega

theorem getB_bump_trigCount (k n b : Nat) (s : State) :
    getB (bump .trigCount t k n s) .trigStatus t 0 b = getB s .trigStatus t 0 b :=
  getB_of_rd (rd_bump_ne s n (trigStatus_ne_trigCount t k)) b

theorem maskActive_eq_b2n (s : State) (t : Nat) : maskActive s t = b2n (getB s .trigStatus t 0 2) := by
  have h2 := fld_lt (rd s .trigStatus t 0) 2 1
  have hb : getB s .trigStatus t 0 2 = decide (maskActive s t = 1) := bit_eq_fld _ _
  have hlt : maskActive s t < 2 := h2
  rw [hb]
  interval_cases maskActive s t <;> rfl

/-! Work of an engine. -/

/-- The registers of engine t that its detectors, masks and density trigger write besides the counts of invalid samples and of
spectra: TRIG_STATUS, merged and late occurrences, violations. -/
def workOffs (t : Nat) : List Nat :=
  [Reg.off .trigStatus t 0, Reg.off .trigCount t 0, Reg.off .trigCount t 3, Reg.off .trigCount t 6]

theorem trigCount_not_mem_workOffs {k : Nat} (h0 : k ≠ 0) (h3 : k ≠ 3) (h6 : k ≠ 6) : Reg.off .trigCount t k ∉ workOffs t := by
  simp only [workOffs, List.mem_cons, List.not_mem_nil, or_false, trigStatus_off, trigCount_off]
  omega

/-- From s to u engine t has worked: of the rest of the machine only the tree and the time unit may have changed, of the
registers only those of workOffs, of TRIG_STATUS only the bits of B. -/
structure EngineWork (t : Nat) (B : Nat → Prop) (s u : State) : Prop where
  rest : u = { s with regs := u.regs, tree := u.tree, time := u.time, trig := u.trig }
  bits : ∀ b, ¬ B b → getB u .trigStatus t 0 b = getB s .trigStatus t 0 b
  regs : ∀ o, o ∉ workOffs t → spGet u.regs o 0 = spGet s.regs o 0

namespace EngineWork

variable {B C : Nat → Prop}

theorem refl (t : Nat) (B : Nat → Prop) (s : State) : EngineWork t B s s := ⟨rfl, fun _ _ => rfl, fun _ _ => rfl⟩

theorem trans (h : EngineWork t B s₀ s) (k : EngineWork t B s u) : EngineWork t B s₀ u :=
  ⟨k.rest.trans (by rw [h.rest]), fun b hb => (k.bits b hb).trans (h.bits b hb), fun o ho => (k.regs o ho).trans (h.regs o ho)⟩

theorem mono (h : EngineWork t B s u) (hB : ∀ b, B b → C b) : EngineWork t C s u :=
  ⟨h.rest, fun b hb => h.bits b fun hh => hb (hB b hh), h.regs⟩

theorem units (h : EngineWork t B s u) : u.units = s.units := by rw [h.rest]
theorem events (h : EngineWork t B s u) : u.events = s.events := by rw [h.rest]
theorem maskBank (h : EngineWork t B s u) : u.maskBank = s.maskBank := by rw [h.rest]

theorem maskActive (h : EngineWork t B s u) (h2 : ¬ B 2) : maskActive u t = maskActive s t := by
  rw [maskActive_eq_b2n, maskActive_eq_b2n, h.bits 2 h2]

theorem ite {p : Prop} {_ : Decidable p} (hs : EngineWork t B s₀ s) (hu : EngineWork t B s₀ u) :
    EngineWork t B s₀ (if p then s else u) := by
  split <;> assumption

theorem iteSnd {α : Type} {p : Prop} {_ : Decidable p} {a b : α × State} (ha : EngineWork t B s₀ a.2)
    (hb : EngineWork t B s₀ b.2) : EngineWork t B s₀ (if p then a else b).2 := by
  split <;> assumption

theorem foldl {β : Type} {f : State → β → State} {l : List β} (hs : EngineWork t B s₀ s)
    (hf : ∀ s, ∀ b ∈ l, EngineWork t B s₀ s → EngineWork t B s₀ (f s b)) : EngineWork t B s₀ (l.foldl f s) := by
  induction l generalizing s with
  | nil => exact hs
  | cons b r ih =>
    exact ih (hf s b List.mem_cons_self hs) fun s c hc => hf s c (List.mem_cons_of_mem _ hc)

variable (hs : EngineWork t B s₀ s)
include hs

theorem tree {x : TreeState} : EngineWork t B s₀ { s with tree := x } := hs.trans ⟨rfl, fun _ _ => rfl, fun _ _ => rfl⟩
theorem time {x : TimeState} : EngineWork t B s₀ { s with time := x } := hs.trans ⟨rfl, fun _ _ => rfl, fun _ _ => rfl⟩
theorem withTrig {n : Nat} {f : TrigEng → TrigEng} : EngineWork t B s₀ (withTrig n f s) :=
  hs.trans ⟨rfl, fun _ _ => rfl, fun _ _ => rfl⟩

theorem bump {k n : Nat} (hk : Reg.off .trigCount t k ∈ workOffs t) : EngineWork t B s₀ (bump .trigCount t k n s) :=
  hs.trans ⟨rfl, fun _ _ => getB_bump_trigCount k n _ s, fun _ ho => spGet_wr_ne _ _ _ _ _ fun he => ho (he ▸ hk)⟩

theorem setB {k : Nat} {x : Bool} (hk : k < 32) (hB : B k) : EngineWork t B s₀ (setB .trigStatus t 0 k x s) :=
  hs.trans ⟨rfl, fun _ hb => getB_setB_ne _ _ _ _ _ _ _ hk fun he => hb (he ▸ hB),
    fun _ ho => spGet_wr_ne _ _ _ _ _ fun he => ho (he ▸ List.mem_cons_self)⟩

theorem weirPush {a : Arrival} : EngineWork t B s₀ (weirPush a s) := by
  unfold Machine.weirPush
  split
  exacts [hs.tree, hs.tree]

theorem srcChange {src cycle : Nat} {old new : Bool} {occ : Option Occ} {info : Occ} :
    EngineWork t B s₀ (srcChange src cycle old new occ info s) :=
  .ite hs (.foldl (.iteSnd hs.time hs) fun _ _ _ h => .ite (.ite h h.weirPush) (.ite h h.weirPush))

theorem srcOccur {o : Occ} {old new : Bool} : EngineWork t B s₀ (srcOccur t o old new s) :=
  .ite (.srcChange <| .bump (.tree hs) (by simp [workOffs]))
    (.srcChange <| .ite (.bump (.tree hs) (by simp [workOffs])) (.tree hs))

theorem trigLevel {j : Nat} {new : Bool} {info : Occ} (hj : j < 16) (hB : B (16 + j)) :
    EngineWork t B s₀ (trigLevel t j new info s) := .ite hs (.srcChange <| .setB hs (by omega) hB)

theorem trigFall {j : Nat} (hj : j < 16) (hB : B (16 + j)) : EngineWork t B s₀ (trigFall t j s) := hs.trigLevel hj hB

theorem trigOccur {j : Nat} {new : Bool} {o : Occ} (hj : j < 16) (hB : B (16 + j)) :
    EngineWork t B s₀ (trigOccur t j new o s) := .srcOccur <| .setB hs (by omega) hB

end EngineWork

/-! Signals leave the engines' own state alone. -/

theorem weirPush_trig (a : Arrival) (s : State) : (weirPush a s).trig = s.trig := by
  unfold weirPush
  split <;> rfl

theorem srcChange_trig (src cycle : Nat) (old new : Bool) (occ : Option Occ) (info : Occ) (s : State) :
    (srcChange src cycle old new occ info s).trig = s.trig := by
  unfold srcChange
  split
  · rfl
  · dsimp only
    rw [foldl_keeps State.trig]
    · split <;> rfl
    · intro s p
      rw [apply_ite State.trig, apply_ite State.trig, apply_ite State.trig, weirPush_trig, weirPush_trig, ite_self, ite_self,
        ite_self]

theorem srcOccur_trig (t : Nat) (o : Occ) (old new : Bool) (s : State) : (srcOccur t o old new s).trig = s.trig := by
  unfold srcOccur
  dsimp only
  split
  · exact srcChange_trig _ _ _ _ _ _ _
  · rw [srcChange_trig]
    split <;> rfl

@[simp] theorem trigOf_trigLevel (t j : Nat) (new : Bool) (info : Occ) (s : State) (m : Nat) :
    trigOf (trigLevel t j new info s) m = trigOf s m := by
  refine trigOf_of_trig ?_ m
  unfold trigLevel
  dsimp only
  split
  · rfl
  · exact srcChange_trig _ _ _ _ _ _ _

@[simp] theorem trigOf_trigFall (t j : Nat) (s : State) (m : Nat) : trigOf (trigFall t j s) m = trigOf s m :=
  trigOf_trigLevel _ _ _ _ _ _

@[simp] theorem trigOf_trigOccur (t j : Nat) (new : Bool) (o : Occ) (s : State) (m : Nat) :
    trigOf (trigOccur t j new o s) m = trigOf s m := trigOf_of_trig (srcOccur_trig _ _ _ _ _) m

/-! Levels. -/

/-- A level takes its new value. -/
theorem getB_trigLevel {j : Nat} (hj : j < 16) (new : Bool) (info : Occ) (s : State) :
    getB (trigLevel t j new info s) .trigStatus t 0 (16 + j) = new := by
  unfold trigLevel
  dsimp only
  split
  · assumption
  · exact ((EngineWork.refl t (fun _ => False) _).srcChange.bits _ id).trans (getB_setB _ _ _ _ _ _ (by omega))

/-- An occurrence leaves its source's new level. -/
theorem getB_trigOccur {j : Nat} (hj : j < 16) (new : Bool) (o : Occ) (s : State) :
    getB (trigOccur t j new o s) .trigStatus t 0 (16 + j) = new :=
  ((EngineWork.refl t (fun _ => False) _).srcOccur.bits _ id).trans (getB_setB _ _ _ _ _ _ (by omega))

end Sys2Proof.Machine
end

section
/-! SUPPORT. The time-domain detectors: the level that a valid sample leaves, and what taking a sample leaves of the rest
(05 R208; 07 R275 to R279). -/

namespace Sys2Proof.Machine

variable {s : State} {t d : Nat} {x : TdSample} {rest : List TdSample} {c : TdCfg}

/-- The level of a detector in state st after a valid sample: threshold and hysteresis, right after its start the threshold
alone, low without a comparand. -/
def tdLevel (c : TdCfg) (st : TdState) (old : Bool) (x : TdSample) : Bool :=
  match (tdValue c st.win x).1 with
  | none => false
  | some v =>
    if !st.started then decide ((tdLimits c).2.1 ≤ v)
    else if (tdLimits c).2.1 ≤ v then true
    else if v < (tdLimits c).2.1 - (tdLimits c).2.2 then false
    else old

theorem tdLevel_of_started {st : TdState} {v : Int} (old : Bool) (hst : st.started = true)
    (hv : (tdValue c st.win x).1 = some v) :
    tdLevel c st old x = if (tdLimits c).2.1 ≤ v then true
      else if v < (tdLimits c).2.1 - (tdLimits c).2.2 then false else old := by
  simp [tdLevel, hv, hst]

theorem tdLevel_reset (old : Bool) :
    tdLevel c TdState.reset old x = (tdValue c [] x).1.any fun v => decide ((tdLimits c).2.1 ≤ v) := by
  have hr : TdState.reset.win = [] ∧ TdState.reset.started = false := ⟨rfl, rfl⟩
  rw [tdLevel, hr.1, hr.2]
  cases (tdValue c [] x).1 <;> rfl

/-- A valid sample moves its detector's level, and takes nothing from the samples that wait. -/
theorem tdTest_spec (ht : t < 4) (hd : d < 4) (c : TdCfg) (x : TdSample) (s : State) :
    (trigOf (tdTest t d c x s) t).values = (trigOf s t).values ∧
      getB (tdTest t d c x s) .trigStatus t 0 (16 + d) =
        tdLevel c (vget (trigOf s t).td d TdState.reset) (getB s .trigStatus t 0 (16 + d)) x := by
  have hd' : d < 16 := by omega
  -- each branch moves the level after a change of the detector's state, and perhaps a stamp
  have moved (f : TrigEng → TrigEng) (hf : ∀ e, (f e).values = e.values) (new : Bool) (o : Occ) :
      (trigOf (trigLevel t d new o (withTrig t f s)) t).values = (trigOf s t).values ∧
        getB (trigLevel t d new o (withTrig t f s)) .trigStatus t 0 (16 + d) = new :=
    ⟨by rw [trigOf_trigLevel, trigOf_withTrig ht, hf], getB_trigLevel hd' _ _ _⟩
  have occurred (f : TrigEng → TrigEng) (hf : ∀ e, (f e).values = e.values) (new : Bool) (o : Occ) (k n : Nat) (q : BitVec 8) :
      (trigOf (trigOccur t d new o (stampFrom k n q (withTrig t f s)).2) t).values = (trigOf s t).values ∧
        getB (trigOccur t d new o (stampFrom k n q (withTrig t f s)).2) .trigStatus t 0 (16 + d) = new :=
    ⟨by rw [trigOf_trigOccur, ← hf (trigOf s t), ← trigOf_withTrig ht f s]; rfl, getB_trigOccur hd' _ _ _⟩
  unfold tdTest tdLevel
  dsimp only
  generalize tdValue c (vget (trigOf s t).td d TdState.reset).win x = r
  obtain ⟨ov, win, fl⟩ := r
  cases ov with
  | none =>
    exact moved _ (by intro; rfl) _ _
  | some v =>
    dsimp only
    cases hst : (vget (trigOf s t).td d TdState.reset).started with
    | false => exact moved _ (by intro; rfl) _ _
    | true =>
      simp only [Bool.not_true, Bool.false_eq_true, if_false]
      split
      · exact moved _ (by intro; rfl) _ _
      · exact occurred _ (by intro; rfl) _ _ _ _ _

/-- Detector d has taken the sample before those of rest. -/
def tdTaken (t d : Nat) (rest : List TdSample) (s : State) : State :=
  withTrig t (fun e => { e with values := vset e.values d rest }) s

theorem tdTaken_spec (ht : t < 4) (hd : d < 4) (rest : List TdSample) (s : State) :
    vget (trigOf (tdTaken t d rest s) t).values d [] = rest ∧ (trigOf (tdTaken t d rest s) t).td = (trigOf s t).td := by
  rw [tdTaken, trigOf_withTrig ht]
  exact ⟨vget_vset_self _ _ _ _ hd, rfl⟩

theorem tdClear_spec (ht : t < 4) (hd : d < 4) (s : State) :
    (trigOf (tdClear t d s) t).values = (trigOf s t).values ∧
      vget (trigOf (tdClear t d s) t).td d TdState.reset = TdState.reset := by
  rw [tdClear, trigOf_withTrig ht]
  exact ⟨rfl, vget_vset_self _ _ _ _ hd⟩

/-- The sample is taken, and one that the tuner restarted before resets the detector. -/
def tdBefore (t d : Nat) (x : TdSample) (rest : List TdSample) (s : State) : State :=
  if x.restart then tdClear t d (tdTaken t d rest s) else tdTaken t d rest s

theorem tdBefore_spec (ht : t < 4) (hd : d < 4) (x : TdSample) (rest : List TdSample) (s : State) :
    vget (trigOf (tdBefore t d x rest s) t).values d [] = rest ∧
      vget (trigOf (tdBefore t d x rest s) t).td d TdState.reset =
        (if x.restart then TdState.reset else vget (trigOf s t).td d TdState.reset) ∧
      (tdBefore t d x rest s).regs = s.regs := by
  obtain ⟨hrest, htd⟩ := tdTaken_spec ht hd rest s
  obtain ⟨hvalues, hreset⟩ := tdClear_spec ht hd (tdTaken t d rest s)
  unfold tdBefore
  split
  · exact ⟨by rw [hvalues, hrest], hreset, rfl⟩
  · exact ⟨hrest, by rw [htd], rfl⟩

/-- After a gap the detector is just started as well. -/
def tdReady (t d : Nat) (x : TdSample) (rest : List TdSample) (s : State) : State :=
  let b := tdBefore t d x rest s
  if (vget (trigOf b t).td d TdState.reset).gap then tdClear t d b else b

theorem tdReady_spec (ht : t < 4) (hd : d < 4) (x : TdSample) (rest : List TdSample) (s : State) :
    vget (trigOf (tdReady t d x rest s) t).values d [] = rest ∧
      vget (trigOf (tdReady t d x rest s) t).td d TdState.reset =
        (if x.restart || (vget (trigOf s t).td d TdState.reset).gap then TdState.reset
          else vget (trigOf s t).td d TdState.reset) ∧
      (tdReady t d x rest s).regs = s.regs := by
  obtain ⟨hrest, htd, hregs⟩ := tdBefore_spec ht hd x rest s
  unfold tdReady
  set b := tdBefore t d x rest s
  obtain ⟨hvalues, hreset⟩ := tdClear_spec ht hd b
  have hgap : (vget (trigOf b t).td d TdState.reset).gap = (!x.restart && (vget (trigOf s t).td d TdState.reset).gap) := by
    rw [htd]
    cases x.restart <;> rfl
  dsimp only
  split
  · next h =>
    rw [hgap, Bool.and_eq_true] at h
    exact ⟨by rw [hvalues, hrest], by rw [hreset, h.2, Bool.or_true, if_pos rfl], hregs⟩
  · next h =>
    refine ⟨hrest, htd.trans ?_, hregs⟩
    rw [hgap] at h
    cases hr : x.restart <;> simp_all

/-- An invalid sample is a gap, and counted. -/
def tdInvalid (t d : Nat) (s : State) : State :=
  bump .trigCount t 1 1 (withTrig t (fun e => { e with
    td := vset e.td d { vget (trigOf s t).td d TdState.reset with gap := true } }) s)

theorem tdInvalid_spec (ht : t < 4) (hd : d < 4) (s : State) :
    (trigOf (tdInvalid t d s) t).values = (trigOf s t).values ∧
      (vget (trigOf (tdInvalid t d s) t).td d TdState.reset).gap = true ∧
      (∀ b, getB (tdInvalid t d s) .trigStatus t 0 b = getB s .trigStatus t 0 b) ∧
      (rd (tdInvalid t d s) .trigCount t 1).toNat = satU 32 ((rd s .trigCount t 1).toNat + 1) := by
  refine ⟨?_, ?_, fun b => getB_bump_trigCount _ _ b _, rd_bump_toNat _ _ _ _ _⟩
  · rw [tdInvalid, trigOf_bump, trigOf_withTrig ht]
  · rw [tdInvalid, trigOf_bump, trigOf_withTrig ht, vget_vset_self _ _ _ _ hd]

section
variable (hv : vget (trigOf s t).values d [] = x :: rest)
include hv

theorem exec_tdSample_idle (hrun : ustate s (trigUnit t) ≠ .running) :
    exec (.tdSample t d) s = .next (tdTaken t d rest s) := by
  simp only [exec, execTdSample, hv]
  exact if_pos hrun

variable (hrun : ustate s (trigUnit t) = .running) (hc : (trigOf s t).run.td[d]? = some c) (hen : bit c.cfg 15 = true)
include hrun hc hen

/-- An enabled detector of a running engine at its next sample. -/
theorem exec_tdSample (ht : t < 4) : exec (.tdSample t d) s =
    .next (if !x.valid then tdInvalid t d (tdBefore t d x rest s) else tdTest t d c x (tdReady t d x rest s)) := by
  have hrun' : ustate (tdTaken t d rest s) (trigUnit t) = .running := hrun
  have hc' : (trigOf (tdTaken t d rest s) t).run.td[d]? = some c := by rw [tdTaken, trigOf_withTrig ht]; exact hc
  simp only [exec, execTdSample, hv]
  rw [← tdTaken, if_neg (not_not.mpr hrun')]
  simp only [hc', hen, Bool.not_true, Bool.false_eq_true, if_false]
  rw [← tdBefore]
  split <;> rfl

/-- A valid sample is tested by the detector as it is, or by one just started after a restart or a gap. -/
theorem exec_tdSample_valid (ht : t < 4) (hd : d < 4) (hvalid : x.valid = true) :
    ∃ u, exec (.tdSample t d) s = .next u ∧ vget (trigOf u t).values d [] = rest ∧
      getB u .trigStatus t 0 (16 + d) =
        tdLevel c (if x.restart || (vget (trigOf s t).td d TdState.reset).gap then TdState.reset
          else vget (trigOf s t).td d TdState.reset) (getB s .trigStatus t 0 (16 + d)) x := by
  obtain ⟨hrest, htd, hregs⟩ := tdReady_spec ht hd x rest s
  obtain ⟨hkept, hlevel⟩ := tdTest_spec ht hd c x (tdReady t d x rest s)
  refine ⟨_, (exec_tdSample hv hrun hc hen ht).trans (congrArg _ (if_neg (by simp [hvalid]))), by rw [hkept, hrest], ?_⟩
  rw [hlevel, htd, getB_of_rd (rd_of_off (congrArg (spGet · _ 0) hregs))]

/-- An invalid sample leaves the level, and the next valid one comes after a gap. -/
theorem exec_tdSample_invalid (ht : t < 4) (hd : d < 4) (hvalid : x.valid = false) :
    ∃ u, exec (.tdSample t d) s = .next u ∧ vget (trigOf u t).values d [] = rest ∧
      (vget (trigOf u t).td d TdState.reset).gap = true ∧
      getB u .trigStatus t 0 (16 + d) = getB s .trigStatus t 0 (16 + d) ∧
      (rd u .trigCount t 1).toNat = satU 32 ((rd s .trigCount t 1).toNat + 1) := by
  obtain ⟨hrest, -, hregs⟩ := tdBefore_spec ht hd x rest s
  obtain ⟨hkept, hgap, hbit, hcount⟩ := tdInvalid_spec ht hd (tdBefore t d x rest s)
  have hrd (r : Reg) (i j : Nat) : rd (tdBefore t d x rest s) r i j = rd s r i j :=
    rd_of_off (congrArg (spGet · _ 0) hregs)
  exact ⟨_, (exec_tdSample hv hrun hc hen ht).trans (congrArg _ (if_pos (by simp [hvalid]))), by rw [hkept, hrest], hgap,
    by rw [hbit, getB_of_rd (hrd _ _ _)], by rw [hcount, hrd]⟩

end

end Sys2Proof.Machine
end

section
/-! SUPPORT. Frequency masks and the density trigger: what a spectrum and its rows leave of the histories and levels, and how
the parts of a captured set that wait for them take effect (06 R240; 07 R281 to R285, R292). -/

namespace Sys2Proof.Machine

variable {s s₀ u : State} {t k : Nat}

/-! What the masks of an engine may change. -/

/-- From s to u masks in K of engine t have worked: of the engine's state only their histories, of TRIG_STATUS only their
levels may have changed. -/
structure MasksMoved (t : Nat) (K : Nat → Prop) (s u : State) : Prop where
  work : EngineWork t (fun b => ∃ k, K k ∧ b = 16 + (4 + k)) s u
  engine : trigOf u t = { trigOf s t with hist := (trigOf u t).hist }
  hist : ∀ k, ¬ K k → vget (trigOf u t).hist k [] = vget (trigOf s t).hist k []

namespace MasksMoved

variable {K L : Nat → Prop}

theorem refl (t : Nat) (K : Nat → Prop) (s : State) : MasksMoved t K s s := ⟨.refl _ _ _, rfl, fun _ _ => rfl⟩

theorem trans (h : MasksMoved t K s₀ s) (j : MasksMoved t K s u) : MasksMoved t K s₀ u :=
  ⟨h.work.trans j.work, j.engine.trans (by rw [h.engine]), fun k hk => (j.hist k hk).trans (h.hist k hk)⟩

theorem mono (h : MasksMoved t K s u) (hK : ∀ k, K k → L k) : MasksMoved t L s u :=
  ⟨h.work.mono fun _ ⟨k, hk, hb⟩ => ⟨k, hK k hk, hb⟩, h.engine, fun k hk => h.hist k fun hh => hk (hK k hh)⟩

theorem maskActive (h : MasksMoved t K s u) : maskActive u t = maskActive s t :=
  h.work.maskActive fun ⟨k, _, hk⟩ => by omega

/-- The level of a mask outside K. -/
theorem level (h : MasksMoved t K s u) (hk : ¬ K k) :
    getB u .trigStatus t 0 (16 + (4 + k)) = getB s .trigStatus t 0 (16 + (4 + k)) := by
  refine h.work.bits _ fun ⟨j, hj, he⟩ => hk ?_
  obtain rfl : j = k := by omega
  exact hj

section
variable {α : Type} (g : α → State) {f : α → Nat → α} {l : List Nat}
  (hf : ∀ a, ∀ k ∈ l, MasksMoved t (· = k) (g a) (g (f a k)))
include hf

/-- Masks worked on one after the other. -/
theorem foldl (hK : ∀ k ∈ l, K k) (a : α) : MasksMoved t K (g a) (g (l.foldl f a)) := by
  induction l generalizing a with
  | nil => exact .refl _ _ _
  | cons k r ih =>
    refine ((hf a k List.mem_cons_self).mono fun _ hj => hj ▸ hK k List.mem_cons_self).trans ?_
    exact ih (fun a j hj => hf a j (List.mem_cons_of_mem _ hj)) (fun j hj => hK j (List.mem_cons_of_mem _ hj)) _

/-- Each mask comes once: what is done before and after leaves it alone. -/
theorem foldl_once (hl : l.Nodup) (hk : k ∈ l) (a : α) :
    ∃ b, MasksMoved t (· ≠ k) (g a) (g b) ∧ MasksMoved t (· ≠ k) (g (f b k)) (g (l.foldl f a)) := by
  obtain ⟨l₁, l₂, rfl⟩ := List.append_of_mem hk
  obtain ⟨-, hl₂, hdisj⟩ := List.nodup_append.mp hl
  rw [List.foldl_append, List.foldl_cons]
  refine ⟨l₁.foldl f a, foldl g (fun a j hj => hf a j (by simp [hj])) (fun j hj => ?_) a,
    foldl g (fun a j hj => hf a j (by simp [hj])) (fun j hj => ?_) _⟩
  · exact hdisj j hj k List.mem_cons_self
  · exact fun he => (List.nodup_cons.mp hl₂).1 (he ▸ hj)

end

end MasksMoved

/-! Cleared histories. -/

theorem trigOf_maskClear (ht : t < 4) (k : Nat) (s : State) :
    trigOf (maskClear t k s) t = { trigOf s t with hist := vset (trigOf s t).hist k [] } := by
  rw [maskClear, trigOf_trigFall, trigOf_withTrig ht]

theorem maskClear_moved (ht : t < 4) (hk : k < 4) (s : State) : MasksMoved t (· = k) s (maskClear t k s) where
  work := (EngineWork.refl t _ s).withTrig.trigFall (by omega) ⟨k, rfl, rfl⟩
  engine := by rw [trigOf_maskClear ht]
  hist j hj := by rw [trigOf_maskClear ht]; exact vget_vset_ne _ _ _ hj

/-- The histories of all masks cleared. -/
def masksCleared (t : Nat) (s : State) : State := (List.range 4).foldl (fun s k => maskClear t k s) s

theorem masksCleared_moved (ht : t < 4) (s : State) : MasksMoved t (· < 4) s (masksCleared t s) :=
  .foldl id (fun a _ hk => maskClear_moved ht (List.mem_range.mp hk) a) (fun _ => List.mem_range.mp) s

theorem masksCleared_hist (ht : t < 4) (hk : k < 4) (s : State) : vget (trigOf (masksCleared t s) t).hist k [] = [] := by
  obtain ⟨b, -, hb⟩ := MasksMoved.foldl_once id (f := fun s k => maskClear t k s)
    (fun a _ hk => maskClear_moved ht (List.mem_range.mp hk) a) List.nodup_range (List.mem_range.mpr hk) s
  refine (hb.hist k (by simp)).trans ?_
  rw [id, trigOf_maskClear ht]
  exact vget_vset_self _ _ _ _ hk

/-! A mask at a spectrum. -/

theorem maskSegs_congr (h : u.maskBank = s.maskBank) (t b k n j : Nat) : maskSegs u t b k n j = maskSegs s t b k n j := by
  have hw (a : Nat) : maskWord u t b a = maskWord s t b a := by rw [maskWord, h, maskWord]
  induction n generalizing j with
  | zero => rfl
  | succ n ih => simp only [maskSegs, hw, ih]

/-- Violations depend on the active bank alone. -/
theorem maskViolations_congr (h : u.maskBank = s.maskBank) (ha : maskActive u t = maskActive s t) (k : Nat) (cfg : Word)
    (o : SpecOut) : maskViolations u t k cfg o = maskViolations s t k cfg o := by
  unfold maskViolations
  rw [ha, maskSegs_congr h]

/-- The history of a mask after a spectrum: its result first, and no more than it keeps. -/
def maskHist (s : State) (t k : Nat) (cfg mb : Word) (o : SpecOut) : List (Bool × Nat) :=
  ((decide (max 1 (fld mb 0 21) ≤ maskViolations s t k cfg o) != bit cfg 4, o.flags) ::
    vget (trigOf s t).hist k []).take (fld cfg 6 6 + 1)

theorem maskTest_off {o : SpecOut} (h : ∀ c ∈ (trigOf s t).run.fm[k]?, bit c.1 5 = false) : (maskTest t k o s).1 = s := by
  unfold maskTest
  cases hc : (trigOf s t).run.fm[k]? with
  | none => rfl
  | some c =>
    obtain ⟨cfg, mb⟩ := c
    have hoff : bit cfg 5 = false := h _ hc
    simp only [hoff, Bool.not_false, if_true]

section
variable {cfg mb : Word} (hc : (trigOf s t).run.fm[k]? = some (cfg, mb)) (hen : bit cfg 5 = true)
include hc hen

/-- An enabled mask puts its result into its history, and its level follows. -/
theorem maskTest_on (ht : t < 4) (hk : k < 4) (o : SpecOut) :
    EngineWork t (· = 16 + (4 + k)) s (maskTest t k o s).1 ∧
      trigOf (maskTest t k o s).1 t =
        { trigOf s t with hist := vset (trigOf s t).hist k (maskHist s t k cfg mb o) } ∧
      getB (maskTest t k o s).1 .trigStatus t 0 (16 + (4 + k)) =
        decide (fld cfg 12 6 + 1 ≤ ((maskHist s t k cfg mb o).filter (·.1)).length) := by
  have hj : 4 + k < 16 := by omega
  simp only [maskTest, hc, hen, Bool.not_true, Bool.false_eq_true, if_false]
  rw [← maskHist]
  set h := maskHist s t k cfg mb o
  have hs : EngineWork t (· = 16 + (4 + k)) s (withTrig t (fun e => { e with hist := vset e.hist k h }) s) :=
    (EngineWork.refl _ _ s).withTrig
  split
  · next hlevel =>
    rw [Bool.and_eq_true] at hlevel
    exact ⟨hs.trigOccur hj rfl, by rw [trigOf_trigOccur, trigOf_withTrig ht], (getB_trigOccur hj _ _ _).trans hlevel.1.symm⟩
  · exact ⟨hs.trigLevel hj rfl, by rw [trigOf_trigLevel, trigOf_withTrig ht], getB_trigLevel hj _ _ _⟩

end

theorem maskTest_moved (ht : t < 4) (hk : k < 4) (o : SpecOut) (s : State) :
    MasksMoved t (· = k) s (maskTest t k o s).1 := by
  by_cases h : ∀ c ∈ (trigOf s t).run.fm[k]?, bit c.1 5 = false
  · rw [maskTest_off h]
    exact .refl _ _ _
  · obtain ⟨⟨cfg, mb⟩, hc, hen⟩ : ∃ c ∈ (trigOf s t).run.fm[k]?, bit c.1 5 ≠ false := by simpa using h
    obtain ⟨hwork, heng, -⟩ := maskTest_on hc (by simpa using hen) ht hk o
    exact ⟨hwork.mono fun b hb => ⟨k, rfl, hb⟩, by rw [heng],
      fun j hj => by rw [heng]; exact vget_vset_ne _ _ _ hj⟩

/-- One mask after others, and whether one was violated. -/
def maskNext (t : Nat) (o : SpecOut) (p : State × Bool) (k : Nat) : State × Bool :=
  ((maskTest t k o p.1).1, p.2 || (maskTest t k o p.1).2)

/-- All masks at one spectrum, and whether one was violated. -/
def masksTested (t : Nat) (o : SpecOut) (s : State) : State × Bool := (List.range 4).foldl (maskNext t o) (s, false)

theorem masksTested_moved (ht : t < 4) (o : SpecOut) (s : State) : MasksMoved t (· < 4) s (masksTested t o s).1 :=
  .foldl Prod.fst (f := maskNext t o) (fun a _ hk => maskTest_moved ht (List.mem_range.mp hk) o a.1)
    (fun _ => List.mem_range.mp) (s, false)

/-- An enabled mask among the others. -/
theorem masksTested_on {cfg mb : Word} (ht : t < 4) (hk : k < 4) (hc : (trigOf s t).run.fm[k]? = some (cfg, mb))
    (hen : bit cfg 5 = true) (o : SpecOut) :
    vget (trigOf (masksTested t o s).1 t).hist k [] = maskHist s t k cfg mb o ∧
      getB (masksTested t o s).1 .trigStatus t 0 (16 + (4 + k)) =
        decide (fld cfg 12 6 + 1 ≤ ((maskHist s t k cfg mb o).filter (·.1)).length) := by
  obtain ⟨⟨b, hit⟩, hbefore, hafter⟩ := MasksMoved.foldl_once Prod.fst
    (f := maskNext t o)
    (fun a _ hk => maskTest_moved ht (List.mem_range.mp hk) o a.1) List.nodup_range (List.mem_range.mpr hk) (s, false)
  have hcb : (trigOf b t).run.fm[k]? = some (cfg, mb) := by rw [hbefore.engine]; exact hc
  have hh : maskHist b t k cfg mb o = maskHist s t k cfg mb o := by
    rw [maskHist, maskViolations_congr hbefore.work.maskBank hbefore.maskActive, hbefore.hist k (by simp), maskHist]
  obtain ⟨-, heng, hlevel⟩ := maskTest_on hcb hen ht hk o
  rw [hh] at heng hlevel
  refine ⟨(hafter.hist k (by simp)).trans ?_, (hafter.level (by simp)).trans hlevel⟩
  change vget (trigOf (maskTest t k o b).1 t).hist k [] = _
  rw [heng]
  exact vget_vset_self _ _ _ _ hk

/-! The density trigger at a spectrum's rows. -/

theorem trigOf_densClear (ht : t < 4) (s : State) : trigOf (densClear t s) t = { trigOf s t with dens := [] } := by
  rw [densClear, trigOf_trigFall, trigOf_withTrig ht]

theorem densClear_work (s : State) : EngineWork t (· = 24) s (densClear t s) :=
  (EngineWork.refl t _ s).withTrig.trigFall (by omega) rfl

/-- The window of the density trigger after the rows of a spectrum: the count inside the box first, and no more than it
keeps. -/
def densWindow (e : TrigEng) (o : DensRows) : List (Nat × Nat) :=
  (((((o.rows.take (fld e.run.densX 16 14 + 1)).drop (fld e.run.densX 0 14)).filter fun r =>
    decide (fld e.run.densY 0 10 ≤ r ∧ r ≤ fld e.run.densY 16 10)).length, o.flags) :: e.dens).take (fld e.run.dens 16 10 + 1)

/-- The level of a full density window: the sum of its counts against the threshold. -/
def densLevel (c : TrigSet) (win : List (Nat × Nat)) : Bool :=
  decide (win.length = fld c.dens 16 10 + 1) &&
    (decide (fld c.dens 0 16 * (fld c.dens 16 10 + 1) * (fld c.densX 16 14 + 1 - fld c.densX 0 14) ≤
      (win.map (·.1)).sum * 65536) != bit c.dens 27)

theorem densTest_off {o : DensRows} (h : bit (trigOf s t).run.dens 26 = false) : densTest t o s = s := by
  simp only [densTest, h, Bool.not_false, if_true]

/-- An enabled density trigger takes the count into its window, and its level follows. -/
theorem densTest_on (ht : t < 4) (o : DensRows) (h : bit (trigOf s t).run.dens 26 = true) :
    trigOf (densTest t o s) t = { trigOf s t with dens := densWindow (trigOf s t) o } ∧
      getB (densTest t o s) .trigStatus t 0 24 = densLevel (trigOf s t).run (densWindow (trigOf s t) o) := by
  simp only [densTest, h, Bool.not_true, Bool.false_eq_true, if_false]
  rw [← densWindow]
  set w := densWindow (trigOf s t) o
  rw [← densLevel]
  split
  · next hlevel =>
    rw [Bool.and_eq_true] at hlevel
    exact ⟨by rw [trigOf_trigOccur, trigOf_withTrig ht], (getB_trigOccur (j := 8) (by omega) _ _ _).trans hlevel.1.symm⟩
  · exact ⟨by rw [trigOf_trigLevel, trigOf_withTrig ht], getB_trigLevel (j := 8) (by omega) _ _ _⟩

/-- The density trigger changes its window alone. -/
theorem densTest_engine (ht : t < 4) (o : DensRows) (s : State) :
    trigOf (densTest t o s) t = { trigOf s t with dens := (trigOf (densTest t o s) t).dens } := by
  cases h : bit (trigOf s t).run.dens 26 with
  | false => rw [densTest_off h]
  | true => rw [(densTest_on ht o h).1]

end Sys2Proof.Machine
end

section
/-! SUPPORT. The parts of a captured set that wait for a spectrum or for its rows, and the commands that bring those
(07 R284, R292). -/

namespace Sys2Proof.Machine

variable {s : State} {t k : Nat} {c : TrigSet} {at_ arrived : Nat}

/-! The density part. -/

theorem densApply_spec (ht : t < 4) (c : TrigSet) (s : State) :
    trigOf (densApply t c s) t = { trigOf s t with
        dens := (trigOf (densApply t c s) t).dens, pendDens := none,
        run := { (trigOf s t).run with densX := c.densX, densY := c.densY, dens := c.dens } } ∧
      EngineWork t (fun b => b = 0 ∨ b = 24) s (densApply t c s) := by
  have hwork := (densClear_work (t := t) s).mono (C := fun b => b = 0 ∨ b = 24) fun _ hb => .inr hb
  unfold densApply trigPendBit
  dsimp only
  rw [trigOf_setB, trigOf_withTrig ht]
  split
  · exact ⟨by rw [trigOf_densClear ht], hwork.withTrig.setB (by decide) (.inl rfl)⟩
  · exact ⟨rfl, (EngineWork.refl t _ s).withTrig.setB (by decide) (.inl rfl)⟩

theorem trigDensPart_waits (h : ∀ p ∈ (trigOf s t).pendDens, arrived ≤ p.2) : trigDensPart t arrived s = s := by
  unfold trigDensPart
  split
  · next hp => exact if_pos (h _ hp)
  · rfl

theorem trigDensPart_takes (hp : (trigOf s t).pendDens = some (c, at_)) (h : at_ < arrived) :
    trigDensPart t arrived s = densApply t c s := by
  rw [trigDensPart, hp]
  exact if_neg (Nat.not_le.mpr h)

/-- The density part leaves the mask part and the active bank alone. -/
theorem trigDensPart_masks (ht : t < 4) (arrived : Nat) (s : State) :
    (trigOf (trigDensPart t arrived s) t).pendFm = (trigOf s t).pendFm ∧
      (trigOf (trigDensPart t arrived s) t).run.fm = (trigOf s t).run.fm ∧
      maskActive (trigDensPart t arrived s) t = maskActive s t := by
  by_cases h : ∀ p ∈ (trigOf s t).pendDens, arrived ≤ p.2
  · rw [trigDensPart_waits h]
    exact ⟨rfl, rfl, rfl⟩
  · obtain ⟨⟨c, at_⟩, hp, hlt⟩ : ∃ p ∈ (trigOf s t).pendDens, p.2 < arrived := by simpa using h
    obtain ⟨heng, hwork⟩ := densApply_spec ht c s
    rw [trigDensPart_takes hp hlt]
    exact ⟨by rw [heng], by rw [heng], hwork.maskActive (by omega)⟩

/-! The mask part. -/

theorem trigSpecPart_waits (h : ∀ p ∈ (trigOf s t).pendFm, arrived ≤ p.2.2) : trigSpecPart t arrived s = s := by
  unfold trigSpecPart
  split
  · rfl
  · next hp => exact if_pos (h _ hp)

/-- The bank swap of a mask part. -/
def bankSwapped (t : Nat) (swap : Bool) (s : State) : State :=
  if swap then setB .trigStatus t 0 2 (!getB s .trigStatus t 0 2) s else s

theorem maskActive_bankSwapped (t : Nat) (swap : Bool) (s : State) :
    maskActive (bankSwapped t swap s) t = if swap then 1 - maskActive s t else maskActive s t := by
  cases swap with
  | false => rfl
  | true =>
    simp only [bankSwapped, if_true, maskActive_eq_b2n, getB_setB _ _ _ _ _ _ (by decide : 2 < 32)]
    cases getB s .trigStatus t 0 2 <;> rfl

/-- The histories of the masks that f names cleared. -/
def masksClearedIf (t : Nat) (f : Nat → Bool) (s : State) : State :=
  (List.range 4).foldl (fun s k => if f k then maskClear t k s else s) s

theorem masksClearedIf_moved (ht : t < 4) (f : Nat → Bool) (s : State) :
    MasksMoved t (· < 4) s (masksClearedIf t f s) := by
  refine .foldl id (fun a k hk => ?_) (fun _ => List.mem_range.mp) s
  dsimp only [id]
  split
  · exact maskClear_moved ht (List.mem_range.mp hk) a
  · exact .refl _ _ _

/-- The mask part put in force. -/
def masksApply (t : Nat) (c : TrigSet) (s : State) : State :=
  trigPendBit t (withTrig t (fun e => { e with pendFm := none, run := { e.run with fm := c.fm } }) s)

theorem masksApply_spec (ht : t < 4) (c : TrigSet) (s : State) :
    trigOf (masksApply t c s) t = { trigOf s t with pendFm := none, run := { (trigOf s t).run with fm := c.fm } } ∧
      maskActive (masksApply t c s) t = maskActive s t := by
  refine ⟨by rw [masksApply, trigPendBit, trigOf_setB, trigOf_withTrig ht], ?_⟩
  exact ((EngineWork.refl t (· = 0) s).withTrig.setB (by decide) rfl).maskActive (by decide)

/-- The mask part in force after a spectrum that came after its capture. -/
theorem trigSpecPart_takes {swap : Bool} (ht : t < 4) (hp : (trigOf s t).pendFm = some (c, swap, at_)) (h : at_ < arrived) :
    (trigOf (trigSpecPart t arrived s) t).pendFm = none ∧ (trigOf (trigSpecPart t arrived s) t).run.fm = c.fm ∧
      maskActive (trigSpecPart t arrived s) t = (if swap then 1 - maskActive s t else maskActive s t) := by
  obtain ⟨f, hf⟩ : ∃ f, let x := masksApply t c (masksClearedIf t f (bankSwapped t swap s))
      trigSpecPart t arrived s = x ∨ trigSpecPart t arrived s = trigDensPart t arrived x := by
    refine ⟨fun k => swap || (trigOf s t).run.fm[k]? != c.fm[k]?, ?_⟩
    simp only [trigSpecPart, hp, if_neg (Nat.not_le.mpr h)]
    exact ite_eq_or_eq _ _ _
  dsimp only at hf
  set b := masksClearedIf t f (bankSwapped t swap s)
  have hb : MasksMoved t (· < 4) (bankSwapped t swap s) b := masksClearedIf_moved ht _ _
  obtain ⟨heng, hactive⟩ := masksApply_spec ht c b
  rw [hb.maskActive, maskActive_bankSwapped] at hactive
  obtain ⟨hfm, hrun, hbank⟩ := trigDensPart_masks ht arrived (masksApply t c b)
  rcases hf with hf | hf
  · rw [hf]
    exact ⟨by rw [heng], by rw [heng], hactive⟩
  · rw [hf]
    exact ⟨by rw [hfm, heng], by rw [hrun, heng], hbank.trans hactive⟩

/-! A spectrum. -/

section
variable {o : SpecOut} {rest : List SpecOut}

/-- The masks have taken the spectrum before those of rest. -/
def specTaken (t : Nat) (rest : List SpecOut) (s : State) : State := withTrig t (fun e => { e with spectra := rest }) s

theorem trigOf_specTaken (ht : t < 4) (rest : List SpecOut) (s : State) :
    trigOf (specTaken t rest s) t = { trigOf s t with spectra := rest } := trigOf_withTrig ht _ s

/-- Spectrum o counted, after the histories have been cleared where it says so. -/
def specCounted (t : Nat) (o : SpecOut) (s : State) : State :=
  bump .trigCount t 2 1 (if specClears o.flags then masksCleared t s else s)

/-- The masks at spectrum o with their set in force; a violation is counted. -/
def masksAt (t : Nat) (o : SpecOut) (s : State) : State :=
  let r := masksTested t o (specCounted t o s)
  if r.2 then bump .trigCount t 3 1 r.1 else r.1

theorem exec_fmSpectrum_idle (hs : (trigOf s t).spectra = o :: rest) (hrun : ustate s (trigUnit t) ≠ .running) :
    exec (.fmSpectrum t) s = .next (specTaken t rest s) := by
  simp only [exec, execFmSpectrum, hs]
  exact if_pos hrun

theorem exec_fmSpectrum (hs : (trigOf s t).spectra = o :: rest) (hrun : ustate s (trigUnit t) = .running) :
    exec (.fmSpectrum t) s = .next (masksAt t o (trigSpecPart t o.arrived (specTaken t rest s))) := by
  have hrun' : ustate (specTaken t rest s) (trigUnit t) = .running := hrun
  simp only [exec, execFmSpectrum, hs]
  rw [← specTaken, if_neg (not_not.mpr hrun')]
  rfl

theorem specCounted_spec (ht : t < 4) (o : SpecOut) (s : State) :
    trigOf (specCounted t o s) t = { trigOf s t with hist := (trigOf (specCounted t o s) t).hist } ∧
      (specCounted t o s).maskBank = s.maskBank ∧ maskActive (specCounted t o s) t = maskActive s t ∧
      (rd (specCounted t o s) .trigCount t 2).toNat = satU 32 ((rd s .trigCount t 2).toNat + 1) := by
  have h : MasksMoved t (· < 4) s (if specClears o.flags then masksCleared t s else s) := by
    split
    exacts [masksCleared_moved ht s, .refl _ _ _]
  refine ⟨h.engine, h.work.maskBank, ?_, ?_⟩
  · rw [maskActive_eq_b2n, specCounted, getB_bump_trigCount, ← maskActive_eq_b2n, h.maskActive]
  · rw [specCounted, rd_bump_toNat, rd_of_off (h.work.regs _ (trigCount_not_mem_workOffs (by decide) (by decide) (by decide)))]

theorem specCounted_hist (ht : t < 4) (hk : k < 4) (o : SpecOut) (s : State) :
    vget (trigOf (specCounted t o s) t).hist k [] = if specClears o.flags then [] else vget (trigOf s t).hist k [] := by
  rw [specCounted, trigOf_bump]
  split
  exacts [masksCleared_hist ht hk s, rfl]

theorem bump_violations_moved (t : Nat) (K : Nat → Prop) (s : State) : MasksMoved t K s (bump .trigCount t 3 1 s) :=
  ⟨(EngineWork.refl t _ s).bump (by simp [workOffs]), rfl, fun _ _ => rfl⟩

/-- Counting a violation leaves the masks as the tests left them. -/
theorem masksAt_counted (t : Nat) (o : SpecOut) (s : State) (K : Nat → Prop) :
    MasksMoved t K (masksTested t o (specCounted t o s)).1 (masksAt t o s) := by
  unfold masksAt
  dsimp only
  split
  exacts [bump_violations_moved _ _ _, .refl _ _ _]

theorem masksAt_moved (ht : t < 4) (o : SpecOut) (s : State) : MasksMoved t (· < 4) (specCounted t o s) (masksAt t o s) :=
  (masksTested_moved ht o _).trans (masksAt_counted t o s _)

/-- A spectrum leaves the sets and the active bank alone, and is counted. -/
theorem masksAt_spec (ht : t < 4) (o : SpecOut) (s : State) :
    trigOf (masksAt t o s) t = { trigOf s t with hist := (trigOf (masksAt t o s) t).hist } ∧
      maskActive (masksAt t o s) t = maskActive s t ∧
      (rd (masksAt t o s) .trigCount t 2).toNat = satU 32 ((rd s .trigCount t 2).toNat + 1) := by
  obtain ⟨heng, -, hactive, hcount⟩ := specCounted_spec ht o s
  have h := masksAt_moved ht o s
  exact ⟨h.engine.trans (by rw [heng]), h.maskActive.trans hactive, by
    rw [rd_of_off (h.work.regs _ (trigCount_not_mem_workOffs (by decide) (by decide) (by decide))), hcount]⟩

/-- An enabled mask at a spectrum. -/
theorem masksAt_on {cfg mb : Word} (ht : t < 4) (hk : k < 4) (hc : (trigOf s t).run.fm[k]? = some (cfg, mb))
    (hen : bit cfg 5 = true) (o : SpecOut) :
    vget (trigOf (masksAt t o s) t).hist k [] =
        ((decide (max 1 (fld mb 0 21) ≤ maskViolations s t k cfg o) != bit cfg 4, o.flags) ::
          if specClears o.flags then [] else vget (trigOf s t).hist k []).take (fld cfg 6 6 + 1) ∧
      getB (masksAt t o s) .trigStatus t 0 (16 + (4 + k)) =
        decide (fld cfg 12 6 + 1 ≤ ((vget (trigOf (masksAt t o s) t).hist k []).filter (·.1)).length) := by
  obtain ⟨heng, hbank, hactive, -⟩ := specCounted_spec ht o s
  have hc' : (trigOf (specCounted t o s) t).run.fm[k]? = some (cfg, mb) := by rw [heng]; exact hc
  obtain ⟨hhist, hlevel⟩ := masksTested_on ht hk hc' hen o
  have h := masksAt_counted t o s (fun _ => False)
  rw [h.hist k id, h.level id, hlevel, hhist]
  refine ⟨?_, rfl⟩
  rw [maskHist, maskViolations_congr hbank hactive, specCounted_hist ht hk]

end

/-! Rows. -/

section
variable {o : DensRows} {rest : List DensRows}

/-- The density trigger has taken the rows before those of rest. -/
def rowsTaken (t : Nat) (rest : List DensRows) (s : State) : State := withTrig t (fun e => { e with rows := rest }) s

theorem trigOf_rowsTaken (ht : t < 4) (rest : List DensRows) (s : State) :
    trigOf (rowsTaken t rest s) t = { trigOf s t with rows := rest } := trigOf_withTrig ht _ s

/-- The density trigger at rows with its set in force: the window cleared where they say so. -/
def densAt (t : Nat) (o : DensRows) (s : State) : State := densTest t o (if specClears o.flags then densClear t s else s)

theorem exec_densityRows_idle (hs : (trigOf s t).rows = o :: rest) (hrun : ustate s (trigUnit t) ≠ .running) :
    exec (.densityRows t) s = .next (rowsTaken t rest s) := by
  simp only [exec, execDensityRows, hs]
  exact if_pos hrun

theorem exec_densityRows (hs : (trigOf s t).rows = o :: rest) (hrun : ustate s (trigUnit t) = .running) :
    exec (.densityRows t) s = .next (densAt t o (trigDensPart t o.arrived (rowsTaken t rest s))) := by
  have hrun' : ustate (rowsTaken t rest s) (trigUnit t) = .running := hrun
  simp only [exec, execDensityRows, hs]
  rw [← rowsTaken, if_neg (not_not.mpr hrun')]
  rfl

theorem trigOf_densCleared (ht : t < 4) (o : DensRows) (s : State) :
    trigOf (if specClears o.flags then densClear t s else s) t =
      { trigOf s t with dens := if specClears o.flags then [] else (trigOf s t).dens } := by
  split
  exacts [trigOf_densClear ht s, rfl]

/-- Rows move the density window alone. -/
theorem densAt_engine (ht : t < 4) (o : DensRows) (s : State) :
    trigOf (densAt t o s) t = { trigOf s t with dens := (trigOf (densAt t o s) t).dens } := by
  refine (densTest_engine ht o _).trans ?_
  rw [trigOf_densCleared ht]
  rfl

/-- An enabled density trigger at rows. -/
theorem densAt_on (ht : t < 4) (o : DensRows) (h : bit (trigOf s t).run.dens 26 = true) :
    (trigOf (densAt t o s) t).dens =
        densWindow { trigOf s t with dens := if specClears o.flags then [] else (trigOf s t).dens } o ∧
      getB (densAt t o s) .trigStatus t 0 24 = densLevel (trigOf s t).run (trigOf (densAt t o s) t).dens := by
  have he := trigOf_densCleared ht o s
  obtain ⟨heng, hlevel⟩ := densTest_on (s := if specClears o.flags then densClear t s else s) ht o (by rw [he]; exact h)
  rw [he] at heng hlevel
  have hd : (trigOf (densAt t o s) t).dens = _ := congrArg TrigEng.dens heng
  exact ⟨hd, by rw [hd]; exact hlevel⟩

end

end Sys2Proof.Machine
end

section
/-! SUPPORT. Commits of a trigger engine and its mask words, and the statement about its detectors (05 R208; 06 R240; 07 R276,
R281 to R285, R290 to R293). -/

namespace Sys2Proof.Machine

variable {s : State} {t : Nat}

/-! Captures. -/

/-- A captured set waits. -/
def trigCaptured (t : Nat) (swap : Bool) (s : State) : State :=
  trigPendBit t (withTrig t (fun e => { e with
    pendTd := some (trigStaged s t), pendFm := some (trigStaged s t, swap, nowTicks s),
    pendDens := some (trigStaged s t, nowTicks s) }) s)

theorem getB_trigPendBit (t : Nat) (s : State) : getB (trigPendBit t s) .trigStatus t 0 0 =
    ((trigOf s t).pendTd.isSome || (trigOf s t).pendFm.isSome || (trigOf s t).pendDens.isSome) :=
  getB_setB _ _ _ _ _ _ (by decide)

theorem trigCaptured_spec (ht : t < 4) (swap : Bool) (s : State) :
    (trigOf (trigCaptured t swap s) t).pendTd = some (trigStaged s t) ∧
      (trigOf (trigCaptured t swap s) t).pendFm = some (trigStaged s t, swap, nowTicks s) ∧
      (trigOf (trigCaptured t swap s) t).pendDens = some (trigStaged s t, nowTicks s) ∧
      getB (trigCaptured t swap s) .trigStatus t 0 0 = true := by
  rw [trigCaptured, getB_trigPendBit, trigPendBit, trigOf_setB, trigOf_withTrig ht]
  exact ⟨rfl, rfl, rfl, rfl⟩

theorem trigCapture_taken {swap : Bool} (hcheck : trigCheck s t (trigStaged s t) = none)
    (hmask : swap = true → trigMaskCheck s t (trigStaged s t) = none) : trigCapture t swap s = trigCaptured t swap s := by
  have h : (if swap then trigMaskCheck s t (trigStaged s t) else none) = none := by
    split
    exacts [hmask ‹_›, rfl]
  simp only [trigCapture, hcheck, h]
  rfl

theorem trigCapture_check (swap : Bool) {off : Nat} (h : trigCheck s t (trigStaged s t) = some off) :
    trigCapture t swap s = trigRefuse t [.u16 0, .u32 off] s := by
  simp only [trigCapture, h]

theorem trigCapture_masks {k j : Nat} (hcheck : trigCheck s t (trigStaged s t) = none)
    (h : trigMaskCheck s t (trigStaged s t) = some (k, j)) :
    trigCapture t true s = trigRefuse t [.u16 1, .u16 k, .u16 j] s := by
  simp only [trigCapture, hcheck, h, if_true]

/-- A refused set changes nothing of the engines, shows, and is reported. -/
theorem trigRefuse_spec (ht : t < 4) (data : List EvField) (s : State) :
    RaisedData s (trigRefuse t data s) 0x0504 (trigUnit t) data ∧ getB (trigRefuse t data s) .trigStatus t 0 1 = true ∧
      (trigRefuse t data s).trig = s.trig := by
  have hr := raise_reported 0x0504 (trigUnit t) data (bump .trigCount t 4 1 (setB .trigStatus t 0 1 true s))
  have hon : Onward False False s (bump .trigCount t 4 1 (setB .trigStatus t 0 1 true s)) := .bump <| .setB <| .refl s
  refine ⟨(raise_raisedData _ _ _ _).since hon, ?_, hr.trig⟩
  rw [trigRefuse, getB_of_rd (hr.rd_eq _ _ _ (trigStatus_quiet ht)), getB_bump_trigCount]
  exact getB_setB _ _ _ _ _ _ (by decide)

/-! Writes of TRIG_COMMIT. -/

/-- No captured set waits any more. -/
def trigCancelled (t : Nat) (s : State) : State :=
  trigPendBit t (withTrig t (fun e => { e with pendTd := none, pendFm := none, pendDens := none }) s)

theorem trigCancelled_spec (ht : t < 4) (s : State) :
    (trigOf (trigCancelled t s) t).pendTd = none ∧ (trigOf (trigCancelled t s) t).pendFm = none ∧
      (trigOf (trigCancelled t s) t).pendDens = none ∧ getB (trigCancelled t s) .trigStatus t 0 0 = false := by
  rw [trigCancelled, getB_trigPendBit, trigPendBit, trigOf_setB, trigOf_withTrig ht]
  exact ⟨rfl, rfl, rfl, rfl⟩

theorem trigCommitEff_next (t : Nat) (s : State) : (trigCommitEff t 1 s).1 = trigCapture t false s := rfl
theorem trigCommitEff_swap (t : Nat) (s : State) : (trigCommitEff t 5 s).1 = trigCapture t true s := rfl
theorem trigCommitEff_cancel (t : Nat) (s : State) : (trigCommitEff t 3 s).1 = trigCancelled t s := rfl
theorem trigCommitEff_clear (t : Nat) (s : State) : (trigCommitEff t 8 s).1 = densClear t (masksCleared t s) := rfl

/-- An open write of TRIG_COMMIT has its effect and its audit entry: engines, TRIG_STATUS and events are those of the effect. -/
structure Committed (t : Nat) (x u : State) : Prop where
  trig : u.trig = x.trig
  status : ∀ b, getB u .trigStatus t 0 b = getB x .trigStatus t 0 b
  onward : Onward False False x u

theorem trigCommitW_committed {ag : AgentId} {v : BitVec 32} {x : State} (ht : t < 4)
    (hopen : WriteOpen s ag (Reg.off .trigCommit t 0)) (heff : (trigCommitEff t v s).1 = x) :
    Committed t x (trigCommitW ag t v s) := by
  have hr : Reported eventOffs (trigCommitEff t v s).1 (trigCommitW ag t v s) := guardW_open v hopen
  rw [heff] at hr
  exact ⟨hr.trig, fun b => getB_of_rd (hr.rd_eq _ _ _ (trigStatus_quiet ht)) b, hr.onward⟩

theorem Committed.trigOf {x u : State} (h : Committed t x u) : trigOf u t = trigOf x t := trigOf_of_trig h.trig t

/-- A write that captures the set. -/
theorem trigCommitW_captured {ag : AgentId} {v : BitVec 32} {swap : Bool} (ht : t < 4)
    (hopen : WriteOpen s ag (Reg.off .trigCommit t 0)) (heff : (trigCommitEff t v s).1 = trigCapture t swap s)
    (hcheck : trigCheck s t (trigStaged s t) = none)
    (hmask : swap = true → trigMaskCheck s t (trigStaged s t) = none) :
    (trigOf (trigCommitW ag t v s) t).pendTd = some (trigStaged s t) ∧
      (trigOf (trigCommitW ag t v s) t).pendFm = some (trigStaged s t, swap, nowTicks s) ∧
      (trigOf (trigCommitW ag t v s) t).pendDens = some (trigStaged s t, nowTicks s) ∧
      getB (trigCommitW ag t v s) .trigStatus t 0 0 = true := by
  have h := trigCommitW_committed ht hopen (heff.trans (trigCapture_taken hcheck hmask))
  rw [h.trigOf, h.status]
  exact trigCaptured_spec ht swap s

/-- A write whose set is refused. -/
theorem trigCommitW_refused {ag : AgentId} {v : BitVec 32} {data : List EvField} (ht : t < 4)
    (hopen : WriteOpen s ag (Reg.off .trigCommit t 0)) (heff : (trigCommitEff t v s).1 = trigRefuse t data s) :
    RaisedData s (trigCommitW ag t v s) 0x0504 (trigUnit t) data ∧
      getB (trigCommitW ag t v s) .trigStatus t 0 1 = true ∧ (trigCommitW ag t v s).trig = s.trig := by
  have h := trigCommitW_committed ht hopen heff
  obtain ⟨hraised, hbit, htrig⟩ := trigRefuse_spec ht data s
  exact ⟨hraised.onward h.onward, (h.status 1).trans hbit, h.trig.trans htrig⟩

/-! The detector part. -/

/-- The detectors that f names just started, their levels low. -/
def tdsCleared (t : Nat) (f : Nat → Bool) (s : State) : State :=
  (List.range 4).foldl (fun s d => if f d then trigFall t d (tdClear t d s) else s) s

theorem tdsCleared_spec (ht : t < 4) (f : Nat → Bool) (s : State) :
    EngineWork t (16 ≤ ·) s (tdsCleared t f s) ∧ (trigOf (tdsCleared t f s) t).pendFm = (trigOf s t).pendFm := by
  refine ⟨.foldl (.refl _ _ _) fun x d hd h => .ite ?_ h, foldl_keeps (fun x => (trigOf x t).pendFm) (fun x d => ?_) _ s⟩
  · exact (EngineWork.withTrig h).trigFall (by have := List.mem_range.mp hd; omega) (Nat.le_add_right 16 d)
  · split
    · rw [trigOf_trigFall, tdClear, trigOf_withTrig ht]
    · rfl

/-- The detector part put in force, with a new epoch. -/
def tdsApply (t : Nat) (c : TrigSet) (s : State) : State :=
  bumpEpoch (trigUnit t) (trigPendBit t (withTrig t (fun e => { e with pendTd := none, run := { e.run with td := c.td } }) s))

theorem tdsApply_spec (ht : t < 4) (c : TrigSet) (s : State) :
    trigOf (tdsApply t c s) t = { trigOf s t with pendTd := none, run := { (trigOf s t).run with td := c.td } } ∧
      maskActive (tdsApply t c s) t = maskActive s t ∧
      epochOf (tdsApply t c s) (trigUnit t) = epochOf s (trigUnit t) + 1 := by
  refine ⟨?_, ?_, epochOf_bumpEpoch _ _⟩
  · exact trigOf_withTrig ht (fun e => { e with pendTd := none, run := { e.run with td := c.td } }) s
  · exact ((EngineWork.refl t (· = 0) s).withTrig.setB (by decide) rfl).maskActive (by decide)

/-- MASK_SWAP waits with the mask part. -/
def swapWaits (s : State) (t : Nat) : Bool := (trigOf s t).pendFm.any fun p => p.2.1

/-- The detector part: the changed detectors start anew, and the event names the bank that the commit makes active. -/
theorem exec_trigCommitApply {c : TrigSet} (hp : (trigOf s t).pendTd = some c) :
    ∃ f, let x := tdsApply t c (tdsCleared t f s)
      exec (.trigCommitApply t) s = .next (raise 0x0503 (trigUnit t)
        [.u16 (if swapWaits x t then 1 - maskActive x t else maskActive x t)] x) := by
  refine ⟨fun d => (trigOf s t).run.td[d]? != c.td[d]?, ?_⟩
  intro x
  have hx (o : Option (TrigSet × Bool × Nat)) (h : (trigOf x t).pendFm = o) : swapWaits x t = o.any fun p => p.2.1 := by
    rw [swapWaits, h]
  simp only [exec, execTrigCommitApply, hp]
  split
  · next h =>
    rw [hx _ h]
    rfl
  · next h =>
    rw [hx _ h]
    rfl

theorem trigCommitApply_spec {c : TrigSet} (ht : t < 4) (hp : (trigOf s t).pendTd = some c) :
    ∃ u, exec (.trigCommitApply t) s = .next u ∧ (trigOf u t).pendTd = none ∧ (trigOf u t).run.td = c.td ∧
      epochOf u (trigUnit t) = epochOf s (trigUnit t) + 1 ∧
      RaisedData s u 0x0503 (trigUnit t) [.u16 (if swapWaits s t then 1 - maskActive s t else maskActive s t)] := by
  obtain ⟨f, hexec⟩ := exec_trigCommitApply hp
  dsimp only at hexec
  obtain ⟨hwork, hfm⟩ := tdsCleared_spec ht f s
  set x := tdsCleared t f s
  obtain ⟨heng, hactive, hepoch⟩ := tdsApply_spec ht c x
  set y := tdsApply t c x
  have hactive' : maskActive y t = maskActive s t := hactive.trans (hwork.maskActive (by decide))
  have hswap : swapWaits y t = swapWaits s t := by rw [swapWaits, heng, swapWaits, ← hfm]
  have hevents : y.events = s.events := hwork.events
  rw [hactive', hswap] at hexec
  generalize hdata : [EvField.u16 (if swapWaits s t then 1 - maskActive s t else maskActive s t)] = data at hexec ⊢
  have hr := raise_reported 0x0503 (trigUnit t) data y
  refine ⟨_, hexec, ?_, ?_, ?_, ?_⟩
  · rw [trigOf_of_trig hr.trig, heng]
  · rw [trigOf_of_trig hr.trig, heng]
  · rw [hr.epochOf_eq, hepoch, epochOf, unit, hwork.units]
    rfl
  · obtain ⟨new, hnew, h⟩ := raise_raisedData 0x0503 (trigUnit t) data y
    exact ⟨new, by rw [hnew, hevents], h⟩

/-! Mask words. -/

/-- The mask word at the mask address written, in the inactive bank, and the address moved on. -/
def maskPut (t : Nat) (v : BitVec 32) (s : State) : State :=
  maskStep t { s with maskBank := spPut s.maskBank (maskKey t (1 - maskActive s t) (getF s .trigMaskAddr t 0 0 15)) v 0 }

theorem maskDataEff_free (v : BitVec 32) (h : swapWaits s t = false) : maskDataEff t v s = (maskPut t v s, 0) := by
  unfold maskDataEff
  unfold swapWaits at h
  cases hp : (trigOf s t).pendFm with
  | none => rfl
  | some p =>
    rw [hp] at h
    exact if_neg (Bool.eq_false_iff.mp h)

theorem maskDataEff_swap (v : BitVec 32) (h : swapWaits s t = true) :
    maskDataEff t v s = (bump .trigCount t 5 1 s, 4) := by
  unfold maskDataEff
  unfold swapWaits at h
  cases hp : (trigOf s t).pendFm with
  | none => simp [hp] at h
  | some p =>
    rw [hp] at h
    exact if_pos h

theorem maskPut_spec (t : Nat) (v : BitVec 32) (s : State) :
    spGet (maskPut t v s).maskBank (maskKey t (1 - maskActive s t) (getF s .trigMaskAddr t 0 0 15)) 0 = v ∧
      getF (maskPut t v s) .trigMaskAddr t 0 0 15 = (getF s .trigMaskAddr t 0 0 15 + 1) % 32768 := by
  refine ⟨spGet_spPut_self _ _ _ _, ?_⟩
  rw [maskPut, maskStep, getF, rd_wr, fld, BitVec.toNat_ofNat]
  change ((getF s .trigMaskAddr t 0 0 15 + 1) % 32768) % 2 ^ 32 / 2 ^ 0 % 2 ^ 15 = _
  omega

/-! The statement. -/

/-- Settles O29: a valid sample ends in `tdTest`, a spectrum in `masksAt`, rows in `densAt`, each after the part of the captured
set that waited for it; an open write of TRIG_COMMIT captures the set, refuses it, cancels it or clears the histories. -/
theorem detectorCommandsComplete : Obligations.DetectorCommandsComplete := by
  refine ⟨?sample, ?noSample, ?spectrum, ?noSpectrum, ?rows, ?noRows, ?commit, ?apply, ?noApply, ?maskWord⟩
  case sample =>
    intro s t d x rest c ht hd hv
    refine ⟨fun hrun hc hen hvalid hrestart hgap hstarted v hval => ?_, fun hrun hc hen hvalid hfresh => ?_,
      fun hrun hc hen hvalid => exec_tdSample_invalid hv hrun hc hen ht hd hvalid,
      fun hrun => ⟨_, exec_tdSample_idle hv hrun, (tdTaken_spec ht hd rest s).1, rfl⟩⟩
    · obtain ⟨u, hexec, hrest, hlevel⟩ := exec_tdSample_valid hv hrun hc hen ht hd hvalid
      rw [hrestart, hgap, Bool.or_self, if_neg Bool.false_ne_true, tdLevel_of_started _ hstarted hval] at hlevel
      exact ⟨u, hexec, hrest, hlevel⟩
    · obtain ⟨u, hexec, hrest, hlevel⟩ := exec_tdSample_valid hv hrun hc hen ht hd hvalid
      rw [if_pos (by simpa using hfresh), tdLevel_reset] at hlevel
      exact ⟨u, hexec, hrest, hlevel⟩
  case noSample =>
    intro s t d hv
    simp only [exec, execTdSample, hv]
  case spectrum =>
    intro s t k o rest cfg mb ht hk hs
    have htaken := trigOf_specTaken ht rest s
    refine ⟨fun hrun hwait hc hen => ?_, fun c swap at_ hrun hp hlt => ?_,
      fun hrun => ⟨_, exec_fmSpectrum_idle hs hrun, by rw [htaken], rfl⟩⟩
    · have hexec := exec_fmSpectrum hs hrun
      rw [trigSpecPart_waits (by rw [htaken]; exact hwait)] at hexec
      obtain ⟨heng, -, hcount⟩ := masksAt_spec ht o (specTaken t rest s)
      obtain ⟨hhist, hlevel⟩ := masksAt_on (s := specTaken t rest s) (cfg := cfg) (mb := mb) ht hk
        (by rw [htaken]; exact hc) hen o
      rw [show 16 + (4 + k) = 20 + k by omega] at hlevel
      refine ⟨_, hexec, by rw [heng, htaken], ?_, hlevel, hcount⟩
      rw [hhist, htaken, maskViolations_congr (u := specTaken t rest s) (s := s) rfl rfl]
    · obtain ⟨hfm, hrunFm, hactive⟩ := trigSpecPart_takes (s := specTaken t rest s) ht (by rw [htaken]; exact hp) hlt
      obtain ⟨heng, hkept, -⟩ := masksAt_spec ht o (trigSpecPart t o.arrived (specTaken t rest s))
      exact ⟨_, exec_fmSpectrum hs hrun, by rw [heng]; exact hfm, by rw [heng]; exact hrunFm, hkept.trans hactive⟩
  case noSpectrum =>
    intro s t hs
    simp only [exec, execFmSpectrum, hs]
  case rows =>
    intro s t o rest ht hs
    have htaken := trigOf_rowsTaken ht rest s
    refine ⟨fun hrun hwait hen => ?_, fun c at_ hrun hp hlt => ?_,
      fun hrun => ⟨_, exec_densityRows_idle hs hrun, by rw [htaken], rfl⟩⟩
    · have hexec := exec_densityRows hs hrun
      rw [trigDensPart_waits (by rw [htaken]; exact hwait)] at hexec
      obtain ⟨hwindow, hlevel⟩ := densAt_on (s := rowsTaken t rest s) ht o (by rw [htaken]; exact hen)
      rw [htaken] at hwindow hlevel
      exact ⟨_, hexec, by rw [densAt_engine ht, htaken], hwindow, hlevel⟩
    · have hexec := exec_densityRows hs hrun
      rw [trigDensPart_takes (by rw [htaken]; exact hp) hlt] at hexec
      have heng := densAt_engine ht o (densApply t c (rowsTaken t rest s))
      rw [(densApply_spec ht c (rowsTaken t rest s)).1] at heng
      exact ⟨_, hexec, by rw [heng], by rw [heng], by rw [heng], by rw [heng]⟩
  case noRows =>
    intro s t hs
    simp only [exec, execDensityRows, hs]
  case commit =>
    intro s ag t ht hopen
    refine ⟨fun hcheck => ?_, fun hcheck hmask => ?_, fun off hcheck => ⟨?_, ?_⟩, fun k j hcheck hmask => ?_, ?_, ?_⟩
    · exact ⟨_, rfl, trigCommitW_captured ht hopen (trigCommitEff_next t s) hcheck nofun⟩
    · obtain ⟨htd, hfm, -, -⟩ := trigCommitW_captured ht hopen (trigCommitEff_swap t s) hcheck fun _ => hmask
      exact ⟨_, rfl, htd, hfm⟩
    · exact ⟨_, rfl, trigCommitW_refused ht hopen ((trigCommitEff_next t s).trans (trigCapture_check false hcheck))⟩
    · exact ⟨_, rfl, trigCommitW_refused ht hopen ((trigCommitEff_swap t s).trans (trigCapture_check true hcheck))⟩
    · exact ⟨_, rfl, trigCommitW_refused ht hopen ((trigCommitEff_swap t s).trans (trigCapture_masks hcheck hmask))⟩
    · have h := trigCommitW_committed ht hopen (trigCommitEff_cancel t s)
      obtain ⟨htd, hfm, hdens, hbit⟩ := trigCancelled_spec ht s
      rw [← h.trigOf] at htd hfm hdens
      exact ⟨_, rfl, htd, hfm, hdens, (h.status 0).trans hbit⟩
    · have h := trigCommitW_committed ht hopen (trigCommitEff_clear t s)
      have heng := h.trigOf.trans (trigOf_densClear ht _)
      exact ⟨_, rfl, congrArg TrigEng.dens heng, fun k hk =>
        (congrArg (fun e => vget e.hist k []) heng).trans (masksCleared_hist ht hk s)⟩
  case apply => exact fun s t c ht hp => trigCommitApply_spec ht hp
  case noApply =>
    intro s t hp
    simp only [exec, execTrigCommitApply, hp]
  case maskWord =>
    intro s ag t v ht hopen
    have hr : Reported eventOffs (maskDataEff t v s).1 _ := guardW_open v hopen
    refine ⟨fun hfree => ?_, fun hswap hfull => ?_⟩
    · rw [maskDataEff_free v hfree] at hr
      obtain ⟨hword, haddr⟩ := maskPut_spec t v s
      exact ⟨_, rfl, by rw [hr.maskBank]; exact hword, by rw [getF_of_rd (hr.rd_eq _ _ _ (trigMaskAddr_quiet ht))]; exact haddr⟩
    · have heff := maskDataEff_swap v hswap
      have hw : guardW ag (Reg.off .trigMaskData t 0) v (maskDataEff t v) s =
          refuse ag (Reg.off .trigMaskData t 0) v 4 (bump .trigCount t 5 1 s) := by
        rw [guardW_refused v hopen (by simp [heff]) (by simp [heff]) (by simp [heff]), heff]
      rw [heff] at hr
      refine ⟨_, rfl, ?_, ?_⟩
      · rw [hw]
        exact audit_audited 0x02 ag 4 _ v rfl hfull
      · rw [hr.rd_eq _ _ _ (trigCount_quiet ht (by decide))]
        exact rd_bump_toNat _ _ _ _ _

end Sys2Proof.Machine
end

section
/-! SUPPORT. Density engines: what a sweep and the end of a frame leave of an engine, of its register words and of the trigger
engines (09 R357 to R361, R369). -/

namespace Sys2Proof.Machine

variable {s s₀ u : State} {d : Nat}

/-! Engines and their register words. -/

theorem densOf_of_dens (h : u.dens = s.dens) (m : Nat) : densOf u m = densOf s m := by rw [densOf, h, densOf]

theorem densOf_withDens (hd : d < 4) (f : Dens → Dens) (s : State) : densOf (withDens d f s) d = f (densOf s d) :=
  vget_vset_self _ _ _ _ hd

section
variable (r : Reg) (i j k n : Nat) (s : State) (m : Nat)
@[simp] theorem densOf_wr (v : BitVec 32) : densOf (wr r i j v s) m = densOf s m := rfl
@[simp] theorem densOf_setB (b : Bool) : densOf (setB r i j k b s) m = densOf s m := rfl
@[simp] theorem densOf_bump : densOf (bump r i j n s) m = densOf s m := rfl
end

section
variable (d k : Nat)
theorem densStatus_off : Reg.off .densStatus d 0 = 0x1000068 + d * 0x1000 := rfl
theorem densFrameNum_off : Reg.off .densFrameNum d 0 = 0x100006C + d * 0x1000 := rfl
theorem densCount_off : Reg.off .densCount d k = 0x1000080 + d * 0x1000 + k * 4 := rfl
theorem densCmap_off : Reg.off .densCmap d k = 0x1000400 + d * 0x1000 + k * 4 := rfl
end

/-- Reports write no word of the density engines' register sets. -/
theorem densSet_quiet {o : Nat} (hlo : 0x1000000 ≤ o) (hhi : o < 0x1004000) : o ∉ eventOffs := by
  intro h
  have hout : ∀ x ∈ eventOffs, x < 0x1000000 ∨ 0x1004000 ≤ x := by decide
  rcases hout o h with h | h <;> omega

/-- The register words of engine d below its colour map. -/
def DensWord (d o : Nat) : Prop := 0x1000000 + d * 0x1000 ≤ o ∧ o < 0x1000400 + d * 0x1000

theorem DensWord.quiet {o : Nat} (h : DensWord d o) (hd : d < 4) : o ∉ eventOffs := by
  obtain ⟨hlo, hhi⟩ := h
  exact densSet_quiet (by omega) (by omega)

theorem densStatus_word (d : Nat) : DensWord d (Reg.off .densStatus d 0) := by
  rw [densStatus_off]
  exact ⟨by omega, by omega⟩

theorem densCount_word {k : Nat} (hk : k < 8) : DensWord d (Reg.off .densCount d k) := by
  rw [densCount_off]
  exact ⟨by omega, by omega⟩

theorem densStatus_ne_densCount (d k : Nat) : Reg.off .densStatus d 0 ≠ Reg.off .densCount d k := by
  rw [densStatus_off, densCount_off]
  omega

theorem densFrameNum_ne_densCount (d k : Nat) : Reg.off .densFrameNum d 0 ≠ Reg.off .densCount d k := by
  rw [densFrameNum_off, densCount_off]
  omega

theorem densCount_ne {j k : Nat} (h : j ≠ k) : Reg.off .densCount d j ≠ Reg.off .densCount d k := by
  rw [densCount_off, densCount_off]
  omega

theorem rd_bump_densCount_ne {j k : Nat} (h : j ≠ k) (n : Nat) (s : State) :
    rd (bump .densCount d k n s) .densCount d j = rd s .densCount d j := rd_bump_ne s n (densCount_ne h)

theorem getB_bump_densCount (k n b : Nat) (s : State) :
    getB (bump .densCount d k n s) .densStatus d 0 b = getB s .densStatus d 0 b :=
  getB_of_rd (rd_bump_ne s n (densStatus_ne_densCount d k)) b

theorem rd_setB_densStatus (k b : Nat) (x : Bool) (s : State) :
    rd (setB .densStatus d 0 b x s) .densCount d k = rd s .densCount d k :=
  rd_setB_ne s b x (densStatus_ne_densCount d k).symm

/-! Sweeps. -/

/-- The engine but for what its sweeps work on. -/
def Dens.unswept (x : Dens) : Dens :=
  { x with plane := [], sweep := none, accum := 0, cmap := [], swap := false, nextBuf := 0 }

/-- From s₀ to s the sweep of engine d has worked: it passes its counters or sends what it has, and goes on. -/
structure SweepWork (d : Nat) (s₀ s : State) : Prop where
  engine : (densOf s d).unswept = (densOf s₀ d).unswept
  sweeps : (densOf s d).sweep.isSome = (densOf s₀ d).sweep.isSome
  trig : s.trig = s₀.trig
  units : s.units = s₀.units
  regs : ∀ o, DensWord d o → spGet s.regs o 0 = spGet s₀.regs o 0

namespace SweepWork

theorem refl (d : Nat) (s : State) : SweepWork d s s := ⟨rfl, rfl, rfl, rfl, fun _ _ => rfl⟩

theorem ite {p : Prop} {_ : Decidable p} (hs : SweepWork d s₀ s) (hu : SweepWork d s₀ u) :
    SweepWork d s₀ (if p then s else u) := by
  split <;> assumption

theorem foldl {β : Type} {f : State → β → State} {l : List β} (hs : SweepWork d s₀ s)
    (hf : ∀ s b, SweepWork d s₀ s → SweepWork d s₀ (f s b)) : SweepWork d s₀ (l.foldl f s) :=
  List.foldlRecOn l f hs fun s h b _ => hf s b h

theorem queue (hs : SweepWork d s₀ s) : (densOf s d).queue = (densOf s₀ d).queue :=
  (congrArg Dens.queue hs.engine :)
theorem spectra (hs : SweepWork d s₀ s) : (densOf s d).spectra = (densOf s₀ d).spectra :=
  (congrArg Dens.spectra hs.engine :)
theorem frame (hs : SweepWork d s₀ s) : (densOf s d).frame = (densOf s₀ d).frame :=
  (congrArg Dens.frame hs.engine :)
theorem zeroing (hs : SweepWork d s₀ s) : (densOf s d).zeroing = (densOf s₀ d).zeroing :=
  (congrArg Dens.zeroing hs.engine :)
theorem ending (hs : SweepWork d s₀ s) : (densOf s d).ending = (densOf s₀ d).ending :=
  (congrArg Dens.ending hs.engine :)
theorem commit (hs : SweepWork d s₀ s) : (densOf s d).commit = (densOf s₀ d).commit :=
  (congrArg Dens.commit hs.engine :)
theorem set (hs : SweepWork d s₀ s) : (densOf s d).set = (densOf s₀ d).set :=
  (congrArg Dens.set hs.engine :)

theorem rd_eq (hs : SweepWork d s₀ s) {r : Reg} {i j : Nat} (h : DensWord d (r.off i j)) : rd s r i j = rd s₀ r i j :=
  rd_of_off (hs.regs _ h)

theorem offer {i : Item} (hs : SweepWork d s₀ s) : SweepWork d s₀ (offer i s) := ⟨hs.1, hs.2, hs.3, hs.4, hs.5⟩

theorem wrCmap {i : Nat} {v : BitVec 32} (hs : SweepWork d s₀ s) : SweepWork d s₀ (wr .densCmap d i v s) :=
  ⟨hs.1, hs.2, hs.3, hs.4, fun o ho => by
    have hne : o ≠ Reg.off .densCmap d i := by
      obtain ⟨-, hhi⟩ := ho
      rw [densCmap_off]
      omega
    rw [spGet_wr_ne s .densCmap d i v hne, hs.regs o ho]⟩

/-- A change of what sweeps work on. -/
theorem withDens {f : Dens → Dens} (hd : d < 4) (hs : SweepWork d s₀ s)
    (hf : (f (densOf s d)).unswept = (densOf s d).unswept)
    (hw : (f (densOf s d)).sweep.isSome = (densOf s d).sweep.isSome) : SweepWork d s₀ (withDens d f s) := by
  refine ⟨?_, ?_, hs.trig, hs.units, hs.regs⟩
  · rw [densOf_withDens hd, hf, hs.engine]
  · rw [densOf_withDens hd, hw, hs.sweeps]

theorem sweepPass (hd : d < 4) (s : State) : SweepWork d s (sweepPass d s) := by
  unfold Machine.sweepPass
  extract_lets x bank
  split
  · exact .refl d s
  · next w hw =>
    refine .ite (.refl d s) ?_
    extract_lets zero swap s₁
    have h₁ : SweepWork d s s₁ := .ite (.foldl (.refl d s) fun _ _ h => .wrCmap h) (.refl d s)
    exact .withDens hd h₁ rfl (by rw [h₁.sweeps, show (densOf s d).sweep = some w from hw]; rfl)

theorem sweepOut (hd : d < 4) (w : DensSweep) (m : List (Nat × Nat)) (s : State) : SweepWork d s (sweepOut d w m s) := by
  unfold Machine.sweepOut
  extract_lets x s₁ s₂
  have h₁ : SweepWork d s s₁ := .ite (.foldl (.refl d s) fun _ _ h => .offer h) (.refl d s)
  have h₂ : SweepWork d s s₂ := by
    refine .ite ?_ h₁
    unfold imageWrite
    extract_lets x reg s₃
    have h₃ : SweepWork d s s₃ := .foldl h₁ fun _ _ h => .offer h
    clear_value s₃
    exact .withDens hd h₃ rfl rfl
  exact .ite (.ite (.foldl h₂ fun _ _ h => .offer h) h₂) h₁

end SweepWork

/-! The end of a frame. -/

/-- What a pending commit does as the frame before `num` ends. -/
def densCommitTake (d num : Nat) (c : Option DensCommit) (s : State) : State :=
  match c with
  | none => s
  | some c =>
    raise 0x0702 (densUnit d) [.u32 num] (bumpEpoch (densUnit d) (setB .densStatus d 0 0 false
      (match c.set with | some y => densTake d y s | none => s)))

theorem getB_setF_below {r : Reg} {i j lo w x k : Nat} (h : lo + w ≤ 32) (hk : k + 1 ≤ lo) (s : State) :
    getB (setF r i j lo w x s) r i j k = getB s r i j k := by
  simp only [getB, bit_eq_fld, rd_setF, fld_setFld_below _ _ _ _ _ _ h hk]

theorem densTake_spec (hd : d < 4) (y : DensSet) (s : State) :
    densOf (densTake d y s) d = { densOf s d with set := y } ∧
      getB (densTake d y s) .densStatus d 0 3 = getB s .densStatus d 0 3 ∧
      ∀ k, rd (densTake d y s) .densCount d k = rd s .densCount d k :=
  ⟨densOf_withDens hd (fun e => { e with set := y }) s, getB_setF_below (by decide) (by decide) _,
    fun k => rd_setF_ne _ _ _ _ (densStatus_ne_densCount d k).symm⟩

/-- The set changes; the sweeping bit, the counters and the rest of the engine stay. -/
structure SetTaken (d : Nat) (y : DensSet) (s t : State) : Prop where
  engine : densOf t d = { densOf s d with set := y }
  trig : t.trig = s.trig
  sweeping : getB t .densStatus d 0 3 = getB s .densStatus d 0 3
  count : ∀ k < 8, rd t .densCount d k = rd s .densCount d k

theorem densCommitTake_spec (hd : d < 4) (num : Nat) (c : Option DensCommit) (s : State) :
    SetTaken d ((c.bind (·.set)).getD (densOf s d).set) s (densCommitTake d num c s) := by
  cases c with
  | none => exact ⟨rfl, rfl, rfl, fun _ _ => rfl⟩
  | some c =>
    obtain ⟨x, hx, hset⟩ : ∃ x, (match c.set with | some y => densTake d y s | none => s) = x ∧
        SetTaken d (c.set.getD (densOf s d).set) s x := by
      refine ⟨_, rfl, ?_⟩
      cases c.set with
      | none => exact ⟨rfl, rfl, rfl, fun _ _ => rfl⟩
      | some y =>
        obtain ⟨heng, hbit, hcount⟩ := densTake_spec hd y s
        exact ⟨heng, rfl, hbit, fun k _ => hcount k⟩
    have hr := raise_reported 0x0702 (densUnit d) [.u32 num] (bumpEpoch (densUnit d) (setB .densStatus d 0 0 false x))
    simp only [densCommitTake, hx]
    refine ⟨(densOf_of_dens hr.dens d).trans hset.engine, hr.trig.trans hset.trig, ?_, fun k hk => ?_⟩
    · rw [getB_of_rd (hr.rd_eq _ _ _ ((densStatus_word d).quiet hd)), getB_bumpEpoch,
        getB_setB_ne _ _ _ _ _ _ _ (by decide) (by decide), hset.sweeping]
    · rw [hr.rd_eq _ _ _ ((densCount_word hk).quiet hd), rd_bumpEpoch, rd_setB_densStatus, hset.count k hk]

/-- From s to t the frame in formation of engine d has ended and its sweep begun. -/
structure FrameEnded (d : Nat) (s t : State) : Prop where
  spectra : (densOf t d).spectra = (densOf s d).spectra
  queue : (densOf t d).queue = (densOf s d).queue
  zeroing : (densOf t d).zeroing = (densOf s d).zeroing
  num : (densOf t d).frame.num = ((densOf s d).frame.num + 1) % 2 ^ 32
  received : (densOf t d).frame.received = 0
  sweep : (densOf t d).sweep.isSome = true
  ending : (densOf t d).ending = none
  commit : (densOf t d).commit = none
  set : (densOf s d).commit = none → (densOf t d).set = (densOf s d).set
  trig : t.trig = s.trig
  sweeping : getB t .densStatus d 0 3 = true
  count : ∀ k < 8, rd t .densCount d k = rd s .densCount d k

/-- An empty frame is in formation, and w is the sweep of the one before it. -/
def frameSwept (d : Nat) (w : DensSweep) (s : State) : State :=
  let num := ((densOf s d).frame.num + 1) % 2 ^ 32
  setB .densStatus d 0 3 true (wr .densFrameNum d 0 (BitVec.ofNat 32 num) (withDens d (fun x =>
    { x with frame := DensFrame.start num 0, sweep := some w, ending := none, accum := x.accum + 1, commit := none }) s))

theorem frameSwept_spec (hd : d < 4) (w : DensSweep) (s : State) :
    densOf (frameSwept d w s) d = { densOf s d with
        frame := DensFrame.start (((densOf s d).frame.num + 1) % 2 ^ 32) 0, sweep := some w, ending := none,
        accum := (densOf s d).accum + 1, commit := none } ∧
      getB (frameSwept d w s) .densStatus d 0 3 = true ∧
      ∀ k, rd (frameSwept d w s) .densCount d k = rd s .densCount d k := by
  unfold frameSwept
  dsimp only
  refine ⟨?_, getB_setB _ _ _ _ _ _ (by decide), fun k => ?_⟩
  · rw [densOf_setB, densOf_wr, densOf_withDens hd]
  · rw [rd_setB_densStatus, rd_wr_ne _ _ (densFrameNum_ne_densCount d k).symm]
    rfl

/-- A frame ends: its sweep takes over, a pending commit takes effect, and the sweep passes its counters if it can. -/
theorem endFrame_eq (d : Nat) (cut clear : Bool) (s : State) : ∃ w, endFrame d cut clear s =
    sweepPass d (densCommitTake d (((densOf s d).frame.num + 1) % 2 ^ 32) (densOf s d).commit (frameSwept d w s)) :=
  ⟨_, rfl⟩

theorem endFrame_ended (hd : d < 4) (cut clear : Bool) (s : State) : FrameEnded d s (endFrame d cut clear s) := by
  obtain ⟨w, hend⟩ := endFrame_eq d cut clear s
  rw [hend]
  generalize hnum : ((densOf s d).frame.num + 1) % 2 ^ 32 = num
  obtain ⟨heng, hbit, hcount⟩ := frameSwept_spec hd w s
  rw [hnum] at heng
  have htake := densCommitTake_spec hd num (densOf s d).commit (frameSwept d w s)
  set x := frameSwept d w s
  set y := densCommitTake d num (densOf s d).commit x
  have hpass := SweepWork.sweepPass hd y
  have hy := htake.engine
  rw [heng] at hy
  refine { spectra := ?_, queue := ?_, zeroing := ?_, num := ?_, received := ?_, sweep := ?_, ending := ?_, commit := ?_,
           set := fun hc => ?_, trig := ?_, sweeping := ?_, count := fun k hk => ?_ }
  · rw [hpass.spectra, hy]
  · rw [hpass.queue, hy]
  · rw [hpass.zeroing, hy]
  · rw [hpass.frame, hy]
    exact hnum.symm
  · rw [hpass.frame, hy]
    rfl
  · rw [hpass.sweeps, hy]
    rfl
  · rw [hpass.ending, hy]
  · rw [hpass.commit, hy]
  · rw [hpass.set, hy, hc]
    rfl
  · rw [hpass.trig, htake.trig]
    rfl
  · rw [getB_of_rd (hpass.rd_eq (densStatus_word d)), htake.sweeping, hbit]
  · rw [hpass.rd_eq (densCount_word hk), htake.count k hk, hcount]

/-- A frame end that comes while no spectrum has been received is none. -/
theorem frameDue_empty (cut clear : Bool) (h : (densOf s d).frame.received = 0) : frameDue d cut clear s = s := if_pos h

/-- A frame end that nothing holds up. -/
theorem frameDue_ends (cut clear : Bool) (h : (densOf s d).frame.received ≠ 0) (hsweep : (densOf s d).sweep = none)
    (hzero : (densOf s d).zeroing = false) : frameDue d cut clear s = endFrame d cut clear s := by
  simp only [frameDue, if_neg h, hsweep, hzero, Option.isSome_none, Bool.or_self, Bool.false_eq_true, if_false]

/-- From s to t a frame end that may have come has left the spectra that wait and those queued, the trigger engines and the
count of spectra turned away. -/
structure InputsKept (d : Nat) (s t : State) : Prop where
  spectra : (densOf t d).spectra = (densOf s d).spectra
  queue : (densOf t d).queue = (densOf s d).queue
  trig : t.trig = s.trig
  turned : rd t .densCount d 1 = rd s .densCount d 1

theorem FrameEnded.inputs (h : FrameEnded d s u) : InputsKept d s u := ⟨h.spectra, h.queue, h.trig, h.count 1 (by decide)⟩

theorem frameDue_inputs (hd : d < 4) (cut clear : Bool) (s : State) : InputsKept d s (frameDue d cut clear s) := by
  have hwith {f : Dens → Dens} (hs : (f (densOf s d)).spectra = (densOf s d).spectra)
      (hq : (f (densOf s d)).queue = (densOf s d).queue) : InputsKept d s (withDens d f s) :=
    ⟨by rw [densOf_withDens hd, hs], by rw [densOf_withDens hd, hq], rfl, rfl⟩
  unfold frameDue
  dsimp only
  split
  · exact ⟨rfl, rfl, rfl, rfl⟩
  · split
    · split
      · exact hwith rfl rfl
      · obtain ⟨hs, hq, ht, hc⟩ := hwith (f := fun x => { x with
          ending := some (cut, clear), frame := { x.frame with flags := Nat.lor x.frame.flags 2 } }) rfl rfl
        exact ⟨hs, hq, ht, (rd_bump_densCount_ne (by decide) _ _).trans hc⟩
    · exact (endFrame_ended hd cut clear s).inputs

end Sys2Proof.Machine
end

section
/-! SUPPORT. The density engines' spectra, passes, sweeps and commits, and the statement about them (06 R240; 07 R284; 09 R350,
R355, R357, R360, R361, R368, R369). -/

namespace Sys2Proof.Machine

variable {s s₀ u : State} {d : Nat}

/-! A spectrum. -/

/-- The next spectrum has left the side path. -/
def densTaken (d : Nat) (r : List SpecOut) (s : State) : State := withDens d (fun x => { x with spectra := r }) s

theorem densOf_densTaken (hd : d < 4) (r : List SpecOut) (s : State) :
    densOf (densTaken d r s) d = { densOf s d with spectra := r } := densOf_withDens hd _ s

/-- The queue of engine d has room for a spectrum's rows. -/
def densRoom (s : State) (d : Nat) (o : SpecOut) : Bool :=
  !(densOf s d).zeroing && decide (((densOf s d).queue.map fun e => e.rows.length).sum + o.points.length ≤ 65536)

/-- The queue of engine d with the rows of spectrum o. -/
def densQueued (s : State) (d : Nat) (o : SpecOut) : List DensEntry :=
  (densOf s d).queue ++ [{ frame := (densOf s d).frame.num, rows := o.points.map (densRow (densOf s d).set),
                           connect := bit (densOf s d).set.persist 2 }]

/-- From s to t the frame in formation of engine d has taken spectrum o: it is queued or turned away, and its rows go to a running
trigger engine. -/
structure SpectrumIn (d : Nat) (o : SpecOut) (s t : State) : Prop where
  engine : densOf t d = { densOf s d with
    frame := (densOf t d).frame, queue := if densRoom s d o then densQueued s d o else (densOf s d).queue }
  num : (densOf t d).frame.num = (densOf s d).frame.num
  received : (densOf t d).frame.received = (densOf s d).frame.received + 1
  trig : t.trig = (rowsSide d o (o.points.map (densRow (densOf s d).set)) s).trig
  turned : densRoom s d o = false → (rd t .densCount d 1).toNat = satU 32 ((rd s .densCount d 1).toNat + 1)

/-- A frame end that the spectrum just taken brings: after a SNAPSHOT, or as the frame's last. -/
def densEndDue (d : Nat) (s : State) : State :=
  if ((densOf s d).commit.map fun c => c.snap).getD false then frameDue d true false s
  else if max 1 (fld (densOf s d).set.frame 0 24) ≤ (densOf s d).frame.received then frameDue d false false s
  else s

theorem densEndDue_inputs (hd : d < 4) (s : State) : InputsKept d s (densEndDue d s) := by
  unfold densEndDue
  split
  · exact frameDue_inputs hd _ _ s
  · split
    · exact frameDue_inputs hd _ _ s
    · exact ⟨rfl, rfl, rfl, rfl⟩

theorem frameTake_spec (hd : d < 4) (o : SpecOut) (hist : Bool) (s : State) :
    densOf (frameTake d o hist s) d = { densOf s d with frame := (densOf (frameTake d o hist s) d).frame } ∧
      (densOf (frameTake d o hist s) d).frame.num = (densOf s d).frame.num ∧
      (densOf (frameTake d o hist s) d).frame.received = (densOf s d).frame.received + 1 := by
  obtain ⟨g, hg, hspec⟩ : ∃ g : Dens → Dens, frameTake d o hist s = withDens d g s ∧ ∀ x, g x = { x with frame := (g x).frame } ∧
      (g x).frame.num = x.frame.num ∧ (g x).frame.received = x.frame.received + 1 := by
    unfold frameTake
    extract_lets ep pe
    refine ⟨_, rfl, fun x => ?_⟩
    exact ⟨rfl, rfl, rfl⟩
  rw [hg, densOf_withDens hd]
  exact hspec _

section
variable (d : Nat) (o : SpecOut) (rows : List Nat) (s : State)

theorem densOf_rowsSide (m : Nat) : densOf (rowsSide d o rows s) m = densOf s m := by
  unfold rowsSide
  split <;> rfl

theorem rd_rowsSide (r : Reg) (i j : Nat) : rd (rowsSide d o rows s) r i j = rd s r i j := by
  unfold rowsSide
  split <;> rfl

/-- The trigger engine of the channel gets the rows if it runs. -/
theorem rowsSide_trig : (rowsSide d o rows s).trig =
    if ustate s (trigUnit d) = .running then
      (withTrig d (fun t => { t with rows := t.rows ++
        [{ seq := o.seq, stamp := o.stamp, flags := o.flags, rows := rows, arrived := o.arrived }] }) s).trig
    else s.trig := by
  unfold rowsSide
  split <;> rfl

end

/-- A spectrum that begins a new grid first ends the frame in formation; then the spectrum is taken, and may end its frame. -/
theorem densSpectrum_eq (hd : d < 4) (o : SpecOut) (s : State) : ∃ wide x,
    densSpectrum d o s = densEndDue d x ∧
      SpectrumIn d o (if o.flags.testBit 3 || o.flags.testBit 1 then frameDue d true wide s else s) x := by
  unfold densSpectrum
  extract_lets np f wide s₁ x raws rows s₂ s₃ s₄ held hist s₅ s₆
  refine ⟨wide, s₆, rfl, ?_⟩
  have h₄ : densOf s₄ d = densOf s₁ d := densOf_rowsSide d o rows s₃ d
  have hcount : rd s₄ .densCount d 1 = rd s₁ .densCount d 1 :=
    (rd_rowsSide d o rows s₃ .densCount d 1).trans
      ((rd_bump_densCount_ne (k := 4) (by decide) _ s₂).trans (rd_bump_densCount_ne (k := 3) (by decide) _ s₁))
  have htrig : s₄.trig = (rowsSide d o rows s₁).trig :=
    (rowsSide_trig d o rows s₃).trans (rowsSide_trig d o rows s₁).symm
  clear_value s₄
  obtain ⟨h₅, hnum, hreceived⟩ := frameTake_spec hd o hist s₄
  obtain ⟨fr, hfr⟩ : ∃ fr, densOf s₅ d = { densOf s₁ d with frame := fr } := ⟨_, by rw [← h₄]; exact h₅⟩
  have hnum' : fr.num = (densOf s₁ d).frame.num := by
    rw [← h₄, ← hnum]
    exact congrArg (fun x : Dens => x.frame.num) hfr.symm
  have hreceived' : fr.received = (densOf s₁ d).frame.received + 1 := by
    rw [← h₄, ← hreceived]
    exact congrArg (fun x : Dens => x.frame.received) hfr.symm
  have hroom : densRoom s₁ d o = hist := rfl
  cases hh : hist with
  | true =>
    have h₆ : s₆ = withDens d (fun x => { x with queue := x.queue ++
        [{ frame := x.frame.num, rows := rows, connect := bit x.set.persist 2 }] }) s₅ := if_pos hh
    have h₇ : densOf s₆ d = { densOf s₁ d with frame := fr, queue := densQueued s₁ d o } := by
      rw [h₆, densOf_withDens hd, hfr, densQueued, ← hnum']
    exact ⟨by rw [h₇, hroom, hh]; rfl, by rw [h₇]; exact hnum', by rw [h₇]; exact hreceived', by rw [h₆]; exact htrig,
      fun h => by rw [hroom, hh] at h; cases h⟩
  | false =>
    have hr := raiseRated_reported 0x0704 (densUnit d) [] 1 (bump .densCount d 1 1 s₅)
    have h₆ : s₆ = raiseRated 0x0704 (densUnit d) [] 1 (bump .densCount d 1 1 s₅) := if_neg (by rw [hh]; decide)
    have h₇ : densOf s₆ d = { densOf s₁ d with frame := fr } := by
      rw [h₆, densOf_of_dens hr.dens, densOf_bump, hfr]
    refine ⟨by rw [h₇, hroom, hh]; rfl, by rw [h₇]; exact hnum', by rw [h₇]; exact hreceived', by rw [h₆]; exact hr.trig.trans htrig,
      fun _ => ?_⟩
    rw [h₆, hr.rd_eq _ _ _ ((densCount_word (by decide)).quiet hd), rd_bump_toNat]
    exact congrArg (fun w : Word => satU 32 (w.toNat + 1)) hcount

theorem exec_densSpectrum {o : SpecOut} {r : List SpecOut} (hs : (densOf s d).spectra = o :: r)
    (hrun : ustate s (densUnit d) = .running) :
    exec (.densSpectrum d) s = .next (densSpectrum d o (densTaken d r s)) := by
  simp only [exec, execDensSpectrum, hs]
  exact if_pos hrun

/-- Spectra are lost on an engine that does not run. -/
theorem exec_densSpectrum_idle {o : SpecOut} {r : List SpecOut} (hs : (densOf s d).spectra = o :: r)
    (hrun : ustate s (densUnit d) ≠ .running) : exec (.densSpectrum d) s = .next (densTaken d r s) := by
  simp only [exec, execDensSpectrum, hs]
  exact if_neg hrun

/-- A spectrum that ends no frame before it is taken. -/
theorem densSpectrum_taken (hd : d < 4) {o : SpecOut}
    (h : (o.flags.testBit 3 || o.flags.testBit 1) = false ∨ (densOf s d).frame.received = 0) :
    ∃ x, densSpectrum d o s = densEndDue d x ∧ SpectrumIn d o s x := by
  obtain ⟨wide, x, hx, hin⟩ := densSpectrum_eq hd o s
  refine ⟨x, hx, ?_⟩
  rcases h with h | h
  · rwa [h, if_neg Bool.false_ne_true] at hin
  · rwa [frameDue_empty _ _ h, ite_self] at hin

/-- A spectrum that begins a new grid ends the frame in formation and is the first of the next. -/
theorem densSpectrum_newGrid (hd : d < 4) {o : SpecOut} (h : (o.flags.testBit 3 || o.flags.testBit 1) = true)
    (hreceived : (densOf s d).frame.received ≠ 0) (hsweep : (densOf s d).sweep = none) (hzero : (densOf s d).zeroing = false)
    (hcommit : (densOf s d).commit = none) (hframe : 1 < fld (densOf s d).set.frame 0 24) :
    ∃ y, FrameEnded d s y ∧ SpectrumIn d o y (densSpectrum d o s) := by
  obtain ⟨wide, x, hx, hin⟩ := densSpectrum_eq hd o s
  rw [h, if_pos rfl, frameDue_ends _ _ hreceived hsweep hzero] at hin
  have hend := endFrame_ended hd true wide s
  refine ⟨_, hend, ?_⟩
  have hc : (densOf x d).commit = none := by
    rw [hin.engine]
    exact hend.commit
  have hset : (densOf x d).set = (densOf s d).set := by
    rw [hin.engine]
    exact hend.set hcommit
  have hone : (densOf x d).frame.received = 1 := by rw [hin.received, hend.received]
  have hstays : densEndDue d x = x := by
    simp only [densEndDue, hc, hset, hone, Option.map_none, Option.getD_none, Bool.false_eq_true, if_false]
    exact if_neg (by omega)
  rwa [hx, hstays]

/-! A histogram pass. -/

theorem exec_densHistogramDone (hd : d < 4) {e : DensEntry} {r : List DensEntry} (hq : (densOf s d).queue = e :: r) :
    ∃ t, exec (.densHistogramDone d) s = .next t ∧ (densOf t d).queue = r ∧
      (rd t .densCount d 0).toNat = satU 32 ((rd s .densCount d 0).toNat + 1) := by
  obtain ⟨f, n, hexec, hf⟩ : ∃ (f : Dens → Dens) (n : Nat), exec (.densHistogramDone d) s =
      .next (sweepPass d (raiseRated 0x0707 (densUnit d) [] n
        (bump .densCount d 2 n (bump .densCount d 0 1 (withDens d f s))))) ∧ ∀ x, (f x).queue = r := by
    simp only [exec, execDensHistogramDone, hq]
    exact ⟨_, _, rfl, fun _ => rfl⟩
  have hr := raiseRated_reported 0x0707 (densUnit d) [] n (bump .densCount d 2 n (bump .densCount d 0 1 (withDens d f s)))
  set y := raiseRated 0x0707 (densUnit d) [] n (bump .densCount d 2 n (bump .densCount d 0 1 (withDens d f s)))
  have hpass := SweepWork.sweepPass hd y
  refine ⟨_, hexec, ?_, ?_⟩
  · rw [hpass.queue, densOf_of_dens hr.dens, densOf_bump, densOf_bump, densOf_withDens hd, hf]
  · have hw := densCount_word (d := d) (k := 0) (by decide)
    rw [hpass.rd_eq hw, hr.rd_eq _ _ _ (hw.quiet hd), rd_bump_densCount_ne (by decide), rd_bump_toNat]
    rfl

/-! A sweep that completes. -/

/-- The zeroing ends. -/
def densZeroed (d : Nat) (s : State) : State :=
  setB .densStatus d 0 3 false (withDens d (fun x => { x with zeroing := false }) s)

/-- The sweep w, which has swept m, has sent its output and ends. -/
def densSwept (d : Nat) (w : DensSweep) (m : List (Nat × Nat)) (s : State) : State :=
  let s := setB .densStatus d 0 3 false (withDens d (fun x => { x with sweep := none }) (sweepOut d w m s))
  if bit w.set.out 21 then raise 0x0705 (densUnit d) [.u32 w.frame.num, .u32 w.frame.hist, .u32 w.frame.turned] s else s

/-- The frame end that waited for the sweep, if there is one. -/
def densEndWaited (d : Nat) (s : State) : State :=
  match (densOf s d).ending with | some (cut, clear) => endFrame d cut clear s | none => s

theorem densEndWaited_none (h : (densOf s d).ending = none) : densEndWaited d s = s := by
  simp only [densEndWaited, h]

theorem densEndWaited_some {cut clear : Bool} (h : (densOf s d).ending = some (cut, clear)) :
    densEndWaited d s = endFrame d cut clear s := by
  simp only [densEndWaited, h]

theorem densZeroed_spec (hd : d < 4) (s : State) : densOf (densZeroed d s) d = { densOf s d with zeroing := false } ∧
    getB (densZeroed d s) .densStatus d 0 3 = false := by
  refine ⟨?_, getB_setB _ _ _ _ _ _ (by decide)⟩
  rw [densZeroed, densOf_setB, densOf_withDens hd]

theorem exec_densSweepDone_zeroing (hd : d < 4) (h : (densOf s d).zeroing = true) :
    exec (.densSweepDone d) s = .next (densEndWaited d (densZeroed d s)) := by
  have hend : (densOf (densZeroed d s) d).ending = (densOf s d).ending := by rw [(densZeroed_spec hd s).1]
  simp only [exec, execDensSweepDone, h, if_true, densEndWaited, hend]
  rfl

theorem exec_densSweepDone_swept {w : DensSweep} {m : List (Nat × Nat)} (hzero : (densOf s d).zeroing = false)
    (hsweep : (densOf s d).sweep = some w) (hswept : w.swept = some m) (hwaits : sweepWaits s d w = false) :
    exec (.densSweepDone d) s = .next (densEndWaited d (densSwept d w m s)) := by
  simp only [exec, execDensSweepDone, hzero, hsweep, hswept, hwaits, Bool.false_eq_true, if_false]
  rfl

/-- What a sweep that has sent its output leaves: it is over, reported if enabled, and a frame end that waited still waits. -/
structure SweepOver (d : Nat) (w : DensSweep) (s t : State) : Prop where
  zeroing : (densOf t d).zeroing = (densOf s d).zeroing
  ending : (densOf t d).ending = (densOf s d).ending
  frame : (densOf t d).frame = (densOf s d).frame
  sweep : (densOf t d).sweep = none
  sweeping : getB t .densStatus d 0 3 = false
  raised : bit w.set.out 21 = true →
    RaisedData s t 0x0705 (densUnit d) [.u32 w.frame.num, .u32 w.frame.hist, .u32 w.frame.turned]

theorem densSwept_over (hd : d < 4) (w : DensSweep) (m : List (Nat × Nat)) (s : State) : SweepOver d w s (densSwept d w m s) := by
  have hout := SweepWork.sweepOut hd w m s
  unfold densSwept
  extract_lets x
  have hon : Onward False False s x := .setB <| .withDens <| .sweepOut <| .refl s
  have hx : densOf x d = { densOf (sweepOut d w m s) d with sweep := none } := by
    rw [densOf_setB, densOf_withDens hd]
  have hreport {y : State} (hr : Reported eventOffs x y) (hraised : bit w.set.out 21 = true →
      RaisedData s y 0x0705 (densUnit d) [.u32 w.frame.num, .u32 w.frame.hist, .u32 w.frame.turned]) : SweepOver d w s y := by
    have hy : densOf y d = { densOf (sweepOut d w m s) d with sweep := none } := by rw [densOf_of_dens hr.dens, hx]
    refine ⟨by rw [hy]; exact hout.zeroing, by rw [hy]; exact hout.ending, by rw [hy]; exact hout.frame, by rw [hy], ?_, hraised⟩
    rw [getB_of_rd (hr.rd_eq _ _ _ ((densStatus_word d).quiet hd))]
    exact getB_setB _ _ _ _ _ _ (by decide)
  split
  · exact hreport (raise_reported _ _ _ _) fun _ => (raise_raisedData _ _ _ _).since hon
  · next h => exact hreport (.refl _ x) fun hb => absurd hb h

/-! Commits. -/

/-- What CLEAR and SNAPSHOT add to a commit that is pending. -/
theorem densPend_spec (hd : d < 4) (set : Option DensSet) (v : BitVec 32) (s : State) :
    (bit v 4 = true → (densOf (densPend d set v s) d).swap = true) ∧
      ((set.isSome || bit v 2 || bit v 3) = true → getB (densPend d set v s) .densStatus d 0 0 = true ∧
        ∃ c, (densOf (densPend d set v s) d).commit = some c ∧ (set.isSome = true → c.set = set) ∧
          (bit v 2 = true → c.clear = true) ∧ (bit v 3 = true → c.snap = true)) := by
  unfold densPend
  extract_lets clear snap s₁
  refine ⟨fun h => ?_, fun h => ?_⟩
  · have h₁ : (densOf s₁ d).swap = true := by simp only [s₁, h, if_true, densOf_withDens hd]
    split
    · rwa [densOf_setB, densOf_withDens hd]
    · exact h₁
  · rw [if_pos h, densOf_setB, densOf_withDens hd]
    exact ⟨getB_setB _ _ _ _ _ _ (by decide), _, rfl, fun h => if_pos h, fun h => by rw [show clear = true from h]; rfl,
      fun h => by rw [show snap = true from h]; rfl⟩

/-- MODE 0, or MODE 1 with a set that passes the checks: the commit is pending. -/
theorem densCommitEff_pend {v : BitVec 32} (h : fld v 0 2 = 0 ∨ (fld v 0 2 = 1 ∧ densFail s d (densStaged s d) = none)) :
    (densCommitEff d v s).1 = densPend d (if fld v 0 2 = 1 then some (densStaged s d) else none) v s := by
  rcases h with h | ⟨h, hfail⟩
  · simp only [densCommitEff, h]
    rfl
  · simp only [densCommitEff, h, hfail]
    rfl

/-- A set that fails the checks is reported, and nothing is pending that was not. -/
theorem densCommitEff_fail {v : BitVec 32} {off : Nat} (h : fld v 0 2 = 1) (hfail : densFail s d (densStaged s d) = some off) :
    (densCommitEff d v s).1 =
      raise 0x0703 (densUnit d) [.u32 off] (bump .densCount d 6 1 (setB .densStatus d 0 1 true s)) := by
  simp only [densCommitEff, h, hfail]

/-- MODE 3 gives up what is pending. -/
theorem densCommitEff_cancel {v : BitVec 32} (h : fld v 0 2 = 3) :
    (densCommitEff d v s).1 = setB .densStatus d 0 0 false (withDens d (fun x => { x with commit := none, swap := false }) s) := by
  simp only [densCommitEff, h]

/-- MODE 2, or MODE 1 with a set that fails the checks, leaves the engines alone. -/
theorem densCommitEff_dens {v : BitVec 32} (h : fld v 0 2 = 2 ∨ (fld v 0 2 = 1 ∧ densFail s d (densStaged s d) ≠ none)) :
    (densCommitEff d v s).1.dens = s.dens := by
  rcases h with h | ⟨h, hfail⟩
  · simp only [densCommitEff, h]
  · obtain ⟨off, hoff⟩ := Option.ne_none_iff_exists'.mp hfail
    rw [densCommitEff_fail h hoff]
    exact (raise_reported _ _ _ _).dens

/-- An open write of DENS_COMMIT is its effect and then its audit entry. -/
theorem densCommitW_reported {ag : AgentId} (v : BitVec 32) (hopen : WriteOpen s ag (Reg.off .densCommit d 0)) :
    Reported eventOffs (densCommitEff d v s).1 (densCommitW ag d v s) := guardW_open v hopen

theorem getB_densStatus_reported {b : Nat} (hd : d < 4) (h : Reported eventOffs s u) :
    getB u .densStatus d 0 b = getB s .densStatus d 0 b :=
  getB_of_rd (h.rd_eq _ _ _ ((densStatus_word d).quiet hd)) b

/-- Bits above MODE do not change it. -/
theorem fld_mode_or (v : BitVec 32) {k : BitVec 32} (hk : k.toNat % 2 ^ 2 = 0) : fld (v ||| k) 0 2 = fld v 0 2 := by
  simp only [fld, BitVec.toNat_or, pow_zero, Nat.div_one, Nat.or_mod_two_pow, hk, Nat.or_zero]

theorem fld_mode_next (v : BitVec 32) : fld ((v &&& 0xFFFFFFFC#32) ||| 1#32) 0 2 = 1 := by
  simp only [fld, BitVec.toNat_or, BitVec.toNat_and, pow_zero, Nat.div_one, Nat.or_mod_two_pow, Nat.and_mod_two_pow]
  simp

theorem bit_or {k : BitVec 32} {i : Nat} (v : BitVec 32) (hk : k.toNat.testBit i = true) : bit (v ||| k) i = true := by
  simp only [bit, BitVec.toNat_or, Nat.testBit_or, hk, Bool.or_true]

/-- Settles O33: a spectrum ends the frame before it if it begins a new grid, and is then taken into the frame in formation; a
sweep that is over lets the frame end go that waited for it; an open write of DENS_COMMIT is pending, refused or a cancel. -/
theorem densityCommandsComplete : Obligations.DensityCommandsComplete := by
  refine ⟨?spectrum, ?noSpectrum, ?pass, ?noPass, ?sweep, ?commit⟩
  case spectrum =>
    intro s d o r hd hs
    have htaken := densOf_densTaken hd r s
    refine ⟨fun hrun h => ?_, fun hrun hgrid hreceived hsweep hzero hcommit hframe => ?_,
      fun hrun => ⟨_, exec_densSpectrum_idle hs hrun, by rw [htaken], rfl⟩⟩
    · obtain ⟨x, hx, hin⟩ := densSpectrum_taken (s := densTaken d r s) hd (o := o) (by rw [htaken]; exact h)
      have hkept := densEndDue_inputs hd x
      have hexec := exec_densSpectrum hs hrun
      rw [hx] at hexec
      refine ⟨_, hexec, ?_, fun htrig => ?_, fun hz hfits => ?_, fun hfull => ?_⟩
      · rw [hkept.spectra, hin.engine, htaken]
      · rw [trigOf_of_trig (hkept.trig.trans (hin.trig.trans ((rowsSide_trig _ _ _ _).trans (if_pos htrig)))), trigOf_withTrig hd,
          htaken]
        rfl
      · have hroom : densRoom (densTaken d r s) d o = true := by simp [densRoom, htaken, hz, hfits]
        rw [hkept.queue, hin.engine, hroom, densQueued, htaken]
        rfl
      · have hroom : densRoom (densTaken d r s) d o = false := by
          rw [densRoom, htaken]
          rcases hfull with h | h <;> simp [h]
        refine ⟨?_, ?_⟩
        · rw [hkept.queue, hin.engine, hroom, htaken]
          rfl
        · rw [hkept.turned]
          exact hin.turned hroom
    · obtain ⟨y, hend, hin⟩ := densSpectrum_newGrid (s := densTaken d r s) hd (o := o) hgrid (by rw [htaken]; exact hreceived)
        (by rw [htaken]; exact hsweep) (by rw [htaken]; exact hzero) (by rw [htaken]; exact hcommit)
        (by rw [htaken]; exact hframe)
      refine ⟨_, exec_densSpectrum hs hrun, ?_, ?_, ?_, ?_⟩
      · rw [hin.engine, hend.spectra, htaken]
      · rw [hin.num, hend.num, htaken]
      · rw [hin.received, hend.received]
      · rw [hin.engine]
        exact hend.sweep
  case noSpectrum =>
    intro s d hs
    simp only [exec, execDensSpectrum, hs]
  case pass => exact fun s d e r hd hq => exec_densHistogramDone hd hq
  case noPass =>
    intro s d hq
    simp only [exec, execDensHistogramDone, hq]
  case sweep =>
    intro s d hd
    obtain ⟨hzeroed, hbit⟩ := densZeroed_spec hd s
    refine ⟨fun hz he => ?_, fun w m hz hw hm hwaits he => ?_, fun cut clear h he => ?_, fun w hz hw h => ?_, fun hz hw => ?_⟩
    · have hexec := exec_densSweepDone_zeroing hd hz
      rw [densEndWaited_none (by rw [hzeroed]; exact he)] at hexec
      exact ⟨_, hexec, by rw [hzeroed], hbit, by rw [hzeroed]⟩
    · have hover := densSwept_over hd w m s
      have hexec := exec_densSweepDone_swept hz hw hm hwaits
      rw [densEndWaited_none (by rw [hover.ending]; exact he)] at hexec
      exact ⟨_, hexec, hover.sweep, hover.sweeping, hover.raised⟩
    · -- x is the state in which the frame end that waited comes
      obtain ⟨x, hexec, hzero, hending, hframe⟩ : ∃ x, exec (.densSweepDone d) s = .next (densEndWaited d x) ∧
          (densOf x d).zeroing = false ∧ (densOf x d).ending = (densOf s d).ending ∧ (densOf x d).frame = (densOf s d).frame := by
        rcases h with hz | ⟨hz, w, hw, hswept, hwaits⟩
        · exact ⟨_, exec_densSweepDone_zeroing hd hz, by rw [hzeroed], by rw [hzeroed], by rw [hzeroed]⟩
        · obtain ⟨m, hm⟩ := Option.isSome_iff_exists.mp hswept
          have hover := densSwept_over hd w m s
          exact ⟨_, exec_densSweepDone_swept hz hw hm hwaits, hover.zeroing.trans hz, hover.ending, hover.frame⟩
      rw [densEndWaited_some (hending.trans he)] at hexec
      have hend := endFrame_ended hd cut clear x
      exact ⟨_, hexec, hend.zeroing.trans hzero, hend.ending, by rw [hend.num, hframe], hend.sweep, hend.sweeping⟩
    · simp only [exec, execDensSweepDone, hz, hw, Bool.false_eq_true, if_false]
      cases hm : w.swept with
      | none => rfl
      | some m => exact if_pos (h.resolve_left (by simp [hm]))
    · simp only [exec, execDensSweepDone, hz, hw, Bool.false_eq_true, if_false]
  case commit =>
    intro s ag d v hd hopen
    have pending (w : BitVec 32) (h : fld w 0 2 = 0 ∨ (fld w 0 2 = 1 ∧ densFail s d (densStaged s d) = none)) :
        Reported eventOffs (densPend d (if fld w 0 2 = 1 then some (densStaged s d) else none) w s) (densCommitW ag d w s) := by
      rw [← densCommitEff_pend h]
      exact densCommitW_reported w hopen
    have still (w : BitVec 32) (h : fld w 0 2 = 2 ∨ (fld w 0 2 = 1 ∧ densFail s d (densStaged s d) ≠ none)) :
        (densCommitW ag d w s).dens = s.dens := (densCommitW_reported w hopen).dens.trans (densCommitEff_dens h)
    have cancelled (w : BitVec 32) (h : fld w 0 2 = 3) : (densOf (densCommitW ag d w s) d).commit = none ∧
        (densOf (densCommitW ag d w s) d).swap = false ∧ getB (densCommitW ag d w s) .densStatus d 0 0 = false := by
      have hr := densCommitW_reported w hopen
      rw [densCommitEff_cancel h] at hr
      rw [densOf_of_dens hr.dens, getB_densStatus_reported hd hr, densOf_setB, densOf_withDens hd]
      exact ⟨rfl, rfl, getB_setB _ _ _ _ _ _ (by decide)⟩
    have hclear := fld_mode_or v (k := 4#32) rfl
    have hsnap := fld_mode_or v (k := 8#32) rfl
    have hswap := fld_mode_or v (k := 16#32) rfl
    refine ⟨fun hok => ?_, fun off hoff => ?_, ⟨_, rfl, cancelled 3 rfl⟩, fun h => ⟨?_, ?_, ?_⟩,
      fun h => ⟨⟨_, rfl, still _ (hclear.symm ▸ h)⟩, ⟨_, rfl, still _ (hsnap.symm ▸ h)⟩, ⟨_, rfl, still _ (hswap.symm ▸ h)⟩⟩,
      fun h => ⟨?_, ?_, ?_⟩⟩
    · have hmode := fld_mode_next v
      have hr := pending _ (.inr ⟨hmode, hok⟩)
      rw [if_pos hmode] at hr
      obtain ⟨hbit, c, hc, hset, -, -⟩ := (densPend_spec hd (some (densStaged s d)) ((v &&& 0xFFFFFFFC#32) ||| 1#32) s).2 rfl
      exact ⟨_, c, rfl, by rw [densOf_of_dens hr.dens, hc], hset rfl, by rw [getB_densStatus_reported hd hr, hbit]⟩
    · have hr := densCommitW_reported ((v &&& 0xFFFFFFFC#32) ||| 1#32) hopen
      rw [densCommitEff_fail (fld_mode_next v) hoff] at hr
      have hr' := raise_reported 0x0703 (densUnit d) [.u32 off] (bump .densCount d 6 1 (setB .densStatus d 0 1 true s))
      have hon : Onward False False s (bump .densCount d 6 1 (setB .densStatus d 0 1 true s)) := .bump <| .setB <| .refl s
      refine ⟨_, rfl, ((raise_raisedData _ _ _ _).since hon).onward (P := False) (Q := False) hr.onward, ?_, hr.dens.trans hr'.dens⟩
      rw [getB_densStatus_reported hd hr, getB_densStatus_reported hd hr', getB_bump_densCount]
      exact getB_setB _ _ _ _ _ _ (by decide)
    · have hr := pending (v ||| 4#32) (hclear.symm ▸ h)
      have hbit : bit (v ||| 4#32) 2 = true := bit_or v rfl
      obtain ⟨-, c, hc, -, hadded, -⟩ := (densPend_spec hd _ (v ||| 4#32) s).2 (by rw [hbit, Bool.or_true, Bool.true_or])
      exact ⟨_, c, rfl, by rw [densOf_of_dens hr.dens, hc], hadded hbit⟩
    · have hr := pending (v ||| 8#32) (hsnap.symm ▸ h)
      have hbit : bit (v ||| 8#32) 3 = true := bit_or v rfl
      obtain ⟨-, c, hc, -, -, hadded⟩ := (densPend_spec hd _ (v ||| 8#32) s).2 (by rw [hbit, Bool.or_true])
      exact ⟨_, c, rfl, by rw [densOf_of_dens hr.dens, hc], hadded hbit⟩
    · have hr := pending (v ||| 16#32) (hswap.symm ▸ h)
      exact ⟨_, rfl, by rw [densOf_of_dens hr.dens]; exact (densPend_spec hd _ (v ||| 16#32) s).1 (bit_or v rfl)⟩
    · obtain ⟨hcommit, hbank, -⟩ := cancelled (v ||| 4#32) (hclear.trans h)
      exact ⟨_, rfl, hcommit, hbank⟩
    · obtain ⟨hcommit, hbank, -⟩ := cancelled (v ||| 8#32) (hsnap.trans h)
      exact ⟨_, rfl, hcommit, hbank⟩
    · obtain ⟨hcommit, hbank, -⟩ := cancelled (v ||| 16#32) (hswap.trans h)
      exact ⟨_, rfl, hcommit, hbank⟩

end Sys2Proof.Machine
end

section
/-! SUPPORT. Spectral engines: what records and traces that are sent leave alone, and how far input samples move an engine (06
R238, R241, R257 to R268). -/

namespace Sys2Proof.Machine

variable {s s₀ u : State} {e : Nat}

/-! Engines and their register words. -/

theorem specOf_of_spec (h : u.spec = s.spec) (m : Nat) : specOf u m = specOf s m := by rw [specOf, h, specOf]

theorem specOf_withSpec (he : e < 4) (f : Spec → Spec) (s : State) : specOf (withSpec e f s) e = f (specOf s e) :=
  vget_vset_self _ _ _ _ he

theorem specOf_withSpec_ne {m : Nat} (hm : m ≠ e) (f : Spec → Spec) (s : State) :
    specOf (withSpec e f s) m = specOf s m := vget_vset_ne _ _ _ hm

section
variable (r : Reg) (i j k w x n : Nat) (s : State) (m : Nat)
@[simp] theorem specOf_setF : specOf (setF r i j k w x s) m = specOf s m := rfl
@[simp] theorem specOf_setB (b : Bool) : specOf (setB r i j k b s) m = specOf s m := rfl
@[simp] theorem specOf_bumpEpoch : specOf (bumpEpoch n s) m = specOf s m := rfl
@[simp] theorem rd_withSpec (f : Spec → Spec) : rd (withSpec n f s) r i j = rd s r i j := rfl
@[simp] theorem getB_withSpec (f : Spec → Spec) : getB (withSpec n f s) r i j k = getB s r i j k := rfl
@[simp] theorem units_withSpec (f : Spec → Spec) : (withSpec n f s).units = s.units := rfl
@[simp] theorem trig_withSpec (f : Spec → Spec) : (withSpec n f s).trig = s.trig := rfl
@[simp] theorem dens_withSpec (f : Spec → Spec) : (withSpec n f s).dens = s.dens := rfl
@[simp] theorem ustate_withSpec (f : Spec → Spec) : ustate (withSpec n f s) m = ustate s m := rfl
end

section
variable (e k : Nat)
theorem specStatus_off : Reg.off .specStatus e 0 = 0xA0007C + e * 0x1000 := rfl
theorem specWinAddr_off : Reg.off .specWinAddr e 0 = 0xA00080 + e * 0x1000 := rfl
theorem specWinEnbw_off : Reg.off .specWinEnbw e 0 = 0xA00088 + e * 0x1000 := rfl
theorem specWinRef_off : Reg.off .specWinRef e 0 = 0xA0008C + e * 0x1000 := rfl
theorem specSeq_off : Reg.off .specSeq e k = 0xA00090 + e * 0x1000 + k * 4 := rfl
theorem specCount_off : Reg.off .specCount e k = 0xA000A0 + e * 0x1000 + k * 4 := rfl
theorem specCoreCount_off (n : Nat) : Reg.off .specCoreCount n k = 0xA08040 + n * 0x100 + k * 4 := rfl
end

/-- The register words of engine e below its counters. -/
def SpecWord (e o : Nat) : Prop := 0xA00000 + e * 0x1000 ≤ o ∧ o < 0xA000A0 + e * 0x1000

theorem SpecWord.quiet {o : Nat} (h : SpecWord e o) (he : e < 4) : o ∉ eventOffs := by
  obtain ⟨hlo, hhi⟩ := h
  intro hmem
  have hout : ∀ x ∈ eventOffs, x < 0xA00000 ∨ 0xA04000 ≤ x := by decide
  rcases hout o hmem with h | h <;> omega

theorem SpecWord.ne_specCount {o : Nat} (h : SpecWord e o) (k : Nat) : o ≠ Reg.off .specCount e k := by
  obtain ⟨-, hhi⟩ := h
  rw [specCount_off]
  omega

theorem SpecWord.ne_specCoreCount {o : Nat} (h : SpecWord e o) (he : e < 4) (n k : Nat) :
    o ≠ Reg.off .specCoreCount n k := by
  obtain ⟨-, hhi⟩ := h
  rw [specCoreCount_off]
  omega

theorem specStatus_word (e : Nat) : SpecWord e (Reg.off .specStatus e 0) := by
  rw [specStatus_off]
  exact ⟨by omega, by omega⟩

theorem specWinAddr_word (e : Nat) : SpecWord e (Reg.off .specWinAddr e 0) := by
  rw [specWinAddr_off]
  exact ⟨by omega, by omega⟩

theorem specSeq_word (e : Nat) : SpecWord e (Reg.off .specSeq e 0) := by
  rw [specSeq_off]
  exact ⟨by omega, by omega⟩

theorem getB_specStatus_reported {b : Nat} (he : e < 4) (h : Reported eventOffs s u) :
    getB u .specStatus e 0 b = getB s .specStatus e 0 b :=
  getB_of_rd (h.rd_eq _ _ _ ((specStatus_word e).quiet he)) b

/-! Work that keeps a view of the engine. -/

/-- From s₀ to s the view of engine e is the same, and so are the other engines, the trigger and density engines, the unit
headers and the register words of engine e below its counters. -/
structure SpecKept {α : Type} (view : Spec → α) (e : Nat) (s₀ s : State) : Prop where
  engine : view (specOf s e) = view (specOf s₀ e)
  other : ∀ m, m ≠ e → specOf s m = specOf s₀ m
  trig : s.trig = s₀.trig
  dens : s.dens = s₀.dens
  units : s.units = s₀.units
  regs : ∀ o, SpecWord e o → spGet s.regs o 0 = spGet s₀.regs o 0

/-- The engine but for the record and the trace in formation. -/
def Spec.unsent (x : Spec) : Spec :=
  { x with form := none, formSet := none, entries := [], trace := none, traceSet := none, tacc := [], tcount := 0, tflags := 0 }

/-- The number of the next spectrum and how many frames wait to be computed. -/
def Spec.tally (x : Spec) : Nat × Nat := (x.seq, x.ready.length)

namespace SpecKept

variable {α : Type} {view : Spec → α}

theorem refl (view : Spec → α) (e : Nat) (s : State) : SpecKept view e s s := ⟨rfl, fun _ _ => rfl, rfl, rfl, rfl, fun _ _ => rfl⟩

theorem tally (h : SpecKept Spec.unsent e s₀ s) : SpecKept Spec.tally e s₀ s :=
  ⟨(congrArg Spec.tally h.engine :), h.other, h.trig, h.dens, h.units, h.regs⟩

theorem bank (h : SpecKept Spec.unsent e s₀ s) : (specOf s e).bank = (specOf s₀ e).bank := (congrArg Spec.bank h.engine :)

theorem trans (h : SpecKept view e s₀ s) (k : SpecKept view e s u) : SpecKept view e s₀ u :=
  ⟨k.engine.trans h.engine, fun m hm => (k.other m hm).trans (h.other m hm), k.trig.trans h.trig, k.dens.trans h.dens,
    k.units.trans h.units, fun o ho => (k.regs o ho).trans (h.regs o ho)⟩

theorem ustate_eq (h : SpecKept view e s₀ s) (n : Nat) : ustate s n = ustate s₀ n := ustate_of_units h.units n

theorem rd_eq (h : SpecKept view e s₀ s) {r : Reg} {i j : Nat} (hw : SpecWord e (r.off i j)) : rd s r i j = rd s₀ r i j :=
  rd_of_off (h.regs _ hw)

theorem ite {p : Prop} {_ : Decidable p} (hs : SpecKept view e s₀ s) (hu : SpecKept view e s₀ u) :
    SpecKept view e s₀ (if p then s else u) := by
  split <;> assumption

theorem foldl {β : Type} {f : State → β → State} {l : List β} (hs : SpecKept view e s₀ s)
    (hf : ∀ s b, SpecKept view e s₀ s → SpecKept view e s₀ (f s b)) : SpecKept view e s₀ (l.foldl f s) :=
  List.foldlRecOn l f hs fun s h b _ => hf s b h

theorem free {x : Nat} (hs : SpecKept view e s₀ s) : SpecKept view e s₀ { s with free := x } :=
  ⟨hs.1, hs.2, hs.3, hs.4, hs.5, hs.6⟩
theorem time {x : TimeState} (hs : SpecKept view e s₀ s) : SpecKept view e s₀ { s with time := x } :=
  ⟨hs.1, hs.2, hs.3, hs.4, hs.5, hs.6⟩
theorem offer {i : Item} (hs : SpecKept view e s₀ s) : SpecKept view e s₀ (offer i s) :=
  ⟨hs.1, hs.2, hs.3, hs.4, hs.5, hs.6⟩

theorem portTook {src stream : Nat} (hs : SpecKept view e s₀ s) : SpecKept view e s₀ (portTook src stream s).2 := by
  unfold Machine.portTook
  split
  exacts [.free hs, hs]

theorem count {k n : Nat} (hs : SpecKept view e s₀ s) : SpecKept view e s₀ (bump .specCount e k n s) :=
  ⟨hs.1, hs.2, hs.3, hs.4, hs.5, fun o ho => by
    rw [← hs.regs o ho]
    exact spGet_wr_ne s _ _ _ _ (ho.ne_specCount k)⟩

section
variable (he : e < 4)
include he

theorem coreCount {n k : Nat} {v : BitVec 32} (hs : SpecKept view e s₀ s) :
    SpecKept view e s₀ (wr .specCoreCount n k v s) :=
  ⟨hs.1, hs.2, hs.3, hs.4, hs.5, fun o ho => by rw [spGet_wr_ne s _ _ _ _ (ho.ne_specCoreCount he n k), hs.regs o ho]⟩

theorem report (hs : SpecKept view e s₀ s) (h : Reported eventOffs s u) : SpecKept view e s₀ u := by
  refine ⟨?_, fun m hm => ?_, h.trig.trans hs.trig, h.dens.trans hs.dens, h.units.trans hs.units, fun o ho => ?_⟩
  · rw [specOf_of_spec h.spec, hs.engine]
  · rw [specOf_of_spec h.spec, hs.other m hm]
  · rw [h.regs o (ho.quiet he), hs.regs o ho]

theorem raiseRated {code n k : Nat} {q : List EvField} (hs : SpecKept view e s₀ s) :
    SpecKept view e s₀ (raiseRated code n q k s) := report he hs (raiseRated_reported _ _ _ _ _)

theorem withSpec {f : Spec → Spec} (hs : SpecKept view e s₀ s) (hf : view (f (specOf s e)) = view (specOf s e)) :
    SpecKept view e s₀ (withSpec e f s) := by
  refine ⟨?_, fun m hm => ?_, hs.trig, hs.dens, hs.units, hs.regs⟩
  · rw [specOf_withSpec he, hf, hs.engine]
  · rw [specOf_withSpec_ne hm, hs.other m hm]

theorem specOffer {stream : Nat} {took : Bool} {i : Item} (hs : SpecKept view e s₀ s) :
    SpecKept view e s₀ (specOffer e stream took i s) := .ite (.offer hs) (.raiseRated he <| .count hs)

theorem specSat {k : Nat} (hs : SpecKept view e s₀ s) : SpecKept view e s₀ (specSat e k s) :=
  .ite hs (.raiseRated he <| .count hs)

theorem specCloseRec {took : Bool} (hs : SpecKept Spec.unsent e s₀ s) :
    SpecKept Spec.unsent e s₀ (specCloseRec e took s) := by
  unfold Machine.specCloseRec
  extract_lets +onlyGivenNames _
  split
  exacts [.specOffer he <| .withSpec he hs rfl, hs]

theorem specEmitTrace {extra : Nat} {took : Bool} (hs : SpecKept Spec.unsent e s₀ s) :
    SpecKept Spec.unsent e s₀ (specEmitTrace e extra took s) := by
  unfold Machine.specEmitTrace
  extract_lets +onlyGivenNames _
  split
  · extract_lets vs flags bytes payload item k s₁
    have h₁ : SpecKept Spec.unsent e s₀ s₁ := .ite hs (.coreCount he hs)
    clear_value s₁
    exact .specOffer he <| .specSat he <| .withSpec he h₁ rfl
  · exact hs

theorem specFinish (hs : SpecKept Spec.unsent e s₀ s) : SpecKept Spec.unsent e s₀ (specFinish e s) :=
  .specEmitTrace he <| .portTook <| .specCloseRec he <| .portTook hs

end

end SpecKept

/-! Input samples. -/

/-- The index of the next input sample. -/
def Spec.pos (x : Spec) : Int := x.base + x.samples.length

/-- From s₀ to s engine e has taken k input samples and no item, and the other engines have done nothing. -/
structure SpecMoved (e : Nat) (k : Int) (s₀ s : State) : Prop where
  pos : (specOf s e).pos = (specOf s₀ e).pos + k
  lastSeq : (specOf s e).lastSeq = (specOf s₀ e).lastSeq
  other : ∀ m, m ≠ e → specOf s m = specOf s₀ m

namespace SpecMoved

variable {k : Int}

theorem refl (e : Nat) (s : State) : SpecMoved e 0 s s := ⟨(add_zero _).symm, rfl, fun _ _ => rfl⟩

/-- An operation that leaves every engine alone. -/
theorem of_spec (hs : SpecMoved e k s₀ s) (h : u.spec = s.spec) : SpecMoved e k s₀ u :=
  ⟨by rw [specOf_of_spec h, hs.pos], by rw [specOf_of_spec h, hs.lastSeq], fun m hm => by rw [specOf_of_spec h, hs.other m hm]⟩

theorem of_unsent (hs : SpecMoved e k s₀ s) (h : SpecKept Spec.unsent e s u) : SpecMoved e k s₀ u :=
  ⟨(congrArg Spec.pos h.engine).trans hs.pos, (congrArg Spec.lastSeq h.engine).trans hs.lastSeq,
    fun m hm => (h.other m hm).trans (hs.other m hm)⟩

theorem ite {p : Prop} {_ : Decidable p} (hs : SpecMoved e k s₀ s) (hu : SpecMoved e k s₀ u) :
    SpecMoved e k s₀ (if p then s else u) := by
  split <;> assumption

/-- A fold whose every step takes j samples. -/
theorem foldl_add {β : Type} {f : State → β → State} {l : List β} {j : Int} (hs : SpecMoved e k s₀ s)
    (hf : ∀ k s b, SpecMoved e k s₀ s → SpecMoved e (k + j) s₀ (f s b)) : SpecMoved e (k + l.length * j) s₀ (l.foldl f s) := by
  induction l generalizing k s with
  | nil => simpa using hs
  | cons b r ih =>
    have h := ih (hf k s b hs)
    rwa [add_assoc, ← one_add_mul, add_comm 1, ← Nat.cast_add_one] at h

theorem offer {i : Item} (hs : SpecMoved e k s₀ s) : SpecMoved e k s₀ (offer i s) := hs.of_spec rfl
theorem raise {code n : Nat} {data : List EvField} (hs : SpecMoved e k s₀ s) : SpecMoved e k s₀ (raise code n data s) :=
  hs.of_spec (raise_reported _ _ _ _).spec

theorem bump {r : Reg} {i j n : Nat} (hs : SpecMoved e k s₀ s) : SpecMoved e k s₀ (bump r i j n s) := hs.of_spec rfl

theorem setF {r : Reg} {i j lo w x : Nat} (hs : SpecMoved e k s₀ s) : SpecMoved e k s₀ (setF r i j lo w x s) := hs.of_spec rfl
theorem setB {r : Reg} {i j n : Nat} {b : Bool} (hs : SpecMoved e k s₀ s) : SpecMoved e k s₀ (setB r i j n b s) := hs.of_spec rfl
theorem bumpEpoch {n : Nat} (hs : SpecMoved e k s₀ s) : SpecMoved e k s₀ (bumpEpoch n s) := hs.of_spec rfl

theorem specPut {l : List (Nat × Nat)} {b : List Byte} (hs : SpecMoved e k s₀ s) : SpecMoved e k s₀ (specPut e l b s) := by
  induction l generalizing b s with
  | nil => exact hs
  | cons p r ih => exact ih hs.offer

theorem specStore {n0 : Int} {xs : List Cx} (hs : SpecMoved e k s₀ s) : SpecMoved e k s₀ (specStore e n0 xs s) := by
  unfold Machine.specStore
  extract_lets +onlyGivenNames _
  refine .ite ?_ hs
  split
  exacts [hs.specPut, hs]

theorem winActive {n : Nat} {bank : List Nat} (hs : SpecMoved e k s₀ s) : SpecMoved e k s₀ (winActive e bank n s) :=
  .ite (hs.of_spec rfl) (hs.of_spec rfl)

section
variable (he : e < 4)
include he

theorem withSpec {f : Spec → Spec} {j : Int} (hs : SpecMoved e k s₀ s) (hp : (f (specOf s e)).pos = (specOf s e).pos + j)
    (hl : (f (specOf s e)).lastSeq = (specOf s e).lastSeq) : SpecMoved e (k + j) s₀ (withSpec e f s) :=
  ⟨by rw [specOf_withSpec he, hp, hs.pos, add_assoc], by rw [specOf_withSpec he, hl, hs.lastSeq],
    fun m hm => by rw [specOf_withSpec_ne hm, hs.other m hm]⟩

/-- A change of something else about the engine. -/
theorem withSpec_still {f : Spec → Spec} (hs : SpecMoved e k s₀ s) (hp : (f (specOf s e)).pos = (specOf s e).pos)
    (hl : (f (specOf s e)).lastSeq = (specOf s e).lastSeq) : SpecMoved e k s₀ (Machine.withSpec e f s) := by
  simpa using withSpec he hs (j := 0) (by rw [hp, add_zero]) hl

theorem specAbandon (hs : SpecMoved e k s₀ s) : SpecMoved e k s₀ (specAbandon e s).2 := by
  unfold Machine.specAbandon
  dsimp only
  exact .withSpec_still he (.bump hs) rfl rfl

theorem specAsk {ps : List (Nat × Nat)} (hs : SpecMoved e k s₀ s) : SpecMoved e k s₀ (specAsk e ps s) :=
  List.foldlRecOn ps _ (.withSpec_still he hs rfl rfl) fun _ h _ _ => h.offer

theorem specPump (hs : SpecMoved e k s₀ s) : SpecMoved e k s₀ (specPump e s) := by
  unfold Machine.specPump
  split
  exacts [.ite (.specAsk he <| .withSpec_still he hs rfl rfl) hs, hs]

theorem specApply {q0 : Int} {c : SpecCommit} (hs : SpecMoved e k s₀ s) : SpecMoved e k s₀ (specApply e q0 c s) := by
  unfold Machine.specApply
  extract_lets s₁ gen s₂ x s₃ s₄
  have h₁ : SpecMoved e k s₀ s₁ := .ite (.winActive <| .withSpec_still he hs rfl rfl) hs
  have h₂ : SpecMoved e k s₀ s₂ := .bumpEpoch <| .setB <| .setF h₁
  clear_value s₂ s₁
  have h₃ : SpecMoved e k s₀ s₃ := .ite (h₂.of_unsent <| .specFinish he <| .refl _ e s₂) h₂
  exact .raise <| .withSpec_still he h₃ rfl rfl

theorem specJudge {n time : Int} (hs : SpecMoved e k s₀ s) : SpecMoved e k s₀ (specJudge e n time s) := by
  unfold Machine.specJudge
  refine .ite hs ?_
  extract_lets s₁
  have h₁ : SpecMoved e k s₀ s₁ := .withSpec_still he hs rfl rfl
  split
  exacts [.ite (specApply he h₁) h₁, h₁]

theorem specBegin {n : Int} {r : SpecRun} (hs : SpecMoved e k s₀ s) : SpecMoved e k s₀ (specBegin e n r s) := by
  unfold Machine.specBegin
  extract_lets x
  split
  exact .withSpec_still he hs rfl rfl

theorem specStarts {n : Nat} (hs : SpecMoved e k s₀ s) : SpecMoved e k s₀ (specStarts e n s) := by
  induction n generalizing s with
  | zero => exact hs
  | succ n ih =>
    unfold Machine.specStarts
    dsimp only
    split
    · exact hs
    · refine .ite ?_ hs
      split
      · exact ih (.specBegin he <| .specJudge he hs)
      · exact specJudge he hs

end

/-- Frames still begun hold no sample later than those received. -/
theorem foldl_min_start_le (l : List SpecFrame) (m : Int) :
    l.foldl (fun m f => if f.run.set.big then m else min m f.start) m ≤ m :=
  List.foldlRecOn (motive := (· ≤ m)) l _ le_rfl fun x hx f _ => by
    split
    exacts [hx, (min_le_left _ _).trans hx]

/-- Samples let go of are passed over. -/
theorem pos_drop {base held : Int} {l : List Cx} (h : held ≤ base + l.length) :
    max base held + ((l.drop (held - base).toNat).length : Int) = base + l.length := by
  rw [List.length_drop]
  omega

section
variable (he : e < 4)
include he

theorem specReady (hs : SpecMoved e k s₀ s) : SpecMoved e k s₀ (specReady e s) :=
  .withSpec_still he hs (pos_drop (foldl_min_start_le _ _)) rfl

/-- The samples of an item. -/
theorem specTake {r : InRec} {xs : List Cx} (hs : SpecMoved e k s₀ s) : SpecMoved e (k + xs.length) s₀ (specTake e r xs s) := by
  have h := withSpec he (f := fun x => { x with recs := r :: x.recs, samples := x.samples ++ xs }) (j := xs.length) hs
    (by simp [Spec.pos, add_assoc]) rfl
  exact specPump he <| specReady he <| .specStore <| specStarts he h

/-- The zero samples of the missing items. -/
theorem specGap {miss : Nat} (hs : SpecMoved e k s₀ s) : SpecMoved e (k + miss * 1024) s₀ (specGap e miss s) := by
  unfold Machine.specGap
  split
  next h => simpa [h] using hs
  next h =>
    have hlen : (miss : Int) = (List.range miss).length := by rw [List.length_range]
    rw [hlen]
    refine foldl_add (.raise <| .bump hs) fun k s _ h => ?_
    have h' (r : InRec) := specTake he (r := r) (xs := List.replicate 1024 (0, 0)) h
    rw [List.length_replicate, Nat.cast_ofNat] at h'
    exact h' _

end

end SpecMoved

end Sys2Proof.Machine
end

section
/-! SUPPORT. What an item, a computed frame and a core's fault leave of a spectral engine (06 R238, R240, R243, R260; 21 R636). -/

namespace Sys2Proof.Machine

variable {s s₀ u : State} {e : Nat}

/-! An item. -/

/-- A new generation goes on at the next sample and is reported. -/
theorem specRestart_spec (he : e < 4) (s : State) :
    SpecMoved e 0 s (specRestart e s) ∧ Raised s (specRestart e s) 0x0407 (specUnit e) := by
  unfold specRestart specAbandon
  dsimp -zeta only
  extract_lets x k s₁
  have h₁ : SpecMoved e 0 s s₁ :=
    .raise <| .bump <| .specAbandon he <| .refl e s
  refine ⟨.withSpec_still he h₁ ?_ rfl, ?_⟩
  · simp [Spec.pos]
  · have hon : Onward False False s (bump .specCount e 2 1 (specAbandon e s).2) := .bump <| .specAbandon <| .refl s
    exact ((raise_raisedData _ _ _ _).since hon).raised.of_events rfl rfl

/-- Missing items are reported. -/
theorem specGap_raised {miss : Nat} (h : miss ≠ 0) (s : State) :
    RaisedData s (specGap e miss s) 0x0406 (specUnit e) [.u32 (1024 * miss)] := by
  unfold specGap
  rw [if_neg h]
  have hr : RaisedData s (raise 0x0406 (specUnit e) [.u32 (1024 * miss)] (bump .specCount e 1 (1024 * miss) s)) 0x0406
      (specUnit e) [.u32 (1024 * miss)] :=
    (raise_raisedData _ _ _ _).since (Onward.bump (P := False) (Q := False) (.refl s))
  exact hr.onward (P := False) (Q := False) (.foldl (.refl _) fun _ _ h => .specTake h)

/-- What precedes an item's samples: a restart, or the zero samples of the missing items. -/
def specLed (e : Nat) (i : Item) (s : State) : State :=
  if (itemGeneration i (specOf s e).ended).1 then specRestart e s else specGap e (missingItems (specOf s e).lastSeq i.seq) s

/-- What an item leaves: its samples taken and its number kept. -/
theorem specInput_spec (he : e < 4) (i : Item) (s : State) :
    (specOf (specInput e i s) e).lastSeq = some i.seq ∧
      (specOf (specInput e i s) e).pos = (specOf (specLed e i s) e).pos + 1024 ∧
      (∀ m, m ≠ e → specOf (specInput e i s) m = specOf (specLed e i s) m) ∧
      Onward False False (specLed e i s) (specInput e i s) := by
  obtain ⟨f, r, hf, hseq, hpos⟩ : ∃ (f : Spec → Spec) (r : InRec),
      specInput e i s = specTake e r ((List.range 1024).map (itemSample i)) (withSpec e f (specLed e i s)) ∧
        (∀ x, (f x).lastSeq = some i.seq) ∧ ∀ x, (f x).pos = x.pos :=
    ⟨_, _, rfl, fun _ => rfl, fun _ => rfl⟩
  have h := SpecMoved.specTake he (r := r) (xs := (List.range 1024).map (itemSample i)) (.refl e (withSpec e f (specLed e i s)))
  rw [List.length_map, List.length_range, Nat.cast_ofNat, zero_add] at h
  rw [hf]
  refine ⟨?_, ?_, fun m hm => ?_, .specTake <| .withSpec <| .refl _⟩
  · rw [h.lastSeq, specOf_withSpec he, hseq]
  · rw [h.pos, specOf_withSpec he, hpos]
  · rw [h.other m hm, specOf_withSpec_ne hm]

/-! A computed frame. -/

/-- The trigger engine and then the density engine of the channel get the spectrum, each if it runs. -/
theorem specSide_eq (e : Nat) (o : SpecOut) (s : State) : specSide e o s =
    let x := if ustate s (trigUnit e) = .running then withTrig e (fun t => { t with spectra := t.spectra ++ [o] }) s else s
    if ustate s (densUnit e) = .running then withDens e (fun x => { x with spectra := x.spectra ++ [o] }) x else x := by
  by_cases h : ustate s (trigUnit e) = .running
  · simp only [specSide, if_pos h]
    rfl
  · simp only [specSide, if_neg h]
    rfl

theorem specSide_rest (e : Nat) (o : SpecOut) (s : State) :
    specSide e o s = { s with trig := (specSide e o s).trig, dens := (specSide e o s).dens } := by
  rw [specSide_eq]
  dsimp only
  split <;> split <;> rfl

theorem specSide_trig (e : Nat) (o : SpecOut) (s : State) : (specSide e o s).trig =
    if ustate s (trigUnit e) = .running then (withTrig e (fun t => { t with spectra := t.spectra ++ [o] }) s).trig else s.trig := by
  rw [specSide_eq]
  dsimp only
  split <;> split <;> rfl

theorem specSide_dens (e : Nat) (o : SpecOut) (s : State) : (specSide e o s).dens =
    if ustate s (densUnit e) = .running then (withDens e (fun x => { x with spectra := x.spectra ++ [o] }) s).dens else s.dens := by
  rw [specSide_eq]
  dsimp only
  split <;> split <;> rfl

theorem specSide_congr (e : Nat) (o : SpecOut) (htrig : u.trig = s.trig) (hdens : u.dens = s.dens) (hunits : u.units = s.units) :
    (specSide e o u).trig = (specSide e o s).trig ∧ (specSide e o u).dens = (specSide e o s).dens := by
  constructor
  · rw [specSide_trig, specSide_trig, ustate_of_units hunits, withTrig, trigOf, htrig]
    rfl
  · rw [specSide_dens, specSide_dens, ustate_of_units hunits, withDens, densOf, hdens]
    rfl

/-- From s to t engine e has computed a frame and put out its spectrum o. -/
structure SpecDone (e : Nat) (o : SpecOut) (s t : State) : Prop where
  tally : (specOf t e).tally = (((specOf s e).seq + 1) % 2 ^ 48, (specOf s e).ready.length)
  units : t.units = s.units
  trig : t.trig = (specSide e o s).trig
  dens : t.dens = (specSide e o s).dens
  number : rd t .specSeq e 0 = BitVec.ofNat 32 (specOf s e).seq

theorem SpecDone.later {o : SpecOut} {t : State} (h : SpecDone e o s t) (k : SpecKept Spec.tally e t u) : SpecDone e o s u :=
  ⟨k.engine.trans h.tally, k.units.trans h.units, k.trig.trans h.trig, k.dens.trans h.dens,
    (k.rd_eq (specSeq_word e)).trans h.number⟩

theorem spectrumComputed_done (he : e < 4) (a b : Bool) (fr : SpecFrame) (s : State) :
    ∃ o : SpecOut, o.seq = (specOf s e).seq ∧ o.channel = e ∧ o.size = fr.run.set.n ∧
      SpecDone e o s (spectrumComputed e a b fr s) := by
  unfold spectrumComputed
  extract_lets r c core s₁ s₂ f sp s₃ bins q dq d dt clamps flags seq s₄ s₅ s₆ s₇ send one
  -- up to the number in SPEC_SEQ
  have h₁ : SpecKept Spec.unsent e s s₁ :=
    .ite (.specFinish he <| .refl _ e s) (.ite (.specEmitTrace he <| .refl _ e s) (.refl _ e s))
  have h₂ : SpecKept Spec.tally e s s₂ := .withSpec he h₁.tally rfl
  have h₃ : SpecKept Spec.tally e s s₃ := .ite (.free h₂) h₂
  have hseq : seq = (specOf s e).seq := congrArg Prod.fst h₃.engine
  have hwr : specOf s₄ e = specOf s₃ e ∧ s₄.units = s₃.units ∧ s₄.trig = s₃.trig ∧ s₄.dens = s₃.dens := ⟨rfl, rfl, rfl, rfl⟩
  have hnumber : rd s₄ .specSeq e 0 = BitVec.ofNat 32 seq := rd_wr _ _ _ _ _
  -- up to the side paths
  have h₅ : SpecKept Spec.tally e s₄ s₅ := .coreCount he <| .refl _ e s₄
  have h₆ : SpecKept Spec.tally e s₄ s₆ := .specSat he <| .ite h₅ (.coreCount he h₅)
  have h₇ : SpecKept Spec.tally e s₄ s₇ := .ite (.count h₆) h₆
  generalize hst : stampFrom (specUnit e) _ _ s₇ = p
  obtain ⟨st, s₈⟩ := p
  have h₈ : SpecKept Spec.tally e s₄ s₈ := by
    cases hst
    exact .time h₇
  dsimp -zeta only
  extract_lets info s₉ s₁₀ s₁₁ s₁₂
  obtain ⟨out, hout, hoseq, hchannel, hsize⟩ : ∃ o : SpecOut, s₉ = specSide e o s₈ ∧ o.seq = seq ∧ o.channel = e ∧
      o.size = fr.run.set.n := ⟨_, rfl, rfl, rfl, rfl⟩
  obtain ⟨g, hs₁₀, hg⟩ : ∃ g : Spec → Spec, s₁₀ = withSpec e g s₉ ∧
      ∀ x, (g x).tally = ((x.tally.1 + 1) % 2 ^ 48, x.tally.2) :=
    ⟨_, rfl, fun x => by rw [Spec.tally, List.length_map, Spec.tally]⟩
  have h₁₁ : SpecKept Spec.tally e s₁₀ s₁₁ := .ite (.tally <| .specCloseRec he <| .refl _ e s₁₀) (.refl _ e s₁₀)
  have h₁₂ : SpecKept Spec.tally e s₁₀ s₁₂ := .withSpec he h₁₁ rfl
  have h₁₀ : SpecDone e out s s₁₀ := by
    obtain ⟨hengine, hunits, htrig, hdens⟩ := hwr
    have hunits := h₈.units.trans (hunits.trans h₃.units)
    have hside := specSide_congr e out (h₈.trig.trans (htrig.trans h₃.trig)) (h₈.dens.trans (hdens.trans h₃.dens)) hunits
    have hrest := hout.trans (specSide_rest e out s₈)
    clear_value s₁₂ s₁₁ s₁₀ s₉ s₇ s₆ s₅ s₄ seq
    refine ⟨?_, ?_, ?_, ?_, ?_⟩
    · rw [hs₁₀, specOf_withSpec he, hg, specOf_of_spec (s := s₈) (by rw [hrest]), h₈.engine, hengine, h₃.engine]
      rfl
    · rw [hs₁₀, units_withSpec, hrest, hunits]
    · rw [hs₁₀, trig_withSpec, hout, hside.1]
    · rw [hs₁₀, dens_withSpec, hout, hside.2]
    · rw [hs₁₀, rd_withSpec, rd_of_off (s := s₈) (by rw [hrest]), h₈.rd_eq (specSeq_word e), hnumber, hseq]
  -- the record and the trace that the spectrum completes
  exact ⟨out, hoseq.trans hseq, hchannel, hsize, h₁₀.later <|
    .ite (.ite (.trans h₁₂ <| .tally <| .specEmitTrace he <| .refl _ e s₁₂) h₁₂) h₁₁⟩

end Sys2Proof.Machine
end

section
/-! SUPPORT. The commands that compute a frame and that put a commit in force (06 R240, R243, R258, R259; 21 R636). -/

namespace Sys2Proof.Machine

variable {s s₀ u : State} {e : Nat}

/-! A computed frame. -/

/-- Reading the next two-pass frame back from HBM computes nothing. -/
theorem specPump_tally (he : e < 4) (s : State) : SpecKept Spec.tally e s (specPump e s) := by
  unfold specPump
  split
  · next fr rest r hready _ =>
    refine .ite ?_ (.refl _ e s)
    unfold specAsk
    refine .foldl (.withSpec he (.withSpec he (.refl _ e s) ?_) rfl) fun _ _ h => .offer h
    rw [Spec.tally, Spec.tally, hready]
    rfl
  · exact .refl _ e s

/-- The oldest frame has left the queue of those to be computed. -/
def frameTaken (e : Nat) (rest : List SpecFrame) (s : State) : State := withSpec e (fun x => { x with ready := rest }) s

theorem specOf_frameTaken (he : e < 4) (rest : List SpecFrame) (s : State) :
    specOf (frameTaken e rest s) e = { specOf s e with ready := rest } := specOf_withSpec he _ s

/-- A frame is computed by a core without a fault. -/
theorem exec_spectrumComputed (he : e < 4) (a b : Bool) {fr : SpecFrame} {rest : List SpecFrame}
    (hready : (specOf s e).ready = fr :: rest) (hbusy : (ustate s (specUnit e)).busy = true)
    (hphase : fr.run.set.big = true → fr.phase = 3) :
    ∃ (t : State) (o : SpecOut), exec (.spectrumComputed e a b false) s = .next t ∧ o.seq = (specOf s e).seq ∧ o.channel = e ∧
      o.size = fr.run.set.n ∧ SpecDone e o (frameTaken e rest s) t := by
  obtain ⟨o, hseq, hchannel, hsize, hdone⟩ := spectrumComputed_done he a b fr (frameTaken e rest s)
  have hdone := hdone.later (specPump_tally he _)
  set x := specPump e (spectrumComputed e a b fr (frameTaken e rest s))
  have hexec : exec (.spectrumComputed e a b false) s =
      if ustate x (specUnit e) = .draining ∧ (specOf x e).ready = [] then .next (specFinish e x) else .next x := by
    simp only [exec, execSpectrumComputed, hready]
    rw [if_pos ⟨hbusy, hphase⟩]
    rfl
  rw [specOf_frameTaken he] at hseq
  rw [hexec]
  split
  · exact ⟨_, o, rfl, hseq, hchannel, hsize, hdone.later (.tally <| .specFinish he <| .refl _ e x)⟩
  · exact ⟨_, o, rfl, hseq, hchannel, hsize, hdone⟩

/-! A core's fault. -/

theorem ustate_enterFault {n cause detail : Nat} (h : (ustate s n).live = true) :
    ustate (enterFault n cause detail s) n = .fault := by
  rw [ustate, enterFault, enterFaultW_unit n cause detail [] s h]

theorem ustate_enterFault_ne {n m cause detail : Nat} (h : m ≠ n) :
    ustate (enterFault n cause detail s) m = ustate s m := by
  rw [ustate, enterFault, enterFaultW_other n cause detail [] s h]
  rfl

theorem live_of_busy {x : UState} (h : x.busy = true) : x.live = true := by
  revert h
  cases x <;> decide

/-- A core's lasting fault takes the engine and the core, if it was live, to FAULT. -/
theorem specCoreFault_spec {k : Nat} (he : e < 4) (hk : k < 4) (hbusy : (ustate s (specUnit e)).busy = true) :
    RaisedData s (specCoreFault e k s) 0x0409 (specUnit e) [.u16 (4 * e + k)] ∧
      ustate (specCoreFault e k s) (specUnit e) = .fault ∧
      ((ustate s (fftUnit (4 * e + k))).live = true → ustate (specCoreFault e k s) (fftUnit (4 * e + k)) = .fault) := by
  have hne : specUnit e ≠ fftUnit (4 * e + k) := by
    rw [specUnit, fftUnit]
    omega
  unfold specCoreFault
  extract_lets core s₁ s₂
  have hs₂ : s₂ = enterFault (specUnit e) 11 0 (specDiscard e (enterFault core 11 0 s₁)) := rfl
  have h₁ : Reported eventOffs s s₁ := raise_reported _ _ _ _
  have hraised : RaisedData s s₁ 0x0409 (specUnit e) [.u16 (4 * e + k)] := raise_raisedData _ _ _ _
  clear_value s₁ s₂
  have h₂ := faultLasting_reported 0 core 0 0 0 [] s₂
  have hdiscard : ustate (specDiscard e (enterFault core 11 0 s₁)) (specUnit e) = ustate s (specUnit e) := by
    rw [specDiscard, ustate_withSpec, ustate_enterFault_ne hne, h₁.ustate_eq]
  have hon : Onward False False s₁ (faultLasting 0 core 0 0 0 [] s₂) := by
    rw [hs₂]
    exact .faultLasting <| .enterFault <| .specDiscard <| .enterFault <| .refl s₁
  refine ⟨hraised.onward hon, ?_, fun hlive => ?_⟩
  · rw [h₂.ustate_eq, hs₂]
    exact ustate_enterFault (by rw [hdiscard]; exact live_of_busy hbusy)
  · rw [h₂.ustate_eq, hs₂, ustate_enterFault_ne hne.symm, specDiscard, ustate_withSpec]
    exact ustate_enterFault (by rw [h₁.ustate_eq]; exact hlive)

/-! A commit takes effect. -/

/-- A swap of the banks leaves the engine otherwise as it was. -/
theorem bankSwap_spec (he : e < 4) (c : SpecSet) (s : State) :
    specOf (bankSwap e c s) e = { specOf s e with bank := 1 - (specOf s e).bank } ∧ (bankSwap e c s).units = s.units ∧
      rd (bankSwap e c s) .specStatus e 0 = rd s .specStatus e 0 := by
  unfold bankSwap winActive
  extract_lets s₁ s₂ s₃
  have h₃ : rd s₃ .specStatus e 0 = rd s .specStatus e 0 :=
    (rd_wr_ne _ _ (by rw [specStatus_off, specWinRef_off]; omega)).trans
      (rd_wr_ne _ _ (by rw [specStatus_off, specWinEnbw_off]; omega))
  have hengine : specOf s₁ e = { specOf s e with bank := 1 - (specOf s e).bank } := specOf_withSpec he _ s
  split
  · exact ⟨hengine, rfl, h₃⟩
  · exact ⟨hengine, rfl, h₃⟩

/-- From s to t commit c has taken effect at input sample q0 of engine e. -/
structure SpecApplied (e : Nat) (q0 : Int) (c : SpecCommit) (s t : State) : Prop where
  commit : (specOf t e).commit = none
  run : ∃ q, (specOf t e).run = some q ∧ q.set = c.set ∧ q.q0 = q0
  bank : (specOf t e).bank = if c.swap then 1 - (specOf s e).bank else (specOf s e).bank
  epoch : epochOf t (specUnit e) = epochOf s (specUnit e) + 1
  shown : getB t .specStatus e 0 0 = false
  gen : getF t .specStatus e 0 16 16 = (getF s .specStatus e 0 16 16 + 1) % 2 ^ 16
  raised : ∃ v ∈ t.events, v.code = 0x0402 ∧ v.unit = specUnit e

theorem specApply_applied (he : e < 4) (q0 : Int) (c : SpecCommit) (s : State) : SpecApplied e q0 c s (specApply e q0 c s) := by
  unfold specApply
  extract_lets s₁ gen s₂ x s₃ s₄
  obtain ⟨hengine₁, hunits₁, hstatus₁⟩ : specOf s₁ e =
      { specOf s e with bank := if c.swap then 1 - (specOf s e).bank else (specOf s e).bank } ∧ s₁.units = s.units ∧
        rd s₁ .specStatus e 0 = rd s .specStatus e 0 := by
    cases hswap : c.swap with
    | true =>
      rw [show s₁ = bankSwap e c.set s from if_pos hswap]
      exact bankSwap_spec he c.set s
    | false =>
      rw [show s₁ = s from if_neg (by rw [hswap]; exact Bool.false_ne_true)]
      exact ⟨rfl, rfl, rfl⟩
  have h₃ : SpecKept Spec.unsent e s₂ s₃ := .ite (.specFinish he <| .refl _ e s₂) (.refl _ e s₂)
  have hs₂ : s₂ = bumpEpoch (specUnit e) (setB .specStatus e 0 0 false (setF .specStatus e 0 16 16 gen s₁)) := rfl
  have hs₄ : s₄ = withSpec e (fun x => { x with
      commit := none, run := some (specRun s₃ e c.set q0), newFlags := Nat.lor x.newFlags 8 }) s₃ := rfl
  generalize hdata : [EvField.u16 gen, .u64 ((x.seq + x.begun.length + x.ready.length) % 2 ^ 48)] = data
  have hgen : gen = (getF s .specStatus e 0 16 16 + 1) % 2 ^ 16 := by rw [← getF_of_rd hstatus₁]
  clear_value s₄ s₃ x s₂ gen s₁
  have hr := raise_reported 0x0402 (specUnit e) data s₄
  have ht : specOf (raise 0x0402 (specUnit e) data s₄) e = { specOf s₃ e with
      commit := none, run := some (specRun s₃ e c.set q0), newFlags := Nat.lor (specOf s₃ e).newFlags 8 } := by
    rw [specOf_of_spec hr.spec, hs₄, specOf_withSpec he]
  have hstatus : rd (raise 0x0402 (specUnit e) data s₄) .specStatus e 0 = rd s₂ .specStatus e 0 := by
    rw [hr.rd_eq _ _ _ ((specStatus_word e).quiet he), hs₄, rd_withSpec, h₃.rd_eq (specStatus_word e)]
  refine ⟨by rw [ht], ⟨_, by rw [ht], rfl, rfl⟩, ?_, ?_, ?_, ?_, ?_⟩
  · have hengine : specOf s₂ e = specOf s₁ e := by rw [hs₂, specOf_bumpEpoch, specOf_setB, specOf_setF]
    rw [ht, show (specOf s₃ e).bank = _ from h₃.bank, hengine, hengine₁]
  · have hunits : s₄.units = s₂.units := by rw [hs₄]; exact h₃.units
    rw [hr.epochOf_eq, epochOf_of_units hunits, hs₂, epochOf_bumpEpoch, epochOf_setB, epochOf_setF, epochOf_of_units hunits₁]
  · rw [getB_of_rd hstatus, hs₂, getB_bumpEpoch, getB_setB _ _ _ _ _ _ (by decide)]
  · rw [getF_of_rd hstatus, hs₂, getF_bumpEpoch, setB, getF_setF_above _ _ _ _ _ _ _ _ _ (by decide) (by decide),
      getF_setF _ _ _ _ _ _ _ (by decide), hgen, Nat.mod_mod]
  · obtain ⟨new, hnew, v, hv, hcode, hunit⟩ := raise_raised 0x0402 (specUnit e) data s₄
    exact ⟨v, by rw [hnew]; exact List.mem_append_left _ hv, hcode, hunit⟩

end Sys2Proof.Machine
end

section
/-! SUPPORT. Commits and windows of a spectral engine, and the statement about its commands (06 R238, R240, R241, R243, R247, R257
to R260; log 22). -/

namespace Sys2Proof.Machine

variable {s u : State} {e : Nat}

/-! A frame start. -/

/-- The cycle of the frame start at input sample n has passed. -/
def specPassed (e : Nat) (n : Int) (s : State) : State := withSpec e (fun x => { x with judged := some n }) s

theorem specOf_specPassed (he : e < 4) (n : Int) (s : State) :
    specOf (specPassed e n s) e = { specOf s e with judged := some n } := specOf_withSpec he _ s

/-- A due commit takes effect at a frame start whose cycle has not passed. -/
theorem specJudge_due (he : e < 4) {n time : Int} {c : SpecCommit} (hc : (specOf s e).commit = some c)
    (hj : (specOf s e).judged ≠ some n) (hdue : specDue time c = true) :
    specJudge e n time s = specApply e n c (specPassed e n s) := by
  have hc' : (specOf (specPassed e n s) e).commit = some c := by rw [specOf_specPassed he, hc]
  rw [specPassed] at hc'
  simp only [specJudge, if_neg hj, hc', hdue, if_true]
  rfl

/-- No commit takes effect: only the frame start's cycle has passed. -/
theorem specJudge_still (he : e < 4) {n time : Int}
    (h : (specOf s e).judged = some n ∨ (specOf s e).commit.any (specDue time) = false) :
    specJudge e n time s = s ∧ (specOf s e).judged = some n ∨ specJudge e n time s = specPassed e n s := by
  by_cases hj : (specOf s e).judged = some n
  · exact .inl ⟨if_pos hj, hj⟩
  · refine .inr ?_
    have hany := h.resolve_left hj
    have hc' : (specOf (specPassed e n s) e).commit = (specOf s e).commit := by rw [specOf_specPassed he]
    rw [specPassed] at hc'
    simp only [specJudge, if_neg hj, hc']
    cases hc : (specOf s e).commit with
    | none => rfl
    | some c =>
      rw [hc] at hany
      exact if_neg (by rw [show specDue time c = false from hany]; exact Bool.false_ne_true)

/-! Captures. -/

/-- The commit that a capture of the staged set leaves pending. -/
def specPending (s : State) (e : Nat) (at_ : Option Nat) : SpecCommit :=
  { set := specStaged s e, at_ := at_, waits := winNew s e (specStaged s e),
    swap := winNew s e (specStaged s e) || (specStaged s e).win == 6 }

/-- What the capture of a set that passes the check leaves. -/
structure SpecCaptured (e : Nat) (at_ : Option Nat) (s t : State) : Prop where
  commit : (specOf t e).commit = some (specPending s e at_)
  shown : getB t .specStatus e 0 0 = true
  gen : winNew s e (specStaged s e) = true → (specOf t e).gen = some (specStaged s e) ∧ getB t .specStatus e 0 1 = true

theorem specCapture_captured (he : e < 4) (at_ : Option Nat) (h : specCheck s e (specStaged s e) false = none) :
    SpecCaptured e at_ s (specCapture e at_ s) := by
  obtain ⟨g, hg⟩ : ∃ g, specCapture e at_ s = withSpec e (fun x => { x with
      commit := some (specPending s e at_), gen := if winNew s e (specStaged s e) then some (specStaged s e) else x.gen })
      (setB .specStatus e 0 1 (winNew s e (specStaged s e) || g) (setB .specStatus e 0 0 true s)) :=
    ⟨_, by simp only [specCapture, h]; rfl⟩
  rw [hg]
  refine ⟨by rw [specOf_withSpec he], ?_, fun hnew => ⟨?_, ?_⟩⟩
  · rw [getB_withSpec, getB_setB_ne _ _ _ _ _ _ _ (by decide) (by decide), getB_setB _ _ _ _ _ _ (by decide)]
  · rw [specOf_withSpec he, hnew]
    rfl
  · rw [getB_withSpec, getB_setB _ _ _ _ _ _ (by decide), hnew, Bool.true_or]

/-- A set that fails the check is reported and shown, and the engines stay. -/
theorem specCapture_refused (he : e < 4) (at_ : Option Nat) {off : Nat}
    (h : specCheck s e (specStaged s e) false = some off) :
    (specCapture e at_ s).spec = s.spec ∧ getB (specCapture e at_ s) .specStatus e 0 2 = true ∧
      RaisedData s (specCapture e at_ s) 0x0403 (specUnit e) [.u32 off] := by
  have heq : specCapture e at_ s =
      raise 0x0403 (specUnit e) [.u32 off] (bump .specCount e 7 1 (setB .specStatus e 0 2 true s)) := by
    simp only [specCapture, h]
  rw [heq]
  have hr := raise_reported 0x0403 (specUnit e) [.u32 off] (bump .specCount e 7 1 (setB .specStatus e 0 2 true s))
  have hon : Onward False False s (bump .specCount e 7 1 (setB .specStatus e 0 2 true s)) := .bump <| .setB <| .refl s
  refine ⟨hr.spec, ?_, (raise_raisedData _ _ _ _).since hon⟩
  rw [getB_specStatus_reported he hr, getB_of_rd (rd_bump_ne _ _ ((specStatus_word e).ne_specCount 7))]
  exact getB_setB _ _ _ _ _ _ (by decide)

/-! Writes of SPEC_COMMIT. -/

theorem specCommitEff_next (e : Nat) (s : State) : (specCommitEff e 1 s).1 = specCapture e none s := rfl

theorem specCommitEff_cancel (e : Nat) (s : State) :
    (specCommitEff e 3 s).1 = withSpec e (fun x => { x with commit := none }) (setB .specStatus e 0 0 false s) := rfl

theorem specCommitEff_restart (e : Nat) (s : State) :
    (specCommitEff e 4 s).1 = withSpec e (fun x => { x with traceBreak := true }) s := rfl

theorem specCommitEff_atTime (h : ¬ (timeReg s .specCommitTime e * 2 ^ 24 < nowTotal s ∧
      specCheck s e (specStaged s e) false = none)) :
    (specCommitEff e 2 s).1 = specCapture e (some (timeReg s .specCommitTime e)) s := by
  have hmode : fld (2 : BitVec 32) 0 2 = 2 := rfl
  have hbreak : bit (2 : BitVec 32) 2 = false := rfl
  simp only [specCommitEff, hmode, hbreak, Bool.false_eq_true, if_false, if_neg h]

/-- A time that has passed is reported, and the commit takes effect at the next frame. -/
theorem specCommitEff_late (h : timeReg s .specCommitTime e * 2 ^ 24 < nowTotal s)
    (hcheck : specCheck s e (specStaged s e) false = none) :
    (specCommitEff e 2 s).1 = raise 0x0404 (specUnit e) [.time (mkStamp (timeReg s .specCommitTime e) 0)]
      (setB .specStatus e 0 3 true (specCapture e none s)) := by
  have hmode : fld (2 : BitVec 32) 0 2 = 2 := rfl
  have hbreak : bit (2 : BitVec 32) 2 = false := rfl
  simp only [specCommitEff, hmode, hbreak, Bool.false_eq_true, if_false, if_pos (And.intro h hcheck)]

/-- An open write of SPEC_COMMIT is its effect and then its audit entry. -/
theorem specCommitW_reported {ag : AgentId} {v : BitVec 32} {x : State} (hopen : WriteOpen s ag (Reg.off .specCommit e 0))
    (heff : (specCommitEff e v s).1 = x) : Reported eventOffs x (specCommitW ag e v s) := by
  rw [← heff]
  exact guardW_open v hopen

theorem SpecCaptured.reported {at_ : Option Nat} {t : State} (he : e < 4) (h : SpecCaptured e at_ s t)
    (hr : Reported eventOffs t u) : SpecCaptured e at_ s u :=
  ⟨by rw [specOf_of_spec hr.spec, h.commit], by rw [getB_specStatus_reported he hr, h.shown], fun hnew => by
    rw [specOf_of_spec hr.spec, getB_specStatus_reported he hr]
    exact h.gen hnew⟩

/-- A set that fails the check, and what an event or an audit entry leaves. -/
theorem specRefused_reported (he : e < 4) {at_ : Option Nat} {off : Nat} (hr : Reported eventOffs (specCapture e at_ s) u)
    (h : specCheck s e (specStaged s e) false = some off) : (specOf u e).commit = (specOf s e).commit ∧
      getB u .specStatus e 0 2 = true ∧ RaisedData s u 0x0403 (specUnit e) [.u32 off] := by
  obtain ⟨hspec, hshown, hraised⟩ := specCapture_refused he at_ h
  exact ⟨by rw [specOf_of_spec (hr.spec.trans hspec)], by rw [getB_specStatus_reported he hr, hshown],
    hraised.onward (P := False) (Q := False) hr.onward⟩

/-! Windows. -/

/-- Coefficients put into a bank stand at their keys. -/
theorem spGet_foldl_zipIdx (e b d : Nat) (m : List (Nat × Nat)) {l : List Nat} {k v : Nat} (h : l[k]? = some v) :
    spGet (l.zipIdx.foldl (fun m p => spPut m (winKey e b p.2) p.1 d) m) (winKey e b k) d = v := by
  induction l using List.reverseRecOn with
  | nil => cases h
  | append_singleton r a ih =>
    rw [List.zipIdx_append, List.foldl_append]
    by_cases hk : k < r.length
    · have hne : winKey e b k ≠ winKey e b r.length := by
        rw [winKey, winKey]
        omega
      rw [List.getElem?_append_left hk] at h
      simpa [spGet_spPut_ne _ _ _ _ hne] using ih h
    · obtain ⟨hlen, hget⟩ := List.getElem?_eq_some_iff.mp h
      have hkr : k = r.length := by
        rw [List.length_append, List.length_singleton] at hlen
        omega
      subst hkr
      simpa using hget

theorem exec_windowGenerationDone {c : SpecSet} (hg : (specOf s e).gen = some c) : exec (.windowGenerationDone e) s =
    .next (withSpec e (fun x => { x with gen := none, commit := x.commit.map fun p => { p with waits := false } })
      (winGenerate e c (setB .specStatus e 0 1 false s))) := by
  simp only [exec, execWindowGenerationDone, hg]

/-- The coefficient at the window address is written in the inactive bank, and the address moves on. -/
def winPut (e : Nat) (v : BitVec 32) (s : State) : State :=
  winStep e { s with
    winBank := spPut s.winBank (winKey e (1 - (specOf s e).bank) (getF s .specWinAddr e 0 0 16)) (fld v 0 17) 0 }

theorem winPut_spec (e : Nat) (v : BitVec 32) (s : State) :
    spGet (winPut e v s).winBank (winKey e (1 - (specOf s e).bank) (getF s .specWinAddr e 0 0 16)) 0 = fld v 0 17 ∧
      getF (winPut e v s) .specWinAddr e 0 0 16 = (getF s .specWinAddr e 0 0 16 + 1) % 65536 := by
  refine ⟨spGet_spPut_self _ _ _ _, ?_⟩
  rw [winPut, winStep, getF, rd_wr, fld_ofNat_low (by decide)]
  exact Nat.mod_mod _ _

/-- The effect of a write of WIN_DATA: log 22. -/
theorem winDataEff_free (v : BitVec 32) (h : (specOf s e).commit.any (fun c => c.waits || c.swap) = false) :
    winDataEff e v s = (winPut e v s, 0) := by
  simp only [winDataEff, h, Bool.false_eq_true, if_false]
  rfl

theorem winDataEff_claimed (v : BitVec 32) (h : (specOf s e).commit.any (fun c => c.waits || c.swap) = true) :
    winDataEff e v s = (s, 4) := if_pos h

/-! Input. -/

/-- The gap before an item, if it does not restart the engine, moves the input index. -/
theorem specLed_moved (he : e < 4) (i : Item) (s : State) :
    SpecMoved e ((if (itemGeneration i (specOf s e).ended).1 then 0 else missingItems (specOf s e).lastSeq i.seq : Nat) * 1024) s
      (specLed e i s) := by
  unfold specLed
  split
  · simpa using (specRestart_spec he s).1
  · simpa using SpecMoved.specGap he (.refl e s)

/-- A response in turn to a read that still misses others brings its bytes. -/
theorem specResponse_spec (he : e < 4) {i : Item} {w : Nat} (hwant : (specOf s e).want = w + 2)
    (htag : leNat (((wordsBytes (i.payload.take 8)).drop 16).take 4) = (specOf s e).tag)
    (hstatus : leNat (((wordsBytes (i.payload.take 8)).drop 1).take 1) = 0) :
    (specOf (specResponse e i s) e).want = w + 1 ∧ (specOf (specResponse e i s) e).got = (specOf s e).got ++
      (wordsBytes (i.payload.drop 8)).take (leNat (((wordsBytes (i.payload.take 8)).drop 4).take 4)) := by
  have hmine : ¬ ((specOf s e).want = 0 ∨ leNat (((wordsBytes (i.payload.take 8)).drop 16).take 4) ≠ (specOf s e).tag) := by
    rw [hwant, htag]
    simp
  have hmore : (specOf s e).want ≠ 1 := by omega
  simp only [specResponse, if_neg hmine, hstatus, true_or, if_true, if_neg hmore, specOf_withSpec he, and_true]
  omega

theorem specResponse_other {i : Item}
    (h : (specOf s e).want = 0 ∨ leNat (((wordsBytes (i.payload.take 8)).drop 16).take 4) ≠ (specOf s e).tag) :
    specResponse e i s = s := if_pos h

/-- Settles O28: a restart or the zeros of a gap come before an item's samples, and only samples move the input index; the work
on records and traces around a computed frame leaves the engine's number, its queue and the engines beside it alone; a commit
takes effect by a few changes that the trace closed before it and the report after it keep. -/
theorem spectralCommandsComplete : Obligations.SpectralCommandsComplete := by
  refine ⟨?item, ?response, ?none, ?computed, ?waiting, ?commit, ?apply, ?still, ?idle, ?early, ?window, ?noWindow, ?coef⟩
  case item =>
    intro s u e i he htake
    have hu := takeDelivered_spec htake
    have hx (m : Nat) : specOf u m = specOf s m := specOf_of_spec (by rw [hu]) m
    have hs : Onward False False s u := .takeDelivered (.refl s) htake
    have hexec : exec (.specInput e 0) s =
        .next (if ustate s (specUnit e) = .running then specInput e i u else refuseItem (24 + e) 0 s u) := by
      simp only [exec, execSpecInput, htake]
      rfl
    refine ⟨fun hrun => ?_, fun hrun => by rw [hexec, if_neg hrun]⟩
    obtain ⟨hlast, hpos, hother, hon⟩ := specInput_spec he i u
    have hled := specLed_moved he i u
    rw [specLed, hx] at hon
    refine ⟨_, hexec.trans (by rw [if_pos hrun]), hlast, ?_, fun hgen => ?_, fun hgen hm => ?_, fun m hm => ?_⟩
    · refine hpos.trans ?_
      rw [hled.pos, hx, Spec.pos]
      push_cast
      ring
    · rw [if_pos hgen] at hon
      obtain ⟨-, hr⟩ := specRestart_spec he u
      exact (hr.of_onward hs).onward hon
    · rw [if_neg (by simp [hgen])] at hon
      exact ((specGap_raised hm u).since hs).onward hon
    · rw [hother m hm, hled.other m hm, hx]
  case response =>
    intro s u e w i he htake
    have hu := takeDelivered_spec htake
    have hx : specOf u e = specOf s e := specOf_of_spec (by rw [hu]) e
    have hexec : exec (.specInput e 1) s = .next (if (ustate s (specUnit e)).busy then specResponse e i u else u) := by
      simp only [exec, execSpecInput, htake]
      rfl
    refine ⟨fun hbusy hwant htag hstatus => ?_, fun h => ?_⟩
    · rw [← hx] at hwant htag ⊢
      exact ⟨_, hexec.trans (by rw [if_pos hbusy]), specResponse_spec he hwant htag hstatus⟩
    · rw [hexec]
      rcases h with hbusy | hother
      · rw [hbusy]
        rfl
      · rw [specResponse_other (by rw [hx]; exact hother), ite_self]
  case none =>
    intro s e stream htake
    simp only [exec, execSpecInput, htake]
  case computed =>
    intro s e a b fr rest he hready hbusy hphase
    constructor
    · obtain ⟨t, o, hexec, hseq, hchannel, hsize, hdone⟩ := exec_spectrumComputed he a b hready hbusy hphase
      have htally := hdone.tally
      rw [specOf_frameTaken he] at htally
      refine ⟨t, hexec, congrArg Prod.fst htally, ?_, congrArg Prod.snd htally, fun hrun => ⟨o, ?_, hseq, hchannel, hsize⟩,
        fun hrun => ⟨o, ?_, hseq, hchannel, hsize⟩⟩
      · rw [hdone.number, specOf_frameTaken he]
      · have htrig := hdone.trig
        rw [specSide_trig, frameTaken, ustate_withSpec, if_pos hrun] at htrig
        rw [trigOf_of_trig htrig, trigOf_withTrig he]
        rfl
      · have hdens := hdone.dens
        rw [specSide_dens, frameTaken, ustate_withSpec, if_pos (show ustate s (densUnit e) = .running from hrun)] at hdens
        have h : densOf t e = _ := densOf_of_dens hdens e
        rw [densOf_withDens he] at h
        exact congrArg Dens.spectra h
    · have hexec : exec (.spectrumComputed e a b true) s = .next (specCoreFault e (fr.index % 4) s) := by
        simp only [exec, execSpectrumComputed, hready]
        exact if_pos ⟨hbusy, hphase⟩
      exact ⟨_, hexec, specCoreFault_spec he (Nat.mod_lt _ (by decide)) hbusy⟩
  case waiting =>
    intro s e a b f h
    simp only [exec, execSpectrumComputed]
    cases hready : (specOf s e).ready with
    | nil => rfl
    | cons fr rest =>
      refine if_neg fun ⟨hbusy, hphase⟩ => ?_
      rcases h with h | h | ⟨x, hx, hbig, hne⟩
      · exact absurd (hready.symm.trans h) (List.cons_ne_nil _ _)
      · exact absurd (hbusy.symm.trans h) (by decide)
      · rw [hready] at hx
        cases hx
        exact hne (hphase hbig)
  case commit =>
    intro s ag e he hopen
    refine ⟨fun hok => ?_, fun hok htime => ?_, fun hok htime => ?_, fun off hoff => ⟨?_, ?_⟩, ?_, ?_⟩
    · have h := (specCapture_captured he none hok).reported he
        (specCommitW_reported (v := 1) hopen (specCommitEff_next e s))
      exact ⟨_, rfl, h.shown, _, h.commit, rfl, rfl, rfl, h.gen⟩
    · have heff := specCommitEff_atTime (e := e) (s := s) fun h => absurd h.1 (by omega)
      have h := (specCapture_captured he _ hok).reported he (specCommitW_reported (v := 2) hopen heff)
      exact ⟨_, rfl, h.shown, _, h.commit, rfl, rfl⟩
    · have hr := specCommitW_reported (v := 2) hopen (specCommitEff_late htime hok)
      have hr' := raise_reported 0x0404 (specUnit e) [.time (mkStamp (timeReg s .specCommitTime e) 0)]
        (setB .specStatus e 0 3 true (specCapture e none s))
      have h := specCapture_captured he none hok
      have hon : Onward False False s (setB .specStatus e 0 3 true (specCapture e none s)) := .setB <| .specCapture <| .refl s
      refine ⟨_, rfl, ?_, ?_, ((raise_raisedData _ _ _ _).since hon).onward (P := False) (Q := False) hr.onward, ?_⟩
      · rw [getB_specStatus_reported he hr, getB_specStatus_reported he hr',
          getB_setB_ne _ _ _ _ _ _ _ (by decide) (by decide), h.shown]
      · rw [getB_specStatus_reported he hr, getB_specStatus_reported he hr', getB_setB _ _ _ _ _ _ (by decide)]
      · exact ⟨_, by rw [specOf_of_spec (hr.spec.trans hr'.spec), specOf_setB, h.commit], rfl, rfl⟩
    · have hr := specCommitW_reported (v := 1) hopen (specCommitEff_next e s)
      exact ⟨_, rfl, specRefused_reported he hr hoff⟩
    · have heff := specCommitEff_atTime (e := e) (s := s) fun h => absurd (hoff.symm.trans h.2) (by simp)
      exact ⟨_, rfl, specRefused_reported he (specCommitW_reported (v := 2) hopen heff) hoff⟩
    · have hr := specCommitW_reported (v := 3) hopen (specCommitEff_cancel e s)
      refine ⟨_, rfl, ?_, ?_⟩
      · rw [specOf_of_spec hr.spec, specOf_withSpec he]
      · rw [getB_specStatus_reported he hr, getB_withSpec, getB_setB _ _ _ _ _ _ (by decide)]
    · have hr := specCommitW_reported (v := 4) hopen (specCommitEff_restart e s)
      refine ⟨_, rfl, ?_⟩
      rw [specOf_of_spec hr.spec, specOf_withSpec he]
      exact ⟨rfl, rfl⟩
  case apply =>
    intro s e time c r he hrun hc hr hj hnext hdue
    have hexec : exec (.specCommitApply e time) s = .next (specApply e r.next c (specPassed e r.next s)) := by
      rw [← specJudge_due he hc hj hdue]
      simp only [exec, execSpecCommitApply, hr]
      exact if_pos ⟨hrun, hnext⟩
    have h := specApply_applied he r.next c (specPassed e r.next s)
    have hbank := h.bank
    rw [specOf_specPassed he] at hbank
    exact ⟨_, hexec, h.commit, h.run, hbank, h.epoch, h.shown, h.gen, h.raised⟩
  case still =>
    intro s e time r he hrun hr hnext h
    have hexec : exec (.specCommitApply e time) s = .next (specJudge e r.next ((time * 2 ^ 24 : Nat) : Int) s) := by
      simp only [exec, execSpecCommitApply, hr]
      exact if_pos ⟨hrun, hnext⟩
    refine ⟨_, hexec, ?_⟩
    rcases specJudge_still he h with ⟨ht, hj⟩ | ht
    · rw [ht]
      exact ⟨rfl, hj, rfl, hr⟩
    · rw [ht, specOf_specPassed he]
      exact ⟨rfl, rfl, rfl, hr⟩
  case idle =>
    intro s e time h
    simp only [exec, execSpecCommitApply]
    split
    next r hr => exact if_neg fun hx => h.elim (· hx.1) fun hnone => by simp [hnone] at hr
    next => rfl
  case early =>
    intro s e time r hr hnext
    simp only [exec, execSpecCommitApply, hr]
    exact if_neg fun h => hnext h.2
  case window =>
    intro s e c he hgen
    refine ⟨_, exec_windowGenerationDone hgen, ?_, ?_, ?_, ?_, fun k v _ hv => spGet_foldl_zipIdx _ _ _ _ hv⟩
    · rw [specOf_withSpec he]
    · rw [specOf_withSpec he]
      rfl
    · rw [specOf_withSpec he]
      rfl
    · exact getB_setB s .specStatus e 0 1 false (by decide)
  case noWindow =>
    intro s e hgen
    simp only [exec, execWindowGenerationDone, hgen]
  case coef =>
    intro s ag e v he hopen
    refine ⟨fun hfree => ?_, fun hclaimed hlog => ?_⟩
    · have ht : Reported eventOffs (winDataEff e v s).1 _ := guardW_open v hopen
      rw [winDataEff_free v hfree] at ht
      obtain ⟨hput, haddr⟩ := winPut_spec (s := s) e v
      exact ⟨_, rfl, by rw [ht.winBank, hput], by rw [getF_of_rd (ht.rd_eq _ _ _ ((specWinAddr_word e).quiet he)), haddr]⟩
    · have heff := winDataEff_claimed v hclaimed
      have hw : guardW ag (Reg.off .specWinData e 0) v (winDataEff e v) s = refuse ag (Reg.off .specWinData e 0) v 4 s := by
        rw [guardW_refused v hopen (by simp [heff]) (by simp [heff]) (by simp [heff]), heff]
      exact ⟨_, congrArg Host.Outcome.next hw, audit_audited 0x02 ag 4 _ v rfl hlog⟩

end Sys2Proof.Machine
end
